-- ==== Sys2Proof/Word.lean ====
section
/-! DEFINITION. The word types of the SN7716 and their plainest arithmetic. Register contents are natural numbers below two to
the width of the object's type (R426); octet strings are lists of bytes. -/

namespace Sys2Proof

/-- One octet (R5). -/
abbrev Byte := BitVec 8

/-- An octet string: the contents of a VIS, OCT or DOM object, a frame, a record (R426). -/
abbrev Octets := List Byte

/-- The two's complement bit pattern of an integer in `w` bits (R426). -/
def toPattern (w : Nat) (i : Int) : Nat := (i % (2 ^ w : Nat)).toNat

/-- The integer a `w`-bit two's complement pattern stands for (R426). -/
def ofPattern (w : Nat) (n : Nat) : Int :=
  if 2 * n < 2 ^ w then (n : Int) else (n : Int) - (2 ^ w : Nat)

/-- The bits `[lo + w - 1 : lo]` of a value (R6). -/
def field (n lo w : Nat) : Nat := n >>> lo % 2 ^ w

/-- A value with the bits `[lo + w - 1 : lo]` replaced (R6). -/
def setField (n lo w v : Nat) : Nat :=
  n - (field n lo w) * 2 ^ lo + (v % 2 ^ w) * 2 ^ lo

/-- A bit as the number 0 or 1. -/
def bitNat (b : Bool) : Nat := if b then 1 else 0

/-- An integer confined to a range. -/
def clampInt (lo hi i : Int) : Int := max lo (min hi i)

end Sys2Proof
end

