-- ==== Sys2Proof/Terms.lean ====
section
/-! DEFINITION. The terms the commands and the state speak of: the functions (R8, R21), the path a dictionary request takes
(R430, R432), and the names of a request's results. -/

namespace Sys2Proof

/-- The functions that run the state machine of R22, one constructor per block of R8 and an argument per instance. CLS and LDG
are one function, the event recorder and the performance counters are two (R21, R522); SEG's engines share one (R259). -/
inductive Fn where
  | wpu | psc | evf
  | cpt (n : Fin 32)
  | ipl (n : Fin 17)
  | stx
  | brd (n : Fin 4)
  | mre | cde | seg | cls | pfc | hrb | cq | sq | xq | dma | pcie
  | dmc (n : Fin 8)
  | fnp (n : Fin 2)
  | tbu | cal | bst | mon | pmc
  deriving DecidableEq, Repr

/-- The first index of the function's index block (R8, R21, R375, R454, R522). -/
def Fn.base : Fn → Nat
  | .wpu => 0x2000 | .psc => 0x2400 | .evf => 0x2800 | .cpt _ => 0x3000 | .ipl _ => 0x3400 | .stx => 0x3800
  | .brd _ => 0x3C00 | .mre => 0x4000 | .cde => 0x4400 | .seg => 0x4800 | .cls => 0x4C00 | .pfc => 0x5000
  | .hrb => 0x5400 | .cq => 0x5800 | .sq => 0x5800 | .xq => 0x5800 | .dma => 0x5800 | .pcie => 0x5800
  | .dmc _ => 0x5C00 | .fnp _ => 0x6000 | .tbu => 0x6000 | .cal => 0x6400 | .bst => 0x6800 | .mon => 0x6C00
  | .pmc => 0x7000

/-- The subindex of the function's common objects (R21, R375, R454). -/
def Fn.sub : Fn → Nat
  | .cpt n => n.val + 1 | .ipl n => n.val + 1 | .brd n => n.val + 1 | .dmc n => n.val + 1 | .fnp n => n.val + 1
  | .cq => 1 | .sq => 2 | .xq => 3 | .dma => 4 | .pcie => 5 | .tbu => 3
  | _ => 0

/-- The states of R22 by their codes in Function state (R21). -/
inductive FnState where
  | stopped | armed | running | draining | faulted
  deriving DecidableEq, Repr

/-- The code of a function state (R21). -/
def FnState.code : FnState → Nat
  | .stopped => 0 | .armed => 1 | .running => 2 | .draining => 3 | .faulted => 4

/-- The function state a code stands for (R21). -/
def FnState.ofCode : Nat → FnState
  | 0 => .stopped | 1 => .armed | 2 => .running | 3 => .draining | _ => .faulted

/-- The path a frame takes (R432, R438, R447): a field port with the sender's address and, inside DTLS, the association; or a
mailbox. -/
inductive Path where
  | net (port : Fin 2) (ip : BitVec 32) (udp : BitVec 16) (assoc : Option Nat)
  | mailbox (m : Fin 4)
  deriving DecidableEq, Repr

/-- What every dictionary request carries beside its own fields (R437, R438): its path, its session field and its sequence. -/
structure Req where
  path : Path
  session : BitVec 16
  seq : BitVec 16
  deriving DecidableEq, Repr

/-- The codes of R430, in check order, and success. -/
inductive Code where
  | ok | noSession | sequence | badOpcode | noObject | noSubindex | accessClass | noAccess | typeMismatch | wrongState
  | outOfRange | busy | noResources | authFailed | deviceError
  deriving DecidableEq, Repr

/-- The status field of a response (R430). -/
def Code.value : Code → Nat
  | .ok => 0x0000 | .noObject => 0x0001 | .noSubindex => 0x0002 | .accessClass => 0x0003 | .noAccess => 0x0004
  | .typeMismatch => 0x0005 | .wrongState => 0x0006 | .outOfRange => 0x0007 | .busy => 0x0008 | .sequence => 0x0009
  | .noSession => 0x000A | .noResources => 0x000B | .authFailed => 0x000C | .deviceError => 0x000D | .badOpcode => 0x000E

/-- A connection that discovery finds on a lane of a port's group (R90): the lane within the group, the device identity, the
connection number, and the rates the camera supports as bits by code (R116). -/
structure CxpConn where
  lane : Nat
  identity : Nat
  number : Nat
  rates : Nat
  deriving DecidableEq, Repr

/-- The lines of an encoder that carry a line-fault detector (R36). -/
inductive EncLine where
  | a | b | z
  deriving DecidableEq, Repr

/-- What TS2 tells of a Braid partner (R171, step 4). -/
structure BraidPartner where
  serial : BitVec 64
  node : BitVec 16
  port : BitVec 8
  role : BitVec 8
  base : BitVec 32
  width : BitVec 32
  blend : BitVec 16
  exchange : BitVec 16
  deriving DecidableEq, Repr

/-- A DDR5 module as its SPD describes it (R383, R404). -/
structure DramModule where
  gib : Nat
  ranks : Nat
  deviceWidth : Nat
  rate : Nat
  manufacturer : Nat
  part : Octets
  serial : Nat
  deriving DecidableEq, Repr

/-- A request to a DRAM channel (R389): the requester's priority, the device address, and the octets of a write from that address on
within its unit of 64 bytes; none for a read of the unit. -/
structure DramRequest where
  requester : Nat
  addr : Nat
  write : Option Octets
  aged : Bool
  deriving DecidableEq, Repr

/-- What a DRAM read meets (R391, R392): good data, an error corrected in the devices of a mask, an uncorrectable one. -/
inductive DramHealth where
  | good
  | corrected (devices : Nat)
  | uncorrectable
  deriving DecidableEq, Repr

/-- What a channel reads from host memory (R360, R363): a descriptor, copy data, a FENCE read-back. -/
inductive HostRead where
  | descriptor | data | fence
  deriving DecidableEq, Repr

/-- What the host sets for the device in PCI Express configuration space (R364, R368): the negotiated Max Payload Size, 128 shifted by up to 2;
the Max Read Request Size, 128 shifted by up to 5; whether the Completion Timeout has a value of range B in place of one of range A; and
whether it is disabled. -/
structure HostSetup where
  payload : Fin 3
  readRequest : Fin 6
  rangeB : Bool
  timeoutOff : Bool
  deriving DecidableEq, Repr

/-- Where the host reaches into the memory space of BAR0 or BAR2 (R370, R535): at the doorbell of a channel, or from an offset on. -/
inductive BarPlace where
  | doorbell (c : Fin 32)
  | bar0 (offset : BitVec 16)
  | bar2 (offset : BitVec 12)
  deriving DecidableEq, Repr

/-- What the host does there (R370, R535): it writes a 32-bit value, writes octets, or reads octets. -/
inductive BarAccess where
  | word (v : BitVec 32)
  | write (data : Octets)
  | read (length : Fin 4097)
  deriving DecidableEq, Repr

/-- What a Function control command is aimed at: the function, and whether a fault of it comes in the same cycle (R22, R25). -/
structure FnAim where
  fn : Fn
  met : Bool
  deriving DecidableEq, Repr

/-- A PCI Express link as it has trained: its speed as a generation and its lanes (R368). -/
structure PcieLink where
  speed : BitVec 8
  width : BitVec 8
  deriving DecidableEq, Repr

/-- What a PTP Announce says of a grandmaster, in the order in which the best master clock algorithm compares (R463): priority1, class,
accuracy, variance, priority2, identity, steps removed; then the UTC offset, timeTraceable and the time source. -/
structure PtpAnnounce where
  priority1 : Nat
  clockClass : Nat
  accuracy : Nat
  variance : Nat
  priority2 : Nat
  grandmaster : Nat
  steps : Nat
  utcOffset : Int
  traceable : Bool
  timeSource : Nat
  deriving DecidableEq, Repr

/-- The PTP messages that the port takes and sends (R463, R465). -/
inductive PtpKind where
  | sync | delayReq | pdelayReq | pdelayResp | followUp | delayResp | pdelayRespFollowUp
  | announce (a : PtpAnnounce)
  deriving DecidableEq, Repr

/-- A PTP message (R463): its kind, domain, sequence, the port identity of the sender (clock identity × 2^16 + port number), the
correction in 2^-16 ns, the two-step flag, the time stamp it carries in ns, and the port identity that a response answers. -/
structure PtpMessage where
  kind : PtpKind
  domain : Nat
  seq : Nat
  source : Nat
  correction : Int
  twoStep : Bool
  time : Nat
  requesting : Nat
  deriving DecidableEq, Repr

/-- The objects of a coefficient bank (R336): FIR coefficients, halfband coefficients, output gain. -/
inductive BankObject where
  | fir | halfband | gain
  deriving DecidableEq, Repr

/-- How a self-test slice ends (R510): passed; with a march failure confined to a row or a column of a RAM; with another failure in a RAM. -/
inductive SliceEnd where
  | passed
  | march (ram : Nat) (isRow : Bool) (place : Nat)
  | other (ram : Nat)
  deriving DecidableEq, Repr

/-- The protected memories of the blocks (R80, R113, R149, R185, R230, R255, R287, R313, R340, R344, R377, R402, R420, R472, R494, R518, R536)
and the object store (R430). `segPool` names the blobs of which the context is corrupted, `queue` the packet and the word in it. -/
inductive EccPart where
  | pscTable
  | cptBuffer (n : Fin 32)
  | iplTable (p : Fin 17)
  | iplBuffer (p : Fin 17)
  | stxStore
  | brdBuffer (n : Fin 4)
  | mreField
  | mreBuffer
  | cdeBuffer
  | segEngine (e : Fin 36)
  | segPool (lost : List Nat)
  | clsTable
  | clsFifo
  | pfcState
  | pfcBank
  | queue (q : Fin 3) (packet word : Nat)
  | dmaStaging
  | hrbStaging
  | dmcBuffer (n : Fin 8)
  | evfRecord (c : Fin 256)
  | fnpBuffer (n : Fin 2)
  | tbuSettings
  | calAccum
  | bstPattern
  | monRam
  | pmcCounters
  | objectStore (ix : BitVec 16) (sub : BitVec 8)
  deriving DecidableEq, Repr

end Sys2Proof
end

