-- ==== Sys2Proof/Syntax.lean ====
section
/-! DEFINITION. The commands of the SN7716: one constructor per row of spec/opcode_table.json, in the table's order. -/

namespace Sys2Proof

/-- The commands (the rows of the table of operations and events). -/
inductive Instr where
  /-- `ARM` (R22): Function control ARM checks the settings and dependencies and moves a Stopped function to Armed, locking its RWS objects. -/
  | arm (r : Req) (f : FnAim) (trains : Bool)
  /-- `START` (R22): Function control START sets START_PENDING on an Armed function, which then waits for its start point. -/
  | start (r : Req) (f : FnAim)
  /-- `STOP` (R22): Function control STOP moves a Running function to Draining, or cancels a pending START in Armed. -/
  | stop (r : Req) (f : FnAim)
  /-- `ABORT` (R22): Function control ABORT moves a Running function to Draining as if the drain timeout had expired, or truncates a drain in progress. -/
  | abort (r : Req) (f : FnAim)
  /-- `DISARM` (R22): Function control DISARM returns an Armed function to Stopped and unlocks its RWS objects. -/
  | disarm (r : Req) (f : FnAim)
  /-- `CLEAR` (R22): Function control CLEAR returns a Faulted function to Stopped. -/
  | clear (r : Req) (f : FnAim)
  /-- `DRAIN_COMPLETE` (R22): A Draining function completes its remaining work and enters Stopped. -/
  | drainComplete (f : Fn)
  /-- `DRAIN_TIMEOUT` (R24): The drain timeout expires in TBU time; the remaining work is truncated and DRAIN_TIMEOUT sets. -/
  | drainTimeout (f : Fn)
  /-- `START_POINT_REACHED` (R23): An Armed function with START pending reaches its start point and enters Running. -/
  | startPointReached (f : Fn) (line : Nat)
  /-- `WRITE` (R427): VDP or mailbox WRITE of an object without a row of its own, taking effect per its access class. -/
  | write (r : Req) (ix : BitVec 16) (sub : BitVec 8) (value : Octets)
  /-- `UNCORRECTABLE_ERROR` (R504): An uncorrectable ECC or parity error is detected in a block's RAM and escalated as a unit or function fault. -/
  | uncorrectableError (part : EccPart) (address : BitVec 32)
  /-- `CORRECTED_ERROR` (R504): A single-bit error is corrected; the block's corrected count increments and ECC_CORRECTED sets. -/
  | correctedError (part : EccPart)
  /-- `ENCODER_TRANSITION` (R595): A filtered sample in which A or B of an encoder changes is decoded into counts and may move P and LP. -/
  | encoderTransition (dt : Nat) (n : Fin 4) (a b : Bool)
  /-- `LINE_FAULT` (R36): An RS-422 line stays below 200 mV for over 1 µs; line fault flags set and WPU may fault. -/
  | lineFault (n : Fin 4) (line : EncLine)
  /-- `ENCODER_INDEX` (R37): A rising Z transition latches Index LP and time and increments the index count. -/
  | encoderIndex (dt : Nat) (n : Fin 4)
  /-- `SERIAL_POLL` (R38): The serial poll interval expires and WPU clocks a frame from the absolute encoder. -/
  | serialPoll (n : Fin 2)
  /-- `SERIAL_FRAME` (R39): A serial frame check completes and a good reading adds its signed difference to the count. -/
  | serialFrame (dt : Nat) (n : Fin 2) (word : BitVec 40) (crc : BitVec 6) (errBit warnBit : Bool)
  /-- `SERIAL_FRAME_TIMEOUT` (R40): No start bit arrives within the frame timeout; the frame counts as bad. -/
  | serialFrameTimeout (n : Fin 2)
  /-- `SPEED_DECAY` (R53): Elapsed cycles exceed the averaged period and the reported speed is limited toward zero. -/
  | speedDecay (dt : Nat)
  /-- `STANDSTILL` (R54): No change of P within the standstill timeout; standstill is reported and WPU_STANDSTILL sent. -/
  | standstill (dt : Nat)
  /-- `LP_PRESET` (R47): LP preset command loads LP from the preset value and clears the accumulator while WPU is Stopped. -/
  | lpPreset (r : Req) (value : BitVec 8)
  /-- `COUNTS_PER_LINE_WRITE` (R44): A write of Counts per line keeps LP, clears the accumulator and empties the speed buffer. -/
  | countsPerLineWrite (r : Req) (value : BitVec 64)
  /-- `POSITION_SOURCE_WRITE` (R42): A write of Position source sets P to the new source's raw count without travel. -/
  | positionSourceWrite (r : Req) (value : BitVec 8)
  /-- `ENCODER_MODE_WRITE` (R35): A write of the encoder or serial mode clears the QERR window and resets P for the selected source. -/
  | encoderModeWrite (r : Req) (source : Fin 6) (value : BitVec 8)
  /-- `SPACING_COMPARE_WRITE` (R58): A write to Spacing compare takes effect next cycle and is evaluated once in either direction. -/
  | spacingCompareWrite (r : Req) (n : Fin 24) (value : BitVec 64)
  /-- `PROBE_EDGE` (R60): A selected edge on a probe input latches LP and time with the filter delay removed. -/
  | probeEdge (dt : Nat) (n : Fin 8) (rising : Bool)
  /-- `PROBE_RECORD_OFFER` (R62): XQ arbitration serves WPU and the oldest probe record is pushed or discarded. -/
  | probeRecordOffer (n : Fin 8)
  /-- `SCHEDULE_REQUEST` (R69): A Schedule request is checked and stored as a PSC entry or refused. -/
  | scheduleRequest (r : Req) (target : BitVec 64) (action tag : BitVec 32)
  /-- `CANCEL_TAG` (R72): Cancel tag removes every pending entry with that tag, or sets CANCEL_MISS. -/
  | cancelTag (r : Req) (tag : BitVec 32)
  /-- `PULSE_WIDTH_END` (R74): A time-mode pulse ends after its pulse width in CLK_POS cycles. -/
  | pulseWidthEnd (n : Fin 48)
  /-- `WIDTH_CAP` (R74): The width cap ends a pulse and sets CAP. -/
  | widthCap (n : Fin 48)
  /-- `FORCE` (R77): A write of Force drives or releases the pin independently of shaping. -/
  | force (r : Req) (n : Fin 48) (value : BitVec 8)
  /-- `DISCOVERY_ATTEMPT` (R90): A discovery attempt probes the port's lanes, reads bootstrap registers and starts training. -/
  | discoveryAttempt (n : Fin 32) (conns : List CxpConn)
  /-- `LINK_UP` (R90): Training locks and deskews the group; the CXP link is up and CPTn_LINK_UP is sent. -/
  | linkUp (n : Fin 32) (skew : Nat)
  /-- `TRAINING_FAIL` (R91): A CXP link training fails; a first failure schedules the retry, a second returns to discovery. -/
  | trainingFail (n : Fin 32)
  /-- `TRAINING_RETRY` (R91): The 10 ms training back-off expires and the single retry begins. -/
  | trainingRetry (n : Fin 32)
  /-- `LANE_LOCK_LOSS` (R92): A lane stays out of lock for over 1 µs and the CXP link is lost. -/
  | laneLockLoss (n : Fin 32)
  /-- `HEARTBEAT` (R92): A heartbeat from the camera restarts the heartbeat supervision. -/
  | heartbeat (n : Fin 32)
  /-- `HEARTBEAT_TIMEOUT` (R92): No heartbeat arrives within the timeout and the link is lost. -/
  | heartbeatTimeout (n : Fin 32)
  /-- `TAG_EXPIRED` (R99): A pending tag older than the tag timeout is retired as EXPIRED. -/
  | tagExpired (dt : Nat) (n : Fin 32)
  /-- `TRIGGER_PACKET_FALL` (R95): After the trigger packet width the falling-edge trigger packet is sent. -/
  | triggerPacketFall (n : Fin 32)
  /-- `FRAME_START` (R98): A camera frame starts and is bound to the strip of the head tag, or puts the port out of step. -/
  | frameStart (dt : Nat) (n : Fin 32)
  /-- `LINE_FIRST_PACKET` (R107): A line's first packet takes a buffer slot at its pipeline. -/
  | lineFirstPacket (dt : Nat) (n : Fin 32)
  /-- `LINE_COMPLETE` (R98): A completed camera line is paired with the oldest pending tag and sent to IPL as a line or marker. -/
  | lineComplete (dt : Nat) (n : Fin 32) (extra crcError frameEnd : Bool) (header xSize : Nat) (samples : List (BitVec 16))
  /-- `FRAME_END` (R104): A camera frame ends; a frame ending before the strip closes it short. -/
  | frameEnd (dt : Nat) (n : Fin 32)
  /-- `CONTROL_REQUEST` (R108): A write of Control request sends one control command to the camera. -/
  | controlRequest (r : Req) (n : Fin 32) (value : Octets)
  /-- `CONTROL_RESPONSE` (R109): The camera's control acknowledgement is stored in Control response. -/
  | controlResponse (n : Fin 32) (ack : BitVec 8) (data : Octets)
  /-- `CONTROL_TIMEOUT` (R111): An unanswered control request ends with status 3. -/
  | controlTimeout (n : Fin 32)
  /-- `CAMERA_EVENT` (R110): An event packet from the camera is counted, stored and sends CPTn_CAM_EVENT. -/
  | cameraEvent (n : Fin 32) (packet : Octets)
  /-- `RECONNECT_TIMEOUT` (R113): The link stays lost for the reconnect timeout and the port faults. -/
  | reconnectTimeout (n : Fin 32)
  /-- `RESUME` (R115): A write of Resume allows triggering to restart at the next strip boundary after link-up. -/
  | resume (r : Req) (n : Fin 32) (value : BitVec 8)
  /-- `STRIP_LENGTH_WRITE` (R103): A write of Strip length is accepted only while every strip-framing function is Stopped. -/
  | stripLengthWrite (r : Req) (value : BitVec 32)
  /-- `IPL_INPUT` (R122): A pipeline takes a camera line, marker or strip-close record and passes it through its stages. -/
  | iplInput (m : Fin 16) (differs : Bool)
  /-- `SPARE_TARGET` (R144): A write of Spare target names a pipeline for IPL16 to load and shadow. -/
  | spareTarget (r : Req) (value : BitVec 8)
  /-- `SPARE_LOADED` (R144): The spare finishes loading the target's settings and banks. -/
  | spareLoaded (micros : Nat)
  /-- `TAKE_OVER` (R144): Spare command TAKE_OVER requests take-over at the next eligible strip boundary. -/
  | takeOver (r : Req)
  /-- `HAND_BACK` (R144): Spare command HAND_BACK restarts the pipeline, which loads and shadows the spare. -/
  | handBack (r : Req)
  /-- `RELEASE` (R144): Spare command RELEASE returns the spare to idle from loading or shadow. -/
  | release (r : Req)
  /-- `STITCHED_LINE` (R159): STX forms stitched line L once every included camera delivered line L+1, aligning and blending. -/
  | stitchedLine
  /-- `LINE_WAIT` (R159): A camera or neighbour lags by the line wait; the line is formed with it missing. -/
  | lineWait
  /-- `BRAID_TRAINING_COMPLETE` (R171): Braid training ends with a chosen preset and the link up, or with failure. -/
  | braidTrainingComplete (n : Fin 4) (partner : BraidPartner) (reports : Vector (BitVec 8) 8) (eye : BitVec 16) (laneMap taps skew : Vector Byte 8) (micros : Nat)
  /-- `BRAID_TRAINING_TIMEOUT` (R173): A Braid training attempt exceeds 5 ms and fails. -/
  | braidTrainingTimeout (n : Fin 4)
  /-- `BRAID_TRAINING_RETRY` (R173): The 10 ms back-off expires and the single Braid training retry begins. -/
  | braidTrainingRetry (n : Fin 4)
  /-- `RETRAIN_INTERVAL` (R173): The retrain interval expires on a down link and a new training begins. -/
  | retrainInterval (n : Fin 4)
  /-- `BRAID_CLOCK_LOSS` (R174): The clock lane is lost for over 1 µs; CLOCK_LOSS sets and retraining starts. -/
  | braidClockLoss (n : Fin 4)
  /-- `BRAID_EYE_TRACKING` (R174): A lane moves its sampling delay one tap to follow its eye edges. -/
  | braidEyeTracking (n : Fin 4) (lane : Fin 8) (up : Bool)
  /-- `FLIT_RECEIVE` (R176): A received flit is checked by CRC and sequence, accepted or NAKed. -/
  | flitReceive (n : Fin 4) (flit : Vector Byte 80)
  /-- `NAK` (R176): A received NAK makes the transmitter resend every flit after the acknowledged sequence. -/
  | nak (n : Fin 4) (ack : BitVec 12)
  /-- `ACK_TIMEOUT` (R176): No acknowledgement advances within the Ack timeout; unacknowledged flits are replayed. -/
  | ackTimeout (n : Fin 4)
  /-- `OVERLAP_MESSAGE` (R178): An overlap message from the neighbour is matched to the local stitched line by LP. -/
  | overlapMessage (n : Fin 4)
  /-- `REJOIN` (R182): A rejoin message names the strip at which the seam returns to stitched operation. -/
  | rejoin (n : Fin 4)
  /-- `BLOB_EDGE_SUMMARY` (R275): A blob-edge summary from a Braid neighbour is matched and its MERGE and PARTIAL events taken. -/
  | blobEdgeSummary (n : Fin 4)
  /-- `PAGE_SUBMIT` (R196): Page submit queues one master page or is refused. -/
  | pageSubmit (r : Req) (value : Octets)
  /-- `MASTER_LOAD_START` (R197): A queued page that fits in the master region starts loading over DMA channel 31. -/
  | masterLoadStart
  /-- `MASTER_LOAD_COMPLETE` (R197): A page load completes and its header is checked; the page becomes ready or failed. -/
  | masterLoadComplete (image : Octets) (dmaError : Bool)
  /-- `LOAD_TIMEOUT` (R197): A load not complete within the load timeout of its transfer start fails. -/
  | loadTimeout
  /-- `QUEUE_FLUSH` (R199): Queue command FLUSH discards every page that is not bound. -/
  | queueFlush (r : Req)
  /-- `MAP_RESET` (R199): Queue command MAP_RESET clears the page map at the next page start. -/
  | mapReset (r : Req)
  /-- `RELOCK` (R199): Queue command RELOCK returns the binder to acquiring. -/
  | relock (r : Req)
  /-- `RENUMBER` (R199): Queue command RENUMBER clears the last submitted and bound page numbers. -/
  | renumber (r : Req)
  /-- `PAGE_MARK` (R203): MRE classifies a mark record as REPEAT, ACCEPT or EXTRA. -/
  | pageMark
  /-- `MARK_EXPIRY` (R204): A stitched line passes the mark window with no accepted mark. -/
  | markExpiry
  /-- `JOB_SUBMIT` (R245): Job submit queues one host CDE job or is refused. -/
  | jobSubmit (r : Req) (value : Octets)
  /-- `LANE_DISPATCH` (R244): A free CDE lane takes the next MRE tile, crop block or host job block or slice. -/
  | laneDispatch (lane : Fin 20)
  /-- `BLOCK_COMPLETE` (R243): A CDE lane finishes a block or slice and releases its data. -/
  | blockComplete (lane : Fin 20)
  /-- `JOB_CANCEL` (R254): Job cancel ends every queued host job with that tag with status 5. -/
  | jobCancel (r : Req) (tag : BitVec 32)
  /-- `BLOB_RECORD_ENQUEUE` (R270): A closed blob's record enters the FIFO to CLS when room exists and its context frees. -/
  | blobRecordEnqueue
  /-- `IDLE_CLOSE` (R273): No line for the idle close timeout; open blobs close with STANDSTILL. -/
  | idleClose
  /-- `PARTIAL_WAIT` (R277): An announced PARTIAL has not arrived within the partial wait; the owner reports SPLIT. -/
  | partialWait
  /-- `SEG_SPARE_TARGET` (R283): A write of a SEG spare's target names a logical segment to load and shadow. -/
  | segSpareTarget (r : Req) (i : Fin 4) (value : BitVec 8)
  /-- `SEG_SPARE_LOADED` (R283): A spare engine finishes loading its segment's column range. -/
  | segSpareLoaded (i : Fin 4)
  /-- `SEG_SPARE_TAKE_OVER` (R283): Spare command TAKE_OVER for a spare engine. -/
  | segSpareTakeOver (r : Req) (i : Fin 4)
  /-- `SEG_SPARE_HAND_BACK` (R283): Spare command HAND_BACK for a spare engine. -/
  | segSpareHandBack (r : Req) (i : Fin 4)
  /-- `SEG_SPARE_RELEASE` (R283): Spare command RELEASE returns a spare engine to idle. -/
  | segSpareRelease (r : Req) (i : Fin 4)
  /-- `ENGINE_CLEAR` (R285): Engine command CLEAR returns a faulted engine to idle. -/
  | engineClear (r : Req) (e : Fin 36)
  /-- `CLS_INPUT` (R296): CLS takes one input and classifies it, requesting ledger, crop, mark and alert actions. -/
  | clsInput
  /-- `LEDGER_LOOKUP` (R305): A ledger bucket read completes and the entry is updated and written back. -/
  | ledgerLookup
  /-- `CRUMB_PUSH` (R302): CLS pushes a Crumb to CQ once there is room for the whole packet. -/
  | crumbPush
  /-- `LEDGER_CLEAR` (R310): Ledger command CLEAR starts a sweep writing every bucket empty. -/
  | ledgerClear (r : Req) (value : BitVec 8)
  /-- `LEDGER_SWEEP_STEP` (R310): Every 64 cycles the sweep writes one bucket empty and ends after the last. -/
  | ledgerSweepStep
  /-- `PFC_OUTPUT` (R321): PFC forms a decimated profile output for every bin and runs baseline, thresholds and streaks. -/
  | pfcOutput
  /-- `STREAK_EVENT_ENQUEUE` (R332): An ended streak's event enters the FIFO to CLS when room exists. -/
  | streakEventEnqueue
  /-- `SWAP_REQUEST` (R337): Swap request 1 asks for a bank swap, waiting if a fade runs. -/
  | swapRequest (r : Req)
  /-- `SWAP_CANCEL` (R338): Swap request 2 cancels a waiting swap request. -/
  | swapCancel (r : Req)
  /-- `BANK_WRITE` (R336): A write into the stopped coefficient bank makes it unsettled. -/
  | bankWrite (r : Req) (object : BankObject) (bank : Fin 2) (value : Octets)
  /-- `LOSS_RECORD` (R348): A Running SQ or XQ with 4 free words pushes its loss record. -/
  | lossRecord (q : Fin 3)
  /-- `QUEUE_FLAGS_READ` (R350): A read of queue flags returns and clears HIGH_SEEN, LOW_SEEN, LOST and POISON. -/
  | queueFlagsRead (r : Req) (q : Fin 3)
  /-- `DOORBELL` (R358): A producer index write posts descriptors to a DMA channel. -/
  | doorbell (place : BarPlace) (access : BarAccess)
  /-- `DESCRIPTOR_FETCH` (R358): A descriptor read from the host ring completes and is checked. -/
  | descriptorFetch (c : Fin 32) (desc : Vector Byte 32) (ok : Bool)
  /-- `FETCH_RETRY` (R360): The 10 µs back-off expires and a failed host read is retried once. -/
  | fetchRetry (c : Fin 32) (data : Octets) (ok : Bool)
  /-- `DMA_PACKET` (R361): A stream channel pops a whole packet and writes it into its open Tray, opening one if needed. -/
  | dmaPacket (c : Fin 32)
  /-- `CLOSE_TIMEOUT` (R361): The close timeout runs out and the open Tray closes with reason TIMEOUT. -/
  | closeTimeout (c : Fin 32)
  /-- `DESCRIPTOR_COMPLETE` (R363): A descriptor's last write leaves the engine and it completes, raising its vector. -/
  | descriptorComplete (c : Fin 32) (data : Octets) (ok : Bool)
  /-- `FENCE_READ` (R363): The FENCE read-back returns and the descriptor's status may be written. -/
  | fenceRead (c : Fin 32) (ok : Bool)
  /-- `PAUSE` (R365): Channel command PAUSE stops fetches and pops after writing held data. -/
  | pause (r : Req) (c : Fin 32)
  /-- `CHANNEL_RESUME` (R365): Channel command RESUME continues a paused channel with the same Tray. -/
  | channelResume (r : Req) (c : Fin 32)
  /-- `FLUSH` (R365): Channel command FLUSH closes the open Tray with reason FLUSH. -/
  | flush (r : Req) (c : Fin 32)
  /-- `WRITE_FAIL` (R366): A write reported failed by PCIE marks the descriptor BAD and its records lost. -/
  | writeFail (c : Fin 32)
  /-- `SHADOW_ARM` (R367): A write of Shadow arm arms or disarms the ring hand-over. -/
  | shadowArm (r : Req) (c : Fin 32) (value : BitVec 8) (inHandOver : Bool)
  /-- `CROP_CUT` (R354): Once the ring holds a crop's last line HRB cuts it and sends it for compression. -/
  | cropCut
  /-- `CROP_BLOCK_ENCODED` (R354): CDE finishes encoding one block of a crop. -/
  | cropBlockEncoded
  /-- `CROP_DELIVER` (R355): After its Crumb has left, a crop goes to its DMA channel. -/
  | cropDeliver
  /-- `FUNCTION_LEVEL_RESET` (R374): An FLR ends every DMA channel as ABORT and clears doorbells and shadow rings. -/
  | functionLevelReset
  /-- `PCIE_LINK_DOWN` (R374): Loss of the PCIe link faults PCIE and pauses the DMA channels. -/
  | pcieLinkDown
  /-- `BUS_MASTER_DISABLE` (R374): Clearing Bus Master Enable makes the channels act as paused. -/
  | busMasterDisable
  /-- `BAR4_READ` (R372): A BAR4 read returns DRAM data, or all ones, setting WINDOW_POISON on poison. -/
  | bar4Read (offset : BitVec 28) (length : Fin 4097)
  /-- `BAR4_WRITE` (R372): A BAR4 write reaches DRAM only with the window enabled in SERVICE. -/
  | bar4Write (offset : BitVec 28) (data : Octets)
  /-- `DRAM_ACCESS` (R389): A DRAM channel accepts and performs a read or write by priority. -/
  | dramAccess (arrivals : List DramRequest) (n : Fin 8) (health : DramHealth)
  /-- `REQUEST_AGING` (R389): A request waiting 4 µs is raised to priority 2. -/
  | requestAging (k : Nat)
  /-- `DRAM_READ_RETRY` (R392): After 1 µs an uncorrectable read is retried; success is transient, failure lasting. -/
  | dramReadRetry (n : Fin 8) (health : DramHealth)
  /-- `RDIMM_ALERT` (R392): The RDIMM signals ALERT_n and the command is retried. -/
  | rdimmAlert (n : Fin 8) (request : DramRequest) (health : DramHealth)
  /-- `SCRUB_PASS` (R391): The scrub interval expires and a new scrub pass begins. -/
  | scrubPass (corrected : List (Nat × Nat)) (recovered failed : List Nat)
  /-- `REFRESH` (R395): The refresh interval expires and a refresh command is issued. -/
  | refresh (n : Fin 8)
  /-- `TEMPERATURE_POLL` (R395): DMC reads MR4 and sets the refresh band. -/
  | temperaturePoll (n : Fin 8) (band : Fin 3)
  /-- `EYE_TRACKING` (R396): The tracking interval expires and lane eye edges are measured and stepped. -/
  | eyeTracking (n : Fin 8) (margin : BitVec 16) (moves : List (Fin 160 × Bool))
  /-- `RETRAIN_COMPLETE` (R397): A retraining attempt ends, putting a setting in force or failing. -/
  | retrainComplete (n : Fin 8) (setting : Option (Vector Byte 160))
  /-- `RETRAIN_RETRY` (R397): The 10 ms back-off expires and the retraining is retried once. -/
  | retrainRetry (n : Fin 8)
  /-- `ERROR_INJECTION` (R405): Error injection arms an error for the next read of a unit. -/
  | errorInjection (r : Req) (value : Octets)
  /-- `FIRE` (R411): A write of 1 to a channel's Fire fires the channel with the live LP. -/
  | fire (r : Req) (c : Fin 256)
  /-- `TASK_BUSY_END` (R409): A task's busy time runs out and it can take activations again. -/
  | taskBusyEnd (task : Fin 73)
  /-- `CROSSING_EXIT` (R407): An event from another domain leaves its crossing slot and reaches EVF. -/
  | crossingExit (code : BitVec 16)
  /-- `VECTOR_HOLDOFF` (R412): At the end of a µs a held channel vector sends its MSI-X message. -/
  | vectorHoldoff (vector : Fin 128)
  /-- `CLAIM_OPEN` (R414): Claim 1 claims an unowned channel as Open. -/
  | claimOpen (r : Req) (c : Fin 256)
  /-- `CLAIM_SECURE` (R414): Claim 2 claims an unowned channel as Secure. -/
  | claimSecure (r : Req) (c : Fin 256)
  /-- `CLAIM_RELEASE` (R414): Claim 3 releases and disables the owner's channel. -/
  | claimRelease (r : Req) (c : Fin 256)
  /-- `CHANNEL_ENABLE` (R416): A write of Enable checks for loops and enables or disables the channel. -/
  | channelEnable (r : Req) (c : Fin 256) (value : BitVec 8)
  /-- `OPEN` (R432): OPEN opens a session at a requested level. -/
  | openCmd (path : Path) (seq : BitVec 16) (level : BitVec 8) (name : Octets)
  /-- `CLOSE` (R436): CLOSE ends the session. -/
  | close (r : Req)
  /-- `KEEPALIVE` (R439): KEEPALIVE returns live LP and time stamp and keeps the session alive. -/
  | keepalive (r : Req)
  /-- `AUTH_CHALLENGE` (R449): AUTH step 1 returns a 48-byte challenge. -/
  | authChallenge (r : Req)
  /-- `AUTH_RESPONSE` (R449): AUTH step 2 checks chain and signature and raises the mailbox session level. -/
  | authResponse (r : Req) (level : BitVec 8) (chain signature : Octets)
  /-- `READ` (R431): READ returns one object's whole value. -/
  | read (r : Req) (group : BitVec 8) (ix : BitVec 16) (sub : BitVec 8)
  /-- `DOM_READ` (R441): DOM_READ opens a read transfer over a snapshot of a domain. -/
  | domRead (r : Req) (ix : BitVec 16) (sub : BitVec 8)
  /-- `DOM_WRITE` (R442): DOM_WRITE opens a write transfer of a stated total length. -/
  | domWrite (r : Req) (ix : BitVec 16) (sub : BitVec 8) (total : BitVec 32)
  /-- `SEGMENT_READ` (R441): SEGMENT returns bytes of the snapshot from an offset. -/
  | segmentRead (r : Req) (offset : BitVec 32) (length : BitVec 16) (last : Bool)
  /-- `SEGMENT_WRITE` (R442): SEGMENT delivers data; the last segment triggers the content check. -/
  | segmentWrite (r : Req) (offset : BitVec 32) (data : Octets) (last : Bool)
  /-- `DOM_ABORT` (R444): DOM_ABORT abandons the session's transfer. -/
  | domAbort (r : Req)
  /-- `DISCOVER` (R446): DISCOVER returns the identity summary. -/
  | discover (r : Req) (group : BitVec 8)
  /-- `VDP_FRAME_DISCARD` (R439): A malformed or foreign VDP frame is discarded and counted. -/
  | vdpFrameDiscard (port : Fin 2)
  /-- `SESSION_TIMEOUT` (R436): A session with no valid request for the session timeout ends. -/
  | sessionTimeout (id : Fin 68)
  /-- `SESSION_END` (R436): A write of Session end ends the named session. -/
  | sessionEnd (r : Req) (id : BitVec 16)
  /-- `SEGMENT_TIMEOUT` (R444): No segment within the segment timeout; the transfer is abandoned. -/
  | segmentTimeout (id : Fin 68)
  /-- `CLIENT_HELLO` (R433): A DTLS ClientHello starts a handshake if fewer than 8 are in progress. -/
  | clientHello (port : Fin 2) (ip : BitVec 32) (udp : BitVec 16)
  /-- `DTLS_HANDSHAKE` (R433): A DTLS handshake completes or fails against the trust anchors. -/
  | dtlsHandshake (association : Nat) (chain : Octets) (ok : Bool)
  /-- `HANDSHAKE_TIMEOUT` (R433): A handshake not complete 10 s after its ClientHello is abandoned. -/
  | handshakeTimeout (association : Nat)
  /-- `GROUP_RESPONSE` (R446): After its response spread delay a group member sends its unicast answer. -/
  | groupResponse
  /-- `MAILBOX_POST` (R448): Doorbell 1 posts a mailbox request frame. -/
  | mailboxPost (m : Fin 4) (status : BitVec 32) (frame : Octets)
  /-- `MAILBOX_ACK` (R448): Doorbell 2 acknowledges the response and clears RESP_READY. -/
  | mailboxAck (m : Fin 4) (status : BitVec 32)
  /-- `NODE_ID_WRITE` (R445): A write of Node ID is stored and applies from the next frame. -/
  | nodeIdWrite (r : Req) (value : BitVec 16)
  /-- `TRUST_ANCHOR_WRITE` (R453): A write of a trust anchor entry is checked and stored in flash. -/
  | trustAnchorWrite (r : Req) (k : Fin 16) (value : Octets)
  /-- `FNP_LINK_UP` (R457): A field port reaches block lock or synchronisation and its link is up. -/
  | fnpLinkUp (n : Fin 2) (negotiated : Bool)
  /-- `FNP_LINK_LOSS` (R457): Lock absent for 10 ms; the port link is lost and bring-up restarts. -/
  | fnpLinkLoss (n : Fin 2)
  /-- `MODE_ALTERNATION` (R455): In automatic mode the port tries the other rate after 500 ms. -/
  | modeAlternation (n : Fin 2)
  /-- `ARP` (R456): A received ARP frame is answered. -/
  | arp (n : Fin 2) (mac : BitVec 48) (ip target : BitVec 32)
  /-- `ICMP_ECHO` (R456): A received ICMP echo is answered. -/
  | icmpEcho (n : Fin 2) (ip target : BitVec 32) (data : Octets)
  /-- `FNP_FRAME_DISCARD` (R456): A frame the port does not take is counted and discarded. -/
  | fnpFrameDiscard (n : Fin 2) (badFcs : Bool)
  /-- `PTP_SYNC` (R465): A received Sync is stamped and starts an exchange. -/
  | ptpSync (dt : Nat) (n : Fin 2) (quarter : Fin 4) (m : PtpMessage)
  /-- `PTP_FOLLOW_UP` (R463): A received Follow_Up completes a two-step Sync. -/
  | ptpFollowUp (dt : Nat) (n : Fin 2) (m : PtpMessage)
  /-- `PTP_DELAY_REQ` (R465): A received Delay_Req is stamped and answered as master. -/
  | ptpDelayReq (dt : Nat) (n : Fin 2) (quarter : Fin 4) (m : PtpMessage)
  /-- `PTP_DELAY_RESP` (R464): A received Delay_Resp completes an E2E exchange. -/
  | ptpDelayResp (dt : Nat) (n : Fin 2) (m : PtpMessage)
  /-- `PTP_PDELAY_REQ` (R465): A received Pdelay_Req is stamped and answered. -/
  | ptpPdelayReq (dt : Nat) (n : Fin 2) (quarter : Fin 4) (m : PtpMessage) (taken : Bool)
  /-- `PTP_PDELAY_RESP` (R465): A received Pdelay_Resp is stamped for the peer delay. -/
  | ptpPdelayResp (dt : Nat) (n : Fin 2) (quarter : Fin 4) (m : PtpMessage)
  /-- `PTP_PDELAY_RESP_FOLLOW_UP` (R463): A received Pdelay_Resp_Follow_Up completes a peer delay exchange. -/
  | ptpPdelayRespFollowUp (dt : Nat) (n : Fin 2) (m : PtpMessage)
  /-- `PTP_ANNOUNCE` (R463): A received Announce feeds the best master clock algorithm. -/
  | ptpAnnounce (dt : Nat) (n : Fin 2) (m : PtpMessage)
  /-- `SYNC_INTERVAL` (R463): As master the port sends a Sync at each sync interval. -/
  | syncInterval (dt : Nat) (n : Fin 2) (quarter : Fin 4) (taken : Bool)
  /-- `ANNOUNCE_INTERVAL` (R463): As master the port sends an Announce at each announce interval. -/
  | announceInterval (dt : Nat) (n : Fin 2)
  /-- `DELAY_REQ_INTERVAL` (R463): The port sends a Delay_Req or Pdelay_Req at its interval. -/
  | delayReqInterval (dt : Nat) (n : Fin 2) (quarter : Fin 4) (taken : Bool)
  /-- `TXTS_TIMEOUT` (R467): A stamp not taken within 10 ms is removed and TXTS_MISS sets. -/
  | txtsTimeout (n : Fin 2)
  /-- `ANNOUNCE_TIMEOUT` (R464): Announce receipt timeout; BMCA runs again. -/
  | announceTimeout (n : Fin 2)
  /-- `SYNC_RECEIPT_TIMEOUT` (R462): No Sync for 3 intervals; LOCKED becomes HOLDOVER. -/
  | syncReceiptTimeout (n : Fin 2)
  /-- `HOLDOVER_LIMIT` (R462): Holdover limit passes; SYNC_STATE becomes FREE. -/
  | holdoverLimit
  /-- `STEP_MARK_END` (R460): The step mark window ends and the STEP flag clears. -/
  | stepMarkEnd
  /-- `TIME_SET` (R461): Time set loads the TBU clock and moves SYNC_STATE to SET. -/
  | timeSet (r : Req) (value : Octets)
  /-- `TIME_STEP` (R461): Time step adds a signed step to the TBU clock. -/
  | timeStep (r : Req) (value : BitVec 64)
  /-- `RATE_ADJUSTMENT` (R459): A write of Rate adjustment sets the clock increment from the next cycle. -/
  | rateAdjustment (r : Req) (value : BitVec 32)
  /-- `PULSE_ARM` (R468): Pulse arm arms a TOUT output with the settings in force. -/
  | pulseArm (r : Req) (n : Fin 4) (value : BitVec 8)
  /-- `PULSE_EDGE` (R468): The clock reaches the programmed edge and TOUT goes active. -/
  | pulseEdge (dt : Nat) (n : Fin 4)
  /-- `TOUT_PULSE_END` (R468): A TOUT pulse ends after its width. -/
  | toutPulseEnd (n : Fin 4)
  /-- `PULSE_MODE_WRITE` (R469): A write of 0 to Pulse mode disarms and ends an active pulse. -/
  | pulseModeWrite (r : Req) (n : Fin 4) (value : BitVec 8)
  /-- `TIN_EDGE` (R470): A filtered TIN edge latches time and LP into the capture FIFO. -/
  | tinEdge (dt : Nat) (n : Fin 4) (rising : Bool) (quarter : Fin 4)
  /-- `CAPTURE_READ` (R470): A read of Capture takes the oldest capture, or sets EMPTY_READ. -/
  | captureRead (r : Req) (n : Fin 4)
  /-- `RUN_REQUEST` (R483): Run request starts a DARK, FLAT or GEOMETRIC calibration run. -/
  | runRequest (r : Req) (value : Octets)
  /-- `RUN_CANCEL` (R483): Run cancel ends a run with reason ABORTED. -/
  | runCancel (r : Req)
  /-- `RUN_CHECK_COMPLETE` (R488): The checks of each camera finish and the accepted values go to MGT. -/
  | runCheckComplete
  /-- `RUN_APPLY_COMPLETE` (R489): The last write of a run completes and Run result is written. -/
  | runApplyComplete
  /-- `RUN_TIMEOUT` (R479): The run timeout expires; the run ends with TIMEOUT or RAMP_BUSY. -/
  | runTimeout
  /-- `IMPORT` (R492): Import command 1 applies the valid slot with the higher sequence. -/
  | importCmd (r : Req)
  /-- `APPLY_FACTORY` (R493): Import command 2 applies the factory record. -/
  | applyFactory (r : Req)
  /-- `IMPORT_COMPLETE` (R492): The last import write completes and Import result is written. -/
  | importComplete
  /-- `ITEM_WRITE` (R481): Item write gives one calibration item a new value through CAL. -/
  | itemWrite (r : Req) (value : Octets)
  /-- `FACTORY_SAVE` (R493): Factory save stores a snapshot of the values as the factory record. -/
  | factorySave (r : Req)
  /-- `INTERFACE_INTERVAL` (R480): The interface interval expires and CXP and encoder thresholds step one tap. -/
  | interfaceInterval (lanes : List (Nat × Int)) (encoders : List (Nat × List (Option Int)))
  /-- `DUE_CHECK` (R482): Once a minute CAL evaluates the due flags. -/
  | dueCheck
  /-- `PROVISION` (R499): PROVISION burns the root key hash and enters DEPLOYED. -/
  | provision (r : Req) (serial : BitVec 64) (hash : Vector Byte 48)
  /-- `ENTER_SERVICE` (R499): ENTER_SERVICE moves DEPLOYED to the SERVICE life-cycle state. -/
  | enterService (r : Req) (serial : BitVec 64)
  /-- `LEAVE_SERVICE` (R499): LEAVE_SERVICE returns to DEPLOYED. -/
  | leaveService (r : Req) (serial : BitVec 64)
  /-- `DECOMMISSION` (R499): DECOMMISSION burns the decommission bit and invalidates trust anchors. -/
  | decommission (r : Req) (serial : BitVec 64)
  /-- `SERVICE_IDLE_TIMEOUT` (R500): No L3 session for the idle timeout; the state returns to DEPLOYED. -/
  | serviceIdleTimeout
  /-- `BIST_ROUND` (R507): The round period expires and BST starts an online test round. -/
  | bistRound
  /-- `SLICE_START` (R509): The slice interval expires and the next test slice starts. -/
  | sliceStart
  /-- `SLICE_COMPLETE` (R510): A test slice ends passed or failed. -/
  | sliceComplete (result : SliceEnd)
  /-- `SLICE_RETRY` (R510): The 10 ms back-off expires and a failed slice is retried. -/
  | sliceRetry
  /-- `TEST_UNIT` (R514): Test request kind 1 runs an offline test of a unit. -/
  | testUnit (r : Req) (unit : BitVec 16)
  /-- `CLEAR_FAILED` (R512): Test request kind 2 removes a unit from the failed list. -/
  | clearFailed (r : Req) (unit : BitVec 16)
  /-- `FUSE_COMMAND` (R515): Fuse command burns soft repairs and substitutions into fuses. -/
  | fuseCommand (r : Req)
  /-- `FUSE_COMPLETE` (R515): Fuse programming finishes and entries are verified. -/
  | fuseComplete (fails : List Bool)
  /-- `RECORDER_SAMPLE` (R525): MON takes a source sample and every recorder of it accumulates the value. -/
  | recorderSample (code : BitVec 16) (instanceNo : BitVec 16)
  /-- `SNAPSHOT_COMMAND` (R527): Snapshot command starts a snapshot, or is refused while one runs. -/
  | snapshotCommand (r : Req)
  /-- `SNAPSHOT_INTERVAL` (R527): The snapshot interval expires and a periodic snapshot starts or is skipped. -/
  | snapshotInterval
  /-- `SNAPSHOT_COMPLETE` (R527): The snapshot copy into the readout bank completes. -/
  | snapshotComplete
  /-- `WINDOW_READ` (R531): A read of Window returns the recorder at the session cursor and advances it. -/
  | windowRead (r : Req)
  /-- `RECORDER_ENABLE` (R526): Enabling a recorder clears its live accumulators. -/
  | recorderEnable (r : Req) (recorder : Fin 128) (value : BitVec 8)
  /-- `FREEZE_COMMAND` (R534): Freeze command 1 freezes all counters. -/
  | freezeCommand (r : Req)
  /-- `FREEZE_RELEASE` (R534): Freeze command 2 releases the counters. -/
  | freezeRelease (r : Req)
  /-- `USER_FREEZE` (R535): BAR2 user control 1 freezes the counters. -/
  | userFreeze
  /-- `USER_RELEASE` (R535): BAR2 user control 2 releases the counters. -/
  | userRelease
  /-- `USER_CLEAR` (R535): BAR2 user control 3 clears all nine counters. -/
  | userClear
  /-- `COUNTER_CLEAR` (R533): A write of Clear zeroes the masked counters. -/
  | counterClear (r : Req) (mask : BitVec 16)
  /-- `READY` (R541): Power command READY enters Ready from Standby, Run or Service. -/
  | ready (r : Req) (levels : BitVec 8)
  /-- `RUN` (R541): Power command RUN enters Run from Ready. -/
  | run (r : Req)
  /-- `SERVICE` (R541): Power command SERVICE enters the Service power state from Ready. -/
  | service (r : Req)
  /-- `STANDBY` (R541): Power command STANDBY stops the field ports and clocks and enters Standby. -/
  | standby (r : Req)
  /-- `OFF` (R541): Power command OFF halts MGT and enters Off. -/
  | off (r : Req)
  /-- `RESET` (R541): Power command RESET performs a device reset with cause 3. -/
  | reset (r : Req)
  /-- `TRANSITION_COMPLETE` (R541): A power transition completes and TRANSITIONING clears. -/
  | transitionComplete (micros : Nat)
  /-- `THERMAL_TRIP` (R544): A sensor reaches 115 °C; outputs float, THERMTRIP_N drives low and the device enters Off. -/
  | thermalTrip
  /-- `POWER_ON` (R545): Supplies rise with PORST_N low, giving a power-on reset. -/
  | powerOn
  /-- `PORST_N` (R545): PORST_N asserted and released resets the device and boots it. -/
  | porstN
  /-- `PERST_N` (R545): PERST_N resets the PCIe link, configuration space and mailbox sessions. -/
  | perstN
  /-- `BOOT_TARGET_READY` (R552): After start-up a Boot target of 2 enters Ready. -/
  | bootTargetReady (levels : BitVec 8)
  /-- `WATCHDOG` (R546): The MGT watchdog expires and the management cores restart. -/
  | watchdog
  /-- `MGT_RESTART_COMPLETE` (R546): The management cores finish restarting and answer the dictionary again. -/
  | mgtRestartComplete (millis : Nat)
  /-- `ACTIVATE` (R554): Update command ACTIVATE makes the staged slot trial and restarts MGT on it. -/
  | activate (r : Req)
  /-- `COMMIT` (R555): Update command COMMIT marks the trial slot good. -/
  | commit (r : Req)
  /-- `REVERT` (R555): Update command REVERT fails the trial slot and restarts MGT on the other. -/
  | revert (r : Req)
  /-- `RAISE_SECURITY_VERSION` (R556): The fused minimum security version is raised to the running image's. -/
  | raiseSecurityVersion (r : Req) (value : BitVec 8)
  /-- `PWRFAIL_WARNING` (R558): A filtered low PWRFAIL_N starts the power-fail sequence in Run or Service. -/
  | pwrfailWarning
  /-- `PWRFAIL_COMPLETE` (R562): The power-fail sequence ends with Trays closed POWER_FAIL and the record written. -/
  | pwrfailComplete (duration : Nat)
  /-- `MONITOR_POLL` (R590): MGT reads every sensor and supply monitor and updates the monitor flags. -/
  | monitorPoll (temps : Vector (Option Int) 8) (supplies : Vector (BitVec 16) 8) (current : BitVec 16)
  /-- `LINE_FAULT_END` (R36): An RS-422 line whose differential voltage was below 200 mV recovers, and its live LINE_A, LINE_B or LINE_Z flag clears. -/
  | lineFaultEnd (n : Fin 4) (line : EncLine)
  /-- `COMPLETION_TIMEOUT` (R360): The PCI Express completion timeout of a DMA host read (a descriptor fetch, copy source, master load or FENCE read-back) expires, and the read counts as failed and is retried or made lasting. -/
  | completionTimeout (c : Fin 32) (kind : HostRead)
  /-- `PCIE_LINK_UP` (R368): The PCI Express link trains up again after a link-down, and Link speed and Link width are written. -/
  | pcieLinkUp (link : PcieLink) (setup : HostSetup)
  /-- `BUS_MASTER_ENABLE` (R374): The host sets Bus Master Enable again, and the DMA channels that acted as paused resume. -/
  | busMasterEnable
  /-- `AER_ERROR` (R371): The PCI Express endpoint detects an AER correctable or uncorrectable error, which increments its counter and raises MSI-X vector 36. -/
  | aerError (correctable : Bool)
  /-- `DTLS_CLOSE` (R433): The client closes the DTLS association, which closes the VDP session it carries. -/
  | dtlsClose (association : Nat)
  /-- `PWRFAIL_RELEASE` (R558): PWRFAIL_N returns high, and PWRFAIL_LIVE clears. -/
  | pwrfailRelease
  deriving DecidableEq, Repr

end Sys2Proof
end

