-- ==== Sys2Proof/Machine/Bits.lean ====
section
/-! DEFINITION. Octet strings as numbers and back (R5), and the two cyclic redundancy checks the spec names. -/

namespace Sys2Proof.Machine

/-- The `n` little-endian octets of a number (R5). -/
def leBytes : Nat → Nat → Octets
  | 0, _ => []
  | n + 1, v => BitVec.ofNat 8 v :: leBytes n (v / 256)

/-- The number that little-endian octets spell (R5). -/
def ofLe : Octets → Nat
  | [] => 0
  | b :: bs => b.toNat + 256 * ofLe bs

/-- The `n` big-endian octets of a number (R5). -/
def beBytes (n v : Nat) : Octets := (leBytes n v).reverse

/-- The number that big-endian octets spell (R5). -/
def ofBe (bs : Octets) : Nat := ofLe bs.reverse

/-- The little-endian number in `n` octets of a string from an offset on. -/
def leAt (bs : Octets) (off n : Nat) : Nat := ofLe ((bs.drop off).take n)

/-- The octet at an offset, 0 beyond the end. -/
def octAt (bs : Octets) (off : Nat) : Nat := leAt bs off 1

/-- A string of `n` zero octets. -/
def zeros (n : Nat) : Octets := List.replicate n 0

/-- The octets of an ASCII text. -/
def ascii (t : String) : Octets := t.toList.map (fun c => BitVec.ofNat 8 c.toNat)

/-- A record cut into queue words of eight octets, little-endian (R344). -/
def wordsOf : Nat → Octets → List (BitVec 64)
  | 0, _ => []
  | n + 1, bs => BitVec.ofNat 64 (leAt bs 0 8) :: wordsOf n (bs.drop 8)

/-- The octets of queue words, in order (R344). -/
def octetsOfWords : List (BitVec 64) → Octets
  | [] => []
  | w :: ws => leBytes 8 w.toNat ++ octetsOfWords ws

/-- One bit of a reflected CRC-32C. -/
def crc32cBit (c : Nat) : Nat := if c % 2 = 1 then (c / 2) ^^^ 0x82F63B78 else c / 2

/-- Eight bits of a reflected CRC-32C. -/
def crc32cByte (c : Nat) (b : Byte) : Nat :=
  crc32cBit (crc32cBit (crc32cBit (crc32cBit (crc32cBit (crc32cBit (crc32cBit (crc32cBit (c ^^^ b.toNat))))))))

/-- CRC-32C, the Castagnoli polynomial in its usual form. PRESUMED: the spec names the CRC and gives no parameters. -/
def crc32c (bs : Octets) : Nat := (bs.foldl crc32cByte 0xFFFFFFFF) ^^^ 0xFFFFFFFF

/-- One bit of CRC-8 with the polynomial x^8 + x^2 + x + 1, most significant bit first. -/
def crc8Bit (c : Nat) : Nat := if 128 ≤ c then ((c * 2) % 256) ^^^ 0x07 else c * 2

/-- Eight bits of CRC-8. -/
def crc8Byte (c : Nat) (b : Byte) : Nat :=
  crc8Bit (crc8Bit (crc8Bit (crc8Bit (crc8Bit (crc8Bit (crc8Bit (crc8Bit (c ^^^ b.toNat))))))))

/-- CRC-8 with polynomial 0x07 and initial value 0xFF (R294). -/
def crc8 (bs : Octets) : Nat := bs.foldl crc8Byte 0xFF

end Sys2Proof.Machine
end

