-- ==== Sys2Proof/Config.lean ====
section
/-! DEFINITION. What an implementation fixes and the spec leaves open: the free values. Each is an opaque constant without a
body, so no statement can rest on the value it takes. -/

namespace Sys2Proof.Config

/-- The wait for a character boundary that a trigger packet's delay field gives, in the units of the CoaXPress standard: the
boundary's phase and the units are not in the spec (R95). -/
opaque triggerDelay : Nat → Nat

/-- The replacement of a defective component whose row has no good component of its colour (R127). -/
opaque lonelyDefect : Nat → Nat

/-- The horizontal (false) or vertical (true) estimate of a missing component: of the six rows, the row, the column and the component.
The spec gives no formula (R129). -/
opaque demosaicEstimate : List (List Nat) → Nat → Nat → Nat → Bool → Int

/-- The absolute gradient along a direction, of the same operands (R129). -/
opaque demosaicGradient : List (List Nat) → Nat → Nat → Nat → Bool → Nat

/-- Which pixel flags reach a demosaiced column from the samples of its estimates (R119, R129). -/
opaque demosaicFlags : List (List Nat) → Nat → Nat

/-- By which count a Lab component differs from the exact tetrahedral value, of the value as a fraction (R134). -/
opaque labError : Nat → Nat → Nat

/-- Which of the two integers beside a remapped value is taken, of the value as a fraction (R137). -/
opaque remapRound : Int → Nat → Int

/-- Whether the parabolic fit through a correlation's peak rounds a quotient that is not whole up: the spec names the fit and not its rounding
(R164, R217). -/
opaque fitUp : Int → Int → Bool

/-- What the parabolic fit adds to a peak at the end of the search range, or to one that is flat, in 1/256 lag (R164, R217). -/
opaque flatPeak : Nat → Int

/-- The time stamp of a stitched line that no camera delivered (R155). -/
opaque lineTime : Nat → Nat

/-- The hash of the first four bytes of a position, by which the generic compressor finds candidates (R241). -/
opaque matchHash : Nat → Nat

/-- The original and the compressed size that a host job takes a block to have whose header it reads poisoned: the spec does not say (R252). -/
opaque poisonedHead : Nat → Nat × Nat

/-- The draw of a DRAM channel's generator on an activate: the spec gives no polynomial for its LFSR (R394). -/
opaque neighbourDraw : Nat → Nat

/-- The rank, bank group, bank, row and column of a device address, by the field's number in the error log entry (R393): the spec gives
no bank map. -/
opaque dramPlace : Nat → Nat → Nat

/-- The pitch of a NO_MASTER page that no page with a pitch came before (R203, R206). -/
opaque pagePitch : Nat → Nat

/-- Where D of mode 0 falls within the bounds that R224 sets around the exact ΔE00, of an image and a master pixel and the parametric factors;
with a factor of 0 it is D itself. -/
opaque deltaE : List Nat → List Nat → List Nat → Nat

/-- The time stamp of a deviation line that no stitched line came for (R229). -/
opaque devTime : Nat → Nat

/-- Which of the two integers beside a PTP value that is no whole number of 2^-16 ns is taken: the spec gives no rounding (R464, R465). -/
opaque ptpRound : Nat → Nat

/-- The rate adjustment that the servo's PI loop asks for, in 1/16 ppb: the spec gives its gains and no formula (R464). -/
opaque servoRate : Nat → Int

/-- The MAC address of a field port, of the serial number and the port: the spec gives no derivation (R456). -/
opaque macAddress : Nat → Nat → BitVec 48

/-- The PTP clock identity, of the serial number: the spec gives no derivation (R463). -/
opaque clockIdentity : Nat → BitVec 64

/-- By how many CLK_PIPE cycles a spread clock runs ahead of its mean, by the code of the spread and the elapsed time in ns: the spec gives the
shape and the rate of the modulation and not its phase (R18, R586). -/
opaque spreadWobble : Nat → Nat → Nat

/-- A latency of the recorder's sources 6 and 7, in its units: what a pipeline stage or a DRAM access takes is timing that the model leaves
out (R523). -/
opaque latency : Nat → Nat

/-- Which of the two integers beside the mean of a seam's corrections is taken: the spec gives no rounding (R487). -/
opaque seamMean : Nat → Nat

/-- An octet of a random challenge (R449). -/
opaque freeByte : Nat → Byte

/-- SHA-384: the model needs of it no more than that it is a function (R434, R449, R548, R549). -/
opaque sha384 : Octets → Octets

/-- Whether an ECDSA P-384 signature verifies, of the public key, the message and the signature (R449, R548). -/
opaque ecdsaVerify : Octets → Octets → Octets → Bool

/-- Whether a certificate chain is of the form that R433 asks for, each certificate signed by the next (R433, R434). -/
opaque chainSound : Octets → Bool

/-- Whether the validity dates of a chain hold at a time in seconds (R434). -/
opaque chainDates : Octets → Nat → Bool

/-- The SubjectPublicKeyInfo of the certificate a chain ends in (R434). -/
opaque chainRoot : Octets → Octets

/-- The public key of a chain's leaf (R449). -/
opaque leafKey : Octets → Octets

/-- The device certificate: per device (R453). -/
opaque deviceCertificate : Octets

/-- Whether fuses that were burnt verify (R499). -/
opaque fuseVerifies : Nat → Bool

/-- Whether the memory of a DRAM channel trains at an ARM that a dictionary write of the general form brings (R384). -/
opaque memoryTrains : Nat → Bool

/-- The filtered encoder levels at an entry to Ready that such a write brings (R31). -/
opaque encoderLevels : Nat → BitVec 8

/-- Whether a shadow write that such a write brings lands in the cycle of a hand-over (R367). -/
opaque inHandOver : Nat → Bool

end Sys2Proof.Config
end

