-- ==== Sys2Proof/Machine/Names.lean ====
section
/-! DEFINITION. The indexes of the object dictionary under the names the object tables give them (R423, R424). -/

namespace Sys2Proof.Machine.Ix

abbrev wpuLinePitch : Nat := 0x2010
abbrev wpuPositionSource : Nat := 0x2011
abbrev wpuDirectionInvert : Nat := 0x2012
abbrev wpuLP : Nat := 0x2013
abbrev wpuLPPresetValue : Nat := 0x2014
abbrev wpuLPPresetCommand : Nat := 0x2015
abbrev wpuSpeedLines : Nat := 0x2016
abbrev wpuSpeedMm : Nat := 0x2017
abbrev wpuPositionStatus : Nat := 0x2018
abbrev wpuStandstillTimeout : Nat := 0x2019
abbrev wpuHighWaterLP : Nat := 0x201a
abbrev wpuEncoderMode : Nat := 0x2020
abbrev wpuEncoderElectrical : Nat := 0x2021
abbrev wpuEncoderRawCount : Nat := 0x2022
abbrev wpuQERRCount : Nat := 0x2023
abbrev wpuEncoderStatus : Nat := 0x2024
abbrev wpuIndexLP : Nat := 0x2025
abbrev wpuIndexCount : Nat := 0x2026
abbrev wpuIndexTime : Nat := 0x2027
abbrev wpuSerialMode : Nat := 0x2030
abbrev wpuSerialPositionWidth : Nat := 0x2031
abbrev wpuSerialClock : Nat := 0x2032
abbrev wpuSerialPollInterval : Nat := 0x2033
abbrev wpuSerialRawPosition : Nat := 0x2034
abbrev wpuSerialErrorCount : Nat := 0x2035
abbrev wpuSerialStatus : Nat := 0x2036
abbrev wpuSpacingCompare : Nat := 0x2040
abbrev wpuSpacingStep : Nat := 0x2041
abbrev wpuSpacingMode : Nat := 0x2042
abbrev wpuHitCount : Nat := 0x2043
abbrev wpuSkippedCount : Nat := 0x2044
abbrev wpuSKIPFlag : Nat := 0x2045
abbrev wpuLastHitLP : Nat := 0x2046
abbrev wpuLastHitTime : Nat := 0x2047
abbrev wpuComparatorSource : Nat := 0x2050
abbrev wpuComparatorCondition : Nat := 0x2051
abbrev wpuThreshold : Nat := 0x2052
abbrev wpuHysteresis : Nat := 0x2053
abbrev wpuComparatorOutput : Nat := 0x2054
abbrev wpuOutputChanges : Nat := 0x2055
abbrev wpuProbeEdge : Nat := 0x2060
abbrev wpuLockout : Nat := 0x2061
abbrev wpuLatchCount : Nat := 0x2062
abbrev wpuLatchedLP : Nat := 0x2063
abbrev wpuLatchedTime : Nat := 0x2064
abbrev wpuProbeOverflowFlag : Nat := 0x2065
abbrev wpuLockoutIgnoredCount : Nat := 0x2066
abbrev wpuEncoderFilterLength : Nat := 0x2200
abbrev wpuQERRLimit : Nat := 0x2201
abbrev wpuQERRWindow : Nat := 0x2202
abbrev wpuSpeedAveraging : Nat := 0x2203
abbrev wpuProbeFilterLength : Nat := 0x2204
abbrev wpuSerialFrameTimeout : Nat := 0x2205
abbrev wpuSerialErrorLimit : Nat := 0x2206
abbrev wpuBiSSCRCPolynomial : Nat := 0x2208
abbrev wpuLineFaultEnable : Nat := 0x2209
abbrev wpuPositionCount : Nat := 0x220a
abbrev wpuLPAccumulator : Nat := 0x220b
abbrev pscEntriesInUse : Nat := 0x2410
abbrev pscScheduleRequest : Nat := 0x2411
abbrev pscCancelTag : Nat := 0x2412
abbrev pscSchedulerStatus : Nat := 0x2413
abbrev pscLateCount : Nat := 0x2414
abbrev pscFullCount : Nat := 0x2415
abbrev pscFiredCount : Nat := 0x2416
abbrev pscCancelCount : Nat := 0x2417
abbrev pscDiscardedCount : Nat := 0x2418
abbrev pscNextForwardTarget : Nat := 0x2419
abbrev pscOutputSource : Nat := 0x2420
abbrev pscSourceNumber : Nat := 0x2421
abbrev pscPolarity : Nat := 0x2422
abbrev pscWidthMode : Nat := 0x2423
abbrev pscPulseWidth : Nat := 0x2424
abbrev pscPulseLength : Nat := 0x2425
abbrev pscWidthCap : Nat := 0x2426
abbrev pscRetrigger : Nat := 0x2427
abbrev pscLead : Nat := 0x2428
abbrev pscMarkerDistance : Nat := 0x2429
abbrev pscForce : Nat := 0x242a
abbrev pscPulseCount : Nat := 0x242b
abbrev pscOverlapCount : Nat := 0x242c
abbrev pscCoincideCount : Nat := 0x242d
abbrev pscOutputLevel : Nat := 0x242e
abbrev pscSlew : Nat := 0x2600
abbrev pscDriveStrength : Nat := 0x2601
abbrev pscEntryCursor : Nat := 0x2602
abbrev pscEntryAtCursor : Nat := 0x2603
abbrev cptStripLength : Nat := 0x3010
abbrev cptFirstLane : Nat := 0x3011
abbrev cptLaneCount : Nat := 0x3012
abbrev cptLinkRateLimit : Nat := 0x3013
abbrev cptLineWidth : Nat := 0x3014
abbrev cptPixelFormat : Nat := 0x3015
abbrev cptPipeline : Nat := 0x3016
abbrev cptTriggerMode : Nat := 0x3017
abbrev cptTriggerComparator : Nat := 0x3018
abbrev cptTriggerPin : Nat := 0x3019
abbrev cptTriggerGate : Nat := 0x301a
abbrev cptResumeMode : Nat := 0x301b
abbrev cptResume : Nat := 0x301c
abbrev cptTagTimeout : Nat := 0x301d
abbrev cptLinkState : Nat := 0x301e
abbrev cptPortStatus : Nat := 0x301f
abbrev cptLinkRateInUse : Nat := 0x3020
abbrev cptCameraConnections : Nat := 0x3021
abbrev cptLinesDelivered : Nat := 0x3022
abbrev cptLongFrameLinesDiscarded : Nat := 0x3023
abbrev cptUntriggeredLinesDiscarded : Nat := 0x3024
abbrev cptOutOfStepLinesDiscarded : Nat := 0x3025
abbrev cptStripsClosedShort : Nat := 0x3026
abbrev cptLinkLossCount : Nat := 0x3027
abbrev cptCameraEventCount : Nat := 0x3028
abbrev cptLastCameraEvent : Nat := 0x3029
abbrev cptReconnectTimeout : Nat := 0x302a
abbrev cptMissingLines : Nat := 0x3030
abbrev cptMissingByReason : Nat := 0x3031
abbrev cptControlRequest : Nat := 0x3040
abbrev cptControlResponse : Nat := 0x3041
abbrev cptControlStatus : Nat := 0x3042
abbrev cptControlTimeout : Nat := 0x3043
abbrev cptDiscoveryInterval : Nat := 0x3200
abbrev cptHeartbeatTimeout : Nat := 0x3201
abbrev cptLaneSkewLimit : Nat := 0x3202
abbrev cptHighSpeedUpconnection : Nat := 0x3203
abbrev cptTriggerPacketWidth : Nat := 0x3204
abbrev cptMinimumTriggerInterval : Nat := 0x3205
abbrev cptLastTriggerToLineTime : Nat := 0x3206
abbrev cptMaximumTriggerToLineTime : Nat := 0x3207
abbrev cptMinimumTriggerToLineTime : Nat := 0x3208
abbrev cptTagFIFOHighWater : Nat := 0x3209
abbrev cptPairBufferHighWater : Nat := 0x320a
abbrev cptTrainingFailures : Nat := 0x320b
abbrev cptUpconnectionSwing : Nat := 0x320c
abbrev iplOutputSpace : Nat := 0x3410
abbrev iplCamerasServed : Nat := 0x3411
abbrev iplLinesProcessed : Nat := 0x3412
abbrev iplMarkersPassed : Nat := 0x3413
abbrev iplAlignmentMarkers : Nat := 0x3414
abbrev iplPipelineStatus : Nat := 0x3415
abbrev iplStatisticsRecords : Nat := 0x3416
abbrev iplCorrectedTableErrors : Nat := 0x3417
abbrev iplSpareTarget : Nat := 0x3420
abbrev iplSpareCommand : Nat := 0x3421
abbrev iplSpareState : Nat := 0x3422
abbrev iplSpareServing : Nat := 0x3423
abbrev iplShadowMismatchLines : Nat := 0x3424
abbrev iplTakeOverCount : Nat := 0x3425
abbrev iplTakeOverLine : Nat := 0x3426
abbrev iplStageEnable : Nat := 0x3430
abbrev iplBlackLevelChannel0 : Nat := 0x3431
abbrev iplBlackLevelChannel1 : Nat := 0x3432
abbrev iplBlackLevelChannel2 : Nat := 0x3433
abbrev iplDarkAndFlatTable : Nat := 0x3434
abbrev iplDefectMap : Nat := 0x3435
abbrev iplLensShading : Nat := 0x3436
abbrev iplColourMatrix : Nat := 0x3437
abbrev iplToneCurve : Nat := 0x3438
abbrev iplLabTable : Nat := 0x3439
abbrev iplRemapCoefficients : Nat := 0x343a
abbrev iplOutputWidth : Nat := 0x343b
abbrev iplBayerPhase : Nat := 0x343c
abbrev iplRowSpacing : Nat := 0x343d
abbrev iplRowOrder : Nat := 0x343e
abbrev iplSaturationLevel : Nat := 0x343f
abbrev iplTableStatus : Nat := 0x3440
abbrev iplRemapInForce : Nat := 0x3441
abbrev iplDefectsInForce : Nat := 0x3442
abbrev iplStatisticsTap : Nat := 0x3450
abbrev iplStatisticsEnable : Nat := 0x3451
abbrev iplEdgeThreshold : Nat := 0x3600
abbrev iplRemapInterpolation : Nat := 0x3601
abbrev iplRemapRampLength : Nat := 0x3602
abbrev iplSpareLoadTime : Nat := 0x3603
abbrev iplFaultTakeOver : Nat := 0x3604
abbrev iplLineBufferHighWater : Nat := 0x3605
abbrev iplFaultAddress : Nat := 0x3606
abbrev stxPlacementColumn : Nat := 0x3810
abbrev stxCameraIncluded : Nat := 0x3811
abbrev stxMountDelay : Nat := 0x3812
abbrev stxCrossShift : Nat := 0x3813
abbrev stxDelayInForce : Nat := 0x3814
abbrev stxShiftInForce : Nat := 0x3815
abbrev stxCameraMissingLines : Nat := 0x3816
abbrev stxCameraLateLines : Nat := 0x3817
abbrev stxColumnBase : Nat := 0x3818
abbrev stxLocalWidth : Nat := 0x3819
abbrev stxBlendWidth : Nat := 0x381a
abbrev stxOverlapFill : Nat := 0x381b
abbrev stxSeamTracking : Nat := 0x381c
abbrev stxReferenceCamera : Nat := 0x381d
abbrev stxStitchStatus : Nat := 0x381e
abbrev stxLinesStitched : Nat := 0x381f
abbrev stxCrossWebMap : Nat := 0x3820
abbrev stxLocalSeams : Nat := 0x3821
abbrev stxSeamAcrossCorrection : Nat := 0x3822
abbrev stxSeamAlongCorrection : Nat := 0x3823
abbrev stxSeamQuality : Nat := 0x3824
abbrev stxSeamCutColumn : Nat := 0x3825
abbrev stxSeamRecords : Nat := 0x3826
abbrev stxLineWait : Nat := 0x3a00
abbrev stxGeometricRampLength : Nat := 0x3a01
abbrev stxTrackingGain : Nat := 0x3a02
abbrev stxQualityMinimum : Nat := 0x3a03
abbrev stxDeadBand : Nat := 0x3a04
abbrev stxSearchRange : Nat := 0x3a05
abbrev stxStoreBankUse : Nat := 0x3a06
abbrev stxCorrectedStoreErrors : Nat := 0x3a07
abbrev stxFaultAddress : Nat := 0x3a08
abbrev stxLPTolerance : Nat := 0x3a09
abbrev brdPortRole : Nat := 0x3c10
abbrev brdExchangeWidth : Nat := 0x3c11
abbrev brdBraidFollow : Nat := 0x3c12
abbrev brdLinkState : Nat := 0x3c13
abbrev brdLinkStatus : Nat := 0x3c14
abbrev brdPartnerIdentity : Nat := 0x3c15
abbrev brdTXPresetInUse : Nat := 0x3c16
abbrev brdEyeWidthMinimum : Nat := 0x3c17
abbrev brdFlitsSent : Nat := 0x3c18
abbrev brdFlitsReceived : Nat := 0x3c19
abbrev brdCRCErrors : Nat := 0x3c1a
abbrev brdReplays : Nat := 0x3c1b
abbrev brdRetrains : Nat := 0x3c1c
abbrev brdLinkDownCount : Nat := 0x3c1d
abbrev brdBraidSeamState : Nat := 0x3c1e
abbrev brdTXPresetOverride : Nat := 0x3e00
abbrev brdEyeMinimum : Nat := 0x3e01
abbrev brdRetrainInterval : Nat := 0x3e02
abbrev brdAckTimeout : Nat := 0x3e03
abbrev brdLaneMap : Nat := 0x3e04
abbrev brdLaneSamplingDelay : Nat := 0x3e05
abbrev brdLaneSkew : Nat := 0x3e06
abbrev brdReplayBufferHighWater : Nat := 0x3e07
abbrev brdTrainingTime : Nat := 0x3e08
abbrev mrePageMarkProbe : Nat := 0x4010
abbrev mrePageSubmit : Nat := 0x4011
abbrev mrePageOriginOffset : Nat := 0x4012
abbrev mreMarkWindow : Nat := 0x4013
abbrev mreFlywheelLimit : Nat := 0x4014
abbrev mreFreeRunStartLP : Nat := 0x4015
abbrev mreQueueCommand : Nat := 0x4016
abbrev mrePagesQueued : Nat := 0x4017
abbrev mrePagesReady : Nat := 0x4018
abbrev mreQueueLowMark : Nat := 0x4019
abbrev mreBindingState : Nat := 0x401a
abbrev mreCurrentPage : Nat := 0x401b
abbrev mreCurrentPageStart : Nat := 0x401c
abbrev mreLastSubmittedPage : Nat := 0x401d
abbrev mreInspectionStatus : Nat := 0x401e
abbrev mreDeviationMode : Nat := 0x401f
abbrev mreNO_MASTERPolicy : Nat := 0x4020
abbrev mreSubstrateReference : Nat := 0x4021
abbrev mreToleranceTable : Nat := 0x4022
abbrev mreRGBWeights : Nat := 0x4023
abbrev mrePagesBound : Nat := 0x4024
abbrev mrePagesWithoutMaster : Nat := 0x4025
abbrev mreMarksAccepted : Nat := 0x4026
abbrev mreMarksSynthesised : Nat := 0x4027
abbrev mreMarksExtra : Nat := 0x4028
abbrev mreMarksRepeated : Nat := 0x4029
abbrev mrePagesFlushed : Nat := 0x402a
abbrev mreLinesCompared : Nat := 0x402b
abbrev mreFetchLateLines : Nat := 0x402c
abbrev mrePoisonedTiles : Nat := 0x402d
abbrev mreCellWidth : Nat := 0x4200
abbrev mreWindowHeight : Nat := 0x4201
abbrev mreSearchRange : Nat := 0x4202
abbrev mreDriftGain : Nat := 0x4203
abbrev mreMapGain : Nat := 0x4204
abbrev mreStepLimit : Nat := 0x4205
abbrev mreFieldLimit : Nat := 0x4206
abbrev mreQualityMinimum : Nat := 0x4207
abbrev mreTextureMinimum : Nat := 0x4208
abbrev mreMapMode : Nat := 0x4209
abbrev mreBindLead : Nat := 0x420a
abbrev mreMasterRegionSize : Nat := 0x420b
abbrev mreQueueCapacity : Nat := 0x420c
abbrev mreLoadTimeout : Nat := 0x420d
abbrev mreDeltaEFactors : Nat := 0x420e
abbrev mrePrefetchRows : Nat := 0x420f
abbrev mreValidCellMinimum : Nat := 0x4210
abbrev mreRegistrationField : Nat := 0x4211
abbrev mreFaultAddress : Nat := 0x4212
abbrev mreCorrectedBufferErrors : Nat := 0x4213
abbrev cdeEngineStatus : Nat := 0x4410
abbrev cdeJobSubmit : Nat := 0x4411
abbrev cdeHostJobsQueued : Nat := 0x4412
abbrev cdeLastCompletion : Nat := 0x4413
abbrev cdeBlocksDecompressed : Nat := 0x4414
abbrev cdeBlocksCompressed : Nat := 0x4415
abbrev cdeOriginalBytesDecoded : Nat := 0x4416
abbrev cdeOriginalBytesEncoded : Nat := 0x4417
abbrev cdeCompressedBytesWritten : Nat := 0x4418
abbrev cdeCheckFailures : Nat := 0x4419
abbrev cdeStoredFallbacks : Nat := 0x441a
abbrev cdeOutputFullStops : Nat := 0x441b
abbrev cdeHostJobsCompleted : Nat := 0x441c
abbrev cdeJobCancel : Nat := 0x441d
abbrev cdeHostSliceSize : Nat := 0x4600
abbrev cdeMatchCandidates : Nat := 0x4601
abbrev cdeLaneBusyCycles : Nat := 0x4602
abbrev cdeLaneBlocks : Nat := 0x4603
abbrev cdeCorrectedBufferErrors : Nat := 0x4604
abbrev cdeFaultAddress : Nat := 0x4605
abbrev segInputSource : Nat := 0x4810
abbrev segLowThreshold : Nat := 0x4811
abbrev segHighThreshold : Nat := 0x4812
abbrev segPolarity : Nat := 0x4813
abbrev segMinimumArea : Nat := 0x4814
abbrev segMorphology : Nat := 0x4815
abbrev segStructuringElement : Nat := 0x4816
abbrev segSuppressMask : Nat := 0x4817
abbrev segMaximumBlobLength : Nat := 0x4818
abbrev segIdleCloseTimeout : Nat := 0x4819
abbrev segSegmentsInUse : Nat := 0x481a
abbrev segOpenContexts : Nat := 0x481b
abbrev segContextHighWater : Nat := 0x481c
abbrev segDetectionStatus : Nat := 0x481d
abbrev segBlobsReported : Nat := 0x481e
abbrev segBlobsRejected : Nat := 0x481f
abbrev segDroppedPixels : Nat := 0x4820
abbrev segSplitBlobs : Nat := 0x4821
abbrev segJoinedBlobs : Nat := 0x4822
abbrev segForceClosedBlobs : Nat := 0x4823
abbrev segLinesInspected : Nat := 0x4824
abbrev segReferenceMode : Nat := 0x4825
abbrev segReferenceSample : Nat := 0x4826
abbrev segChannelWeights : Nat := 0x4827
abbrev segEngineState : Nat := 0x4830
abbrev segLogicalSegment : Nat := 0x4831
abbrev segEngineFaultCause : Nat := 0x4832
abbrev segRunsLabelled : Nat := 0x4833
abbrev segEngineCommand : Nat := 0x4834
abbrev segSpareTarget : Nat := 0x4840
abbrev segSpareCommand : Nat := 0x4841
abbrev segSpareState : Nat := 0x4842
abbrev segShadowMismatchLines : Nat := 0x4843
abbrev segTakeOverLine : Nat := 0x4844
abbrev segTakeOverCount : Nat := 0x4845
abbrev segSegmentContextLimit : Nat := 0x4a00
abbrev segPartialWait : Nat := 0x4a01
abbrev segReferenceTimeConstant : Nat := 0x4a02
abbrev segReferenceSettle : Nat := 0x4a03
abbrev segFaultTakeOver : Nat := 0x4a04
abbrev segRecordFIFOHighWater : Nat := 0x4a05
abbrev segCorrectedErrors : Nat := 0x4a06
abbrev segFaultAddress : Nat := 0x4a07
abbrev clsClassifierTree : Nat := 0x4c10
abbrev clsClassTable : Nat := 0x4c11
abbrev clsClassifierStatus : Nat := 0x4c12
abbrev clsCrumbsIssued : Nat := 0x4c13
abbrev clsCrumbsByType : Nat := 0x4c14
abbrev clsBlobsByClass : Nat := 0x4c15
abbrev clsBlobsDiscardedByClass : Nat := 0x4c16
abbrev clsMarksRequested : Nat := 0x4c17
abbrev clsMarkFailures : Nat := 0x4c18
abbrev clsMarksMerged : Nat := 0x4c19
abbrev clsCropsRequested : Nat := 0x4c1a
abbrev clsCropsRefused : Nat := 0x4c1b
abbrev clsLateMarkPolicy : Nat := 0x4c1c
abbrev clsStreakClass : Nat := 0x4c1d
abbrev clsSummaryCrumbsEnable : Nat := 0x4c1e
abbrev clsLastCropHandle : Nat := 0x4c1f
abbrev clsLedgerCellWidth : Nat := 0x4c20
abbrev clsLedgerCellHeight : Nat := 0x4c21
abbrev clsRepeatThreshold : Nat := 0x4c22
abbrev clsPageGap : Nat := 0x4c23
abbrev clsLedgerCommand : Nat := 0x4c24
abbrev clsLedgerStatus : Nat := 0x4c25
abbrev clsLedgerLookups : Nat := 0x4c26
abbrev clsLedgerInserts : Nat := 0x4c27
abbrev clsLedgerEvictions : Nat := 0x4c28
abbrev clsRepeatsFound : Nat := 0x4c29
abbrev clsLedgerErrors : Nat := 0x4c2a
abbrev clsAgeLimit : Nat := 0x4e00
abbrev clsEntryCursor : Nat := 0x4e01
abbrev clsEntryAtCursor : Nat := 0x4e02
abbrev clsSweepPointer : Nat := 0x4e03
abbrev clsBucketHighWater : Nat := 0x4e04
abbrev clsCorrectedErrors : Nat := 0x4e05
abbrev clsFaultAddress : Nat := 0x4e06
abbrev clsHashMultiplier : Nat := 0x4e07
abbrev pfcBinWidth : Nat := 0x5010
abbrev pfcChannel : Nat := 0x5011
abbrev pfcBinsInUse : Nat := 0x5012
abbrev pfcColumnExcludeMask : Nat := 0x5013
abbrev pfcPhaseDelay : Nat := 0x5014
abbrev pfcOnThreshold : Nat := 0x5015
abbrev pfcOffThreshold : Nat := 0x5016
abbrev pfcPolarity : Nat := 0x5017
abbrev pfcStreakReportLength : Nat := 0x5018
abbrev pfcEventCopy : Nat := 0x5019
abbrev pfcActiveBank : Nat := 0x501a
abbrev pfcSwapRequest : Nat := 0x501b
abbrev pfcFadeLength : Nat := 0x501c
abbrev pfcFilterStatus : Nat := 0x501d
abbrev pfcOutputsProduced : Nat := 0x501e
abbrev pfcStreaksReported : Nat := 0x501f
abbrev pfcGroupDelay : Nat := 0x5020
abbrev pfcDecimation : Nat := 0x5021
abbrev pfcSwaps : Nat := 0x5022
abbrev pfcSwapsRefused : Nat := 0x5023
abbrev pfcRunsDropped : Nat := 0x5024
abbrev pfcOpenStreaks : Nat := 0x5025
abbrev pfcInvalidOutputs : Nat := 0x5026
abbrev pfcCICOrder : Nat := 0x5200
abbrev pfcCICDecimation : Nat := 0x5201
abbrev pfcFIRTaps : Nat := 0x5202
abbrev pfcFIRDecimation : Nat := 0x5203
abbrev pfcHalfbandStages : Nat := 0x5204
abbrev pfcReferenceHalfWidth : Nat := 0x5205
abbrev pfcReferenceGuard : Nat := 0x5206
abbrev pfcBaselineTimeConstant : Nat := 0x5207
abbrev pfcBaselineSettle : Nat := 0x5208
abbrev pfcEmptyLimit : Nat := 0x5209
abbrev pfcFIRCoefficients : Nat := 0x520a
abbrev pfcHalfbandCoefficients : Nat := 0x520b
abbrev pfcOutputGain : Nat := 0x520c
abbrev pfcBankSettleCount : Nat := 0x520d
abbrev pfcProfileSnapshot : Nat := 0x520e
abbrev pfcPhaseStoreUse : Nat := 0x520f
abbrev pfcCorrectedErrors : Nat := 0x5210
abbrev pfcFaultAddress : Nat := 0x5211
abbrev hrbHistoryLines : Nat := 0x5410
abbrev hrbHistoryFormat : Nat := 0x5411
abbrev hrbNewestLine : Nat := 0x5412
abbrev hrbOldestLine : Nat := 0x5413
abbrev hrbHistoryStatus : Nat := 0x5414
abbrev hrbCropsAccepted : Nat := 0x5415
abbrev hrbCropsRefused : Nat := 0x5416
abbrev hrbCropsAbandoned : Nat := 0x5417
abbrev hrbCropCompression : Nat := 0x5418
abbrev hrbStripExportInterval : Nat := 0x5419
abbrev hrbExportFirstColumn : Nat := 0x541a
abbrev hrbExportWidth : Nat := 0x541b
abbrev hrbStripsExported : Nat := 0x541c
abbrev hrbStripLinesLost : Nat := 0x541d
abbrev hrbHistoryRegionSize : Nat := 0x5600
abbrev hrbGuardLines : Nat := 0x5601
abbrev hrbMaximumCropBytes : Nat := 0x5602
abbrev hrbPendingCrops : Nat := 0x5603
abbrev hrbCorrectedErrors : Nat := 0x5604
abbrev hrbFaultAddress : Nat := 0x5605
abbrev dlvQueueDepth : Nat := 0x5810
abbrev dlvPacketsWaiting : Nat := 0x5811
abbrev dlvHighWatermark : Nat := 0x5812
abbrev dlvLowWatermark : Nat := 0x5813
abbrev dlvQueueFlags : Nat := 0x5814
abbrev dlvPacketsPushed : Nat := 0x5815
abbrev dlvPacketsLost : Nat := 0x5816
abbrev dlvPoisonedWords : Nat := 0x5817
abbrev dlvDepthHighWater : Nat := 0x5818
abbrev dlvChannelSource : Nat := 0x5840
abbrev dlvRingBase : Nat := 0x5841
abbrev dlvRingEntries : Nat := 0x5842
abbrev dlvProducerIndex : Nat := 0x5843
abbrev dlvConsumerIndex : Nat := 0x5844
abbrev dlvChannelCommand : Nat := 0x5845
abbrev dlvChannelStatus : Nat := 0x5846
abbrev dlvCloseTimeout : Nat := 0x5847
abbrev dlvTraysCompleted : Nat := 0x5848
abbrev dlvTraySequence : Nat := 0x5849
abbrev dlvBadDescriptors : Nat := 0x584a
abbrev dlvRecordsLost : Nat := 0x584b
abbrev dlvBytesWritten : Nat := 0x584c
abbrev dlvLinkSpeed : Nat := 0x5860
abbrev dlvLinkWidth : Nat := 0x5861
abbrev dlvCorrectableErrors : Nat := 0x5862
abbrev dlvUncorrectableErrors : Nat := 0x5863
abbrev dlvShadowRingBase : Nat := 0x5a00
abbrev dlvShadowRingEntries : Nat := 0x5a01
abbrev dlvShadowStartIndex : Nat := 0x5a02
abbrev dlvShadowArm : Nat := 0x5a03
abbrev dlvReadNoSnoop : Nat := 0x5a04
abbrev dlvPrefetchDepth : Nat := 0x5a05
abbrev dlvRetriedReads : Nat := 0x5a06
abbrev dlvDiagnosticWindowBase : Nat := 0x5a07
abbrev dlvDiagnosticWindowEnable : Nat := 0x5a08
abbrev dlvWindowStatus : Nat := 0x5a09
abbrev dlvCorrectedErrors : Nat := 0x5a0a
abbrev dlvFaultAddress : Nat := 0x5a0b
abbrev dmcChannelsInMap : Nat := 0x5c10
abbrev dmcUsableCapacity : Nat := 0x5c11
abbrev dmcCDEWorkRegionSize : Nat := 0x5c12
abbrev dmcRegion : Nat := 0x5c13
abbrev dmcMemoryStatus : Nat := 0x5c14
abbrev dmcErrorLog : Nat := 0x5c15
abbrev dmcLogEntries : Nat := 0x5c16
abbrev dmcModuleIdentity : Nat := 0x5c20
abbrev dmcDataRateInUse : Nat := 0x5c21
abbrev dmcModuleCapacity : Nat := 0x5c22
abbrev dmcChannelStatus : Nat := 0x5c23
abbrev dmcCorrectedErrors : Nat := 0x5c24
abbrev dmcTransientUncorrectable : Nat := 0x5c25
abbrev dmcLastingUncorrectable : Nat := 0x5c26
abbrev dmcPoisonReads : Nat := 0x5c27
abbrev dmcNeighbourRefreshes : Nat := 0x5c28
abbrev dmcTemperatureBand : Nat := 0x5c29
abbrev dmcRetrainings : Nat := 0x5c2a
abbrev dmcTrainingFailures : Nat := 0x5c2b
abbrev dmcScrubPasses : Nat := 0x5c2c
abbrev dmcDataRateLimit : Nat := 0x5c2d
abbrev dmcNeighbourRefreshExponent : Nat := 0x5e00
abbrev dmcScrubInterval : Nat := 0x5e01
abbrev dmcTemperaturePollInterval : Nat := 0x5e02
abbrev dmcTrackingInterval : Nat := 0x5e03
abbrev dmcRetrainThreshold : Nat := 0x5e04
abbrev dmcEyeMargin : Nat := 0x5e05
abbrev dmcLaneDelays : Nat := 0x5e06
abbrev dmcEyeMinimum : Nat := 0x5e07
abbrev dmcErrorInjection : Nat := 0x5e08
abbrev dmcCorrectedBufferErrors : Nat := 0x5e09
abbrev dmcFaultAddress : Nat := 0x5e0a
abbrev evfFabricStatus : Nat := 0x2820
abbrev evfChannelsEnabled : Nat := 0x2821
abbrev evfTaskActivations : Nat := 0x2840
abbrev evfCoincideCount : Nat := 0x2841
abbrev evfOverrunCount : Nat := 0x2842
abbrev evfTaskStatus : Nat := 0x2843
abbrev evfSubClaim : Nat := 0x1
abbrev evfSubOwner : Nat := 0x2
abbrev evfSubSecurity : Nat := 0x3
abbrev evfSubSource : Nat := 0x4
abbrev evfSubTasks : Nat := 0x5
abbrev evfSubEnable : Nat := 0x6
abbrev evfSubChannelStatus : Nat := 0x7
abbrev evfSubFireCount : Nat := 0x8
abbrev evfSubFire : Nat := 0x9
abbrev evfSubScheduleOffset : Nat := 0xa
abbrev evfSubScheduleAction : Nat := 0xb
abbrev evfSubScheduleTag : Nat := 0xc
abbrev evfSubVector : Nat := 0xd
abbrev evfSubRecord : Nat := 0xe
abbrev evfSubLastEvent : Nat := 0xf
abbrev evfSubLimiterCount : Nat := 0x10
abbrev evfSubMergedFirings : Nat := 0x11
abbrev evfMergedAtCrossing : Nat := 0x2a00
abbrev evfDiscardedAtDisabledChannels : Nat := 0x2a01
abbrev evfFaultAddress : Nat := 0x2a02
abbrev sysDeviceType : Nat := 0x1010
abbrev sysVendorName : Nat := 0x1011
abbrev sysProductName : Nat := 0x1012
abbrev sysPartNumber : Nat := 0x1013
abbrev sysSiliconRevision : Nat := 0x1014
abbrev sysSerialNumber : Nat := 0x1015
abbrev sysFirmwareVersion : Nat := 0x1016
abbrev sysNodeID : Nat := 0x1017
abbrev sysGroupMembership : Nat := 0x1018
abbrev sysNodeName : Nat := 0x1019
abbrev sysDictionaryVersion : Nat := 0x101a
abbrev sysUptime : Nat := 0x101b
abbrev sesSessionsOpen : Nat := 0x1410
abbrev sesOwnSession : Nat := 0x1411
abbrev sesOwnLevel : Nat := 0x1412
abbrev sesSessionTable : Nat := 0x1413
abbrev sesFramesReceived : Nat := 0x1414
abbrev sesFramesDiscarded : Nat := 0x1415
abbrev sesRepeatedRequests : Nat := 0x1416
abbrev sesSessionsExpired : Nat := 0x1417
abbrev sesAccessStatus : Nat := 0x1418
abbrev sesAuthenticationFailures : Nat := 0x141d
abbrev sesNetworkUnauthenticatedLevel : Nat := 0x1600
abbrev sesMailboxUnauthenticatedLevel : Nat := 0x1601
abbrev sesUDPPort : Nat := 0x1602
abbrev sesResponseSpread : Nat := 0x1603
abbrev sesDeviceCertificate : Nat := 0x1610
abbrev sesSessionTimeout : Nat := 0x1612
abbrev sesSessionEnd : Nat := 0x1613
abbrev sesSegmentTimeout : Nat := 0x1614
abbrev sesTrustAnchor : Nat := 0x1620
abbrev netLinkMode : Nat := 0x6010
abbrev netLinkState : Nat := 0x6011
abbrev netPortStatus : Nat := 0x6012
abbrev netMACAddress : Nat := 0x6013
abbrev netIPv4Address : Nat := 0x6014
abbrev netIPv4Mask : Nat := 0x6015
abbrev netIPv4Gateway : Nat := 0x6016
abbrev netVLAN : Nat := 0x6017
abbrev netFramesReceived : Nat := 0x6018
abbrev netFramesSent : Nat := 0x6019
abbrev netFramesInError : Nat := 0x601a
abbrev netFramesDiscarded : Nat := 0x601b
abbrev netLinkLossCount : Nat := 0x601c
abbrev netTime : Nat := 0x6030
abbrev netTimeStamp : Nat := 0x6031
abbrev netTimeSet : Nat := 0x6032
abbrev netTimeStep : Nat := 0x6033
abbrev netTimeStatus : Nat := 0x6034
abbrev netPTPRole : Nat := 0x6036
abbrev netPTPPort : Nat := 0x6037
abbrev netDelayMechanism : Nat := 0x6038
abbrev netTransport : Nat := 0x6039
abbrev netDomainNumber : Nat := 0x603a
abbrev netPriority1 : Nat := 0x603b
abbrev netPriority2 : Nat := 0x603c
abbrev netOffsetFromMaster : Nat := 0x603d
abbrev netMeanPathDelay : Nat := 0x603e
abbrev netGrandmasterIdentity : Nat := 0x603f
abbrev netPortState : Nat := 0x6040
abbrev netAsymmetry : Nat := 0x6041
abbrev netUTCOffset : Nat := 0x6042
abbrev netPulseMode : Nat := 0x6050
abbrev netPulseStart : Nat := 0x6051
abbrev netPulsePeriod : Nat := 0x6052
abbrev netPulseWidth : Nat := 0x6053
abbrev netPolarity : Nat := 0x6054
abbrev netPulseArm : Nat := 0x6055
abbrev netPulses : Nat := 0x6056
abbrev netMissedPulses : Nat := 0x6057
abbrev netPulseStatus : Nat := 0x6058
abbrev netCaptureEdge : Nat := 0x6060
abbrev netCapture : Nat := 0x6061
abbrev netCapturesWaiting : Nat := 0x6062
abbrev netCaptureCount : Nat := 0x6063
abbrev netCaptureStatus : Nat := 0x6064
abbrev netIngressLatency : Nat := 0x6200
abbrev netEgressLatency : Nat := 0x6201
abbrev netAutoNegotiation : Nat := 0x6202
abbrev netStampQueueHighWater : Nat := 0x6203
abbrev netStampsLost : Nat := 0x6204
abbrev netRateAdjustment : Nat := 0x6210
abbrev netStepThreshold : Nat := 0x6211
abbrev netLockThreshold : Nat := 0x6212
abbrev netProportionalGain : Nat := 0x6213
abbrev netIntegralGain : Nat := 0x6214
abbrev netHoldoverLimit : Nat := 0x6215
abbrev netStepMarkWindow : Nat := 0x6216
abbrev netServoMode : Nat := 0x6217
abbrev netLockCount : Nat := 0x6218
abbrev netLogSyncInterval : Nat := 0x6219
abbrev netLogAnnounceInterval : Nat := 0x621a
abbrev netAnnounceReceiptTimeout : Nat := 0x621b
abbrev netCaptureFilter : Nat := 0x621c
abbrev netClockIncrement : Nat := 0x621d
abbrev netLogDelayRequestInterval : Nat := 0x621e
abbrev calRunRequest : Nat := 0x6410
abbrev calRunState : Nat := 0x6411
abbrev calMeasured : Nat := 0x6412
abbrev calRejectionReason : Nat := 0x6413
abbrev calRunResult : Nat := 0x6414
abbrev calExport : Nat := 0x6415
abbrev calImportSlot : Nat := 0x6416
abbrev calImportCommand : Nat := 0x6417
abbrev calImportResult : Nat := 0x6418
abbrev calLastSequence : Nat := 0x6419
abbrev calItemSelect : Nat := 0x641a
abbrev calItemCount : Nat := 0x641b
abbrev calItemLastTime : Nat := 0x641c
abbrev calItemLastSource : Nat := 0x641d
abbrev calItemSummary : Nat := 0x641e
abbrev calRunCancel : Nat := 0x641f
abbrev calItemWrite : Nat := 0x6420
abbrev calCalibrationStatus : Nat := 0x6421
abbrev calCXPThreshold : Nat := 0x6430
abbrev calEncoderThreshold : Nat := 0x6431
abbrev calDarkMeanLimit : Nat := 0x6600
abbrev calDarkVarianceLimit : Nat := 0x6601
abbrev calDarkPedestal : Nat := 0x6602
abbrev calFlatMinimumLevel : Nat := 0x6603
abbrev calFlatResidualLimit : Nat := 0x6604
abbrev calRunStrips : Nat := 0x6605
abbrev calRunTimeout : Nat := 0x6606
abbrev calInterfaceInterval : Nat := 0x6607
abbrev calInterfaceDeadBand : Nat := 0x6608
abbrev calDueInterval : Nat := 0x6609
abbrev calFactorySave : Nat := 0x660a
abbrev calDriftLimit : Nat := 0x660b
abbrev calCorrectedErrors : Nat := 0x660c
abbrev calSerialCheck : Nat := 0x660d
abbrev lifLifeCycleState : Nat := 0x1810
abbrev lifLifeCycleCommand : Nat := 0x1811
abbrev lifRootKeyHash : Nat := 0x1812
abbrev lifServiceEntryTime : Nat := 0x1813
abbrev lifServiceIdleTimeout : Nat := 0x1814
abbrev lifLifeCycleStatus : Nat := 0x1815
abbrev lifLifeCycleTransitions : Nat := 0x1816
abbrev bstBISTEnable : Nat := 0x6810
abbrev bstRoundPeriod : Nat := 0x6811
abbrev bstRoundState : Nat := 0x6812
abbrev bstUnitUnderTest : Nat := 0x6813
abbrev bstSelfTestStatus : Nat := 0x6814
abbrev bstUnitsTested : Nat := 0x6815
abbrev bstSlicesRun : Nat := 0x6816
abbrev bstUnitSelect : Nat := 0x6817
abbrev bstUnitResult : Nat := 0x6818
abbrev bstTestRequest : Nat := 0x6819
abbrev bstTransientByClass : Nat := 0x681a
abbrev bstLastingByClass : Nat := 0x681b
abbrev bstFailedUnits : Nat := 0x681c
abbrev bstRepairTable : Nat := 0x681d
abbrev bstSliceInterval : Nat := 0x6a00
abbrev bstOnlineUnitMask : Nat := 0x6a01
abbrev bstEscalationWindow : Nat := 0x6a02
abbrev bstTransientLimit : Nat := 0x6a03
abbrev bstFuseCommand : Nat := 0x6a04
abbrev bstFuseEntriesFree : Nat := 0x6a05
abbrev bstPatternSeed : Nat := 0x6a06
abbrev bstCorrectedErrors : Nat := 0x6a07
abbrev bstFaultAddress : Nat := 0x6a08
abbrev bstLastRateInstance : Nat := 0x6a09
abbrev bstAutoRepair : Nat := 0x6a0a
abbrev monSnapshotInterval : Nat := 0x6c10
abbrev monSnapshotCommand : Nat := 0x6c11
abbrev monSnapshotSequence : Nat := 0x6c12
abbrev monSnapshotTime : Nat := 0x6c13
abbrev monCursor : Nat := 0x6c14
abbrev monWindow : Nat := 0x6c15
abbrev monAllRecorders : Nat := 0x6c16
abbrev monRecorderStatus : Nat := 0x6c17
abbrev monSnapshotsSkipped : Nat := 0x6c18
abbrev monSource : Nat := 0x6c20
abbrev monHistogramBase : Nat := 0x6c21
abbrev monHistogramShift : Nat := 0x6c22
abbrev monRecorderMode : Nat := 0x6c23
abbrev monEnable : Nat := 0x6c24
abbrev monLiveCount : Nat := 0x6c25
abbrev monDroppedSamples : Nat := 0x6c26
abbrev pmcCycleCounter : Nat := 0x7010
abbrev pmcEventSelect : Nat := 0x7011
abbrev pmcInstance : Nat := 0x7012
abbrev pmcCounter : Nat := 0x7013
abbrev pmcFreezeCommand : Nat := 0x7014
abbrev pmcClear : Nat := 0x7015
abbrev pmcCounterSnapshot : Nat := 0x7016
abbrev pmcPMCStatus : Nat := 0x7017
abbrev pmcFreezeGeneration : Nat := 0x7018
abbrev pmcUserControlEnable : Nat := 0x7200
abbrev pmcFreezeExport : Nat := 0x7201
abbrev sysPowerState : Nat := 0x1020
abbrev sysPowerCommand : Nat := 0x1021
abbrev sysBootTarget : Nat := 0x1022
abbrev sysPowerStatus : Nat := 0x1023
abbrev sysLastResetCause : Nat := 0x1024
abbrev sysTransitionTime : Nat := 0x1025
abbrev sysPowerFailRecord : Nat := 0x1026
abbrev sysMGTRestarts : Nat := 0x1027
abbrev sysLastRestartCause : Nat := 0x1028
abbrev sysClockMargin : Nat := 0x1200
abbrev sysPowerFailFilter : Nat := 0x1201
abbrev sysPowerFailEnable : Nat := 0x1202
abbrev updImage : Nat := 0x7810
abbrev updUpdateCommand : Nat := 0x7811
abbrev updUpdateState : Nat := 0x7812
abbrev updSlotInformation : Nat := 0x7813
abbrev updRunningSlot : Nat := 0x7814
abbrev updMinimumSecurityVersion : Nat := 0x7816
abbrev updRaiseSecurityVersion : Nat := 0x7a00
abbrev updActivationTime : Nat := 0x7a01
abbrev envDieTemperature : Nat := 0x7410
abbrev envPeakTemperature : Nat := 0x7411
abbrev envHighestTemperature : Nat := 0x7412
abbrev envTemperatureWarning : Nat := 0x7413
abbrev envTemperatureCritical : Nat := 0x7414
abbrev envMonitorStatus : Nat := 0x7415
abbrev envSupplyVoltage : Nat := 0x7416
abbrev envCoreCurrent : Nat := 0x7417
abbrev envLastSupplyFault : Nat := 0x7418
abbrev envCLK_PIPESpread : Nat := 0x7600
abbrev envCLK_MGTSpread : Nat := 0x7601
abbrev envSpreadInForce : Nat := 0x7602
abbrev envMonitorPollInterval : Nat := 0x7603
abbrev envTemperatureHysteresis : Nat := 0x7604
abbrev monCorrectedErrors : Nat := 0x6e00
abbrev monFaultAddress : Nat := 0x6e01

end Sys2Proof.Machine.Ix
end

