-- ==== Sys2Proof/Machine/ObjectTypes.lean ====
section
/-! DEFINITION. The types, access classes and ranges of dictionary objects (R423, R426, R427, R429, R593) and the form of a
row of an object table. -/

namespace Sys2Proof.Machine

/-- The data types of R426. -/
inductive Ty where
  | bool | u8 | u16 | u32 | u64 | i8 | i16 | i32 | i64 | f32 | vis | oct | dom
  deriving DecidableEq, Repr

/-- The type code of R426. -/
def Ty.code : Ty → Nat
  | .bool => 0x01 | .u8 => 0x02 | .u16 => 0x03 | .u32 => 0x04 | .u64 => 0x05 | .i16 => 0x06 | .i32 => 0x07
  | .i64 => 0x08 | .f32 => 0x09 | .vis => 0x0A | .oct => 0x0B | .dom => 0x0C | .i8 => 0x0D

/-- The size of a scalar in bytes; 0 for an octet string (R426). -/
def Ty.bytes : Ty → Nat
  | .bool => 1 | .u8 => 1 | .i8 => 1 | .u16 => 2 | .i16 => 2 | .u32 => 4 | .i32 => 4 | .f32 => 4
  | .u64 => 8 | .i64 => 8 | .vis => 0 | .oct => 0 | .dom => 0

/-- The number of bits a scalar's value occupies; a BOOL holds one (R426). -/
def Ty.bits : Ty → Nat
  | .bool => 1
  | t => 8 * t.bytes

/-- Whether the type is a signed integer (R426). -/
def Ty.signed : Ty → Bool
  | .i8 => true | .i16 => true | .i32 => true | .i64 => true
  | _ => false

/-- Whether the type is an octet string (R426). -/
def Ty.isOctets : Ty → Bool
  | .vis => true | .oct => true | .dom => true
  | _ => false

/-- The access classes of R427. -/
inductive Acc where
  | ro | rw | wo | rws | rwb | rwg
  deriving DecidableEq, Repr

/-- What an object's range column admits, and how a write acts on it (R429, R593). -/
inductive Rng where
  /-- Any value of the type. -/
  | any
  /-- 0 or 1 (R426). -/
  | bool
  /-- The integers from `lo` to `hi`. -/
  | span (lo hi : Int)
  /-- The integers from `lo` to `hi`, and the value `x`. -/
  | spanOr (lo hi x : Int)
  /-- The multiples of `m` from `lo` to `hi`. -/
  | spanMult (lo hi : Int) (m : Nat)
  /-- The powers of two from `lo` to `hi`. -/
  | spanPow2 (lo hi : Int)
  /-- The odd values. -/
  | odd
  /-- Every value but 0. -/
  | nonZero
  /-- The multiples of `m`. -/
  | multOf (m : Nat)
  /-- A field map: the masks of its RW, W1C and RC fields; the other fields ignore a write (R429). -/
  | flags (rw w1c rc : Nat)
  /-- Writing 0 clears the object, no other value is accepted (R593). -/
  | zero
  /-- Writing any value resets the object to `v` (R593). -/
  | resets (v : Nat)
  /-- An octet string of `lo` to `hi` bytes. -/
  | len (lo hi : Nat)
  /-- An octet string of `a` or of `b` bytes. -/
  | lenOr (a b : Nat)
  deriving DecidableEq, Repr

/-- One row of an object table (R423 to R429): the indexes `ixLo..ixHi` at the subindexes `subLo..subHi`, their type, access
class, access level, default and range. A signed default stands as its bit pattern. -/
structure ObjRow where
  ixLo : Nat
  ixHi : Nat
  subLo : Nat
  subHi : Nat
  ty : Ty
  acc : Acc
  lvl : Nat
  dflt : Nat
  rng : Rng
  deriving DecidableEq, Repr

/-- Whether an octet string is allowed by a range (R426). -/
def Rng.admitsLen : Rng → Nat → Bool
  | .len lo hi, n => lo ≤ n && n ≤ hi
  | .lenOr a b, n => n == a || n == b
  | _, _ => false

/-- Whether a scalar is allowed by a range: `v` is its bit pattern and `i` the integer it stands for (R430 "value out of
range", R593). -/
def Rng.admits : Rng → Nat → Int → Bool
  | .any, _, _ => true
  | .bool, v, _ => v ≤ 1
  | .span lo hi, _, i => lo ≤ i && i ≤ hi
  | .spanOr lo hi x, _, i => (lo ≤ i && i ≤ hi) || i == x
  | .spanMult lo hi m, v, i => lo ≤ i && i ≤ hi && v % m == 0
  | .spanPow2 lo hi, v, i => lo ≤ i && i ≤ hi && 2 ^ v.log2 == v
  | .odd, v, _ => v % 2 == 1
  | .nonZero, v, _ => v != 0
  | .multOf m, v, _ => v % m == 0
  | .flags _ _ _, _, _ => true
  | .zero, v, _ => v == 0
  | .resets _, _, _ => true
  | .len _ _, _, _ => false
  | .lenOr _ _, _, _ => false

/-- What an accepted write of `v` leaves in an object that held `old` (R429, R593). -/
def Rng.written : Rng → Nat → Nat → Nat
  | .flags rw w1c _, old, v => (((old &&& (0xFFFFFFFF - rw)) ||| (v &&& rw)) &&& (0xFFFFFFFF - (w1c &&& v)))
  | .resets r, _, _ => r
  | _, _, v => v

/-- What a read leaves in an object that held `old`: RC fields that read 1 are cleared (R429). -/
def Rng.afterRead : Rng → Nat → Nat
  | .flags _ _ rc, old => old &&& (0xFFFFFFFF - rc)
  | _, old => old

end Sys2Proof.Machine
end

