-- ==== Sys2Proof/Machine/ObjectsA.lean ====
section
/-! DEFINITION. The rows of the object tables of the blocks 0x1000, 0x1400, 0x1800, 0x2000, 0x2400, 0x2800 (R423 to R429 and each chapter's object tables). -/

namespace Sys2Proof.Machine

/-- The objects of block 0x1000 (R451, R563, R564; 15_object_dictionary.md, 20_power_startup.md). -/
def sysObjects : List ObjRow :=
  [⟨0x1010, 0x1010, 0, 0, .u32, .ro, 0, 0x7716, .any⟩,
   ⟨0x1011, 0x1011, 0, 0, .vis, .ro, 0, 0, .len 0 32⟩,
   ⟨0x1012, 0x1012, 0, 0, .vis, .ro, 0, 0, .len 0 32⟩,
   ⟨0x1013, 0x1013, 0, 0, .vis, .ro, 0, 0, .len 0 16⟩,
   ⟨0x1014, 0x1014, 0, 0, .u16, .ro, 0, 0, .any⟩,
   ⟨0x1015, 0x1015, 0, 0, .u64, .ro, 0, 0, .any⟩,
   ⟨0x1016, 0x1016, 0, 0, .oct, .ro, 0, 0, .len 8 8⟩,
   ⟨0x1017, 0x1017, 0, 0, .u16, .rw, 2, 0, .span 0 16383⟩,
   ⟨0x1018, 0x1018, 0, 0, .u8, .ro, 0, 8, .any⟩,
   ⟨0x1018, 0x1018, 1, 8, .u16, .rw, 2, 0, .span 0 16383⟩,
   ⟨0x1019, 0x1019, 0, 0, .vis, .rw, 1, 0, .len 0 32⟩,
   ⟨0x101a, 0x101a, 0, 0, .u32, .ro, 0, 0x10000, .any⟩,
   ⟨0x101b, 0x101b, 0, 0, .u64, .ro, 0, 0, .any⟩,
   ⟨0x1020, 0x1020, 0, 0, .u8, .ro, 0, 1, .any⟩,
   ⟨0x1021, 0x1021, 0, 0, .u8, .wo, 2, 0, .span 1 6⟩,
   ⟨0x1022, 0x1022, 0, 0, .u8, .rw, 2, 1, .span 1 2⟩,
   ⟨0x1023, 0x1023, 0, 0, .u32, .rw, 0, 0, .flags 0x0 0x4c 0x0⟩,
   ⟨0x1024, 0x1024, 0, 0, .u8, .ro, 0, 1, .any⟩,
   ⟨0x1025, 0x1025, 0, 0, .u32, .ro, 0, 0, .any⟩,
   ⟨0x1026, 0x1026, 0, 0, .oct, .ro, 0, 0, .len 32 32⟩,
   ⟨0x1027, 0x1027, 0, 0, .u32, .ro, 0, 0, .any⟩,
   ⟨0x1028, 0x1028, 0, 0, .u8, .ro, 0, 0, .any⟩,
   ⟨0x1200, 0x1200, 0, 0, .i8, .rw, 3, 0, .span (-50) 50⟩,
   ⟨0x1201, 0x1201, 0, 0, .u16, .rw, 2, 20, .span 2 200⟩,
   ⟨0x1202, 0x1202, 0, 0, .bool, .rw, 2, 1, .bool⟩]

/-- The objects of block 0x1400 (R452, R453; 15_object_dictionary.md). -/
def sesObjects : List ObjRow :=
  [⟨0x1410, 0x1410, 0, 0, .u8, .ro, 0, 0, .any⟩,
   ⟨0x1411, 0x1411, 0, 0, .u16, .ro, 0, 0, .any⟩,
   ⟨0x1412, 0x1412, 0, 0, .u8, .ro, 0, 0, .any⟩,
   ⟨0x1413, 0x1413, 0, 0, .dom, .ro, 1, 0, .len 0 16777216⟩,
   ⟨0x1414, 0x1414, 0, 0, .u64, .ro, 0, 0, .any⟩,
   ⟨0x1415, 0x1415, 0, 0, .u64, .ro, 0, 0, .any⟩,
   ⟨0x1416, 0x1416, 0, 0, .u64, .ro, 0, 0, .any⟩,
   ⟨0x1417, 0x1417, 0, 0, .u32, .ro, 0, 0, .any⟩,
   ⟨0x1418, 0x1418, 0, 0, .u32, .rw, 0, 0, .flags 0x0 0x3f 0x0⟩,
   ⟨0x141d, 0x141d, 0, 0, .u32, .ro, 0, 0, .any⟩,
   ⟨0x1600, 0x1600, 0, 0, .u8, .rw, 2, 255, .spanOr 0 1 255⟩,
   ⟨0x1601, 0x1601, 0, 0, .u8, .rw, 2, 1, .spanOr 0 1 255⟩,
   ⟨0x1602, 0x1602, 0, 0, .u16, .rw, 2, 0x9648, .span 1 0xffff⟩,
   ⟨0x1603, 0x1603, 0, 0, .u16, .rw, 2, 100, .span 0 0x3e8⟩,
   ⟨0x1610, 0x1610, 0, 0, .dom, .ro, 2, 0, .len 0 2048⟩,
   ⟨0x1612, 0x1612, 0, 0, .u32, .rw, 2, 0x1388, .span 0x3e8 0x927c0⟩,
   ⟨0x1613, 0x1613, 0, 0, .u16, .wo, 2, 0, .span 0 67⟩,
   ⟨0x1614, 0x1614, 0, 0, .u32, .rw, 2, 0x3e8, .span 100 0xea60⟩,
   ⟨0x1620, 0x1620, 0, 0, .u8, .ro, 0, 16, .any⟩,
   ⟨0x1620, 0x1620, 1, 16, .oct, .rw, 2, 0, .len 52 52⟩]

/-- The objects of block 0x1800 (R519; 18_selftest_repair.md). -/
def lifObjects : List ObjRow :=
  [⟨0x1810, 0x1810, 0, 0, .u8, .ro, 0, 0, .any⟩,
   ⟨0x1811, 0x1811, 0, 0, .oct, .wo, 2, 0, .lenOr 12 60⟩,
   ⟨0x1812, 0x1812, 0, 0, .oct, .ro, 0, 0, .len 48 48⟩,
   ⟨0x1813, 0x1813, 0, 0, .u64, .ro, 0, 0, .any⟩,
   ⟨0x1814, 0x1814, 0, 0, .u32, .rw, 2, 30, .span 1 0x5a0⟩,
   ⟨0x1815, 0x1815, 0, 0, .u32, .rw, 0, 0, .flags 0x0 0x3 0x0⟩,
   ⟨0x1816, 0x1816, 0, 0, .u32, .ro, 0, 0, .any⟩]

/-- The objects of block 0x2000 (R65, R66; 02_web_position.md). -/
def wpuObjects : List ObjRow :=
  [⟨0x2010, 0x2010, 0, 0, .u8, .ro, 0, 2, .any⟩,
   ⟨0x2010, 0x2010, 1, 1, .u64, .rws, 1, 0x100000000, .span 0x100000000 0xFFFFFFFFFFFFFFFF⟩,
   ⟨0x2010, 0x2010, 2, 2, .u32, .rws, 1, 0x285f495, .span 1 4294967295⟩,
   ⟨0x2011, 0x2011, 0, 0, .u8, .rws, 1, 0, .span 0 5⟩,
   ⟨0x2012, 0x2012, 0, 0, .bool, .rws, 1, 0, .bool⟩,
   ⟨0x2013, 0x2013, 0, 0, .u64, .ro, 0, 0x1000000000000, .any⟩,
   ⟨0x2014, 0x2014, 0, 0, .u64, .rws, 1, 0x1000000000000, .any⟩,
   ⟨0x2015, 0x2015, 0, 0, .u8, .wo, 1, 0, .span 1 1⟩,
   ⟨0x2016, 0x2016, 0, 0, .i32, .ro, 0, 0, .any⟩,
   ⟨0x2017, 0x2017, 0, 0, .i32, .ro, 0, 0, .any⟩,
   ⟨0x2018, 0x2018, 0, 0, .u32, .rw, 0, 2, .flags 0x0 0x78 0x0⟩,
   ⟨0x2019, 0x2019, 0, 0, .u32, .rw, 1, 100, .span 1 0x2710⟩,
   ⟨0x201a, 0x201a, 0, 0, .u64, .ro, 0, 0xffffffffffff, .any⟩,
   ⟨0x2020, 0x2020, 0, 0, .u8, .ro, 0, 4, .any⟩,
   ⟨0x2020, 0x2020, 1, 4, .u8, .rws, 1, 1, .span 0 4⟩,
   ⟨0x2021, 0x2021, 0, 0, .u8, .ro, 0, 4, .any⟩,
   ⟨0x2021, 0x2021, 1, 4, .u8, .rws, 1, 0, .span 0 2⟩,
   ⟨0x2022, 0x2022, 0, 0, .u8, .ro, 0, 4, .any⟩,
   ⟨0x2022, 0x2022, 1, 4, .i64, .ro, 0, 0, .any⟩,
   ⟨0x2023, 0x2023, 0, 0, .u8, .ro, 0, 4, .any⟩,
   ⟨0x2023, 0x2023, 1, 4, .u32, .ro, 0, 0, .any⟩,
   ⟨0x2024, 0x2024, 0, 0, .u8, .ro, 0, 4, .any⟩,
   ⟨0x2024, 0x2024, 1, 4, .u32, .rw, 0, 0, .flags 0x0 0x23 0x0⟩,
   ⟨0x2025, 0x2025, 0, 0, .u8, .ro, 0, 4, .any⟩,
   ⟨0x2025, 0x2025, 1, 4, .u64, .ro, 0, 0, .any⟩,
   ⟨0x2026, 0x2026, 0, 0, .u8, .ro, 0, 4, .any⟩,
   ⟨0x2026, 0x2026, 1, 4, .u32, .ro, 0, 0, .any⟩,
   ⟨0x2027, 0x2027, 0, 0, .u8, .ro, 0, 4, .any⟩,
   ⟨0x2027, 0x2027, 1, 4, .u64, .ro, 0, 0, .any⟩,
   ⟨0x2030, 0x2030, 0, 0, .u8, .ro, 0, 2, .any⟩,
   ⟨0x2030, 0x2030, 1, 2, .u8, .rws, 1, 0, .span 0 3⟩,
   ⟨0x2031, 0x2031, 0, 0, .u8, .ro, 0, 2, .any⟩,
   ⟨0x2031, 0x2031, 1, 2, .u8, .rws, 1, 26, .span 8 40⟩,
   ⟨0x2032, 0x2032, 0, 0, .u8, .ro, 0, 2, .any⟩,
   ⟨0x2032, 0x2032, 1, 2, .u32, .rws, 1, 0x7d0, .span 100 0x2710⟩,
   ⟨0x2033, 0x2033, 0, 0, .u8, .ro, 0, 2, .any⟩,
   ⟨0x2033, 0x2033, 1, 2, .u32, .rws, 1, 20, .span 1 0xf4240⟩,
   ⟨0x2034, 0x2034, 0, 0, .u8, .ro, 0, 2, .any⟩,
   ⟨0x2034, 0x2034, 1, 2, .u64, .ro, 0, 0, .any⟩,
   ⟨0x2035, 0x2035, 0, 0, .u8, .ro, 0, 2, .any⟩,
   ⟨0x2035, 0x2035, 1, 2, .u32, .ro, 0, 0, .any⟩,
   ⟨0x2036, 0x2036, 0, 0, .u8, .ro, 0, 2, .any⟩,
   ⟨0x2036, 0x2036, 1, 2, .u32, .rw, 0, 0, .flags 0x0 0x5 0x0⟩,
   ⟨0x2040, 0x2040, 0, 0, .u8, .ro, 0, 24, .any⟩,
   ⟨0x2040, 0x2040, 1, 24, .u64, .rw, 1, 0x1000000010000, .any⟩,
   ⟨0x2041, 0x2041, 0, 0, .u8, .ro, 0, 24, .any⟩,
   ⟨0x2041, 0x2041, 1, 24, .u64, .rw, 1, 0x10000, .span 1 0xffffffffffff⟩,
   ⟨0x2042, 0x2042, 0, 0, .u8, .ro, 0, 24, .any⟩,
   ⟨0x2042, 0x2042, 1, 24, .u8, .rw, 1, 0, .span 0 2⟩,
   ⟨0x2043, 0x2043, 0, 0, .u8, .ro, 0, 24, .any⟩,
   ⟨0x2043, 0x2043, 1, 24, .u64, .ro, 0, 0, .any⟩,
   ⟨0x2044, 0x2044, 0, 0, .u8, .ro, 0, 24, .any⟩,
   ⟨0x2044, 0x2044, 1, 24, .u64, .ro, 0, 0, .any⟩,
   ⟨0x2045, 0x2045, 0, 0, .u8, .ro, 0, 24, .any⟩,
   ⟨0x2045, 0x2045, 1, 24, .bool, .rw, 0, 0, .zero⟩,
   ⟨0x2046, 0x2046, 0, 0, .u8, .ro, 0, 24, .any⟩,
   ⟨0x2046, 0x2046, 1, 24, .u64, .ro, 0, 0, .any⟩,
   ⟨0x2047, 0x2047, 0, 0, .u8, .ro, 0, 24, .any⟩,
   ⟨0x2047, 0x2047, 1, 24, .u64, .ro, 0, 0, .any⟩,
   ⟨0x2050, 0x2050, 0, 0, .u8, .ro, 0, 8, .any⟩] ++
  [⟨0x2050, 0x2050, 1, 8, .u8, .rw, 1, 0, .span 0 7⟩,
   ⟨0x2051, 0x2051, 0, 0, .u8, .ro, 0, 8, .any⟩,
   ⟨0x2051, 0x2051, 1, 8, .u8, .rw, 1, 0, .span 0 2⟩,
   ⟨0x2052, 0x2052, 0, 0, .u8, .ro, 0, 8, .any⟩,
   ⟨0x2052, 0x2052, 1, 8, .i64, .rw, 1, 0, .any⟩,
   ⟨0x2053, 0x2053, 0, 0, .u8, .ro, 0, 8, .any⟩,
   ⟨0x2053, 0x2053, 1, 8, .u64, .rw, 1, 0, .any⟩,
   ⟨0x2054, 0x2054, 0, 0, .u8, .ro, 0, 8, .any⟩,
   ⟨0x2054, 0x2054, 1, 8, .bool, .ro, 0, 0, .any⟩,
   ⟨0x2055, 0x2055, 0, 0, .u8, .ro, 0, 8, .any⟩,
   ⟨0x2055, 0x2055, 1, 8, .u32, .ro, 0, 0, .any⟩,
   ⟨0x2060, 0x2060, 0, 0, .u8, .ro, 0, 8, .any⟩,
   ⟨0x2060, 0x2060, 1, 8, .u8, .rws, 1, 0, .span 0 3⟩,
   ⟨0x2061, 0x2061, 0, 0, .u8, .ro, 0, 8, .any⟩,
   ⟨0x2061, 0x2061, 1, 8, .u64, .rw, 1, 0, .any⟩,
   ⟨0x2062, 0x2062, 0, 0, .u8, .ro, 0, 8, .any⟩,
   ⟨0x2062, 0x2062, 1, 8, .u64, .ro, 0, 0, .any⟩,
   ⟨0x2063, 0x2063, 0, 0, .u8, .ro, 0, 8, .any⟩,
   ⟨0x2063, 0x2063, 1, 8, .u64, .ro, 0, 0, .any⟩,
   ⟨0x2064, 0x2064, 0, 0, .u8, .ro, 0, 8, .any⟩,
   ⟨0x2064, 0x2064, 1, 8, .u64, .ro, 0, 0, .any⟩,
   ⟨0x2065, 0x2065, 0, 0, .u8, .ro, 0, 8, .any⟩,
   ⟨0x2065, 0x2065, 1, 8, .bool, .rw, 0, 0, .zero⟩,
   ⟨0x2066, 0x2066, 0, 0, .u8, .ro, 0, 8, .any⟩,
   ⟨0x2066, 0x2066, 1, 8, .u32, .ro, 0, 0, .any⟩,
   ⟨0x2200, 0x2200, 0, 0, .u8, .ro, 0, 4, .any⟩,
   ⟨0x2200, 0x2200, 1, 4, .u16, .rws, 2, 8, .span 1 0x3ff⟩,
   ⟨0x2201, 0x2201, 0, 0, .u8, .ro, 0, 4, .any⟩,
   ⟨0x2201, 0x2201, 1, 4, .u16, .rws, 2, 4, .span 1 0x3ff⟩,
   ⟨0x2202, 0x2202, 0, 0, .u8, .ro, 0, 4, .any⟩,
   ⟨0x2202, 0x2202, 1, 4, .u16, .rws, 2, 0x400, .span 16 0xffff⟩,
   ⟨0x2203, 0x2203, 0, 0, .u16, .rw, 2, 16, .span 1 0x100⟩,
   ⟨0x2204, 0x2204, 0, 0, .u8, .ro, 0, 8, .any⟩,
   ⟨0x2204, 0x2204, 1, 8, .u16, .rws, 2, 8, .span 1 0x3ff⟩,
   ⟨0x2205, 0x2205, 0, 0, .u8, .ro, 0, 2, .any⟩,
   ⟨0x2205, 0x2205, 1, 2, .u16, .rws, 2, 20, .span 1 100⟩,
   ⟨0x2206, 0x2206, 0, 0, .u8, .ro, 0, 2, .any⟩,
   ⟨0x2206, 0x2206, 1, 2, .u8, .rws, 2, 3, .span 1 255⟩,
   ⟨0x2208, 0x2208, 0, 0, .u8, .ro, 0, 2, .any⟩,
   ⟨0x2208, 0x2208, 1, 2, .u8, .rws, 2, 67, .span 0 127⟩,
   ⟨0x2209, 0x2209, 0, 0, .u8, .ro, 0, 4, .any⟩,
   ⟨0x2209, 0x2209, 1, 4, .bool, .rws, 2, 1, .bool⟩,
   ⟨0x220a, 0x220a, 0, 0, .i64, .ro, 2, 0, .any⟩,
   ⟨0x220b, 0x220b, 0, 0, .u64, .ro, 2, 0, .any⟩]

/-- The objects of block 0x2400 (R82, R83; 03_scheduler_outputs.md). -/
def pscObjects : List ObjRow :=
  [⟨0x2410, 0x2410, 0, 0, .u16, .ro, 0, 0, .any⟩,
   ⟨0x2411, 0x2411, 0, 0, .oct, .wo, 1, 0, .len 16 16⟩,
   ⟨0x2412, 0x2412, 0, 0, .u32, .wo, 1, 0, .any⟩,
   ⟨0x2413, 0x2413, 0, 0, .u32, .rw, 0, 0, .flags 0x0 0x3f 0x0⟩,
   ⟨0x2414, 0x2414, 0, 0, .u64, .ro, 0, 0, .any⟩,
   ⟨0x2415, 0x2415, 0, 0, .u64, .ro, 0, 0, .any⟩,
   ⟨0x2416, 0x2416, 0, 0, .u64, .ro, 0, 0, .any⟩,
   ⟨0x2417, 0x2417, 0, 0, .u64, .ro, 0, 0, .any⟩,
   ⟨0x2418, 0x2418, 0, 0, .u64, .ro, 0, 0, .any⟩,
   ⟨0x2419, 0x2419, 0, 0, .u64, .ro, 0, 0xffffffffffffffff, .any⟩,
   ⟨0x2420, 0x2420, 0, 0, .u8, .ro, 0, 48, .any⟩,
   ⟨0x2420, 0x2420, 1, 48, .u8, .rws, 1, 0, .span 0 2⟩,
   ⟨0x2421, 0x2421, 0, 0, .u8, .ro, 0, 48, .any⟩,
   ⟨0x2421, 0x2421, 1, 48, .u8, .rws, 1, 0, .span 0 255⟩,
   ⟨0x2422, 0x2422, 0, 0, .u8, .ro, 0, 48, .any⟩,
   ⟨0x2422, 0x2422, 1, 48, .bool, .rws, 1, 0, .bool⟩,
   ⟨0x2423, 0x2423, 0, 0, .u8, .ro, 0, 48, .any⟩,
   ⟨0x2423, 0x2423, 1, 48, .u8, .rw, 1, 0, .span 0 1⟩,
   ⟨0x2424, 0x2424, 0, 0, .u8, .ro, 0, 48, .any⟩,
   ⟨0x2424, 0x2424, 1, 48, .u32, .rw, 1, 200, .span 2 0xbebc200⟩,
   ⟨0x2425, 0x2425, 0, 0, .u8, .ro, 0, 48, .any⟩,
   ⟨0x2425, 0x2425, 1, 48, .u64, .rw, 1, 0x10000, .span 1 0x1000000000000⟩,
   ⟨0x2426, 0x2426, 0, 0, .u8, .ro, 0, 48, .any⟩,
   ⟨0x2426, 0x2426, 1, 48, .u32, .rw, 1, 0x3e8, .span 1 0x2710⟩,
   ⟨0x2427, 0x2427, 0, 0, .u8, .ro, 0, 48, .any⟩,
   ⟨0x2427, 0x2427, 1, 48, .u8, .rw, 1, 0, .span 0 1⟩,
   ⟨0x2428, 0x2428, 0, 0, .u8, .ro, 0, 48, .any⟩,
   ⟨0x2428, 0x2428, 1, 48, .u64, .rw, 1, 0, .any⟩,
   ⟨0x2429, 0x2429, 0, 0, .u8, .ro, 0, 48, .any⟩,
   ⟨0x2429, 0x2429, 1, 48, .u64, .rw, 1, 0, .any⟩,
   ⟨0x242a, 0x242a, 0, 0, .u8, .ro, 0, 48, .any⟩,
   ⟨0x242a, 0x242a, 1, 48, .u8, .rw, 1, 0, .span 0 2⟩,
   ⟨0x242b, 0x242b, 0, 0, .u8, .ro, 0, 48, .any⟩,
   ⟨0x242b, 0x242b, 1, 48, .u64, .ro, 0, 0, .any⟩,
   ⟨0x242c, 0x242c, 0, 0, .u8, .ro, 0, 48, .any⟩,
   ⟨0x242c, 0x242c, 1, 48, .u32, .ro, 0, 0, .any⟩,
   ⟨0x242d, 0x242d, 0, 0, .u8, .ro, 0, 48, .any⟩,
   ⟨0x242d, 0x242d, 1, 48, .u32, .ro, 0, 0, .any⟩,
   ⟨0x242e, 0x242e, 0, 0, .u8, .ro, 0, 48, .any⟩,
   ⟨0x242e, 0x242e, 1, 48, .bool, .ro, 0, 0, .any⟩,
   ⟨0x2600, 0x2600, 0, 0, .u8, .ro, 0, 48, .any⟩,
   ⟨0x2600, 0x2600, 1, 48, .u8, .rws, 2, 1, .span 0 2⟩,
   ⟨0x2601, 0x2601, 0, 0, .u8, .ro, 0, 48, .any⟩,
   ⟨0x2601, 0x2601, 1, 48, .u8, .rws, 2, 1, .span 0 2⟩,
   ⟨0x2602, 0x2602, 0, 0, .u16, .rw, 2, 0, .span 0 0x1ff⟩,
   ⟨0x2603, 0x2603, 0, 0, .oct, .ro, 2, 0, .len 17 17⟩]

/-- The objects of block 0x2800 (R421, R422; 14_event_fabric.md). -/
def evfObjects : List ObjRow :=
  [⟨0x2820, 0x2820, 0, 0, .u32, .rw, 0, 0, .flags 0x0 0x7 0x0⟩,
   ⟨0x2821, 0x2821, 0, 0, .u16, .ro, 0, 0, .any⟩,
   ⟨0x2840, 0x2840, 0, 0, .u8, .ro, 0, 73, .any⟩,
   ⟨0x2840, 0x2840, 1, 73, .u64, .ro, 0, 0, .any⟩,
   ⟨0x2841, 0x2841, 0, 0, .u8, .ro, 0, 73, .any⟩,
   ⟨0x2841, 0x2841, 1, 73, .u32, .ro, 0, 0, .any⟩,
   ⟨0x2842, 0x2842, 0, 0, .u8, .ro, 0, 73, .any⟩,
   ⟨0x2842, 0x2842, 1, 73, .u32, .ro, 0, 0, .any⟩,
   ⟨0x2843, 0x2843, 0, 0, .u8, .ro, 0, 73, .any⟩,
   ⟨0x2843, 0x2843, 1, 73, .u32, .rw, 0, 0, .flags 0 0x1 0⟩,
   ⟨0x2900, 0x29ff, 0, 0, .u8, .ro, 0, 17, .any⟩,
   ⟨0x2900, 0x29ff, 1, 1, .u8, .wo, 1, 0, .span 1 3⟩,
   ⟨0x2900, 0x29ff, 2, 2, .u16, .ro, 0, 0xffff, .any⟩,
   ⟨0x2900, 0x29ff, 3, 3, .u8, .ro, 0, 0, .any⟩,
   ⟨0x2900, 0x29ff, 4, 4, .u16, .rw, 1, 0, .any⟩,
   ⟨0x2900, 0x29ff, 5, 5, .u32, .rw, 1, 0xffffffff, .any⟩,
   ⟨0x2900, 0x29ff, 6, 6, .bool, .rw, 1, 0, .bool⟩,
   ⟨0x2900, 0x29ff, 7, 7, .u32, .rw, 0, 0, .flags 0x0 0x6 0x0⟩,
   ⟨0x2900, 0x29ff, 8, 8, .u64, .ro, 0, 0, .any⟩,
   ⟨0x2900, 0x29ff, 9, 9, .u8, .wo, 1, 0, .span 1 1⟩,
   ⟨0x2900, 0x29ff, 10, 10, .i64, .rw, 1, 0, .any⟩,
   ⟨0x2900, 0x29ff, 11, 11, .u32, .rw, 1, 0, .any⟩,
   ⟨0x2900, 0x29ff, 12, 12, .u32, .rw, 1, 0, .any⟩,
   ⟨0x2900, 0x29ff, 13, 13, .u8, .rw, 1, 0, .spanOr 38 127 0⟩,
   ⟨0x2900, 0x29ff, 14, 14, .bool, .rw, 1, 0, .bool⟩,
   ⟨0x2900, 0x29ff, 15, 15, .oct, .ro, 0, 0, .len 24 24⟩,
   ⟨0x2900, 0x29ff, 16, 16, .u16, .ro, 0, 0, .any⟩,
   ⟨0x2900, 0x29ff, 17, 17, .u32, .ro, 0, 0, .any⟩,
   ⟨0x2a00, 0x2a00, 0, 0, .u64, .ro, 2, 0, .any⟩,
   ⟨0x2a01, 0x2a01, 0, 0, .u64, .ro, 2, 0, .any⟩,
   ⟨0x2a02, 0x2a02, 0, 0, .u32, .ro, 2, 0, .any⟩]

end Sys2Proof.Machine
end

