-- ==== Sys2Proof/Machine/ObjectsB.lean ====
section
/-! DEFINITION. The rows of the object tables of the blocks 0x3000, 0x3400, 0x3800, 0x3C00, 0x4000 (R423 to R429 and each chapter's object tables). -/

namespace Sys2Proof.Machine

/-- The objects of block 0x3000 (R116, R117; 04_camera_ports.md). -/
def cptObjects : List ObjRow :=
  [⟨0x3010, 0x3010, 0, 0, .u32, .rws, 1, 0x1000, .span 0x100 0x10000⟩,
   ⟨0x3011, 0x3011, 0, 0, .u8, .ro, 0, 32, .any⟩,
   ⟨0x3011, 0x3011, 1, 32, .u8, .rws, 1, 0, .span 0 63⟩,
   ⟨0x3012, 0x3012, 0, 0, .u8, .ro, 0, 32, .any⟩,
   ⟨0x3012, 0x3012, 1, 32, .u8, .rws, 1, 2, .span 0 8⟩,
   ⟨0x3013, 0x3013, 0, 0, .u8, .ro, 0, 32, .any⟩,
   ⟨0x3013, 0x3013, 1, 32, .u8, .rws, 1, 7, .span 1 7⟩,
   ⟨0x3014, 0x3014, 0, 0, .u8, .ro, 0, 32, .any⟩,
   ⟨0x3014, 0x3014, 1, 32, .u16, .rws, 1, 0x1000, .spanMult 16 0x4000 16⟩,
   ⟨0x3015, 0x3015, 0, 0, .u8, .ro, 0, 32, .any⟩,
   ⟨0x3015, 0x3015, 1, 32, .u8, .rws, 1, 0, .span 0 10⟩,
   ⟨0x3016, 0x3016, 0, 0, .u8, .ro, 0, 32, .any⟩,
   ⟨0x3016, 0x3016, 1, 32, .u8, .rws, 1, 0, .span 0 15⟩,
   ⟨0x3017, 0x3017, 0, 0, .u8, .ro, 0, 32, .any⟩,
   ⟨0x3017, 0x3017, 1, 32, .u8, .rws, 1, 0, .span 0 1⟩,
   ⟨0x3018, 0x3018, 0, 0, .u8, .ro, 0, 32, .any⟩,
   ⟨0x3018, 0x3018, 1, 32, .u8, .rws, 1, 0, .span 0 23⟩,
   ⟨0x3019, 0x3019, 0, 0, .u8, .ro, 0, 32, .any⟩,
   ⟨0x3019, 0x3019, 1, 32, .u8, .rws, 1, 0, .span 0 31⟩,
   ⟨0x301a, 0x301a, 0, 0, .u8, .ro, 0, 32, .any⟩,
   ⟨0x301a, 0x301a, 1, 32, .u8, .rw, 1, 0, .span 0 1⟩,
   ⟨0x301b, 0x301b, 0, 0, .u8, .ro, 0, 32, .any⟩,
   ⟨0x301b, 0x301b, 1, 32, .u8, .rw, 1, 0, .span 0 1⟩,
   ⟨0x301c, 0x301c, 0, 0, .u8, .ro, 0, 32, .any⟩,
   ⟨0x301c, 0x301c, 1, 32, .u8, .wo, 1, 0, .span 1 1⟩,
   ⟨0x301d, 0x301d, 0, 0, .u8, .ro, 0, 32, .any⟩,
   ⟨0x301d, 0x301d, 1, 32, .u32, .rw, 1, 0xf4240, .span 0x3e8 0x3b9aca00⟩,
   ⟨0x301e, 0x301e, 0, 0, .u8, .ro, 0, 32, .any⟩,
   ⟨0x301e, 0x301e, 1, 32, .u8, .ro, 0, 0, .any⟩,
   ⟨0x301f, 0x301f, 0, 0, .u8, .ro, 0, 32, .any⟩,
   ⟨0x301f, 0x301f, 1, 32, .u32, .rw, 0, 0, .flags 0x0 0x7fff0 0x0⟩,
   ⟨0x3020, 0x3020, 0, 0, .u8, .ro, 0, 32, .any⟩,
   ⟨0x3020, 0x3020, 1, 32, .u8, .ro, 0, 0, .any⟩,
   ⟨0x3021, 0x3021, 0, 0, .u8, .ro, 0, 32, .any⟩,
   ⟨0x3021, 0x3021, 1, 32, .u8, .ro, 0, 0, .any⟩,
   ⟨0x3022, 0x3022, 0, 0, .u8, .ro, 0, 32, .any⟩,
   ⟨0x3022, 0x3022, 1, 32, .u64, .ro, 0, 0, .any⟩,
   ⟨0x3023, 0x3023, 0, 0, .u8, .ro, 0, 32, .any⟩,
   ⟨0x3023, 0x3023, 1, 32, .u64, .ro, 0, 0, .any⟩,
   ⟨0x3024, 0x3024, 0, 0, .u8, .ro, 0, 32, .any⟩,
   ⟨0x3024, 0x3024, 1, 32, .u64, .ro, 0, 0, .any⟩,
   ⟨0x3025, 0x3025, 0, 0, .u8, .ro, 0, 32, .any⟩,
   ⟨0x3025, 0x3025, 1, 32, .u64, .ro, 0, 0, .any⟩,
   ⟨0x3026, 0x3026, 0, 0, .u8, .ro, 0, 32, .any⟩,
   ⟨0x3026, 0x3026, 1, 32, .u32, .ro, 0, 0, .any⟩,
   ⟨0x3027, 0x3027, 0, 0, .u8, .ro, 0, 32, .any⟩,
   ⟨0x3027, 0x3027, 1, 32, .u32, .ro, 0, 0, .any⟩,
   ⟨0x3028, 0x3028, 0, 0, .u8, .ro, 0, 32, .any⟩,
   ⟨0x3028, 0x3028, 1, 32, .u32, .ro, 0, 0, .any⟩,
   ⟨0x3029, 0x3029, 0, 0, .u8, .ro, 0, 32, .any⟩,
   ⟨0x3029, 0x3029, 1, 32, .oct, .ro, 0, 0, .len 16 16⟩,
   ⟨0x302a, 0x302a, 0, 0, .u8, .ro, 0, 32, .any⟩,
   ⟨0x302a, 0x302a, 1, 32, .u32, .rw, 1, 0, .span 0 0x36ee80⟩,
   ⟨0x3030, 0x3030, 0, 0, .u8, .ro, 0, 32, .any⟩,
   ⟨0x3030, 0x3030, 1, 32, .u64, .ro, 0, 0, .any⟩,
   ⟨0x3031, 0x303a, 0, 0, .u8, .ro, 0, 32, .any⟩,
   ⟨0x3031, 0x303a, 1, 32, .u64, .ro, 0, 0, .any⟩,
   ⟨0x3040, 0x3040, 0, 0, .u8, .ro, 0, 32, .any⟩,
   ⟨0x3040, 0x3040, 1, 32, .oct, .wo, 2, 0, .len 8 1032⟩,
   ⟨0x3041, 0x3041, 0, 0, .u8, .ro, 0, 32, .any⟩] ++
  [⟨0x3041, 0x3041, 1, 32, .oct, .ro, 2, 0, .len 4 1028⟩,
   ⟨0x3042, 0x3042, 0, 0, .u8, .ro, 0, 32, .any⟩,
   ⟨0x3042, 0x3042, 1, 32, .u8, .ro, 0, 0, .any⟩,
   ⟨0x3043, 0x3043, 0, 0, .u8, .ro, 0, 32, .any⟩,
   ⟨0x3043, 0x3043, 1, 32, .u32, .rw, 2, 200, .span 10 0x2710⟩,
   ⟨0x3200, 0x3200, 0, 0, .u8, .ro, 0, 32, .any⟩,
   ⟨0x3200, 0x3200, 1, 32, .u32, .rw, 2, 0x1f4, .span 100 0x2710⟩,
   ⟨0x3201, 0x3201, 0, 0, .u8, .ro, 0, 32, .any⟩,
   ⟨0x3201, 0x3201, 1, 32, .u32, .rw, 2, 0x1f4, .span 50 0x1388⟩,
   ⟨0x3202, 0x3202, 0, 0, .u8, .ro, 0, 32, .any⟩,
   ⟨0x3202, 0x3202, 1, 32, .u16, .rws, 2, 64, .span 8 0x100⟩,
   ⟨0x3203, 0x3203, 0, 0, .u8, .ro, 0, 32, .any⟩,
   ⟨0x3203, 0x3203, 1, 32, .bool, .rws, 2, 0, .bool⟩,
   ⟨0x3204, 0x3204, 0, 0, .u8, .ro, 0, 32, .any⟩,
   ⟨0x3204, 0x3204, 1, 32, .u32, .rw, 2, 0x3e8, .span 100 0xf4240⟩,
   ⟨0x3205, 0x3205, 0, 0, .u8, .ro, 0, 32, .any⟩,
   ⟨0x3205, 0x3205, 1, 32, .u32, .rws, 2, 0x536, .span 0x536 0xbebc200⟩,
   ⟨0x3206, 0x3206, 0, 0, .u8, .ro, 0, 32, .any⟩,
   ⟨0x3206, 0x3206, 1, 32, .u32, .ro, 2, 0, .any⟩,
   ⟨0x3207, 0x3207, 0, 0, .u8, .ro, 0, 32, .any⟩,
   ⟨0x3207, 0x3207, 1, 32, .u32, .rw, 2, 0, .resets 0x0⟩,
   ⟨0x3208, 0x3208, 0, 0, .u8, .ro, 0, 32, .any⟩,
   ⟨0x3208, 0x3208, 1, 32, .u32, .rw, 2, 0xffffffff, .resets 0xffffffff⟩,
   ⟨0x3209, 0x3209, 0, 0, .u8, .ro, 0, 32, .any⟩,
   ⟨0x3209, 0x3209, 1, 32, .u16, .rw, 2, 0, .zero⟩,
   ⟨0x320a, 0x320a, 0, 0, .u8, .ro, 0, 32, .any⟩,
   ⟨0x320a, 0x320a, 1, 32, .u8, .rw, 2, 0, .zero⟩,
   ⟨0x320b, 0x320b, 0, 0, .u8, .ro, 0, 32, .any⟩,
   ⟨0x320b, 0x320b, 1, 32, .u32, .ro, 2, 0, .any⟩,
   ⟨0x320c, 0x320c, 0, 0, .u8, .ro, 0, 32, .any⟩,
   ⟨0x320c, 0x320c, 1, 32, .u16, .rws, 2, 0x258, .span 0x190 0x320⟩]

/-- The objects of block 0x3400 (R151, R152; 05_pixel_corrections.md). -/
def iplObjects : List ObjRow :=
  [⟨0x3410, 0x3410, 0, 0, .u8, .rws, 1, 1, .span 0 2⟩,
   ⟨0x3411, 0x3411, 0, 0, .u8, .ro, 0, 17, .any⟩,
   ⟨0x3411, 0x3411, 1, 17, .u32, .ro, 0, 0, .any⟩,
   ⟨0x3412, 0x3412, 0, 0, .u8, .ro, 0, 17, .any⟩,
   ⟨0x3412, 0x3412, 1, 17, .u64, .ro, 0, 0, .any⟩,
   ⟨0x3413, 0x3413, 0, 0, .u8, .ro, 0, 17, .any⟩,
   ⟨0x3413, 0x3413, 1, 17, .u64, .ro, 0, 0, .any⟩,
   ⟨0x3414, 0x3414, 0, 0, .u8, .ro, 0, 17, .any⟩,
   ⟨0x3414, 0x3414, 1, 17, .u64, .ro, 0, 0, .any⟩,
   ⟨0x3415, 0x3415, 0, 0, .u8, .ro, 0, 17, .any⟩,
   ⟨0x3415, 0x3415, 1, 17, .u32, .rw, 0, 0, .flags 0x0 0x78 0x0⟩,
   ⟨0x3416, 0x3416, 0, 0, .u8, .ro, 0, 17, .any⟩,
   ⟨0x3416, 0x3416, 1, 17, .u64, .ro, 0, 0, .any⟩,
   ⟨0x3417, 0x3417, 0, 0, .u8, .ro, 0, 17, .any⟩,
   ⟨0x3417, 0x3417, 1, 17, .u32, .ro, 0, 0, .any⟩,
   ⟨0x3420, 0x3420, 0, 0, .u8, .rw, 1, 255, .spanOr 0 15 255⟩,
   ⟨0x3421, 0x3421, 0, 0, .u8, .wo, 1, 0, .span 1 3⟩,
   ⟨0x3422, 0x3422, 0, 0, .u8, .ro, 0, 0, .any⟩,
   ⟨0x3423, 0x3423, 0, 0, .u8, .ro, 0, 255, .any⟩,
   ⟨0x3424, 0x3424, 0, 0, .u64, .ro, 0, 0, .any⟩,
   ⟨0x3425, 0x3425, 0, 0, .u32, .ro, 0, 0, .any⟩,
   ⟨0x3426, 0x3426, 0, 0, .u64, .ro, 0, 0, .any⟩,
   ⟨0x3430, 0x3430, 0, 0, .u8, .ro, 0, 32, .any⟩,
   ⟨0x3430, 0x3430, 1, 32, .u16, .rwb, 1, 255, .flags 0xff 0x0 0x0⟩,
   ⟨0x3431, 0x3431, 0, 0, .u8, .ro, 0, 32, .any⟩,
   ⟨0x3431, 0x3431, 1, 32, .u16, .rwb, 1, 0, .any⟩,
   ⟨0x3432, 0x3432, 0, 0, .u8, .ro, 0, 32, .any⟩,
   ⟨0x3432, 0x3432, 1, 32, .u16, .rwb, 1, 0, .any⟩,
   ⟨0x3433, 0x3433, 0, 0, .u8, .ro, 0, 32, .any⟩,
   ⟨0x3433, 0x3433, 1, 32, .u16, .rwb, 1, 0, .any⟩,
   ⟨0x3434, 0x3434, 0, 0, .u8, .ro, 0, 32, .any⟩,
   ⟨0x3434, 0x3434, 1, 32, .dom, .rwb, 1, 0, .len 0 16777216⟩,
   ⟨0x3435, 0x3435, 0, 0, .u8, .ro, 0, 32, .any⟩,
   ⟨0x3435, 0x3435, 1, 32, .dom, .rwb, 1, 0, .len 0 16384⟩,
   ⟨0x3436, 0x3436, 0, 0, .u8, .ro, 0, 32, .any⟩,
   ⟨0x3436, 0x3436, 1, 32, .oct, .rwb, 1, 0, .len 390 390⟩,
   ⟨0x3437, 0x3437, 0, 0, .u8, .ro, 0, 32, .any⟩,
   ⟨0x3437, 0x3437, 1, 32, .oct, .rwb, 1, 0, .len 30 30⟩,
   ⟨0x3438, 0x3438, 0, 0, .u8, .ro, 0, 32, .any⟩,
   ⟨0x3438, 0x3438, 1, 32, .dom, .rwb, 1, 0, .len 1542 1542⟩,
   ⟨0x3439, 0x3439, 0, 0, .u8, .ro, 0, 32, .any⟩,
   ⟨0x3439, 0x3439, 1, 32, .dom, .rwb, 1, 0, .len 215622 215622⟩,
   ⟨0x343a, 0x343a, 0, 0, .u8, .ro, 0, 32, .any⟩,
   ⟨0x343a, 0x343a, 1, 32, .oct, .rwg, 1, 0, .len 16 16⟩,
   ⟨0x343b, 0x343b, 0, 0, .u8, .ro, 0, 32, .any⟩,
   ⟨0x343b, 0x343b, 1, 32, .u16, .rws, 1, 0, .spanMult 0 0x4000 16⟩,
   ⟨0x343c, 0x343c, 0, 0, .u8, .ro, 0, 32, .any⟩,
   ⟨0x343c, 0x343c, 1, 32, .u8, .rws, 1, 0, .span 0 3⟩,
   ⟨0x343d, 0x343d, 0, 0, .u8, .ro, 0, 32, .any⟩,
   ⟨0x343d, 0x343d, 1, 32, .u8, .rws, 1, 1, .span 1 32⟩,
   ⟨0x343e, 0x343e, 0, 0, .u8, .ro, 0, 32, .any⟩,
   ⟨0x343e, 0x343e, 1, 32, .u8, .rws, 1, 0, .span 0 1⟩,
   ⟨0x343f, 0x343f, 0, 0, .u8, .ro, 0, 32, .any⟩,
   ⟨0x343f, 0x343f, 1, 32, .u16, .rwb, 1, 0, .spanOr 1 0xffff 0⟩,
   ⟨0x3440, 0x3440, 0, 0, .u8, .ro, 0, 32, .any⟩,
   ⟨0x3440, 0x3440, 1, 32, .u32, .ro, 0, 0, .flags 0x0 0x0 0x0⟩,
   ⟨0x3441, 0x3441, 0, 0, .u8, .ro, 0, 32, .any⟩,
   ⟨0x3441, 0x3441, 1, 32, .oct, .ro, 0, 0, .len 16 16⟩,
   ⟨0x3442, 0x3442, 0, 0, .u8, .ro, 0, 32, .any⟩,
   ⟨0x3442, 0x3442, 1, 32, .u16, .ro, 0, 0, .any⟩] ++
  [⟨0x3450, 0x3450, 0, 0, .u8, .rwb, 1, 0, .span 0 1⟩,
   ⟨0x3451, 0x3451, 0, 0, .bool, .rw, 1, 1, .bool⟩,
   ⟨0x3600, 0x3600, 0, 0, .u8, .ro, 0, 32, .any⟩,
   ⟨0x3600, 0x3600, 1, 32, .u16, .rwb, 2, 0x800, .span 0 0xffff⟩,
   ⟨0x3601, 0x3601, 0, 0, .u8, .ro, 0, 32, .any⟩,
   ⟨0x3601, 0x3601, 1, 32, .u8, .rws, 2, 0, .span 0 1⟩,
   ⟨0x3602, 0x3602, 0, 0, .u8, .ro, 0, 32, .any⟩,
   ⟨0x3602, 0x3602, 1, 32, .u32, .rw, 2, 0x1000, .span 1 0x10000⟩,
   ⟨0x3603, 0x3603, 0, 0, .u32, .ro, 2, 0, .any⟩,
   ⟨0x3604, 0x3604, 0, 0, .bool, .rw, 2, 1, .bool⟩,
   ⟨0x3605, 0x3605, 0, 0, .u8, .ro, 0, 17, .any⟩,
   ⟨0x3605, 0x3605, 1, 17, .u16, .rw, 2, 0, .zero⟩,
   ⟨0x3606, 0x3606, 0, 0, .u8, .ro, 0, 17, .any⟩,
   ⟨0x3606, 0x3606, 1, 17, .u32, .ro, 2, 0, .any⟩]

/-- The objects of block 0x3800 (R187, R188; 06_stitching_braid.md). -/
def stxObjects : List ObjRow :=
  [⟨0x3810, 0x3810, 0, 0, .u8, .ro, 0, 32, .any⟩,
   ⟨0x3810, 0x3810, 1, 32, .i32, .rws, 1, 0, .span (-16384) 0x3ffff⟩,
   ⟨0x3811, 0x3811, 0, 0, .u8, .ro, 0, 32, .any⟩,
   ⟨0x3811, 0x3811, 1, 32, .bool, .rws, 1, 1, .bool⟩,
   ⟨0x3812, 0x3812, 0, 0, .u8, .ro, 0, 32, .any⟩,
   ⟨0x3812, 0x3812, 1, 32, .i32, .rwg, 1, 0, .span (-65536) 0xfffffff⟩,
   ⟨0x3813, 0x3813, 0, 0, .u8, .ro, 0, 32, .any⟩,
   ⟨0x3813, 0x3813, 1, 32, .i32, .rwg, 1, 0, .span (-1048576) 0x100000⟩,
   ⟨0x3814, 0x3814, 0, 0, .u8, .ro, 0, 32, .any⟩,
   ⟨0x3814, 0x3814, 1, 32, .i32, .ro, 0, 0, .any⟩,
   ⟨0x3815, 0x3815, 0, 0, .u8, .ro, 0, 32, .any⟩,
   ⟨0x3815, 0x3815, 1, 32, .i32, .ro, 0, 0, .any⟩,
   ⟨0x3816, 0x3816, 0, 0, .u8, .ro, 0, 32, .any⟩,
   ⟨0x3816, 0x3816, 1, 32, .u64, .ro, 0, 0, .any⟩,
   ⟨0x3817, 0x3817, 0, 0, .u8, .ro, 0, 32, .any⟩,
   ⟨0x3817, 0x3817, 1, 32, .u64, .ro, 0, 0, .any⟩,
   ⟨0x3818, 0x3818, 0, 0, .u32, .rws, 1, 0, .span 0 0x3ffff⟩,
   ⟨0x3819, 0x3819, 0, 0, .u32, .rws, 1, 0, .span 0 0x40000⟩,
   ⟨0x381a, 0x381a, 0, 0, .u16, .rwb, 1, 16, .spanMult 0 0x100 2⟩,
   ⟨0x381b, 0x381b, 0, 0, .bool, .rw, 1, 1, .bool⟩,
   ⟨0x381c, 0x381c, 0, 0, .u8, .rw, 1, 0, .span 0 1⟩,
   ⟨0x381d, 0x381d, 0, 0, .u8, .rws, 1, 0, .span 0 31⟩,
   ⟨0x381e, 0x381e, 0, 0, .u32, .rw, 0, 0, .flags 0x0 0x1ce 0x0⟩,
   ⟨0x381f, 0x381f, 0, 0, .u64, .ro, 0, 0, .any⟩,
   ⟨0x3820, 0x3820, 0, 0, .dom, .rwb, 1, 0, .len 1028 1028⟩,
   ⟨0x3821, 0x3821, 0, 0, .u8, .ro, 0, 0, .any⟩,
   ⟨0x3822, 0x3822, 0, 0, .u8, .ro, 0, 33, .any⟩,
   ⟨0x3822, 0x3822, 1, 33, .i16, .ro, 0, 0, .any⟩,
   ⟨0x3823, 0x3823, 0, 0, .u8, .ro, 0, 33, .any⟩,
   ⟨0x3823, 0x3823, 1, 33, .i16, .ro, 0, 0, .any⟩,
   ⟨0x3824, 0x3824, 0, 0, .u8, .ro, 0, 33, .any⟩,
   ⟨0x3824, 0x3824, 1, 33, .u16, .ro, 0, 0, .any⟩,
   ⟨0x3825, 0x3825, 0, 0, .u8, .ro, 0, 33, .any⟩,
   ⟨0x3825, 0x3825, 1, 33, .i32, .ro, 0, 0, .any⟩,
   ⟨0x3826, 0x3826, 0, 0, .u64, .ro, 0, 0, .any⟩,
   ⟨0x3a00, 0x3a00, 0, 0, .u8, .rws, 2, 8, .span 0 64⟩,
   ⟨0x3a01, 0x3a01, 0, 0, .u32, .rw, 2, 0x1000, .span 1 0x10000⟩,
   ⟨0x3a02, 0x3a02, 0, 0, .u16, .rw, 2, 128, .span 0 0x100⟩,
   ⟨0x3a03, 0x3a03, 0, 0, .u8, .rw, 2, 160, .span 0 255⟩,
   ⟨0x3a04, 0x3a04, 0, 0, .u16, .rw, 2, 32, .span 0 0x400⟩,
   ⟨0x3a05, 0x3a05, 0, 0, .u8, .rws, 2, 8, .span 1 16⟩,
   ⟨0x3a06, 0x3a06, 0, 0, .u8, .ro, 0, 16, .any⟩,
   ⟨0x3a06, 0x3a06, 1, 16, .u32, .ro, 2, 0, .any⟩,
   ⟨0x3a07, 0x3a07, 0, 0, .u32, .ro, 2, 0, .any⟩,
   ⟨0x3a08, 0x3a08, 0, 0, .u32, .ro, 2, 0, .any⟩,
   ⟨0x3a09, 0x3a09, 0, 0, .u16, .rws, 2, 0, .span 0 0xffff⟩]

/-- The objects of block 0x3C00 (R189, R190; 06_stitching_braid.md). -/
def brdObjects : List ObjRow :=
  [⟨0x3c10, 0x3c10, 0, 0, .u8, .ro, 0, 4, .any⟩,
   ⟨0x3c10, 0x3c10, 1, 4, .u8, .rws, 1, 0, .span 0 2⟩,
   ⟨0x3c11, 0x3c11, 0, 0, .u16, .rws, 1, 64, .spanMult 32 0x100 2⟩,
   ⟨0x3c12, 0x3c12, 0, 0, .u8, .rw, 1, 1, .span 0 2⟩,
   ⟨0x3c13, 0x3c13, 0, 0, .u8, .ro, 0, 4, .any⟩,
   ⟨0x3c13, 0x3c13, 1, 4, .u8, .ro, 0, 0, .any⟩,
   ⟨0x3c14, 0x3c14, 0, 0, .u8, .ro, 0, 4, .any⟩,
   ⟨0x3c14, 0x3c14, 1, 4, .u32, .rw, 0, 0, .flags 0x0 0x3fc 0x0⟩,
   ⟨0x3c15, 0x3c15, 0, 0, .u8, .ro, 0, 4, .any⟩,
   ⟨0x3c15, 0x3c15, 1, 4, .oct, .ro, 0, 0, .len 16 16⟩,
   ⟨0x3c16, 0x3c16, 0, 0, .u8, .ro, 0, 4, .any⟩,
   ⟨0x3c16, 0x3c16, 1, 4, .u8, .ro, 0, 0, .any⟩,
   ⟨0x3c17, 0x3c17, 0, 0, .u8, .ro, 0, 4, .any⟩,
   ⟨0x3c17, 0x3c17, 1, 4, .u16, .ro, 0, 0, .any⟩,
   ⟨0x3c18, 0x3c18, 0, 0, .u8, .ro, 0, 4, .any⟩,
   ⟨0x3c18, 0x3c18, 1, 4, .u64, .ro, 0, 0, .any⟩,
   ⟨0x3c19, 0x3c19, 0, 0, .u8, .ro, 0, 4, .any⟩,
   ⟨0x3c19, 0x3c19, 1, 4, .u64, .ro, 0, 0, .any⟩,
   ⟨0x3c1a, 0x3c1a, 0, 0, .u8, .ro, 0, 4, .any⟩,
   ⟨0x3c1a, 0x3c1a, 1, 4, .u64, .ro, 0, 0, .any⟩,
   ⟨0x3c1b, 0x3c1b, 0, 0, .u8, .ro, 0, 4, .any⟩,
   ⟨0x3c1b, 0x3c1b, 1, 4, .u64, .ro, 0, 0, .any⟩,
   ⟨0x3c1c, 0x3c1c, 0, 0, .u8, .ro, 0, 4, .any⟩,
   ⟨0x3c1c, 0x3c1c, 1, 4, .u32, .ro, 0, 0, .any⟩,
   ⟨0x3c1d, 0x3c1d, 0, 0, .u8, .ro, 0, 4, .any⟩,
   ⟨0x3c1d, 0x3c1d, 1, 4, .u32, .ro, 0, 0, .any⟩,
   ⟨0x3c1e, 0x3c1e, 0, 0, .u8, .ro, 0, 2, .any⟩,
   ⟨0x3c1e, 0x3c1e, 1, 2, .u8, .ro, 0, 2, .any⟩,
   ⟨0x3e00, 0x3e00, 0, 0, .u8, .ro, 0, 4, .any⟩,
   ⟨0x3e00, 0x3e00, 1, 4, .u8, .rws, 2, 255, .spanOr 0 7 255⟩,
   ⟨0x3e01, 0x3e01, 0, 0, .u8, .ro, 0, 4, .any⟩,
   ⟨0x3e01, 0x3e01, 1, 4, .u16, .rws, 2, 10, .span 1 32⟩,
   ⟨0x3e02, 0x3e02, 0, 0, .u8, .ro, 0, 4, .any⟩,
   ⟨0x3e02, 0x3e02, 1, 4, .u32, .rw, 2, 0x3e8, .span 10 0xea60⟩,
   ⟨0x3e03, 0x3e03, 0, 0, .u8, .ro, 0, 4, .any⟩,
   ⟨0x3e03, 0x3e03, 1, 4, .u32, .rw, 2, 0x3e8, .span 100 0x186a0⟩,
   ⟨0x3e04, 0x3e04, 0, 0, .u8, .ro, 0, 4, .any⟩,
   ⟨0x3e04, 0x3e04, 1, 4, .oct, .ro, 2, 0, .len 8 8⟩,
   ⟨0x3e05, 0x3e05, 0, 0, .u8, .ro, 0, 4, .any⟩,
   ⟨0x3e05, 0x3e05, 1, 4, .oct, .ro, 2, 0, .len 8 8⟩,
   ⟨0x3e06, 0x3e06, 0, 0, .u8, .ro, 0, 4, .any⟩,
   ⟨0x3e06, 0x3e06, 1, 4, .oct, .ro, 2, 0, .len 8 8⟩,
   ⟨0x3e07, 0x3e07, 0, 0, .u8, .ro, 0, 4, .any⟩,
   ⟨0x3e07, 0x3e07, 1, 4, .u16, .rw, 2, 0, .zero⟩,
   ⟨0x3e08, 0x3e08, 0, 0, .u8, .ro, 0, 4, .any⟩,
   ⟨0x3e08, 0x3e08, 1, 4, .u32, .ro, 2, 0, .any⟩]

/-- The objects of block 0x4000 (R232, R233; 07_master_inspection.md). -/
def mreObjects : List ObjRow :=
  [⟨0x4010, 0x4010, 0, 0, .u8, .rws, 1, 0, .spanOr 0 7 255⟩,
   ⟨0x4011, 0x4011, 0, 0, .oct, .wo, 1, 0, .len 32 32⟩,
   ⟨0x4012, 0x4012, 0, 0, .i64, .rws, 1, 0x2000000, .any⟩,
   ⟨0x4013, 0x4013, 0, 0, .u64, .rws, 1, 0x400000, .span 0x10000 0x10000000⟩,
   ⟨0x4014, 0x4014, 0, 0, .u8, .rw, 1, 2, .span 0 255⟩,
   ⟨0x4015, 0x4015, 0, 0, .u64, .rws, 1, 0x1000000000000, .any⟩,
   ⟨0x4016, 0x4016, 0, 0, .u8, .wo, 1, 0, .span 1 4⟩,
   ⟨0x4017, 0x4017, 0, 0, .u16, .ro, 0, 0, .any⟩,
   ⟨0x4018, 0x4018, 0, 0, .u16, .ro, 0, 0, .any⟩,
   ⟨0x4019, 0x4019, 0, 0, .u16, .rw, 1, 2, .span 0 0x100⟩,
   ⟨0x401a, 0x401a, 0, 0, .u8, .ro, 0, 0, .any⟩,
   ⟨0x401b, 0x401b, 0, 0, .u32, .ro, 0, 0, .any⟩,
   ⟨0x401c, 0x401c, 0, 0, .u64, .ro, 0, 0, .any⟩,
   ⟨0x401d, 0x401d, 0, 0, .u32, .ro, 0, 0, .any⟩,
   ⟨0x401e, 0x401e, 0, 0, .u32, .rw, 0, 0, .flags 0x0 0x1fff8 0x0⟩,
   ⟨0x401f, 0x401f, 0, 0, .u8, .rws, 1, 0, .span 0 2⟩,
   ⟨0x4020, 0x4020, 0, 0, .u8, .rw, 1, 0, .span 0 1⟩,
   ⟨0x4021, 0x4021, 0, 0, .oct, .rw, 1, 0, .len 6 6⟩,
   ⟨0x4022, 0x4022, 0, 0, .dom, .rwb, 1, 0, .len 1024 1024⟩,
   ⟨0x4023, 0x4023, 0, 0, .oct, .rwb, 1, 0, .len 6 6⟩,
   ⟨0x4024, 0x4024, 0, 0, .u64, .ro, 0, 0, .any⟩,
   ⟨0x4025, 0x4025, 0, 0, .u64, .ro, 0, 0, .any⟩,
   ⟨0x4026, 0x4026, 0, 0, .u64, .ro, 0, 0, .any⟩,
   ⟨0x4027, 0x4027, 0, 0, .u64, .ro, 0, 0, .any⟩,
   ⟨0x4028, 0x4028, 0, 0, .u64, .ro, 0, 0, .any⟩,
   ⟨0x4029, 0x4029, 0, 0, .u64, .ro, 0, 0, .any⟩,
   ⟨0x402a, 0x402a, 0, 0, .u64, .ro, 0, 0, .any⟩,
   ⟨0x402b, 0x402b, 0, 0, .u64, .ro, 0, 0, .any⟩,
   ⟨0x402c, 0x402c, 0, 0, .u64, .ro, 0, 0, .any⟩,
   ⟨0x402d, 0x402d, 0, 0, .u64, .ro, 0, 0, .any⟩,
   ⟨0x4200, 0x4200, 0, 0, .u16, .rws, 2, 0x400, .spanMult 0x100 0x2000 64⟩,
   ⟨0x4201, 0x4201, 0, 0, .u16, .rws, 2, 0x100, .spanMult 64 0x400 64⟩,
   ⟨0x4202, 0x4202, 0, 0, .u8, .rws, 2, 4, .span 1 16⟩,
   ⟨0x4203, 0x4203, 0, 0, .u16, .rw, 2, 64, .span 0 0x100⟩,
   ⟨0x4204, 0x4204, 0, 0, .u16, .rw, 2, 64, .span 0 0x100⟩,
   ⟨0x4205, 0x4205, 0, 0, .u16, .rw, 2, 64, .span 1 0x400⟩,
   ⟨0x4206, 0x4206, 0, 0, .u16, .rw, 2, 0x1000, .span 0x100 0x1000⟩,
   ⟨0x4207, 0x4207, 0, 0, .u8, .rw, 2, 128, .span 0 255⟩,
   ⟨0x4208, 0x4208, 0, 0, .u16, .rw, 2, 0x200, .span 0 0xffff⟩,
   ⟨0x4209, 0x4209, 0, 0, .u8, .rw, 2, 0, .span 0 2⟩,
   ⟨0x420a, 0x420a, 0, 0, .u32, .rws, 2, 0x100, .span 64 0x10000⟩,
   ⟨0x420b, 0x420b, 0, 0, .u16, .rws, 2, 16, .span 1 0x100⟩,
   ⟨0x420c, 0x420c, 0, 0, .u16, .rws, 2, 64, .span 1 0x100⟩,
   ⟨0x420d, 0x420d, 0, 0, .u32, .rw, 2, 0x7d0, .span 10 0xea60⟩,
   ⟨0x420e, 0x420e, 0, 0, .oct, .rwb, 2, 0, .len 6 6⟩,
   ⟨0x420f, 0x420f, 0, 0, .u16, .rws, 2, 128, .span 64 0x400⟩,
   ⟨0x4210, 0x4210, 0, 0, .u8, .rw, 2, 64, .span 0 255⟩,
   ⟨0x4211, 0x4211, 0, 0, .dom, .ro, 2, 0, .len 0 16777216⟩,
   ⟨0x4212, 0x4212, 0, 0, .u32, .ro, 2, 0, .any⟩,
   ⟨0x4213, 0x4213, 0, 0, .u32, .ro, 2, 0, .any⟩]

end Sys2Proof.Machine
end

