-- ==== Sys2Proof/Machine/ObjectsC.lean ====
section
/-! DEFINITION. The rows of the object tables of the blocks 0x4400, 0x4800, 0x4C00, 0x5000, 0x5400 (R423 to R429 and each chapter's object tables). -/

namespace Sys2Proof.Machine

/-- The objects of block 0x4400 (R257, R258; 08_compression.md). -/
def cdeObjects : List ObjRow :=
  [⟨0x4410, 0x4410, 0, 0, .u32, .rw, 0, 0, .flags 0x0 0x7e 0x0⟩,
   ⟨0x4411, 0x4411, 0, 0, .oct, .wo, 1, 0, .len 64 64⟩,
   ⟨0x4412, 0x4412, 0, 0, .u8, .ro, 0, 0, .any⟩,
   ⟨0x4413, 0x4413, 0, 0, .oct, .ro, 0, 0, .len 32 32⟩,
   ⟨0x4414, 0x4414, 0, 0, .u64, .ro, 0, 0, .any⟩,
   ⟨0x4415, 0x4415, 0, 0, .u64, .ro, 0, 0, .any⟩,
   ⟨0x4416, 0x4416, 0, 0, .u64, .ro, 0, 0, .any⟩,
   ⟨0x4417, 0x4417, 0, 0, .u64, .ro, 0, 0, .any⟩,
   ⟨0x4418, 0x4418, 0, 0, .u64, .ro, 0, 0, .any⟩,
   ⟨0x4419, 0x4419, 0, 0, .u64, .ro, 0, 0, .any⟩,
   ⟨0x441a, 0x441a, 0, 0, .u64, .ro, 0, 0, .any⟩,
   ⟨0x441b, 0x441b, 0, 0, .u64, .ro, 0, 0, .any⟩,
   ⟨0x441c, 0x441c, 0, 0, .u64, .ro, 0, 0, .any⟩,
   ⟨0x441d, 0x441d, 0, 0, .u32, .wo, 1, 0, .any⟩,
   ⟨0x4600, 0x4600, 0, 0, .u32, .rw, 2, 0x10000, .span 0x1000 0x100000⟩,
   ⟨0x4601, 0x4601, 0, 0, .u8, .rws, 2, 16, .span 1 16⟩,
   ⟨0x4602, 0x4602, 0, 0, .u8, .ro, 0, 20, .any⟩,
   ⟨0x4602, 0x4602, 1, 20, .u64, .ro, 2, 0, .any⟩,
   ⟨0x4603, 0x4603, 0, 0, .u8, .ro, 0, 20, .any⟩,
   ⟨0x4603, 0x4603, 1, 20, .u64, .ro, 2, 0, .any⟩,
   ⟨0x4604, 0x4604, 0, 0, .u32, .ro, 2, 0, .any⟩,
   ⟨0x4605, 0x4605, 0, 0, .u32, .ro, 2, 0, .any⟩]

/-- The objects of block 0x4800 (R289, R290; 09_segment_engines.md). -/
def segObjects : List ObjRow :=
  [⟨0x4810, 0x4810, 0, 0, .u8, .rws, 1, 0, .span 0 1⟩,
   ⟨0x4811, 0x4811, 0, 0, .u16, .rwb, 1, 0x200, .span 1 0xffff⟩,
   ⟨0x4812, 0x4812, 0, 0, .u16, .rwb, 1, 0x400, .span 1 0xffff⟩,
   ⟨0x4813, 0x4813, 0, 0, .u8, .rwb, 1, 3, .span 1 3⟩,
   ⟨0x4814, 0x4814, 0, 0, .u32, .rwb, 1, 4, .span 1 0xffffffff⟩,
   ⟨0x4815, 0x4815, 0, 0, .u8, .rwb, 1, 0, .span 0 2⟩,
   ⟨0x4816, 0x4816, 0, 0, .u8, .rwb, 1, 5, .flags 0x7 0x0 0x0⟩,
   ⟨0x4817, 0x4817, 0, 0, .u16, .rwb, 1, 0x2d14, .any⟩,
   ⟨0x4818, 0x4818, 0, 0, .u32, .rwb, 1, 0x10000, .span 0x100 0x100000⟩,
   ⟨0x4819, 0x4819, 0, 0, .u32, .rw, 1, 100, .span 0 0x2710⟩,
   ⟨0x481a, 0x481a, 0, 0, .u8, .ro, 0, 0, .any⟩,
   ⟨0x481b, 0x481b, 0, 0, .u16, .ro, 0, 0, .any⟩,
   ⟨0x481c, 0x481c, 0, 0, .u16, .rw, 1, 0, .zero⟩,
   ⟨0x481d, 0x481d, 0, 0, .u32, .rw, 0, 0, .flags 0x0 0x17f 0x0⟩,
   ⟨0x481e, 0x481e, 0, 0, .u64, .ro, 0, 0, .any⟩,
   ⟨0x481f, 0x481f, 0, 0, .u64, .ro, 0, 0, .any⟩,
   ⟨0x4820, 0x4820, 0, 0, .u64, .ro, 0, 0, .any⟩,
   ⟨0x4821, 0x4821, 0, 0, .u64, .ro, 0, 0, .any⟩,
   ⟨0x4822, 0x4822, 0, 0, .u64, .ro, 0, 0, .any⟩,
   ⟨0x4823, 0x4823, 0, 0, .u64, .ro, 0, 0, .any⟩,
   ⟨0x4824, 0x4824, 0, 0, .u64, .ro, 0, 0, .any⟩,
   ⟨0x4825, 0x4825, 0, 0, .u8, .rws, 1, 0, .span 0 1⟩,
   ⟨0x4826, 0x4826, 0, 0, .oct, .rwb, 1, 0, .len 6 6⟩,
   ⟨0x4827, 0x4827, 0, 0, .oct, .rwb, 1, 0, .len 6 6⟩,
   ⟨0x4830, 0x4830, 0, 0, .u8, .ro, 0, 36, .any⟩,
   ⟨0x4830, 0x4830, 1, 36, .u8, .ro, 0, 0, .any⟩,
   ⟨0x4831, 0x4831, 0, 0, .u8, .ro, 0, 36, .any⟩,
   ⟨0x4831, 0x4831, 1, 36, .u8, .ro, 0, 0, .any⟩,
   ⟨0x4832, 0x4832, 0, 0, .u8, .ro, 0, 36, .any⟩,
   ⟨0x4832, 0x4832, 1, 36, .u32, .ro, 0, 0, .any⟩,
   ⟨0x4833, 0x4833, 0, 0, .u8, .ro, 0, 36, .any⟩,
   ⟨0x4833, 0x4833, 1, 36, .u64, .ro, 0, 0, .any⟩,
   ⟨0x4834, 0x4834, 0, 0, .u8, .ro, 0, 36, .any⟩,
   ⟨0x4834, 0x4834, 1, 36, .u8, .wo, 1, 0, .span 1 1⟩,
   ⟨0x4840, 0x4840, 0, 0, .u8, .ro, 0, 4, .any⟩,
   ⟨0x4840, 0x4840, 1, 4, .u8, .rw, 1, 255, .spanOr 0 31 255⟩,
   ⟨0x4841, 0x4841, 0, 0, .u8, .ro, 0, 4, .any⟩,
   ⟨0x4841, 0x4841, 1, 4, .u8, .wo, 1, 0, .span 1 3⟩,
   ⟨0x4842, 0x4842, 0, 0, .u8, .ro, 0, 4, .any⟩,
   ⟨0x4842, 0x4842, 1, 4, .u8, .ro, 0, 0, .any⟩,
   ⟨0x4843, 0x4843, 0, 0, .u8, .ro, 0, 4, .any⟩,
   ⟨0x4843, 0x4843, 1, 4, .u64, .ro, 0, 0, .any⟩,
   ⟨0x4844, 0x4844, 0, 0, .u8, .ro, 0, 4, .any⟩,
   ⟨0x4844, 0x4844, 1, 4, .u64, .ro, 0, 0, .any⟩,
   ⟨0x4845, 0x4845, 0, 0, .u32, .ro, 0, 0, .any⟩,
   ⟨0x4a00, 0x4a00, 0, 0, .u16, .rw, 2, 0x1000, .span 16 0x1000⟩,
   ⟨0x4a01, 0x4a01, 0, 0, .u16, .rws, 2, 64, .span 8 0x400⟩,
   ⟨0x4a02, 0x4a02, 0, 0, .u8, .rws, 2, 10, .span 4 16⟩,
   ⟨0x4a03, 0x4a03, 0, 0, .u32, .rws, 2, 0x400, .span 0 0x100000⟩,
   ⟨0x4a04, 0x4a04, 0, 0, .bool, .rw, 2, 1, .bool⟩,
   ⟨0x4a05, 0x4a05, 0, 0, .u16, .rw, 2, 0, .zero⟩,
   ⟨0x4a06, 0x4a06, 0, 0, .u32, .ro, 2, 0, .any⟩,
   ⟨0x4a07, 0x4a07, 0, 0, .u32, .ro, 2, 0, .any⟩]

/-- The objects of block 0x4C00 (R316, R317; 10_classification_ledger.md). -/
def clsObjects : List ObjRow :=
  [⟨0x4c10, 0x4c10, 0, 0, .dom, .rwb, 1, 0, .len 1024 1024⟩,
   ⟨0x4c11, 0x4c11, 0, 0, .dom, .rwb, 1, 0, .len 256 256⟩,
   ⟨0x4c12, 0x4c12, 0, 0, .u32, .rw, 0, 0, .flags 0x0 0x17 0x0⟩,
   ⟨0x4c13, 0x4c13, 0, 0, .u64, .ro, 0, 0, .any⟩,
   ⟨0x4c14, 0x4c14, 0, 0, .u8, .ro, 0, 15, .any⟩,
   ⟨0x4c14, 0x4c14, 1, 15, .u64, .ro, 0, 0, .any⟩,
   ⟨0x4c15, 0x4c15, 0, 0, .u8, .ro, 0, 16, .any⟩,
   ⟨0x4c15, 0x4c15, 1, 16, .u64, .ro, 0, 0, .any⟩,
   ⟨0x4c16, 0x4c16, 0, 0, .u8, .ro, 0, 16, .any⟩,
   ⟨0x4c16, 0x4c16, 1, 16, .u64, .ro, 0, 0, .any⟩,
   ⟨0x4c17, 0x4c17, 0, 0, .u64, .ro, 0, 0, .any⟩,
   ⟨0x4c18, 0x4c18, 0, 0, .u64, .ro, 0, 0, .any⟩,
   ⟨0x4c19, 0x4c19, 0, 0, .u64, .ro, 0, 0, .any⟩,
   ⟨0x4c1a, 0x4c1a, 0, 0, .u64, .ro, 0, 0, .any⟩,
   ⟨0x4c1b, 0x4c1b, 0, 0, .u64, .ro, 0, 0, .any⟩,
   ⟨0x4c1c, 0x4c1c, 0, 0, .bool, .rw, 1, 0, .bool⟩,
   ⟨0x4c1d, 0x4c1d, 0, 0, .u8, .rwb, 1, 15, .span 0 15⟩,
   ⟨0x4c1e, 0x4c1e, 0, 0, .u8, .rwb, 1, 31, .span 0 31⟩,
   ⟨0x4c1f, 0x4c1f, 0, 0, .u32, .ro, 0, 0, .any⟩,
   ⟨0x4c20, 0x4c20, 0, 0, .u16, .rws, 1, 64, .span 1 0x1000⟩,
   ⟨0x4c21, 0x4c21, 0, 0, .u16, .rws, 1, 64, .span 1 0xffff⟩,
   ⟨0x4c22, 0x4c22, 0, 0, .u16, .rw, 1, 3, .span 2 0xffff⟩,
   ⟨0x4c23, 0x4c23, 0, 0, .u16, .rw, 1, 1, .span 1 0x3e8⟩,
   ⟨0x4c24, 0x4c24, 0, 0, .u8, .wo, 1, 0, .span 1 1⟩,
   ⟨0x4c25, 0x4c25, 0, 0, .u32, .rw, 0, 0, .flags 0x0 0x1e 0x0⟩,
   ⟨0x4c26, 0x4c26, 0, 0, .u64, .ro, 0, 0, .any⟩,
   ⟨0x4c27, 0x4c27, 0, 0, .u64, .ro, 0, 0, .any⟩,
   ⟨0x4c28, 0x4c28, 0, 0, .u64, .ro, 0, 0, .any⟩,
   ⟨0x4c29, 0x4c29, 0, 0, .u64, .ro, 0, 0, .any⟩,
   ⟨0x4c2a, 0x4c2a, 0, 0, .u64, .ro, 0, 0, .any⟩,
   ⟨0x4e00, 0x4e00, 0, 0, .u32, .rw, 2, 0x3e8, .span 1 0xffffffff⟩,
   ⟨0x4e01, 0x4e01, 0, 0, .u32, .rw, 2, 0, .span 0 0x1ffffff⟩,
   ⟨0x4e02, 0x4e02, 0, 0, .oct, .ro, 2, 0, .len 32 32⟩,
   ⟨0x4e03, 0x4e03, 0, 0, .u32, .ro, 2, 0x400000, .any⟩,
   ⟨0x4e04, 0x4e04, 0, 0, .u8, .rw, 2, 0, .zero⟩,
   ⟨0x4e05, 0x4e05, 0, 0, .u32, .ro, 2, 0, .any⟩,
   ⟨0x4e06, 0x4e06, 0, 0, .u32, .ro, 2, 0, .any⟩,
   ⟨0x4e07, 0x4e07, 0, 0, .u64, .rws, 2, 0x9e3779b97f4a7c15, .odd⟩]

/-- The objects of block 0x5000 (R342, R343; 11_profile_chain.md). -/
def pfcObjects : List ObjRow :=
  [⟨0x5010, 0x5010, 0, 0, .u16, .rws, 1, 1, .span 1 0x100⟩,
   ⟨0x5011, 0x5011, 0, 0, .u8, .rws, 1, 0, .span 0 2⟩,
   ⟨0x5012, 0x5012, 0, 0, .u32, .ro, 0, 0, .any⟩,
   ⟨0x5013, 0x5013, 0, 0, .u8, .rwb, 1, 5, .any⟩,
   ⟨0x5014, 0x5014, 0, 0, .u8, .ro, 0, 32, .any⟩,
   ⟨0x5014, 0x5014, 1, 32, .u16, .rws, 1, 0xffff, .any⟩,
   ⟨0x5015, 0x5015, 0, 0, .u32, .rwb, 1, 0x10000, .span 1 0x7fffffff⟩,
   ⟨0x5016, 0x5016, 0, 0, .u32, .rwb, 1, 0x8000, .span 1 0x7fffffff⟩,
   ⟨0x5017, 0x5017, 0, 0, .u8, .rwb, 1, 3, .span 1 3⟩,
   ⟨0x5018, 0x5018, 0, 0, .u32, .rwb, 1, 0x1000, .span 16 0x100000⟩,
   ⟨0x5019, 0x5019, 0, 0, .bool, .rw, 1, 0, .bool⟩,
   ⟨0x501a, 0x501a, 0, 0, .u8, .ro, 0, 0, .any⟩,
   ⟨0x501b, 0x501b, 0, 0, .u8, .wo, 1, 0, .span 1 2⟩,
   ⟨0x501c, 0x501c, 0, 0, .u16, .rw, 1, 0, .span 0 0x100⟩,
   ⟨0x501d, 0x501d, 0, 0, .u32, .rw, 0, 0, .flags 0x0 0xd8 0x0⟩,
   ⟨0x501e, 0x501e, 0, 0, .u64, .ro, 0, 0, .any⟩,
   ⟨0x501f, 0x501f, 0, 0, .u64, .ro, 0, 0, .any⟩,
   ⟨0x5020, 0x5020, 0, 0, .u64, .ro, 0, 0, .any⟩,
   ⟨0x5021, 0x5021, 0, 0, .u16, .ro, 0, 64, .any⟩,
   ⟨0x5022, 0x5022, 0, 0, .u32, .ro, 0, 0, .any⟩,
   ⟨0x5023, 0x5023, 0, 0, .u32, .ro, 0, 0, .any⟩,
   ⟨0x5024, 0x5024, 0, 0, .u64, .ro, 0, 0, .any⟩,
   ⟨0x5025, 0x5025, 0, 0, .u16, .ro, 0, 0, .any⟩,
   ⟨0x5026, 0x5026, 0, 0, .u64, .ro, 0, 0, .any⟩,
   ⟨0x5200, 0x5200, 0, 0, .u8, .rws, 2, 4, .span 1 5⟩,
   ⟨0x5201, 0x5201, 0, 0, .u16, .rws, 2, 16, .span 2 0x400⟩,
   ⟨0x5202, 0x5202, 0, 0, .u8, .rws, 2, 15, .span 1 32⟩,
   ⟨0x5203, 0x5203, 0, 0, .u8, .rws, 2, 1, .span 1 2⟩,
   ⟨0x5204, 0x5204, 0, 0, .u8, .rws, 2, 2, .span 0 4⟩,
   ⟨0x5205, 0x5205, 0, 0, .u8, .rwb, 2, 8, .span 0 64⟩,
   ⟨0x5206, 0x5206, 0, 0, .u8, .rwb, 2, 2, .span 0 16⟩,
   ⟨0x5207, 0x5207, 0, 0, .u8, .rwb, 2, 8, .span 1 16⟩,
   ⟨0x5208, 0x5208, 0, 0, .u16, .rws, 2, 0x100, .span 0 0xffff⟩,
   ⟨0x5209, 0x5209, 0, 0, .u16, .rwb, 2, 64, .span 0 0x100⟩,
   ⟨0x520a, 0x520a, 0, 0, .u8, .ro, 0, 2, .any⟩,
   ⟨0x520a, 0x520a, 1, 2, .oct, .rw, 2, 0, .len 0 1376⟩,
   ⟨0x520b, 0x520b, 0, 0, .u8, .ro, 0, 2, .any⟩,
   ⟨0x520b, 0x520b, 1, 2, .oct, .rw, 2, 0, .len 16 16⟩,
   ⟨0x520c, 0x520c, 0, 0, .u8, .ro, 0, 2, .any⟩,
   ⟨0x520c, 0x520c, 1, 2, .u32, .rw, 2, 0x10000000, .any⟩,
   ⟨0x520d, 0x520d, 0, 0, .u8, .ro, 0, 2, .any⟩,
   ⟨0x520d, 0x520d, 1, 2, .u16, .ro, 2, 0, .any⟩,
   ⟨0x520e, 0x520e, 0, 0, .dom, .ro, 2, 0, .len 0 16777216⟩,
   ⟨0x520f, 0x520f, 0, 0, .u32, .ro, 2, 0, .any⟩,
   ⟨0x5210, 0x5210, 0, 0, .u32, .ro, 2, 0, .any⟩,
   ⟨0x5211, 0x5211, 0, 0, .u32, .ro, 2, 0, .any⟩]

/-- The objects of block 0x5400 (R379, R380; 12_delivery.md). -/
def hrbObjects : List ObjRow :=
  [⟨0x5410, 0x5410, 0, 0, .u32, .ro, 0, 0, .any⟩,
   ⟨0x5411, 0x5411, 0, 0, .u8, .rws, 1, 0, .span 0 1⟩,
   ⟨0x5412, 0x5412, 0, 0, .u64, .ro, 0, 0, .any⟩,
   ⟨0x5413, 0x5413, 0, 0, .u64, .ro, 0, 0, .any⟩,
   ⟨0x5414, 0x5414, 0, 0, .u32, .rw, 0, 0, .flags 0x0 0x3e 0x0⟩,
   ⟨0x5415, 0x5415, 0, 0, .u64, .ro, 0, 0, .any⟩,
   ⟨0x5416, 0x5416, 0, 0, .u8, .ro, 0, 5, .any⟩,
   ⟨0x5416, 0x5416, 1, 5, .u64, .ro, 0, 0, .any⟩,
   ⟨0x5417, 0x5417, 0, 0, .u64, .ro, 0, 0, .any⟩,
   ⟨0x5418, 0x5418, 0, 0, .bool, .rw, 1, 1, .bool⟩,
   ⟨0x5419, 0x5419, 0, 0, .u16, .rwb, 1, 0, .span 0 0xffff⟩,
   ⟨0x541a, 0x541a, 0, 0, .u32, .rwb, 1, 0, .any⟩,
   ⟨0x541b, 0x541b, 0, 0, .u32, .rwb, 1, 0, .span 0 0x40000⟩,
   ⟨0x541c, 0x541c, 0, 0, .u64, .ro, 0, 0, .any⟩,
   ⟨0x541d, 0x541d, 0, 0, .u64, .ro, 0, 0, .any⟩,
   ⟨0x5600, 0x5600, 0, 0, .u16, .rws, 2, 8, .span 1 0x100⟩,
   ⟨0x5601, 0x5601, 0, 0, .u32, .rws, 2, 0x400, .span 64 0x100000⟩,
   ⟨0x5602, 0x5602, 0, 0, .u32, .rw, 2, 0x4000000, .span 0x10000 0x3fffff80⟩,
   ⟨0x5603, 0x5603, 0, 0, .u16, .ro, 2, 0, .any⟩,
   ⟨0x5604, 0x5604, 0, 0, .u32, .ro, 2, 0, .any⟩,
   ⟨0x5605, 0x5605, 0, 0, .u32, .ro, 2, 0, .any⟩]

end Sys2Proof.Machine
end

