-- ==== Sys2Proof/Machine/ObjectsD.lean ====
section
/-! DEFINITION. The rows of the object tables of the blocks 0x5800, 0x5C00, 0x6000 (R423 to R429 and each chapter's object tables). -/

namespace Sys2Proof.Machine

/-- The objects of block 0x5800 (R381, R382; 12_delivery.md). -/
def dlvObjects : List ObjRow :=
  [⟨0x5810, 0x5810, 0, 0, .u8, .ro, 0, 3, .any⟩,
   ⟨0x5810, 0x5810, 1, 3, .u32, .ro, 0, 0, .any⟩,
   ⟨0x5811, 0x5811, 0, 0, .u8, .ro, 0, 3, .any⟩,
   ⟨0x5811, 0x5811, 1, 3, .u32, .ro, 0, 0, .any⟩,
   ⟨0x5812, 0x5812, 0, 0, .u8, .ro, 0, 3, .any⟩,
   ⟨0x5812, 0x5812, 1, 3, .u32, .rw, 1, 0, .any⟩,
   ⟨0x5813, 0x5813, 0, 0, .u8, .ro, 0, 3, .any⟩,
   ⟨0x5813, 0x5813, 1, 3, .u32, .rw, 1, 0, .any⟩,
   ⟨0x5814, 0x5814, 0, 0, .u8, .ro, 0, 3, .any⟩,
   ⟨0x5814, 0x5814, 1, 3, .u32, .ro, 0, 0, .flags 0x0 0x0 0x1b⟩,
   ⟨0x5815, 0x5815, 0, 0, .u8, .ro, 0, 3, .any⟩,
   ⟨0x5815, 0x5815, 1, 3, .u64, .ro, 0, 0, .any⟩,
   ⟨0x5816, 0x5816, 0, 0, .u8, .ro, 0, 3, .any⟩,
   ⟨0x5816, 0x5816, 1, 3, .u64, .ro, 0, 0, .any⟩,
   ⟨0x5817, 0x5817, 0, 0, .u8, .ro, 0, 3, .any⟩,
   ⟨0x5817, 0x5817, 1, 3, .u64, .ro, 0, 0, .any⟩,
   ⟨0x5818, 0x5818, 0, 0, .u8, .ro, 0, 3, .any⟩,
   ⟨0x5818, 0x5818, 1, 3, .u32, .rw, 1, 0, .zero⟩,
   ⟨0x5840, 0x5840, 0, 0, .u8, .ro, 0, 32, .any⟩,
   ⟨0x5840, 0x5840, 1, 32, .u8, .rws, 1, 0, .span 0 6⟩,
   ⟨0x5841, 0x5841, 0, 0, .u8, .ro, 0, 32, .any⟩,
   ⟨0x5841, 0x5841, 1, 32, .u64, .rws, 1, 0, .multOf 64⟩,
   ⟨0x5842, 0x5842, 0, 0, .u8, .ro, 0, 32, .any⟩,
   ⟨0x5842, 0x5842, 1, 32, .u32, .rws, 1, 0x100, .spanPow2 16 0x10000⟩,
   ⟨0x5843, 0x5843, 0, 0, .u8, .ro, 0, 32, .any⟩,
   ⟨0x5843, 0x5843, 1, 32, .u32, .rw, 1, 0, .any⟩,
   ⟨0x5844, 0x5844, 0, 0, .u8, .ro, 0, 32, .any⟩,
   ⟨0x5844, 0x5844, 1, 32, .u32, .ro, 0, 0, .any⟩,
   ⟨0x5845, 0x5845, 0, 0, .u8, .ro, 0, 32, .any⟩,
   ⟨0x5845, 0x5845, 1, 32, .u8, .wo, 1, 0, .span 1 3⟩,
   ⟨0x5846, 0x5846, 0, 0, .u8, .ro, 0, 32, .any⟩,
   ⟨0x5846, 0x5846, 1, 32, .u32, .rw, 0, 0, .flags 0x0 0x1b8 0x0⟩,
   ⟨0x5847, 0x5847, 0, 0, .u8, .ro, 0, 32, .any⟩,
   ⟨0x5847, 0x5847, 1, 32, .u32, .rw, 1, 10, .span 0 0x2710⟩,
   ⟨0x5848, 0x5848, 0, 0, .u8, .ro, 0, 32, .any⟩,
   ⟨0x5848, 0x5848, 1, 32, .u64, .ro, 0, 0, .any⟩,
   ⟨0x5849, 0x5849, 0, 0, .u8, .ro, 0, 32, .any⟩,
   ⟨0x5849, 0x5849, 1, 32, .u64, .ro, 0, 0, .any⟩,
   ⟨0x584a, 0x584a, 0, 0, .u8, .ro, 0, 32, .any⟩,
   ⟨0x584a, 0x584a, 1, 32, .u64, .ro, 0, 0, .any⟩,
   ⟨0x584b, 0x584b, 0, 0, .u8, .ro, 0, 32, .any⟩,
   ⟨0x584b, 0x584b, 1, 32, .u64, .ro, 0, 0, .any⟩,
   ⟨0x584c, 0x584c, 0, 0, .u8, .ro, 0, 32, .any⟩,
   ⟨0x584c, 0x584c, 1, 32, .u64, .ro, 0, 0, .any⟩,
   ⟨0x5860, 0x5860, 0, 0, .u8, .ro, 0, 0, .any⟩,
   ⟨0x5861, 0x5861, 0, 0, .u8, .ro, 0, 0, .any⟩,
   ⟨0x5862, 0x5862, 0, 0, .u64, .ro, 0, 0, .any⟩,
   ⟨0x5863, 0x5863, 0, 0, .u64, .ro, 0, 0, .any⟩,
   ⟨0x5a00, 0x5a00, 0, 0, .u8, .ro, 0, 32, .any⟩,
   ⟨0x5a00, 0x5a00, 1, 32, .u64, .rw, 2, 0, .any⟩,
   ⟨0x5a01, 0x5a01, 0, 0, .u8, .ro, 0, 32, .any⟩,
   ⟨0x5a01, 0x5a01, 1, 32, .u32, .rw, 2, 0x100, .spanPow2 16 0x10000⟩,
   ⟨0x5a02, 0x5a02, 0, 0, .u8, .ro, 0, 32, .any⟩,
   ⟨0x5a02, 0x5a02, 1, 32, .u32, .rw, 2, 0, .any⟩,
   ⟨0x5a03, 0x5a03, 0, 0, .u8, .ro, 0, 32, .any⟩,
   ⟨0x5a03, 0x5a03, 1, 32, .u8, .rw, 2, 0, .span 0 1⟩,
   ⟨0x5a04, 0x5a04, 0, 0, .u8, .ro, 0, 32, .any⟩,
   ⟨0x5a04, 0x5a04, 1, 32, .bool, .rws, 2, 0, .bool⟩,
   ⟨0x5a05, 0x5a05, 0, 0, .u8, .ro, 0, 32, .any⟩,
   ⟨0x5a05, 0x5a05, 1, 32, .u8, .rws, 2, 4, .span 1 4⟩] ++
  [⟨0x5a06, 0x5a06, 0, 0, .u8, .ro, 0, 32, .any⟩,
   ⟨0x5a06, 0x5a06, 1, 32, .u64, .ro, 2, 0, .any⟩,
   ⟨0x5a07, 0x5a07, 0, 0, .u64, .rw, 2, 0, .multOf 268435456⟩,
   ⟨0x5a08, 0x5a08, 0, 0, .bool, .rw, 2, 0, .bool⟩,
   ⟨0x5a09, 0x5a09, 0, 0, .u32, .rw, 2, 0, .flags 0 0x1 0⟩,
   ⟨0x5a0a, 0x5a0a, 0, 0, .u32, .ro, 2, 0, .any⟩,
   ⟨0x5a0b, 0x5a0b, 0, 0, .u32, .ro, 2, 0, .any⟩]

/-- The objects of block 0x5C00 (R404, R405; 13_memory.md). -/
def dmcObjects : List ObjRow :=
  [⟨0x5c10, 0x5c10, 0, 0, .u8, .ro, 0, 8, .any⟩,
   ⟨0x5c11, 0x5c11, 0, 0, .u64, .ro, 0, 0, .any⟩,
   ⟨0x5c12, 0x5c12, 0, 0, .u16, .rws, 1, 1, .span 1 64⟩,
   ⟨0x5c13, 0x5c13, 0, 0, .u8, .ro, 0, 5, .any⟩,
   ⟨0x5c13, 0x5c13, 1, 5, .oct, .ro, 0, 0, .len 16 16⟩,
   ⟨0x5c14, 0x5c14, 0, 0, .u32, .rw, 0, 0, .flags 0x0 0x6 0x0⟩,
   ⟨0x5c15, 0x5c15, 0, 0, .dom, .ro, 0, 0, .len 2048 2048⟩,
   ⟨0x5c16, 0x5c16, 0, 0, .u32, .ro, 0, 0, .any⟩,
   ⟨0x5c20, 0x5c20, 0, 0, .u8, .ro, 0, 8, .any⟩,
   ⟨0x5c20, 0x5c20, 1, 8, .oct, .ro, 0, 0, .len 32 32⟩,
   ⟨0x5c21, 0x5c21, 0, 0, .u8, .ro, 0, 8, .any⟩,
   ⟨0x5c21, 0x5c21, 1, 8, .u16, .ro, 0, 0, .any⟩,
   ⟨0x5c22, 0x5c22, 0, 0, .u8, .ro, 0, 8, .any⟩,
   ⟨0x5c22, 0x5c22, 1, 8, .u64, .ro, 0, 0, .any⟩,
   ⟨0x5c23, 0x5c23, 0, 0, .u8, .ro, 0, 8, .any⟩,
   ⟨0x5c23, 0x5c23, 1, 8, .u32, .rw, 0, 0, .flags 0x0 0x7e0 0x0⟩,
   ⟨0x5c24, 0x5c24, 0, 0, .u8, .ro, 0, 8, .any⟩,
   ⟨0x5c24, 0x5c24, 1, 8, .u64, .ro, 0, 0, .any⟩,
   ⟨0x5c25, 0x5c25, 0, 0, .u8, .ro, 0, 8, .any⟩,
   ⟨0x5c25, 0x5c25, 1, 8, .u64, .ro, 0, 0, .any⟩,
   ⟨0x5c26, 0x5c26, 0, 0, .u8, .ro, 0, 8, .any⟩,
   ⟨0x5c26, 0x5c26, 1, 8, .u64, .ro, 0, 0, .any⟩,
   ⟨0x5c27, 0x5c27, 0, 0, .u8, .ro, 0, 8, .any⟩,
   ⟨0x5c27, 0x5c27, 1, 8, .u64, .ro, 0, 0, .any⟩,
   ⟨0x5c28, 0x5c28, 0, 0, .u8, .ro, 0, 8, .any⟩,
   ⟨0x5c28, 0x5c28, 1, 8, .u64, .ro, 0, 0, .any⟩,
   ⟨0x5c29, 0x5c29, 0, 0, .u8, .ro, 0, 8, .any⟩,
   ⟨0x5c29, 0x5c29, 1, 8, .u8, .ro, 0, 0, .any⟩,
   ⟨0x5c2a, 0x5c2a, 0, 0, .u8, .ro, 0, 8, .any⟩,
   ⟨0x5c2a, 0x5c2a, 1, 8, .u32, .ro, 0, 0, .any⟩,
   ⟨0x5c2b, 0x5c2b, 0, 0, .u8, .ro, 0, 8, .any⟩,
   ⟨0x5c2b, 0x5c2b, 1, 8, .u32, .ro, 0, 0, .any⟩,
   ⟨0x5c2c, 0x5c2c, 0, 0, .u8, .ro, 0, 8, .any⟩,
   ⟨0x5c2c, 0x5c2c, 1, 8, .u32, .ro, 0, 0, .any⟩,
   ⟨0x5c2d, 0x5c2d, 0, 0, .u8, .ro, 0, 8, .any⟩,
   ⟨0x5c2d, 0x5c2d, 1, 8, .u16, .rws, 1, 0x1900, .span 0x12c0 0x1900⟩,
   ⟨0x5e00, 0x5e00, 0, 0, .u8, .rw, 2, 10, .span 6 16⟩,
   ⟨0x5e01, 0x5e01, 0, 0, .u32, .rw, 2, 0x5a0, .span 0 0x2760⟩,
   ⟨0x5e02, 0x5e02, 0, 0, .u16, .rw, 2, 32, .span 1 0x3e8⟩,
   ⟨0x5e03, 0x5e03, 0, 0, .u16, .rw, 2, 100, .span 10 0x2710⟩,
   ⟨0x5e04, 0x5e04, 0, 0, .u32, .rw, 2, 0x3e8, .span 1 0xf4240⟩,
   ⟨0x5e05, 0x5e05, 0, 0, .u8, .ro, 0, 8, .any⟩,
   ⟨0x5e05, 0x5e05, 1, 8, .u16, .ro, 2, 0, .any⟩,
   ⟨0x5e06, 0x5e06, 0, 0, .u8, .ro, 0, 8, .any⟩,
   ⟨0x5e06, 0x5e06, 1, 8, .oct, .ro, 2, 0, .len 160 160⟩,
   ⟨0x5e07, 0x5e07, 0, 0, .u8, .rw, 2, 8, .span 2 64⟩,
   ⟨0x5e08, 0x5e08, 0, 0, .oct, .wo, 3, 0, .len 9 9⟩,
   ⟨0x5e09, 0x5e09, 0, 0, .u32, .ro, 2, 0, .any⟩,
   ⟨0x5e0a, 0x5e0a, 0, 0, .u32, .ro, 2, 0, .any⟩]

/-- The objects of block 0x6000 (R474, R475; 16_network_time.md). -/
def netObjects : List ObjRow :=
  [⟨0x6010, 0x6010, 0, 0, .u8, .ro, 0, 2, .any⟩,
   ⟨0x6010, 0x6010, 1, 2, .u8, .rws, 1, 3, .span 0 3⟩,
   ⟨0x6011, 0x6011, 0, 0, .u8, .ro, 0, 2, .any⟩,
   ⟨0x6011, 0x6011, 1, 2, .u8, .ro, 0, 0, .any⟩,
   ⟨0x6012, 0x6012, 0, 0, .u8, .ro, 0, 2, .any⟩,
   ⟨0x6012, 0x6012, 1, 2, .u32, .rw, 0, 0, .flags 0x0 0x3e 0x0⟩,
   ⟨0x6013, 0x6013, 0, 0, .u8, .ro, 0, 2, .any⟩,
   ⟨0x6013, 0x6013, 1, 2, .oct, .ro, 0, 0, .len 6 6⟩,
   ⟨0x6014, 0x6014, 0, 0, .u8, .ro, 0, 2, .any⟩,
   ⟨0x6014, 0x6014, 1, 2, .u32, .rws, 2, 0, .any⟩,
   ⟨0x6015, 0x6015, 0, 0, .u8, .ro, 0, 2, .any⟩,
   ⟨0x6015, 0x6015, 1, 2, .u32, .rws, 2, 0, .any⟩,
   ⟨0x6016, 0x6016, 0, 0, .u8, .ro, 0, 2, .any⟩,
   ⟨0x6016, 0x6016, 1, 2, .u32, .rws, 2, 0, .any⟩,
   ⟨0x6017, 0x6017, 0, 0, .u8, .ro, 0, 2, .any⟩,
   ⟨0x6017, 0x6017, 1, 2, .u16, .rws, 2, 0, .span 0 0xffe⟩,
   ⟨0x6018, 0x6018, 0, 0, .u8, .ro, 0, 2, .any⟩,
   ⟨0x6018, 0x6018, 1, 2, .u64, .ro, 0, 0, .any⟩,
   ⟨0x6019, 0x6019, 0, 0, .u8, .ro, 0, 2, .any⟩,
   ⟨0x6019, 0x6019, 1, 2, .u64, .ro, 0, 0, .any⟩,
   ⟨0x601a, 0x601a, 0, 0, .u8, .ro, 0, 2, .any⟩,
   ⟨0x601a, 0x601a, 1, 2, .u64, .ro, 0, 0, .any⟩,
   ⟨0x601b, 0x601b, 0, 0, .u8, .ro, 0, 2, .any⟩,
   ⟨0x601b, 0x601b, 1, 2, .u64, .ro, 0, 0, .any⟩,
   ⟨0x601c, 0x601c, 0, 0, .u8, .ro, 0, 2, .any⟩,
   ⟨0x601c, 0x601c, 1, 2, .u32, .ro, 0, 0, .any⟩,
   ⟨0x6030, 0x6030, 0, 0, .oct, .ro, 0, 0, .len 12 12⟩,
   ⟨0x6031, 0x6031, 0, 0, .u64, .ro, 0, 0, .any⟩,
   ⟨0x6032, 0x6032, 0, 0, .oct, .wo, 2, 0, .len 12 12⟩,
   ⟨0x6033, 0x6033, 0, 0, .i64, .wo, 2, 0, .any⟩,
   ⟨0x6034, 0x6034, 0, 0, .u32, .rw, 0, 0, .flags 0x0 0x1b0 0x0⟩,
   ⟨0x6036, 0x6036, 0, 0, .u8, .rws, 1, 0, .span 0 3⟩,
   ⟨0x6037, 0x6037, 0, 0, .u8, .rws, 1, 0, .span 0 1⟩,
   ⟨0x6038, 0x6038, 0, 0, .u8, .rws, 1, 1, .span 1 2⟩,
   ⟨0x6039, 0x6039, 0, 0, .u8, .rws, 1, 0, .span 0 1⟩,
   ⟨0x603a, 0x603a, 0, 0, .u8, .rws, 1, 0, .span 0 127⟩,
   ⟨0x603b, 0x603b, 0, 0, .u8, .rw, 1, 128, .span 0 255⟩,
   ⟨0x603c, 0x603c, 0, 0, .u8, .rw, 1, 128, .span 0 255⟩,
   ⟨0x603d, 0x603d, 0, 0, .i64, .ro, 0, 0, .any⟩,
   ⟨0x603e, 0x603e, 0, 0, .i64, .ro, 0, 0, .any⟩,
   ⟨0x603f, 0x603f, 0, 0, .oct, .ro, 0, 0, .len 8 8⟩,
   ⟨0x6040, 0x6040, 0, 0, .u8, .ro, 0, 2, .any⟩,
   ⟨0x6040, 0x6040, 1, 2, .u8, .ro, 0, 3, .any⟩,
   ⟨0x6041, 0x6041, 0, 0, .u8, .ro, 0, 2, .any⟩,
   ⟨0x6041, 0x6041, 1, 2, .i64, .rw, 1, 0, .any⟩,
   ⟨0x6042, 0x6042, 0, 0, .i16, .rw, 2, 37, .any⟩,
   ⟨0x6050, 0x6050, 0, 0, .u8, .ro, 0, 4, .any⟩,
   ⟨0x6050, 0x6050, 1, 4, .u8, .rw, 1, 0, .span 0 2⟩,
   ⟨0x6051, 0x6051, 0, 0, .u8, .ro, 0, 4, .any⟩,
   ⟨0x6051, 0x6051, 1, 4, .oct, .rw, 1, 0, .len 12 12⟩,
   ⟨0x6052, 0x6052, 0, 0, .u8, .ro, 0, 4, .any⟩,
   ⟨0x6052, 0x6052, 1, 4, .u64, .rw, 1, 0x3b9aca00, .span 8 1099511627776⟩,
   ⟨0x6053, 0x6053, 0, 0, .u8, .ro, 0, 4, .any⟩,
   ⟨0x6053, 0x6053, 1, 4, .u32, .rw, 1, 0xf4240, .span 4 0xee6b2800⟩,
   ⟨0x6054, 0x6054, 0, 0, .u8, .ro, 0, 4, .any⟩,
   ⟨0x6054, 0x6054, 1, 4, .bool, .rws, 1, 0, .bool⟩,
   ⟨0x6055, 0x6055, 0, 0, .u8, .ro, 0, 4, .any⟩,
   ⟨0x6055, 0x6055, 1, 4, .u8, .wo, 1, 0, .span 1 1⟩,
   ⟨0x6056, 0x6056, 0, 0, .u8, .ro, 0, 4, .any⟩,
   ⟨0x6056, 0x6056, 1, 4, .u64, .ro, 0, 0, .any⟩] ++
  [⟨0x6057, 0x6057, 0, 0, .u8, .ro, 0, 4, .any⟩,
   ⟨0x6057, 0x6057, 1, 4, .u64, .ro, 0, 0, .any⟩,
   ⟨0x6058, 0x6058, 0, 0, .u8, .ro, 0, 4, .any⟩,
   ⟨0x6058, 0x6058, 1, 4, .u32, .rw, 0, 0, .flags 0 0x6 0⟩,
   ⟨0x6060, 0x6060, 0, 0, .u8, .ro, 0, 4, .any⟩,
   ⟨0x6060, 0x6060, 1, 4, .u8, .rws, 1, 0, .span 0 3⟩,
   ⟨0x6061, 0x6061, 0, 0, .u8, .ro, 0, 4, .any⟩,
   ⟨0x6061, 0x6061, 1, 4, .oct, .ro, 0, 0, .len 32 32⟩,
   ⟨0x6062, 0x6062, 0, 0, .u8, .ro, 0, 4, .any⟩,
   ⟨0x6062, 0x6062, 1, 4, .u8, .ro, 0, 0, .any⟩,
   ⟨0x6063, 0x6063, 0, 0, .u8, .ro, 0, 4, .any⟩,
   ⟨0x6063, 0x6063, 1, 4, .u64, .ro, 0, 0, .any⟩,
   ⟨0x6064, 0x6064, 0, 0, .u8, .ro, 0, 4, .any⟩,
   ⟨0x6064, 0x6064, 1, 4, .u32, .rw, 0, 0, .flags 0 0x3 0⟩,
   ⟨0x6200, 0x6200, 0, 0, .u8, .ro, 0, 2, .any⟩,
   ⟨0x6200, 0x6200, 1, 2, .i32, .rw, 2, 46000, .any⟩,
   ⟨0x6201, 0x6201, 0, 0, .u8, .ro, 0, 2, .any⟩,
   ⟨0x6201, 0x6201, 1, 2, .i32, .rw, 2, 38000, .any⟩,
   ⟨0x6202, 0x6202, 0, 0, .u8, .ro, 0, 2, .any⟩,
   ⟨0x6202, 0x6202, 1, 2, .bool, .rws, 2, 1, .bool⟩,
   ⟨0x6203, 0x6203, 0, 0, .u8, .ro, 0, 2, .any⟩,
   ⟨0x6203, 0x6203, 1, 2, .u8, .rw, 2, 0, .zero⟩,
   ⟨0x6204, 0x6204, 0, 0, .u8, .ro, 0, 2, .any⟩,
   ⟨0x6204, 0x6204, 1, 2, .u32, .ro, 2, 0, .any⟩,
   ⟨0x6210, 0x6210, 0, 0, .i32, .rw, 2, 0, .span (-8000000) 8000000⟩,
   ⟨0x6211, 0x6211, 0, 0, .u32, .rw, 2, 0x186a0, .span 100 0x3b9aca00⟩,
   ⟨0x6212, 0x6212, 0, 0, .u32, .rw, 2, 100, .span 1 0xf4240⟩,
   ⟨0x6213, 0x6213, 0, 0, .u16, .rw, 2, 0x1000, .span 0 0xffff⟩,
   ⟨0x6214, 0x6214, 0, 0, .u16, .rw, 2, 0x100, .span 0 0xffff⟩,
   ⟨0x6215, 0x6215, 0, 0, .u32, .rw, 2, 60, .span 1 0x15180⟩,
   ⟨0x6216, 0x6216, 0, 0, .u32, .rw, 2, 0x3e8, .span 0 0xea60⟩,
   ⟨0x6217, 0x6217, 0, 0, .u8, .rw, 2, 0, .span 0 1⟩,
   ⟨0x6218, 0x6218, 0, 0, .u8, .rw, 2, 16, .span 1 255⟩,
   ⟨0x6219, 0x6219, 0, 0, .i16, .rws, 2, 0, .span (-7) 4⟩,
   ⟨0x621a, 0x621a, 0, 0, .i16, .rws, 2, 1, .span 0 4⟩,
   ⟨0x621b, 0x621b, 0, 0, .u8, .rws, 2, 3, .span 2 10⟩,
   ⟨0x621c, 0x621c, 0, 0, .u8, .ro, 0, 4, .any⟩,
   ⟨0x621c, 0x621c, 1, 4, .u8, .rws, 2, 4, .span 1 255⟩,
   ⟨0x621d, 0x621d, 0, 0, .u64, .ro, 2, 0x400000000, .any⟩,
   ⟨0x621e, 0x621e, 0, 0, .i16, .rws, 2, 0, .span (-7) 5⟩]

end Sys2Proof.Machine
end

