-- ==== Sys2Proof/Machine/ObjectsE.lean ====
section
/-! DEFINITION. The rows of the object tables of the blocks 0x6400, 0x6800, 0x6C00, 0x7000, 0x7400, 0x7800 (R423 to R429 and each chapter's object tables). -/

namespace Sys2Proof.Machine

/-- The objects of block 0x6400 (R495, R496; 17_calibration.md). -/
def calObjects : List ObjRow :=
  [⟨0x6410, 0x6410, 0, 0, .oct, .wo, 1, 0, .len 16 16⟩,
   ⟨0x6411, 0x6411, 0, 0, .u8, .ro, 0, 0, .any⟩,
   ⟨0x6412, 0x6412, 0, 0, .u8, .ro, 0, 32, .any⟩,
   ⟨0x6412, 0x6412, 1, 32, .oct, .ro, 0, 0, .len 20 20⟩,
   ⟨0x6413, 0x6413, 0, 0, .u8, .ro, 0, 32, .any⟩,
   ⟨0x6413, 0x6413, 1, 32, .u8, .ro, 0, 0, .any⟩,
   ⟨0x6414, 0x6414, 0, 0, .oct, .ro, 0, 0, .len 32 32⟩,
   ⟨0x6415, 0x6415, 0, 0, .dom, .ro, 1, 0, .len 0 16777216⟩,
   ⟨0x6416, 0x6416, 0, 0, .u8, .ro, 0, 2, .any⟩,
   ⟨0x6416, 0x6416, 1, 2, .dom, .wo, 1, 0, .len 0 16777216⟩,
   ⟨0x6417, 0x6417, 0, 0, .u8, .wo, 1, 0, .span 1 2⟩,
   ⟨0x6418, 0x6418, 0, 0, .oct, .ro, 0, 0, .len 32 32⟩,
   ⟨0x6419, 0x6419, 0, 0, .u64, .ro, 0, 0, .any⟩,
   ⟨0x641a, 0x641a, 0, 0, .u32, .rw, 0, 0x10000, .span 0 0xFFFFFF⟩,
   ⟨0x641b, 0x641b, 0, 0, .u32, .ro, 0, 0, .any⟩,
   ⟨0x641c, 0x641c, 0, 0, .u64, .ro, 0, 0, .any⟩,
   ⟨0x641d, 0x641d, 0, 0, .u8, .ro, 0, 0, .any⟩,
   ⟨0x641e, 0x641e, 0, 0, .dom, .ro, 0, 0, .len 0 16777216⟩,
   ⟨0x641f, 0x641f, 0, 0, .u8, .wo, 1, 0, .span 1 1⟩,
   ⟨0x6420, 0x6420, 0, 0, .oct, .wo, 1, 0, .len 4 34⟩,
   ⟨0x6421, 0x6421, 0, 0, .u32, .rw, 0, 0, .flags 0x0 0x18ee 0x0⟩,
   ⟨0x6430, 0x6430, 0, 0, .u8, .ro, 0, 64, .any⟩,
   ⟨0x6430, 0x6430, 1, 64, .i8, .ro, 0, 0, .any⟩,
   ⟨0x6431, 0x6431, 0, 0, .u8, .ro, 0, 4, .any⟩,
   ⟨0x6431, 0x6431, 1, 4, .oct, .ro, 0, 0, .len 3 3⟩,
   ⟨0x6600, 0x6600, 0, 0, .u16, .rw, 2, 0x1000, .span 0 0xffff⟩,
   ⟨0x6601, 0x6601, 0, 0, .u32, .rw, 2, 0x40000, .any⟩,
   ⟨0x6602, 0x6602, 0, 0, .u16, .rw, 2, 0x100, .span 0 0x2000⟩,
   ⟨0x6603, 0x6603, 0, 0, .u16, .rw, 2, 0x4000, .any⟩,
   ⟨0x6604, 0x6604, 0, 0, .u16, .rw, 2, 0xccd, .span 1 0xffff⟩,
   ⟨0x6605, 0x6605, 0, 0, .u16, .rw, 2, 4, .span 1 64⟩,
   ⟨0x6606, 0x6606, 0, 0, .u32, .rw, 2, 0xea60, .span 0x3e8 0x36ee80⟩,
   ⟨0x6607, 0x6607, 0, 0, .u32, .rw, 2, 0x3e8, .span 100 0xea60⟩,
   ⟨0x6608, 0x6608, 0, 0, .u16, .rw, 2, 16, .span 0 0x400⟩,
   ⟨0x6609, 0x6609, 0, 0, .u8, .ro, 0, 3, .any⟩,
   ⟨0x6609, 0x6609, 1, 3, .u32, .rw, 2, 0, .span 0 0x80520⟩,
   ⟨0x660a, 0x660a, 0, 0, .u8, .wo, 3, 0, .span 1 1⟩,
   ⟨0x660b, 0x660b, 0, 0, .u8, .rw, 2, 16, .span 1 31⟩,
   ⟨0x660c, 0x660c, 0, 0, .u32, .ro, 2, 0, .any⟩,
   ⟨0x660d, 0x660d, 0, 0, .bool, .rw, 2, 1, .bool⟩]

/-- The objects of block 0x6800 (R520, R521; 18_selftest_repair.md). -/
def bstObjects : List ObjRow :=
  [⟨0x6810, 0x6810, 0, 0, .bool, .rw, 1, 1, .bool⟩,
   ⟨0x6811, 0x6811, 0, 0, .u32, .rw, 1, 60, .span 1 0x2760⟩,
   ⟨0x6812, 0x6812, 0, 0, .u8, .ro, 0, 0, .any⟩,
   ⟨0x6813, 0x6813, 0, 0, .u16, .ro, 0, 0xffff, .any⟩,
   ⟨0x6814, 0x6814, 0, 0, .u32, .rw, 0, 0, .flags 0x0 0x7fc 0x0⟩,
   ⟨0x6815, 0x6815, 0, 0, .u64, .ro, 0, 0, .any⟩,
   ⟨0x6816, 0x6816, 0, 0, .u64, .ro, 0, 0, .any⟩,
   ⟨0x6817, 0x6817, 0, 0, .u16, .rw, 0, 0, .any⟩,
   ⟨0x6818, 0x6818, 0, 0, .oct, .ro, 0, 0, .len 24 24⟩,
   ⟨0x6819, 0x6819, 0, 0, .oct, .wo, 2, 0, .len 4 4⟩,
   ⟨0x681a, 0x681a, 0, 0, .u8, .ro, 0, 8, .any⟩,
   ⟨0x681a, 0x681a, 1, 8, .u64, .ro, 0, 0, .any⟩,
   ⟨0x681b, 0x681b, 0, 0, .u8, .ro, 0, 8, .any⟩,
   ⟨0x681b, 0x681b, 1, 8, .u64, .ro, 0, 0, .any⟩,
   ⟨0x681c, 0x681c, 0, 0, .dom, .ro, 0, 0, .len 0 16777216⟩,
   ⟨0x681d, 0x681d, 0, 0, .dom, .ro, 0, 0, .len 0 16777216⟩,
   ⟨0x6a00, 0x6a00, 0, 0, .u32, .rw, 2, 50, .span 10 0x2710⟩,
   ⟨0x6a01, 0x6a01, 0, 0, .oct, .rw, 2, 0, .len 8 8⟩,
   ⟨0x6a02, 0x6a02, 0, 0, .u32, .rw, 2, 60, .span 1 0xe10⟩,
   ⟨0x6a03, 0x6a03, 0, 0, .u16, .rw, 2, 4, .span 1 0xffff⟩,
   ⟨0x6a04, 0x6a04, 0, 0, .u8, .wo, 3, 0, .span 1 1⟩,
   ⟨0x6a05, 0x6a05, 0, 0, .u16, .ro, 2, 0x100, .any⟩,
   ⟨0x6a06, 0x6a06, 0, 0, .u32, .rw, 2, 1, .nonZero⟩,
   ⟨0x6a07, 0x6a07, 0, 0, .u32, .ro, 2, 0, .any⟩,
   ⟨0x6a08, 0x6a08, 0, 0, .u32, .ro, 2, 0, .any⟩,
   ⟨0x6a09, 0x6a09, 0, 0, .u32, .ro, 2, 0, .any⟩,
   ⟨0x6a0a, 0x6a0a, 0, 0, .bool, .rw, 2, 1, .bool⟩]

/-- The objects of block 0x6C00 (R537, R538; 19_monitoring.md). -/
def monObjects : List ObjRow :=
  [⟨0x6c10, 0x6c10, 0, 0, .u32, .rw, 1, 0x3e8, .span 0 0x36ee80⟩,
   ⟨0x6c11, 0x6c11, 0, 0, .u8, .wo, 1, 0, .span 1 1⟩,
   ⟨0x6c12, 0x6c12, 0, 0, .u32, .ro, 0, 0, .any⟩,
   ⟨0x6c13, 0x6c13, 0, 0, .u64, .ro, 0, 0, .any⟩,
   ⟨0x6c14, 0x6c14, 0, 0, .u8, .rw, 0, 0, .span 0 127⟩,
   ⟨0x6c15, 0x6c15, 0, 0, .oct, .ro, 0, 0, .len 376 376⟩,
   ⟨0x6c16, 0x6c16, 0, 0, .dom, .ro, 0, 0, .len 48128 48128⟩,
   ⟨0x6c17, 0x6c17, 0, 0, .u32, .rw, 0, 0, .flags 0x0 0x7 0x0⟩,
   ⟨0x6c18, 0x6c18, 0, 0, .u32, .ro, 0, 0, .any⟩,
   ⟨0x6c20, 0x6c20, 0, 0, .u8, .ro, 0, 128, .any⟩,
   ⟨0x6c20, 0x6c20, 1, 128, .u32, .rw, 1, 0, .any⟩,
   ⟨0x6c21, 0x6c21, 0, 0, .u8, .ro, 0, 128, .any⟩,
   ⟨0x6c21, 0x6c21, 1, 128, .i64, .rw, 1, 0, .any⟩,
   ⟨0x6c22, 0x6c22, 0, 0, .u8, .ro, 0, 128, .any⟩,
   ⟨0x6c22, 0x6c22, 1, 128, .u8, .rw, 1, 0, .span 0 48⟩,
   ⟨0x6c23, 0x6c23, 0, 0, .u8, .ro, 0, 128, .any⟩,
   ⟨0x6c23, 0x6c23, 1, 128, .u8, .rw, 1, 1, .span 0 3⟩,
   ⟨0x6c24, 0x6c24, 0, 0, .u8, .ro, 0, 128, .any⟩,
   ⟨0x6c24, 0x6c24, 1, 128, .bool, .rw, 1, 0, .bool⟩,
   ⟨0x6c25, 0x6c25, 0, 0, .u8, .ro, 0, 128, .any⟩,
   ⟨0x6c25, 0x6c25, 1, 128, .u64, .ro, 0, 0, .any⟩,
   ⟨0x6c26, 0x6c26, 0, 0, .u8, .ro, 0, 128, .any⟩,
   ⟨0x6c26, 0x6c26, 1, 128, .u64, .ro, 0, 0, .any⟩,
   ⟨0x6e00, 0x6e00, 0, 0, .u32, .ro, 2, 0, .any⟩,
   ⟨0x6e01, 0x6e01, 0, 0, .u32, .ro, 2, 0, .any⟩]

/-- The objects of block 0x7000 (R539; 19_monitoring.md). -/
def pmcObjects : List ObjRow :=
  [⟨0x7010, 0x7010, 0, 0, .u64, .ro, 0, 0, .any⟩,
   ⟨0x7011, 0x7011, 0, 0, .u8, .ro, 0, 8, .any⟩,
   ⟨0x7011, 0x7011, 1, 8, .u16, .rw, 1, 0, .any⟩,
   ⟨0x7012, 0x7012, 0, 0, .u8, .ro, 0, 8, .any⟩,
   ⟨0x7012, 0x7012, 1, 8, .u16, .rw, 1, 0xffff, .any⟩,
   ⟨0x7013, 0x7013, 0, 0, .u8, .ro, 0, 8, .any⟩,
   ⟨0x7013, 0x7013, 1, 8, .u64, .ro, 0, 0, .any⟩,
   ⟨0x7014, 0x7014, 0, 0, .u8, .wo, 1, 0, .span 1 2⟩,
   ⟨0x7015, 0x7015, 0, 0, .u16, .wo, 1, 0, .span 0 0x1FF⟩,
   ⟨0x7016, 0x7016, 0, 0, .oct, .ro, 0, 0, .len 80 80⟩,
   ⟨0x7017, 0x7017, 0, 0, .u32, .rw, 0, 0, .flags 0 0x6 0⟩,
   ⟨0x7018, 0x7018, 0, 0, .u32, .ro, 0, 0, .any⟩,
   ⟨0x7200, 0x7200, 0, 0, .bool, .rw, 2, 0, .bool⟩,
   ⟨0x7201, 0x7201, 0, 0, .bool, .rw, 2, 0, .bool⟩]

/-- The objects of block 0x7400 (R591, R592; 21_electrical_package.md). -/
def envObjects : List ObjRow :=
  [⟨0x7410, 0x7410, 0, 0, .u8, .ro, 0, 8, .any⟩,
   ⟨0x7410, 0x7410, 1, 8, .i16, .ro, 0, 0, .any⟩,
   ⟨0x7411, 0x7411, 0, 0, .u8, .ro, 0, 8, .any⟩,
   ⟨0x7411, 0x7411, 1, 8, .i16, .rw, 1, 0x8000, .resets 0x8000⟩,
   ⟨0x7412, 0x7412, 0, 0, .i16, .ro, 0, 0, .any⟩,
   ⟨0x7413, 0x7413, 0, 0, .i16, .rw, 1, 0x5f0, .span 0 0x6f0⟩,
   ⟨0x7414, 0x7414, 0, 0, .i16, .rw, 1, 0x690, .span 0 0x6f0⟩,
   ⟨0x7415, 0x7415, 0, 0, .u32, .rw, 0, 0, .flags 0x0 0x7a 0x0⟩,
   ⟨0x7416, 0x7416, 0, 0, .u8, .ro, 0, 8, .any⟩,
   ⟨0x7416, 0x7416, 1, 8, .u16, .ro, 0, 0, .any⟩,
   ⟨0x7417, 0x7417, 0, 0, .u16, .ro, 0, 0, .any⟩,
   ⟨0x7418, 0x7418, 0, 0, .u8, .ro, 0, 0, .any⟩,
   ⟨0x7600, 0x7600, 0, 0, .u8, .rw, 2, 0, .span 0 3⟩,
   ⟨0x7601, 0x7601, 0, 0, .u8, .rw, 2, 0, .span 0 3⟩,
   ⟨0x7602, 0x7602, 0, 0, .u16, .ro, 2, 0, .any⟩,
   ⟨0x7603, 0x7603, 0, 0, .u16, .rw, 2, 10, .span 1 0x3e8⟩,
   ⟨0x7604, 0x7604, 0, 0, .u8, .rw, 2, 32, .span 0 255⟩]

/-- The objects of block 0x7800 (R565; 20_power_startup.md). -/
def updObjects : List ObjRow :=
  [⟨0x7810, 0x7810, 0, 0, .dom, .wo, 2, 0, .len 513 25165824⟩,
   ⟨0x7811, 0x7811, 0, 0, .u8, .wo, 2, 0, .span 1 3⟩,
   ⟨0x7812, 0x7812, 0, 0, .u8, .ro, 0, 0, .any⟩,
   ⟨0x7813, 0x7813, 0, 0, .u8, .ro, 0, 2, .any⟩,
   ⟨0x7813, 0x7813, 1, 2, .oct, .ro, 0, 0, .len 16 16⟩,
   ⟨0x7814, 0x7814, 0, 0, .u8, .ro, 0, 1, .any⟩,
   ⟨0x7816, 0x7816, 0, 0, .u8, .ro, 0, 0, .any⟩,
   ⟨0x7a00, 0x7a00, 0, 0, .u8, .wo, 3, 0, .span 1 1⟩,
   ⟨0x7a01, 0x7a01, 0, 0, .u32, .ro, 2, 0, .any⟩]

end Sys2Proof.Machine
end

