-- ==== Sys2Proof/Machine/Objects.lean ====
section
/-! DEFINITION. The object dictionary as one table (R423, R424): which objects exist, of what type and access class, and the
reset value of each. -/

namespace Sys2Proof.Machine

/-- The key of an object in the dictionary store: its index and its subindex as one number (R423). -/
abbrev key (ix sub : Nat) : Nat := ix * 256 + sub

/-- The rows of the index block that holds an index (R424). -/
def blockRows (ix : Nat) : List ObjRow :=
  let b := ix / 0x400
  if b == 4 then sysObjects else if b == 5 then sesObjects else if b == 6 then lifObjects
  else if b == 8 then wpuObjects else if b == 9 then pscObjects else if b == 10 then evfObjects
  else if b == 12 then cptObjects else if b == 13 then iplObjects else if b == 14 then stxObjects
  else if b == 15 then brdObjects else if b == 16 then mreObjects else if b == 17 then cdeObjects
  else if b == 18 then segObjects else if b == 19 then clsObjects else if b == 20 then pfcObjects
  else if b == 21 then hrbObjects else if b == 22 then dlvObjects else if b == 23 then dmcObjects
  else if b == 24 then netObjects else if b == 25 then calObjects else if b == 26 then bstObjects
  else if b == 27 then monObjects else if b == 28 then pmcObjects else if b == 29 then envObjects
  else if b == 30 then updObjects else []

/-- How many instances a function block has at the subindexes of its common objects: none for a block without a function
state machine (R425), `some 0` for a single instance at subindex 0x00 (R21, R375, R454). -/
def commonInstances (ix : Nat) : Option Nat :=
  let b := ix / 0x400
  if b == 12 then some 32 else if b == 13 then some 17 else if b == 15 then some 4 else if b == 22 then some 5
  else if b == 23 then some 8 else if b == 24 then some 3
  else if 8 ≤ b && b ≤ 28 && b != 11 then some 0 else none

/-- The common objects at the start of every function's index block, by their offset from the base (R21). -/
def commonRow (ix sub off : Nat) : Option ObjRow :=
  match off with
  | 0 => some ⟨ix, ix, sub, sub, .u8, .ro, 0, 0, .any⟩
  | 1 => some ⟨ix, ix, sub, sub, .u8, .wo, 1, 0, .span 1 6⟩
  | 2 => some ⟨ix, ix, sub, sub, .u32, .rw, 1, 1000, .span 1 60000⟩
  | 3 => some ⟨ix, ix, sub, sub, .u32, .ro, 0, 0, .any⟩
  | 4 => some ⟨ix, ix, sub, sub, .u32, .rw, 1, 0, .flags 0 0xB 0⟩
  | 5 => some ⟨ix, ix, sub, sub, .u64, .ro, 0, 0, .any⟩
  | 6 => some ⟨ix, ix, sub, sub, .u64, .ro, 0, 0, .any⟩
  | 7 => some ⟨ix, ix, sub, sub, .u64, .ro, 0, 0, .any⟩
  | _ => none

/-- The row of the dictionary that defines the object at an index and subindex, if it exists (R423). -/
def rowOf (ix sub : Nat) : Option ObjRow :=
  if ix % 0x400 < 8 then
    match commonInstances ix with
    | none => none
    | some 0 => if sub == 0 then commonRow ix sub (ix % 0x400) else none
    | some n =>
      if sub == 0 then some ⟨ix, ix, 0, 0, .u8, .ro, 0, n, .any⟩
      else if sub ≤ n then commonRow ix sub (ix % 0x400) else none
  else (blockRows ix).find? (fun r => r.ixLo ≤ ix && ix ≤ r.ixHi && r.subLo ≤ sub && sub ≤ r.subHi)

/-- Whether any object stands at an index (R430 "no object"). -/
def indexExists (ix : Nat) : Bool :=
  if ix % 0x400 < 8 then (commonInstances ix).isSome
  else (blockRows ix).any (fun r => r.ixLo ≤ ix && ix ≤ r.ixHi)

/-- The reset value the chapters give per instance, where an object's default differs from instance to instance: first lane
2n, pipeline floor(n / 2), trigger pin n (R116), placement column 4,032n (R187), engine state and logical segment (R289), queue
watermarks (R381), due interval (R496). -/
def instanceReset (ix sub : Nat) : Option Nat :=
  if sub == 0 then none
  else if ix == Ix.cptFirstLane then some (2 * (sub - 1))
  else if ix == Ix.cptPipeline then some ((sub - 1) / 2)
  else if ix == Ix.cptTriggerPin then some (sub - 1)
  else if ix == Ix.stxPlacementColumn then some (4032 * (sub - 1))
  else if ix == Ix.segEngineState then some (if sub ≤ 32 then 1 else 0)
  else if ix == Ix.segLogicalSegment then some (if sub ≤ 32 then sub - 1 else 255)
  else if ix == Ix.dlvHighWatermark then some (if sub == 1 then 98304 else if sub == 2 then 49152 else 12288)
  else if ix == Ix.dlvLowWatermark then some (if sub == 1 then 32768 else if sub == 2 then 16384 else 4096)
  else if ix == Ix.calDueInterval then some (if sub == 1 then 480 else 0)
  else none

/-- The width in bits of a scalar object; 0 where no scalar stands there. -/
def objBits (ix sub : Nat) : Nat :=
  match rowOf ix sub with
  | some r => r.ty.bits
  | none => 0

/-- The width of the object at a key. -/
def bitsAt (k : Nat) : Nat := objBits (k / 256) (k % 256)

/-- The reset value of the scalar at a key (the default column of the object tables). -/
def resetReg (k : Nat) : Nat :=
  match instanceReset (k / 256) (k % 256) with
  | some v => v
  | none =>
    match rowOf (k / 256) (k % 256) with
    | some r => r.dflt
    | none => 0

end Sys2Proof.Machine
end

