-- ==== Sys2Proof/Machine/ObjectOctets.lean ====
section
/-! DEFINITION. The reset contents of the octet-string objects (the default column of the object tables). -/

namespace Sys2Proof.Machine

/-- Numbers as little-endian octets of one width. -/
def octsOf (n : Nat) (vs : List Nat) : Octets := vs.flatMap (leBytes n)

/-- The tone curve that passes every sample unchanged (R133). -/
def identityTone : Octets :=
  let knots := (List.range 256).map (fun k => 256 * k) ++ [65535]
  octsOf 2 (knots ++ knots ++ knots)

/-- The identity matrix with zero offsets (R133). -/
def identityMatrix : Octets := octsOf 2 [0x1000, 0, 0, 0, 0x1000, 0, 0, 0, 0x1000] ++ zeros 12

/-- The identity remap (R136). -/
def identityRemap : Octets := octsOf 4 [0, 2 ^ 30, 0, 0]

/-- The reset tree: every blob is class 0 (R298). -/
def resetTree : Octets := [0, 0, 0x80, 0x80] ++ zeros 1020

/-- The reset class table (R299). -/
def resetClassTable : Octets := (List.range 16).flatMap (fun c => [if c = 0 then 0x11 else 0x01, 0, 0xFF, 0] ++ zeros 12)

/-- The FIR coefficients of a bank that nothing has written, for a number of taps: the middle tap, or the two middle taps (R336). -/
def centreFir (taps : Nat) : Octets :=
  octsOf 4 ((List.range taps).map (fun k =>
    if taps % 2 = 1 then (if 2 * k + 1 = taps then 0x40000000 else 0) else if 2 * k = taps ∨ 2 * k + 2 = taps then 0x20000000 else 0))

/-- The FIR coefficients of both banks after reset, for the reset number of 15 taps (R336). -/
def resetFir : Octets := centreFir 15

/-- The maximally flat halfband of both banks after reset (R336). -/
def resetHalfband : Octets := octsOf 4 [321126400, toPattern 32 (-64225280), 12845056, toPattern 32 (-1310720)]

/-- The octet strings that do not begin as zeros, by index (the default column of the object tables). -/
def specialOct (ix : Nat) : Option Octets :=
  if ix = Ix.sysVendorName then some (ascii "Vagelen")
  else if ix = Ix.sysProductName then some (ascii "Synaeden SN7716")
  else if ix = Ix.sysPartNumber then some (ascii "SN7716-BG")
  else if ix = Ix.iplDarkAndFlatTable then some ((List.range 4096).flatMap (fun _ => [0, 0, 0, 0x80]))
  else if ix = Ix.iplLensShading then some (octsOf 2 (List.replicate 195 0x4000))
  else if ix = Ix.iplColourMatrix then some identityMatrix
  else if ix = Ix.iplToneCurve then some identityTone
  else if ix = Ix.iplRemapCoefficients ∨ ix = Ix.iplRemapInForce then some identityRemap
  else if ix = Ix.stxCrossWebMap then some (octsOf 4 ((List.range 257).map (fun k => k * 8323072 / 3)))
  else if ix = Ix.mreSubstrateReference ∨ ix = Ix.segReferenceSample then some (octsOf 2 [0xFFFF, 0x8000, 0x8000])
  else if ix = Ix.mreToleranceTable then some (octsOf 4 (List.replicate 256 0x1000))
  else if ix = Ix.mreRGBWeights ∨ ix = Ix.segChannelWeights then some (octsOf 2 [85, 86, 85])
  else if ix = Ix.mreDeltaEFactors then some (octsOf 2 [0x1000, 0x1000, 0x1000])
  else if ix = Ix.clsClassifierTree then some resetTree
  else if ix = Ix.clsClassTable then some resetClassTable
  else if ix = Ix.pfcFIRCoefficients then some resetFir
  else if ix = Ix.pfcHalfbandCoefficients then some resetHalfband
  else if ix = Ix.bstOnlineUnitMask then some (leBytes 8 (2 ^ 53 - 1))
  else if ix = Ix.dmcErrorLog then some (zeros 2048)
  else none

/-- The least length of an octet string that a range admits. -/
def Rng.least : Rng → Nat
  | .len lo _ => lo
  | .lenOr a b => min a b
  | _ => 0

/-- The reset contents of the octet string at a key: where the tables give none, a domain is empty and a string is zeros of its least length
(DESIGN CHOICE). -/
def resetOct (k : Nat) : Octets :=
  match specialOct (k / 256) with
  | some bs => bs
  | none =>
    match rowOf (k / 256) (k % 256) with
    | some r => if r.ty = .dom then [] else zeros r.rng.least
    | none => []

end Sys2Proof.Machine
end

