-- ==== Sys2Proof/Machine/Pixels.lean ====
section
/-! DEFINITION. The arithmetic of the input pipelines on the samples of one line (R118 to R139): corrections, demosaic, colour,
remap. -/

namespace Sys2Proof.Machine

/-- A sample position: its 16-bit value and its pixel flags (R118, R119). -/
structure Px where
  v : Nat
  f : Nat
  deriving DecidableEq, Repr

/-- The pixel flags (R119). -/
abbrev pxSat : Nat := 1
abbrev pxReplaced : Nat := 2
abbrev pxOutside : Nat := 4

/-- The sample values of one row or component over a line. -/
abbrev Plane := List Px

/-- The sample at a position. -/
def pxAt (p : Plane) (i : Nat) : Px := p.getD i ⟨0, 0⟩

/-- A value clamped to 16 bits (R118). -/
def clamp16 (i : Int) : Nat := (clampInt 0 65535 i).toNat

/-- A quotient rounded half up; the divisor is positive. -/
def roundDiv (n : Int) (d : Nat) : Int := (2 * n + (d : Int)) / (2 * d : Nat)

/-- The little-endian 16-bit numbers of a string. -/
def u16s : Octets → List Nat
  | a :: b :: r => (a.toNat + 256 * b.toNat) :: u16s r
  | _ => []

/-- The 16-bit number at a place of a string of such numbers. -/
def u16At (bs : Octets) (i : Nat) : Nat := leAt bs (2 * i) 2

/-- A signed little-endian number. -/
def leInt (bs : Octets) (off n : Nat) : Int := ofPattern (8 * n) (leAt bs off n)

/-- The numbers of a list cut into chunks of `w`, at most `n` of them. -/
def chunks {α : Type} (w : Nat) : Nat → List α → List (List α)
  | 0, _ => []
  | n + 1, xs => xs.take w :: chunks w n (xs.drop w)

/-! ### Stages 1 to 4 -/

/-- The site colour of a Bayer row and column (R124): 0 R, 1 G, 2 B. -/
def bayerColour (phase row col : Nat) : Nat :=
  match (row + phase / 2) % 2, (col + phase) % 2 with
  | 0, 0 => 0
  | 1, 1 => 2
  | _, _ => 1

/-- Stages 1 and 2 on one component (R124). DEDUCED: the one clamp of R124's formula stands for both stages. -/
def blackDark (depth sat black : Nat) (dark : Int) (raw : Nat) : Px :=
  let level := if sat = 0 then 2 ^ depth - 1 else sat
  { v := clamp16 ((raw * 2 ^ (16 - depth) : Nat) - (black : Int) - dark), f := if level ≤ raw then pxSat else 0 }

/-- The nearest good column to the left at steps of one colour (R127). -/
def goodLeft (bad : List Nat) (step : Nat) : Nat → Nat → Option Nat
  | 0, _ => none
  | n + 1, x => if x < step then none else if bad.contains (x - step) then goodLeft bad step n (x - step) else some (x - step)

/-- The nearest good column to the right at steps of one colour (R127). -/
def goodRight (bad : List Nat) (step width : Nat) : Nat → Nat → Option Nat
  | 0, _ => none
  | n + 1, x =>
    if width ≤ x + step then none else if bad.contains (x + step) then goodRight bad step width n (x + step) else some (x + step)

/-- A defective component replaced from the good ones beside it (R127). A row without a good component of the colour is one for which
the spec states no result: a free value. -/
def replaceDefect (p : Plane) (bad : List Nat) (step x : Nat) : Px :=
  match goodLeft bad step p.length x, goodRight bad step p.length p.length x with
  | some l, some r =>
    let a := pxAt p l
    let b := pxAt p r
    { v := (roundDiv ((a.v * (r - x) + b.v * (x - l) : Nat) : Int) (r - l)).toNat, f := pxReplaced ||| a.f ||| b.f }
  | some l, none => { v := (pxAt p l).v, f := pxReplaced ||| (pxAt p l).f }
  | none, some r => { v := (pxAt p r).v, f := pxReplaced ||| (pxAt p r).f }
  | none, none => { v := Config.lonelyDefect (pxAt p x).v % 65536, f := pxReplaced ||| (pxAt p x).f }

/-- Stage 3 on one row (R127). -/
def replaceDefects (bad : List Nat) (step : Nat) (p : Plane) : Plane :=
  p.mapIdx (fun x s => if bad.contains x then replaceDefect p bad step x else s)

/-- The lens-shading gain at a column, in 2.14 (R128): `knots` are the 65 of the channel. -/
def shadingAt (knots : List Nat) (width x : Nat) : Nat :=
  let k := 64 * x / width
  let a := knots.getD k 0
  let b := knots.getD (k + 1) 0
  (((a * width : Nat) : Int) + ((b : Int) - a) * ((64 * x - k * width : Nat) : Int) |>.toNat) / width

/-- Stage 4 on one component (R128). -/
def shadeFlat (s f : Nat) (p : Px) : Px := { p with v := min 65535 ((p.v * s * f + 2 ^ 28) / 2 ^ 29) }

/-! ### Demosaic -/

/-- The estimate chosen by the gradients of a missing component, doubled (R129). The estimates and gradients themselves the spec does
not give as formulas: free values of the six rows, the place and the component. -/
def demosaicEstimate (threshold : Nat) (rows : List (List Nat)) (row col comp : Nat) : Int :=
  let gh := Config.demosaicGradient rows row col comp false
  let gv := Config.demosaicGradient rows row col comp true
  let h := Config.demosaicEstimate rows row col comp false
  let v := Config.demosaicEstimate rows row col comp true
  if max gh gv - min gh gv < threshold then h + v else if gh < gv then 2 * h else 2 * v

/-- A component at a row and column of line n's two rows, doubled: the site's own sample, or an estimate (R129). -/
def demosaicSample (threshold phase : Nat) (rows : List (List Nat)) (row col comp : Nat) : Int :=
  if bayerColour phase row col = comp then 2 * ((rows.getD (2 + row) []).getD col 0 : Int)
  else demosaicEstimate threshold rows row col comp

/-- Stage 5 at one column (R129): G the mean of both rows' green, R of row 0 and B of row 1. The rows stand in the order of lines
n − 1, n, n + 1. -/
def demosaicColumn (threshold phase : Nat) (rows : List Plane) (col : Nat) : List Px :=
  let vs := rows.map (fun p => p.map (fun x => x.v))
  let own := (pxAt (rows.getD 2 []) col).f ||| (pxAt (rows.getD 3 []) col).f
  let all := rows.foldl (fun f p => p.foldl (fun g x => g ||| x.f) f) 0
  let f := own ||| (all &&& Config.demosaicFlags vs col)
  let g := demosaicSample threshold phase vs 0 col 1 + demosaicSample threshold phase vs 1 col 1
  [⟨clamp16 (roundDiv (demosaicSample threshold phase vs 0 col 0) 2), f⟩, ⟨clamp16 (roundDiv g 4), f⟩,
   ⟨clamp16 (roundDiv (demosaicSample threshold phase vs 1 col 2) 2), f⟩]

/-- Three planes from a list of pixels of three components. -/
def planesOfColumns (cs : List (List Px)) : List Plane := [0, 1, 2].map (fun k => cs.map (fun c => c.getD k ⟨0, 0⟩))

/-- Stage 5 on a line (R129). -/
def demosaic (threshold phase : Nat) (rows : List Plane) : List Plane :=
  planesOfColumns ((List.range (rows.getD 2 []).length).map (demosaicColumn threshold phase rows))

/-! ### Colour -/

/-- One row of the colour matrix (R133): `bs` is the 30-byte object. -/
def matrixRow (bs : Octets) (i : Nat) (v : List Nat) : Nat :=
  let sum := (List.range 3).foldl (fun (a : Int) j => a + leInt bs (2 * (3 * i + j)) 2 * (v.getD j 0 : Int)) 0
  clamp16 (roundDiv (sum + leInt bs (18 + 4 * i) 4 * 4096) 4096)

/-- The tone curve of a channel (R133). -/
def toneOf (bs : Octets) (channel v : Nat) : Nat :=
  let k := min (v / 256) 255
  let span := if k = 255 then 255 else 256
  let a := u16At bs (257 * channel + k)
  let b := u16At bs (257 * channel + k + 1)
  (roundDiv (((a * span : Nat) : Int) + ((b : Int) - a) * ((v - 256 * k : Nat) : Int)) span).toNat

/-- The cell of the Lab table that holds an input, its span and the place within it (R134). -/
def labCell (v : Nat) : Nat × Nat × Nat :=
  let k := min (v / 2048) 31
  (k, if k = 31 then 2047 else 2048, v - 2048 * k)

/-- A component of a node of the Lab table (R134). -/
def labNode (bs : Octets) (c r g b : Nat) : Nat := u16At bs (3 * ((b * 33 + g) * 33 + r) + c)

/-- The exact tetrahedral value of a component times `D`, and `D`, the product of the spans (R134). -/
def labExact (bs : Octets) (c r g b : Nat) : Nat × Nat :=
  let (kr, sr, dr) := labCell r
  let (kg, sg, dg) := labCell g
  let (kb, sb, db) := labCell b
  let D := sr * sg * sb
  let fr := dr * sg * sb
  let fg := dg * sr * sb
  let fb := db * sr * sg
  let node (i j k : Nat) : Nat := labNode bs c (kr + i) (kg + j) (kb + k)
  let walk (f1 f2 f3 n1 n2 : Nat) : Nat := node 0 0 0 * (D - f1) + n1 * (f1 - f2) + n2 * (f2 - f3) + node 1 1 1 * f3
  let num :=
    if fg ≤ fr ∧ fb ≤ fg then walk fr fg fb (node 1 0 0) (node 1 1 0)
    else if fb ≤ fr ∧ fg ≤ fb then walk fr fb fg (node 1 0 0) (node 1 0 1)
    else if fr ≤ fg ∧ fb ≤ fr then walk fg fr fb (node 0 1 0) (node 1 1 0)
    else if fb ≤ fg ∧ fr ≤ fb then walk fg fb fr (node 0 1 0) (node 0 1 1)
    else if fr ≤ fb ∧ fg ≤ fr then walk fb fr fg (node 0 0 1) (node 1 0 1)
    else walk fb fg fr (node 0 0 1) (node 0 1 1)
  (num, D)

/-- A Lab component: an integer within 1 of the exact tetrahedral value, which one is a free value (R134). -/
def labOf (bs : Octets) (c r g b : Nat) : Nat :=
  let (num, D) := labExact bs c r g b
  let lo := (num + D - 1) / D - 1
  let hi := min 65535 (num / D + 1)
  lo + Config.labError num D % (hi - lo + 1)

/-- Stages 7 and 8 on one pixel: `space` is the output space, `colour` whether the camera is a colour camera (R133 to R135). -/
def colourPixel (space : Nat) (colour matrixOn toneOn : Bool) (matrix tone lab : Octets) (px : List Px) : List Px :=
  let f := px.foldl (fun g x => g ||| x.f) 0
  let v := px.map (fun x => x.v)
  let t (c x : Nat) : Nat := if toneOn then toneOf tone c x else x
  if colour then
    let m := if matrixOn then [matrixRow matrix 0 v, matrixRow matrix 1 v, matrixRow matrix 2 v] else v
    if space = 2 then [⟨t 0 (m.getD 0 0), f⟩]
    else if space = 0 then [⟨t 0 (m.getD 0 0), f⟩, ⟨t 1 (m.getD 1 0), f⟩, ⟨t 2 (m.getD 2 0), f⟩]
    else (List.range 3).map (fun c => ⟨labOf lab c (m.getD 0 0) (m.getD 1 0) (m.getD 2 0), f⟩)
  else [⟨t 0 (v.getD 0 0), f⟩]

/-- The pixels of planes, column by column. -/
def columnsOf (ps : List Plane) : List (List Px) :=
  (List.range (ps.headD []).length).map (fun x => ps.map (fun p => pxAt p x))

/-- Stages 7 and 8 on a line: planes in, planes out (R133, R134). -/
def colourLine (space : Nat) (colour matrixOn toneOn : Bool) (matrix tone lab : Octets) (ps : List Plane) : List Plane :=
  let cs := (columnsOf ps).map (colourPixel space colour matrixOn toneOn matrix tone lab)
  if space = 2 ∨ !colour then [cs.map (fun c => c.getD 0 ⟨0, 0⟩)] else planesOfColumns cs

/-! ### Remap -/

/-- The four remap coefficients of the 16-byte object (R136). -/
def remapCoeffs (bs : Octets) : List Int := [leInt bs 0 4, leInt bs 4 4, leInt bs 8 4, leInt bs 12 4]

/-- The source column of an output position in units of 2^−16 pixel (R136). -/
def remapColumn (c : List Int) (j : Nat) : Int :=
  (c.getD 0 0 * 2 ^ 46 + c.getD 1 0 * (j : Int) * 2 ^ 32 + c.getD 2 0 * (j * j : Nat) * 2 ^ 16 + c.getD 3 0 * (j * j * j : Nat)) /
    2 ^ 46

/-- The taps of a source column with their weights over a common denominator: the tap's offset and its weight (R137): `linear` or
Catmull-Rom at phase p / 256. -/
def remapTaps (linear : Bool) (p : Nat) : List (Int × Int) × Nat :=
  let t : Int := p
  if linear then ([(0, 256 - t), (1, t)], 256)
  else ([(-1, -(t * t * t) + 512 * t * t - 65536 * t), (0, 3 * t * t * t - 1280 * t * t + 2 * 2 ^ 24),
         (1, -3 * t * t * t + 1024 * t * t + 65536 * t), (2, t * t * t - 256 * t * t)], 2 ^ 25)

/-- A quotient that is exact, or one of the two integers beside it, which is a free value: the spec states no rounding here. -/
def freeRound (n : Int) (d : Nat) : Int := if n % d = 0 then n / d else n / d + Config.remapRound n d % 2

/-- A position of one remapped plane (R137). -/
def remapPx (linear : Bool) (c : List Int) (p : Plane) (j : Nat) : Px :=
  let x := remapColumn c j
  let W : Int := p.length
  if x < 0 ∨ (W - 1) * 65536 < x then ⟨0, pxOutside⟩
  else
    let i := x / 65536
    let (taps, d) := remapTaps linear ((x % 65536) / 256).toNat
    let tapPx (o : Int) : Px := pxAt p (clampInt 0 (W - 1) (i + o)).toNat
    let sum := taps.foldl (fun (a : Int) t => a + t.2 * ((tapPx t.1).v : Int)) 0
    let f := taps.foldl (fun g t => if t.2 = 0 then g else g ||| (tapPx t.1).f) 0
    ⟨clamp16 (freeRound sum d), f⟩

/-- Stage 9 on a plane: remapped, or copied where the stage is disabled (R137). -/
def remapPlane (on linear : Bool) (c : List Int) (width : Nat) (p : Plane) : Plane :=
  if on then (List.range width).map (remapPx linear c p) else p.take width

/-- A value on a ramp: old + trunc((new − old) × k / L) (R17, R139, R160). -/
def rampValue (old new : Int) (k L : Nat) : Int := old + Int.tdiv ((new - old) * k) L

end Sys2Proof.Machine
end

