-- ==== Sys2Proof/Machine/State.lean ====
section
/-! DEFINITION. The state of the device as plain data: the dictionary's scalar and octet-string objects, what the chapters give
the blocks beside their objects, the elapsed time, what has left the pins, and the queue of waiting commands. -/

namespace Sys2Proof.Machine

/-- Why the machine stops. -/
inductive Fault where
  /-- Raised by FETCH_RETRY, DESCRIPTOR_COMPLETE, MASTER_LOAD_COMPLETE, DRAM_ACCESS and RDIMM_ALERT where the octets that come with the
  command are not as many as the access that they answer or make can carry: no device could see such an event. Safe: no device state
  results. -/
  | impossibleOperand (mnemonic : String)
  deriving DecidableEq, Repr

/-- Why a command has no meaning. -/
inductive Refusal where
  /-- A row of the table that this model gives no meaning yet. Safe. -/
  | notModelled (mnemonic : String)
  deriving DecidableEq, Repr

/-! ### Web position unit -/

/-- The filtered levels of an encoder's lines and its window of transitions, newest first, an illegal one as true (R32, R35). -/
structure EncState where
  a : Bool := false
  b : Bool := false
  illegal : List Bool := []
  deriving DecidableEq, Repr

/-- A serial input beside its objects: the reference word, the raw count C and the consecutive bad frames (R39, R40); `polling`
while a frame is being clocked (R38). -/
structure SerState where
  ref : Option Nat := none
  count : Int := 0
  bad : Nat := 0
  polling : Bool := false
  deriving DecidableEq, Repr

/-- What WPU published from a CLK_POS cycle on: LP, whether WPU is Running, and what the TBU stamp of a cycle follows from
(R11, R60, R61). -/
structure Published where
  ns : Nat
  lp : Nat
  running : Bool
  tbu : Nat
  incr : Nat
  quality : Nat
  deriving DecidableEq, Repr

/-- A latch waiting in a probe's capture FIFO (R62). -/
structure ProbeLatch where
  rising : Bool
  lp : Nat
  time : Nat
  count : Nat
  deriving DecidableEq, Repr

/-- What WPU holds beside its objects: the inputs, whether P has changed since reset (R43), the time of its last change, the
averaging buffer of periods (cycles, counts), newest first, and whether the running period began after the buffer was last emptied
(R51), the net count change of the selected source while WPU is not Running (R31), which spacing comparators have hit at an end of
the range (R56), the LP history of the last 1,025 cycles (R60), the probes' FIFOs (R62), and for each probe the time at which the lockout of its
last latch ended, none while it lasts (R61). -/
structure WpuState where
  enc : Vector EncState 4
  ser : Vector SerState 2
  moved : Bool
  lastChange : Nat
  periods : List (Nat × Nat)
  fresh : Bool
  idleNet : Int
  spent : Vector Bool 24
  lastNew : Option Nat
  history : List Published
  probes : Vector (List ProbeLatch) 8
  released : Vector (Option Nat) 8
  deriving DecidableEq, Repr

/-! ### Position scheduler -/

/-- A pending entry in its table slot (R67). -/
structure PscEntry where
  slot : Nat
  target : Nat
  action : Nat
  tag : Nat
  deriving DecidableEq, Repr

/-- An active pulse: whether its width counts in LP, and the LP at which it then ends (R74, R75). -/
structure Pulse where
  inLp : Bool
  endLp : Int
  deriving DecidableEq, Repr

/-- An output's shaping stage: the shaped level and the active pulse (R74 to R76). -/
structure OutStage where
  active : Bool := false
  pulse : Option Pulse := none
  deriving DecidableEq, Repr

/-- What PSC holds beside its objects: the entry table by slot, in rising order of slot, and the outputs (R67, R73). -/
structure PscState where
  entries : List PscEntry
  outs : Vector OutStage 48
  deriving DecidableEq, Repr

/-! ### Camera ports -/

/-- The tag of a line (R93): its line number, the LP and time stamp of its trigger, and the TBU clock at its creation. -/
structure Tag where
  line : Nat
  lp : Nat
  time : Nat
  tbu : Nat
  deriving DecidableEq, Repr

/-- The line tag that goes to IPL with a line or marker (R102). -/
structure LineTag where
  line : Nat
  lp : Nat
  time : Nat
  triggerToLine : Nat
  port : Nat
  reason : Nat
  frameStart : Bool
  frameEnd : Bool
  format : Nat
  width : Nat
  frames : Nat
  deriving DecidableEq, Repr

/-- A strip-close record (R102): the port, the strip, its lines and its markers by reason code, the long-frame lines, the tag LP
and stamp of its index 0 and the stamp of its last tag, and whether the strip was truncated (R112). -/
structure StripClose where
  port : Nat
  strip : Nat
  lines : Nat
  reasons : List Nat
  long : Nat
  lp0 : Nat
  time0 : Nat
  timeLast : Nat
  truncated : Bool
  deriving DecidableEq, Repr

/-- What a port delivers to its pipeline (R102): a line with its components at the camera's depth, a marker, a strip-close
record. -/
inductive CamItem where
  | line (tag : LineTag) (samples : List Nat)
  | marker (tag : LineTag)
  | close (rec : StripClose)
  deriving DecidableEq, Repr

/-- A tag that has been paired or retired and waits for its line-number place (R102): reason 0 with pixels, else a marker. -/
structure Resolved where
  tag : LineTag
  samples : Option (List Nat)
  deriving DecidableEq, Repr

/-- A link's way up (R90, R91): the training of a first attempt, the back-off before the retry, the retry. -/
inductive TrainStep where
  | idle | first | backOff | retry
  deriving DecidableEq, Repr

/-- What a camera port holds beside its objects: the tag FIFO, the resolved tags, the line numbers next to tag and next to send
and the run's first line (R93, R102), what governs triggers (R95, R97, R104, R105, R115), the camera frame (R98), the strip record
being made, the buffer slots and the lines in transfer (R107), and the link's way up (R90 to R92). -/
structure CptState where
  tags : List Tag := []
  resolved : List Resolved := []
  tagNext : Option Nat := none
  sendNext : Option Nat := none
  lastSent : Option Nat := none
  pulsesHigh : Nat := 0
  needResume : Bool := false
  resumed : Bool := false
  hold : Bool := false
  shortHold : Bool := false
  outOfStep : Bool := false
  realigned : Bool := false
  truncated : Bool := false
  frameStrip : Option Nat := none
  framePos : Nat := 0
  frames : Nat := 0
  stripNow : Option Nat := none
  stopStrip : Option Nat := none
  closed : Option Nat := none
  closing : Option StripClose := none
  long : Nat := 0
  missing : Bool := false
  slots : Nat := 0
  incoming : List Bool := []
  train : TrainStep := .idle
  rate : Nat := 0
  found : Option (Nat × List (Nat × Nat)) := none
  known : Option (Nat × List (Nat × Nat)) := none
  heard : Nat := 0
  deriving DecidableEq, Repr

/-! ### Input pipelines -/

/-- A ramp (R17): the values it leaves and goes to, the step it has reached and its length in lines. -/
structure Ramp where
  old : List Int
  new : List Int
  step : Nat
  len : Nat
  deriving DecidableEq, Repr

/-- A camera line after stage 4, or a marker (R120, R122). -/
structure StageLine where
  tag : LineTag
  planes : Option (List Plane)
  deriving DecidableEq, Repr

/-- The values stages 5 to 8 use for a strip (R123): stage enable, edge threshold, matrix, tone curve, Lab table. -/
structure ColourSet where
  enable : Nat
  edge : Nat
  matrix : Octets
  tone : Octets
  lab : Octets
  deriving DecidableEq, Repr

/-- A channel's statistics over a strip (R143). -/
structure ChannelStats where
  sum : Nat := 0
  squares : Nat := 0
  low : Nat := 0xFFFF
  high : Nat := 0
  samples : Nat := 0
  deriving DecidableEq, Repr

/-- A strip's statistics at one tap (R143): lines with pixels, markers by reason, positions with SAT and with REPLACED, the channels,
and the zones' sums and samples, zone-major. -/
structure StripStats where
  lines : Nat := 0
  reasons : List Nat := List.replicate 12 0
  sat : Nat := 0
  replaced : Nat := 0
  channels : List ChannelStats := List.replicate 3 {}
  zones : List (Nat × Nat) := List.replicate 96 (0, 0)
  deriving DecidableEq, Repr

/-- What a pipeline holds of one camera (R122 to R143): the recent lines after stage 4, newest first, the output line to form next,
the last camera line taken, the colour values of the output strip and of the next one, the remap ramp, the statistics of both taps
and the tap of the strip, the strip-close records that wait for their output lines, the first tag of the strip that is being taken, the last
strip closed, and the strip after
which a STOP ends. -/
structure IplCam where
  lines : List StageLine := []
  next : Option Nat := none
  last : Option Nat := none
  colour : Option ColourSet := none
  colourNext : Option ColourSet := none
  ramp : Option Ramp := none
  tapped : StripStats := {}
  output : StripStats := {}
  tap : Nat := 0
  closes : List (StripClose × Nat) := []
  opened : Option LineTag := none
  closed : Option Nat := none
  stopStrip : Option Nat := none
  deriving DecidableEq, Repr

/-- A logical pipeline beside its cameras: the last strip boundary it has seen, the line its Running period starts with, and the lines that the
spare last served in its place, from the first of them to the one after the last (R146). -/
structure IplPipe where
  seen : Option Nat := none
  start : Nat := 0
  served : Option (Nat × Nat) := none
  deriving DecidableEq, Repr

/-- The spare pipeline beside its objects (R144): whether its loading has ended, whether TAKE_OVER waits, and the line B1. -/
structure SpareState where
  loaded : Bool := false
  takeOver : Bool := false
  shadowFrom : Option Nat := none
  deriving DecidableEq, Repr

/-! ### Stitcher -/

/-- A camera's output line as STX takes it (R120, R153): its tag, and its planes or none for a marker. -/
structure CamOut where
  tag : LineTag
  planes : Option (List Plane)
  deriving DecidableEq, Repr

/-- The line number, the LP and the time stamp of an output line. -/
abbrev CamOut.line (x : CamOut) : Nat := x.tag.line
abbrev CamOut.lp (x : CamOut) : Nat := x.tag.lp
abbrev CamOut.time (x : CamOut) : Nat := x.tag.time

/-- An included camera's place (R153): its placement column and its output width. -/
structure StxPlace where
  cam : Nat
  x : Int
  width : Nat
  deriving DecidableEq, Repr

/-- What STX holds of a camera: its lines, newest first, the highest line number and the last strip closed (R158, R184). -/
structure StxCam where
  lines : List CamOut := []
  high : Option Nat := none
  closed : Option Nat := none
  deriving DecidableEq, Repr

/-- A neighbour's overlap message (R177, R178), with the role of the port it came by (1 operator side, 2 far side). -/
structure Overlap where
  role : Nat
  lp : Nat
  first : Nat
  count : Nat
  code : Nat
  missing : Bool
  planes : List Plane
  deriving DecidableEq, Repr

/-- What STX gathers of a seam over a strip (R164): of each usable line its number and the sums of the lower and of the upper camera's samples,
and by column the sums over the lines. -/
structure SeamSums where
  lines : List (Nat × Nat × Nat) := []
  lower : List Nat := []
  upper : List Nat := []
  deriving DecidableEq, Repr

/-- What STX holds beside its objects (R153 to R184): the cameras in force in placement order, the local width, the cameras' lines,
the next line to form, the first line of the Running period, the strip after which a STOP ends, the ramps of Mount delay and Cross
shift, the cameras whose geometric objects a request wrote since the last line (R167), each seam's sums over this strip (R164),
the line that has been begun and whose overlap messages have gone, the neighbours' messages, and the strip a rejoin names, by role (R182). -/
structure StxState where
  places : List StxPlace := []
  width : Nat := 0
  cams : Vector StxCam 32 := Vector.replicate 32 {}
  next : Option Nat := none
  first : Nat := 0
  stopStrip : Option Nat := none
  delayRamp : Vector (Option Ramp) 32 := Vector.replicate 32 none
  shiftRamp : Vector (Option Ramp) 32 := Vector.replicate 32 none
  wrote : List Nat := []
  seams : List SeamSums := List.replicate 33 {}
  sent : Option Nat := none
  neighbours : List Overlap := []
  rejoin : List (Nat × Nat) := []
  deriving DecidableEq, Repr

/-- A stitched column: its components and its flags (R154, R156). -/
structure Column where
  vs : List Nat
  f : Nat
  deriving DecidableEq, Repr

/-- A stitched line: its number, its header and its columns (R154, R155). -/
structure Stitched where
  line : Nat
  lp : Nat
  time : Nat
  missing : Nat
  index : Nat
  flags : Nat
  code : Nat
  base : Nat
  width : Nat
  cols : List Column
  deriving DecidableEq, Repr

/-! ### Braid links -/

/-- A message that has come over a Braid port (R175): its type and its payload. -/
structure BraidMessage where
  type : Nat
  payload : Octets
  deriving DecidableEq, Repr

/-- What a Braid port holds beside its objects (R171 to R176): the training's step, the next sequence to send, the unacknowledged flits
by sequence, those of them that were resent, the flits that wait for credit (type, first and last flag, payload), the partner's credits, the sequence expected next,
whether a NAK for it is out, the flits accepted since credits were last returned, the message being received and those received. -/
structure BrdPort where
  train : TrainStep := .idle
  tx : Nat := 0
  replay : List (Nat × Octets) := []
  resent : List Nat := []
  waiting : List (Nat × Nat × Octets) := []
  credits : Nat := 512
  rx : Nat := 0
  naked : Bool := false
  owed : Nat := 0
  partial_ : Octets := []
  inbox : List BraidMessage := []
  deriving DecidableEq, Repr

/-- What BRD holds beside its ports: the role, type and LP of each message that was used (R170). -/
structure BrdState where
  ports : Vector BrdPort 4 := Vector.replicate 4 {}
  used : List ((Nat × Nat) × Nat) := []
  deriving DecidableEq, Repr

/-! ### Memory -/

/-- What a DRAM channel holds beside its objects (R392 to R397): the read that waits for its retry, the retraining's step, the times of
the correctable errors of the last second and of the last one logged, the polls at band 0, the band whose refresh interval is in force, and
the reads since the last one of which the latency was taken (R523). -/
structure DmcChannel where
  retry : Option DramRequest := none
  retrain : TrainStep := .idle
  errors : List Nat := []
  logged : Option Nat := none
  coolPolls : Nat := 0
  reads : Nat := 0
  refreshing : Nat := 0
  deriving DecidableEq, Repr

/-- What DMC holds beside its objects (R383 to R402): the modules in the sockets, the channels in the map, the sizes in GiB of the CDE
work, master and history regions where a retirement shortened them, the units marked poisoned, the requests that wait, the injected
errors, and the channels. -/
structure DmcState where
  sockets : Vector (Option DramModule) 8
  map : List Nat
  resized : Option (Nat × Nat × Nat) := none
  poison : List Nat := []
  waiting : List DramRequest := []
  injected : List (Nat × Nat) := []
  channels : Vector DmcChannel 8 := Vector.replicate 8 {}
  deriving DecidableEq, Repr

/-! ### Profile filter chain -/

/-- The RWB values of PFC in force for an output's strip (R330). -/
structure PfcSet where
  mask : Nat
  on : Nat
  off : Nat
  polarity : Nat
  report : Nat
  halfWidth : Nat
  guard : Nat
  time : Nat
  empty : Nat
  deriving DecidableEq, Repr

/-- An output that is due (R321): its stitched line, the stamp of the line's header, and the values in force. -/
structure PfcDue where
  line : Nat
  time : Nat
  set : PfcSet
  deriving DecidableEq, Repr

/-- A camera line as PFC takes it (R318): the shift in force at its arrival in whole columns, and the samples of the profiled
channel, none for a marker. -/
structure PfcLine where
  line : Nat
  shift : Int
  plane : Option Plane
  deriving DecidableEq, Repr

/-- A bin's chain (R320 to R330): the previous bin value, the integrators and combs, the CIC outputs, newest first, each bank's
halfband delay lines, the baseline and the state (0 none, 1 light, 2 dark). -/
structure PfcBin where
  x : Nat
  integ : List Nat
  comb : List Nat
  y1 : List Int
  hb0 : List (List Int)
  hb1 : List (List Int)
  base : Option Int
  state : Nat
  deriving DecidableEq, Repr

/-- An open streak (R331 to R334): polarity, p and time stamp of its first output, p of its last, the bins it spans, its runs at the
latest output, the outputs spanned, the maximum and sum of |e|, the sum of e, the bin-outputs, its flags, and the bank in force at the latest
output. -/
structure Streak where
  dark : Bool
  pFirst : Nat
  time : Nat
  pLast : Nat
  low : Nat
  high : Nat
  runs : List (Nat × Nat)
  outputs : Nat
  maxAbs : Nat
  sumAbs : Nat
  sum : Int
  count : Nat
  contPrev : Bool
  fade : Bool
  bank : Nat
  deriving DecidableEq, Repr

/-- What PFC holds beside its objects: the cameras' places and phase delays taken at ARM, the line the next output window begins
with, the outputs due, the cameras' lines, the bins, the outputs since the start point, a fade (the output within it and its length),
whether a swap request waits, the open streaks, by streak the runs that a full report ended at the last output, the ended streaks' events
that wait for the FIFO, the FIFO to CLS, the strip of the last overflow, the line after which a STOP ends, and the banks whose FIR has been
written since reset (R318 to R339). -/
structure PfcState where
  places : List StxPlace := []
  width : Nat := 0
  phase : List Nat := []
  from_ : Nat := 0
  due : List PfcDue := []
  lines : Vector (List PfcLine) 32 := Vector.replicate 32 []
  bins : List PfcBin := []
  outputs : Nat := 0
  fade : Option (Nat × Nat) := none
  swap : Bool := false
  streaks : List Streak := []
  cont : List (Bool × List (Nat × Nat)) := []
  ended : List Octets := []
  fifo : List Octets := []
  overflow : Option Nat := none
  last : Option Nat := none
  stopLine : Option Nat := none
  firWritten : List Nat := []
  deriving DecidableEq, Repr

/-! ### Compression engine -/

/-- A master tile that MRE wants decoded (R213): the bound page, the tile, the address of its block and the components it must hold. -/
structure TileJob where
  page : Nat
  tile : Nat
  addr : Nat
  comps : Nat
  deriving DecidableEq, Repr

/-- A tile of a crop that HRB wants encoded (R354). -/
structure CropBlock where
  handle : Nat
  index : Nat
  width : Nat
  height : Nat
  comps : Nat
  data : Octets
  deriving DecidableEq, Repr

/-- A host job (R245 to R250): its descriptor, the units consumed, the bytes produced, the running CRC, the blocks poisoned, and whether a
lane has held it, and whether a cancel has met it in a lane. -/
structure HostJob where
  desc : Octets
  consumed : Nat
  produced : Nat := 0
  crc : Nat
  poisoned : Nat := 0
  begun : Bool := false
  cancelled : Bool := false
  deriving DecidableEq, Repr

/-- What a lane has in hand (R243, R244). -/
inductive CdeWork where
  | tile (j : TileJob)
  | crop (b : CropBlock)
  | host (j : HostJob)
  deriving DecidableEq, Repr

/-- What CDE holds beside its objects: the waiting tiles, crop blocks and host jobs, oldest first, the lanes (0 to 15 decompression, 16 to
19 compression), and the blocks encoded for crops: handle, index, octets (R244). -/
structure CdeState where
  tiles : List TileJob := []
  crops : List CropBlock := []
  jobs : List HostJob := []
  lanes : Vector (Option CdeWork) 20 := Vector.replicate 20 none
  encoded : List (Nat × Nat × Octets) := []
  deriving DecidableEq, Repr

/-! ### Master raster engine -/

/-- How far the load of a queued page has come (R199). -/
inductive LoadState where
  | loading | ready | failed
  deriving DecidableEq, Repr

/-- A queued master page (R196 to R199): what was submitted, its load, whether its transfer runs, its place in the master region, and its
page header. -/
structure MasterPage where
  number : Nat
  tag : Nat
  host : Nat
  len : Nat
  load : LoadState := .loading
  moving : Bool := false
  place : Option Nat := none
  head : Octets := []
  deriving DecidableEq, Repr

/-- A bound page (R206 to R215, R228): what its record will say, its image, the space that it holds and its header, the tiles decoded (none: poisoned) and those asked
for, and whether it has started. -/
structure BoundPage where
  id : Nat
  number : Nat
  tag : Nat
  start : Nat
  pitch : Nat
  mark : Nat
  time : Nat
  synth : Bool
  state : Nat
  reason : Nat
  image : Option (Nat × Nat) := none
  hold : Option (Nat × Nat) := none
  head : Octets := []
  tiles : List (Nat × Option Octets) := []
  asked : List Nat := []
  begun : Bool := false
  mapReset : Bool := false
  weak : Bool := false
  limit : Bool := false
  lines : Nat := 0
  masked : Nat := 0
  sumX : Nat := 0
  sumY : Nat := 0
  maxA : Nat := 0
  cells : Nat := 0
  valid : Nat := 0
  deriving DecidableEq, Repr

/-- The sums that a correlation of paired samples needs (R217): how many pairs, their sums, their squares' sums and their products' sum. -/
structure PairSums where
  n : Int := 0
  x : Int := 0
  y : Int := 0
  xx : Int := 0
  yy : Int := 0
  xy : Int := 0
  deriving DecidableEq, Repr

/-- A cell's samples within the current window (R217): the sample points, the usable ones, the sum and sum of squares of the master, and the
sums of image and master at every lag, the lags along the web outermost. -/
structure CellAcc where
  points : Nat := 0
  usable : Nat := 0
  sum : Nat := 0
  squares : Nat := 0
  lags : List PairSums := []
  deriving DecidableEq, Repr

/-- The window that is being measured (R216 to R220): the page's bind number, the window, the displacements in force at the end of the
previous window and in this one by cell, which cells are clamped, the cells' samples, and whether a line had GEOM_RAMP. -/
structure MreWindow where
  page : Nat
  window : Nat
  prev : List (Int × Int)
  now : List (Int × Int)
  limited : List Bool
  cells : List CellAcc
  geom : Bool
  deriving DecidableEq, Repr

/-- What MRE holds beside its objects (R196 to R230): the queue, the bound pages in bind order, the mark buffer, the binder's last mark,
its page's pitch and the miss count, the last bound number, whether a page start will clear the map, where the next image may go, the
binds so far, the expiry a line has met (its time stamp), the drift terms by cell, the map by window and cell, their updates that wait,
the windows begun, the current window and the displacements in force at the end of the last one, the next line, the strip after which
a STOP ends, the LP of the last line, the page last started, whether a page has been bound since START or RELOCK, the ready pages at the head when last shown, the page records and binds on their way to CLS, and the ended pages (bind number and
place) that tile requests may still read (R197). -/
structure MreState where
  queue : List MasterPage := []
  bound : List BoundPage := []
  marks : List (Nat × Nat) := []
  mLast : Option Nat := none
  pitch : Option Nat := none
  miss : Nat := 0
  lastBound : Nat := 0
  mapReset : Bool := false
  ringHead : Nat := 0
  binds : Nat := 0
  expiry : Option Nat := none
  drift : List (Nat × (Int × Int)) := []
  map : List (Nat × (Int × Int)) := []
  pendT : List (Nat × List (Int × Int)) := []
  pendM : List (Nat × (Int × Int)) := []
  seq : Nat := 0
  window : Option MreWindow := none
  force : List (Int × Int) := []
  next : Option Nat := none
  stopStrip : Option Nat := none
  lastLp : Nat := 0
  latest : Option (Nat × Nat) := none
  anyBind : Bool := false
  ready : Nat := 0
  toCls : List Octets := []
  leaving : List (Nat × (Nat × Nat)) := []
  deriving DecidableEq, Repr

/-- A column of a deviation line: D, dL and the column flags (R210, R227). -/
structure DevCol where
  d : Nat
  dl : Int
  f : Nat
  deriving DecidableEq, Repr

/-- A deviation line (R210): the stitched line's header (its columns left out), the page number, state, reason, flags and offset, and the
columns. -/
structure DevLine where
  head : Stitched
  page : Nat
  state : Nat
  reason : Nat
  flags : Nat
  offset : Nat
  cols : List DevCol
  deriving DecidableEq, Repr

/-! ### Segment engines -/

/-- A line within SEG (R265 to R267): its number, tag, page, strip index and columns, its masks of candidates, strong and suppressed
pixels, and the settings in force for its strip. -/
structure SegLine where
  line : Nat
  lp : Nat
  time : Nat
  page : Nat
  index : Nat
  cols : List DevCol
  cand : List Bool
  strong : List Bool
  supp : List Bool
  morph : Nat
  element : Nat
  minArea : Nat
  maxLen : Nat
  deriving DecidableEq, Repr

/-- A blob's measurements (R280, R281), sums over absolute columns and over lines from its first: area, whether a pixel is strong, the
columns, tags, page, D and dL, moments, cameras, segments and the pixel flag summary. -/
structure BlobSum where
  area : Nat := 0
  strong : Bool := false
  line0 : Nat
  lp0 : Nat
  time0 : Nat
  page : Nat
  line1 : Nat
  lp1 : Nat
  colMin : Nat
  colMax : Nat
  cams : Nat := 0
  segs : Nat := 0
  dMax : Nat := 0
  sumD : Nat := 0
  sumDl : Int := 0
  sx : Int := 0
  sy : Int := 0
  sxx : Int := 0
  syy : Int := 0
  sxy : Int := 0
  flags : Nat := 0
  deriving DecidableEq, Repr

/-- A blob context (R268 to R279): its number, its first pixel's column and segment, its measurements, its runs on the last labelled line,
its record flags, its join id at the operator-side join with whether it touches an owner's pixel there, and the join ids it touches at
the far-side join with the PARTIALs received. -/
structure Blob where
  id : Nat
  firstCol : Nat
  seg : Nat
  m : BlobSum
  runs : List (Nat × Nat)
  flags : Nat := 0
  joinId : Option Nat := none
  touched : Bool := false
  joins : List (Nat × Option Octets) := []
  deriving DecidableEq, Repr

/-- A blob whose own side has closed and that waits for PARTIALs: since which line (R276, R277). -/
structure JoinWait where
  blob : Blob
  since : Nat
  deriving DecidableEq, Repr

/-- A blob-edge summary that was matched to the local line of a number (R178, R275), with the role of the port it came by. -/
structure EdgeSummary where
  role : Nat
  line : Nat
  pixel : Bool
  joinId : Nat
  deriving DecidableEq, Repr

/-- A spare engine beside its objects (R283 to R285): whether its loading has ended, whether TAKE_OVER waits, the line B1 of the shadowing, the
engine it replaced, and the first line that the spare itself has seen of the segment it serves. -/
structure SegSpare where
  loaded : Bool := false
  takeOver : Bool := false
  shadowFrom : Option Nat := none
  replaced : Option Nat := none
  view : Option Nat := none
  deriving DecidableEq, Repr

/-- What SEG holds beside its objects (R260 to R287): the lines held in morphology, oldest first, how many of them are labelled, the open
blobs, the run lists of force-closed blobs, the columns of runs dropped on the last line, the own edge blobs of the last lines by role,
newest first, the waiting blobs, the neighbours' summaries, the events and acknowledgements to send by role, the PARTIALs sent and
unacknowledged, the blob and join numbers, the records that wait for the FIFO and whether each holds a context, the FIFO, the strip's
figures, the running reference with 8 fraction bits, the lines since the start point, the spares, the engines that BST returns to service at
the next strip boundary with their segments (R513), the Minimum area of the last labelled line's strip (R266), the next line, the strip
after which a STOP ends, the last 64 lines taken with their LPs, the last line labelled with its LP, the summaries of lines not taken yet by
role (R178), the summaries sent after a drain's last line, and the engines that CLEAR returned to idle with the segments they had. -/
structure SegState where
  held : List SegLine := []
  done : Nat := 0
  blobs : List Blob := []
  cont : List (Nat × Nat) := []
  drops : List (Nat × Nat) := []
  edges : List (Nat × Nat × Option Nat) := []
  waits : List JoinWait := []
  summaries : List EdgeSummary := []
  events : List (Nat × Octets) := []
  acks : List Nat := []
  sent : List (Nat × Octets) := []
  nextBlob : Nat := 0
  nextJoin : Nat := 0
  records : List (Bool × Octets) := []
  fifo : List Octets := []
  stripDropped : Nat := 0
  stripSat : Nat := 0
  stripHigh : Nat := 0
  stripMin : Nat := 0xFFFFFFFF
  stripMax : Nat := 0
  stripUnseen : Nat := 0
  overflowed : Bool := false
  ref : List (List Nat) := []
  settled : Nat := 0
  spares : Vector SegSpare 4 := Vector.replicate 4 {}
  returning : List (Nat × Nat) := []
  minArea : Nat := 0
  next : Option Nat := none
  stopStrip : Option Nat := none
  taken : List (Nat × Nat) := []
  labelled : Option (Nat × Nat) := none
  early : List (Nat × Octets) := []
  closings : Nat := 0
  cleared : List (Nat × Nat) := []
  deriving DecidableEq, Repr

/-! ### Classifier and ledger -/

/-- A blob whose ledger lookup is in flight (R296, R305): its record, its class and its key. -/
structure Lookup where
  record : Octets
  cls : Nat
  key : Nat
  page : Nat
  deriving DecidableEq, Repr

/-- What CLS and LDG hold beside their objects (R291 to R312): whether the start point has come, the pages bound (number, start), newest
first, the lookup in flight, the Crumbs that wait for CQ, the last mark target by output, and the strip after which the pending settings
are applied. -/
structure ClsState where
  begun : Bool := false
  pages : List (Nat × Nat) := []
  lookup : Option Lookup := none
  crumbs : List Octets := []
  marks : List (Nat × Nat) := []
  deriving DecidableEq, Repr

/-! ### History ring -/

/-- A line in the history ring (R351): its number, LP, time, the page number of its deviation header and whether it is TRUNCATED. -/
structure HistLine where
  line : Nat
  lp : Nat
  time : Nat
  page : Nat
  truncated : Bool
  deriving DecidableEq, Repr

/-- A crop (R353 to R355): its handle, columns and lines, flags, whether its Crumb has left the engine, its first line once the ring has held
it, and after its cut its lines, the raw data, whether it was read poisoned, how many blocks it needs encoded (0: uncompressed) and those that
are, and whether CDE has left it to be delivered from its lines in the ring (R354). -/
structure Crop where
  handle : Nat
  col : Nat
  width : Nat
  line0 : Nat
  line1 : Nat
  clipped : Bool
  crumbOut : Bool := false
  abandoned : Bool := false
  cut : Bool := false
  first : Option HistLine := none
  lines : List HistLine := []
  raw : Octets := []
  poisoned : Bool := false
  blocks : Nat := 0
  encoded : List (Nat × Octets) := []
  unpacked : Bool := false
  deriving DecidableEq, Repr

/-- A piece of an image strip on its way to its channel (R356): the strip header, or a line with its window. -/
inductive ExportItem where
  | header (octets : Octets)
  | line (line col width : Nat)
  deriving DecidableEq, Repr

/-- What HRB holds beside its objects (R351 to R376): the lines in the ring, oldest first, the header of the open export, the pending crops, the records ready for the
crop channel with whether they are poisoned, the export items, whether the current strip is exported, and the strip after which a STOP
ends. -/
structure HrbState where
  lines : List HistLine := []
  header : Octets := []
  crops : List Crop := []
  ready : List (Bool × Octets) := []
  exports : List ExportItem := []
  exporting : Option (Nat × Nat) := none
  stopStrip : Option Nat := none
  next : Option Nat := none
  deriving DecidableEq, Repr

/-! ### Direct memory access -/

/-- An open Tray (R361): its data bytes, those of them since the last 64-byte boundary (R364), records and poisoned packets so far, the LP of its last record, and when it was opened. -/
structure Tray where
  bytes : Nat := 0
  tail : Octets := []
  records : Nat := 0
  poisoned : Nat := 0
  lastLp : Nat := 0
  opened : Nat := 0
  deriving DecidableEq, Repr

/-- A channel beside its objects (R358 to R367): the descriptors fetched ahead (index, octets; none where the fetch failed lastingly), the
descriptor in use and its host address, a read that failed once and waits for its retry, the open Tray, the records delivered since reset and
lost since the last footer, the status, close reason, bytes and records of a descriptor whose status waits to be written, whether one does and
whether its FENCE read has returned, PAUSE, the packets a drain still delivers (R375), the time of the last hand-over,
and what was last written to the doorbell (R370). -/
structure DmaChan where
  fetched : List (Nat × Octets) := []
  current : Option (Nat × Octets) := none
  place : Nat := 0
  failing : Option HostRead := none
  tray : Option Tray := none
  delivered : Nat := 0
  lost : Nat := 0
  status : Nat := 0
  reason : Nat := 0
  used : Nat := 0
  held : Nat := 0
  finishing : Bool := false
  fenced : Bool := false
  paused : Bool := false
  left : Nat := 0
  handed : Option Nat := none
  bell : Nat := 0
  deriving DecidableEq, Repr

/-! ### Event fabric -/

/-- Where a channel's cause came from (R411): its source event, a kind-4 entry of PSC, or a Fire write. -/
inductive CauseKind where
  | event | psc | fire
  deriving DecidableEq, Repr

/-- A cause that has reached EVF in CLK_POS: for an event its code, else the channel it names; the LP, time stamp and argument it
carries (R406, R411). -/
structure Cause where
  kind : CauseKind
  code : Nat
  lp : Nat
  time : Nat
  arg : Nat
  deriving DecidableEq, Repr

/-- An event in its crossing slot (R407): its code, the LP and time stamp it carries where it carries its own, its argument, and
whether a STOP of EVF found it there (R419). -/
structure Crossing where
  code : Nat
  own : Option (Nat × Nat)
  arg : Nat
  atStop : Bool
  deriving DecidableEq, Repr

/-- What EVF holds beside its objects: the causes of this CLK_POS cycle, the crossing slots, the CLK_POS cycles of each channel's
recent firings (R417), and the vectors raised within the last µs with whether a message waits for its end (R412). -/
structure EvfState where
  inbox : List Cause
  slots : List Crossing
  firings : List (Nat × Nat)
  vectors : List (Nat × Bool)
  deriving DecidableEq, Repr

/-! ### Queues -/

/-- A queue word beside its position (R344): its data, its parity bit and its poison mark; END stands on the last word of a
packet. -/
structure QWord where
  data : BitVec 64
  parity : Bool
  poison : Bool
  deriving DecidableEq, Repr

/-- One queue (R344, R346, R348): its packets, oldest first; the producer served last before the packets of `batch`, the producers of the
packets that entered last, all in the cycle `batchAt`; and the account of losses that the loss record will give. -/
structure QueueState where
  packets : List (List QWord) := []
  served : Nat := 31
  batch : List Nat := []
  batchAt : Nat := 0
  lostPackets : Nat := 0
  lostWords : Nat := 0
  firstLoss : Nat := 0
  lastLoss : Nat := 0
  deriving DecidableEq, Repr

/-! ### PCI Express -/

/-- What the host's configuration space holds out of reset. PRESUMED: the PCI Express Base Specification's defaults, 128 and 512 bytes, and
a Completion Timeout that runs; of its ranges that of R368 that comes first. -/
def hostDefaults : HostSetup := { payload := 0, readRequest := 2, rangeB := false, timeoutOff := false }

/-- What PCIE holds beside its objects: whether the link is up, whether the host has set Bus Master Enable (R374),
and what else the host has set (R368). -/
structure PcieState where
  linkUp : Bool
  busMaster : Bool
  setup : HostSetup
  deriving DecidableEq, Repr

/-! ### Network time -/

/-- An armed TOUT output (R468, R469): whether it is periodic, its first edge in ns, its period, its width, and the next edge. -/
structure ToutArm where
  periodic : Bool
  start : Nat
  period : Nat
  next : Nat
  deriving DecidableEq, Repr

/-- A capture in a TIN input's FIFO (R470): its octets. -/
abbrev Capture := Octets

/-- What TBU holds beside its objects (R458 to R471): how many sets and steps there have been, the Sync exchanges within the Lock threshold
in a row, the armed outputs and the widths of the pulses under way, the captures of each input, oldest first, and each input's last capture: its
CLK_TB cycle, whether it came from a task, and whether it is still in the FIFO. -/
structure TbuState where
  epoch : Nat := 0
  within : Nat := 0
  arms : Vector (Option ToutArm) 4 := Vector.replicate 4 none
  captures : Vector (List Capture) 4 := Vector.replicate 4 []
  last : Vector (Option (Nat × Bool × Bool)) 4 := Vector.replicate 4 none
  deriving DecidableEq, Repr

/-- A Sync exchange under way (R464): the Sync's sequence, its receive stamp in ps with the epoch of that stamp, its corrections, and the
master's time once known. -/
structure SyncRecord where
  seq : Nat
  t2 : Int
  epoch : Nat
  corr : Int
  t1 : Option Nat
  deriving DecidableEq, Repr

/-- A Delay_Req or Pdelay_Req under way (R464): its sequence, its own stamp in ps with the epoch of that stamp, and what is known of the
answer: the responder's receive time, its own arrival in ps, the corrections. -/
structure DelayRecord where
  seq : Nat
  own : Option Int
  epoch : Nat
  remote : Nat := 0
  arrival : Int := 0
  corr : Int := 0
  answered : Bool := false
  deriving DecidableEq, Repr

/-- What a field port holds beside its objects: the rate that automatic mode tries (true: 10GBASE-R), the transmit stamp queue of
identifiers and stamps in ps, oldest first, the foreign masters heard (port identity, Announces, the last), the sequences it will send
next, the master selected, the Sync and the delay exchange under way, and the path delay measured, in 1/250 of 2^-16 ns (R455, R463 to R467). -/
structure FnpPort where
  fast : Bool := true
  stamps : List (Nat × Int) := []
  foreign : List (Nat × Nat × PtpAnnounce) := []
  syncSeq : Nat := 0
  announceSeq : Nat := 0
  delaySeq : Nat := 0
  parent : Option Nat := none
  sync : Option SyncRecord := none
  delay : Option DelayRecord := none
  path : Option Int := none
  deriving DecidableEq, Repr

/-! ### Calibration -/

/-- The account of an item's instance (R481): its count, the time stamp and the TBU clock of its last calibration, and the source. -/
structure CalItem where
  count : Nat := 0
  time : Nat := 0
  tbu : Nat := 0
  source : Nat := 0
  deriving DecidableEq, Repr

/-- What a run has measured of a camera (R484): the lines with pixels, each sensor position's sum, each channel's sum of squares and samples, the
markers and the samples with SAT, whether its last strip has closed, and whether its port or pipeline left Running. -/
structure CalCam where
  cam : Nat
  lines : Nat := 0
  sums : List Nat := []
  squares : List (Nat × Nat) := List.replicate 3 (0, 0)
  markers : Nat := 0
  sat : Nat := 0
  done : Bool := false
  left : Bool := false
  deriving DecidableEq, Repr

/-- A value that CAL hands to MGT (R477): the item, its instance, the source, the value or what is to be added to it. -/
structure CalWrite where
  code : Nat
  inst : Nat
  source : Nat
  data : Octets
  add : Bool := false
  deriving DecidableEq, Repr

/-- A calibration run (R483 to R489): its request, its first strip, the cameras, the seam corrections of GEOMETRIC (seam, along and across with
quality), the reasons by camera, the reason of GEOMETRIC, and whether a seam axis was corrected. -/
structure CalRun where
  kind : Nat
  strips : Nat
  mask : Nat
  tag : Nat
  first : Nat
  cams : List CalCam
  seams : List (Nat × ((Int × Nat) × (Int × Nat))) := []
  reasons : List (Nat × Nat) := []
  geoReason : Nat := 0
  wrote : Bool := false
  deriving DecidableEq, Repr

/-- An import (R492): the slot applied, the slots' statuses, the records applied and skipped so far, and the sequence. -/
structure CalImport where
  slot : Nat
  status1 : Nat
  status2 : Nat
  applied : Nat
  skipped : Nat
  seq : Nat
  deriving DecidableEq, Repr

/-- What CAL holds beside its objects (R476 to R493): the accounts by item and instance, the values written that have not come into force, the
run, the import, the image writes and the geometric writes that wait, the thresholds that step towards a value, the thresholds after the last
import, and the factory record in the boot flash. -/
structure CalState where
  items : List (Nat × CalItem) := []
  awaiting : List (Nat × Nat × Nat) := []
  run : Option CalRun := none
  imp : Option CalImport := none
  image : List CalWrite := []
  geo : List CalWrite := []
  targets : List CalWrite := []
  bases : List (Nat × Octets) := []
  factory : Octets := []
  deriving DecidableEq, Repr

/-! ### Event recorder -/

/-- A recorder sample (R523): its value, and the LP and time stamp it carries of its own, if any. -/
structure Sample where
  value : Int
  own : Option (Nat × Nat)
  deriving DecidableEq, Repr

/-- A recorder's live accumulators (R525): count, sum, the extremes each with LP and time stamp, the under and over bins, the other bins that
are not 0 by number, and the samples dropped in the interval. -/
structure Accum where
  count : Nat := 0
  sum : Int := 0
  low : Int × (Nat × Nat) := (2 ^ 63 - 1, (0, 0))
  high : Int × (Nat × Nat) := (-2 ^ 63, (0, 0))
  under : Nat := 0
  above : Nat := 0
  bins : List (Nat × Nat) := []
  dropped : Nat := 0
  deriving DecidableEq, Repr

/-- What MON holds beside its objects: the sources' FIFOs by code and instance, the live accumulators by recorder where they are not empty,
the readout bank's windows, none before the first snapshot, and the records a snapshot exports (R524 to R530). -/
structure MonState where
  fifos : List ((Nat × Nat) × List Sample) := []
  live : List (Nat × Accum) := []
  bank : List Octets := []
  exports : List Octets := []
  deriving DecidableEq, Repr

/-! ### Self-test and repair -/

/-- Where a slice of a test stands (R510, R511): none under way, in its first run, in the back-off, in its retry, in the repair check. -/
inductive SliceStep where
  | idle | running | backOff | retry | check
  deriving DecidableEq, Repr

/-- The test of a unit (R508 to R514): whether it is offline, the spare that carries the unit's load (16 for IPL16, 32 + j for a spare
engine), the slices passed, where the slice stands, and whether a soft repair was made. -/
structure BstTest where
  unit : Nat
  offline : Bool := false
  spare : Option Nat := none
  passed : Nat := 0
  step : SliceStep := .idle
  repaired : Bool := false
  deriving DecidableEq, Repr

/-- The account of a unit (R520): outcome, slices passed, time stamp, transient slices, soft repairs, RAM of the last failure. -/
structure BstUnit where
  outcome : Nat := 0
  passed : Nat := 0
  time : Nat := 0
  transients : Nat := 0
  soft : Nat := 0
  ram : Nat := 0
  deriving DecidableEq, Repr

/-- What BST holds beside its objects (R505 to R517): the test under way, the units the round still has, whether a round runs, whether a STOP
ends it, the failed units, the soft repairs, the entries of the fuse bank (a fuse: they outlive every reset), those that are being
burnt, the accounts by unit, and the transient events of the escalation window with their class, instance and time in ns. -/
structure BstState where
  test : Option BstTest := none
  queue : List Nat := []
  round : Bool := false
  stopping : Bool := false
  failed : List Nat := []
  soft : List Octets := []
  fused : List Octets := []
  burning : List Octets := []
  units : List (Nat × BstUnit) := []
  window : List ((Nat × Nat) × Nat) := []
  deriving DecidableEq, Repr

/-! ### Power -/

/-- What the power-fail sequence has recorded (R559, R563): the LP of the last line accepted, the stamp of the warning, the truncated
Crumbs, and the records that the CQ channel had delivered by then. -/
structure PowerFail where
  lp : Nat
  time : Nat
  crumbs : Nat
  before : Nat
  deriving DecidableEq, Repr

/-- What the power states hold beside their objects: whether the device is Off, in which nothing answers, and by which way (R540, R545);
whether THERMTRIP_N is driven low (R544); the level of PWRFAIL_N; the sequence under way (R558, R559); whether the management cores restart,
and to what they restart: 0 the running image, 1 a staged one, 2 a reverted one (R546); the watchdog restarts on trial (R557); whether
the ledger awaits the sweep of its first ARM after an entry to Ready (R542); whether the start-up has yet to look at the Boot target (R552);
and whether a reset command has been accepted, which is performed once its response is sent (R541). -/
structure PowerState where
  off : Bool := false
  offCommand : Bool := false
  thermTrip : Bool := false
  failPin : Bool := false
  fail : Option PowerFail := none
  restarting : Bool := false
  restartKind : Nat := 0
  watchdogs : Nat := 0
  sweepDue : Bool := false
  bootDue : Bool := true
  resetDue : Bool := false
  deriving DecidableEq, Repr

/-- The boot flash beside the records that the dictionary shows: the two copies of the boot directory, and the images in the slots (R547,
R548). It outlives every reset. -/
structure FlashState where
  dirA : Octets
  dirB : Octets
  slotA : Octets
  slotB : Octets
  deriving DecidableEq, Repr

/-! ### Sessions -/

/-- A response as it was answered: its opcode, status and payload (R437, R438). -/
structure Response where
  opcode : Nat
  status : Nat
  payload : Octets
  deriving DecidableEq, Repr

/-- A segmented transfer (R440 to R444): of which object, whether it writes, the announced total, and the bytes: the snapshot of
a read, the bytes accepted of a write. -/
structure Transfer where
  ix : Nat
  sub : Nat
  write : Bool
  total : Nat
  data : Octets
  deriving DecidableEq, Repr

/-- An open session (R428, R432 to R437): its ID, path, level, whether it is authenticated, whether R449 raised it while
PROVISIONING showed, the timeout and opening stamp it was given, the time of its last valid request, its sequence, its stored
response, its transfer, the recorder cursor (R531), the challenge that AUTH issued it (R449) and the maximum level of the anchor its chain ended at (R434, R499). -/
structure Session where
  id : Nat
  path : Path
  level : Nat
  secure : Bool
  provisioned : Bool
  timeoutMs : Nat
  opened : Nat
  lastNs : Nat
  lastSeq : Nat
  stored : Option Response
  transfer : Option Transfer
  cursor : Nat
  challenge : Option Octets
  anchorMax : Nat
  deriving DecidableEq, Repr

/-- A DTLS association or a handshake in progress (R433): its number, the port and the client's address, whether it is complete, and the maximum
level of its anchor. -/
structure Assoc where
  id : Nat
  port : Nat
  ip : BitVec 32
  udp : BitVec 16
  done : Bool
  anchorMax : Nat
  deriving DecidableEq, Repr

/-- A mailbox beside its session (R447): the request length and the octets of the request area, which reads zero after them; the bits of its
status, and the response frame. -/
structure Mailbox where
  length : Nat := 0
  request : Octets := []
  ready : Bool := false
  overrun : Bool := false
  irq : Bool := false
  response : Octets := []
  deriving DecidableEq, Repr

/-- The answer to a group frame that waits for its delay (R446). -/
structure GroupAnswer where
  path : Path
  seq : Nat
  response : Response
  deriving DecidableEq, Repr

/-! ### What leaves the device -/

/-- What an observer at the pins sees the device put out. -/
inductive Output where
  /-- A response to a dictionary request (R437), with the octets of its VDP frame or mailbox frame (R438, R447). -/
  | response (path : Path) (session seq : Nat) (r : Response) (frame : Octets)
  /-- An MSI-X message (R371). -/
  | msix (vector : Nat)
  /-- A CoaXPress trigger packet of a port: whether it leaves on the high-speed upconnection, its edge and its delay field (R95). -/
  | triggerPacket (port : Nat) (highSpeed rising : Bool) (delay : Nat)
  /-- A DRAM channel's answer to a requester: the address, the data and whether it is poisoned (R392, R402). -/
  | dramReply (requester addr : Nat) (data : Octets) (poisoned : Bool)
  /-- A write access to host memory (R358, R361, R364). No Snoop and Relaxed Ordering are clear in every one (R362, R373). -/
  | hostWrite (addr : Nat) (data : Octets)
  /-- A read request to host memory, and whether its No Snoop attribute is set (R358, R364, R373). -/
  | hostFetch (addr length : Nat) (noSnoop : Bool)
  /-- The data a host read of BAR0, BAR2 or BAR4 returns (R370, R372). -/
  | hostRead (bar addr : Nat) (data : Octets)
  /-- A flit on a Braid port (R175). -/
  | flit (port : Nat) (flit : Octets)
  /-- An ARP answer of a field port (R456). -/
  | arpReply (port : Nat) (mac : BitVec 48) (ip : BitVec 32)
  /-- An ICMP echo answer of a field port (R456). -/
  | echoReply (port : Nat) (ip : BitVec 32) (data : Octets)
  /-- An IGMPv2 report of a field port for a group (R456). -/
  | igmpReport (port : Nat) (group : BitVec 32)
  /-- A PTP message of a field port (R463). -/
  | ptp (port : Nat) (m : PtpMessage)
  /-- A control command to the camera of a port (R108). -/
  | cameraControl (port : Nat) (request : Octets)
  /-- The connection configuration written to a port's camera: the rate code and the connections (R90 step 4). -/
  | connectionConfig (port rate connections : Nat)
  deriving DecidableEq, Repr

/-! ### The device -/

/-- The state of the device. -/
structure State where
  /-- The dictionary's scalars that differ from their reset value, by key (R423). -/
  regs : List (Nat × Nat)
  /-- The dictionary's octet strings that differ from their reset contents, by key (R423). -/
  octs : List (Nat × Octets)
  /-- The values in force of the RWB objects that differ from reset (R15, R427). -/
  forced : List (Nat × Nat)
  /-- The contents in force of the RWB octet strings that differ from reset (R140). -/
  forcedOcts : List (Nat × Octets)
  /-- Elapsed time in ns since the clocks started. -/
  ns : Nat
  /-- The TBU clock in units of 2^-32 ns since its epoch (R458). -/
  tbu : Nat
  wpu : WpuState
  psc : PscState
  cpt : Vector CptState 32
  iplIn : Vector (List CamItem) 16
  ipl : Vector IplCam 32
  pipes : Vector IplPipe 16
  spare : SpareState
  stx : StxState
  brd : BrdState
  dmc : DmcState
  /-- The device DRAM's bytes that are not 0 (R385). -/
  dram : List Host.Cell
  cde : CdeState
  mre : MreState
  seg : SegState
  cls : ClsState
  hrb : HrbState
  dma : Vector DmaChan 32
  pfc : PfcState
  tbuUnit : TbuState
  fnp : Vector FnpPort 2
  cal : CalState
  mon : MonState
  bst : BstState
  evf : EvfState
  queues : Vector QueueState 3
  pcie : PcieState
  power : PowerState
  flash : FlashState
  sessions : List Session
  assocs : List Assoc
  /-- The number the next DTLS association takes. -/
  nextAssoc : Nat
  mailboxes : Vector Mailbox 4
  groupAnswers : List GroupAnswer
  /-- The objects whose words in the object store have an uncorrectable error (R430 "device error"). -/
  badObjects : List Nat
  /-- The functions in Draining whose remaining work a drain timeout or ABORT has truncated (R22). -/
  cut : List Fn
  out : List Output
  /-- How many free values the device has taken (the model's own). -/
  free : Nat
  pending : List Instr
  deriving DecidableEq, Repr

/-- WPU after reset (R12, R31, R43, R46). -/
def WpuState.reset : WpuState where
  enc := Vector.replicate 4 {}
  ser := Vector.replicate 2 {}
  moved := false
  lastChange := 0
  periods := []
  fresh := false
  idleNet := 0
  spent := Vector.replicate 24 false
  lastNew := none
  history := [{ ns := 0, lp := 2 ^ 48, running := false, tbu := 0, incr := 4 * 2 ^ 32, quality := 0 }]
  probes := Vector.replicate 8 []
  released := Vector.replicate 8 (some 0)

/-- The reference module of 16 GB (R383). DESIGN CHOICE: the sockets of the model hold the reference configuration at reset. -/
def referenceModule : DramModule where
  gib := 16
  ranks := 1
  deviceWidth := 4
  rate := 6400
  manufacturer := 0
  part := List.replicate 20 0
  serial := 0

/-- A copy of the boot directory (R547): its sequence, the preferred slot and the states of the slots. -/
def directoryCopy (seq preferred a b : Nat) : Octets :=
  let body := leBytes 4 0x52445656 ++ leBytes 2 1 ++ leBytes 1 preferred ++ leBytes 1 0 ++ leBytes 8 seq ++ leBytes 1 a ++ leBytes 1 b ++
    leBytes 2 0 ++ zeros 40
  body ++ leBytes 4 (crc32c body)

/-- The image in slot A of a new device. DESIGN CHOICE: the header of R548 with version 0 and one octet of payload; whether its hash and
signature hold is the free values' to say. -/
def factoryImage : Octets :=
  leBytes 4 0x4D495656 ++ leBytes 2 1 ++ zeros 18 ++ leBytes 4 1 ++ zeros 484 ++ [0]

/-- The device right after reset: every object at its default, no entry, no session, nothing waiting. The image was checked without a root
key, which shows in UNVERIFIED_ROOT (R549). -/
def State.reset : State where
  regs := [(key Ix.sysPowerStatus 0, 0x20)]
  octs := []
  forced := []
  forcedOcts := []
  ns := 0
  tbu := 0
  wpu := WpuState.reset
  psc := { entries := [], outs := Vector.replicate 48 {} }
  cpt := Vector.replicate 32 {}
  iplIn := Vector.replicate 16 []
  ipl := Vector.replicate 32 {}
  pipes := Vector.replicate 16 {}
  spare := {}
  stx := {}
  brd := {}
  dmc := { sockets := Vector.replicate 8 (some referenceModule), map := [] }
  dram := []
  cde := {}
  mre := {}
  seg := {}
  cls := {}
  hrb := {}
  dma := Vector.replicate 32 {}
  pfc := {}
  tbuUnit := {}
  fnp := Vector.replicate 2 {}
  cal := {}
  mon := {}
  bst := {}
  evf := { inbox := [], slots := [], firings := [], vectors := [] }
  queues := Vector.replicate 3 {}
  pcie := { linkUp := false, busMaster := false, setup := hostDefaults }
  power := {}
  flash := { dirA := directoryCopy 1 1 3 0, dirB := List.replicate 64 0xFF, slotA := factoryImage, slotB := [] }
  sessions := []
  assocs := []
  nextAssoc := 0
  mailboxes := Vector.replicate 4 {}
  groupAnswers := []
  badObjects := []
  cut := []
  out := []
  free := 0
  pending := []

end Sys2Proof.Machine
end

