-- ==== Sys2Proof/Machine/Store.lean ====
section
/-! DEFINITION. A store keyed by numbers in one canonical form: keys strictly rising, and no entry equal to what an unlisted key
reads as. Equal stores are then equal lists. -/

namespace Sys2Proof.Machine

/-- What a key holds: its entry, or `d` where none is listed. -/
def storeGet {α : Type} (d : α) : List (Nat × α) → Nat → α
  | [], _ => d
  | (k, v) :: m, i => if i = k then v else storeGet d m i

/-- The store with an entry put in its place. -/
def storeInsert {α : Type} (i : Nat) (x : α) : List (Nat × α) → List (Nat × α)
  | [] => [(i, x)]
  | (k, v) :: m => if i < k then (i, x) :: (k, v) :: m else if i = k then (i, x) :: m else (k, v) :: storeInsert i x m

/-- The store with a key's entry taken out. -/
def storeErase {α : Type} (i : Nat) : List (Nat × α) → List (Nat × α)
  | [] => []
  | (k, v) :: m => if i = k then storeErase i m else (k, v) :: storeErase i m

/-- The store after a write: writing what an unlisted key reads as removes the entry. -/
def storeSet {α : Type} [DecidableEq α] (d : α) (m : List (Nat × α)) (i : Nat) (x : α) : List (Nat × α) :=
  if x = d then storeErase i m else storeInsert i x m

/-- Whether every key of a store lies above a bound, the keys rise, and each entry passes a test. -/
def storeOk {α : Type} (ok : Nat → α → Bool) : Nat → List (Nat × α) → Bool
  | _, [] => true
  | lo, (k, v) :: m => decide (lo ≤ k) && ok k v && storeOk ok (k + 1) m

end Sys2Proof.Machine
end

