-- ==== Sys2Proof/Machine/Ops.lean ====
section
/-! DEFINITION. The named operations over the dictionary, the time, the function state machine, the event fabric's inputs and
the pins, over which every meaning is written. -/

namespace Sys2Proof.Machine

/-! ### The dictionary's values -/

/-- The scalar an object holds, as its bit pattern (R426). -/
def State.rd (s : State) (ix sub : Nat) : Nat := storeGet (resetReg (key ix sub)) s.regs (key ix sub)

/-- An object given a value, cut to the object's width (R426). -/
def State.wr (s : State) (ix sub v : Nat) : State :=
  { s with regs := storeSet (resetReg (key ix sub)) s.regs (key ix sub) (v % 2 ^ bitsAt (key ix sub)) }

/-- The signed scalar an object holds (R426). -/
def State.rdI (s : State) (ix sub : Nat) : Int := ofPattern (objBits ix sub) (s.rd ix sub)

/-- A signed object given a value (R426). -/
def State.wrI (s : State) (ix sub : Nat) (i : Int) : State := s.wr ix sub (toPattern (objBits ix sub) i)

/-- The octet string an object holds (R426). -/
def State.rdo (s : State) (ix sub : Nat) : Octets := storeGet (resetOct (key ix sub)) s.octs (key ix sub)

/-- An octet-string object given its contents (R431). -/
def State.wro (s : State) (ix sub : Nat) (bs : Octets) : State :=
  { s with octs := storeSet (resetOct (key ix sub)) s.octs (key ix sub) bs }

/-- The value in force of an RWB object (R15, R427). -/
def State.rdf (s : State) (ix sub : Nat) : Nat := storeGet (resetReg (key ix sub)) s.forced (key ix sub)

/-- The contents in force of an RWB octet string (R140). -/
def State.rdfo (s : State) (ix sub : Nat) : Octets := storeGet (resetOct (key ix sub)) s.forcedOcts (key ix sub)

/-- The value last written to an RWB object comes into force (R15, R16). -/
def State.force (s : State) (ix sub : Nat) : State :=
  { s with forced := storeSet (resetReg (key ix sub)) s.forced (key ix sub) (s.rd ix sub) }

/-- The contents last written to an RWB octet string come into force (R140). -/
def State.forceo (s : State) (ix sub : Nat) : State :=
  { s with forcedOcts := storeSet (resetOct (key ix sub)) s.forcedOcts (key ix sub) (s.rdo ix sub) }

/-- Several RWB objects come into force together (R16). -/
def State.forceAll (s : State) (sub : Nat) : List Nat → State
  | [] => s
  | ix :: ixs => (s.force ix sub).forceAll sub ixs

/-- A counter grown by `n`, wrapping at its width. -/
def State.bump (s : State) (ix sub n : Nat) : State := s.wr ix sub (s.rd ix sub + n)

/-- A counter grown by `n` that saturates at its width. -/
def State.bumpSat (s : State) (ix sub n : Nat) : State :=
  s.wr ix sub (min (s.rd ix sub + n) (2 ^ objBits ix sub - 1))

/-- A high-water object raised to `n` where that is higher. -/
def State.raiseTo (s : State) (ix sub n : Nat) : State := s.wr ix sub (max (s.rd ix sub) n)

/-- One bit of an object. -/
def State.bit (s : State) (ix sub b : Nat) : Bool := (s.rd ix sub).testBit b

/-- One bit of an object set or cleared. -/
def State.putBit (s : State) (ix sub b : Nat) (v : Bool) : State :=
  s.wr ix sub (if v then s.rd ix sub ||| 2 ^ b else s.rd ix sub - (s.rd ix sub &&& 2 ^ b))

/-- One bit of an object set. -/
def State.setBit (s : State) (ix sub b : Nat) : State := s.putBit ix sub b true

/-- One bit of an object cleared. -/
def State.clearBit (s : State) (ix sub b : Nat) : State := s.putBit ix sub b false

/-! ### Output and free values -/

/-- The device puts something out. -/
def State.emit (s : State) (o : Output) : State := { s with out := s.out ++ [o] }

/-- Several leave, one after the other. -/
def State.emits (s : State) (os : List Output) : State := { s with out := s.out ++ os }

/-- A free value taken: the counter moves on, so that the next one is another. -/
def State.takeFree (s : State) : State := { s with free := s.free + 1 }

/-! ### Time and position -/

/-- One second in the TBU clock's units. -/
def tbuSecond : Nat := 1000000000 * 2 ^ 32

/-- The time stamp of a TBU clock value with its quality flags: seconds modulo 2^30, nanoseconds, flags (R3, R460). -/
def stampOf (tbu quality : Nat) : Nat :=
  (tbu / tbuSecond % 2 ^ 30) * 2 ^ 34 + (tbu % tbuSecond / 2 ^ 32) * 16 + quality % 16

/-- The clock at this instant, interpolated in quarters of a CLK_TB cycle (R460). -/
def State.clockNow (s : State) : Nat := s.tbu + s.ns % 4 * s.rd Ix.netClockIncrement 0 / 4

/-- The time stamp of this instant (R460). -/
def State.stamp (s : State) : Nat := stampOf s.clockNow (s.rd Ix.netTimeStatus 0)

/-- The live LP, in CLK_POS (R11). -/
def State.lp (s : State) : Nat := s.rd Ix.wpuLP 0

/-- The CLK_POS cycle of this instant (R18). -/
def State.cycle (s : State) : Nat := s.ns / 5

/-- A performance counter grown by `n`: a wrap shows (R533). -/
def State.pmcAdd (s : State) (ix sub n : Nat) : State :=
  let t := s.bump ix sub n
  if 2 ^ 64 ≤ s.rd ix sub + n then t.setBit 0x7017 0 1 else t

/-- Whether the performance counters count: PMC Running, not frozen (R522, R534). -/
def State.pmcCounts (s : State) : Bool := decide (s.rd 0x7000 0 = 2) && !s.bit 0x7017 0 0

/-- Occurrences of a hardware event of an instance reach the counters that select it (R532). -/
def State.tally (s : State) (code inst n : Nat) : State :=
  if s.pmcCounts && n != 0 then
    (List.range 8).foldl (fun (t : State) k =>
      let chosen := t.rd Ix.pmcInstance (k + 1)
      if t.rd Ix.pmcEventSelect (k + 1) = code ∧ (chosen = 0xFFFF ∨ chosen = inst) then t.pmcAdd Ix.pmcCounter (k + 1) n else t) s
  else s

/-- The cycles that pass in CLK_PIPE are counted (R532). -/
def State.passCycles (s : State) (c : Nat) : State :=
  let s1 := if s.bit Ix.clsClassifierStatus 0 3 then s.tally 0x41 0 c else s
  let s2 := s1.tally 0x01 0 c
  if s2.pmcCounts then s2.pmcAdd Ix.pmcCycleCounter 0 c else s2

/-- The mean frequency of CLK_PIPE by the code of its spread, in steps of 10 kHz (R18, R586). -/
def pipeMean (spread : Nat) : Nat := if spread = 1 then 99875 else if spread = 2 then 99750 else if spread = 3 then 99500 else 100000

/-- The CLK_PIPE cycles of an elapsed time: one a ns without a spread; with one, the mean of R586 and what the modulation has gained on it, less
than 48 cycles, a free value (R18). The clock margin offsets the frequency in steps of 0.1 % (R564). -/
def pipeClock (spread : Nat) (margin : Int) (ns : Nat) : Nat :=
  ns * (pipeMean spread * (1000 + margin).toNat) / 100000000 + (if spread = 0 then 0 else Config.spreadWobble spread ns % 48)

/-- Time passes: the TBU clock gains its increment in every CLK_TB cycle of 4 ns (R458, R459). -/
def State.advance (s : State) (d : Nat) : State :=
  let spread := s.rd Ix.envSpreadInForce 0 % 256
  let margin := s.rdI Ix.sysClockMargin 0
  let t := s.passCycles (pipeClock spread margin (s.ns + d) - pipeClock spread margin s.ns)
  { t with ns := s.ns + d, tbu := s.tbu + s.rd Ix.netClockIncrement 0 * ((s.ns + d) / 4 - s.ns / 4) }

/-- A recorder source's sample enters its FIFO to MON while the recorder function is Running; one that finds the FIFO full is dropped, and
every enabled recorder of the source counts it (R524). -/
def State.sample (s : State) (code inst : Nat) (v : Int) (own : Option (Nat × Nat)) : State :=
  if s.rd 0x6C00 0 = 2 then
    let q := ((s.mon.fifos.find? (fun f => f.1 == (code, inst))).map (fun f => f.2)).getD []
    if q.length < 16 then
      { s with mon := { s.mon with fifos := ((code, inst), q ++ [{ value := v, own := own }]) :: s.mon.fifos.filter (fun f => f.1 != (code, inst)) } }
    else
      (List.range 128).foldl (fun (t : State) r =>
        if t.rd Ix.monEnable (r + 1) = 1 ∧ t.rd Ix.monSource (r + 1) = code + 65536 * inst then
          let a := storeGet {} t.mon.live r
          (({ t with mon := { t.mon with live := storeSet {} t.mon.live r { a with dropped := a.dropped + 1 } } } : State).bump
            Ix.monDroppedSamples (r + 1) 1).setBit Ix.monRecorderStatus 0 1
        else t) s
  else s.bump 0x6C07 0 1

/-- What was published in the CLK_POS cycle at or before an instant (R11, R60). -/
def publishedAt (history : List Published) (ns : Nat) : Option Published := history.find? (fun p => p.ns ≤ ns)

/-- The LP a block outside CLK_POS sees: the one published 20 ns earlier (R11). -/
def State.seenLp (s : State) : Nat :=
  match publishedAt s.wpu.history (s.ns - 20) with
  | some p => p.lp
  | none => s.lp

/-- The time stamp of an earlier instant of the history (R10, R60). -/
def Published.stampAt (p : Published) (ns : Nat) : Nat :=
  stampOf (p.tbu + p.incr * (ns / 4 - p.ns / 4) + ns % 4 * p.incr / 4) p.quality

/-- What WPU publishes at this instant (R11). -/
def State.publishedNow (s : State) : Published where
  ns := s.ns
  lp := s.lp
  running := decide (s.rd 0x2000 0 = 2)
  tbu := s.tbu
  incr := s.rd Ix.netClockIncrement 0
  quality := s.rd Ix.netTimeStatus 0 % 16

/-- The history with what is older than 1,025 CLK_POS cycles left out, but for the newest of it (R60). -/
def pruneHistory (since : Nat) : List Published → List Published
  | [] => []
  | p :: ps => if p.ns ≤ since then [p] else p :: pruneHistory since ps

/-- The probes' lockouts at this LP: one that has not ended ends now where LP has come as far from the latched LP as the lockout asks (R61). -/
def State.lockoutsNow (s : State) : Vector (Option Nat) 8 :=
  s.wpu.released.mapFinIdx (fun n x _ =>
    let last := s.rd Ix.wpuLatchedLP (n + 1)
    if x = none ∧ s.rd Ix.wpuLockout (n + 1) ≤ (if last ≤ s.lp then s.lp - last else last - s.lp) then some s.ns else x)

/-- This instant goes into the history WPU keeps for its probes (R60); the probes' lockouts follow LP (R61). -/
def State.publish (s : State) : State :=
  let older := s.wpu.history.filter (fun p => p.ns < s.ns)
  { s with wpu := { s.wpu with history := pruneHistory (s.ns - 5125) (s.publishedNow :: older), released := s.lockoutsNow } }

/-! ### Power -/

/-- Whether the device is out of Off: in Off nothing answers and nothing is sampled (R540). -/
def State.on (s : State) : Bool := !s.power.off

/-- Whether CLK_POS and the SerDes run: in Ready, Run and Service (R540). -/
def State.clocked (s : State) : Bool := s.on && decide (2 ≤ s.rd Ix.sysPowerState 0)

/-- Whether functions may be armed and run: in Run and Service (R27, R540). -/
def State.operating (s : State) : Bool := s.on && decide (3 ≤ s.rd Ix.sysPowerState 0)

/-! ### Interrupt messages and events -/

/-- An MSI-X message leaves, where the link is up and the host lets the device master the bus (R371). -/
def State.msix (s : State) (vector : Nat) : State :=
  if s.pcie.linkUp && s.pcie.busMaster then s.emit (.msix vector) else s

/-- The octets of an access to host memory at an address (R364): up to the first 64-byte boundary and after the last one a narrow access; between
them full ones of up to `most` bytes that cross no 4 KiB boundary. -/
def accessLength (most addr n : Nat) : Nat :=
  if addr % 64 ≠ 0 then min n (64 - addr % 64)
  else if n < 64 then n
  else min (n / 64 * 64) (min most (4096 - addr % 4096))

/-- The accesses that carry a run of octets at an address (R364); `fuel` bounds their number. -/
def accessesFor (most : Nat) : Nat → Nat → Nat → List (Nat × Nat)
  | 0, _, _ => []
  | fuel + 1, addr, n =>
    if n = 0 then []
    else
      let k := accessLength most addr n
      (addr, k) :: accessesFor most fuel (addr + k) (n - k)

/-- The largest write access and the largest read request (R368). -/
def State.maxPayload (s : State) : Nat := 128 * 2 ^ s.pcie.setup.payload.val
def State.maxReadRequest (s : State) : Nat := 128 * 2 ^ s.pcie.setup.readRequest.val

/-- The read requests of a channel for octets of host memory, with its No Snoop attribute (R364, R368, R373). DESIGN CHOICE: the table has no row
for a request, so they show with the command that brings their answer. -/
def State.hostFetch (s : State) (c : Fin 32) (addr n : Nat) : State :=
  let snoopless := s.rd Ix.dlvReadNoSnoop (c.val + 1) == 1
  s.emits ((accessesFor s.maxReadRequest n addr n).map (fun a => .hostFetch a.1 a.2 snoopless))

/-- The code of a producer event (R406). -/
abbrev eventCode (group inst n : Nat) : Nat := group * 1024 + inst * 32 + n

/-- The index of an event-fabric channel's record (R411). -/
abbrev chanIx (c : Nat) : Nat := 0x2900 + c

/-- Whether EVF is Running. -/
def State.fabricRuns (s : State) : Bool := decide (s.rd 0x2800 0 = 2)

/-- A cause reaches EVF in CLK_POS: it waits for the channels of this cycle, or is discarded and counted while EVF is not Running
(R411, R419). -/
def State.reachFabric (s : State) (c : Cause) : State :=
  if s.fabricRuns then { s with evf := { s.evf with inbox := s.evf.inbox ++ [c] } } else s.bump 0x2807 0 1

/-- A CLK_POS producer's event (groups 1 to 7) with the LP and time stamp it carries (R406). -/
def State.event (s : State) (code lp time arg : Nat) : State :=
  s.reachFabric { kind := .event, code := code, lp := lp, time := time, arg := arg }

/-- A CLK_POS producer's event that carries the live LP and time of its arrival (R406). -/
def State.eventHere (s : State) (code arg : Nat) : State := s.event code s.lp s.stamp arg

/-- An event of a producer outside CLK_POS enters its crossing slot, or is merged into the occurrence already there (R407). `own`
is the LP and time stamp it carries of its own; without it the event takes those of its arrival. -/
def State.cross (s : State) (code : Nat) (own : Option (Nat × Nat)) (arg : Nat) : State :=
  if s.evf.slots.any (fun c => c.code == code) then (s.bump Ix.evfMergedAtCrossing 0 1).setBit Ix.evfFabricStatus 0 1
  else { s with evf := { s.evf with slots := s.evf.slots ++ [{ code := code, own := own, arg := arg, atStop := false }] } }

/-! ### CAL's accounts -/

/-- The key of an item's instance. -/
abbrev calKey (code inst : Nat) : Nat := code * 65536 + inst

/-- A new value of an item's instance has come into force from a source (R481). -/
def State.calCount (s : State) (code inst source : Nat) : State :=
  let old := storeGet {} s.cal.items (calKey code inst)
  let x : CalItem := { count := min (old.count + 1) (2 ^ 32 - 1), time := s.stamp, tbu := s.tbu, source := source }
  { s with cal := { s.cal with items := storeSet {} s.cal.items (calKey code inst) x } }

/-- The value of an interface item after a training or import, from which its drift is measured (R480). -/
def State.calBase (s : State) (code inst : Nat) (v : Octets) : State :=
  { s with cal := { s.cal with bases := storeSet [] s.cal.bases (calKey code inst) v } }

/-- Whether a lane's step stays within the drift limit; one that does not shows DRIFT_LIMIT (R480). -/
def State.driftAllows (s : State) (code inst lane now : Nat) : Bool :=
  let base := octAt (storeGet [] s.cal.bases (calKey code inst)) lane
  decide (max base now - min base now ≤ s.rd Ix.calDriftLimit 0)

/-- A value written for CAL waits until it comes into force; one that waited before is superseded by it and not counted. -/
def State.calAwait (s : State) (code inst source : Nat) : State :=
  { s with cal := { s.cal with awaiting := (code, inst, source) :: s.cal.awaiting.filter (fun a => !(a.1 == code && a.2.1 == inst)) } }

/-- The value of an item's instance has come into force: it is counted where it is CAL's (R481). -/
def State.calArrived (s : State) (code inst : Nat) : State :=
  match s.cal.awaiting.find? (fun a => a.1 == code && a.2.1 == inst) with
  | none => s
  | some a =>
    ({ s with cal := { s.cal with awaiting := s.cal.awaiting.filter (fun b => !(b.1 == code && b.2.1 == inst)) } } : State).calCount code inst
      a.2.2

/-- A direct write takes the place of a value of CAL's that was not in force yet (R481). -/
def State.calSuperseded (s : State) (code inst : Nat) : State :=
  if s.cal.awaiting.any (fun a => a.1 == code && a.2.1 == inst) then
    ({ s with cal := { s.cal with awaiting := s.cal.awaiting.filter (fun b => !(b.1 == code && b.2.1 == inst)) } } : State).setBit 0x6421 0 3
  else s

/-- A run goes on to checking once every camera's last strip has closed or the camera has left (R484). -/
def State.calMeasured (s : State) : State :=
  match s.cal.run with
  | some r => if s.rd 0x6411 0 = 2 ∧ r.kind ≠ 3 ∧ r.cams.all (fun c => c.done || c.left) then s.wr 0x6411 0 3 else s
  | none => s

/-- A camera of a run, changed. -/
def State.calCam (s : State) (n : Nat) (f : CalCam → CalCam) : State :=
  match s.cal.run with
  | some r => { s with cal := { s.cal with run := some { r with cams := r.cams.map (fun c => if c.cam = n then f c else c) } } }
  | none => s

/-- A port or pipeline of cameras leaves Running during a run (R488). -/
def State.calLeft (s : State) (cams : List Nat) : State :=
  if 1 ≤ s.rd 0x6411 0 ∧ s.rd 0x6411 0 ≤ 3 then
    (cams.foldl (fun (t : State) n => t.calCam n (fun c => { c with left := true })) s).calMeasured
  else s

/-- A run's waiting ends at the strip boundary, the line of which has become new; a run without cameras has measured after its strips (R484). -/
def State.calLine (s : State) (line : Nat) : State :=
  match s.cal.run with
  | some r =>
    let t := if s.rd 0x6411 0 = 1 ∧ r.first * s.rd Ix.cptStripLength 0 ≤ line then s.wr 0x6411 0 2 else s
    if r.cams = [] ∧ (r.first + r.strips) * s.rd Ix.cptStripLength 0 ≤ line then t.calMeasured else t
  | none => s

/-! ### The retry rule -/

/-- A retriable operation succeeds on its retry: its class counts it, and more than the limit of one instance within the window shows
TRANSIENT_RATE (R501, R502, R505). DEDUCED: the counts run whatever BST's state. -/
def State.retryTransient (s : State) (cls inst : Nat) : State :=
  let recent := s.bst.window.filter (fun e => decide (s.ns < e.2 + s.rd Ix.bstEscalationWindow 0 * 1000000000))
  let within := ((cls, inst), s.ns) :: recent
  let t := ({ s with bst := { s.bst with window := within } } : State).bump Ix.bstTransientByClass cls 1
  if s.rd Ix.bstTransientLimit 0 < (within.filter (fun e => e.1 == (cls, inst))).length then
    (t.setBit Ix.bstSelfTestStatus 0 7).wr Ix.bstLastRateInstance 0 (cls + 256 * (inst % 65536))
  else t

/-- Whether one instance of a class has met more transient events than the limit within the window (R505). -/
def State.rateExceeded (s : State) (cls inst : Nat) : Bool :=
  decide (s.rd Ix.bstTransientLimit 0 < (s.bst.window.filter (fun e => e.1 == (cls, inst) &&
    decide (s.ns < e.2 + s.rd Ix.bstEscalationWindow 0 * 1000000000))).length)

/-- A retriable operation fails on its retry too (R501, R502). -/
def State.retryLasting (s : State) (cls : Nat) : State := s.bump Ix.bstLastingByClass cls 1

/-! ### The function state machine -/

/-- A function's state (R21). -/
def State.fn (s : State) (f : Fn) : FnState := FnState.ofCode (s.rd f.base f.sub)

/-- Whether a function is Running. -/
def State.runs (s : State) (f : Fn) : Bool := decide (s.rd f.base f.sub = 2)

/-- Whether a function is Draining with work left: it has not been truncated (R22). -/
def State.drains (s : State) (f : Fn) : Bool := decide (s.rd f.base f.sub = 3) && !s.cut.contains f

/-- Input that a function not Running discards is counted (R26). -/
def State.discard (s : State) (f : Fn) (n : Nat) : State := s.bump (f.base + 7) f.sub n

/-- The positions of the function flags of R21. -/
abbrev flagDrainTimeout : Nat := 0
abbrev flagCmdRejected : Nat := 1
abbrev flagStartPending : Nat := 2
abbrev flagDepLost : Nat := 3

/-- A flag of a function set (R21). -/
def State.fnFlag (s : State) (f : Fn) (b : Nat) : State := s.setBit (f.base + 4) f.sub b

/-- Whether an action on a camera port's pin or packets needs PSC: the port triggers over a pin (R27, R96). -/
def State.pinMode (s : State) (n : Nat) : Bool := decide (s.rd Ix.cptTriggerMode (n + 1) = 1)

/-- DEP_LOST sets in a function that is Running (R26). -/
def State.depLost (s : State) (f : Fn) : State := if s.runs f then s.fnFlag f flagDepLost else s

/-- DEP_LOST sets in every Running camera port, or in those that trigger over a pin (R26, R27). -/
def State.depLostPorts (s : State) (pinsOnly : Bool) : List (Fin 32) → State
  | [] => s
  | n :: ns => (if pinsOnly && !s.pinMode n.val then s else s.depLost (.cpt n)).depLostPorts pinsOnly ns

/-- Whether a field port is a PTP port: an ordinary clock uses one, a boundary clock both (R463). -/
def State.ptpPort (s : State) (n : Fin 2) : Bool :=
  let role := s.rd Ix.netPTPRole 0
  role == 3 || (role != 0 && s.rd Ix.netPTPPort 0 == n.val)

/-- SYNC_STATE given a value (R462): the stamps of this instant carry it (R460). -/
def State.setSync (s : State) (v : Nat) : State := (s.wr Ix.netTimeStatus 0 (setField (s.rd Ix.netTimeStatus 0) 0 2 v)).publish

/-- LOCKED becomes HOLDOVER (R462). -/
def State.loseLock (s : State) : State :=
  let t : State := { s with tbuUnit := { s.tbuUnit with within := 0 } }
  if s.rd Ix.netTimeStatus 0 % 4 = 2 then t.setSync 3 else t

/-- A PTP port goes to DISABLED, and where it was the SLAVE the lock is lost (R462, R471). -/
def State.disablePtp (s : State) (n : Fin 2) : State :=
  let slave := decide (s.rd Ix.netPortState (n.val + 1) = 9)
  let t : State := { s with fnp := s.fnp.set n { s.fnp[n] with parent := none, sync := none, delay := none, path := none, foreign := [] } }
  let u := t.wr Ix.netPortState (n.val + 1) 3
  if slave then u.loseLock else u

/-- Without a MASTER port this device is no grandmaster, and without a parent nobody announces that its time is traceable (R460, R474). -/
def State.ptpForgets (s : State) : State :=
  let st (p : Nat) : Nat := s.rd Ix.netPortState p
  let t := if st 1 = 6 ∨ st 2 = 6 then s else s.clearBit Ix.netTimeStatus 0 6
  let own := t.bit Ix.netTimeStatus 0 6 && t.rd Ix.netTimeStatus 0 % 4 == 1
  (if own ∨ 8 ≤ st 1 ∨ 8 ≤ st 2 then t else t.clearBit Ix.netTimeStatus 0 3).publish

/-- A page's transfer in progress is abandoned: the page stays loading (R198). -/
def State.loadAbandoned (s : State) : State :=
  { s with mre := { s.mre with queue := s.mre.queue.map (fun (p : MasterPage) =>
      if p.moving = true then { p with moving := false, place := none } else p) } }

/-- The functions that depend on one that leaves Running learn it (R26, R27). Without STX, PFC forms no further outputs (R339). A DRAM channel bears a share of every region, so
MRE, CLS and LDG, and HRB depend on each channel; TBU depends on the field ports while it has a PTP role. -/
def State.leaveRunning (s : State) (f : Fn) : State :=
  match f with
  | .wpu => s.depLostPorts false (List.finRange 32)
  | .psc => s.depLostPorts true (List.finRange 32)
  | .cpt n => s.calLeft [n.val]
  | .ipl m => s.calLeft ((List.range 32).filter (fun n => s.rd Ix.cptPipeline (n + 1) == m.val))
  | .cde => s.depLost .mre
  | .mre => if s.rd Ix.segInputSource 0 = 0 then s.depLost .seg else s
  | .dma => s.loadAbandoned.depLost .mre
  | .stx => { s with pfc := { s.pfc with due := [] } }.depLost .pfc
  | .dmc _ => ((s.depLost .mre).depLost .cls).depLost .hrb
  | .pcie => s.loadAbandoned.depLost .dma
  | .fnp n => if s.ptpPort n then ((s.depLost .tbu).disablePtp n).ptpForgets else s
  | .tbu => (((s.disablePtp 0).disablePtp 1).loseLock).ptpForgets
  | _ => s

/-- The live LP as a function's block reads it at a state entry: WPU, PSC and EVF are in CLK_POS, and the others see it 20 ns later (R9, R11,
R21). -/
def State.entryLp (s : State) (f : Fn) : Nat :=
  match f with
  | .wpu => s.lp
  | .psc => s.lp
  | .evf => s.lp
  | _ => s.seenLp

/-- A function enters a state: Function state, State entry LP and State entry time are written (R21). -/
def State.enter (s : State) (f : Fn) (st : FnState) : State :=
  let t := if s.runs f && decide (st ≠ .running) then s.leaveRunning f else s
  let t : State := { t with cut := t.cut.filter (fun g => g != f) }
  let u := ((t.wr f.base f.sub st.code).wr (f.base + 5) f.sub (s.entryLp f)).wr (f.base + 6) f.sub s.stamp
  if f = .wpu then u.publish else u

/-- A function enters Faulted: the cause is written, a pending START is gone, vector 37 and the system event FAULTED are raised
(R22, R371, R406). A Faulted function stays as it is. -/
def State.enterFaulted (s : State) (f : Fn) (cause : Nat) : State :=
  if s.fn f = .faulted then s
  else
    let t := ((s.enter f .faulted).wr (f.base + 3) f.sub cause).clearBit (f.base + 4) f.sub flagStartPending
    (t.msix 37).cross (eventCode 23 0 0) none (f.base + f.sub)

end Sys2Proof.Machine
end

