-- ==== Sys2Proof/Machine/Dmc.lean ====
section
/-! DEFINITION. The memory subsystem: the address map and regions, reads and writes of the device DRAM, errors and their log,
refresh, tracking, retraining and the retirement of channels (R383 to R405). -/

namespace Sys2Proof.Machine

/-! ### Modules, map and regions -/

/-- The channels, as function instances. -/
abbrev dmcAll : List (Fin 8) := List.finRange 8

/-- A channel by its number, where it is one. -/
def dmcChan (n : Nat) : Option (Fin 8) := if h : n < 8 then some ⟨n, h⟩ else none

/-- The flags of Channel status (R404). -/
abbrev dsTrained : Nat := 0
abbrev dsRetraining : Nat := 1
abbrev dsRetirePending : Nat := 2
abbrev dsRetired : Nat := 3
abbrev dsDoubleRefresh : Nat := 4
abbrev dsHot : Nat := 5
abbrev dsUeTransient : Nat := 6
abbrev dsUeLasting : Nat := 7
abbrev dsTrainFail : Nat := 8
abbrev dsAlert : Nat := 9
abbrev dsEccCorrected : Nat := 10

/-- A flag of Channel status set or cleared (R404). -/
def State.dmcFlag (s : State) (n : Fin 8) (b : Nat) (v : Bool) : State := s.putBit Ix.dmcChannelStatus (n.val + 1) b v

/-- A channel's bookkeeping replaced. -/
def State.setDmc (s : State) (n : Fin 8) (c : DmcChannel) : State :=
  { s with dmc := { s.dmc with channels := s.dmc.channels.set n c } }

/-- Whether a module is one that R383 admits. -/
def moduleOk (m : DramModule) : Bool :=
  (m.gib == 16 || m.gib == 32 || m.gib == 64) && (m.ranks == 1 || m.ranks == 2) &&
  (m.deviceWidth == 4 || m.deviceWidth == 8) && decide (4800 ≤ m.rate)

/-- Whether two modules agree as R384 asks of modules trained together. -/
def moduleAgrees (a b : DramModule) : Bool :=
  a.gib == b.gib && a.ranks == b.ranks && a.deviceWidth == b.deviceWidth

/-- The Module identity object (R404). -/
def moduleIdentity (m : DramModule) : Octets :=
  leBytes 2 m.manufacturer ++ (m.part ++ zeros 20).take 20 ++ leBytes 2 m.gib ++ leBytes 1 m.ranks ++
  leBytes 1 m.deviceWidth ++ leBytes 2 m.rate ++ leBytes 4 m.serial

/-- The rate a channel runs at: the lowest of the module's highest rate, the limit and DDR5-6400 (R383). -/
def State.dmcRate (s : State) (n : Fin 8) (m : DramModule) : Nat :=
  min m.rate (min (s.rd Ix.dmcDataRateLimit (n.val + 1)) 6400)

/-- The capacity of each module in the map, in GiB (R384, R385). -/
def State.moduleGib (s : State) : Nat :=
  match s.dmc.map.head? with
  | none => 0
  | some c =>
    match dmcChan c with
    | none => 0
    | some n =>
      match s.dmc.sockets[n] with
      | some m => m.gib
      | none => 0

/-- The usable capacity in GiB (R385). -/
def State.usableGib (s : State) : Nat := s.dmc.map.length * s.moduleGib

/-- The sizes of the CDE work, master and history regions in GiB: as a retirement left them, else as set (R386, R400). -/
def State.regionSizes (s : State) : Nat × Nat × Nat :=
  match s.dmc.resized with
  | some r => r
  | none => (s.rd Ix.dmcCDEWorkRegionSize 0, s.rd Ix.mreMasterRegionSize 0, s.rd Ix.hrbHistoryRegionSize 0)

/-- Whether the regions fit in the usable capacity (R386). -/
def State.regionsFit (s : State) : Bool :=
  let (c, m, h) := s.regionSizes
  decide (2 + c + m + h ≤ s.usableGib)

/-- A region's start and size in bytes by its subindex: none while the map is empty (R386, R401). -/
def State.region (s : State) (i : Nat) : Nat × Nat :=
  let (c, m, h) := s.regionSizes
  let g := 2 ^ 30
  let (a, n) := if i = 1 then (0, 1) else if i = 2 then (1, 1) else if i = 3 then (2, c)
    else if i = 4 then (2 + c, m) else (2 + c + m, h)
  if s.dmc.map = [] then (a * g, 0) else (a * g, n * g)

/-- The Region object of a subindex (R404). -/
def State.regionObject (s : State) (i : Nat) : Octets := leBytes 8 (s.region i).1 ++ leBytes 8 (s.region i).2

/-- The map's figures as the objects show them (R385). -/
def State.showMap (s : State) : State :=
  (s.wr Ix.dmcChannelsInMap 0 s.dmc.map.length).wr Ix.dmcUsableCapacity 0 (s.usableGib * 2 ^ 30)

/-- Entry to Ready: every channel whose socket holds a module is in the map, the others count as retired (R384, R400). -/
def State.dmcEnterReady (s : State) : State :=
  let fitted := dmcAll.filter (fun (n : Fin 8) => (s.dmc.sockets[n]).isSome)
  let s1 := { s with dmc := { s.dmc with map := fitted.map (fun n => n.val), resized := none } }
  (dmcAll.foldl (fun (t : State) n => t.dmcFlag n dsRetired (!(fitted.contains n))) s1).showMap

/-- The channel that bears a device address, where the map reaches it (R385). -/
def State.dramChannel (s : State) (addr : Nat) : Option (Fin 8) :=
  let n := s.dmc.map.length
  if n = 0 ∨ s.usableGib * 2 ^ 30 ≤ addr then none
  else
    match s.dmc.map[addr / 256 % n]? with
    | none => none
    | some c => dmcChan c

/-- Whether a channel can be armed: the map is not empty, the regions fit, its socket holds a module of R383 that agrees with those
trained (R384, R386, R401). -/
def State.dmcArmable (s : State) (n : Fin 8) : Bool :=
  decide (s.dmc.map ≠ []) && s.regionsFit &&
  match s.dmc.sockets[n] with
  | none => false
  | some m => moduleOk m && dmcAll.all (fun k =>
      match s.dmc.sockets[k] with
      | some o => k == n || !(s.bit Ix.dmcChannelStatus (k.val + 1) dsTrained) || moduleAgrees o m
      | none => true)

/-- What ARM leaves once training has found a setting (R384, R404). -/
def State.dmcArms (s : State) (n : Fin 8) : State :=
  match s.dmc.sockets[n] with
  | none => s
  | some m =>
    let sub := n.val + 1
    (((s.wro Ix.dmcModuleIdentity sub (moduleIdentity m)).wr Ix.dmcDataRateInUse sub (s.dmcRate n m)).wr
      Ix.dmcModuleCapacity sub (m.gib * 2 ^ 30)).dmcFlag n dsTrained true

/-! ### Bytes and units -/

/-- A byte of the device DRAM. -/
def State.dramByte (s : State) (a : Nat) : Byte := storeGet 0 s.dram a

/-- Bytes of the device DRAM from an address on. -/
def State.dramBytes (s : State) (a : Nat) : Nat → Octets
  | 0 => []
  | n + 1 => s.dramByte a :: s.dramBytes (a + 1) n

/-- Bytes put into a DRAM store from an address on. -/
def putBytes (m : List Host.Cell) (a : Nat) : Octets → List Host.Cell
  | [] => m
  | b :: bs => putBytes (storeSet 0 m a b) (a + 1) bs

/-- The 64-byte unit of an address (R385). -/
abbrev unitOf (a : Nat) : Nat := a / 64 * 64

/-- Whether an address stands in one of the five regions (R386). -/
def State.inRegions (s : State) (a : Nat) : Bool := decide (a < (s.region 5).1 + (s.region 5).2)

/-- The data of a unit: all ones in the unused rest (R386). -/
def State.unitData (s : State) (u : Nat) : Octets :=
  if s.inRegions u then s.dramBytes u 64 else List.replicate 64 0xFF

/-! ### The error log and its counters -/

/-- The outcomes of an error log entry (R393). -/
abbrev outCorrected : Nat := 1
abbrev outTransient : Nat := 2
abbrev outLasting : Nat := 3
abbrev outPoison : Nat := 4
abbrev outAlert : Nat := 5

/-- An error log entry (R393). The place within the module follows a bank map that the spec does not give; the subchannel is the
unit's within its granule (DEDUCED from R385). -/
def State.logEntry (s : State) (n : Fin 8) (u outcome requester devices : Nat) (scrub : Bool) : Octets :=
  leBytes 8 s.stamp ++ leBytes 8 u ++ leBytes 1 n.val ++ leBytes 1 (u / 64 % 2) ++
  leBytes 1 (Config.dramPlace u 0) ++ leBytes 1 (Config.dramPlace u 1) ++ leBytes 1 (Config.dramPlace u 2) ++
  leBytes 1 outcome ++ leBytes 1 requester ++ leBytes 1 devices ++
  leBytes 4 (Config.dramPlace u 3) ++ leBytes 2 (Config.dramPlace u 4) ++ leBytes 1 (bitNat scrub) ++ leBytes 1 0

/-- A slice of an octet string replaced. -/
def putOctets (bs : Octets) (off : Nat) (x : Octets) : Octets := bs.take off ++ x ++ bs.drop (off + x.length)

/-- An entry written to the ring of the error log (R393). -/
def State.logError (s : State) (n : Fin 8) (u outcome requester devices : Nat) (scrub : Bool) : State :=
  let at_ := s.rd Ix.dmcLogEntries 0 % 64 * 32
  (s.wro Ix.dmcErrorLog 0 (putOctets (s.rdo Ix.dmcErrorLog 0) at_ (s.logEntry n u outcome requester devices scrub))).bump
    Ix.dmcLogEntries 0 1

/-- A retraining starts in the background, where none runs and no retirement waits (R397). -/
def State.startRetraining (s : State) (n : Fin 8) : State :=
  let c := s.dmc.channels[n]
  if c.retrain = .idle ∧ s.runs (.dmc n) ∧ ¬ s.bit Ix.dmcChannelStatus (n.val + 1) dsRetirePending then
    ((s.setDmc n { c with retrain := .first }).dmcFlag n dsRetraining true).cross (eventCode 21 n.val 1) none 0
  else s

/-- A corrected error: the counter, the log once in 1,000 ms, and a retraining where one second brings too many (R391, R393,
R397). -/
def State.correctable (s : State) (n : Fin 8) (u requester devices : Nat) (scrub : Bool) : State :=
  let c := s.dmc.channels[n]
  let recent := s.ns :: c.errors.filter (fun t => s.ns < t + 1000000000)
  let s1 := s.bump Ix.dmcCorrectedErrors (n.val + 1) 1
  let due := match c.logged with
    | none => true
    | some t => decide (t + 1000000000 ≤ s.ns)
  let s2 := if due then (s1.logError n u outCorrected requester devices scrub) else s1
  let s3 := s2.setDmc n { c with errors := recent, logged := if due then some s.ns else c.logged }
  if s.rd Ix.dmcRetrainThreshold 0 < recent.length then s3.startRetraining n else s3

/-- An uncorrectable read whose retry returned good or corrected data (R392). -/
def State.transient (s : State) (n : Fin 8) (u requester : Nat) (scrub : Bool) : State :=
  (((s.retryTransient 1 n.val).bump Ix.dmcTransientUncorrectable (n.val + 1) 1).dmcFlag n dsUeTransient true).logError n u outTransient requester 0 scrub

/-- An uncorrectable read whose retry failed: the unit is marked poisoned (R392). -/
def State.lasting (s : State) (n : Fin 8) (u requester : Nat) (scrub : Bool) : State :=
  let s1 := ((s.retryLasting 1).bump Ix.dmcLastingUncorrectable (n.val + 1) 1).dmcFlag n dsUeLasting true
  let s2 := (s1.cross (eventCode 21 n.val 0) none 0).logError n u outLasting requester 0 scrub
  if s2.dmc.poison.contains u then s2 else { s2 with dmc := { s2.dmc with poison := u :: s2.dmc.poison } }

/-- A read of a unit that is marked poisoned is counted and logged (R392, R393). DEDUCED: the log's outcome 4 is of such reads. -/
def State.poisonRead (s : State) (n : Fin 8) (u requester : Nat) (scrub : Bool) : State :=
  (s.bump Ix.dmcPoisonReads (n.val + 1) 1).logError n u outPoison requester 0 scrub

/-- An activate draws one random number; with probability 2^-k the neighbouring rows are refreshed (R394). -/
def State.activate (s : State) (n : Fin 8) : State :=
  let draw := Config.neighbourDraw s.free
  let s1 := s.takeFree
  if draw % 2 ^ s.rd Ix.dmcNeighbourRefreshExponent 0 = 0 then s1.bump Ix.dmcNeighbourRefreshes (n.val + 1) 1 else s1

/-- A read is issued: counted, and every 64th gives its latency to the recorder (R523, R532). -/
def State.countRead (s : State) (n : Fin 8) : State :=
  let c := s.dmc.channels[n]
  let t := (s.setDmc n { c with reads := (c.reads + 1) % 64 }).tally 0x60 n.val 1
  if c.reads = 63 then t.takeFree.sample 7 n.val (Config.latency t.free) none else t

/-! ### Accesses -/

/-- The error that Error injection armed for a unit, taken (R405). -/
def takeInjected (u : Nat) : List (Nat × Nat) → Option Nat × List (Nat × Nat)
  | [] => (none, [])
  | (a, k) :: l => if a = u then (some k, l) else let (r, l') := takeInjected u l; (r, (a, k) :: l')

/-- A unit read by a requester within the device, with its retry where one is due: the data, or none where it is poisoned (R389, R392,
R402). -/
def State.readUnit (s : State) (requester u : Nat) : Option Octets × State :=
  match s.dramChannel u with
  | none => (none, s)
  | some n =>
    if !s.runs (.dmc n) then (none, s.discard (.dmc n) 1)
    else
      let s1 := (s.activate n).countRead n
      if s1.dmc.poison.contains u then (none, s1.poisonRead n u requester false)
      else
        let (k, rest) := takeInjected u s1.dmc.injected
        let s2 := { s1 with dmc := { s1.dmc with injected := rest } }
        match k with
        | some 1 => (some (s2.unitData u), s2.correctable n u requester 1 false)
        | some 2 => (some (s2.unitData u), s2.transient n u requester false)
        | some 3 => (none, s2.lasting n u requester false)
        | _ => (some (s2.unitData u), s2)

/-- A channel performs a write of octets within one unit: all 64 bytes clear the unit's poison, a partial write leaves it; beyond the regions
nothing is written (R386, R389, R392). -/
def State.putUnit (s : State) (n : Fin 8) (addr : Nat) (data : Octets) : State :=
  let u := unitOf addr
  let s1 := (s.activate n).tally 0x61 n.val 1
  let s2 := if data.length = 64 then { s1 with dmc := { s1.dmc with poison := s1.dmc.poison.filter (fun x => x != u) } } else s1
  if s2.inRegions u then { s2 with dram := putBytes s2.dram addr data } else s2

/-- A write of octets within one unit, which a channel that is not Running refuses (R402). -/
def State.writeUnit (s : State) (addr : Nat) (data : Octets) : State :=
  match s.dramChannel (unitOf addr) with
  | none => s
  | some n => if !s.runs (.dmc n) then s.discard (.dmc n) 1 else s.putUnit n addr data

/-- Units read in order: the octets, none where any unit is poisoned; a reader that stops on poison still reads them all. -/
def State.readUnits (s : State) (requester u : Nat) : Nat → List (Option Octets) × State
  | 0 => ([], s)
  | n + 1 =>
    let (d, s1) := s.readUnit requester u
    let (ds, s2) := s1.readUnits requester (u + 64) n
    (d :: ds, s2)

/-- A range of device DRAM read by a requester: its octets, with zeros where a unit is poisoned, and whether any is. -/
def State.dramFetch (s : State) (requester addr n : Nat) : Octets × Bool × State :=
  if n = 0 then ([], false, s)
  else
    let u := unitOf addr
    let (ds, s1) := s.readUnits requester u ((addr + n - 1) / 64 - addr / 64 + 1)
    let flat := ds.flatMap (fun d => d.getD (zeros 64))
    ((flat.drop (addr - u)).take n, ds.any (fun d => d.isNone), s1)

/-- Whether the channels that bear a range of device DRAM all run. -/
def State.rangeRuns (s : State) (addr n : Nat) : Bool :=
  (List.range ((addr + n - 1) / 64 - addr / 64 + 1)).all (fun i =>
    match s.dramChannel (unitOf addr + 64 * i) with
    | some c => s.runs (.dmc c)
    | none => true)

/-- Octets written to device DRAM by units (R389), with a bound on their number. -/
def State.storeUnits (s : State) (addr : Nat) (data : Octets) : Nat → State
  | 0 => s
  | k + 1 =>
    if data = [] then s
    else
      let here := 64 - addr % 64
      (s.writeUnit addr (data.take here)).storeUnits (addr + here) (data.drop here) k

/-- Octets written to device DRAM. -/
def State.dramStore (s : State) (addr : Nat) (data : Octets) : State := s.storeUnits addr data (data.length / 64 + 2)

/-! ### Requests from outside a chapter's own work (R389) -/

/-- The rank by which a request is chosen: twice its priority; an aged one stands behind the history writes of priority 2 and before the rest
(R389). -/
def requestRank (r : DramRequest) : Nat := if r.aged then min (2 * r.requester) 5 else 2 * r.requester

/-- Requests accepted in one cycle stand in priority order (R389). -/
def byPriority (r : DramRequest) : List DramRequest → List DramRequest
  | [] => [r]
  | q :: qs => if r.requester < q.requester then r :: q :: qs else q :: byPriority r qs

/-- The request a channel performs next: of those with no earlier request for their unit, the first of the best rank (R389). -/
def nextRequest (mine : DramRequest → Bool) : List Nat → List DramRequest → Option DramRequest
  | _, [] => none
  | seen, r :: rs =>
    let later := nextRequest mine (unitOf r.addr :: seen) rs
    if mine r && !(seen.contains (unitOf r.addr)) then
      match later with
      | some q => if requestRank q < requestRank r then some q else some r
      | none => some r
    else later

/-- A request answered to its requester. -/
def State.replyDram (s : State) (r : DramRequest) (data : Octets) (poisoned : Bool) : State :=
  if r.write.isSome then s else s.emit (.dramReply r.requester r.addr data poisoned)

/-- A request that ends with an error response, counted where a channel bears its address (R401, R402). -/
def State.refuseDram (s : State) (r : DramRequest) : State :=
  let t := match s.dramChannel r.addr with
    | some n => s.discard (.dmc n) 1
    | none => s
  t.replyDram r (zeros 64) true

/-- Whether a request's octets stand within one unit, as an interface can carry it. -/
def requestOk (r : DramRequest) : Bool :=
  match r.write with
  | none => true
  | some d => decide (d.length ≠ 0 ∧ r.addr % 64 + d.length ≤ 64)

/-- A request arrives: one for a channel that is Running is accepted, any other ends at once (R402). -/
def State.acceptOne (s : State) (r : DramRequest) : State :=
  let takes := match s.dramChannel r.addr with
    | some n => s.runs (.dmc n)
    | none => false
  if takes then { s with dmc := { s.dmc with waiting := s.dmc.waiting ++ [{ r with aged := false }] } } else s.refuseDram r

/-- Requests that arrive in one cycle are taken in priority order (R389). -/
def State.acceptDram (s : State) (arrivals : List DramRequest) : State :=
  (arrivals.foldl (fun l r => byPriority r l) []).foldl (fun (t : State) r => t.acceptOne r) s

/-- A read performed on a unit that is not poisoned and meets no uncorrectable error (R391). -/
def State.goodRead (s : State) (n : Fin 8) (r : DramRequest) (devices : Option Nat) : State :=
  let u := unitOf r.addr
  let t := match devices with
    | some d => s.correctable n u r.requester d false
    | none => s
  t.replyDram r (t.unitData u) false

/-- A channel performs a request: a write, a read, or a partial write, whose read-modify-write may meet an error (R389, R391, R392). -/
def State.performDram (s : State) (n : Fin 8) (r : DramRequest) (health : DramHealth) : State :=
  let u := unitOf r.addr
  match r.write with
  | some d =>
    if d.length = 64 || s.dmc.poison.contains u then s.putUnit n r.addr d
    else
      let (k, rest) := takeInjected u s.dmc.injected
      let hold := s.setDmc n { s.dmc.channels[n] with retry := some r }
      match k, health with
      | some 2, _ => hold
      | some 3, _ => hold
      | some _, _ => ({ s with dmc := { s.dmc with injected := rest } }.correctable n u r.requester 1 false).putUnit n r.addr d
      | none, .good => s.putUnit n r.addr d
      | none, .corrected m => (s.correctable n u r.requester m false).putUnit n r.addr d
      | none, .uncorrectable => hold
  | none =>
    let s1 := (s.activate n).countRead n
    if s1.dmc.poison.contains u then (s1.poisonRead n u r.requester false).replyDram r (zeros 64) true
    else
      let (k, rest) := takeInjected u s1.dmc.injected
      let hold := s1.setDmc n { s1.dmc.channels[n] with retry := some r }
      match k, health with
      | some 2, _ => hold
      | some 3, _ => hold
      | some _, _ => { s1 with dmc := { s1.dmc with injected := rest } }.goodRead n r (some 1)
      | none, .good => s1.goodRead n r none
      | none, .corrected d => s1.goodRead n r (some d)
      | none, .uncorrectable => hold

/-- A channel takes its next request and performs it, unless a read of it waits for its retry (R389, R392). -/
def State.serveDram (s : State) (n : Fin 8) (health : DramHealth) : State :=
  if (s.dmc.channels[n]).retry.isSome then s
  else
    match nextRequest (fun r => s.dramChannel r.addr == some n) [] s.dmc.waiting with
    | none => s
    | some r => { s with dmc := { s.dmc with waiting := s.dmc.waiting.erase r } }.performDram n r health

/-- The single retry of an uncorrectable read (R392). -/
def State.retryDram (s : State) (n : Fin 8) (health : DramHealth) : State :=
  match (s.dmc.channels[n]).retry with
  | none => s
  | some r =>
    let u := unitOf r.addr
    let s1 := s.setDmc n { s.dmc.channels[n] with retry := none }
    let (k, rest) := takeInjected u s1.dmc.injected
    let s2 := { s1 with dmc := { s1.dmc with injected := rest } }
    let fails : Bool := match k with
      | some kind => kind == 3
      | none => health == .uncorrectable
    if fails then (s2.lasting n u r.requester false).replyDram r (zeros 64) true
    else match r.write with
      | some d => (s2.transient n u r.requester false).putUnit n r.addr d
      | none => (s2.transient n u r.requester false).replyDram r (s2.unitData u) false

/-- The RDIMM signals ALERT_n: the command it reports, which is one of the channel's, is retried once (R392). A command that carried a write is
performed again with the same data, so only its retry's outcome shows. -/
def State.alertDram (s : State) (n : Fin 8) (r : DramRequest) (health : DramHealth) : State :=
  let u := unitOf r.addr
  if !(s.runs (.dmc n) || s.drains (.dmc n)) || (s.dmc.channels[n]).retry.isSome || s.dramChannel r.addr != some n then s
  else
    let s1 := (s.dmcFlag n dsAlert true).logError n u outAlert r.requester 0 false
    match r.write with
    | some d =>
      if health == .uncorrectable then s1.lasting n u r.requester false else (s1.transient n u r.requester false).putUnit n r.addr d
    | none => s1.setDmc n { s1.dmc.channels[n] with retry := some r }

/-- A request that has waited 4 µs is raised to priority 2 (R389). -/
def State.ageDram (s : State) (k : Nat) : State :=
  let chan := ((s.dmc.waiting[k]?).bind (fun r => s.dramChannel r.addr)).map (fun n => n.val)
  let s := match chan with
    | some n => s.tally 0x62 n 1
    | none => s
  { s with dmc := { s.dmc with waiting := s.dmc.waiting.mapIdx (fun i r => if i = k then { r with aged := true } else r) } }

/-- The accesses of a channel that are not yet issued end with an error response (R402). -/
def State.dmcTruncate (s : State) (n : Fin 8) : State :=
  let mine := s.dmc.waiting.filter (fun r => s.dramChannel r.addr == some n)
  let s1 := { s with dmc := { s.dmc with waiting := s.dmc.waiting.filter (fun r => !(s.dramChannel r.addr == some n)) } }
  let s2 := match (s1.dmc.channels[n]).retry with
    | some r => (s1.setDmc n { s1.dmc.channels[n] with retry := none }).refuseDram r
    | none => s1
  mine.foldl (fun t r => t.refuseDram r) s2

/-- Whether a channel has completed the accesses it accepted (R402). -/
def State.dmcDrained (s : State) (n : Fin 8) : Bool :=
  !((s.dmc.channels[n]).retry.isSome) && !(s.dmc.waiting.any (fun r => s.dramChannel r.addr == some n))

/-! ### Scrubbing, refresh, tracking -/

/-- A scrub pass: every unit of the usable capacity is read once. What the pass meets comes with it: the units whose read was corrected,
with their devices in error, those whose read failed and whose retry was good, and those whose read and retry both failed (R391, R392). -/
def State.scrubPass (s : State) (corrected : List (Nat × Nat)) (recovered failed : List Nat) : State :=
  let met := s.dmc.poison
  let live (t : State) (u : Nat) : Option (Fin 8) :=
    match t.dramChannel u with
    | some n => if t.runs (.dmc n) && !(t.dmc.poison.contains (unitOf u)) then some n else none
    | none => none
  let s1 := corrected.foldl (fun t x =>
    match live t x.1 with
    | some n => t.correctable n (unitOf x.1) 7 x.2 true
    | none => t) s
  let s1 := recovered.foldl (fun t u =>
    match live t u with
    | some n => t.transient n (unitOf u) 7 true
    | none => t) s1
  let s2 := failed.foldl (fun t u =>
    match live t u with
    | some n => t.lasting n (unitOf u) 7 true
    | none => t) s1
  let s2 := met.foldl (fun t u =>
    match t.dramChannel u with
    | some n => if t.runs (.dmc n) then t.poisonRead n u 7 true else t
    | none => t) s2
  let injected := s2.dmc.injected
  let s3 := injected.foldl (fun t x =>
    match live t x.1 with
    | some n =>
      if x.2 = 1 then t.correctable n x.1 7 1 true else if x.2 = 2 then t.transient n x.1 7 true else t.lasting n x.1 7 true
    | none => t) { s2 with dmc := { s2.dmc with injected := [] } }
  dmcAll.foldl (fun t n => if t.runs (.dmc n) then t.bump Ix.dmcScrubPasses (n.val + 1) 1 else t) s3

/-- A refresh command is issued: a band change takes effect with it (R395). -/
def State.refreshDram (s : State) (n : Fin 8) : State :=
  s.setDmc n { s.dmc.channels[n] with refreshing := s.rd Ix.dmcTemperatureBand (n.val + 1) }

/-- A temperature band comes to show (R395). -/
def State.setBand (s : State) (n : Fin 8) (band : Nat) : State :=
  let old := s.rd Ix.dmcTemperatureBand (n.val + 1)
  if old = band then s
  else
    let s1 := (s.wr Ix.dmcTemperatureBand (n.val + 1) band).dmcFlag n dsDoubleRefresh (decide (1 ≤ band))
    let s2 := if band = 2 then (s1.dmcFlag n dsHot true).cross (eventCode 21 n.val 4) none 0 else s1
    s2.startRetraining n

/-- MR4 is read: a rise takes effect at once, a return to band 0 at the second poll in a row (R395). -/
def State.pollBand (s : State) (n : Fin 8) (band : Nat) : State :=
  let old := s.rd Ix.dmcTemperatureBand (n.val + 1)
  let c := s.dmc.channels[n]
  if band = 0 ∧ old ≠ 0 then
    if c.coolPolls = 0 then s.setDmc n { c with coolPolls := 1 }
    else (s.setDmc n { c with coolPolls := 0 }).setBand n 0
  else (s.setDmc n { c with coolPolls := 0 }).setBand n band

/-- One lane's delay moved by one tap (R396). -/
def stepDelay (delays : Octets) (lane : Nat) (up : Bool) : Octets :=
  let d := octAt delays lane
  putOctets delays lane (leBytes 1 (if up then min (d + 1) 255 else d - 1))

/-- The eye edges are measured: the smallest margin shows, lanes move by one tap each, and a margin below Eye minimum starts a
retraining (R396, R397). -/
def State.trackEyes (s : State) (n : Fin 8) (margin : Nat) (moves : List (Nat × Bool)) : State :=
  if s.runs (.dmc n) then
    let old := s.rdo Ix.dmcLaneDelays (n.val + 1)
    let allowed (m : Nat × Bool) : Bool := s.driftAllows 10 n.val m.1 (octAt (stepDelay old m.1 m.2) m.1)
    let within := moves.filter (fun m => decide (m.1 < 160))
    let delays := (within.filter allowed).foldl (fun d m => stepDelay d m.1 m.2) old
    let s0 := if within.filter allowed = [] then s else s.calCount 10 n.val 4
    let s0 := if within.all allowed then s0 else s0.setBit Ix.calCalibrationStatus 0 11
    let s1 := (s0.wr Ix.dmcEyeMargin (n.val + 1) margin).wro Ix.dmcLaneDelays (n.val + 1) delays
    if margin < s.rd Ix.dmcEyeMinimum 0 then s1.startRetraining n else s1
  else s

/-! ### Retraining and retirement -/

/-- A retraining attempt ends: a setting comes into force, the back-off begins, or the channel awaits its retirement boundary (R397,
R398). -/
def State.retrained (s : State) (n : Fin 8) (setting : Option Octets) : State :=
  let c := s.dmc.channels[n]
  match c.retrain, setting with
  | .idle, _ => s
  | .backOff, _ => s
  | step, some delays =>
    let s := if step = .retry then s.retryTransient 8 n.val else s
    let s1 := (s.setDmc n { c with retrain := .idle }).dmcFlag n dsRetraining false
    (((s1.wro Ix.dmcLaneDelays (n.val + 1) delays).calCount 10 n.val 5).calBase 10 n.val delays).bumpSat Ix.dmcRetrainings (n.val + 1) 1
  | .first, none => s.setDmc n { c with retrain := .backOff }
  | .retry, none =>
    let s1 := ((s.retryLasting 8).setDmc n { c with retrain := .idle }).dmcFlag n dsRetraining false
    let s2 := ((s1.bumpSat Ix.dmcTrainingFailures (n.val + 1) 1).dmcFlag n dsTrainFail true).dmcFlag n dsTrained false
    let s3 := (s2.dmcFlag n dsRetirePending true).setBit Ix.dmcMemoryStatus 0 0
    s3.cross (eventCode 21 n.val 2) none 0

/-- The back-off of a retraining ends and its single retry begins (R397). -/
def State.retrainAgain (s : State) (n : Fin 8) : State :=
  let c := s.dmc.channels[n]
  if c.retrain = .backOff then s.setDmc n { c with retrain := .retry } else s

/-- Whether a channel awaits its retirement boundary (R398). -/
def State.retirementDue (s : State) : Bool := s.bit Ix.dmcMemoryStatus 0 0

/-- Sizes shortened to fit a number of GiB: the history region first, then the master, then CDE work, none below 1 GiB (R400). -/
def shorten (usable : Nat) (r : Nat × Nat × Nat) : Nat × Nat × Nat :=
  let (c, m, h) := r
  let h' := max 1 (h - (2 + c + m + h - usable))
  let m' := max 1 (m - (2 + c + m + h' - usable))
  let c' := max 1 (c - (2 + c + m' + h' - usable))
  (c', m', h')

/-- One channel leaves the map and enters Faulted (R399). -/
def State.retireChannel (s : State) (n : Fin 8) : State :=
  let s1 := { s with dmc := { s.dmc with map := s.dmc.map.filter (fun c => c != n.val) } }
  let s2 := (s1.enterFaulted (.dmc n) 1).dmcFlag n dsRetirePending false
  (s2.dmcFlag n dsRetired true).cross (eventCode 21 n.val 3) none 0

/-- The retirement boundary in DMC: accepted accesses complete under the old map, the channels that await it leave the map, every
region's content is invalid, and the regions are shortened where they no longer fit (R399 to R401). -/
def State.dmcRetire (s : State) : State :=
  let leaving := dmcAll.filter (fun n => s.bit Ix.dmcChannelStatus (n.val + 1) dsRetirePending)
  let sr := dmcAll.foldl (fun (t : State) n => t.retryDram n .good) s
  let s0 := sr.dmc.waiting.foldl (fun t r =>
    match t.dramChannel r.addr with
    | some n => ({ t with dmc := { t.dmc with waiting := t.dmc.waiting.erase r } }.performDram n r .good).retryDram n .good
    | none => t) sr
  let s1 := leaving.foldl (fun t n => t.retireChannel n) s0
  let sizes := s1.regionSizes
  let (c, m, h) := sizes
  let fits := decide (2 + c + m + h ≤ s1.usableGib)
  let s2 := if fits ∨ s1.dmc.map = [] then s1
    else { s1 with dmc := { s1.dmc with resized := some (shorten s1.usableGib sizes) } }.setBit Ix.dmcMemoryStatus 0 2
  let s3 := { s2 with dram := [], dmc := { s2.dmc with poison := [], waiting := [] } }
  ((s3.clearBit Ix.dmcMemoryStatus 0 0).setBit Ix.dmcMemoryStatus 0 1).showMap

/-- Error injection: an error armed for the next read of a unit (R405). -/
def State.injectError (s : State) (addr kind : Nat) : State :=
  { s with dmc := { s.dmc with injected := s.dmc.injected ++ [(unitOf addr, kind)] } }

end Sys2Proof.Machine
end

