-- ==== Sys2Proof/Machine/Queues.lean ====
section
/-! DEFINITION. The three queues: words and packets, pushing and popping, watermarks, losses (R344 to R350). -/

namespace Sys2Proof.Machine

/-- The queues by their position: CQ, SQ, XQ. -/
abbrev cqIx : Fin 3 := 0
abbrev sqIx : Fin 3 := 1
abbrev xqIx : Fin 3 := 2

/-- A queue's function (R375). -/
def queueFn : Fin 3 → Fn
  | 0 => .cq | 1 => .sq | 2 => .xq

/-- A queue's capacity in words (R345). -/
def queueCapacity : Fin 3 → Nat
  | 0 => 131072 | 1 => 65536 | 2 => 16384

/-- The words of a packet list. -/
def wordCount : List (List QWord) → Nat
  | [] => 0
  | p :: ps => p.length + wordCount ps

/-- A queue's depth in words. -/
def State.depth (s : State) (q : Fin 3) : Nat := wordCount s.queues[q].packets

/-- Whether a number has an odd number of bits set among its lowest `n`. -/
def oddBits : Nat → Nat → Bool
  | 0, _ => false
  | n + 1, v => xor (v % 2 == 1) (oddBits n (v / 2))

/-- The parity bit that makes the XOR of bits [65:0] zero (R344). -/
def parityOf (data : BitVec 64) (isEnd : Bool) : Bool := xor (oddBits 64 data.toNat) isEnd

/-- The words of a packet: END on the last, parity formed at the push (R344, R345). -/
def packetOf (poison : Bool) : List (BitVec 64) → List QWord
  | [] => []
  | [w] => [{ data := w, parity := parityOf w true, poison := poison }]
  | w :: ws => { data := w, parity := parityOf w false, poison := poison } :: packetOf poison ws

/-- A word as it is popped: one whose parity check fails is delivered with POISON (R345). -/
def QWord.popped (w : QWord) (isEnd : Bool) : QWord :=
  if w.parity == parityOf w.data isEnd then w else { w with poison := true }

/-- The words of a packet as they are popped (R345). -/
def popWords : List QWord → List QWord
  | [] => []
  | [w] => [w.popped true]
  | w :: ws => w.popped false :: popWords ws

/-- How many words of a packet fail their parity check (R345). -/
def badParity : List QWord → Nat
  | [] => 0
  | [w] => if w.parity == parityOf w.data true then 0 else 1
  | w :: ws => (if w.parity == parityOf w.data false then 0 else 1) + badParity ws

/-- The flags of a queue (R381). -/
abbrev qHighSeen : Nat := 0
abbrev qLowSeen : Nat := 1
abbrev qAboveHigh : Nat := 2
abbrev qLost : Nat := 3
abbrev qPoison : Nat := 4
abbrev qProducerWait : Nat := 5

/-- What follows a change of depth: the watermark crossings with their events and vectors, ABOVE_HIGH, and the high-water
object (R350, R371, R381). -/
def State.depthChanged (s : State) (q : Fin 3) (old : Nat) : State :=
  let sub := q.val + 1
  let now := s.depth q
  let hi := s.rd Ix.dlvHighWatermark sub
  let lo := s.rd Ix.dlvLowWatermark sub
  let s1 := s.putBit Ix.dlvQueueFlags sub qAboveHigh (decide (hi ≤ now))
  let s2 := if old < hi ∧ hi ≤ now then
      ((s1.setBit Ix.dlvQueueFlags sub qHighSeen).cross (eventCode 18 q.val 1) none now).msix (32 + q.val) else s1
  let s3 := if lo < old ∧ now ≤ lo then
      (s2.setBit Ix.dlvQueueFlags sub qLowSeen).cross (eventCode 18 q.val 2) none now else s2
  s3.raiseTo Ix.dlvDepthHighWater sub now

/-- A queue replaced. -/
def State.setQueue (s : State) (q : Fin 3) (a : QueueState) : State := { s with queues := s.queues.set q a }

/-- A queue given its contents, with what the change of depth brings. -/
def State.putPackets (s : State) (q : Fin 3) (ps : List (List QWord)) : State :=
  (s.setQueue q { s.queues[q] with packets := ps }).depthChanged q (s.depth q)

/-- A whole packet enters a queue, its contents being what they are with it: it counts as pushed and raises the queue's notice (R349). -/
def State.entered (s : State) (q : Fin 3) (ps : List (List QWord)) : State :=
  let t := (s.putPackets q ps).bump Ix.dlvPacketsPushed (q.val + 1) 1
  (t.cross (eventCode 18 q.val 0) none (t.depth q)).sample 4 q.val (t.depth q) none

/-- A packet enters a queue behind all that it holds. -/
def State.enqueue (s : State) (q : Fin 3) (p : List QWord) : State := s.entered q (s.queues[q].packets ++ [p])

/-! ### Producers ready at once (R346) -/

/-- How far a producer stands behind the one served last. DESIGN CHOICE: the producers take turns in the order in which R345's table names
them. -/
def turnsAfter (served producer : Nat) : Nat := (producer + 31 - served) % 32

/-- Whether a packet of a producer, its `n`-th of the cycle, comes ahead of another's `m`-th (R346). -/
def servedAhead (served n producer m other : Nat) : Bool :=
  decide (n < m) || (n == m && decide (turnsAfter served producer < turnsAfter served other))

/-- How many packets of a cycle come ahead of a producer's next one: `seen` are those already passed, oldest first. -/
def aheadOf (served producer n : Nat) (seen : List Nat) : List Nat → Nat
  | [] => 0
  | x :: xs =>
    if servedAhead served n producer (seen.count x) x then 0 else aheadOf served producer n (seen ++ [x]) xs + 1

/-- The turns of a queue in the present cycle: the producer served last before it, and the producers of its packets (R346). -/
def State.turns (s : State) (q : Fin 3) : Nat × List Nat :=
  let a := s.queues[q]
  if a.batch = [] ∨ a.batchAt = s.ns then (a.served, a.batch) else (a.batch.getLast?.getD a.served, [])

/-- A producer's packet enters a queue: among the packets of the same cycle at its turn, behind all earlier ones (R346). -/
def State.enqueueFrom (s : State) (q : Fin 3) (producer : Nat) (p : List QWord) : State :=
  let a := s.queues[q]
  let (served, batch) := s.turns q
  let k := aheadOf served producer (batch.count producer) [] batch
  let i := a.packets.length - batch.length + k
  let t := s.setQueue q { a with served := served, batch := batch.take k ++ [producer] ++ batch.drop k, batchAt := s.ns }
  t.entered q (a.packets.take i ++ [p] ++ a.packets.drop i)

/-- No packet of the present cycle can be passed any more: the next one comes behind all that the queue holds. -/
def QueueState.turnsEnd (a : QueueState) : QueueState := { a with served := a.batch.getLast?.getD a.served, batch := [] }

/-- The producers of the queues (R345): of SQ the pipelines by their number, STX, MRE and PFC; of XQ WPU, PSC, CDE, MON and EVF. -/
abbrev fromStx : Nat := 17
abbrev fromMre : Nat := 18
abbrev fromPfc : Nat := 19
abbrev fromWpu : Nat := 0
abbrev fromPsc : Nat := 1
abbrev fromCde : Nat := 2
abbrev fromMon : Nat := 3
abbrev fromEvf : Nat := 4

/-- Packets of a queue are lost: Packets lost and LOST, and the account for the loss record of SQ and XQ (R348). -/
def State.losePackets (s : State) (q : Fin 3) (n words : Nat) : State :=
  let t := (s.bump Ix.dlvPacketsLost (q.val + 1) n).setBit Ix.dlvQueueFlags (q.val + 1) qLost
  if q = cqIx then t
  else
    let a := t.queues[q]
    t.setQueue q { a with
      lostPackets := a.lostPackets + n, lostWords := a.lostWords + words,
      firstLoss := if a.lostPackets = 0 then t.stamp else a.firstLoss, lastLoss := t.stamp }

/-- The loss record of a queue (R348). -/
def lossRecord (q : Fin 3) (a : QueueState) : Octets :=
  leBytes 2 0x0009 ++ leBytes 1 1 ++ leBytes 1 (q.val + 1) ++ leBytes 4 a.lostPackets ++ leBytes 8 a.firstLoss ++
  leBytes 8 a.lastLoss ++ leBytes 4 a.lostWords ++ leBytes 4 0

/-- Whether a loss record is due: a loss is on account, the queue is Running and 4 words are free (R348). -/
def State.lossDue (s : State) (q : Fin 3) : Bool :=
  decide (s.queues[q].lostPackets ≠ 0) && s.runs (queueFn q) && decide (s.depth q + 4 ≤ queueCapacity q) && decide (q ≠ cqIx)

/-- The loss record is pushed ahead of any other packet once it is due, and the account starts again (R348). -/
def State.pushLoss (s : State) (q : Fin 3) : State :=
  if s.lossDue q then
    let a := s.queues[q]
    let t := s.setQueue q { a.turnsEnd with lostPackets := 0, lostWords := 0, firstLoss := 0, lastLoss := 0 }
    t.enqueue q (packetOf false (wordsOf 4 (lossRecord q a)))
  else s

/-- A producer's record is pushed to a queue as one packet; in SQ and XQ a packet that finds too little room, or the queue not
Running, is discarded whole and counted (R346, R348). -/
def State.push (s : State) (q : Fin 3) (producer : Nat) (poison : Bool) (record : Octets) : State :=
  let t := s.pushLoss q
  let p := packetOf poison (wordsOf (record.length / 8) record)
  if t.runs (queueFn q) && decide (t.depth q + p.length ≤ queueCapacity q) then t.enqueueFrom q producer p
  else (if t.runs (queueFn q) then t else t.discard (queueFn q) 1).losePackets q 1 p.length

/-- Packets of a source that a drain of DMA would still deliver are gone: it counts them no more (R375). -/
def State.leftLess (s : State) (source n : Nat) : State :=
  { s with dma := s.dma.mapIdx (fun c x => if s.rd Ix.dlvChannelSource (c + 1) = source then { x with left := x.left - n } else x) }

/-- The oldest packet of a queue, popped with its parity checked (R345, R347, R349). -/
def State.pop (s : State) (q : Fin 3) : Option (List QWord × State) :=
  match s.queues[q].packets with
  | [] => none
  | p :: ps =>
    let bad := badParity p
    let t := (s.setQueue q s.queues[q].turnsEnd).putPackets q ps
    let t := if bad = 0 then t else
      (t.bump Ix.dlvPoisonedWords (q.val + 1) bad).setBit Ix.dlvQueueFlags (q.val + 1) qPoison
    some (popWords p, t)

end Sys2Proof.Machine
end

