-- ==== Sys2Proof/Machine/Wpu.lean ====
section
/-! DEFINITION. The web position unit: decoding, counts, LP, speed, comparators and probes (R30 to R66, R595). -/

namespace Sys2Proof.Machine

/-- The positions of the flags of Position status (R65). -/
abbrev psSpeedValid : Nat := 0
abbrev psStandstill : Nat := 1
abbrev psDir : Nat := 2
abbrev psReversed : Nat := 3
abbrev psSkip : Nat := 4
abbrev psRange : Nat := 5
abbrev psStandstillSeen : Nat := 6
abbrev psHwNone : Nat := 7

/-- The selected position source: 0 to 3 an encoder, 4 and 5 a serial input (R30). -/
def State.source (s : State) : Nat := s.rd Ix.wpuPositionSource 0

/-- The raw count C of an input, by its source number (R42). -/
def State.countOf (s : State) (src : Nat) : Int :=
  if src < 4 then s.rdI Ix.wpuEncoderRawCount (src + 1)
  else if src = 4 then s.wpu.ser[0].count else s.wpu.ser[1].count

/-- An input's raw count moved by `d` (R34, R39). -/
def State.addCount (s : State) (src : Nat) (d : Int) : State :=
  if src < 4 then s.wrI Ix.wpuEncoderRawCount (src + 1) (s.countOf src + d)
  else if src = 4 then
    { s with wpu := { s.wpu with ser := s.wpu.ser.set 0 { s.wpu.ser[0] with count := s.wpu.ser[0].count + d } } }
  else { s with wpu := { s.wpu with ser := s.wpu.ser.set 1 { s.wpu.ser[1] with count := s.wpu.ser[1].count + d } } }

/-- WPU enters Faulted (R63): LP holds by WPU's leaving Running. -/
def State.wpuFault (s : State) (cause : Nat) : State := s.enterFaulted .wpu cause

/-! ### Speed -/

/-- The sum of a buffer's cycles. -/
def sumCycles (ps : List (Nat × Nat)) : Nat := (ps.map (fun p => p.1)).sum

/-- The sum of a buffer's counts. -/
def sumCounts (ps : List (Nat × Nat)) : Nat := (ps.map (fun p => p.2)).sum

/-- A magnitude with a sign, saturated at the limits of an I32 (R50). -/
def speedValue (reverse : Bool) (m : Nat) : Int :=
  clampInt (-2147483648) 2147483647 (if reverse then -(m : Int) else (m : Int))

/-- The speed objects recomputed from the averaging buffer at this instant: the average over the last M periods, limited to one
count over the time since the last change of P (R50, R51, R53). DESIGN CHOICE: the last 256 periods are kept, so that with a larger M the
periods beyond the old M come back at once. -/
def State.speedUpdate (s : State) : State :=
  let buf := s.wpu.periods.take (s.rd Ix.wpuSpeedAveraging 0)
  if buf = [] then
    ((s.wr Ix.wpuSpeedLines 0 0).wr Ix.wpuSpeedMm 0 0).clearBit Ix.wpuPositionStatus 0 psSpeedValid
  else
    let elapsed := s.cycle - s.wpu.lastChange
    let limited := decide (sumCycles buf < elapsed * sumCounts buf)
    let counts := if limited then 1 else sumCounts buf
    let cycles := if limited then elapsed else sumCycles buf
    let k := s.rd Ix.wpuLinePitch 1
    let top := 256 * counts * 200000000 * 2 ^ 32
    let rev := s.bit Ix.wpuPositionStatus 0 psDir
    let t := s.wrI Ix.wpuSpeedLines 0 (speedValue rev (top / (cycles * k)))
    let t := t.wrI Ix.wpuSpeedMm 0 (speedValue rev (top * s.rd Ix.wpuLinePitch 2 / (cycles * k * 1000000000)))
    t.setBit Ix.wpuPositionStatus 0 psSpeedValid

/-- The averaging buffer is emptied: the running period will be discarded (R51, R52). -/
def State.emptySpeed (s : State) : State :=
  ({ s with wpu := { s.wpu with periods := [], fresh := false } } : State).speedUpdate

/-! ### General comparators -/

/-- The value a general comparator's source has, LP unsigned and the others signed (R59). -/
def State.gcmSource (s : State) (src : Nat) : Int :=
  if src = 0 then (s.lp : Int) else if src < 7 then s.countOf (src - 1) else s.rdI Ix.wpuSpeedLines 0

/-- The output a general comparator takes from its condition, threshold and hysteresis (R59). -/
def gcmOutput (cond : Nat) (v thr : Int) (h : Nat) (old : Bool) : Bool :=
  if cond = 1 then (if thr ≤ v then true else if v < thr - h then false else old)
  else if cond = 2 then (if v ≤ thr then true else if thr + h < v then false else old)
  else false

/-- General comparator `n` evaluated: a change of its output is counted and sends GCMn_CHG (R59). -/
def State.evalGcm (s : State) (n : Nat) : State :=
  let src := s.rd Ix.wpuComparatorSource (n + 1)
  let thr : Int := if src = 0 then (s.rd Ix.wpuThreshold (n + 1) : Int) else s.rdI Ix.wpuThreshold (n + 1)
  let old := s.bit Ix.wpuComparatorOutput (n + 1) 0
  let now := gcmOutput (s.rd Ix.wpuComparatorCondition (n + 1)) (s.gcmSource src) thr (s.rd Ix.wpuHysteresis (n + 1)) old
  if now = old then s
  else ((s.wr Ix.wpuComparatorOutput (n + 1) (bitNat now)).bump Ix.wpuOutputChanges (n + 1) 1).eventHere
    (eventCode 4 n 0) (bitNat now)

/-- The general comparators from `n` on evaluated. -/
def State.evalGcms (s : State) : List Nat → State
  | [] => s
  | n :: ns => (s.evalGcm n).evalGcms ns

/-- All general comparators are evaluated in every cycle (R59). -/
def State.comparators (s : State) : State := s.evalGcms (List.range 8)

/-! ### Spacing comparators -/

/-- A hit of a spacing comparator (R55, R56): which one, the LP and time it latched, the first compare value passed, the step, the
number of compare values passed, and the direction. -/
structure SpcHit where
  n : Nat
  lp : Nat
  time : Nat
  first : Nat
  step : Nat
  k : Nat
  up : Bool
  deriving DecidableEq, Repr

/-- A spacing comparator hits at this instant (R55, R56). -/
def State.spcHit (s : State) (n : Nat) (up : Bool) : State × SpcHit :=
  let c := s.rd Ix.wpuSpacingCompare (n + 1)
  let st := s.rd Ix.wpuSpacingStep (n + 1)
  let k := (if up then s.lp - c else c - s.lp) / st + 1
  let c' := if up then min (c + k * st) (2 ^ 64 - 1) else c - k * st
  let spent := if up then decide (c' ≤ s.lp) else decide (s.lp ≤ c')
  let hit : SpcHit := { n := n, lp := s.lp, time := s.stamp, first := c, step := st, k := k, up := up }
  let t := (((s.wr Ix.wpuSpacingCompare (n + 1) c').bump Ix.wpuHitCount (n + 1) 1).wr Ix.wpuLastHitLP (n + 1) s.lp).wr
    Ix.wpuLastHitTime (n + 1) s.stamp
  let t : State := if h : n < 24 then { t with wpu := { t.wpu with spent := t.wpu.spent.set n spent } } else t
  let t := (t.event (eventCode 3 n 0) hit.lp hit.time 0).tally 0x71 n 1
  let t := if 2 ≤ k then
      (((t.bump Ix.wpuSkippedCount (n + 1) (k - 1)).wr Ix.wpuSKIPFlag (n + 1) 1).setBit Ix.wpuPositionStatus 0 psSkip).event
        (eventCode 3 n 1) hit.lp hit.time (k - 1)
    else t
  (t, hit)

/-- A spacing comparator evaluated for a direction in which its compare may have been passed: it hits only while WPU is Running,
in its own mode, and never again after a hit at an end of the range (R55, R56). -/
def State.spcEval (s : State) (n : Nat) (up : Bool) : State × List SpcHit :=
  let c := s.rd Ix.wpuSpacingCompare (n + 1)
  let passed := if up then decide (c ≤ s.lp) else decide (s.lp ≤ c)
  if s.runs .wpu && decide (s.rd Ix.wpuSpacingMode (n + 1) = if up then 1 else 2) && passed && !(s.wpu.spent.toList.getD n false)
  then ((s.spcHit n up).1, [(s.spcHit n up).2])
  else (s, [])

/-- Several spacing comparators evaluated in the order of their numbers. -/
def State.spcEvals (s : State) (up : Bool) : List Nat → State × List SpcHit
  | [] => (s, [])
  | n :: ns =>
    let r := s.spcEval n up
    let r' := r.1.spcEvals up ns
    (r'.1, r.2 ++ r'.2)

/-! ### From counts to LP -/

/-- What one change of P did to LP: the LP before and after, the high-water LP before, and the spacing comparators' hits. -/
structure Travel where
  before : Nat
  after : Nat
  high : Option Nat
  hits : List SpcHit
  deriving DecidableEq, Repr

/-- Whether a travel crosses a boundary of strips of `strip` lines forward for the first time (R14). -/
def Travel.newStrip (tr : Travel) (strip : Nat) : Bool :=
  match tr.high with
  | none => decide (tr.before < tr.after)
  | some h => decide (h / (65536 * strip) < tr.after / (65536 * strip))

/-- The LP and accumulator after `n` counts in one direction; LP × K + a changes by exactly 2^48 per count (R44, R45). None where
LP would leave its range (R48). -/
def stepLp (k lp a n : Nat) (forward : Bool) : Option (Nat × Nat) :=
  let v := lp * k + a
  if forward then
    let w := v + n * 2 ^ 48
    if w / k < 2 ^ 64 then some (w / k, w % k) else none
  else if v < n * 2 ^ 48 then none
  else some ((v - n * 2 ^ 48) / k, (v - n * 2 ^ 48) % k)

/-- The high-water LP after forward travel (R46). -/
def State.highWater (s : State) : State :=
  if s.bit Ix.wpuPositionStatus 0 psHwNone then
    (s.wr Ix.wpuHighWaterLP 0 s.lp).clearBit Ix.wpuPositionStatus 0 psHwNone
  else s.raiseTo Ix.wpuHighWaterLP 0 s.lp

/-- What a change of P means for direction, reversal, speed and standstill (R43, R51, R52, R54). -/
def State.pChanged (s : State) (n : Nat) (forward : Bool) : State :=
  let reversal := s.wpu.moved && (s.bit Ix.wpuPositionStatus 0 psDir == forward)
  let keep := s.wpu.fresh && !reversal
  let period := (s.cycle - s.wpu.lastChange, n)
  let periods := if reversal then [] else if keep then (period :: s.wpu.periods).take 256 else s.wpu.periods
  let t : State := { s with wpu := { s.wpu with moved := true, lastChange := s.cycle, fresh := true, periods := periods } }
  let t := t.putBit Ix.wpuPositionStatus 0 psDir (!forward)
  let t := if reversal then (t.setBit Ix.wpuPositionStatus 0 psReversed).eventHere (eventCode 6 0 0) 0 else t
  let t := if t.bit Ix.wpuPositionStatus 0 psStandstill then
      (t.clearBit Ix.wpuPositionStatus 0 psStandstill).eventHere (eventCode 6 0 2) 0 else t
  t.speedUpdate

/-- P follows C with its dead band of one count (R42): the new P and whether it moved forward, none where P holds. -/
def followC (c p : Int) : Option (Int × Bool) :=
  if p < c then some (c, true) else if c < p - 1 then some (c + 1, false) else none

/-- The lines that a forward change of P made new, by the high-water LP before it: a speed sample for each, and a line period where a new line
came since standstill (R46, R523). -/
def State.newLines (s : State) (noneBefore : Bool) (before : Nat) : State :=
  let n := if noneBefore then s.lp / 65536 + 1 else s.lp / 65536 - before / 65536
  if n = 0 then s
  else
    let speed : Int := if s.bit Ix.wpuPositionStatus 0 psSpeedValid then s.rdI Ix.wpuSpeedLines 0 else 0
    let period (i : Nat) : Option Int := if i = 0 then s.wpu.lastNew.map (fun c => ((s.cycle - c : Nat) : Int)) else some 0
    let t := (List.range n).foldl (fun (t : State) i =>
      let u := t.sample 1 0 speed none
      match period i with
      | some p => u.sample 2 0 p none
      | none => u) s
    ({ t with wpu := { t.wpu with lastNew := some s.cycle } } : State).calLine (s.lp / 65536)

/-- The selected source's count has changed: P follows, and while WPU is Running LP travels with it (R31, R42 to R48). Answers the
travel, none where LP did not move. -/
def State.follow (s : State) : State × Option Travel :=
  let p := s.rdI Ix.wpuPositionCount 0
  match followC (s.countOf s.source) p with
  | none => (s, none)
  | some (p', forward) =>
    let n := (p' - p).natAbs
    if s.runs .wpu then
      match stepLp (s.rd Ix.wpuLinePitch 1) s.lp (s.rd Ix.wpuLPAccumulator 0) n forward with
      | none => ((s.setBit Ix.wpuPositionStatus 0 psRange).wpuFault 4, none)
      | some (lp', a') =>
        let t := ((s.wrI Ix.wpuPositionCount 0 p').wr Ix.wpuLP 0 lp').wr Ix.wpuLPAccumulator 0 a'
        let t := (if forward then t.highWater else t).publish
        let t := t.pChanged n forward
        let t := if forward then t.newLines (s.bit Ix.wpuPositionStatus 0 psHwNone) (s.rd Ix.wpuHighWaterLP 0) else t
        let r := if lp' = s.lp then (t, []) else t.spcEvals forward (List.range 24)
        (r.1, some { before := s.lp, after := lp', hits := r.2,
                     high := if s.bit Ix.wpuPositionStatus 0 psHwNone then none else some (s.rd Ix.wpuHighWaterLP 0) })
    else ((s.wrI Ix.wpuPositionCount 0 p').pChanged n forward, none)

/-- An input's count moves by `d` counts of travel: inverted for the selected source under Direction invert, and P follows where
the input is the selected one (R30, R31, R39, R42). DEDUCED: Direction invert turns the increments of the selected source. -/
def State.countMoved (s : State) (src : Nat) (d : Int) : State × Option Travel :=
  if src = s.source then
    let d' := if s.rd Ix.wpuDirectionInvert 0 = 1 then -d else d
    let t := s.addCount src d'
    let t : State := if t.runs .wpu then t else { t with wpu := { t.wpu with idleNet := t.wpu.idleNet + d' } }
    t.follow
  else (s.addCount src d, none)

/-- P is set to the raw count of the selected source: no travel, and the averaging buffer is emptied (R42, R52). -/
def State.setP (s : State) : State := (s.wrI Ix.wpuPositionCount 0 (s.countOf s.source)).emptySpeed

/-! ### Encoders -/

/-- The place of a level pair in the order of forward travel, in which A leads B (R595, step and direction: B high is reverse). DEDUCED:
the level of B at a rising A is low in forward travel in every mode. -/
def grayPlace (a b : Bool) : Nat :=
  match a, b with
  | false, false => 0 | true, false => 1 | true, true => 2 | false, true => 3

/-- The count of a filtered sample in which A or B changed, by the encoder's mode (R34, R595): 1 X4, 2 X2, 3 X1, 4 step and
direction. -/
def encCount (mode : Nat) (a0 b0 a1 b1 : Bool) : Int :=
  let rises := !a0 && a1
  let changes := a0 != a1
  match mode with
  | 1 => if grayPlace a1 b1 = (grayPlace a0 b0 + 1) % 4 then 1 else -1
  | 2 => if changes then (if a1 != b1 then 1 else -1) else 0
  | 3 => if rises then (if b1 then -1 else 1) else 0
  | 4 => if rises then (if b1 then -1 else 1) else 0
  | _ => 0

/-- How many transitions of a window are illegal. -/
def illegalCount (w : List Bool) : Nat := w.count true

/-- The window takes a transition (R35): ENC_FAULT sets when the illegal transitions in it exceed the limit, and WPU faults where
the encoder is the selected source. While they go on exceeding it with the flag set, the flag and its event are not raised again. -/
def State.windowTakes (s : State) (n : Fin 4) (illegal : Bool) : State :=
  let w := s.wpu.enc[n].illegal
  let w' := (illegal :: w).take (s.rd Ix.wpuQERRWindow (n.val + 1))
  let lim := s.rd Ix.wpuQERRLimit (n.val + 1)
  let t : State := { s with wpu := { s.wpu with enc := s.wpu.enc.set n { s.wpu.enc[n] with illegal := w' } } }
  if lim < illegalCount w' then
    let t := if s.bit Ix.wpuEncoderStatus (n.val + 1) 1 && decide (lim < illegalCount w) then t
      else (t.setBit Ix.wpuEncoderStatus (n.val + 1) 1).eventHere (eventCode 1 n.val 1) 0
    if t.source = n.val then t.wpuFault 1 else t
  else t

/-- The windows of all encoders are cleared when WPU leaves Faulted (R35). -/
def State.clearWindows (s : State) : State :=
  { s with wpu := { s.wpu with enc := s.wpu.enc.map (fun e => { e with illegal := [] }) } }

/-- A filtered sample brings new levels of A and B to an encoder (R31, R34, R35, R595). -/
def State.encoderSample (s : State) (n : Fin 4) (a b : Bool) : State × Option Travel :=
  let e := s.wpu.enc[n]
  let t : State := { s with wpu := { s.wpu with enc := s.wpu.enc.set n { e with a := a, b := b } } }
  let mode := s.rd Ix.wpuEncoderMode (n.val + 1)
  if !s.clocked || (e.a == a && e.b == b) then (s, none)
  else if mode = 0 then (t, none)
  else if mode ≠ 4 ∧ e.a ≠ a ∧ e.b ≠ b then
    let t := (t.bumpSat Ix.wpuQERRCount (n.val + 1) 1).setBit Ix.wpuEncoderStatus (n.val + 1) 0
    ((t.eventHere (eventCode 1 n.val 0) 0).windowTakes n true, none)
  else
    let t := t.windowTakes n false
    let d := encCount mode e.a e.b a b
    if d = 0 then (t, none) else t.countMoved n.val d

/-- The bit of Encoder status that shows a live fault of a line (R65). -/
def encLineFlag : EncLine → Nat
  | .a => 2 | .b => 3 | .z => 4

/-- A line fault (R36): only the RS-422 modes have the detector. -/
def State.lineFault (s : State) (n : Fin 4) (line : EncLine) : State :=
  if !s.clocked || decide (s.rd Ix.wpuEncoderElectrical (n.val + 1) = 2) then s
  else
    let t := (s.setBit Ix.wpuEncoderStatus (n.val + 1) (encLineFlag line)).setBit Ix.wpuEncoderStatus (n.val + 1) 5
    if s.rd Ix.wpuLineFaultEnable (n.val + 1) = 1 ∧ line ≠ .z ∧ s.source = n.val then t.wpuFault 2 else t

/-- A rising Z transition latches the LP and time stamp of the cycle in which it first reached the input (R37). -/
def State.encoderIndex (s : State) (n : Fin 4) : State :=
  if !s.clocked || decide (s.rd Ix.wpuEncoderMode (n.val + 1) = 0) then s
  else
    let at_ := s.ns - 5 * (s.rd Ix.wpuEncoderFilterLength (n.val + 1) + 2)
    let lp := (publishedAt s.wpu.history at_).elim s.lp (fun p => p.lp)
    let time := (publishedAt s.wpu.history at_).elim s.stamp (fun p => p.stampAt at_)
    let t := ((s.wr Ix.wpuIndexLP (n.val + 1) lp).wr Ix.wpuIndexTime (n.val + 1) time).bump Ix.wpuIndexCount (n.val + 1) 1
    t.event (eventCode 1 n.val 2) lp time 0

/-! ### Serial inputs -/

/-- The binary value of a Gray-coded word of `w` bits (R38). -/
def ofGray : Nat → Nat → Nat
  | 0, _ => 0
  | w + 1, g => ofGray w (g / 2) * 2 + oddOf (w + 1) g
where
  /-- The parity of the bits of a word. -/
  oddOf (n g : Nat) : Nat := if oddBits n g then 1 else 0

/-- A CRC-6 over a bit string, most significant bit first, start value 0, with the polynomial's bits below x^6 (R38). PRESUMED: the
start value and the bits covered are those of BiSS-C. -/
def crc6 (poly : Nat) : List Bool → Nat → Nat
  | [], c => c
  | b :: bs, c =>
    let top := xor (32 ≤ c) b
    crc6 poly bs ((if top then ((c * 2) % 64) ^^^ (poly % 64) else (c * 2) % 64))

/-- The bits of a number, most significant first. -/
def bitsMsb : Nat → Nat → List Bool
  | 0, _ => []
  | w + 1, v => v.testBit w :: bitsMsb w v

/-- Whether a BiSS-C frame's inverted CRC is right: over the position, the error and the warning bit (R38). -/
def bissOk (poly w word : Nat) (errBit warnBit : Bool) (crc : Nat) : Bool :=
  63 - crc6 poly (bitsMsb w word ++ [errBit, warnBit]) 0 == crc

/-- A serial input replaced. -/
def State.setSer (s : State) (n : Fin 2) (x : SerState) : State := { s with wpu := { s.wpu with ser := s.wpu.ser.set n x } }

/-- A bad frame: the reading is discarded and counted, and the limit of consecutive ones is a fault of the input, and of WPU where
it is the selected source (R40). -/
def State.serialBad (s : State) (n : Fin 2) : State :=
  let bad := s.wpu.ser[n].bad + 1
  let atLimit := decide (s.rd Ix.wpuSerialErrorLimit (n.val + 1) ≤ bad)
  let x := { s.wpu.ser[n] with bad := bad, ref := if atLimit then none else s.wpu.ser[n].ref }
  let t := ((s.setSer n x).bumpSat Ix.wpuSerialErrorCount (n.val + 1) 1).setBit Ix.wpuSerialStatus (n.val + 1) 0
  let t := t.eventHere (eventCode 2 n.val 0) 0
  if atLimit then
    let t := t.setBit Ix.wpuSerialStatus (n.val + 1) 2
    if t.source = n.val + 4 then t.wpuFault 3 else t
  else t

/-- A good frame: its signed difference from the last good word moves the count; the first one sets the reference (R39). -/
def State.serialGood (s : State) (n : Fin 2) (w word : Nat) : State × Option Travel :=
  let x := s.wpu.ser[n]
  let t := (s.setSer n { x with ref := some word, bad := 0 }).wr Ix.wpuSerialRawPosition (n.val + 1) word
  match x.ref with
  | none => (t, none)
  | some old =>
    let d := ofPattern w ((word + 2 ^ w - old) % 2 ^ w)
    if d = 0 then (t, none) else t.countMoved (n.val + 4) d

/-! ### Probes -/

/-- Whether a probe's lockout still lasted at an instant (R61). -/
def State.lockedAt (s : State) (n : Fin 8) (ns : Nat) : Bool :=
  match s.wpu.released[n] with
  | none => true
  | some at_ => decide (ns < at_)

/-- A filtered edge at a probe input (R60 to R62). Answers the latch, none where the probe latched nothing. -/
def State.probeEdge (s : State) (n : Fin 8) (rising : Bool) : State × Option ProbeLatch :=
  let sub := n.val + 1
  let sel := s.rd Ix.wpuProbeEdge sub
  let at_ := s.ns - 5 * (s.rd Ix.wpuProbeFilterLength sub + 2)
  let seen := publishedAt s.wpu.history at_
  let lp := seen.elim s.lp (fun p => p.lp)
  let time := seen.elim s.stamp (fun p => p.stampAt at_)
  let ran := seen.elim (s.runs .wpu) (fun p => p.running)
  let last := s.rd Ix.wpuLatchedLP sub
  let near := s.lockedAt n at_ && decide ((if last ≤ lp then lp - last else last - lp) < s.rd Ix.wpuLockout sub)
  if !s.clocked || !ran || !(if rising then sel == 1 || sel == 3 else sel == 2 || sel == 3) then (s, none)
  else if near then (s.bumpSat Ix.wpuLockoutIgnoredCount sub 1, none)
  else
    let t := ((s.bump Ix.wpuLatchCount sub 1).wr Ix.wpuLatchedLP sub lp).wr Ix.wpuLatchedTime sub time
    let latch : ProbeLatch := { rising := rising, lp := lp, time := time, count := t.rd Ix.wpuLatchCount sub }
    let t : State := { t with wpu := { t.wpu with released := t.wpu.released.set n none } }
    let fifo := t.wpu.probes[n]
    let t : State := if fifo.length < 16 then
        { t with wpu := { t.wpu with probes := t.wpu.probes.set n (fifo ++ [latch]) } }
      else t.wr Ix.wpuProbeOverflowFlag sub 1
    (t.event (eventCode 5 n.val 0) lp time (if rising then 1 else 2), some latch)

/-- The probe record (R62). -/
def probeRecord (n : Nat) (l : ProbeLatch) : Octets :=
  leBytes 2 0x000A ++ leBytes 1 1 ++ leBytes 1 n ++ leBytes 1 (if l.rising then 1 else 2) ++ leBytes 3 0 ++ leBytes 8 l.lp ++
  leBytes 8 l.time ++ leBytes 8 l.count

/-- XQ's arbitration serves WPU: the oldest record of a probe's FIFO leaves it for XQ (R62). -/
def State.probeOffer (s : State) (n : Fin 8) : State :=
  match s.wpu.probes[n] with
  | [] => s
  | l :: ls => ({ s with wpu := { s.wpu with probes := s.wpu.probes.set n ls } } : State).push xqIx fromWpu false (probeRecord n.val l)

/-- At a power state entry the serial inputs lose their reference: the first good frame adds nothing (R39). -/
def State.serialForget (s : State) : State :=
  { s with wpu := { s.wpu with ser := s.wpu.ser.map (fun x => { x with ref := none }) } }

/-- Whether every capture FIFO is empty, which ends WPU's drain (R62). -/
def State.probesEmpty (s : State) : Bool := s.wpu.probes.toList.all (fun l => l.isEmpty)

/-- At WPU's drain timeout the remaining probe records are discarded and counted as input discarded. -/
def State.dropProbes (s : State) : State :=
  let n := (s.wpu.probes.toList.map (fun l => l.length)).sum
  ({ s with wpu := { s.wpu with probes := Vector.replicate 8 [] } } : State).discard .wpu n

/-- WPU enters Running: the count change of its idle time goes to Input discarded, and the speed buffer is emptied (R31, R52). -/
def State.wpuStarts (s : State) : State :=
  let t := s.discard .wpu s.wpu.idleNet.natAbs
  ({ t with wpu := { t.wpu with idleNet := 0 } } : State).emptySpeed.comparators

/-- At each entry to Ready the filtered levels are loaded from the first samples, the serial inputs lose their reference, and P is
set (R31, R39, R42). -/
def State.wpuReady (s : State) (levels : BitVec 8) : State :=
  let enc := s.wpu.enc.mapFinIdx (fun i e _ => { e with a := levels.toNat.testBit (2 * i), b := levels.toNat.testBit (2 * i + 1) })
  let ser := s.wpu.ser.map (fun x => { x with ref := none, polling := false })
  ({ s with wpu := { s.wpu with enc := enc, ser := ser } } : State).setP.comparators

end Sys2Proof.Machine
end

