-- ==== Sys2Proof/Machine/Psc.lean ====
section
/-! DEFINITION. The position scheduler and the 48 outputs (R67 to R83). -/

namespace Sys2Proof.Machine

/-- The fields of an action word (R68). -/
def actNumber (a : Nat) : Nat := field a 0 8
def actKind (a : Nat) : Nat := field a 8 3
def actReverse (a : Nat) : Bool := a.testBit 11
def actLateFire (a : Nat) : Bool := a.testBit 12
def actRecord (a : Nat) : Bool := a.testBit 13

/-- The kind of an action that fires an event-fabric channel (R68). -/
abbrev kindChannel : Nat := 4

/-- Whether an action word is one that a request may carry: a valid kind, an output number up to 47 for an output kind, and no
reserved bit (R69). -/
def actionOk (a : Nat) : Bool :=
  decide (actKind a ≤ 4) && (decide (actKind a = kindChannel) || decide (actNumber a ≤ 47)) && decide (a < 2 ^ 14)

/-- The effective target of a request: the requested target, which an addition of its requester may have taken above the range, clamped to it,
and the Lead of the output taken off, never below 0 (R67). -/
def State.effectiveTarget (s : State) (requested action : Nat) : Nat :=
  let target := min requested (2 ^ 64 - 1)
  if actKind action = kindChannel then target else target - s.rd Ix.pscLead (actNumber action + 1)

/-- Whether a target is late at an LP: reached or passed in the entry's direction (R70, R71). -/
def targetMet (lp target action : Nat) : Bool :=
  if actReverse action then decide (lp ≤ target) else decide (target ≤ lp)

/-- The scheduler record (R68, R79): outcome 0 fired, 1 dropped late, 2 discarded. -/
def pscRecord (s : State) (outcome : Nat) (target action tag : Nat) : Octets :=
  leBytes 2 0x000B ++ leBytes 1 1 ++ leBytes 1 outcome ++ leBytes 4 tag ++ leBytes 8 target ++ leBytes 8 s.lp ++
  leBytes 8 s.stamp ++ leBytes 4 action ++ leBytes 4 0

/-- The record of an entry's outcome goes to XQ where the entry asks for one (R68). -/
def State.pscReport (s : State) (outcome target action tag : Nat) : State :=
  if actRecord action then s.push xqIx fromPsc false (pscRecord s outcome target action tag) else s

/-! ### The output stages -/

/-- An output's shaping stage. -/
def State.outStage (s : State) (n : Nat) : OutStage := s.psc.outs.toList.getD n {}

/-- An output's shaping stage replaced. -/
def State.setOut (s : State) (n : Nat) (o : OutStage) : State :=
  if h : n < 48 then { s with psc := { s.psc with outs := s.psc.outs.set n o } } else s

/-- The pin level, true where active: high-impedance below Ready reads inactive; a force overrides the shaping (R77, R78, R82). -/
def State.pinLevel (s : State) (n : Nat) : Bool :=
  if !s.clocked then false
  else if s.rd Ix.pscForce (n + 1) = 1 then false
  else if s.rd Ix.pscForce (n + 1) = 2 then true
  else (s.outStage n).active

/-- The voltage level that an output pin drives: none, high-impedance, below Ready; from then on the pin level through the
polarity (R77, R78). -/
def State.pinDrive (s : State) (n : Nat) : Option Bool :=
  if s.clocked then some (xor (s.pinLevel n) (s.bit Ix.pscPolarity (n + 1) 0)) else none

/-- The pulse a firing at this instant gives an output (R74). -/
def State.pulseOf (s : State) (n : Nat) : Pulse :=
  { inLp := decide (s.rd Ix.pscWidthMode (n + 1) = 1), endLp := (s.lp : Int) + s.rd Ix.pscPulseLength (n + 1) }

/-- A pulse firing acts on an output: it starts a pulse, or meets an active one (R74, R75). -/
def State.pulseFiring (s : State) (n : Nat) : State :=
  match (s.outStage n).pulse with
  | none => (s.setOut n { active := true, pulse := some (s.pulseOf n) }).bump Ix.pscPulseCount (n + 1) 1
  | some _ =>
    let t := (s.bumpSat Ix.pscOverlapCount (n + 1) 1).setBit Ix.pscSchedulerStatus 0 2
    if s.rd Ix.pscRetrigger (n + 1) = 0 then t.setOut n { active := true, pulse := some (t.pulseOf n) } else t

/-- Every output at its inactive level, with no pulse (R78, R79). DESIGN CHOICE: the shaped level under a Force returns too, and shows once the
Force is taken off. -/
def State.outputsRest (s : State) : State := { s with psc := { s.psc with outs := Vector.replicate 48 {} } }

/-- Which kind acts when several firings reach one output in one cycle: set inactive (2), set active (1), toggle (3) if an odd number
arrive, pulse (0) (R76). -/
def actingKind (kinds : List Nat) : Option Nat :=
  if 2 ∈ kinds then some 2 else if 1 ∈ kinds then some 1 else if kinds.count 3 % 2 = 1 then some 3
  else if 0 ∈ kinds then some 0 else none

/-- The firings of one cycle act on one output (R76): a set or toggle ends an active pulse and leaves its level. DESIGN CHOICE:
where an even number of toggles arrive and nothing else, no firing acts and all of them add to Coincide count. -/
def State.outputFires (s : State) (n : Nat) (kinds : List Nat) : State :=
  let act := actingKind kinds
  let extra := kinds.length - (if act.isSome then 1 else 0)
  let t := if extra = 0 then s else s.bumpSat Ix.pscCoincideCount (n + 1) extra
  match act with
  | some 0 => t.pulseFiring n
  | some 1 => t.setOut n { active := true, pulse := none }
  | some 2 => t.setOut n { active := false, pulse := none }
  | some _ => t.setOut n { active := !(t.outStage n).active, pulse := none }
  | none => t

/-- The firings of one cycle, as pairs of output and kind, act on the outputs in turn. -/
def State.outputsFire (s : State) (fs : List (Nat × Nat)) : List Nat → State
  | [] => s
  | n :: ns =>
    let kinds := (fs.filter (fun f => f.1 == n)).map (fun f => f.2)
    (if kinds = [] then s else s.outputFires n kinds).outputsFire fs ns

/-- Whether the output stage takes firings: while PSC is Running or Draining (R73). -/
def State.pscActs (s : State) : Bool := s.runs .psc || s.drains .psc

/-- The outputs whose output source is a spacing comparator (1) or an EVF channel (2) of a number (R73, R412). -/
def State.outputsOf (s : State) (source number : Nat) : List Nat :=
  (List.range 48).filter (fun n => s.rd Ix.pscOutputSource (n + 1) == source && s.rd Ix.pscSourceNumber (n + 1) == number)

/-- Firings from the outputs' sources and from entries reach the output stage; those of a source that find PSC not Running are
counted as discarded (R73). -/
def State.fireOutputs (s : State) (fromSource fromEntries : List (Nat × Nat)) : State :=
  if s.pscActs then s.outputsFire (fromEntries ++ fromSource) (List.range 48) else
    if fromSource = [] then s else s.discard .psc fromSource.length

/-! ### Entries -/

/-- What firings of entries bring, for each: the count, its own cause at EVF for a kind-4 entry, its record (R71, R81). -/
def State.entriesFire (s : State) : List PscEntry → State
  | [] => s
  | e :: es =>
    let t := s.bump Ix.pscFiredCount 0 1
    let t := if actKind e.action = kindChannel then
        t.reachFabric { kind := .psc, code := actNumber e.action, lp := t.lp, time := t.stamp, arg := e.tag } else t
    (t.pscReport 0 e.target e.action e.tag).entriesFire es

/-- The firings of a channel over the last 1,024 CLK_POS cycles (R417). -/
def State.recentFirings (s : State) (c : Nat) : Nat :=
  s.evf.firings.countP (fun f => f.1 == c && decide (s.cycle < f.2 + 1024))

/-- Whether an event-fabric channel is enabled (R411). -/
def State.chanEnabled (s : State) (c : Nat) : Bool := s.rd (chanIx c) Ix.evfSubEnable == 1

/-- Whether a cause that reaches a channel now fires it: EVF Running, the channel enabled and below its limit (R411, R417). -/
def State.chanFires (s : State) (c : Nat) : Bool := s.fabricRuns && s.chanEnabled c && decide (s.recentFirings c < 256)

/-- The output firings of entries: their own, and those of the outputs whose source is a channel that a kind-4 entry fires in this same cycle
(R76, R412, R418). -/
def State.entryFirings (s : State) (es : List PscEntry) : List (Nat × Nat) :=
  (es.filter (fun e => actKind e.action != kindChannel)).map (fun e => (actNumber e.action, actKind e.action)) ++
  ((((es.filter (fun e => actKind e.action == kindChannel)).map (fun e => actNumber e.action)).eraseDups.filter s.chanFires).flatMap
    (fun c => (s.outputsOf 2 c).map (fun o => (o, 0))))

/-- Entries fire in this cycle, in the order of their slots: one PSC_FIRE with the tag of the lowest slot (R71, R81). -/
def State.fireEntries (s : State) (es : List PscEntry) : State :=
  match es with
  | [] => s
  | e :: _ => (s.eventHere (eventCode 7 0 0) e.tag).entriesFire es

/-- An LP-mode pulse ends once the live LP has reached its end (R74). -/
def OutStage.atLp (o : OutStage) (lp : Nat) : OutStage :=
  match o.pulse with
  | some p => if p.inLp && decide (p.endLp ≤ lp) then { active := false, pulse := none } else o
  | none => o

/-- LP has moved by travel: LP-mode pulses end, every entry whose condition holds fires, and the spacing comparators' hits reach
the outputs they are the source of, but for the pins whose ports withhold the trigger (R71, R73, R74, R96). DESIGN CHOICE: an LP-mode pulse that
reaches its end in this cycle has ended before a firing of this cycle, which starts a new pulse and counts no overlap (R75). -/
def State.pscTravel (s : State) (tr : Travel) (withheld : List Nat) : State :=
  let s : State := { s with psc := { s.psc with outs := s.psc.outs.map (fun o => o.atLp s.lp) } }
  let up := decide (tr.before < tr.after)
  let moved := decide (tr.before ≠ tr.after)
  let fires (e : PscEntry) : Bool := s.pscActs && moved && (actReverse e.action != up) && targetMet s.lp e.target e.action
  let due := s.psc.entries.filter fires
  let t : State := { s with psc := { s.psc with entries := s.psc.entries.filter (fun e => !fires e) } }
  let sources := (tr.hits.flatMap (fun h => ((t.outputsOf 1 h.n).filter (fun o => !withheld.contains o)).map (fun o => (o, 0))))
  (t.fireEntries due).fireOutputs sources (t.entryFirings due)

/-- A preset moves LP without travel: an LP-mode pulse is neither ended nor lengthened (R47). -/
def State.pscPreset (s : State) (d : Int) : State :=
  { s with psc := { s.psc with outs := s.psc.outs.map (fun o =>
      { o with pulse := o.pulse.map (fun p => { p with endLp := p.endLp + d }) }) } }

/-- The lowest free slot of the entry table. DESIGN CHOICE: the spec gives no rule for the slot a request is stored in. -/
def freeSlot : List PscEntry → Nat → Nat
  | [], n => n
  | e :: es, n => if e.slot = n then freeSlot es (n + 1) else n

/-- An entry put into its slot, the table kept in rising order of slot. -/
def insertEntry (e : PscEntry) : List PscEntry → List PscEntry
  | [] => [e]
  | x :: xs => if e.slot < x.slot then e :: x :: xs else x :: insertEntry e xs

/-- A request is checked and stored, or refused (R67 to R70). The channel of a kind-4 action that the requester may not use is
`barred`. A request that finds PSC not Running is counted as discarded input; a full table counts and sends PSC_FULL; a late
request counts, and fires or is dropped. -/
def State.pscRequest (s : State) (requested action tag : Nat) (barred : Bool) : State × Code :=
  if actKind action = kindChannel && barred then (s, .noAccess)
  else if !s.runs .psc then (s.discard .psc 1, .wrongState)
  else if !actionOk action then (s, .outOfRange)
  else if 512 ≤ s.psc.entries.length then
    (((s.bump Ix.pscFullCount 0 1).setBit Ix.pscSchedulerStatus 0 1).eventHere (eventCode 7 0 2) tag, .busy)
  else
    let e : PscEntry := { slot := freeSlot s.psc.entries 0, target := s.effectiveTarget requested action, action := action, tag := tag }
    if targetMet s.lp e.target action then
      let t := ((s.bump Ix.pscLateCount 0 1).setBit Ix.pscSchedulerStatus 0 0).eventHere (eventCode 7 0 1) tag
      if actLateFire action then ((t.fireEntries [e]).fireOutputs [] (t.entryFirings [e]), .ok)
      else (t.pscReport 1 e.target action tag, .ok)
    else ({ s with psc := { s.psc with entries := insertEntry e s.psc.entries } }, .ok)

/-- Cancel tag (R72). -/
def State.cancelTag (s : State) (tag : Nat) : State :=
  let n := s.psc.entries.countP (fun e => e.tag == tag)
  if n = 0 then s.setBit Ix.pscSchedulerStatus 0 4
  else ({ s with psc := { s.psc with entries := s.psc.entries.filter (fun e => e.tag != tag) } } : State).bump
    Ix.pscCancelCount 0 n

/-- The active pulse of an output ends: the output returns to its inactive level (R74). DESIGN CHOICE: also one that was set
active before the pulse began. -/
def State.endPulse (s : State) (n : Nat) : State := s.setOut n { active := false, pulse := none }

/-- A time-mode pulse has lasted its width (R74). -/
def State.pulseWidthEnd (s : State) (n : Nat) : State :=
  match (s.outStage n).pulse with
  | some p => if p.inLp then s else s.endPulse n
  | none => s

/-- The width cap ends a pulse (R74). -/
def State.widthCap (s : State) (n : Nat) : State :=
  match (s.outStage n).pulse with
  | some _ => (s.endPulse n).setBit Ix.pscSchedulerStatus 0 3
  | none => s

/-- The reports of discarded entries (R79). -/
def State.reportDiscarded (s : State) : List PscEntry → State
  | [] => s
  | e :: es => (s.pscReport 2 e.target e.action e.tag).reportDiscarded es

/-- On the drain timeout, on ABORT and on entry to Faulted, PSC discards its entries, ends its pulses and returns its outputs to their
inactive level (R79). -/
def State.pscDiscard (s : State) : State :=
  let es := s.psc.entries
  let t := ({ s with psc := { s.psc with entries := [] } } : State).outputsRest
  ((if es = [] then t else t.bump Ix.pscDiscardedCount 0 es.length)).reportDiscarded es

/-- Whether PSC's drain has ended: no entry pending and no pulse active (R79). -/
def State.pscDrained (s : State) : Bool :=
  s.psc.entries.isEmpty && s.psc.outs.toList.all (fun o => o.pulse.isNone)

/-- The lowest pending forward target, all ones if none (R82). -/
def nextForward (es : List PscEntry) : Nat :=
  (es.filter (fun e => !actReverse e.action)).foldl (fun m e => min m e.target) (2 ^ 64 - 1)

/-- What the entry cursor shows (R83). -/
def State.entryAt (s : State) (slot : Nat) : Octets :=
  match s.psc.entries.find? (fun e => e.slot == slot) with
  | some e => leBytes 8 e.target ++ leBytes 4 e.action ++ leBytes 4 e.tag ++ leBytes 1 1
  | none => zeros 17

end Sys2Proof.Machine
end

