-- ==== Sys2Proof/Machine/Cpt.lean ====
section
/-! DEFINITION. The camera ports: links, tags, triggers, pairing, strips (R84 to R117). -/

namespace Sys2Proof.Machine

/-- The reasons of a missing line (R101). -/
abbrev rsLinkLost : Nat := 1
abbrev rsOverspeed : Nat := 2
abbrev rsTruncated : Nat := 3
abbrev rsSkipped : Nat := 4
abbrev rsCrc : Nat := 5
abbrev rsFormat : Nat := 6
abbrev rsPairDrop : Nat := 7
abbrev rsShortFrame : Nat := 8
abbrev rsWithheld : Nat := 9
abbrev rsExpired : Nat := 10

/-- The strip length S (R103). -/
def State.strip (s : State) : Nat := s.rd Ix.cptStripLength 0

/-- A port's state beside its objects. -/
def State.port (s : State) (n : Fin 32) : CptState := s.cpt[n]

/-- A port's state replaced. -/
def State.setPort (s : State) (n : Fin 32) (c : CptState) : State := { s with cpt := s.cpt.set n c }

/-- A sticky flag of Port status set (R116). -/
def State.portFlag (s : State) (n : Fin 32) (b : Nat) : State := s.setBit Ix.cptPortStatus (n.val + 1) b

/-- A port's event (R114): a producer outside CLK_POS. -/
def State.portEvent (s : State) (n : Fin 32) (e : Nat) (own : Option (Nat × Nat)) (arg : Nat) : State :=
  s.cross (eventCode 8 n.val e) own arg

/-- The sticky flag a reason sets, where it has one (R100, R101, R116). -/
def reasonFlag (reason : Nat) : Option Nat :=
  if reason = rsOverspeed then some 10 else if reason = rsCrc then some 8 else if reason = rsFormat then some 7
  else if reason = rsPairDrop then some 9 else if reason = rsExpired then some 11 else none

/-- The bits per component of a pixel format (R88). -/
def formatDepth (f : Nat) : Nat :=
  match f with
  | 0 => 8 | 1 => 10 | 2 => 12 | 3 => 16 | 4 => 8 | 5 => 10 | 6 => 12 | 7 => 8 | 8 => 12 | 9 => 8 | _ => 12

/-- The rows per line of a pixel format (R88). -/
def formatRows (f : Nat) : Nat := if f = 7 ∨ f = 8 then 2 else if f = 9 ∨ f = 10 then 3 else 1

/-- The components at one pixel position of a pixel format: three of RGB, one per row of a multi-row format (R88). -/
def formatComponents (f : Nat) : Nat := if f = 4 ∨ f = 5 ∨ f = 6 then 3 else formatRows f

/-- The header format an image header must show, by the code of the Mono or RGB format of its depth (R88). -/
def formatHeader (f : Nat) : Nat :=
  match f with
  | 7 => 0 | 8 => 2 | 9 => 0 | 10 => 2
  | g => g

/-! ### Links -/

/-- The highest rate code up to a limit among a camera's rates (R90 step 4); 0 where there is none. -/
def bestRate : Nat → Nat → Nat
  | 0, _ => 0
  | l + 1, rates => if rates.testBit (l + 1) then l + 1 else bestRate l rates

/-- What discovery read is one camera with connections 0 to lane count − 1 (R90 step 3). -/
def connsMatch (lanes : Nat) (conns : List CxpConn) : Bool :=
  decide (conns.length = lanes) && (List.range lanes).all (fun k => conns.any (fun c => c.number == k)) &&
  conns.all (fun c => some c.identity == conns.head?.map (fun c => c.identity))

/-- The lanes and numbers of a camera's connections: its lane layout (R90, R115). -/
def connLayout (conns : List CxpConn) : List (Nat × Nat) := conns.map (fun c => (c.lane, c.number))

/-- A discovery attempt (R90): nothing found leaves the port searching; a camera that does not match, or is another than before,
is a mismatch (R115); else the rate is chosen, the connection configuration is written and training begins. DESIGN CHOICE: where no rate is
allowed by both the camera and the limit, the rate code is 0 and training goes on. -/
def State.discover (s : State) (n : Fin 32) (conns : List CxpConn) : State :=
  let sub := n.val + 1
  let lanes := s.rd Ix.cptLaneCount sub
  let st := s.rd Ix.cptLinkState sub
  let c := s.port n
  if !s.clocked || lanes = 0 || st = 2 || st = 3 then s
  else match conns with
    | [] => (s.wr Ix.cptLinkState sub 1)
    | x :: _ =>
      let same := match c.known with
        | none => true
        | some k => k == (x.identity, connLayout conns)
      if connsMatch lanes conns && same then
        let rates := conns.foldl (fun r c => r &&& c.rates) 0xFF
        let rate := bestRate (s.rd Ix.cptLinkRateLimit sub) rates
        ((s.setPort n { c with train := .first, rate := rate, found := some (x.identity, connLayout conns) }).wr Ix.cptLinkState sub 2).emit
          (.connectionConfig n.val rate lanes)
      else (s.wr Ix.cptLinkState sub 5).portFlag n 15

/-- A training fails (R91): the first failure backs off for the retry, the second returns to discovery. -/
def State.trainingFails (s : State) (n : Fin 32) : State :=
  let c := s.port n
  match c.train with
  | .first => s.setPort n { c with train := .backOff }
  | .retry =>
    ((((s.retryLasting 6).setPort n { c with train := .idle }).bumpSat Ix.cptTrainingFailures (n.val + 1) 1).portFlag n 16).wr
      Ix.cptLinkState (n.val + 1) 1
  | _ => s

/-- Training has locked and deskewed the group (R90 step 6); skew above the limit is a training failure (step 5). -/
def State.linkComesUp (s : State) (n : Fin 32) (skew : Nat) : State :=
  let sub := n.val + 1
  let c := s.port n
  if c.train = .first ∨ c.train = .retry then
    if s.rd Ix.cptLaneSkewLimit sub < skew then s.trainingFails n
    else
      let s := if c.train = .retry then s.retryTransient 6 n.val else s
      let t := (s.setPort n { c with train := .idle, resumed := false, heard := s.ns, known := c.found }).wr Ix.cptLinkState sub 3
      let t := (t.wr Ix.cptLinkRateInUse sub c.rate).wr Ix.cptCameraConnections sub (s.rd Ix.cptLaneCount sub)
      t.portEvent n 0 none 0
  else s

/-! ### Sending to the pipeline -/

/-- The pipeline a port delivers to (R86). -/
def State.pipelineOf (s : State) (n : Fin 32) : Fin 16 := Fin.ofNat 16 (s.rd Ix.cptPipeline (n.val + 1))

/-- An item goes to the port's pipeline. -/
def State.toPipeline (s : State) (n : Fin 32) (x : CamItem) : State :=
  let m := s.pipelineOf n
  { s with iplIn := s.iplIn.set m (s.iplIn[m] ++ [x]) }

/-- The strip-close record of the strip being sent goes to IPL, and CPTn_STRIP with it (R102, R112, R114). -/
def State.closeStrip (s : State) (n : Fin 32) (truncated : Bool) : State :=
  let c := s.port n
  match c.closing with
  | none => s
  | some r =>
    let t := s.setPort n { c with closing := none, long := 0, closed := some r.strip }
    ((t.toPipeline n (.close { r with long := c.long, truncated := truncated })).portEvent n 4 (some (r.lp0, r.time0))
      (r.strip % 2 ^ 32)).sample 12 n.val r.reasons.sum (some (r.lp0, r.time0))

/-- The reason counts of a strip with one more. -/
def countReason (rs : List Nat) (reason : Nat) : List Nat := rs.set reason (rs.getD reason 0 + 1)

/-- One resolved tag is sent in its line-number place (R101, R102): counted in the strip's record, with CPTn_MISSING at the first
marker of a run, and the strip closed after index S − 1. -/
def State.sendItem (s : State) (n : Fin 32) (x : Resolved) : State :=
  let S := s.strip
  let c := s.port n
  let strip := x.tag.line / S
  let r := match c.closing with
    | some r => r
    | none => { port := n.val, strip := strip, lines := 0, reasons := List.replicate 11 0, long := 0, lp0 := x.tag.lp,
                time0 := x.tag.time, timeLast := x.tag.time, truncated := false }
  let r := if x.tag.reason = 0 then { r with lines := r.lines + 1, timeLast := x.tag.time }
    else { r with reasons := countReason r.reasons x.tag.reason, timeLast := x.tag.time }
  let marker := decide (x.tag.reason ≠ 0)
  let t := s.setPort n { c with closing := some r, missing := marker, sendNext := some (x.tag.line + 1) }
  let t := if marker && !c.missing then t.portEvent n 2 (some (x.tag.lp, x.tag.time)) 0 else t
  let t := match x.samples with
    | some v => (t.toPipeline n (.line x.tag v)).bump Ix.cptLinesDelivered (n.val + 1) 1
    | none => (t.toPipeline n (.marker x.tag)).tally 0x12 n.val 1
  if x.tag.line % S + 1 = S then t.closeStrip n false else t

/-- A resolved tag put into line order. -/
def insertResolved (x : Resolved) : List Resolved → List Resolved
  | [] => [x]
  | y :: ys => if x.tag.line < y.tag.line then x :: y :: ys else y :: insertResolved x ys

/-- The resolved tags whose turn has come are sent, in line-number order (R102); after a truncation all that are there. -/
def State.sendResolved (s : State) (n : Fin 32) : Nat → State
  | 0 => s
  | fuel + 1 =>
    let c := s.port n
    match c.resolved with
    | [] => s
    | x :: xs =>
      if c.truncated || c.sendNext == some x.tag.line then
        ((s.setPort n { c with resolved := xs }).sendItem n x).sendResolved n fuel
      else s

/-- A tag is resolved: with a line's components, or retired with a reason that its counters count (R101). -/
def State.resolve (s : State) (n : Fin 32) (tag : Tag) (reason ttl : Nat) (frameStart frameEnd : Bool)
    (samples : Option (List Nat)) : State :=
  let c := s.port n
  let lt : LineTag := { line := tag.line, lp := tag.lp, time := tag.time, triggerToLine := ttl, port := n.val, reason := reason,
                        frameStart := frameStart, frameEnd := frameEnd, format := s.rd Ix.cptPixelFormat (n.val + 1),
                        width := s.rd Ix.cptLineWidth (n.val + 1),
                        frames := c.frames % 2 ^ 32 }
  let t := s.setPort n { c with resolved := insertResolved { tag := lt, samples := samples } c.resolved }
  let t := if reason = 0 then t else (t.bump Ix.cptMissingLines (n.val + 1) 1).bump (Ix.cptMissingLines + reason) (n.val + 1) 1
  t.sendResolved n (c.resolved.length + 1)

/-- The sticky flag that a reason sets is set (R100, R101, R116). -/
def State.flagReason (s : State) (n : Fin 32) (reason : Nat) : State :=
  match reasonFlag reason with
  | some b => s.portFlag n b
  | none => s

/-- A tag is retired with a reason (R101). -/
def State.retire (s : State) (n : Fin 32) (tag : Tag) (reason : Nat) : State :=
  (s.resolve n tag reason 0 false false none).flagReason n reason

/-- The tag of a rejected camera line is retired with a reason; its marker tells the first and the last line of a camera frame (R100, R102). -/
def State.reject (s : State) (n : Fin 32) (tag : Tag) (reason : Nat) (frameStart frameEnd : Bool) : State :=
  (s.resolve n tag reason 0 frameStart frameEnd none).flagReason n reason

/-- Several tags are retired with one reason, oldest first. -/
def State.retireAll (s : State) (n : Fin 32) (reason : Nat) : List Tag → State
  | [] => s
  | t :: ts => (s.retire n t reason).retireAll n reason ts

/-- Every pending tag is retired with a reason. -/
def State.retirePending (s : State) (n : Fin 32) (reason : Nat) : State :=
  let c := s.port n
  (s.setPort n { c with tags := [] }).retireAll n reason c.tags

/-- Whether a pending tag is older than the tag timeout, in TBU time (R99). -/
def State.overdue (s : State) (n : Fin 32) (t : Tag) : Bool :=
  decide (s.rd Ix.cptTagTimeout (n.val + 1) * 2 ^ 32 < s.clockNow - t.tbu)

/-- The overdue tags at the head of the FIFO are retired as EXPIRED (R99). -/
def State.retireExpired (s : State) (n : Fin 32) : State :=
  let c := s.port n
  let old := c.tags.takeWhile (fun t => s.overdue n t)
  (s.setPort n { c with tags := c.tags.drop old.length }).retireAll n rsExpired old

/-! ### Triggers and tags -/

/-- Whether a port pairs lines and makes tags: while it is Running or Draining, and its strip is not truncated (R93, R112). -/
def State.portTakes (s : State) (n : Fin 32) : Bool :=
  (s.runs (.cpt n) || s.drains (.cpt n)) && !(s.port n).truncated

/-- Why a trigger is withheld, by the smallest of the reasons that apply; 0 where it is sent (R97, R101). -/
def State.withhold (s : State) (n : Fin 32) : Nat :=
  let c := s.port n
  if s.rd Ix.cptLinkState (n.val + 1) ≠ 3 then rsLinkLost
  else if c.lastSent.any (fun t => decide (s.cycle < t + s.rd Ix.cptMinimumTriggerInterval (n.val + 1))) then rsOverspeed
  else if c.shortHold then rsShortFrame
  else if c.hold || c.needResume then rsWithheld
  else 0

/-- At a strip boundary the withholdings that last until one end (R104, R105, R115). -/
def CptState.boundary (c : CptState) (linkUp automatic : Bool) : CptState :=
  let resumes := c.needResume && linkUp && (automatic || c.resumed)
  { c with shortHold := false, hold := false, realigned := c.realigned || c.hold || resumes,
           needResume := c.needResume && !resumes }

/-- A trigger is sent: in packet mode a rising-edge packet, whose falling edge follows (R95, R96). -/
def State.sendTrigger (s : State) (n : Fin 32) : State :=
  let c := s.port n
  let t := s.setPort n { c with lastSent := some s.cycle, pulsesHigh := if s.pinMode n.val then c.pulsesHigh else c.pulsesHigh + 1 }
  if s.pinMode n.val then t else (t.emit (.triggerPacket n.val (s.rd Ix.cptHighSpeedUpconnection (n.val + 1) == 1) true (Config.triggerDelay t.free))).takeFree

/-- A tag joins the FIFO; a full FIFO retires its oldest with reason EXPIRED and sets TAG_OVF alone (R93). -/
def State.pushTag (s : State) (n : Fin 32) (tag : Tag) : State :=
  let c := s.port n
  let t := match c.tags with
    | old :: rest =>
      if 256 ≤ c.tags.length then ((s.setPort n { c with tags := rest }).resolve n old rsExpired 0 false false none).portFlag n 14 else s
    | [] => s
  let c := t.port n
  (t.setPort n { c with tags := c.tags ++ [tag] }).raiseTo Ix.cptTagFIFOHighWater (n.val + 1) (c.tags.length + 1)

/-- The SKIPPED markers of the line numbers from `line` on (R94): LP is the line number × 2^16, the stamp that of the hit. -/
def State.skipLines (s : State) (n : Fin 32) (time : Nat) : Nat → Nat → State
  | _, 0 => s
  | line, k + 1 =>
    (s.retire n { line := line, lp := line * 2 ^ 16, time := time, tbu := s.clockNow } rsSkipped).skipLines n time (line + 1) k

/-- A hit of a port's trigger comparator (R93 to R97, R104, R105, R112). Every line number from the next to tag up to the hit that has
no hit of its own is SKIPPED (R94, R102). Answers whether the trigger goes out. DESIGN CHOICE: a truncated port sends no
trigger until its next start point, an open gate or not (R97, R112). -/
def State.portHit (s : State) (n : Fin 32) (hit : SpcHit) : State × Bool :=
  let sub := n.val + 1
  let S := s.strip
  let line := hit.lp / 2 ^ 16
  let c := s.port n
  let lanes := s.rd Ix.cptLaneCount sub
  let crosses := decide ((line + 1 - hit.k) / S < line / S) || decide ((line + 1 - hit.k) % S = 0)
  let c := if crosses then c.boundary (s.rd Ix.cptLinkState sub == 3) (s.rd Ix.cptResumeMode sub == 1) else c
  let s := s.setPort n c
  if lanes = 0 then (s, false)
  else
    let last := if s.drains (.cpt n) then c.stopStrip.map (fun k => k * S + S - 1) else some line
    let from_ := if s.portTakes n then c.tagNext else none
    let create := from_.any (fun f => decide (f ≤ line)) && last.any (fun l => decide (line ≤ l))
    let due := !c.truncated && (create || decide (s.rd Ix.cptTriggerGate sub = 1))
    let reason := s.withhold n
    let sent := due && decide (reason = 0)
    let t := if sent then s.sendTrigger n else s
    let t := match from_, last with
      | some f, some l => if f < line then
            (t.setPort n { t.port n with tagNext := some line, stripNow := some (min (line - 1) l / S) }).skipLines n hit.time f
              (min line (l + 1) - f)
          else t
      | _, _ => t
    if create then
      let tag : Tag := { line := line, lp := hit.lp, time := hit.time, tbu := t.clockNow }
      let t := t.setPort n { t.port n with tagNext := some (line + 1), stripNow := some (line / S) }
      let c := t.port n
      if reason ≠ 0 then (t.retire n tag reason, sent)
      else if c.outOfStep && !c.realigned then (t.retire n tag rsWithheld, sent)
      else (t.pushTag n tag, sent)
    else (t, sent)

/-- The hits of a cycle reach the camera ports, the lower port first (R93, R107); answers the pins of pin-mode ports and whether their trigger
goes out (R96). -/
def State.portHits (s : State) (hits : List SpcHit) : List (Fin 32) → State × List (Nat × Bool)
  | [] => (s, [])
  | n :: ns =>
    let sub := n.val + 1
    match hits.find? (fun h => h.n == s.rd Ix.cptTriggerComparator sub) with
    | some hit =>
      let r := s.portHit n hit
      let pins := if s.rd Ix.cptLaneCount sub ≠ 0 && s.pinMode n.val then [(s.rd Ix.cptTriggerPin sub, r.2)] else []
      let r' := r.1.portHits hits ns
      (r'.1, pins ++ r'.2)
    | none => s.portHits hits ns

/-- All hits of a cycle, of one comparator each at most, reach the camera ports. A pin that several ports share is gated open when one of them
sends (R96). -/
def State.allHits (s : State) (hits : List SpcHit) : State × List (Nat × Bool) := s.portHits hits (List.finRange 32)

/-- The pins on which every port that shares them withholds its trigger (R96). -/
def withheldPins (pins : List (Nat × Bool)) : List Nat :=
  (pins.filter (fun p => !pins.contains (p.1, true))).map (fun p => p.1)

/-- A write of 1 to Resume counts where the link is up (R115). -/
def State.portResume (s : State) (n : Fin 32) : State :=
  if s.rd Ix.cptLinkState (n.val + 1) = 3 then s.setPort n { s.port n with resumed := true } else s

/-! ### Pairing -/

/-- The nanoseconds between a tag's stamp and now, in TBU time. -/
def State.sinceTag (s : State) (t : Tag) : Nat := (s.clockNow - t.tbu) / 2 ^ 32

/-- The trigger-to-line times of a paired line (R117). -/
def State.measureLine (s : State) (n : Fin 32) (ttl : Nat) (own : Option (Nat × Nat)) : State :=
  let sub := n.val + 1
  (((s.wr Ix.cptLastTriggerToLineTime sub ttl).raiseTo Ix.cptMaximumTriggerToLineTime sub ttl).wr
    Ix.cptMinimumTriggerToLineTime sub (min ttl (s.rd Ix.cptMinimumTriggerToLineTime sub))).sample 3 n.val ttl own

/-- A camera frame starts (R98, R105): it is bound to the strip of the head tag at index 0, or the port is out of step. DESIGN CHOICE: the count of R102
begins at the start point, and the first frame counts 1. -/
def State.frameStart (s : State) (n : Fin 32) : State :=
  let s := s.setPort n { s.port n with framePos := 0 }
  if !s.portTakes n then s
  else
    let c := s.port n
    let s := (s.setPort n { c with frames := c.frames + 1 }).retireExpired n
    let c := s.port n
    match c.tags.head? with
    | some t =>
      if t.line % s.strip = 0 then s.setPort n { c with frameStrip := some (t.line / s.strip), outOfStep := false }
      else ((s.setPort n { c with outOfStep := true, realigned := false }).portFlag n 13 |>.portEvent n 3 none 0).retirePending n rsWithheld
    | none => (s.setPort n { c with outOfStep := true, realigned := false }).portFlag n 13 |>.portEvent n 3 none 0

/-- A line's first packet takes a buffer slot, or finds both taken (R107). -/
def State.firstPacket (s : State) (n : Fin 32) : State :=
  let c := s.port n
  if c.slots < 2 then
    (s.setPort n { c with slots := c.slots + 1, incoming := c.incoming ++ [true] }).raiseTo Ix.cptPairBufferHighWater (n.val + 1)
      (c.slots + 1)
  else s.setPort n { c with incoming := c.incoming ++ [false] }

/-- A buffer slot is free again (R107). -/
def State.freeSlotOf (s : State) (n : Fin 32) : State :=
  let c := s.port n
  s.setPort n { c with slots := c.slots - 1 }

/-- A camera line completes (R98, R100, R101, R103, R105, R106, R107). `hasSlot` says whether it holds a buffer slot, which it
frees unless its pixels go on to the pipeline. -/
def State.pairLine (s : State) (n : Fin 32) (hasSlot extra crcError frameEnd : Bool) (header xSize : Nat) (samples : List Nat) :
    State :=
  let sub := n.val + 1
  let free (t : State) : State := if hasSlot then t.freeSlotOf n else t
  let fmt := s.rd Ix.cptPixelFormat sub
  let width := s.rd Ix.cptLineWidth sub
  if extra then (free s).bump Ix.cptUntriggeredLinesDiscarded sub 1 |>.portFlag n 12
  else
    let i := (s.port n).framePos
    let s := s.setPort n { s.port n with framePos := i + 1 }
    if !s.portTakes n then (free s).discard (.cpt n) 1
    else
      let s := s.retireExpired n
      let c := s.port n
      if c.outOfStep then (free s).bump Ix.cptOutOfStepLinesDiscarded sub 1
      else if s.strip ≤ i then
        ((free (s.setPort n { c with long := c.long + 1 })).bump Ix.cptLongFrameLinesDiscarded sub 1).portFlag n 6
      else match c.tags with
        | [] => ((free s).bump Ix.cptUntriggeredLinesDiscarded sub 1).portFlag n 12
        | t :: ts =>
          if some (t.line / s.strip) ≠ c.frameStrip then ((free s).bump Ix.cptUntriggeredLinesDiscarded sub 1).portFlag n 12
          else
            let ttl := min (s.sinceTag t) (2 ^ 32 - 1)
            let s := (s.setPort n { c with tags := ts }).measureLine n ttl (some (t.lp, t.time))
            let rows := formatRows fmt
            if crcError then (free s).reject n t rsCrc (i == 0) frameEnd
            else if header ≠ formatHeader fmt ∨ xSize ≠ rows * width ∨ samples.length ≠ formatComponents fmt * width then
              (free s).reject n t rsFormat (i == 0) frameEnd
            else if !hasSlot then s.reject n t rsPairDrop (i == 0) frameEnd
            else s.resolve n t 0 ttl (i == 0) frameEnd (some (samples.map (fun v => v % 2 ^ formatDepth fmt)))

/-- A completed camera line: the oldest line in transfer (R98, R107). -/
def State.lineComplete (s : State) (n : Fin 32) (extra crcError frameEnd : Bool) (header xSize : Nat) (samples : List Nat) : State :=
  let s := if (s.port n).incoming = [] then s.firstPacket n else s
  let c := s.port n
  let hasSlot := c.incoming.headD false
  (s.setPort n { c with incoming := c.incoming.drop 1 }).pairLine n hasSlot extra crcError frameEnd header xSize samples

/-- A camera frame ends (R104, R105): out of step, triggers are withheld to the next strip boundary; a frame that ends before its
strip closes it short. -/
def State.frameEnd (s : State) (n : Fin 32) : State :=
  let c := s.port n
  if !s.portTakes n then s
  else if c.outOfStep then s.setPort n { c with hold := true }
  else match c.frameStrip with
    | none => s
    | some fs =>
      if s.strip ≤ c.framePos then s
      else
        let inFrame (t : Tag) : Bool := t.line / s.strip == fs
        let s' := s.setPort n { c with tags := c.tags.filter (fun t => !inFrame t), shortHold := c.stripNow == some fs }
        ((s'.retireAll n rsShortFrame (c.tags.filter inFrame)).bumpSat Ix.cptStripsClosedShort (n.val + 1) 1).portFlag n 5

/-! ### Link loss and states -/

/-- An up link is lost (R92, R115). -/
def State.linkLost (s : State) (n : Fin 32) : State :=
  let sub := n.val + 1
  if s.rd Ix.cptLinkState sub ≠ 3 then s
  else
    let t := (((s.wr Ix.cptLinkState sub 4).wr Ix.cptLinkRateInUse sub 0).wr Ix.cptCameraConnections sub 0).portFlag n 4
    let t := (t.bumpSat Ix.cptLinkLossCount sub 1).portEvent n 1 none 0
    let c := t.port n
    (t.setPort n { c with needResume := true, resumed := false, train := .idle, incoming := [],
                          slots := c.slots - (c.incoming.count true) }).retirePending n rsLinkLost

/-- A used port begins to search, an unused one shows so (R90, R116). An up link is lost first. -/
def State.portSearches (s : State) (n : Fin 32) : State :=
  let t := s.linkLost n
  let u := t.setPort n { t.port n with train := .idle }
  u.wr Ix.cptLinkState (n.val + 1) (if u.rd Ix.cptLaneCount (n.val + 1) = 0 then 0 else 1)

/-- CXP discovery begins on every port (R90, R542). -/
def State.discoveryBegins (s : State) : State := (List.finRange 32).foldl (fun (t : State) n => t.portSearches n) s

/-- The SerDes stop: every link that is up is lost (R92). -/
def State.linksStop (s : State) : State := (List.finRange 32).foldl (fun (t : State) n => t.linkLost n) s

/-- A lane count written to a Stopped port (R85, R90): 0 leaves the port unused, another count begins the search where the port was unused. The
camera that was there before counts no more as the one that comes back (R115). -/
def State.laneCountWritten (s0 : State) (n : Fin 32) : State :=
  let sub := n.val + 1
  let s := s0.setPort n { s0.port n with found := none, known := none }
  if s.rd Ix.cptLaneCount sub = 0 then
    (((s.setPort n { s.port n with train := .idle }).wr Ix.cptLinkState sub 0).wr Ix.cptLinkRateInUse sub 0).wr Ix.cptCameraConnections sub 0
  else if s.rd Ix.cptLinkState sub = 0 && s.clocked then s.wr Ix.cptLinkState sub 1
  else s

/-- The drain timeout, ABORT and entry to Faulted cut the port's strip off (R112). -/
def State.portTruncate (s : State) (n : Fin 32) : State :=
  let t := s.setPort n { s.port n with truncated := true }
  let t := t.retirePending n rsTruncated
  let t := t.sendResolved n ((t.port n).resolved.length + 1)
  t.closeStrip n true

/-- The port enters Running at the strip that begins at a line (R93, R112). -/
def State.portStarts (s : State) (n : Fin 32) (line : Nat) : State :=
  let c := s.port n
  s.setPort n { c with tags := [], resolved := [], tagNext := some line, sendNext := some line, hold := false, shortHold := false,
                       outOfStep := false, realigned := false, truncated := false, frameStrip := none, frames := 0,
                       stripNow := some (line / s.strip), stopStrip := none, closed := none, closing := none, long := 0, missing := false }

/-- STOP lets the port run to the end of the current strip (R112). -/
def State.portStops (s : State) (n : Fin 32) : State :=
  let c := s.port n
  s.setPort n { c with stopStrip := c.stripNow }

/-- Whether the port's drain has ended: the strip of the STOP is closed, or there was none (R112). -/
def State.portDrained (s : State) (n : Fin 32) : Bool :=
  let c := s.port n
  decide (c.stopStrip = none) || decide (c.closed = c.stopStrip) || decide (s.rd Ix.cptLaneCount (n.val + 1) = 0)

/-- The lanes of a port's group: first and count (R85). -/
def State.lanes (s : State) (n : Nat) : Nat × Nat := (s.rd Ix.cptFirstLane (n + 1), s.rd Ix.cptLaneCount (n + 1))

/-- What ARM checks of a camera port (R85, R86, R89). -/
def State.portArmable (s : State) (n : Fin 32) : Bool :=
  let sub := n.val + 1
  let (first, count) := s.lanes n.val
  let lanesOk := count == 0 || (decide (first + count ≤ 64) && first / 8 == (first + count - 1) / 8 &&
    (List.range 32).all (fun m =>
      let (f, c) := s.lanes m
      m == n.val || c == 0 || decide (f + c ≤ first) || decide (first + count ≤ f)))
  let mates := (List.range 32).filter (fun m =>
    s.rd Ix.cptLaneCount (m + 1) != 0 && s.rd Ix.cptPipeline (m + 1) == s.rd Ix.cptPipeline sub)
  let pairOk := decide (mates.length < 2) ||
    (mates.length == 2 && mates.all (fun m => decide (s.rd Ix.cptLineWidth (m + 1) ≤ 8192)))
  let spc := s.rd Ix.cptTriggerComparator sub
  let pin := s.rd Ix.cptTriggerPin sub
  let pinOk := !s.pinMode n.val ||
    (s.rd Ix.pscOutputSource (pin + 1) == 1 && s.rd Ix.pscSourceNumber (pin + 1) == spc)
  lanesOk && pairOk && s.rd Ix.cptLineWidth sub % 16 == 0 && decide (s.rd Ix.cptLineWidth sub ≤ 16384) &&
  s.rd Ix.wpuSpacingMode (spc + 1) == 1 && s.rd Ix.wpuSpacingStep (spc + 1) == 0x10000 && pinOk

/-! ### Control tunnel and camera events -/

/-- What a control request must be: a read or a write, byte 1 zero, a length of 4 to 1,024 and the data of a write (R108). -/
def controlOk (v : Octets) : Bool :=
  let op := octAt v 0
  let len := leAt v 2 2
  octAt v 1 == 0 && decide (4 ≤ len) && decide (len ≤ 1024) && (op == 1 && v.length == 8 || op == 2 && v.length == 8 + len)

/-- A control command is sent to the camera (R108). -/
def State.controlSend (s : State) (n : Fin 32) (v : Octets) : State × Code :=
  if s.rd Ix.cptLinkState (n.val + 1) ≠ 3 then (s, .wrongState)
  else if !controlOk v then (s, .outOfRange)
  else if s.rd Ix.cptControlStatus (n.val + 1) = 1 then (s, .busy)
  else ((s.wr Ix.cptControlStatus (n.val + 1) 1).emit (.cameraControl n.val v), .ok)

/-- The camera's acknowledgement: status 2 done, or 4 where the camera answers an error; a late one is discarded (R109, R111).
DEDUCED: an acknowledgement code of 0 is success. DESIGN CHOICE: byte 0 of the response holds the code of Control status, 2 or 4. -/
def State.controlAnswer (s : State) (n : Fin 32) (ack : BitVec 8) (data : Octets) : State :=
  if s.rd Ix.cptControlStatus (n.val + 1) ≠ 1 then s
  else
    let st := if ack = 0 then 2 else 4
    (s.wr Ix.cptControlStatus (n.val + 1) st).wro Ix.cptControlResponse (n.val + 1)
      (leBytes 1 st ++ leBytes 1 ack.toNat ++ leBytes 2 data.length ++ data.take 1024)

/-- A control request ends unanswered (R111). DESIGN CHOICE: status 3 shows in Control status alone; Control response keeps what it held. -/
def State.controlTimesOut (s : State) (n : Fin 32) : State :=
  if s.rd Ix.cptControlStatus (n.val + 1) = 1 then (s.wr Ix.cptControlStatus (n.val + 1) 3).portFlag n 18 else s

/-- An event packet from the camera (R110). DESIGN CHOICE: where it has fewer than 16 bytes, the stored ones are followed by zeros. -/
def State.cameraEvent (s : State) (n : Fin 32) (packet : Octets) : State :=
  (((s.bump Ix.cptCameraEventCount (n.val + 1) 1).wro Ix.cptLastCameraEvent (n.val + 1) ((packet ++ zeros 16).take 16)).portFlag n
    17).portEvent n 5 none 0

/-- The live bits of Port status (R116): LINK_UP, STREAMING, WITHHOLDING, OUT_OF_STEP. DESIGN CHOICE: STREAMING shows while the link is up, the
port pairs lines, it is in step and a camera frame has been bound to a strip, between frames too. -/
def State.portLive (s : State) (n : Fin 32) : Nat :=
  let c := s.port n
  let up := s.rd Ix.cptLinkState (n.val + 1) == 3
  bitNat up + 2 * bitNat (up && s.portTakes n && !c.outOfStep && c.frameStrip.isSome) +
  4 * bitNat (s.rd Ix.cptLaneCount (n.val + 1) != 0 && (!up || c.shortHold || c.hold || c.needResume)) + 8 * bitNat c.outOfStep

end Sys2Proof.Machine
end

