-- ==== Sys2Proof/Machine/StxStore.lean ====
section
/-! DEFINITION. The stitcher's geometry and its alignment store (R153 to R158). -/

namespace Sys2Proof.Machine

/-- A camera's output width: its remap grid, or its line width (R136). -/
def State.outputWidth (s : State) (n : Nat) : Nat :=
  if s.rd Ix.iplOutputWidth (n + 1) = 0 then s.rd Ix.cptLineWidth (n + 1) else s.rd Ix.iplOutputWidth (n + 1)

/-- The output code of the stitched samples (R120). -/
def State.outputCode (s : State) : Nat := 16 + s.rd Ix.iplOutputSpace 0

/-- Whether a camera is included (R153). -/
def State.included (s : State) (n : Nat) : Bool :=
  s.rd Ix.cptLaneCount (n + 1) != 0 && s.rd Ix.stxCameraIncluded (n + 1) == 1

/-- A place put into rising order of its placement column (R153). -/
def insertPlace (p : StxPlace) : List StxPlace → List StxPlace
  | [] => [p]
  | q :: qs => if p.x < q.x then p :: q :: qs else q :: insertPlace p qs

/-- The included cameras in placement order, by the settings (R153). -/
def State.placesNow (s : State) : List StxPlace :=
  ((List.range 32).filter s.included).foldl
    (fun ps n => insertPlace { cam := n, x := s.rdI Ix.stxPlacementColumn (n + 1), width := s.outputWidth n } ps) []

/-- The end of a camera's span (R153). -/
def StxPlace.stop (p : StxPlace) : Int := p.x + p.width

/-- The local width W: the setting, or the end of the last camera's span (R154). -/
def State.localWidth (s : State) (ps : List StxPlace) : Nat :=
  if s.rd Ix.stxLocalWidth 0 ≠ 0 then s.rd Ix.stxLocalWidth 0
  else (ps.foldl (fun (e : Int) p => max e p.stop) 0).toNat

/-- The pairs of cameras that follow each other: the local seams (R153, R164). -/
def seamsOf : List StxPlace → List (StxPlace × StxPlace)
  | p :: q :: ps => (p, q) :: seamsOf (q :: ps)
  | _ => []

/-- The overlap of two cameras in columns (R153). -/
def overlapOf (p q : StxPlace) : Int := p.stop - q.x

/-- The cut of a seam (R162). -/
def cutOf (p q : StxPlace) : Int := q.x + overlapOf p q / 2

/-- The cuts of the local seams. -/
def cutsOf (ps : List StxPlace) : List Int := (seamsOf ps).map (fun s => cutOf s.1 s.2)

/-- The position, in placement order, of the camera on whose side of every cut a column lies (R162, R281). -/
def ownerOf (cuts : List Int) (c : Int) : Nat := cuts.countP (fun k => decide (k ≤ c))

/-- The port number of that camera. -/
def ownerCam (ps : List StxPlace) (c : Int) : Option Nat := (ps[ownerOf (cutsOf ps) c]?).map (fun p => p.cam)

/-- The bytes of the alignment store per output position (R158). -/
def State.storeBytes (s : State) : Nat := if s.rd Ix.iplOutputSpace 0 = 2 then 4 else 8

/-- The delay that counts for a camera's share of its bank: the larger of the one in force and the one written (R158). -/
def State.bankDelay (s : State) (n : Nat) : Int := max (s.rdI Ix.stxDelayInForce (n + 1)) (s.rdI Ix.stxMountDelay (n + 1))

/-- The bytes a pipeline's bank holds with the delays of some cameras raised to new ones (R158). -/
def State.bankUse (s : State) (m : Nat) (new : List (Nat × Int)) : Nat :=
  ((List.range 32).map (fun c =>
    if s.rd Ix.cptLaneCount (c + 1) ≠ 0 ∧ s.rd Ix.cptPipeline (c + 1) = m then
      let D := new.foldl (fun (D : Int) x => if x.1 = c then max D x.2 else D) (s.bankDelay c)
      (D / 65536 + 3).toNat * s.outputWidth c * s.storeBytes
    else 0)).sum

/-- The size of a bank (R158). -/
def bankSize : Nat := 8388608

/-- The bytes of a bank in use (R158). -/
def State.bankUseNow (s : State) (m : Nat) : Nat := s.bankUse m []

/-! ### Taking lines -/

/-- A camera's store. -/
def State.stxCam (s : State) (n : Fin 32) : StxCam := s.stx.cams[n]

/-- A camera's store replaced. -/
def State.setStxCam (s : State) (n : Fin 32) (c : StxCam) : State := { s with stx := { s.stx with cams := s.stx.cams.set n c } }

/-- Whether STX takes input: while it is Running or Draining (R22, R26). -/
def State.stxTakes (s : State) : Bool := s.runs .stx || s.drains .stx

/-- Whether a camera's line lies within what STX takes: from the start line on, and up to the strip a STOP ends (R157, R184). -/
def State.stxWants (s : State) (line : Nat) : Bool :=
  s.stx.next.isSome && decide (s.stx.first ≤ line) && s.stx.stopStrip.all (fun k => decide (line / s.strip ≤ k))

/-- STX takes a camera's output line or marker (R153, R26). -/
def State.stxTake (s : State) (n : Fin 32) (x : CamOut) : State :=
  if !s.stxTakes || !s.stxWants x.line then s.discard .stx 1
  else
    let c := s.stxCam n
    s.setStxCam n { c with lines := x :: c.lines, high := some (max (c.high.getD 0) x.line) }

/-- STX takes a camera's strip-close record (R184). -/
def State.stxClose (s : State) (n : Fin 32) (strip : Nat) : State :=
  if s.stxTakes then s.setStxCam n { s.stxCam n with closed := some strip } else s

end Sys2Proof.Machine
end

