-- ==== Sys2Proof/Machine/Pfc.lean ====
section
/-! DEFINITION. The profile filter chain and its streaks (R318 to R343). -/

namespace Sys2Proof.Machine

/-- An integer clamped to 32 bits (PFC's values after the CIC). -/
def clamp32 (i : Int) : Int := clampInt (-2147483648) 2147483647 i

/-! ### Figures of the structure -/

/-- R1 × F, the decimation before the halfbands. -/
def State.pfcRF (s : State) : Nat := s.rd Ix.pfcCICDecimation 0 * s.rd Ix.pfcFIRDecimation 0

/-- The total decimation R_tot (R325). -/
def State.pfcRtot (s : State) : Nat := s.pfcRF * 2 ^ s.rd Ix.pfcHalfbandStages 0

/-- The group delay G in LP units (R326). -/
def State.pfcDelay (s : State) : Nat :=
  let n := s.rd Ix.pfcCICOrder 0
  let r := s.rd Ix.pfcCICDecimation 0
  (n * (r - 1) * 2 ^ 16) / 2 + ((s.rd Ix.pfcFIRTaps 0 - 1) * r * 2 ^ 16) / 2 +
    7 * s.pfcRF * (2 ^ s.rd Ix.pfcHalfbandStages 0 - 1) * 2 ^ 16

/-- The outputs until a delay line holds only settled values, Q (R329). -/
def State.pfcQ (s : State) : Nat :=
  let r := s.pfcRtot * 2 ^ 16
  (2 * s.pfcDelay + r - 1) / r + 1

/-- The bins of the local width (R319). -/
def State.pfcBins (s : State) (w : Nat) : Nat := (w + s.rd Ix.pfcBinWidth 0 - 1) / s.rd Ix.pfcBinWidth 0

/-- A camera's phase delay P_n as ARM takes it (R321). -/
def State.pfcPhase (s : State) (n : Nat) : Nat :=
  if s.rd Ix.pfcPhaseDelay (n + 1) = 0xFFFF then ((s.rdI Ix.stxDelayInForce (n + 1) + 32768) / 65536).toNat
  else s.rd Ix.pfcPhaseDelay (n + 1)

/-- The camera of a bin: that of its first column (R319). -/
def binCam (ps : List StxPlace) (width b : Nat) : Option Nat := ownerCam ps (b * width : Nat)

/-- The entries of the phase store that the bins take (R321). -/
def State.phaseStore (s : State) (ps : List StxPlace) : Nat :=
  ((List.range (s.pfcBins (s.localWidth ps))).map (fun b =>
    match binCam ps (s.rd Ix.pfcBinWidth 0) b with
    | some n => (s.pfcPhase n + s.pfcRtot - 1) / s.pfcRtot + 1
    | none => 1)).sum

/-- What ARM checks of PFC (R319, R321). -/
def State.pfcArmable (s : State) : Bool :=
  let ps := s.placesNow
  decide (s.pfcBins (s.localWidth ps) ≤ 65536) && decide (s.phaseStore ps ≤ 4194304)

/-- ARM of PFC takes the cameras' places and phase delays, and shows the bins and the phase store (R319, R321). -/
def State.pfcArms (s : State) : State :=
  let ps := s.placesNow
  let t : State := { s with pfc := { s.pfc with places := ps, width := s.localWidth ps, phase := (List.range 32).map s.pfcPhase } }
  (t.wr Ix.pfcBinsInUse 0 (s.pfcBins (s.localWidth ps))).wr Ix.pfcPhaseStoreUse 0 (s.phaseStore ps)

/-- An empty chain (R320, R339). -/
def State.emptyBin (s : State) : PfcBin :=
  let n := s.rd Ix.pfcCICOrder 0
  let h := List.replicate (s.rd Ix.pfcHalfbandStages 0) (List.replicate 15 (0 : Int))
  { x := 0, integ := List.replicate n 0, comb := List.replicate n 0, y1 := List.replicate (s.rd Ix.pfcFIRTaps 0) 0,
    hb0 := h, hb1 := h, base := none, state := 0 }

/-- PFC enters Running at the strip that begins with a line: delay lines, phase store, baselines and pool are empty (R339). Events on their way
to CLS stay (R332), and so do the bank in force, a fade that runs and a request that waits (R336; DESIGN CHOICE for the last two, of which the
spec says nothing). -/
def State.pfcStarts (s : State) (line : Nat) : State :=
  let p := s.pfc
  { s with pfc := { p with from_ := line, due := [], lines := Vector.replicate 32 [], outputs := 0, streaks := [], cont := [],
                           overflow := none, last := none, stopLine := none,
                           bins := List.replicate (s.rd Ix.pfcBinsInUse 0) s.emptyBin } }

/-! ### The chain of a bin -/

/-- Integrators after one line's bin value, modulo 2^72 (R322). -/
def integrate : Nat → List Nat → List Nat
  | _, [] => []
  | x, i :: is => let v := (i + x) % 2 ^ 72; v :: integrate v is

/-- Combs after a decimated integrator value: the comb sum and the delays (R322). -/
def combs : Nat → List Nat → Nat × List Nat
  | x, [] => (x, [])
  | x, c :: cs => let r := combs ((x + 2 ^ 72 - c) % 2 ^ 72) cs; (r.1, x :: r.2)

/-- The smallest s with 2^s not below a number: s = ceil(log2 n) (R322). -/
def log2Ceil (n : Nat) : Nat := if 2 ^ n.log2 = n then n.log2 else n.log2 + 1

/-- The CIC's output from its comb sum (R322). -/
def cicOut (n r c : Nat) : Int := clamp32 (roundDiv ((c * 256 : Nat) : Int) (2 ^ log2Ceil (r ^ n)))

/-- A filter's sum over a delay line, newest first (R323). -/
def firSum : List Int → List Int → Int
  | h :: hs, x :: xs => h * x + firSum hs xs
  | _, _ => 0

/-- The 32-bit signed numbers of a string, `n` of them. -/
def i32s (bs : Octets) : Nat → List Int
  | 0 => []
  | n + 1 => leInt bs 0 4 :: i32s (bs.drop 4) n

/-- A halfband stage's output over its delay line of 15 inputs, newest first (R324). -/
def halfbandOut (a : List Int) (x : List Int) : Int :=
  let tap (j : Nat) : Int := a.getD (j - 1) 0 * (x.getD (7 + (2 * j - 1)) 0 + x.getD (7 - (2 * j - 1)) 0)
  clamp32 (roundDiv (2 ^ 29 * x.getD 7 0 + (tap 1 + tap 2 + tap 3 + tap 4)) (2 ^ 30))

/-- The halfband stages of a bank after one input: the inputs so far say which stages put out (R324). `k` counts the stage's inputs by
the line number that ends them. -/
def halfbands (a : List Int) : Nat → Int → List (List Int) → List (List Int) × Option Int
  | _, x, [] => ([], some x)
  | k, x, d :: ds =>
    let d' := (x :: d).take 15
    if k % 2 = 0 then
      let r := halfbands a (k / 2) (halfbandOut a d') ds
      (d' :: r.1, r.2)
    else (d' :: ds, none)

/-- One line through a bin's chain (R320 to R325): `l` is the stitched line number, `v` the bin value or none where the line is empty.
The output of both banks where the line ends a window, before the gain. -/
def State.binLine (s : State) (fir0 fir1 a0 a1 : List Int) (b : PfcBin) (l : Nat) (v : Option Nat) :
    PfcBin × Option (Int × Int) :=
  let x := v.getD b.x
  let r := s.rd Ix.pfcCICDecimation 0
  let f := s.rd Ix.pfcFIRDecimation 0
  let integ := integrate x b.integ
  let b := { b with x := x, integ := integ }
  if (l + 1) % r ≠ 0 then (b, none)
  else
    let c := combs (integ.getLastD 0) b.comb
    let y1 := (cicOut (s.rd Ix.pfcCICOrder 0) r c.1 :: b.y1).take (s.rd Ix.pfcFIRTaps 0)
    let b := { b with comb := c.2, y1 := y1 }
    if (l + 1) / r % f ≠ 0 then (b, none)
    else
      let k := (l + 1) / (r * f)
      let h0 := halfbands a0 k (clamp32 (roundDiv (firSum fir0 y1) (2 ^ 30))) b.hb0
      let h1 := halfbands a1 k (clamp32 (roundDiv (firSum fir1 y1) (2 ^ 30))) b.hb1
      let b := { b with hb0 := h0.1, hb1 := h1.1 }
      match h0.2, h1.2 with
      | some y, some z => (b, some (y, z))
      | _, _ => (b, none)

/-! ### Bin values -/

/-- The bin value of a camera line: the floor of the mean over the bin's usable columns, none where it is empty (R318 to R320). -/
def binValue (ps : List StxPlace) (place : StxPlace) (bw w mask b : Nat) (l : PfcLine) : Option Nat :=
  match l.plane with
  | none => none
  | some p =>
    let cuts := cutsOf ps
    let cols := (List.range bw).map (fun i => b * bw + i)
    let usable := cols.filterMap (fun (c : Nat) =>
      let j := (c : Int) - place.x - l.shift
      if c < w ∧ 0 ≤ j ∧ j < place.width ∧ (ps[ownerOf cuts c]?).map (fun q => q.cam) = some place.cam then
        let x := pxAt p j.toNat
        if x.f &&& mask = 0 then some x.v else none
      else none)
    if usable = [] then none else some (usable.sum / usable.length)

/-- PFC takes a camera's output line as STX receives it (R318). -/
def State.pfcTake (s : State) (n : Fin 32) (x : CamOut) : State :=
  if s.runs .pfc || s.drains .pfc then
    let l : PfcLine := { line := x.line, shift := (s.rdI Ix.stxShiftInForce (n.val + 1) + 32768) / 65536,
                         plane := x.planes.map (fun ps => ps.getD (s.rd Ix.pfcChannel 0) []) }
    { s with pfc := { s.pfc with lines := s.pfc.lines.set n (s.pfc.lines[n] ++ [l]) } }
  else s

/-- The values in force of PFC's RWB objects (R330). -/
def State.pfcSet (s : State) : PfcSet where
  mask := s.rdf Ix.pfcColumnExcludeMask 0
  on := s.rdf Ix.pfcOnThreshold 0
  off := s.rdf Ix.pfcOffThreshold 0
  polarity := s.rdf Ix.pfcPolarity 0
  report := s.rdf Ix.pfcStreakReportLength 0
  halfWidth := s.rdf Ix.pfcReferenceHalfWidth 0
  guard := s.rdf Ix.pfcReferenceGuard 0
  time := s.rdf Ix.pfcBaselineTimeConstant 0
  empty := s.rdf Ix.pfcEmptyLimit 0

/-- The RWB objects of PFC come into force together (R16, R330). -/
def State.pfcBoundary (s : State) : State :=
  s.forceAll 0 [Ix.pfcColumnExcludeMask, Ix.pfcOnThreshold, Ix.pfcOffThreshold, Ix.pfcPolarity, Ix.pfcStreakReportLength,
    Ix.pfcReferenceHalfWidth, Ix.pfcReferenceGuard, Ix.pfcBaselineTimeConstant, Ix.pfcEmptyLimit]

/-- PFC takes a stitched line's header from STX (R318): at a strip's first line its settings come into force, and a line that ends a
window makes an output due. When STX has left Running, PFC forms no further output (R339). -/
def State.pfcHeader (s : State) (line time : Nat) (truncated : Bool) : State :=
  let takes := s.runs .pfc || (s.drains .pfc && s.pfc.stopLine.all (fun e => decide (line ≤ e)))
  if !takes then s.discard .pfc 1
  else
    let t := if line % s.strip = 0 then s.pfcBoundary else s
    let due := (line + 1) % s.pfcRtot == 0 && s.runs .stx && !truncated && decide (s.pfc.from_ ≤ line)
    let p := t.pfc
    { t with pfc := { p with last := some line,
                             due := if due then p.due ++ [{ line := line, time := time, set := t.pfcSet }] else p.due } }

/-! ### Streaks -/

/-- The conversion of |e| to D (R334). -/
def streakD (space channel : Nat) (a : Nat) : Nat := if space = 1 ∧ channel = 0 then a * 100 / 65535 else a / 256

/-- The conversion of e to contrast (R334). -/
def streakContrast (space channel : Nat) (e : Int) : Int :=
  if space = 1 then (if channel = 0 then Int.tdiv (e * 100) 65535 else Int.tdiv e 256) else Int.tdiv e 512

/-- The streak event (R333). -/
def State.streakEvent (s : State) (k : Streak) (contNext truncated : Bool) : Octets :=
  let p := s.pfc
  let bw := s.rd Ix.pfcBinWidth 0
  let space := s.rd Ix.iplOutputSpace 0
  let ch := s.rd Ix.pfcChannel 0
  let braid := (List.range 4).any (fun n => s.rd Ix.brdPortRole (n + 1) != 0)
  let edge := braid && (k.low == 0 || k.high + 1 == p.bins.length)
  let flags := bitNat (!k.dark) + 2 * bitNat k.dark + 4 * bitNat k.contPrev + 8 * bitNat contNext + 16 * bitNat truncated +
    32 * bitNat edge + 64 * bitNat k.fade
  let base := s.rd Ix.stxColumnBase 0
  let c := clampInt (-32768) 32767 (streakContrast space ch (Int.tdiv k.sum k.count))
  leBytes 2 0x0008 ++ leBytes 1 1 ++ leBytes 1 flags ++ leBytes 2 (min 65535 (k.high - k.low + 1)) ++
  leBytes 2 (min 65535 k.outputs) ++ leBytes 8 k.pFirst ++ leBytes 8 k.pLast ++ leBytes 4 (k.low * bw + base) ++
  leBytes 4 (min (k.high * bw + bw - 1) (p.width - 1) + base) ++ leBytes 8 k.time ++
  leBytes 2 (min 65535 (streakD space ch k.maxAbs)) ++ leBytes 2 (min 65535 (streakD space ch (k.sumAbs / k.count))) ++
  leBytes 2 (toPattern 16 c) ++ leBytes 1 k.bank ++ leBytes 1 0

/-- The runs of bins in one state: first and last bin, and whether dark (R331). -/
def runsOf : Nat → List Nat → List (Bool × Nat × Nat)
  | _, [] => []
  | b, st :: rest =>
    match runsOf (b + 1) rest with
    | (d, lo, hi) :: more =>
      if st = 0 then (d, lo, hi) :: more
      else if lo = b + 1 ∧ d = (st == 2) then (d, b, hi) :: more else (st == 2, b, b) :: (d, lo, hi) :: more
    | [] => if st = 0 then [] else [(st == 2, b, b)]

/-- Whether a run connects to a streak by its runs at the previous output (R331). -/
def connects (dark : Bool) (a b : Nat) (k : Streak) (old : List (Nat × Nat)) : Bool :=
  k.dark == dark && old.any (fun r => decide (a ≤ r.2 + 1) && decide (r.1 ≤ b + 1))

/-- Two streaks merged: the survivor is the one with the lower first p, on a tie the one with the lower bin (R331). -/
def mergeStreaks (x y : Streak) : Streak :=
  let yFirst := decide (y.pFirst < x.pFirst) || (y.pFirst == x.pFirst && decide (y.low < x.low))
  let k := if yFirst then y else x
  { k with low := min x.low y.low, high := max x.high y.high, runs := x.runs ++ y.runs, outputs := max x.outputs y.outputs,
           maxAbs := max x.maxAbs y.maxAbs, sumAbs := x.sumAbs + y.sumAbs, sum := x.sum + y.sum, count := x.count + y.count,
           contPrev := x.contPrev || y.contPrev, fade := x.fade || y.fade }

/-- A run joins a streak: its bins' deviations are gathered (R334). `es` gives e per bin, none where the bin's output is invalid. -/
def joinRun (k : Streak) (a b pNow : Nat) (es : List (Option Int)) (fade : Bool) (bank : Nat) : Streak :=
  let vs := ((es.drop a).take (b - a + 1)).filterMap id
  { k with low := min k.low a, high := max k.high b, runs := k.runs ++ [(a, b)], pLast := pNow,
           maxAbs := vs.foldl (fun m e => max m e.natAbs) k.maxAbs, sumAbs := k.sumAbs + (vs.map Int.natAbs).sum,
           sum := k.sum + vs.foldl (fun t e => t + e) 0, count := k.count + vs.length, fade := k.fade || fade, bank := bank }

/-- One run at an output (R331): it joins the streaks it connects to, merged into one, or opens one from the pool of 256. The list
`open_` pairs each streak with its runs at the previous output; a streak that goes on one whose report was full takes that one's runs for its
own, so that all its runs come to the one new context (R332). -/
def State.streakRun (s : State) (pNow time line : Nat) (es : List (Option Int)) (fade : Bool)
    (open_ : List (Streak × List (Nat × Nat))) (r : Bool × Nat × Nat) : State × List (Streak × List (Nat × Nat)) :=
  let (dark, a, b) := r
  match open_.filter (fun x => connects dark a b x.1 x.2) with
  | x :: xs =>
    let rest := open_.filter (fun x => !connects dark a b x.1 x.2)
    let k := xs.foldl (fun k y => mergeStreaks k y.1) x.1
    (s, rest ++ [(joinRun k a b pNow es fade (s.rd Ix.pfcActiveBank 0), x.2 ++ xs.flatMap (fun y => y.2))])
  | [] =>
    if 256 ≤ open_.length + s.pfc.ended.length then
      let t := (s.bump Ix.pfcRunsDropped 0 1).setBit Ix.pfcFilterStatus 0 4
      let strip := line / s.strip
      if s.pfc.overflow = some strip then (t, open_)
      else (({ t with pfc := { t.pfc with overflow := some strip } } : State).cross (eventCode 17 0 2) none 0, open_)
    else
      let cont := s.pfc.cont.filter (fun c => c.1 == dark && c.2.any (fun r => decide (a ≤ r.2 + 1) && decide (r.1 ≤ b + 1)))
      let k : Streak := { dark := dark, pFirst := pNow, time := time, pLast := pNow, low := a, high := b, runs := [], outputs := 0,
                          maxAbs := 0, sumAbs := 0, sum := 0, count := 0, contPrev := !cont.isEmpty, fade := false, bank := 0 }
      (s.cross (eventCode 17 0 0) (some (pNow, time)) a, open_ ++ [(joinRun k a b pNow es fade (s.rd Ix.pfcActiveBank 0), cont.flatMap (fun c => c.2))])

/-- The runs of an output in turn (R331). -/
def State.streakRuns (s : State) (pNow time line : Nat) (es : List (Option Int)) (fade : Bool) :
    List (Bool × Nat × Nat) → List (Streak × List (Nat × Nat)) → State × List (Streak × List (Nat × Nat))
  | [], open_ => (s, open_)
  | r :: rs, open_ =>
    let t := s.streakRun pNow time line es fade open_ r
    t.1.streakRuns pNow time line es fade rs t.2

/-- A streak ends: its event waits for the FIFO and PFC_STREAK_END is sent; with Event copy it goes to SQ too (R332, R335). -/
def State.endStreak (s : State) (k : Streak) (contNext truncated : Bool) : State :=
  let ev := s.streakEvent k contNext truncated
  let t : State := { s with pfc := { s.pfc with ended := s.pfc.ended ++ [ev] } }
  let t := (t.bump Ix.pfcStreaksReported 0 1).cross (eventCode 17 0 1) (some (k.pLast, k.time)) k.low
  if s.rd Ix.pfcEventCopy 0 = 1 then t.push sqIx fromPfc false ev else t

/-- Several streaks end. -/
def State.endStreaks (s : State) (contNext truncated : Bool) : List Streak → State
  | [] => s
  | k :: ks => (s.endStreak k contNext truncated).endStreaks contNext truncated ks

/-- The open streaks shown (R331, R332). -/
def State.showStreaks (s : State) : State := s.wr Ix.pfcOpenStreaks 0 (s.pfc.streaks.length + s.pfc.ended.length)

/-- The streaks of an output (R331, R332). -/
def State.streaksOf (s : State) (line time : Nat) (report : Nat) (es : List (Option Int)) (fade : Bool) : State :=
  let pNow := line * 2 ^ 16 - s.pfcDelay
  let start := s.pfc.streaks.map (fun k => ({ k with runs := [] }, k.runs))
  let r := s.streakRuns pNow time line es fade (runsOf 0 (s.pfc.bins.map (fun b => b.state))) start
  let counted := r.2.map (fun x => { x.1 with outputs := x.1.outputs + 1 })
  let gone := (counted.filter (fun k => k.runs.isEmpty)).map (fun k => { k with outputs := k.outputs - 1 })
  let full := counted.filter (fun k => !k.runs.isEmpty && decide (report ≤ k.outputs))
  let rest := counted.filter (fun k => !k.runs.isEmpty && decide (k.outputs < report))
  let t : State := { r.1 with pfc := { r.1.pfc with streaks := rest, cont := full.map (fun k => (k.dark, k.runs)) } }
  ((t.endStreaks false false gone).endStreaks true false full).showStreaks

/-! ### Outputs -/

/-- The mean's floor of a list, 0 of none. -/
def meanFloor (ys : List Int) : Int := if ys = [] then 0 else ys.foldl (fun a y => a + y) 0 / (ys.length : Int)

/-- The valid neighbours' values of the cross-web reference (R328, R329). -/
def neighbours (ys : List (Option Int)) (g k b : Nat) : List Int :=
  let lo := b - (g + k)
  ((List.range (2 * (g + k) + 1)).map (fun i => lo + i)).filterMap (fun j =>
    let d := if j ≤ b then b - j else j - b
    if g < d ∧ d ≤ g + k then (ys.getD j none) else none)

/-- A bin's decision at a valid output: the new state by the thresholds (R330). -/
def streakState (set : PfcSet) (st : Nat) (e : Int) : Nat :=
  if st = 1 then (if e < set.off then 0 else 1)
  else if st = 2 then (if -(set.off : Int) < e then 0 else 2)
  else if set.polarity.testBit 0 && decide ((set.on : Int) ≤ e) then 1
  else if set.polarity.testBit 1 && decide (e ≤ -(set.on : Int)) then 2 else 0

/-- A bin at an output (R328 to R330): the bin after it, and e where the output is valid. `ys` are the outputs of the bins that count
as valid neighbours. -/
def decideBin (set : PfcSet) (ys : List (Option Int)) (i : Nat) (b : PfcBin) : PfcBin × Option Int :=
  match ys.getD i none with
  | none => (b, none)
  | some y =>
    let ns := neighbours ys set.guard set.halfWidth i
    if set.halfWidth ≠ 0 ∧ ns = [] then (b, none)
    else
      let r := clamp32 (y - meanFloor ns)
      let beta := b.base.getD r
      let e := clamp32 (r - beta)
      let st := streakState set b.state e
      let base := if st = 0 then clamp32 (beta + (r - beta + 2 ^ (set.time - 1)) / 2 ^ set.time) else beta
      ({ b with state := st, base := some base }, some e)

/-- The lines of a window for a bin (R320, R321): the bin's lines from stitched line `from_` to `to_`, through its chain. Answers the
bin, the last output of both banks and the number of empty lines. -/
def State.binWindow (s : State) (fir0 fir1 a0 a1 : List Int) (value : Nat → Option Nat) (from_ : Nat) :
    Nat → PfcBin → PfcBin × Option (Int × Int) × Nat
  | 0, b => (b, none, 0)
  | k + 1, b =>
    let r := s.binWindow fir0 fir1 a0 a1 value from_ k b
    let v := value (from_ + k)
    let t := s.binLine fir0 fir1 a0 a1 r.1 (from_ + k) v
    (t.1, t.2, r.2.2 + (if v = none then 1 else 0))

/-- A bin's chain up to an output (R319 to R325). -/
def State.binOutput (s : State) (due : PfcDue) (i : Nat) (b : PfcBin) : PfcBin × Option (Int × Int) × Nat :=
  let p := s.pfc
  let bw := s.rd Ix.pfcBinWidth 0
  let taps := s.rd Ix.pfcFIRTaps 0
  let value (l : Nat) : Option Nat :=
    match binCam p.places bw i with
    | none => none
    | some n =>
      match p.places.find? (fun q => q.cam == n), (p.lines.toList.getD n []).find? (fun x => x.line + p.phase.getD n 0 == l) with
      | some place, some x => binValue p.places place bw p.width due.set.mask i x
      | _, _ => none
  s.binWindow (i32s (s.rdo Ix.pfcFIRCoefficients 1) taps) (i32s (s.rdo Ix.pfcFIRCoefficients 2) taps)
    (i32s (s.rdo Ix.pfcHalfbandCoefficients 1) 4) (i32s (s.rdo Ix.pfcHalfbandCoefficients 2) 4) value p.from_
    (due.line + 1 - p.from_) b

/-- The output gain of a bank applied (R325). -/
def State.bankOut (s : State) (bank : Nat) (y : Int × Int) : Int :=
  clamp32 (roundDiv ((if bank = 0 then y.1 else y.2) * s.rd Ix.pfcOutputGain (bank + 1)) (2 ^ 28))

/-- The output value of the bank in force, or of the fade (R337). -/
def State.profileOut (s : State) (y : Int × Int) : Int :=
  let bank := s.rd Ix.pfcActiveBank 0
  let new := s.bankOut bank y
  match s.pfc.fade with
  | some (j, f) =>
    let old := s.bankOut (1 - bank) y
    old + Int.tdiv ((new - old) * (j + 1)) (f + 1)
  | none => new

/-- A due swap takes effect at this output (R337, R338). -/
def State.swapEffect (s : State) : State :=
  let target := 1 - s.rd Ix.pfcActiveBank 0
  if s.pfc.swap && decide (s.pfc.fade = none) && s.rd Ix.pfcBankSettleCount (target + 1) == 0 then
    let f := s.rd Ix.pfcFadeLength 0
    let t : State := { s with pfc := { s.pfc with swap := false, fade := if f = 0 then none else some (0, f) } }
    let t := ((t.wr Ix.pfcActiveBank 0 target).bump Ix.pfcSwaps 0 1).clearBit Ix.pfcFilterStatus 0 2
    (t.putBit Ix.pfcFilterStatus 0 1 (f != 0)).cross (eventCode 17 0 3) none 0
  else s

/-- The fade moves on after an output, or ends (R337). -/
def State.fadeStep (s : State) : State :=
  match s.pfc.fade with
  | none => s
  | some (j, f) =>
    if j + 1 < f then { s with pfc := { s.pfc with fade := some (j + 1, f) } }
    else
      let t : State := { s with pfc := { s.pfc with fade := none } }
      (t.clearBit Ix.pfcFilterStatus 0 1).cross (eventCode 17 0 4) none 0

/-- The banks settle by one output (R336). -/
def State.settleBanks (s : State) : State :=
  let down (t : State) (b : Nat) : State := t.wr Ix.pfcBankSettleCount b (t.rd Ix.pfcBankSettleCount b - 1)
  down (down s 1) 2

/-- Whether a camera's delay has moved away from its phase delay (R321). -/
def State.phaseStale (s : State) : Bool :=
  s.pfc.places.any (fun q =>
    decide ((s.pfcRtot * 65536 / 4 : Nat) < (s.rdI Ix.stxDelayInForce (q.cam + 1) - (s.pfc.phase.getD q.cam 0 * 65536 : Nat)).natAbs))

/-- Whether an output exists for every bin: the camera lines that it is formed from have come (R321). DEDUCED: where STX has formed the stitched line
that takes a camera's last such line by its delay in force, a line that has not come is missing, and the output does not wait for it. -/
def State.pfcComplete (s : State) (due : PfcDue) : Bool :=
  s.pfc.places.all (fun q =>
    let p := s.pfc.phase.getD q.cam 0
    (s.pfc.lines.toList.getD q.cam []).any (fun x => decide (due.line ≤ x.line + p)) ||
    s.pfc.last.any (fun l => decide ((((due.line : Int) - p) * 65536 + s.rdI Ix.stxDelayInForce (q.cam + 1)) ≤ (l * 65536 : Nat))))

/-- The next output that is due is formed, once it exists for every bin (R321 to R332, R337). -/
def State.pfcOutput (s : State) : State :=
  match s.pfc.due with
  | [] => s
  | due :: rest =>
    if !s.pfcComplete due then s else
    let s := s.swapEffect
    let outs := s.pfc.bins.mapIdx (s.binOutput due)
    let settling := decide (s.pfc.outputs < s.pfcQ + s.rd Ix.pfcBaselineSettle 0)
    let limit := due.set.empty * s.pfcRtot / 256
    let ys := outs.map (fun o =>
      match o.2.1 with
      | some y => if settling || decide (limit < o.2.2) then none else some (s.profileOut y)
      | none => none)
    let bins := (outs.map (fun o => o.1)).mapIdx (decideBin due.set ys)
    let es := bins.map (fun x => x.2)
    let stale := s.phaseStale
    let lines := s.pfc.lines.mapFinIdx (fun n ls _ => ls.filter (fun x => decide (due.line < x.line + s.pfc.phase.getD n 0)))
    let t : State := { s with pfc := { s.pfc with due := rest, bins := bins.map (fun x => x.1), from_ := due.line + 1, lines := lines,
                                                  outputs := s.pfc.outputs + 1 } }
    let t := (t.bump Ix.pfcOutputsProduced 0 1).bump Ix.pfcInvalidOutputs 0 (es.count none)
    let t := t.wro Ix.pfcProfileSnapshot 0 (es.flatMap (fun e => leBytes 4 (toPattern 32 (e.getD 0))))
    let t := if stale then t.setBit Ix.pfcFilterStatus 0 6 else t
    let t := t.streaksOf due.line due.time due.set.report es s.pfc.fade.isSome
    t.fadeStep.settleBanks

/-! ### Streak events to CLS -/

/-- An ended streak's event enters the FIFO of 64 events to CLS (R332). -/
def State.streakEnqueue (s : State) : State :=
  match s.pfc.ended with
  | [] => s
  | e :: es =>
    if s.pfc.fifo.length < 64 then ({ s with pfc := { s.pfc with ended := es, fifo := s.pfc.fifo ++ [e] } } : State).showStreaks else s

/-- Every open streak ends with TRUNCATED: after the drained strip's last line, on the drain timeout, on ABORT and on entry to Faulted
(R339). -/
def State.pfcTruncate (s : State) : State :=
  let ks := s.pfc.streaks
  let t : State := { s with pfc := { s.pfc with streaks := [], cont := [], due := [] } }
  (t.endStreaks false true ks).showStreaks

/-- Whether the drained strip's last line has been processed (R339). -/
def State.pfcStripDone (s : State) : Bool := s.pfc.stopLine.all (fun e => s.pfc.last.any (fun l => decide (e ≤ l))) && s.pfc.due.isEmpty

/-- A draining PFC ends its streaks once the strip's last line has been processed (R339). -/
def State.pfcDrain (s : State) : State :=
  if s.drains .pfc && s.pfcStripDone && !s.pfc.streaks.isEmpty then s.pfcTruncate else s

/-- STOP: the lines of the current strip are still processed (R339). -/
def State.pfcStops (s : State) : State :=
  { s with pfc := { s.pfc with stopLine := s.pfc.last.map (fun l => (l / s.strip + 1) * s.strip - 1) } }

/-- Whether PFC's drain has ended: the strip is done, no streak is open, and the events have entered the FIFO (R339). -/
def State.pfcDrained (s : State) : Bool := s.pfcStripDone && s.pfc.ended.isEmpty

/-! ### Banks and swaps -/

/-- A swap request of the dictionary or of the task (R337, R338). -/
def State.swapRequest (s : State) : State × Code :=
  if s.pfc.swap then ((s.setBit Ix.pfcFilterStatus 0 3).bumpSat Ix.pfcSwapsRefused 0 1, .busy)
  else
    let waits := s.pfc.fade.isSome || s.rd Ix.pfcBankSettleCount (2 - s.rd Ix.pfcActiveBank 0) != 0
    let t : State := { s with pfc := { s.pfc with swap := true } }
    (if waits then t.setBit Ix.pfcFilterStatus 0 2 else t, .ok)

/-- A waiting swap request is cancelled (R338). -/
def State.swapCancel (s : State) : State :=
  ({ s with pfc := { s.pfc with swap := false } } : State).clearBit Ix.pfcFilterStatus 0 2

/-- Whether FIR coefficients may be written: 4 × T bytes, symmetric (R336). -/
def State.firOk (s : State) (v : Octets) : Bool :=
  let t := s.rd Ix.pfcFIRTaps 0
  v.length == 4 * t && i32s v t == (i32s v t).reverse

/-- Why a write to a bank's object is refused, `ok` where it is accepted (R336). `bad` says that the value is out of range. -/
def State.bankCode (s : State) (bank : Nat) (bad : Bool) : Code :=
  if s.rd Ix.pfcActiveBank 0 = bank then .wrongState
  else if bad then .outOfRange
  else if s.pfc.fade.isSome || s.pfc.swap then .busy
  else .ok

/-- An accepted write leaves the bank unsettled for Q outputs (R336). -/
def State.bankUnsettled (s : State) (bank : Nat) : State := s.wr Ix.pfcBankSettleCount (bank + 1) s.pfcQ

/-- The live bits of Filter status (R342): SETTLING, FADING, SWAP_HELD, BANK_SETTLING. -/
def State.pfcLive (s : State) : Nat :=
  let settling := s.runs .pfc && decide (s.pfc.outputs < s.pfcQ + s.rd Ix.pfcBaselineSettle 0)
  bitNat settling + 32 * bitNat (s.rd Ix.pfcBankSettleCount (2 - s.rd Ix.pfcActiveBank 0) != 0)

end Sys2Proof.Machine
end

