-- ==== Sys2Proof/Machine/Ipl.lean ====
section
/-! DEFINITION. The input pipelines and the spare pipeline (R118 to R152). -/

namespace Sys2Proof.Machine

/-- The reason of a line whose alignment needs a line outside the Running period (R121). -/
abbrev rsAlignEdge : Nat := 11

/-- Whether a pixel format is one of the RGB, Bayer and trilinear formats (R88). -/
def isRgb (f : Nat) : Bool := f == 4 || f == 5 || f == 6
def isBayer (f : Nat) : Bool := f == 7 || f == 8
def isTrilinear (f : Nat) : Bool := f == 9 || f == 10
def isColour (f : Nat) : Bool := isRgb f || isBayer f || isTrilinear f

/-- The channel of a component by its plane and column (R124). -/
def channelOf (f phase row col : Nat) : Nat := if isBayer f then bayerColour phase row col else row

/-- The output lines a camera's output lags behind its input (R122). -/
def State.lineDelay (s : State) (n : Fin 32) : Nat :=
  let f := s.rd Ix.cptPixelFormat (n.val + 1)
  if isBayer f then 1 else if isTrilinear f then s.rd Ix.iplRowSpacing (n.val + 1) else 0

/-- A pipeline's function. -/
abbrev iplFn (m : Fin 16) : Fn := .ipl (Fin.ofNat 17 m.val)

/-- The spare's function. -/
abbrev spareFn : Fn := .ipl 16

/-- The cameras a pipeline serves (R86). -/
def State.camsOf (s : State) (m : Nat) : List (Fin 32) :=
  (List.finRange 32).filter (fun n => s.rd Ix.cptLaneCount (n.val + 1) != 0 && s.rd Ix.cptPipeline (n.val + 1) == m)

/-- The mask of cameras. -/
def camMask (ns : List (Fin 32)) : Nat := (ns.map (fun n => 2 ^ n.val)).sum

/-- A camera's pipeline state. -/
def State.iplCam (s : State) (n : Fin 32) : IplCam := s.ipl[n]

/-- A camera's pipeline state replaced. -/
def State.setIplCam (s : State) (n : Fin 32) (c : IplCam) : State := { s with ipl := s.ipl.set n c }

/-! ### Stages 1 to 4 -/

/-- Whether the dark and flat table in force fits the camera's format and width (R125). -/
def State.darkFlatFits (s : State) (n : Fin 32) : Bool :=
  let sub := n.val + 1
  (s.rdfo Ix.iplDarkAndFlatTable sub).length ==
    4 * formatComponents (s.rd Ix.cptPixelFormat sub) * s.rd Ix.cptLineWidth sub

/-- The columns of a row that the defect map in force lists (R126). -/
def defectsOf (bs : Octets) (row : Nat) : List Nat :=
  ((chunks 4 (bs.length / 4) bs).map ofLe).filterMap (fun e => if field e 16 2 = row then some (field e 0 16) else none)

/-- Stages 1 to 3 on one row or component of a camera line (R124 to R127). -/
def State.stage3Plane (s : State) (n : Fin 32) (row : Nat) (raw : List Nat) : Plane :=
  let sub := n.val + 1
  let f := s.rd Ix.cptPixelFormat sub
  let w := s.rd Ix.cptLineWidth sub
  let en := s.rdf Ix.iplStageEnable sub
  let phase := s.rd Ix.iplBayerPhase sub
  let chan (x : Nat) : Nat := channelOf f phase row x
  let df := (u16s (s.rdfo Ix.iplDarkAndFlatTable sub)).drop (2 * row * w)
  let fits := s.darkFlatFits n
  let dark (x : Nat) : Int := if en.testBit 1 && fits then ofPattern 16 (df.getD (2 * x) 0) else 0
  let black (x : Nat) : Nat := if en.testBit 0 then s.rdf (Ix.iplBlackLevelChannel0 + chan x) sub else 0
  let sat := s.rdf Ix.iplSaturationLevel sub
  let p2 := raw.mapIdx (fun x v => blackDark (formatDepth f) sat (black x) (dark x) v)
  if en.testBit 2 then replaceDefects (defectsOf (s.rdfo Ix.iplDefectMap sub) row) (if isBayer f then 2 else 1) p2 else p2

/-- The lens-shading gain in force at a place (R128). -/
def State.shading (s : State) (n : Fin 32) (row x : Nat) : Nat :=
  let sub := n.val + 1
  let chan := channelOf (s.rd Ix.cptPixelFormat sub) (s.rd Ix.iplBayerPhase sub) row x
  if (s.rdf Ix.iplStageEnable sub).testBit 3 then
    shadingAt ((u16s (s.rdfo Ix.iplLensShading sub)).drop (65 * chan)) (s.rd Ix.cptLineWidth sub) x
  else 0x4000

/-- Stages 1 to 4 on one row or component of a camera line (R124 to R128). -/
def State.stagePlane (s : State) (n : Fin 32) (row : Nat) (raw : List Nat) : Plane :=
  let sub := n.val + 1
  let w := s.rd Ix.cptLineWidth sub
  let en := s.rdf Ix.iplStageEnable sub
  let df := (u16s (s.rdfo Ix.iplDarkAndFlatTable sub)).drop (2 * row * w)
  let fits := s.darkFlatFits n
  (s.stage3Plane n row raw).mapIdx (fun x p =>
    let g := s.shading n row x
    let flat := if en.testBit 4 && fits then df.getD (2 * x + 1) 0x8000 else 0x8000
    shadeFlat g flat p)

/-- Stages 1 to 4 on a camera line's components, which stand plane after plane: rows of a multi-row format, components of RGB. -/
def State.stageLine (s : State) (n : Fin 32) (samples : List Nat) : List Plane :=
  let sub := n.val + 1
  (chunks (s.rd Ix.cptLineWidth sub) (formatComponents (s.rd Ix.cptPixelFormat sub)) samples).mapIdx (s.stagePlane n)

/-! ### What a calibration run measures -/

/-- A calibration run takes a line of a camera (R484): a DARK run the raw values aligned to 16 bits, a FLAT run the output of stage 3; a marker
counts as such. -/
def State.calTakes (s : State) (n : Fin 32) (line : Nat) (samples : Option (List Nat)) : State :=
  match s.cal.run with
  | none => s
  | some r =>
    let strip := line / s.strip
    if r.kind = 3 || !(r.cams.any (fun c => c.cam == n.val)) || strip < r.first || r.first + r.strips ≤ strip ||
        !(s.rd 0x6411 0 == 1 || s.rd 0x6411 0 == 2) then s
    else
      match samples with
      | none => s.calCam n.val (fun c => { c with markers := c.markers + 1 })
      | some v =>
        let sub := n.val + 1
        let f := s.rd Ix.cptPixelFormat sub
        let w := s.rd Ix.cptLineWidth sub
        let rows := chunks w (formatComponents f) v
        let planes := rows.mapIdx (s.stage3Plane n)
        let vs := if r.kind = 1 then v.map (fun x => x * 2 ^ (16 - formatDepth f)) else planes.flatMap (fun p => p.map (fun x => x.v))
        let sat := (planes.map (fun p => p.countP (fun x => x.f &&& pxSat != 0))).sum
        let chan (i : Nat) : Nat := channelOf f (s.rd Ix.iplBayerPhase sub) (i / w) (i % w)
        s.calCam n.val (fun c => { c with
          lines := c.lines + 1
          sat := c.sat + sat
          sums := vs.mapIdx (fun i x => c.sums.getD i 0 + x)
          squares := (vs.zipIdx).foldl (fun q x => q.modify (chan x.2) (fun y => (y.1 + x.1 * x.1, y.2 + 1))) c.squares })

/-- A camera's strip has closed before a calibration run (R484). -/
def State.calStripEnds (s : State) (n : Fin 32) (strip : Nat) : State :=
  match s.cal.run with
  | some r => if r.first + r.strips ≤ strip + 1 then (s.calCam n.val (fun c => { c with done := true })).calMeasured else s
  | none => s

/-! ### Statistics -/

/-- A channel's statistics with one more sample (R143). -/
def ChannelStats.add (c : ChannelStats) (v : Nat) : ChannelStats :=
  { sum := c.sum + v, squares := c.squares + v * v, low := min c.low v, high := max c.high v, samples := c.samples + 1 }

/-- The zone of a column (R143): zone z begins at floor(z × w / 32). -/
def zoneOf (w x : Nat) : Nat := (32 * (x + 1) - 1) / w

/-- Strip statistics with one more sample of a channel at a column (R143). -/
def StripStats.add (st : StripStats) (ch w x v : Nat) : StripStats :=
  let i := 3 * zoneOf w x + ch
  let z := st.zones.getD i (0, 0)
  { st with channels := st.channels.modify ch (fun c => c.add v), zones := st.zones.set i (z.1 + v, z.2 + 1) }

/-- Strip statistics with one more plane (R143): OUTSIDE samples are excluded. -/
def StripStats.addPlane (st : StripStats) (chan : Nat → Nat) (w : Nat) (p : Plane) : StripStats :=
  (p.zipIdx).foldl (fun t x => if x.1.f &&& pxOutside = 0 then t.add (chan x.2) w x.2 x.1.v else t) st

/-- How many positions carry a flag: a position's flags are those of all its components where `merged` (R119, R143). -/
def countFlag (merged : Bool) (flag : Nat) (ps : List Plane) : Nat :=
  let has (x : Px) : Bool := x.f &&& flag != 0 && x.f &&& pxOutside == 0
  if merged then (columnsOf ps).countP (fun c => c.any has) else (ps.map (fun p => p.countP has)).sum

/-- Strip statistics with one more line or marker (R143). -/
def StripStats.addLine (st : StripStats) (chan : Nat → Nat → Nat) (w : Nat) (merged : Bool) (reason : Nat) (planes : Option (List Plane)) :
    StripStats :=
  match planes with
  | none => { st with reasons := st.reasons.set reason (st.reasons.getD reason 0 + 1) }
  | some ps =>
    let t := (ps.zipIdx).foldl (fun t p => t.addPlane (chan p.2) w p.1) st
    { t with lines := t.lines + 1, sat := t.sat + countFlag merged pxSat ps, replaced := t.replaced + countFlag merged pxReplaced ps }

/-- A channel's part of the statistics record (R143). -/
def channelOctets (c : ChannelStats) : Octets :=
  leBytes 8 c.sum ++ leBytes 8 c.squares ++ leBytes 2 c.low ++ leBytes 2 c.high ++ leBytes 4 c.samples ++ leBytes 8 0

/-- A zone mean, rounded half up, 0 with no samples (R143). -/
def zoneMean (z : Nat × Nat) : Nat := if z.2 = 0 then 0 else (2 * z.1 + z.2) / (2 * z.2)

/-- The strip statistics record (R143). -/
def statsRecord (st : StripStats) (r : StripClose) (truncated : Bool) (tap phys logical channels w : Nat) : Octets :=
  let flags := bitNat (truncated || r.truncated) + 2 * tap + 4 * bitNat (phys == 16)
  leBytes 2 0x0002 ++ leBytes 1 1 ++ leBytes 1 flags ++
  leBytes 1 r.port ++ leBytes 1 phys ++ leBytes 1 logical ++ leBytes 1 channels ++
  leBytes 8 r.strip ++ leBytes 8 r.lp0 ++ leBytes 8 r.time0 ++ leBytes 8 r.timeLast ++
  leBytes 4 st.lines ++ leBytes 4 r.long ++ ((List.range 11).flatMap (fun i => leBytes 4 (st.reasons.getD (i + 1) 0))) ++
  leBytes 4 st.sat ++ leBytes 4 st.replaced ++ leBytes 2 w ++ leBytes 2 (w / 32) ++
  st.channels.flatMap channelOctets ++ st.zones.flatMap (fun z => leBytes 2 (zoneMean z))

/-- Whether the spare serves a pipeline (R144): a Faulted one serves none. -/
def State.spareServes (s : State) (m : Nat) : Bool :=
  decide (s.fn spareFn ≠ .faulted) && (s.rd Ix.iplSpareState 0 == 3 || s.rd Ix.iplSpareState 0 == 4) && s.rd Ix.iplSpareServing 0 == m

/-- The physical pipeline whose output line goes to STX (R146): from take-over to hand-back the spare, by line number. -/
def State.physOf (s : State) (m line : Nat) : Nat :=
  if s.spareServes m && decide (s.rd Ix.iplTakeOverLine 0 ≤ line) ||
      s.pipes[Fin.ofNat 16 m].served.any (fun r => decide (r.1 ≤ line ∧ line < r.2)) then 16 else m

/-- A camera's statistics record is pushed to SQ with IPLn_STRIP, where statistics are enabled (R143, R150). -/
def State.pushStats (s : State) (n : Fin 32) (r : StripClose) (tap : Nat) (truncated : Bool) : State :=
  let c := s.iplCam n
  let st := if tap = 1 then c.output else c.tapped
  let m := s.rd Ix.cptPipeline (n.val + 1)
  let phys := s.physOf m (r.strip * s.strip)
  let colour := isColour (s.rd Ix.cptPixelFormat (n.val + 1))
  let channels := if colour && !(tap == 1 && s.rd Ix.iplOutputSpace 0 == 2) then 3 else 1
  let w := if tap = 1 then s.outputWidth n.val else s.rd Ix.cptLineWidth (n.val + 1)
  let t := s.setIplCam n (if tap = 1 then { c with output := {} } else { c with tapped := {} })
  if s.rd Ix.iplStatisticsEnable 0 = 0 then t
  else
    let t := (t.push sqIx phys false (statsRecord st r truncated tap phys m channels w)).bump Ix.iplStatisticsRecords (phys + 1) 1
    t.cross (eventCode 9 phys 0) (some (r.lp0, r.time0)) (r.strip % 2 ^ 32)

/-! ### Output -/

/-- The line of a number among a camera's recent lines. -/
def IplCam.lineAt (c : IplCam) (l : Nat) : Option StageLine := c.lines.find? (fun x => x.tag.line == l)

/-- The reason a contributing line has for making a marker: its own, or ALIGN_EDGE where it lies outside the Running period (R132). -/
def contribReason : Option StageLine → Nat
  | none => rsAlignEdge
  | some x => x.tag.reason

/-- The smallest reason that applies, 0 if none (R101, R121). -/
def worstReason (rs : List Nat) : Nat :=
  (rs.filter (fun r => r != 0)).foldl (fun m r => if m = 0 then r else min m r) 0

/-- The planes of a contributing line. -/
def planesOf (x : Option StageLine) : List Plane := (x.bind (fun l => l.planes)).getD []

/-- Stages 5 and 6 for an output line: the reason of a marker, else 0 and the line's planes (R129 to R132). -/
def State.alignedLine (s : State) (n : Fin 32) (l : Nat) : Nat × List Plane :=
  let sub := n.val + 1
  let c := s.iplCam n
  let f := s.rd Ix.cptPixelFormat sub
  let mid := c.lineAt l
  if isBayer f then
    let usable (x : Option StageLine) : List Plane := if (planesOf x).isEmpty then planesOf mid else planesOf x
    let rows := usable (if l = 0 then none else c.lineAt (l - 1)) ++ planesOf mid ++ usable (c.lineAt (l + 1))
    let edge := (c.colour.map (fun k => k.edge)).getD 0
    (contribReason mid, demosaic edge (s.rd Ix.iplBayerPhase sub) rows)
  else if isTrilinear f then
    let d := s.rd Ix.iplRowSpacing sub
    let up := if l < d then none else c.lineAt (l - d)
    let down := c.lineAt (l + d)
    let (r, b) := if s.rd Ix.iplRowOrder sub = 0 then (up, down) else (down, up)
    (worstReason [contribReason r, contribReason mid, contribReason b],
     [(planesOf r).getD 0 [], (planesOf mid).getD 1 [], (planesOf b).getD 2 []])
  else (contribReason mid, planesOf mid)

/-- The remap coefficients in force (R139). -/
def State.remapInForce (s : State) (n : Fin 32) : List Int := remapCoeffs (s.rdo Ix.iplRemapInForce (n.val + 1))

/-- A remap ramp moves on by one line (R139). -/
def State.remapStep (s : State) (n : Fin 32) : State :=
  let c := s.iplCam n
  match c.ramp with
  | none => s
  | some r =>
    let k := r.step + 1
    let vs := (List.range 4).map (fun i => rampValue (r.old.getD i 0) (r.new.getD i 0) k r.len)
    let t := s.wro Ix.iplRemapInForce (n.val + 1) (vs.flatMap (fun v => leBytes 4 (toPattern 32 v)))
    let t := t.setIplCam n { c with ramp := if k < r.len then some { r with step := k } else none }
    if k < r.len then t else t.calArrived 7 n.val

/-- A write of Remap coefficients: a ramp from the values in force while the pipeline that serves the camera is Running or Draining,
else at once (R17, R139). -/
def State.remapWrite (s : State) (n : Fin 32) (v : Octets) : State :=
  let m := s.rd Ix.cptPipeline (n.val + 1)
  let f : Fn := if s.spareServes m then spareFn else .ipl (Fin.ofNat 17 m)
  let c := s.iplCam n
  if s.runs f || s.drains f then
    s.setIplCam n { c with ramp := some { old := s.remapInForce n, new := remapCoeffs v, step := 0,
                                          len := s.rd Ix.iplRemapRampLength (n.val + 1) } }
  else ((s.setIplCam n { c with ramp := none }).wro Ix.iplRemapInForce (n.val + 1) v).calArrived 7 n.val

/-- The planes of an output line after stages 7 to 9 (R133 to R137). -/
def State.finishLine (s : State) (n : Fin 32) (planes : List Plane) : List Plane :=
  let sub := n.val + 1
  let k := (s.iplCam n).colour.getD { enable := 0, edge := 0, matrix := [], tone := [], lab := [] }
  let ps := colourLine (s.rd Ix.iplOutputSpace 0) (isColour (s.rd Ix.cptPixelFormat sub)) (k.enable.testBit 5) (k.enable.testBit 6)
    k.matrix k.tone k.lab planes
  ps.map (remapPlane (k.enable.testBit 7) (s.rd Ix.iplRemapInterpolation sub == 1) (s.remapInForce n) (s.outputWidth n.val))

/-- One output line leaves a pipeline (R120, R122, R132): counted, taken into the statistics of the output, and given to STX and
PFC. `reason` is 0 for a line with planes. -/
def State.putLine (s : State) (n : Fin 32) (tag : LineTag) (reason : Nat) (planes : List Plane) : State :=
  let c := s.iplCam n
  let m := s.rd Ix.cptPipeline (n.val + 1)
  let sub := s.physOf m tag.line + 1
  let out := if reason = 0 then some planes else none
  let space := s.rd Ix.iplOutputSpace 0
  let st := c.output.addLine (fun row _ => row) (s.outputWidth n.val) (space != 2) reason out
  let t := s.setIplCam n { c with output := st, next := some (tag.line + 1) }
  let t := if reason = 0 then t.bump Ix.iplLinesProcessed sub 1 else t.bump Ix.iplMarkersPassed sub 1
  let t := if reason = rsAlignEdge then (t.bump Ix.iplAlignmentMarkers sub 1).setBit Ix.iplPipelineStatus sub 6 else t
  let x : CamOut := { tag := { tag with format := s.outputCode, width := s.outputWidth n.val, reason := reason }, planes := out }
  (t.stxTake n x).pfcTake n x

/-- At an output strip's first line the colour values of that strip come into force (R123). -/
def State.colourBoundary (s : State) (n : Fin 32) (line : Nat) : State :=
  let c := s.iplCam n
  if line % s.strip = 0 ∨ c.colour = none then
    s.setIplCam n { c with colour := if c.colourNext.isSome then c.colourNext else c.colour, colourNext := none }
  else s

/-- The strip-close records whose last output line has left go on: the statistics record at tap 1 follows, and STX takes the record
(R143, R184). -/
def State.passCloses (s : State) (n : Fin 32) (all truncated : Bool) : Nat → State
  | 0 => s
  | fuel + 1 =>
    let c := s.iplCam n
    match c.closes with
    | [] => s
    | (r, tap) :: rest =>
      if all || c.next.any (fun l => decide ((r.strip + 1) * s.strip ≤ l)) then
        let t := s.setIplCam n { c with closes := rest, closed := some r.strip }
        let t := if tap = 1 then t.pushStats n r 1 truncated else t.setIplCam n { t.iplCam n with output := {} }
        (t.stxClose n r.strip).passCloses n all truncated fuel
      else s

/-- Output lines that can be formed are formed, oldest first: up to the input's lag, or all of them where `flush` (R122, R132). -/
def State.emitLines (s : State) (n : Fin 32) (flush : Bool) : Nat → State
  | 0 => s
  | fuel + 1 =>
    let c := s.iplCam n
    match c.next, c.last with
    | some l, some last =>
      if l ≤ last ∧ (flush ∨ l + s.lineDelay n ≤ last) then
        match c.lineAt l with
        | none => s
        | some x =>
          let t := (s.colourBoundary n l).remapStep n
          let (reason, planes) := t.alignedLine n l
          let t := t.putLine n x.tag reason (if reason = 0 then t.finishLine n planes else [])
          (t.passCloses n false false 4).emitLines n flush fuel
      else s
    | _, _ => s

/-- Everything a camera still has in its pipeline leaves it without later lines (R132, R148). -/
def State.flushCam (s : State) (n : Fin 32) : State :=
  let k := (s.iplCam n).lines.length
  (s.emitLines n true (k + 1)).passCloses n true false (k + 4)

/-! ### Strip boundaries of settings -/

/-- At a strip's first camera line the pending values of the camera come into force together (R15, R16, R140), and the statistics
tap. -/
def State.camBoundary (s : State) (n : Fin 32) : State :=
  let sub := n.val + 1
  let t := s.forceAll sub [Ix.iplStageEnable, Ix.iplBlackLevelChannel0, Ix.iplBlackLevelChannel1, Ix.iplBlackLevelChannel2,
    Ix.iplSaturationLevel, Ix.iplEdgeThreshold]
  let t := [Ix.iplDarkAndFlatTable, Ix.iplDefectMap, Ix.iplLensShading, Ix.iplColourMatrix, Ix.iplToneCurve, Ix.iplLabTable].foldl
    (fun (t : State) ix => t.forceo ix sub) t
  let t := t.wr Ix.iplTableStatus sub (t.rd Ix.iplTableStatus sub / 64 * 64)
  let t := [1, 2, 3, 4].foldl (fun (t : State) code => t.calArrived code n.val) t
  let t := t.wr Ix.iplDefectsInForce sub ((t.rdfo Ix.iplDefectMap sub).length / 4)
  let k : ColourSet := { enable := t.rdf Ix.iplStageEnable sub, edge := t.rdf Ix.iplEdgeThreshold sub,
                         matrix := t.rdfo Ix.iplColourMatrix sub, tone := t.rdfo Ix.iplToneCurve sub,
                         lab := t.rdfo Ix.iplLabTable sub }
  t.setIplCam n { t.iplCam n with colourNext := some k, tap := t.rd Ix.iplStatisticsTap 0 }

/-! ### The spare -/

/-- The spare state and what it shows (R144, R145, R151): IPL16 is Running in every state but idle; where it is Faulted it stays so. In idle no
pipeline shadows or serves. -/
def State.setSpare (s : State) (st : Nat) (x : SpareState) : State :=
  let t : State := { s.wr Ix.iplSpareState 0 st with spare := x }
  if st = 0 then
    let m := t.rd Ix.iplSpareServing 0
    let t := if m < 16 then (t.clearBit Ix.iplPipelineStatus (m + 1) 0).clearBit Ix.iplPipelineStatus (m + 1) 1 else t
    let t := (((t.wr Ix.iplSpareServing 0 255).wr Ix.iplCamerasServed 17 0).clearBit Ix.iplPipelineStatus 17 2).clearBit
      Ix.iplPipelineStatus 17 0
    if t.runs spareFn then t.enter spareFn .stopped else t
  else if t.fn spareFn = .stopped then t.enter spareFn .running else t

/-- A write of Spare target (R144). -/
def State.spareTarget (s : State) (m : Nat) : State :=
  (((s.wr Ix.iplSpareTarget 0 m).setSpare 1 {}).wr Ix.iplSpareServing 0 m).wr Ix.iplCamerasServed 17 (camMask (s.camsOf m))

/-- The loading of the spare, or of the pipeline that is handed back to, ends after a time in µs (R144). -/
def State.spareLoaded (s : State) (micros : Nat) : State :=
  let st := s.rd Ix.iplSpareState 0
  if (st = 1 ∨ st = 4) ∧ !s.spare.loaded then
    ({ s with spare := { s.spare with loaded := true } } : State).wr Ix.iplSpareLoadTime 0 micros
  else s

/-- A pipeline's logical state replaced. -/
def State.setPipe (s : State) (m : Fin 16) (p : IplPipe) : State := { s with pipes := s.pipes.set m p }

/-- The cameras of a pipeline begin anew with a line (R148). A leftover remap ramp stays (R17). -/
def State.pipeBegins (s : State) (m : Fin 16) (line : Nat) : State :=
  (s.camsOf m.val).foldl (fun t n => t.setIplCam n { ramp := (t.iplCam n).ramp })
    (s.setPipe m { s.pipes[m] with start := line })

/-- The spare serves from a line on (R146, R147). -/
def State.spareTakes (s : State) (m : Fin 16) (line lp time : Nat) : State :=
  let t := ((s.setSpare 3 { loaded := true }).bump Ix.iplTakeOverCount 0 1).wr Ix.iplTakeOverLine 0 line
  let t := ((t.clearBit Ix.iplPipelineStatus (m.val + 1) 0).setBit Ix.iplPipelineStatus (m.val + 1) 1).setBit
    Ix.iplPipelineStatus 17 2
  t.cross (eventCode 10 0 1) (some (lp, time)) m.val

/-- What a strip boundary means for the spare (R144, R146): a take-over moves a Running pipeline to Stopped, and leaves one in another state as
it is (R22). -/
def State.spareBoundary (s : State) (m : Fin 16) (line lp time : Nat) : State :=
  let st := s.rd Ix.iplSpareState 0
  let x := s.spare
  if s.rd Ix.iplSpareServing 0 ≠ m.val then s
  else if st = 1 ∧ x.loaded then
    if s.runs (iplFn m) then
      let t := (s.setSpare 2 { x with shadowFrom := some line }).wr Ix.iplShadowMismatchLines 0 0
      (t.setBit Ix.iplPipelineStatus (m.val + 1) 0).cross (eventCode 10 0 0) (some (lp, time)) m.val
    else if s.fn (iplFn m) = .faulted ∨ (s.fn (iplFn m) = .stopped ∧ x.takeOver) then
      (s.pipeBegins m line).spareTakes m line lp time
    else s
  else if st = 2 ∧ x.takeOver ∧ x.shadowFrom.any (fun b => decide (b + s.strip ≤ line)) then
    (if s.runs (iplFn m) then s.enter (iplFn m) .stopped else s).spareTakes m line lp time
  else if st = 4 ∧ x.loaded then
    match x.shadowFrom with
    | none =>
      ((s.setSpare 4 { x with shadowFrom := some line }).setBit Ix.iplPipelineStatus 17 0).cross (eventCode 10 0 0) (some (lp, time)) m.val
    | some b =>
      if b + s.strip ≤ line ∧ s.runs (iplFn m) then
        let t := s.setPipe m { s.pipes[m] with served := some (s.rd Ix.iplTakeOverLine 0, line) }
        let t := (t.setSpare 0 {}).wr Ix.iplTakeOverLine 0 line
        t.cross (eventCode 10 0 2) (some (lp, time)) m.val
      else s
  else s

/-- A strip boundary reaches a logical pipeline, once per line number. -/
def State.pipeBoundary (s : State) (m : Fin 16) (line lp time : Nat) : State :=
  if line % s.strip = 0 ∧ s.pipes[m].seen.all (fun b => decide (b < line)) then
    (s.setPipe m { s.pipes[m] with seen := some line }).spareBoundary m line lp time
  else s

/-- A shadow comparison differed: a defect that the model's exact pipelines do not show of themselves (R144). DEDUCED: the flag sets in
the status of the pipeline that compares. -/
def State.shadowDiffers (s : State) (m : Fin 16) (n : Fin 32) (differs : Bool) (line : Nat) : State :=
  let st := s.rd Ix.iplSpareState 0
  let lag := s.lineDelay n
  if differs && (st == 2 || st == 4) && s.rd Ix.iplSpareServing 0 == m.val &&
      s.spare.shadowFrom.any (fun b => decide (b + lag ≤ line)) then
    (s.bump Ix.iplShadowMismatchLines 0 1).setBit Ix.iplPipelineStatus (if st = 2 then 17 else m.val + 1) 5
  else s

/-! ### Input -/

/-- Whether a pipeline, or the spare in its place, takes a line of a camera (R26, R144, R148). -/
def State.pipeTakes (s : State) (m : Fin 16) (n : Fin 32) (strip : Nat) : Bool :=
  s.spareServes m.val || s.runs (iplFn m) ||
    (s.drains (iplFn m) && (s.iplCam n).stopStrip.any (fun k => decide (strip ≤ k)))

/-- A line or marker enters the stages (R122, R143). -/
def State.camLine (s : State) (n : Fin 32) (tag : LineTag) (samples : Option (List Nat)) : State :=
  let c := s.iplCam n
  let s := if c.last.any (fun l => decide (l + 1 ≠ tag.line)) then
      let t := s.flushCam n
      t.setIplCam n { t.iplCam n with lines := [], next := none, last := none }
    else s
  let first := (s.iplCam n).last.isNone
  let s := if tag.line % s.strip = 0 || first then s.setIplCam n { s.iplCam n with opened := some tag } else s
  let s := (if tag.line % s.strip = 0 || first then s.camBoundary n else s).calTakes n tag.line samples
  let planes := samples.map (s.stageLine n)
  let f := s.rd Ix.cptPixelFormat (n.val + 1)
  let c := s.iplCam n
  let tapped := c.tapped.addLine (channelOf f (s.rd Ix.iplBayerPhase (n.val + 1))) (s.rd Ix.cptLineWidth (n.val + 1)) (isRgb f)
    tag.reason planes
  let keep := c.lines.take (2 * s.lineDelay n + 1)
  let t := s.setIplCam n { c with lines := { tag := tag, planes := planes } :: keep, last := some tag.line,
                                  next := some (c.next.getD tag.line), tapped := tapped }
  let sub := s.physOf (s.rd Ix.cptPipeline (n.val + 1)) tag.line + 1
  (t.raiseTo Ix.iplLineBufferHighWater sub (keep.length + 1)).emitLines n false (keep.length + 2)

/-- A strip-close record enters the stages (R143): at tap 0 its statistics follow at once. The record of a strip that was cut off
takes what the pipeline holds with it. -/
def State.camClose (s : State) (n : Fin 32) (r : StripClose) : State :=
  let s := s.calStripEnds n r.strip
  let c := s.iplCam n
  let t := s.setIplCam n { c with closes := c.closes ++ [(r, c.tap)], opened := none }
  let t := if c.tap = 0 then t.pushStats n r 0 false else t.setIplCam n { t.iplCam n with tapped := {} }
  if r.truncated || (decide (s.fn (.ipl (Fin.ofNat 17 (s.rd Ix.cptPipeline (n.val + 1)))) = .draining) && c.stopStrip == some r.strip)
  then t.flushCam n else t.passCloses n false false 4

/-- The next item of a pipeline's cameras passes through its stages (R122). -/
def State.iplInput (s : State) (m : Fin 16) (differs : Bool) : State :=
  match s.iplIn[m] with
  | [] => s
  | x :: xs =>
    let s : State := { s with iplIn := s.iplIn.set m xs }
    match x with
    | .close r =>
      let n := Fin.ofNat 32 r.port
      if s.pipeTakes m n r.strip && decide (s.pipes[m].start ≤ r.strip * s.strip) then s.camClose n r else s
    | .line tag v =>
      let n := Fin.ofNat 32 tag.port
      let s := s.pipeBoundary m tag.line tag.lp tag.time
      if s.pipeTakes m n (tag.line / s.strip) && decide (s.pipes[m].start ≤ tag.line) then
        (((s.tally 0x10 (s.physOf m.val tag.line) (s.rd Ix.cptLineWidth (n.val + 1))).camLine n tag (some v)).shadowDiffers m n differs tag.line).setPort n
          { (s.port n) with slots := (s.port n).slots - 1 }
      else (s.discard (iplFn m) 1).setPort n { (s.port n) with slots := (s.port n).slots - 1 }
    | .marker tag =>
      let n := Fin.ofNat 32 tag.port
      let s := s.pipeBoundary m tag.line tag.lp tag.time
      if s.pipeTakes m n (tag.line / s.strip) && decide (s.pipes[m].start ≤ tag.line) then s.camLine n tag none
      else s.discard (iplFn m) 1

/-! ### States -/

/-- Whether a DOM of a Lab table has been loaded (R135, R151). -/
def State.labLoaded (s : State) (n : Fin 32) : Bool :=
  !(s.rdo Ix.iplLabTable (n.val + 1)).isEmpty || !(s.rdfo Ix.iplLabTable (n.val + 1)).isEmpty

/-- What ARM, and HAND_BACK, check of a pipeline's settings (R135, R138). -/
def State.iplArmable (s : State) (m : Fin 16) : Bool :=
  let space := s.rd Ix.iplOutputSpace 0
  (s.camsOf m.val).all (fun n =>
    let f := s.rd Ix.cptPixelFormat (n.val + 1)
    (space == 2 || isColour f) && (!(space == 1 && isColour f) || s.labLoaded n) &&
    decide (s.outputWidth n.val ≤ s.rd Ix.cptLineWidth (n.val + 1)))

/-- ARM shows the cameras in force (R151). -/
def State.iplArms (s : State) (m : Fin 16) : State := s.wr Ix.iplCamerasServed (m.val + 1) (camMask (s.camsOf m.val))

/-- STOP: each camera's lines are taken to the end of its current strip (R148). What a pipeline only shadows is the serving spare's (R146). -/
def State.iplStops (s : State) (m : Fin 16) : State :=
  if s.spareServes m.val then s
  else (s.camsOf m.val).foldl (fun t n =>
    let c := t.iplCam n
    let k := c.last.map (fun l => l / t.strip)
    let t := t.setIplCam n { c with stopStrip := k }
    if c.closes.any (fun r => some r.1.strip == k) then t.flushCam n else t) s

/-- Whether the pipeline's drain has ended: the last strip of every camera has been closed (R148). -/
def State.iplDrained (s : State) (m : Fin 16) : Bool :=
  s.spareServes m.val || (s.camsOf m.val).all (fun n => let c := s.iplCam n; c.last.isNone || c.closed == c.stopStrip)

/-- The record of a strip that the pipeline itself cuts off, by the tag of its index 0 and its last tag (R143, R148). -/
def State.cutClose (s : State) (n : Fin 32) (first : LineTag) (last : Nat) : StripClose :=
  { port := n.val, strip := first.line / s.strip, lines := 0, reasons := List.replicate 11 0, long := 0, lp0 := first.lp, time0 := first.time,
    timeLast := last, truncated := true }

/-- The lines in flight of a camera become markers with a reason; a strip whose last line is among them is closed as cut off (R147, R148). -/
def State.markRest (s : State) (n : Fin 32) (reason : Nat) : Nat → State
  | 0 => s
  | fuel + 1 =>
    let c := s.iplCam n
    match c.next with
    | none => s
    | some l =>
      match c.lineAt l with
      | none => s
      | some x => ((s.putLine n x.tag reason []).passCloses n false true 4).markRest n reason fuel

/-- The drain timeout, ABORT and entry to Faulted cut a camera's strip off: what is in flight becomes markers with reason 3, and the
strip's statistics record is pushed with TRUNCATED (R148). -/
def State.truncateCam (s : State) (n : Fin 32) : State :=
  let k := (s.iplCam n).lines
  let t := (s.markRest n rsTruncated (k.length + 1)).passCloses n true true (k.length + 4)
  let c := t.iplCam n
  let t := match c.opened with
    | none => t
    | some x => t.pushStats n (t.cutClose n x ((k.head?.map (fun (l : StageLine) => l.tag.time)).getD x.time)) c.tap true
  t.setIplCam n { ramp := c.ramp }

/-- A pipeline's strip is cut off (R148). What a pipeline only shadows goes on in the serving spare (R146). -/
def State.iplTruncate (s : State) (m : Fin 16) : State :=
  if s.spareServes m.val then s else (s.camsOf m.val).foldl (fun t n => t.truncateCam n) s

/-- The serving spare enters Faulted: the lines in flight are cut off (R148). -/
def State.spareLost (s : State) (m : Fin 16) : State := (s.camsOf m.val).foldl (fun t n => t.truncateCam n) s

/-- The LP and the time stamp of a line that the spare serves first: those of its tag, or where no camera has delivered the line yet, the LP at
which it begins and this instant. DESIGN CHOICE. -/
def State.servedTag (s : State) (ns : List (Fin 32)) (line : Nat) : Nat × Nat :=
  match ns.findSome? (fun n => (s.iplCam n).lineAt line) with
  | some x => (x.tag.lp, x.tag.time)
  | none => (line * 65536, s.stamp)

/-- A pipeline has entered Faulted: a shadowing spare serves at once, from the first line not delivered, or the lines in flight become
markers (R147). Where it shadows the spare that serves, the hand-back is given up and the spare goes on serving: DESIGN CHOICE. -/
def State.iplFaults (s : State) (m : Fin 16) : State :=
  if s.rd Ix.iplSpareState 0 = 4 ∧ s.spareServes m.val then
    ((s.setSpare 3 { loaded := true }).clearBit Ix.iplPipelineStatus 17 0)
  else if s.rd Ix.iplSpareState 0 = 2 ∧ s.rd Ix.iplSpareServing 0 = m.val ∧ s.rd Ix.iplFaultTakeOver 0 = 1 then
    let b := s.spare.shadowFrom.getD 0
    let ns := s.camsOf m.val
    let t := ns.foldl (fun (t : State) n =>
      let c := t.iplCam n
      let lost := c.lines.filter (fun x => decide (x.tag.line < b) && c.next.any (fun l => decide (l ≤ x.tag.line)))
      let t := t.markRest n rsTruncated lost.length
      let c := t.iplCam n
      t.setIplCam n { c with lines := c.lines.filter (fun x => decide (b ≤ x.tag.line)) }) s
    let nexts := ns.filterMap (fun n => (t.iplCam n).next)
    let first := nexts.foldl min (nexts.headD (s.pipes[m].seen.getD b))
    let at_ := t.servedTag ns first
    t.spareTakes m first at_.1 at_.2
  else s.iplTruncate m

/-- TAKE_OVER (R144). -/
def State.takeOver (s : State) : State × Code :=
  let st := s.rd Ix.iplSpareState 0
  if st = 1 ∨ st = 2 then ({ s with spare := { s.spare with takeOver := true } }, .ok) else (s, .wrongState)

/-- HAND_BACK (R144, R146): only while the pipeline is Stopped; the checks of ARM are made, and refuse it as they would refuse ARM (R22, R27,
R498, R514). DEDUCED: the unit of the self-test that is pipeline m has the number m (R506). -/
def State.handBack (s : State) : State × Code :=
  let m := Fin.ofNat 16 (s.rd Ix.iplSpareServing 0)
  if s.rd Ix.iplSpareState 0 ≠ 3 ∨ s.fn (iplFn m) ≠ .stopped then (s, .wrongState)
  else if !s.operating || s.rd Ix.lifLifeCycleState 0 == 3 || !s.iplArmable m then (s.fnFlag (iplFn m) flagCmdRejected, .wrongState)
  else if s.bst.test.any (fun t => t.offline && t.unit == m.val) then (s.fnFlag (iplFn m) flagCmdRejected, .busy)
  else (((s.iplArms m).enter (iplFn m) .running).setSpare 4 { loaded := false }, .ok)

/-- RELEASE (R144). -/
def State.releaseSpare (s : State) : State × Code :=
  let st := s.rd Ix.iplSpareState 0
  if st = 1 ∨ st = 2 then
    (s.setSpare 0 {}, .ok)
  else (s, .wrongState)

/-- The live bits of Table status (R151): RAMPING, LAB_LOADED, DARK_FLAT_SIZE. -/
def State.tableLive (s : State) (n : Fin 32) : Nat :=
  64 * bitNat (s.iplCam n).ramp.isSome + 128 * bitNat (s.labLoaded n) + 256 * bitNat (!s.darkFlatFits n)

/-! ### Contents of tables -/

/-- Whether more than eight defects of one colour follow each other in a row (R126): `run` counts those just before a column. -/
def tooMany (cols : List Nat) (step : Nat) : Bool :=
  cols.any (fun x => (List.range 9).all (fun i => cols.contains (x + i * step)))

/-- Whether a defect map is accepted for a camera (R126). -/
def State.defectMapOk (s : State) (n : Fin 32) (bs : Octets) : Bool :=
  let f := s.rd Ix.cptPixelFormat (n.val + 1)
  let es := (chunks 4 (bs.length / 4) bs).map ofLe
  let place (e : Nat) : Nat := field e 16 2 * 65536 + field e 0 16
  let rising := (es.zip (es.drop 1)).all (fun p => decide (place p.1 < place p.2))
  let inside := es.all (fun e => decide (field e 16 2 < formatComponents f) && decide (field e 0 16 < s.rd Ix.cptLineWidth (n.val + 1)) &&
    decide (e < 2 ^ 18))
  let rows := (List.range 4).all (fun r => !tooMany (defectsOf bs r) (if isBayer f then 2 else 1))
  bs.length % 4 == 0 && rising && inside && rows

/-- Whether a completed transfer of an IPL table is accepted (R125, R126). -/
def State.iplTableOk (s : State) (n : Fin 32) (ix : Nat) (bs : Octets) : Bool :=
  if ix = Ix.iplDarkAndFlatTable then
    bs.length == 4 * formatComponents (s.rd Ix.cptPixelFormat (n.val + 1)) * s.rd Ix.cptLineWidth (n.val + 1)
  else if ix = Ix.iplDefectMap then s.defectMapOk n bs
  else true

/-- The bit of Table status that shows a table or coefficient set pending (R151). -/
def pendingBit (ix : Nat) : Option Nat :=
  if ix = Ix.iplDarkAndFlatTable then some 0 else if ix = Ix.iplDefectMap then some 1 else if ix = Ix.iplLensShading then some 2
  else if ix = Ix.iplColourMatrix ∨ ix = Ix.iplBlackLevelChannel0 ∨ ix = Ix.iplBlackLevelChannel1 ∨ ix = Ix.iplBlackLevelChannel2 ∨
    ix = Ix.iplSaturationLevel then some 3
  else if ix = Ix.iplToneCurve then some 4 else if ix = Ix.iplLabTable then some 5 else none

/-- A new transfer to a table with a completed write pending cancels that write (R141). -/
def State.cancelPending (s : State) (ix sub : Nat) : State :=
  match pendingBit ix with
  | some b =>
    if s.bit Ix.iplTableStatus sub b then
      let m := s.rd Ix.cptPipeline sub
      ((s.wro ix sub (s.rdfo ix sub)).clearBit Ix.iplTableStatus sub b).setBit Ix.iplPipelineStatus (m + 1) 4
    else s
  | none => s

end Sys2Proof.Machine
end

