-- ==== Sys2Proof/Machine/Brd.lean ====
section
/-! DEFINITION. The Braid links: bring-up, flits, retransmission, messages (R169 to R183). -/

namespace Sys2Proof.Machine

/-- The positions of the flags of Link status (R189). -/
abbrev blTrainFail : Nat := 2
abbrev blRoleMismatch : Nat := 3
abbrev blCrcErr : Nat := 4
abbrev blReplay : Nat := 5
abbrev blLasting : Nat := 6
abbrev blClockLoss : Nat := 7
abbrev blDown : Nat := 8

/-- The roles of a port (R170). -/
abbrev roleOp : Nat := 1
abbrev roleFar : Nat := 2

/-- The message types (R175). -/
abbrev msgOverlap : Nat := 1
abbrev msgBlobEdge : Nat := 2
abbrev msgRejoin : Nat := 3

/-- A port's state. -/
def State.brdPort (s : State) (n : Fin 4) : BrdPort := s.brd.ports[n]

/-- A port's state replaced. -/
def State.setBrdPort (s : State) (n : Fin 4) (p : BrdPort) : State := { s with brd := { s.brd with ports := s.brd.ports.set n p } }

/-- A port's role (R170). -/
def State.role (s : State) (n : Fin 4) : Nat := s.rd Ix.brdPortRole (n.val + 1)

/-- Whether a port's link is up. -/
def State.braidUp (s : State) (n : Fin 4) : Bool := s.runs (.brd n) && s.rd Ix.brdLinkState (n.val + 1) == 2

/-- The ports with a role (R170). -/
def State.rolePorts (s : State) (role : Nat) : List (Fin 4) := (List.finRange 4).filter (fun n => s.role n == role)

/-- Whether every port of a role is down: in Link state 4 or 5, Stopped or Faulted (R181, R185). -/
def State.roleDown (s : State) (role : Nat) : Bool :=
  (s.rolePorts role).all (fun n =>
    !s.runs (.brd n) || s.rd Ix.brdLinkState (n.val + 1) == 4 || s.rd Ix.brdLinkState (n.val + 1) == 5)

/-! ### Training -/

/-- A port of a Running function with a role begins to train (R171). -/
def State.braidTrain (s : State) (n : Fin 4) (linkState : Nat) : State :=
  if s.role n = 0 then s
  else (s.setBrdPort n { s.brdPort n with train := .first }).wr Ix.brdLinkState (n.val + 1) linkState

/-- A port loses what is in flight: its flits and their messages (R176, R185). -/
def State.braidDrop (s : State) (n : Fin 4) : State :=
  s.setBrdPort n { train := (s.brdPort n).train, inbox := (s.brdPort n).inbox }

/-- A retraining starts (R174, R176). -/
def State.braidRetrain (s : State) (n : Fin 4) : State :=
  let t := (s.braidDrop n).braidTrain n 3
  (t.bumpSat Ix.brdRetrains (n.val + 1) 1).cross (eventCode 12 n.val 2) none 0

/-- A training attempt fails: the first backs off for its one retry, the second takes the link down (R173). -/
def State.braidFails (s : State) (n : Fin 4) : State :=
  let p := s.brdPort n
  let sub := n.val + 1
  match p.train with
  | .first => s.setBrdPort n { p with train := .backOff }
  | .retry =>
    let t := (((s.retryLasting 7).setBrdPort n { p with train := .idle }).setBit Ix.brdLinkStatus sub blTrainFail).setBit Ix.brdLinkStatus sub blDown
    ((t.wr Ix.brdLinkState sub 4).bumpSat Ix.brdLinkDownCount sub 1).cross (eventCode 12 n.val 1) none 0
  | _ => s

/-- The back-off ends and the retry begins (R173). -/
def State.braidRetry (s : State) (n : Fin 4) : State :=
  let p := s.brdPort n
  if p.train = .backOff then s.setBrdPort n { p with train := .retry } else s

/-- The retrain interval ends on a link that is down or mismatched (R171, R173). -/
def State.braidAgain (s : State) (n : Fin 4) : State :=
  let st := s.rd Ix.brdLinkState (n.val + 1)
  if s.runs (.brd n) && (st == 4 || st == 5) then s.braidTrain n 1 else s

/-- Whether a partner's identity fits this device's end of the link (R171, step 4). -/
def State.partnerFits (s : State) (n : Fin 4) (p : BraidPartner) : Bool :=
  let base := s.rd Ix.stxColumnBase 0
  let w := s.localWidth s.placesNow
  p.role.toNat + s.role n == 3 && s.role n != 0 && p.blend.toNat == s.rd Ix.stxBlendWidth 0 &&
  p.exchange.toNat == s.rd Ix.brdExchangeWidth 0 &&
  (if s.role n = roleFar then p.base.toNat == base + w else base == p.base.toNat + p.width.toNat)

/-- The identity of a partner as it is shown (R189). -/
def partnerOctets (p : BraidPartner) : Octets :=
  leBytes 8 p.serial.toNat ++ leBytes 2 p.node.toNat ++ leBytes 1 p.port.toNat ++ leBytes 1 p.role.toNat ++ leBytes 4 p.base.toNat

/-- The preset with the largest reported eye; the lowest of equal ones (R171, step 6). DESIGN CHOICE: the spec gives no rule for equal
eyes. -/
def bestPreset : List Nat → Nat → Nat × Nat
  | [], k => (k, 0)
  | e :: es, k =>
    let r := bestPreset es (k + 1)
    if r.2 ≤ e then (k, e) else r

/-! ### Flits -/

/-- A flit's octets (R175). -/
def flitOctets (type flags seq ack : Nat) (nak : Bool) (credits : Nat) (payload : Octets) : Octets :=
  let body := leBytes 1 type ++ leBytes 1 flags ++ leBytes 2 seq ++ leBytes 2 (ack + 4096 * bitNat nak) ++ leBytes 2 credits ++
    (payload ++ zeros 64).take 64 ++ zeros 4
  body ++ leBytes 4 (crc32c body)

/-- The last sequence received in order. DEDUCED: the first flit after training has sequence 0. -/
def BrdPort.lastGood (p : BrdPort) : Nat := (p.rx + 4095) % 4096

/-- An idle flit with the acknowledgement and the credits owed (R175, R176). -/
def State.sendIdle (s : State) (n : Fin 4) (nak : Bool) : State :=
  let p := s.brdPort n
  (s.setBrdPort n { p with owed := 0 }).emit (.flit n.val (flitOctets 0 0 0 p.lastGood nak p.owed []))

/-- Waiting flits leave while there is credit and room in the replay buffer of 256 flits (R175, R176). -/
def State.pumpFlits (s : State) (n : Fin 4) : Nat → State
  | 0 => s
  | fuel + 1 =>
    let p := s.brdPort n
    match p.waiting with
    | [] => s
    | (type, flags, payload) :: rest =>
      if p.credits = 0 ∨ 256 ≤ p.replay.length then s
      else
        let flit := flitOctets type flags p.tx p.lastGood false p.owed payload
        let t := s.setBrdPort n { p with waiting := rest, credits := p.credits - 1, tx := (p.tx + 1) % 4096, owed := 0,
                                         replay := p.replay ++ [(p.tx, flit)] }
        let t := (t.emit (.flit n.val flit)).bump Ix.brdFlitsSent (n.val + 1) 1
        (t.raiseTo Ix.brdReplayBufferHighWater (n.val + 1) (p.replay.length + 1)).pumpFlits n fuel

/-- A message cut into flits: the first and the last are marked (R175). -/
def flitsOf (type : Nat) (first : Bool) : Nat → Octets → List (Nat × Nat × Octets)
  | 0, _ => []
  | fuel + 1, m =>
    if m.length ≤ 64 then [(type, bitNat first + 2, m)]
    else (type, bitNat first, m.take 64) :: flitsOf type false fuel (m.drop 64)

/-- A message goes out on every port of a role whose link is up (R170). -/
def State.braidSend (s : State) (role type : Nat) (m : Octets) : State :=
  (s.rolePorts role).foldl (fun t n =>
    if t.braidUp n then
      let p := t.brdPort n
      let fs := flitsOf type true (m.length / 64 + 1) m
      (t.setBrdPort n { p with waiting := p.waiting ++ fs }).pumpFlits n (p.waiting.length + fs.length)
    else t) s

/-- A flit as it is resent: replay set, its CRC formed anew (R176). -/
def replayed (f : Octets) : Octets :=
  let body := (f.take 1 ++ leBytes 1 (octAt f 1 ||| 4) ++ f.drop 2).take 76
  body ++ leBytes 4 (crc32c body)

/-- The transmitter resends every unacknowledged flit in order (R176). -/
def State.resendFlits (s : State) (n : Fin 4) : State :=
  let p := s.brdPort n
  p.replay.foldl (fun t f => (t.emit (.flit n.val (replayed f.2))).bump Ix.brdFlitsSent (n.val + 1) 1)
    (s.setBrdPort n { p with resent := p.replay.map (fun f => f.1) })

/-- A flit failed on its one retry: the failure is lasting and the link retrains (R176). -/
def State.flitLasting (s : State) (n : Fin 4) : State :=
  ((s.retryLasting 2).setBit Ix.brdLinkStatus (n.val + 1) blLasting).braidRetrain n

/-- The flits without an acknowledgement are resent; where the oldest of them was resent before, it has failed again (R176). -/
def State.flitsFail (s : State) (n : Fin 4) : State :=
  let p := s.brdPort n
  if p.replay.head?.any (fun f => p.resent.contains f.1) then s.flitLasting n else s.resendFlits n

/-- An acknowledgement takes the flits up to its sequence out of the replay buffer (R176). -/
def State.flitAcked (s : State) (n : Fin 4) (ack : Nat) : State :=
  let p := s.brdPort n
  match p.replay.findIdx? (fun f => f.1 == ack) with
  | some i =>
    let left := p.replay.drop (i + 1)
    s.setBrdPort n { p with replay := left, resent := p.resent.filter (fun q => left.any (fun f => f.1 == q)) }
  | none => s

/-- A NAK: every flit after the acknowledged sequence is resent (R176). -/
def State.flitNak (s : State) (n : Fin 4) (ack : Nat) : State :=
  if s.braidUp n then (s.flitAcked n ack).flitsFail n else s

/-- A received flit fails: discarded, counted, answered with a NAK; `again` is a sequence number that failed and fails on its replay, a lasting
failure (R176). DESIGN CHOICE: while a NAK is out, the flits behind the failed one that were already under way are counted and bring no further
NAK, which would ask for a second resend. -/
def State.flitBad (s : State) (n : Fin 4) (again : Bool) : State :=
  let sub := n.val + 1
  let p := s.brdPort n
  let t := (s.bump Ix.brdCRCErrors sub 1).setBit Ix.brdLinkStatus sub blCrcErr
  if again then t.flitLasting n
  else if p.naked then t
  else (t.setBrdPort n { p with naked := true }).sendIdle n true

/-- A good flit in sequence: the message it belongs to grows, and is whole with its last flit (R175, R176). -/
def State.flitGood (s : State) (n : Fin 4) (f : Octets) : State :=
  let sub := n.val + 1
  let p := s.brdPort n
  let flags := octAt f 1
  let got := (if flags.testBit 0 then [] else p.partial_) ++ (f.drop 8).take 64
  let whole := flags.testBit 1
  let known := octAt f 0 == msgOverlap || octAt f 0 == msgBlobEdge || octAt f 0 == msgRejoin
  let t := (s.setBrdPort n { p with rx := (p.rx + 1) % 4096, naked := false, owed := p.owed + 1,
                                    partial_ := if whole then [] else got,
                                    inbox := if whole && known then p.inbox ++ [{ type := octAt f 0, payload := got }] else p.inbox }).bump
    Ix.brdFlitsReceived sub 1
  if flags.testBit 2 then ((t.retryTransient 2 n.val).bump Ix.brdReplays sub 1).setBit Ix.brdLinkStatus sub blReplay else t

/-- A flit arrives (R176): one that fails its CRC or is out of sequence is discarded whole, its acknowledgement and credits with it. -/
def State.flitReceive (s : State) (n : Fin 4) (f : Octets) : State :=
  if !s.runs (.brd n) then s.discard (.brd n) 1
  else if !s.braidUp n then s
  else
    let replay := (octAt f 1).testBit 2
    if leAt f 76 4 ≠ crc32c (f.take 76) ∨ (octAt f 0 ≠ 0 ∧ leAt f 2 2 % 4096 ≠ (s.brdPort n).rx) then
      s.flitBad n (replay && (s.brdPort n).naked)
    else
      let ack := leAt f 4 2
      let t := if ack.testBit 12 then s.flitNak n (ack % 4096) else s.flitAcked n (ack % 4096)
      let p := t.brdPort n
      let t := (t.setBrdPort n { p with credits := min 512 (p.credits + leAt f 6 2) }).pumpFlits n p.waiting.length
      if octAt f 0 = 0 || !t.braidUp n then t else t.flitGood n f

/-- The first received message of a type that waits at a port, taken from it. -/
def State.takeMessage (s : State) (n : Fin 4) (type : Nat) : State × Option Octets :=
  let p := s.brdPort n
  match p.inbox.find? (fun m => m.type == type) with
  | some m => (s.setBrdPort n { p with inbox := p.inbox.erase m }, some m.payload)
  | none => (s, none)

/-- Whether a message of a role and type is the first good copy for its LP (R170). -/
def State.firstCopy (s : State) (role type lp : Nat) : Bool := !s.brd.used.contains ((role, type), lp)

/-- A message of a role and type has been used (R170). -/
def State.copyUsed (s : State) (role type lp : Nat) : State :=
  { s with brd := { s.brd with used := ((role, type), lp) :: s.brd.used } }

/-! ### Bring-up -/

/-- The rejoin message (R182). PRESUMED: it holds the strip number as a U64. -/
def rejoinOctets (strip : Nat) : Octets := leBytes 8 strip

/-- When a link comes up while its seam runs unstitched, the far-side device names the strip of the rejoin (R182): the device whose
neighbour is on the operator side. -/
def State.sendRejoin (s : State) (role : Nat) : State :=
  match s.stx.next with
  | some l =>
    if role = roleOp ∧ s.rd Ix.brdBraidSeamState role = 1 then
      let strip := l / s.strip + 2
      let t : State := { s with stx := { s.stx with rejoin := (role, strip) :: s.stx.rejoin.filter (fun r => r.1 != role) } }
      t.braidSend role msgRejoin (rejoinOctets strip)
    else s
  | none => s

/-- A training's bring-up ends (R171 to R173): with a partner that does not fit, a mismatch; with too small an eye, a failure; else the
link is up. `reports` are the smallest lane eyes the partner reports for the presets 0 to 7, `eye` the smallest this side measured. -/
def State.braidComplete (s : State) (n : Fin 4) (partner : BraidPartner) (reports : List Nat) (eye : Nat)
    (laneMap taps skew : Octets) (micros : Nat) : State :=
  let sub := n.val + 1
  let p := s.brdPort n
  if !(s.runs (.brd n) && (p.train == .first || p.train == .retry)) then s
  else if !s.partnerFits n partner then
    ((s.setBrdPort n { p with train := .idle }).wr Ix.brdLinkState sub 5).setBit Ix.brdLinkStatus sub blRoleMismatch
  else
    let forcedPreset := s.rd Ix.brdTXPresetOverride sub
    let best := bestPreset (reports.take 8) 0
    if forcedPreset = 255 ∧ best.2 < s.rd Ix.brdEyeMinimum sub then s.braidFails n
    else
      let s := if p.train = .retry then s.retryTransient 7 n.val else s
      let t := s.setBrdPort n { inbox := p.inbox }
      let t := (t.wr Ix.brdLinkState sub 2).wr Ix.brdTXPresetInUse sub (if forcedPreset = 255 then best.1 else forcedPreset)
      let t := ((t.wr Ix.brdEyeWidthMinimum sub eye).wr Ix.brdTrainingTime sub micros).wro Ix.brdPartnerIdentity sub
        (partnerOctets partner)
      let t := ((((t.wro Ix.brdLaneMap sub laneMap).wro Ix.brdLaneSamplingDelay sub taps).wro Ix.brdLaneSkew sub skew).calCount 9 n.val 5).calBase 9 n.val taps
      (t.cross (eventCode 12 n.val 0) none 0).sendRejoin (s.role n)

/-- STOP, ABORT and Faulted end a link at once (R185). DEDUCED: its Link state then reads down. -/
def State.braidStops (s : State) (n : Fin 4) : State :=
  let t := s.setBrdPort n {}
  if s.role n = 0 then t else t.wr Ix.brdLinkState (n.val + 1) 4

/-- A lane's sampling delay moves by one tap (R174). -/
def State.braidTap (s : State) (n : Fin 4) (lane : Fin 8) (up : Bool) : State :=
  let taps := s.rdo Ix.brdLaneSamplingDelay (n.val + 1)
  let v := octAt taps lane.val
  let v' := if up then min 127 (v + 1) else v - 1
  if !s.braidUp n then s
  else if !s.driftAllows 9 n.val lane.val v' then s.setBit Ix.calCalibrationStatus 0 11
  else (s.wro Ix.brdLaneSamplingDelay (n.val + 1) (taps.set lane.val (BitVec.ofNat 8 v'))).calCount 9 n.val 4

/-- The live bits of Link status (R189): LINK_UP, TRAINING. -/
def State.braidLive (s : State) (n : Fin 4) : Nat :=
  let st := s.rd Ix.brdLinkState (n.val + 1)
  bitNat (st == 2) + 2 * bitNat (st == 1 || st == 3)

end Sys2Proof.Machine
end

