-- ==== Sys2Proof/Machine/Correlate.lean ====
section
/-! DEFINITION. The normalised correlation of two sequences over lags and the parabolic fit through its peak (R164, R217). -/

namespace Sys2Proof.Machine

/-- The largest number below 2^k whose square does not exceed `n`, if the root is below 2^k. -/
def sqrtBits (n : Nat) : Nat → Nat → Nat
  | 0, r => r
  | k + 1, r => sqrtBits n k (if (r + 2 ^ k) * (r + 2 ^ k) ≤ n then r + 2 ^ k else r)

/-- A pair of samples added to the sums. -/
def PairSums.add (a : PairSums) (x y : Int) : PairSums :=
  { n := a.n + 1, x := a.x + x, y := a.y + y, xx := a.xx + x * x, yy := a.yy + y * y, xy := a.xy + x * y }

/-- The sums of paired samples. -/
def pairSums (ps : List (Int × Int)) : PairSums := ps.foldl (fun a p => a.add p.1 p.2) {}

/-- The normalised correlation ρ of paired samples, times `scale`, rounded down; 0 where one side does not vary. PRESUMED: the spec says
'normalised correlation' (R164, R217) and means the coefficient of the samples less their means. -/
def rho (scale : Nat) (p : PairSums) : Int :=
  let c := p.n * p.xy - p.x * p.y
  let d := (p.n * p.xx - p.x * p.x) * (p.n * p.yy - p.y * p.y)
  if d = 0 then 0
  else
    let square := c * c * (scale * scale : Nat)
    let m : Int := sqrtBits (square / d).toNat 32 0
    if 0 ≤ c then m else if m * m * d = square then -m else -m - 1

/-- The scale at which ρ enters the fit. -/
abbrev rhoScale : Nat := 2 ^ 30

/-- The place of the largest of some values: the first of equal ones. DESIGN CHOICE: the spec gives no rule for equal peaks. -/
def peakPlace (ys : List Int) : Nat := (ys.zipIdx.foldl (fun (best : Int × Nat) y => if best.1 < y.1 then y else best) (ys.headD 0, 0)).2

/-- The vertex of the parabola through a peak and its two neighbours, in 1/256 lag from the peak: rounded down or up, as Config.fitUp leaves
open; where the three values do not bend downward, a free value. -/
def vertex (free : Nat) (before at_ after : Int) : Int :=
  let den := 2 * at_ - before - after
  if den ≤ 0 then clampInt (-128) 128 (Config.flatPeak free)
  else
    let num := 128 * (after - before)
    if num % den = 0 then num / den else num / den + bitNat (Config.fitUp num den)

/-- The refined lag of the highest of the 2R + 1 values of lags −R to R, in 1/256 lag (R164, R217); at a lag of −R or R the fit lacks a
neighbour, and what it adds is free. -/
def refinedLag (free r : Nat) (ys : List Int) : Int :=
  let i := peakPlace ys
  256 * ((i : Int) - r) +
    (if i = 0 ∨ ys.length ≤ i + 1 then clampInt (-128) 128 (Config.flatPeak free)
     else vertex free (ys.getD (i - 1) 0) (ys.getD i 0) (ys.getD (i + 1) 0))

/-- The lags from −R to R. -/
def lags (r : Nat) : List Int := (List.range (2 * r + 1)).map (fun (i : Nat) => (i : Int) - r)

end Sys2Proof.Machine
end

