-- ==== Sys2Proof/Machine/Stx.lean ====
section
/-! DEFINITION. The stitcher: alignment, seams, blending, seam offsets (R153 to R188). -/

namespace Sys2Proof.Machine

/-- The positions of the sticky flags of Stitch status (R187). -/
abbrev ssLate : Nat := 1
abbrev ssStoreLimit : Nat := 2
abbrev ssSeamLimit : Nat := 3
abbrev ssUnstitchedOp : Nat := 4
abbrev ssLpMismatch : Nat := 6
abbrev ssNeighbourLate : Nat := 7

/-- The flags of a stitched column (R156). -/
abbrev colMissing : Nat := 16
abbrev colUnstitched : Nat := 32
abbrev colBlended : Nat := 64

/-! ### Ramps -/

/-- A geometric ramp's value after one more line, and what is left of it (R17, R160). -/
def Ramp.next (r : Ramp) : Int × Option Ramp :=
  let k := r.step + 1
  (rampValue (r.old.getD 0 0) (r.new.getD 0 0) k r.len, if k < r.len then some { r with step := k } else none)

/-- Each camera's Mount delay and Cross shift move on by one line (R160). -/
def State.stepRamps (s : State) : State :=
  (List.finRange 32).foldl (fun t n =>
    let t := match t.stx.delayRamp[n] with
      | some r =>
        let u := { t.wrI Ix.stxDelayInForce (n.val + 1) r.next.1 with stx := { t.stx with delayRamp := t.stx.delayRamp.set n r.next.2 } }
        if r.next.2.isNone then u.calArrived 5 n.val else u
      | none => t
    match t.stx.shiftRamp[n] with
      | some r =>
        let u := { t.wrI Ix.stxShiftInForce (n.val + 1) r.next.1 with stx := { t.stx with shiftRamp := t.stx.shiftRamp.set n r.next.2 } }
        if r.next.2.isNone then u.calArrived 6 n.val else u
      | none => t) s

/-- Whether a camera's geometric ramp runs. -/
def State.ramping (s : State) (n : Nat) : Bool :=
  (s.stx.delayRamp.toList.getD n none).isSome || (s.stx.shiftRamp.toList.getD n none).isSome

/-- A value written to Mount delay (R17, R160): a ramp from the delay in force while STX is Running or Draining, else at once. -/
def State.setDelay (s : State) (n : Fin 32) (v : Int) : State :=
  let t := s.wrI Ix.stxMountDelay (n.val + 1) v
  if s.stxTakes then
    let r : Ramp := { old := [s.rdI Ix.stxDelayInForce (n.val + 1)], new := [v], step := 0, len := s.rd Ix.stxGeometricRampLength 0 }
    { t with stx := { t.stx with delayRamp := t.stx.delayRamp.set n (some r) } }
  else
    ({ t.wrI Ix.stxDelayInForce (n.val + 1) v with stx := { t.stx with delayRamp := t.stx.delayRamp.set n none } } : State).calArrived 5 n.val

/-- A value written to Cross shift (R17, R160, R161). -/
def State.setShift (s : State) (n : Fin 32) (v : Int) : State :=
  let t := s.wrI Ix.stxCrossShift (n.val + 1) v
  if s.stxTakes then
    let r : Ramp := { old := [s.rdI Ix.stxShiftInForce (n.val + 1)], new := [v], step := 0, len := s.rd Ix.stxGeometricRampLength 0 }
    { t with stx := { t.stx with shiftRamp := t.stx.shiftRamp.set n (some r) } }
  else
    ({ t.wrI Ix.stxShiftInForce (n.val + 1) v with stx := { t.stx with shiftRamp := t.stx.shiftRamp.set n none } } : State).calArrived 6 n.val

/-- Whether a Mount delay fits the camera's bank (R158). -/
def State.delayFits (s : State) (n : Fin 32) (v : Int) : Bool :=
  decide (s.bankUse (s.rd Ix.cptPipeline (n.val + 1)) [(n.val, v)] ≤ bankSize)

/-- A request writes Mount delay (R158, R160, R167). -/
def State.delayWrite (s : State) (n : Fin 32) (v : Int) : State × Code :=
  if s.delayFits n v then
    let t := s.setDelay n v
    ({ t with stx := { t.stx with wrote := n.val :: t.stx.wrote } }, .ok)
  else (s.setBit Ix.stxStitchStatus 0 ssStoreLimit, .outOfRange)

/-- A request writes Cross shift (R161, R167). -/
def State.shiftWrite (s : State) (n : Fin 32) (v : Int) : State × Code :=
  let t := s.setShift n v
  ({ t with stx := { t.stx with wrote := n.val :: t.stx.wrote } }, .ok)

/-! ### Along the web -/

/-- The source lines of a camera for a stitched line, with their weights (R157); `last` is the strip's last line where a drain
replaces lines beyond it (R184). -/
def sourceLines (d : Int) (l : Nat) (last : Option Nat) : List (Int × Nat) :=
  let k := d / 65536
  let f := (d % 65536).toNat
  let clip (x : Int) : Int := match last with
    | some e => min x e
    | none => x
  if f = 0 then [(clip (l - k), 65536)] else [(clip (l - k), 65536 - f), (clip (l - k - 1), f)]

/-- The planes of a camera's line in the store, none where the line is a marker or lies outside what STX took (R157). -/
def State.storeLine (s : State) (n : Fin 32) (l : Int) : Option (List Plane) :=
  if l < s.stx.first then none else ((s.stxCam n).lines.find? (fun x => (x.line : Int) == l)).bind (fun x => x.planes)

/-- Two lines weighted (R157). -/
def mixPlanes (f : Nat) (a b : List Plane) : List Plane :=
  (a.zip b).map (fun p => (p.1.zip p.2).map (fun q => ⟨((65536 - f) * q.1.v + f * q.2.v + 32768) / 65536, q.1.f ||| q.2.f⟩))

/-- What a camera supplies for a stitched line (R157). -/
def State.alignCam (s : State) (n : Fin 32) (l : Nat) (last : Option Nat) : Option (List Plane) :=
  match sourceLines (s.rdI Ix.stxDelayInForce (n.val + 1)) l last with
  | [(a, _)] => s.storeLine n a
  | [(a, _), (b, f)] =>
    match s.storeLine n a, s.storeLine n b with
    | some x, some y => some (mixPlanes f x y)
    | _, _ => none
  | _ => none

/-- Whether a camera has not yet delivered the lines a stitched line needs (R159). -/
def State.camLate (s : State) (n : Fin 32) (l : Nat) (last : Option Nat) : Bool :=
  (sourceLines (s.rdI Ix.stxDelayInForce (n.val + 1)) l last).any
    (fun x => match (s.stxCam n).high with
      | some h => decide ((h : Int) < x.1)
      | none => true)

/-! ### Across the web -/

/-- A place with the camera's shift in force and its aligned planes for a line. -/
structure Strip where
  place : StxPlace
  shift : Int
  planes : Option (List Plane)
  deriving DecidableEq, Repr

/-- The position of a column in a camera's output, in units of 2^−16 pixel (R161). -/
def Strip.position (t : Strip) (c : Int) : Int := (c - t.place.x) * 65536 - t.shift

/-- Whether a camera's output covers a column after its shift (R161). -/
def Strip.covers (t : Strip) (c : Int) : Bool :=
  decide (0 ≤ t.position c) && decide (t.position c ≤ ((t.place.width : Int) - 1) * 65536)

/-- A camera's sample at a column (R161): its components and flags. -/
def Strip.sample (t : Strip) (c : Int) : Option Column :=
  match t.planes with
  | none => none
  | some ps =>
    if !t.covers c then none
    else
      let p := t.position c
      let i := (p / 65536).toNat
      let w := ((p % 65536) / 256).toNat
      let mix (pl : Plane) : Nat :=
        if w = 0 then (pxAt pl i).v else ((256 - w) * (pxAt pl i).v + w * (pxAt pl (i + 1)).v + 128) / 256
      let fl (pl : Plane) : Nat := (pxAt pl i).f ||| (if w = 0 then 0 else (pxAt pl (i + 1)).f)
      some { vs := ps.map mix, f := ps.foldl (fun g pl => g ||| fl pl) 0 &&& 7 }

/-- The weight of the next camera in a blend band, in units of 1/256 (R162). -/
def blendWeight (c c0 : Int) (b : Nat) : Nat := (128 * (2 * (c - c0) + b + 1) / b).toNat

/-- Whether a column lies in the blend band of a cut (R162). -/
def inBand (c c0 : Int) (b : Nat) : Bool := decide (c0 - (b / 2 : Nat) ≤ c) && decide (c < c0 + (b / 2 : Nat))

/-- Two cameras' samples blended (R156, R162). -/
def blend (w : Nat) (p q : Column) : Column :=
  let vs := (p.vs.zip q.vs).map (fun x => ((256 - w) * x.1 + w * x.2 + 128) / 256)
  if w = 0 then { vs := vs, f := p.f }
  else if w = 256 then { vs := vs, f := q.f }
  else { vs := vs, f := p.f ||| q.f ||| colBlended }

/-- One side or the other of a seam, or both blended (R162, R163). -/
def seamSample (c c0 : Int) (b : Nat) (p q : Option Column) : Option Column :=
  match p, q with
  | some x, some y => some (blend (blendWeight c c0 b) x y)
  | some x, none => some x
  | none, y => y

/-- A column that no camera supplies: MISSING, and OUTSIDE too where none covers it (R156, R161, R163). -/
def emptyColumn (channels : Nat) (covered : Bool) : Column :=
  { vs := List.replicate channels 0, f := if covered then colMissing else pxOutside ||| colMissing }

/-- A column's sample by the local seams (R162, R163). -/
def localSample (ts : List Strip) (cuts : List Int) (b : Nat) (fill : Bool) (c : Int) : Option Column :=
  let at_ (i : Nat) : Option Column := (ts[i]?).bind (fun t => t.sample c)
  match cuts.findIdx? (fun c0 => inBand c c0 b) with
  | some i => seamSample c (cuts.getD i 0) b (at_ i) (at_ (i + 1))
  | none =>
    let own := ownerOf cuts c
    match at_ own with
    | some x => some x
    | none => if !fill then none else
        match (if own = 0 then none else at_ (own - 1)) with
        | some x => some x
        | none => at_ (own + 1)

/-- A neighbour's sample at a local column (R177): none where its camera or the column is missing. -/
def Overlap.sample (m : Overlap) (base : Nat) (c : Int) : Option Column :=
  let i := c + base - m.first
  if m.missing ∨ i < 0 ∨ (m.count : Int) ≤ i then none
  else
    let f := (pxAt (m.planes.getD 0 []) i.toNat).f
    if f.testBit 4 then none else some { vs := m.planes.map (fun p => (pxAt p i.toNat).v), f := f &&& 7 }

/-- How a Braid seam stands for a line: its role, its join in local columns, its band's width, whether it runs unstitched, and the
neighbour's message. -/
structure BraidSeam where
  role : Nat
  join : Int
  exchange : Nat
  unstitched : Bool
  message : Option Overlap
  deriving DecidableEq, Repr

/-- The Braid seam in whose band a column lies. -/
def bandOf (seams : List BraidSeam) (c : Int) : Option BraidSeam :=
  seams.find? (fun m => decide (m.join - (m.exchange / 2 : Nat) ≤ c) && decide (c < m.join + (m.exchange / 2 : Nat)))

/-- A column with UNSTITCHED where its band's seam runs unstitched (R156, R181). -/
def markBand (seam : Option BraidSeam) (x : Column) : Column :=
  if seam.any (fun m => m.unstitched) then { x with f := x.f ||| colUnstitched } else x

/-- A local column with its Braid seams (R163, R179, R181). -/
def stitchColumn (ts : List Strip) (cuts : List Int) (seams : List BraidSeam) (base b channels : Nat) (fill : Bool) (c : Int) :
    Column :=
  let own := localSample ts cuts b fill c
  let covered := ts.any (fun t => t.covers c)
  let seam := bandOf seams c
  let got := match seam with
    | none => own
    | some m =>
      let other := if m.unstitched then none else m.message.bind (fun x => x.sample base c)
      if inBand c m.join b then (if m.role = roleOp then seamSample c m.join b other own else seamSample c m.join b own other)
      else if own.isNone && fill then other else own
  markBand seam (got.getD (emptyColumn channels covered))

/-! ### Forming a line -/

/-- The number of channels of the output space (R135). -/
def State.channels (s : State) : Nat := if s.rd Ix.iplOutputSpace 0 = 2 then 1 else 3

/-- A camera's strip for a stitched line. -/
def State.stripOf (s : State) (l : Nat) (last : Option Nat) (p : StxPlace) : Strip :=
  { place := p, shift := s.rdI Ix.stxShiftInForce (p.cam + 1), planes := s.alignCam (Fin.ofNat 32 p.cam) l last }

/-- The tag of a line number: from any camera that has delivered it (R155). -/
def State.lineTag (s : State) (l : Nat) : Option (Nat × Nat) :=
  s.stx.places.findSome? (fun p =>
    ((s.stxCam (Fin.ofNat 32 p.cam)).lines.find? (fun x => x.line == l)).map (fun x => (x.lp, x.time)))

/-- Whether a Braid seam of a role runs stitched (R181). -/
def State.seamStitched (s : State) (role : Nat) : Bool := s.rd Ix.brdBraidSeamState role == 0

/-- Whether a message's LP and a local line's differ by no more than the tolerance (R178). -/
def State.lpMatches (s : State) (a b : Nat) : Bool := decide ((if a ≤ b then b - a else a - b) ≤ s.rd Ix.stxLPTolerance 0)

/-- The message of a role for a local line: that of the same line number, if its LP fits (R178). DEDUCED: a message's line number is the
whole part of its LP. -/
def State.messageFor (s : State) (role l lp : Nat) : Option Overlap :=
  s.stx.neighbours.find? (fun m => m.role == role && m.lp / 2 ^ 16 == l && s.lpMatches m.lp lp)

/-- The Braid seams of a line. -/
def State.braidSeams (s : State) (l lp : Nat) : List BraidSeam :=
  [roleOp, roleFar].filterMap (fun r =>
    if s.rolePorts r = [] then none
    else some { role := r, join := if r = roleOp then 0 else (s.stx.width : Int), exchange := s.rd Ix.brdExchangeWidth 0,
                unstitched := s.rd Ix.brdBraidSeamState r == 1, message := s.messageFor r l lp })

/-- The stitched line L (R154 to R163): `truncated` emits it with every column MISSING (R184). -/
def State.stitch (s : State) (l : Nat) (last : Option Nat) (truncated : Bool) : Stitched :=
  let tag := (s.lineTag l).getD (l * 2 ^ 16, Config.lineTime s.free % 2 ^ 64)
  let ts := s.stx.places.map (s.stripOf l last)
  let seams := s.braidSeams l tag.1
  let b := s.rdf Ix.stxBlendWidth 0
  let fill := s.rd Ix.stxOverlapFill 0 == 1
  let cuts := cutsOf s.stx.places
  let cols := (List.range s.stx.width).map (fun (c : Nat) =>
    if truncated then markBand (bandOf seams c) (emptyColumn s.channels true)
    else stitchColumn ts cuts seams (s.rd Ix.stxColumnBase 0) b s.channels fill c)
  let missing := ((ts.filter (fun t => truncated || t.planes.isNone)).map (fun t => 2 ^ t.place.cam)).sum
  let without (r : Nat) : Bool := seams.any (fun m => m.role == r && (truncated || m.unstitched || m.message.all (fun o => o.missing)))
  let geom := s.stx.places.any (fun p => s.ramping p.cam)
  { line := l, lp := tag.1, time := tag.2, missing := missing, index := l % s.strip,
    flags := bitNat (l % s.strip == 0) + 2 * bitNat geom + 4 * bitNat (without roleOp) + 8 * bitNat (without roleFar) +
      16 * bitNat truncated,
    code := s.outputCode, base := s.rd Ix.stxColumnBase 0, width := s.stx.width, cols := cols }

/-! ### Overlap messages -/

/-- A sample in the store format of an overlap message (R177). -/
def sampleOctets (x : Column) : Octets := x.vs.flatMap (fun v => leBytes 2 v) ++ leBytes 1 x.f ++ leBytes 1 0

/-- The overlap message of this device's own samples of a Braid band; none are there of a line that is cut off (R177, R184). -/
def State.overlapMessage (s : State) (role l : Nat) (last : Option Nat) (truncated : Bool) : Octets :=
  let tag := (s.lineTag l).getD (l * 2 ^ 16, 0)
  let ts := (s.stx.places.map (s.stripOf l last)).map (fun t => if truncated then { t with planes := none } else t)
  let e := s.rd Ix.brdExchangeWidth 0
  let join : Int := if role = roleOp then 0 else (s.stx.width : Int)
  let cols := (List.range e).map (fun (i : Nat) =>
    let c := join - (e / 2 : Nat) + i
    (localSample ts (cutsOf s.stx.places) (s.rdf Ix.stxBlendWidth 0) (s.rd Ix.stxOverlapFill 0 == 1) c).getD
      (emptyColumn s.channels (ts.any (fun t => t.covers c))))
  let edge := if role = roleOp then ts.head? else ts.getLast?
  let first := ((s.rd Ix.stxColumnBase 0 : Int) + join - (e / 2 : Nat)).toNat
  leBytes 8 tag.1 ++ leBytes 4 first ++ leBytes 2 e ++ leBytes 1 s.outputCode ++
  leBytes 1 (bitNat (edge.any (fun t => t.planes.isNone))) ++ cols.flatMap sampleOctets

/-- The lines beyond which a draining strip takes no source (R184): once every camera has closed the strip. -/
def State.drainEnd (s : State) : Option Nat :=
  match s.stx.stopStrip with
  | some k =>
    if s.stx.places.all (fun p => (s.stxCam (Fin.ofNat 32 p.cam)).closed.any (fun c => decide (k ≤ c))) then some ((k + 1) * s.strip - 1)
    else none
  | none => none

/-- The overlap messages of a line go to the neighbours of the stitched seams (R177). -/
def State.sendOverlaps (s : State) (l : Nat) (truncated : Bool) : State :=
  [roleOp, roleFar].foldl (fun t r =>
    if t.seamStitched r then t.braidSend r msgOverlap (t.overlapMessage r l t.drainEnd truncated) else t) s

/-- An overlap message as it was received (R177). -/
def parseOverlap (role channels : Nat) (m : Octets) : Overlap :=
  let count := leAt m 12 2
  let size := 2 * channels + 2
  let at_ (i : Nat) : Octets := (m.drop (16 + size * i)).take size
  { role := role, lp := leAt m 0 8, first := leAt m 8 4, count := count, code := octAt m 14, missing := (octAt m 15).testBit 0,
    planes := (List.range channels).map (fun k => (List.range count).map (fun i =>
      ⟨leAt (at_ i) (2 * k) 2, octAt (at_ i) (2 * channels)⟩)) }

/-- The next overlap message received at a port waits for the local line of its number (R178, R179): a copy, or one that comes after its
line, is discarded (R170). -/
def State.overlapReceive (s : State) (n : Fin 4) : State :=
  match s.takeMessage n msgOverlap with
  | (t, none) => t
  | (t, some m) =>
    let o := parseOverlap (t.role n) t.channels m
    if t.stx.neighbours.any (fun x => x.role == o.role && x.lp == o.lp) then t
    else if t.stx.next.all (fun l => decide (o.lp / 2 ^ 16 < l)) then t
    else { t with stx := { t.stx with neighbours := t.stx.neighbours ++ [o] } }

/-- Whether a strip has begun: its first line is begun or formed (R182). -/
def State.stripBegun (s : State) (strip : Nat) : Bool :=
  s.stx.next.any (fun l => decide (strip * s.strip < l) || (strip * s.strip == l && s.stx.sent == some l))

/-- A rejoin message names the strip at which its seam returns to stitched operation; one that names a strip already begun is refused, and the
far-side device sends a new one (R182). PRESUMED: the refusal is the message sent back. -/
def State.rejoinReceive (s : State) (n : Fin 4) : State :=
  match s.takeMessage n msgRejoin with
  | (t, none) => t
  | (t, some m) =>
    let strip := leAt m 0 8
    let role := t.role n
    if role = roleOp then t.sendRejoin role
    else if t.stripBegun strip then t.braidSend role msgRejoin m
    else { t with stx := { t.stx with rejoin := (role, strip) :: t.stx.rejoin.filter (fun r => r.1 != role) } }

/-! ### Seams of a strip boundary -/

/-- A Braid seam at a strip boundary (R181, R182). -/
def State.seamBoundary (s : State) (role : Nat) (l lp time : Nat) : State :=
  let st := s.rd Ix.brdBraidSeamState role
  let bit := ssUnstitchedOp + role - 1
  if s.rolePorts role = [] then (s.wr Ix.brdBraidSeamState role 2).clearBit Ix.stxStitchStatus 0 bit
  else if s.roleDown role then
    if st = 1 then s
    else ((s.wr Ix.brdBraidSeamState role 1).setBit Ix.stxStitchStatus 0 bit).cross (eventCode 11 0 2) (some (lp, time)) (30 + role)
  else if st = 2 then s.wr Ix.brdBraidSeamState role 0
  else if st = 1 ∧ s.stx.rejoin.any (fun r => r.1 == role && r.2 == l / s.strip) then
    ((s.wr Ix.brdBraidSeamState role 0).clearBit Ix.stxStitchStatus 0 bit).cross (eventCode 11 0 3) (some (lp, time)) (30 + role)
  else s

/-- What STX does at a strip's first line (R15, R16, R181). -/
def State.stxBoundary (s : State) (l lp time : Nat) : State :=
  let t := (s.forceAll 0 [Ix.stxBlendWidth]).forceo Ix.stxCrossWebMap 0
  (t.seamBoundary roleOp l lp time).seamBoundary roleFar l lp time

/-! ### Seam offsets -/

/-- The samples of channel 0 of a seam's two cameras over the `n` columns from one on, the lower camera first; none where a column lacks one of
them or has SAT (R164). -/
def seamPairs (lo : Int) (lower upper : Int → Option Column) : Nat → Option (List (Nat × Nat))
  | 0 => some []
  | n + 1 =>
    match lower lo, upper lo, seamPairs (lo + 1) lower upper n with
    | some a, some b, some ps => if (a.f ||| b.f) &&& pxSat = 0 then some ((a.vs.headD 0, b.vs.headD 0) :: ps) else none
    | _, _, _ => none

/-- The samples of a local seam on a line: of the overlap without R columns at each edge, where both cameras are present (R164). -/
def localPairs (r : Nat) (p q : Strip) : Option (List (Nat × Nat)) :=
  if p.planes.isSome && q.planes.isSome then
    seamPairs (q.place.x + r) p.sample q.sample (p.place.stop - q.place.x - 2 * r).toNat
  else none

/-- The samples of a Braid seam on a line, where the neighbour's message is there (R164). -/
def braidPairs (r base : Nat) (ts : List Strip) (cuts : List Int) (b : Nat) (m : BraidSeam) : Option (List (Nat × Nat)) :=
  match m.message with
  | none => none
  | some o =>
    let own := localSample ts cuts b false
    let other := o.sample base
    let lo := m.join - (m.exchange / 2 : Nat) + r
    if m.unstitched || o.missing then none
    else if m.role = roleOp then seamPairs lo other own (m.exchange - 2 * r) else seamPairs lo own other (m.exchange - 2 * r)

/-- Sums by place with one more value each. -/
def addEach (sums vs : List Nat) : List Nat := vs.mapIdx (fun i v => sums.getD i 0 + v)

/-- A seam's sums with one more usable line: at most 4,096 of a strip are used (R164). -/
def SeamSums.add (a : SeamSums) (l : Nat) (ps : List (Nat × Nat)) : SeamSums :=
  if 4096 ≤ a.lines.length then a
  else
    let lower := ps.map (fun p => p.1)
    let upper := ps.map (fun p => p.2)
    { lines := (l, lower.sum, upper.sum) :: a.lines, lower := addEach a.lower lower, upper := addEach a.upper upper }

/-- Each seam's sums after one more stitched line (R164). -/
def State.gatherSeams (s : State) (l lp : Nat) (last : Option Nat) : List SeamSums :=
  let ts := s.stx.places.map (s.stripOf l last)
  let r := s.rd Ix.stxSearchRange 0
  let cuts := cutsOf s.stx.places
  let loc := (ts.zip (ts.drop 1)).map (fun p => localPairs r p.1 p.2)
  let braid (role : Nat) : Option (List (Nat × Nat)) :=
    ((s.braidSeams l lp).find? (fun m => m.role == role)).bind
      (braidPairs r (s.rd Ix.stxColumnBase 0) ts cuts (s.rdf Ix.stxBlendWidth 0))
  s.stx.seams.mapIdx (fun i a =>
    match if i = 31 then braid roleOp else if i = 32 then braid roleFar else loc.getD i none with
    | some ps => a.add l ps
    | none => a)

/-- A seam in force (R164, R165, R183): its number, its cut, the lower and upper camera (255 a neighbour's), whether the follower is the
upper side, and the cameras that move when it is corrected: the follower and those beyond it. None move at a Braid seam where this
device is not the follower. -/
structure Seam where
  number : Nat
  cut : Int
  lower : Nat
  upper : Nat
  followUpper : Bool
  moves : List Nat
  deriving DecidableEq, Repr

/-- The seams in force. A Reference camera that is not included counts as the first. -/
def State.seams (s : State) : List Seam :=
  let ps := s.stx.places
  let cams := ps.map (fun p => p.cam)
  let ref := (cams.idxOf? (s.rd Ix.stxReferenceCamera 0)).getD 0
  let follow := s.rd Ix.brdBraidFollow 0
  let loc := (seamsOf ps).mapIdx (fun i p =>
    let up := decide (ref ≤ i)
    { number := i, cut := cutOf p.1 p.2, lower := p.1.cam, upper := p.2.cam, followUpper := up,
      moves := if up then cams.drop (i + 1) else cams.take (i + 1) : Seam })
  let op : List Seam := if s.rolePorts roleOp = [] then [] else
    [{ number := 31, cut := 0, lower := 255, upper := cams.headD 255, followUpper := follow == 1, moves := if follow = 1 then cams else [] }]
  let far : List Seam := if s.rolePorts roleFar = [] then [] else
    [{ number := 32, cut := s.stx.width, lower := cams.getLastD 255, upper := 255, followUpper := follow != 2,
       moves := if follow = 2 then cams else [] }]
  loc ++ op ++ far

/-- The values of the two cameras at a lag along the web: the lower camera's on a line, the upper one's `k` lines on. -/
def alongPairs (a : SeamSums) (k : Int) : List (Int × Int) :=
  a.lines.filterMap (fun x => (a.lines.find? (fun y => (y.1 : Int) == x.1 + k)).map (fun y => ((x.2.1 : Int), (y.2.2 : Int))))

/-- The values of the two cameras at a lag across the web: the lower camera's in a column, the upper one's `k` columns on. -/
def acrossPairs (a : SeamSums) (k : Int) : List (Int × Int) :=
  (a.lower.zipIdx).filterMap (fun x =>
    let j := (x.2 : Int) + k
    if j < 0 then none else (a.upper[j.toNat]?).map (fun y => ((x.1 : Int), (y : Int))))

/-- The estimate of one axis from the pairs at each lag: the correction that cancels the follower's offset, in 1/256, and floor(255 ρ) (R164).
A follower on the upper side that is late by a lag needs that lag less of delay or shift. -/
def axisFigure (free range : Nat) (enough upper : Bool) (pairs : Int → List (Int × Int)) : Int × Nat :=
  let lag := refinedLag free range ((lags range).map (fun k => rho rhoScale (pairSums (pairs k))))
  let at_ : Int := (peakPlace ((lags range).map (fun k => rho rhoScale (pairSums (pairs k)))) : Int) - range
  (if upper then -lag else lag, if enough then (rho 255 (pairSums (pairs at_))).toNat else 0)

/-- The estimate of a seam for a strip, along and across; the qualities are 0 with fewer than S / 4 usable lines (R164). -/
def seamFigures (free range strip : Nat) (upper : Bool) (a : SeamSums) : (Int × Nat) × (Int × Nat) :=
  let enough := decide (strip ≤ 4 * a.lines.length)
  (axisFigure free range enough upper (alongPairs a), axisFigure (free + 1) range enough upper (acrossPairs a))

/-- Seam tracking on one seam (R158, R166, R167): `busy` are the cameras whose ramp ran before the corrections and the writes of this line. Answers whether the
correction was applied and whether it was limited. -/
def State.trackSeam (s : State) (busy : List Nat) (m : Seam) (along across : Int × Nat) : State × Bool × Bool :=
  let gain : Int := s.rd Ix.stxTrackingGain 0
  let part (x : Int × Nat) : Int :=
    if s.rd Ix.stxQualityMinimum 0 ≤ x.2 ∧ s.rd Ix.stxDeadBand 0 < x.1.natAbs then gain * x.1 else 0
  let da := part along
  let dc := part across
  let delay (n : Nat) : Int := s.rdI Ix.stxMountDelay (n + 1) + da
  let shift (n : Nat) : Int := s.rdI Ix.stxCrossShift (n + 1) + dc
  if s.rd Ix.stxSeamTracking 0 = 0 ∨ (da = 0 ∧ dc = 0) ∨ m.moves = [] then (s, false, false)
  else if m.moves.any busy.contains then (s, false, false)
  else if m.moves.any (fun n =>
      decide (bankSize < s.bankUse (s.rd Ix.cptPipeline (n + 1)) (m.moves.map (fun k => (k, delay k)))) || decide (delay n < -65536) ||
      decide (268435455 < delay n) || decide (1048576 < (shift n).natAbs)) then
    (s.setBit Ix.stxStitchStatus 0 ssSeamLimit, false, true)
  else
    let moves := if m.followUpper then m.moves else m.moves.reverse
    let free := moves.takeWhile (fun n => !s.stx.wrote.contains n)
    let t := free.foldl (fun (t : State) n =>
      let t := if da = 0 then t else (t.calAwait 5 n 4).setDelay (Fin.ofNat 32 n) (delay n)
      if dc = 0 then t else (t.calAwait 6 n 4).setShift (Fin.ofNat 32 n) (shift n)) s
    (t, free != [], false)

/-- The seam record (R165). -/
def seamRecord (m : Seam) (strip used : Nat) (along across : Int × Nat) (applied low limited : Bool) : Octets :=
  leBytes 2 0x0003 ++ leBytes 1 1 ++
  leBytes 1 (bitNat applied + 2 * bitNat low + 4 * bitNat (decide (31 ≤ m.number)) + 8 * bitNat limited) ++
  leBytes 1 m.number ++ leBytes 1 m.lower ++ leBytes 1 m.upper ++ leBytes 1 (bitNat m.followUpper) ++
  leBytes 8 strip ++ leBytes 2 (toPattern 16 along.1) ++ leBytes 2 (toPattern 16 across.1) ++ leBytes 1 along.2 ++
  leBytes 1 across.2 ++ leBytes 2 0 ++ leBytes 4 used ++ leBytes 4 (toPattern 32 m.cut)

/-- A GEOMETRIC run takes a seam's record (R487). -/
def State.calSeam (s : State) (strip number : Nat) (along across : Int × Nat) : State :=
  match s.cal.run with
  | some r =>
    if r.kind = 3 ∧ r.first ≤ strip ∧ strip < r.first + r.strips ∧ (s.rd 0x6411 0 = 1 ∨ s.rd 0x6411 0 = 2) then
      { s with cal := { s.cal with run := some { r with seams := r.seams ++ [(number, (along, across))] } } }
    else s
  | none => s

/-- A GEOMETRIC run has measured its last strip (R484). -/
def State.calSeamsEnd (s : State) (strip : Nat) : State :=
  match s.cal.run with
  | some r => if r.kind = 3 ∧ r.first + r.strips ≤ strip + 1 ∧ s.rd 0x6411 0 = 2 then s.wr 0x6411 0 3 else s
  | none => s

/-- One seam after a strip (R165, R166). -/
def State.closeSeam (s : State) (busy : List Nat) (strip lp time : Nat) (m : Seam) : State :=
  let sums := s.stx.seams.getD m.number {}
  let used := sums.lines.length
  let (along, across) := seamFigures s.free (s.rd Ix.stxSearchRange 0) s.strip m.followUpper sums
  let sub := m.number + 1
  let (t, applied, limited) := (s.takeFree.takeFree.calSeam strip m.number along across).trackSeam busy m along across
  let low := decide (along.2 < s.rd Ix.stxQualityMinimum 0) || decide (across.2 < s.rd Ix.stxQualityMinimum 0)
  let t := ((t.wrI Ix.stxSeamAcrossCorrection sub across.1).wrI Ix.stxSeamAlongCorrection sub along.1).wr Ix.stxSeamQuality sub
    (across.2 + 256 * along.2)
  let t := (t.wrI Ix.stxSeamCutColumn sub m.cut).bump Ix.stxSeamRecords 0 1
  (t.push sqIx fromStx false (seamRecord m strip used along across applied low limited)).cross (eventCode 11 0 0) (some (lp, time)) m.number

/-- After a strip's last line every seam is estimated, reported and, with tracking, corrected (R164 to R167). -/
def State.closeSeams (s : State) (strip lp time : Nat) : State :=
  let busy := (List.range 32).filter (fun n => s.ramping n && !s.stx.wrote.contains n)
  let t := s.seams.foldl (fun t m => t.closeSeam busy strip lp time m) s
  ({ t with stx := { t.stx with seams := List.replicate 33 {} } } : State).calSeamsEnd strip

/-! ### The line formed -/

/-- STX's own state after a line (R157 to R160): counters, late cameras, the store without what no later line needs. -/
def State.lineFormed (s : State) (x : Stitched) (last : Option Nat) : State :=
  let l := x.line
  let truncated := x.flags.testBit 4
  let lates := if truncated then [] else s.stx.places.filter (fun p => s.camLate (Fin.ofNat 32 p.cam) l last)
  let seams := if truncated then s.stx.seams else s.gatherSeams l x.lp last
  let t := (s.bump Ix.stxLinesStitched 0 1).tally 0x11 0 1
  let t := s.stx.places.foldl (fun (t : State) p => if x.missing.testBit p.cam then t.bump Ix.stxCameraMissingLines (p.cam + 1) 1 else t) t
  let t := lates.foldl (fun (t : State) p => t.bump Ix.stxCameraLateLines (p.cam + 1) 1) t
  let t := match lates with
    | p :: _ => (t.setBit Ix.stxStitchStatus 0 ssLate).cross (eventCode 11 0 1) (some (x.lp, x.time)) p.cam
    | [] => t
  let late := !truncated && (s.braidSeams l x.lp).any (fun m => !m.unstitched && m.message.isNone)
  let t := if late then t.setBit Ix.stxStitchStatus 0 ssNeighbourLate else t
  let unfit := !truncated && s.stx.neighbours.any (fun m => m.lp / 2 ^ 16 == l && !s.lpMatches m.lp x.lp)
  let t := if unfit then t.setBit Ix.stxStitchStatus 0 ssLpMismatch else t
  let cams := t.stx.cams.mapFinIdx (fun n c _ =>
    { c with lines := c.lines.filter (fun y => decide ((l : Int) - t.bankDelay n / 65536 - 2 ≤ y.line)) })
  { t with free := if (s.lineTag l).isSome then t.free else t.free + 1,
           stx := { t.stx with cams := cams, next := some (l + 1), seams := seams,
                               neighbours := t.stx.neighbours.filter (fun m => decide (l < m.lp / 2 ^ 16)) } }

/-- Whether the local cameras have delivered what line L waits for (R159, R184). -/
def State.camerasReady (s : State) (l : Nat) : Bool :=
  s.drainEnd.isSome || (!s.stx.places.isEmpty &&
    s.stx.places.all (fun p => (s.stxCam (Fin.ofNat 32 p.cam)).high.any (fun h => decide (l + 1 ≤ h))))

/-- Whether some camera is so far ahead that line L is formed at once (R159, R179). -/
def State.waitOver (s : State) (l : Nat) : Bool :=
  s.stx.places.any (fun p => (s.stxCam (Fin.ofNat 32 p.cam)).high.any (fun h => decide (l + 1 + s.rd Ix.stxLineWait 0 ≤ h)))

/-- Whether every stitched Braid seam's message for the line has come (R179). -/
def State.neighboursReady (s : State) (l : Nat) : Bool :=
  let lp := ((s.lineTag l).map (fun x => x.1)).getD (l * 2 ^ 16)
  [roleOp, roleFar].all (fun r => !s.seamStitched r || s.rolePorts r == [] || (s.messageFor r l lp).isSome)

/-- Whether STX still has a line to form: it takes input, and the line does not lie beyond the drained strip (R184). -/
def State.formsLine (s : State) : Option Nat :=
  match s.stx.next with
  | some l =>
    if s.stxTakes && s.stx.stopStrip.all (fun k => decide (l / s.strip ≤ k)) then some l else none
  | none => none

/-- Line L is begun, once (R160, R177, R181): at a strip's first line the boundary comes first, the ramps move on, and the overlap messages
go to the neighbours. -/
def State.openLine (s : State) (l : Nat) (truncated : Bool) : State :=
  let tag := (s.lineTag l).getD (l * 2 ^ 16, Config.lineTime s.free % 2 ^ 64)
  let t := if l % s.strip = 0 then s.stxBoundary l tag.1 tag.2 else s
  let t := if truncated then t else t.stepRamps
  ({ t with stx := { t.stx with sent := some l } } : State).sendOverlaps l truncated

/-- Line L, which has been begun, is formed (R159); after a strip's last line the seams are closed, a strip that was cut off too (R165). Answers
the line for the blocks that take it. -/
def State.formLine (s : State) (l : Nat) (truncated : Bool) : State × Stitched :=
  let x := s.stitch l s.drainEnd truncated
  let t := s.lineFormed x s.drainEnd
  let t := if (l + 1) % s.strip = 0 then t.closeSeams (l / s.strip) x.lp x.time else t
  ({ t with stx := { t.stx with wrote := [] } }, x)

/-! ### States -/

/-- What ARM checks of STX (R154). The cameras cover the columns from the first to the end of the last without a gap, so they cover a Braid band
where they reach both its ends; DEDUCED: ARM also asks for the exchange width's least value (R189). -/
def State.stxArmable (s : State) : Bool :=
  let ps := s.placesNow
  let w := s.localWidth ps
  let xs := ps.map (fun p => p.x)
  let b := s.rd Ix.stxBlendWidth 0
  let e : Int := s.rd Ix.brdExchangeWidth 0
  let distinct := (ps.zip (ps.drop 1)).all (fun p => decide (p.1.x < p.2.x))
  let inside := ps.any (fun p => ps.any (fun q => p.cam != q.cam && decide (p.x ≤ q.x) && decide (q.stop ≤ p.stop)))
  let overlaps := (seamsOf ps).all (fun p => decide ((b : Int) + 32 ≤ overlapOf p.1 p.2))
  let covered := decide (w = 0) || ((xs.head?).any (fun x => decide (x ≤ 0)) && ps.any (fun p => decide ((w : Int) ≤ p.stop)))
  let oneComparator := ps.all (fun p => some (s.rd Ix.cptTriggerComparator (p.cam + 1)) ==
    ps.head?.map (fun q => s.rd Ix.cptTriggerComparator (q.cam + 1)))
  let reaches (lo hi : Int) : Bool := ps.any (fun p => decide (p.x ≤ lo)) && ps.any (fun p => decide (hi ≤ p.stop))
  let wide := decide ((b : Int) + 32 ≤ e)
  let bandOp := s.rolePorts roleOp == [] || wide && reaches (-(e / 2)) (e / 2)
  let bandFar := s.rolePorts roleFar == [] || wide && reaches (w - e / 2) (w + e / 2)
  distinct && !inside && overlaps && covered && oneComparator && bandOp && bandFar &&
    (List.range 16).all (fun m => decide (s.bankUseNow m ≤ bankSize))

/-- STX enters Running at the strip that begins with a line, its store empty (R153, R184). DEDUCED: a seam left unstitched by an earlier run
whose link is up again rejoins from here: the far-side device sends its rejoin, and one received while STX was stopped stands (R182). -/
def State.stxStarts (s : State) (line : Nat) : State :=
  let ps := s.placesNow
  let t : State := { s with stx := { s.stx with places := ps, width := s.localWidth ps, cams := Vector.replicate 32 {}, next := some line,
                                                first := line, stopStrip := none, wrote := [], seams := List.replicate 33 {},
                                                sent := none, neighbours := [],
                                                rejoin := s.stx.rejoin.filter (fun r => decide (line ≤ r.2 * s.strip)) } }
  let cuts := cutsOf ps
  let t := t.wr Ix.stxLocalSeams 0 cuts.length
  let t := (cuts.zipIdx).foldl (fun (t : State) c => t.wrI Ix.stxSeamCutColumn (c.2 + 1) c.1) t
  if t.roleDown roleOp then t else t.sendRejoin roleOp

/-- The strip STX is in: that of the latest line delivered or formed (R184). -/
def State.stxStripNow (s : State) : Option Nat :=
  s.stx.next.map (fun l =>
    let high := s.stx.places.foldl (fun m p => max m ((s.stxCam (Fin.ofNat 32 p.cam)).high.getD 0)) (l - 1)
    (max high s.stx.first) / s.strip)

/-- STOP: the lines of the current strip are still formed (R184). -/
def State.stxStops (s : State) : State :=
  { s with stx := { s.stx with stopStrip := if s.stx.places.isEmpty then none else s.stxStripNow } }

/-- Whether STX's drain has ended: with the strip's last line (R184). -/
def State.stxDrained (s : State) : Bool :=
  match s.stx.stopStrip, s.stx.next with
  | some k, some l => decide ((k + 1) * s.strip ≤ l)
  | _, _ => true

/-- How many lines of the strip remain when it is cut off (R184). -/
def State.stxRest (s : State) : Nat :=
  match s.stxStripNow, s.stx.next with
  | some k, some l => (k + 1) * s.strip - l
  | _, _ => 0

/-- The live bits of Stitch status (R187): GEOM_RAMP. -/
def State.stxLive (s : State) : Nat := bitNat ((List.range 32).any (fun n => s.included n && s.ramping n))

/-- Whether a cross-web map is accepted: its knots do not decrease (R168). -/
def mapOk (bs : Octets) : Bool :=
  let ks := (chunks 4 257 bs).map ofLe
  bs.length == 1028 && (ks.zip (ks.drop 1)).all (fun p => decide (p.1 ≤ p.2))

end Sys2Proof.Machine
end

