-- ==== Sys2Proof/Machine/Cal.lean ====
section
/-! DEFINITION. The calibration manager (R476 to R496). -/

namespace Sys2Proof.Machine

/-- The positions of the calibration flags (R495). -/
abbrev clRunActive : Nat := 0
abbrev clRunDone : Nat := 1
abbrev clRunRejected : Nat := 2
abbrev clImporting : Nat := 4
abbrev clImportDone : Nat := 5
abbrev clFactoryUsed : Nat := 6
abbrev clFactoryInvalid : Nat := 7
abbrev clDueImage : Nat := 8
abbrev clDriftLimit : Nat := 11

/-- CAL's part of the state replaced. -/
def State.setCal (s : State) (c : CalState) : State := { s with cal := c }

/-- A flag of Calibration status set (R495). -/
def State.calFlag (s : State) (b : Nat) : State := s.setBit Ix.calCalibrationStatus 0 b

/-- The state of a run (R484): RUN_ACTIVE shows that it is not 0. -/
def State.runState (s : State) (v : Nat) : State := (s.wr Ix.calRunState 0 v).putBit Ix.calCalibrationStatus 0 clRunActive (v != 0)

/-! ### Items -/

/-- The number of an item's instances (R476). -/
def itemInstances (code : Nat) : Nat :=
  if 1 ≤ code ∧ code ≤ 7 then 32 else if code = 8 then 64 else if code = 9 then 4 else if code = 10 then 8 else if code = 11 then 4 else 0

/-- The octets of a dark and flat table, one half of each entry (R125): the dark signal or the flat field. -/
def tableHalf (flat : Bool) (t : Octets) : Octets :=
  (chunks 4 (t.length / 4) t).flatMap (fun e => if flat then e.drop 2 else e.take 2)

/-- A dark and flat table with one half replaced (R125). -/
def putTableHalf (flat : Bool) (t half : Octets) : Octets :=
  ((chunks 4 (t.length / 4) t).zip (chunks 2 (half.length / 2) half)).flatMap (fun x => if flat then x.1.take 2 ++ x.2 else x.2 ++ x.1.drop 2)

/-- How many sensor positions a camera has (R125). -/
def State.positions (s : State) (n : Fin 32) : Nat :=
  formatComponents (s.rd Ix.cptPixelFormat (n.val + 1)) * s.rd Ix.cptLineWidth (n.val + 1)

/-- The dark and flat table as the object holds it; one of another size than the camera's stands for D = 0 and F = 1.0 (R125). -/
def State.tableNow (s : State) (n : Fin 32) : Octets :=
  let t := s.rdo Ix.iplDarkAndFlatTable (n.val + 1)
  if t.length = 4 * s.positions n then t else (List.range (s.positions n)).flatMap (fun _ => [0, 0, 0, 0x80])

/-- The value of an item's instance as an export gives it (R476, R490). -/
def State.itemValue (s : State) (code inst : Nat) : Octets :=
  let sub := inst + 1
  let n := Fin.ofNat 32 inst
  if code = 1 then leBytes 2 (s.rd Ix.iplBlackLevelChannel0 sub) ++ leBytes 2 (s.rd Ix.iplBlackLevelChannel1 sub) ++
    leBytes 2 (s.rd Ix.iplBlackLevelChannel2 sub)
  else if code = 2 then tableHalf false (s.tableNow n)
  else if code = 3 then tableHalf true (s.tableNow n)
  else if code = 4 then s.rdo Ix.iplColourMatrix sub
  else if code = 5 then leBytes 4 (s.rd Ix.stxMountDelay sub)
  else if code = 6 then leBytes 4 (s.rd Ix.stxCrossShift sub)
  else if code = 7 then s.rdo Ix.iplRemapCoefficients sub
  else if code = 8 then leBytes 1 (s.rd Ix.calCXPThreshold sub)
  else if code = 9 then s.rdo Ix.brdLaneSamplingDelay sub
  else if code = 10 then s.rdo Ix.dmcLaneDelays sub
  else s.rdo Ix.calEncoderThreshold sub

/-- The number of octets that an item's value has on the device as configured (R476, R492). -/
def State.itemLength (s : State) (code inst : Nat) : Nat :=
  if code = 1 then 6 else if code = 2 ∨ code = 3 then 2 * s.positions (Fin.ofNat 32 inst) else if code = 4 then 30
  else if code = 5 ∨ code = 6 then 4 else if code = 7 then 16 else if code = 8 then 1 else if code = 9 then 8 else if code = 10 then 160
  else 3

/-- Whether threshold taps lie in their range (R476). -/
def tapsOk (v : Octets) : Bool := v.all (fun b => decide ((ofPattern 8 b.toNat).natAbs ≤ 31))

/-- Whether a value suits an item's instance (R492). -/
def State.itemFits (s : State) (code inst : Nat) (v : Octets) : Bool :=
  decide (1 ≤ code) && decide (inst < itemInstances code) && v.length == s.itemLength code inst &&
  (!(code == 8 || code == 11) || tapsOk v)

/-- The instances of all items, in the order of an export. -/
def allItems : List (Nat × Nat) := (List.range 12).flatMap (fun code => (List.range (itemInstances code)).map (fun i => (code, i)))

/-- Item summary (R495). -/
def State.itemSummary (s : State) : Octets :=
  allItems.flatMap (fun x =>
    let a := storeGet {} s.cal.items (calKey x.1 x.2)
    leBytes 1 x.1 ++ leBytes 1 0 ++ leBytes 2 x.2 ++ leBytes 4 a.count ++ leBytes 8 a.time)

/-- The account that Item select names (R495). -/
def State.itemSelected (s : State) : CalItem :=
  let v := s.rd Ix.calItemSelect 0
  storeGet {} s.cal.items (calKey (field v 16 8) (field v 0 16))

/-! ### Writes -/

/-- An IPL table or coefficient set written: it is pending until its boundary (R140, R151). -/
def State.iplPend (s : State) (ix sub : Nat) : State :=
  match pendingBit ix with
  | some b => s.setBit Ix.iplTableStatus sub b
  | none => s

/-- An image value of CAL's written by MGT (R477, R478). -/
def State.writeImage (s : State) (w : CalWrite) : State :=
  let sub := w.inst + 1
  let n := Fin.ofNat 32 w.inst
  let t := s.calAwait w.code w.inst w.source
  if w.code = 1 then
    [Ix.iplBlackLevelChannel0, Ix.iplBlackLevelChannel1, Ix.iplBlackLevelChannel2].zipIdx.foldl
      (fun (u : State) x => (u.wr x.1 sub (leAt w.data (2 * x.2) 2)).iplPend x.1 sub) t
  else if w.code = 4 then (t.wro Ix.iplColourMatrix sub w.data).iplPend Ix.iplColourMatrix sub
  else (t.wro Ix.iplDarkAndFlatTable sub (putTableHalf (w.code == 3) (s.tableNow n) w.data)).iplPend Ix.iplDarkAndFlatTable sub

/-- The image writes that wait are performed as one group (R478). -/
def State.writeImages (s : State) : State :=
  let t := s.cal.image.foldl (fun (t : State) w => t.writeImage w) s
  t.setCal { t.cal with image := [] }

/-- A geometric value of CAL's written by MGT (R477, R479): what comes of it. -/
def State.writeGeometric (s : State) (w : CalWrite) : State × Code :=
  let n := Fin.ofNat 32 w.inst
  let sub := w.inst + 1
  let t := s.calAwait w.code w.inst w.source
  let v := leInt w.data 0 4
  let r : State × Code :=
    if w.code = 5 then t.delayWrite n (if w.add then s.rdI Ix.stxMountDelay sub + v else v)
    else if w.code = 6 then t.shiftWrite n (if w.add then s.rdI Ix.stxCrossShift sub + v else v)
    else ((t.wro Ix.iplRemapCoefficients sub w.data).remapWrite n w.data, .ok)
  if r.2 = .ok then r else (s, r.2)

/-- Whether a ramp of R139 or R160 runs on a camera. -/
def State.geoBusy (s : State) (n : Nat) : Bool := s.ramping n || (s.iplCam (Fin.ofNat 32 n)).ramp.isSome

/-- Geometric writes of an import that were not made count as skipped (R479, R492). -/
def State.skipRecords (s : State) (n : Nat) : State :=
  match s.cal.imp with
  | some i => s.setCal { s.cal with imp := some { i with applied := i.applied - n, skipped := i.skipped + n } }
  | none => s

/-- Whether a geometric write waits for a ramp (R479): those of a run or an import for the cameras of them all, an Item write for its own. -/
def State.geoWaits (s : State) (w : CalWrite) : Bool :=
  if w.source = 3 then s.geoBusy w.inst else s.cal.geo.any (fun x => x.source == w.source && s.geoBusy x.inst)

/-- At a strip boundary at which no ramp runs on any camera concerned, the geometric writes that wait are made (R479). -/
def State.geoBoundary (s : State) : State :=
  let r := (s.cal.geo.filter (fun w => !s.geoWaits w)).foldl (fun (acc : State × Nat) w =>
    let x := acc.1.writeGeometric w
    (x.1, if x.2 = .ok then acc.2 else acc.2 + bitNat (w.source == 2))) (s, 0)
  (r.1.setCal { r.1.cal with geo := s.cal.geo.filter (fun w => s.geoWaits w) }).skipRecords r.2

/-! ### Runs -/

/-- Whether a run or an import is in progress. -/
def State.calBusy (s : State) : Bool := s.cal.run.isSome || s.cal.imp.isSome

/-- The next strip that begins with a line not yet new (R14, R484). -/
def State.nextStrip (s : State) : Nat :=
  if s.bit Ix.wpuPositionStatus 0 7 then 0 else s.rd Ix.wpuHighWaterLP 0 / 65536 / s.strip + 1

/-- The cameras of a mask. -/
def maskCams (m : Nat) : List Nat := (List.range 32).filter (fun n => m.testBit n)

/-- Whether a camera's port and the pipeline that serves it are Running (R483). -/
def State.camRuns (s : State) (n : Nat) : Bool :=
  let m := s.rd Ix.cptPipeline (n + 1)
  s.runs (.cpt (Fin.ofNat 32 n)) && s.runs (if s.spareServes m then spareFn else .ipl (Fin.ofNat 17 m))

/-- Run request (R483, R484). -/
def State.runRequest (s : State) (v : Octets) : State × Code :=
  let kind := octAt v 0
  let k := leAt v 2 2
  let mask := leAt v 4 4
  let cams := maskCams mask
  if !s.runs .cal ∨ cams.any (fun n => !s.camRuns n) ∨ (kind = 3 ∧ s.rd Ix.stxSeamTracking 0 = 1) then (s, .wrongState)
  else if kind = 0 ∨ 3 < kind ∨ octAt v 1 ≠ 0 ∨ 64 < k ∨ leAt v 12 4 ≠ 0 ∨ (kind = 3 ∧ mask ≠ 0) ∨
      cams.any (fun n => s.rd Ix.cptLaneCount (n + 1) == 0) then (s, .outOfRange)
  else if s.calBusy then (s, .busy)
  else
    let run : CalRun := { kind := kind, strips := if k = 0 then s.rd Ix.calRunStrips 0 else k, mask := mask, tag := leAt v 8 4,
                          first := s.nextStrip, cams := cams.map (fun n => { cam := n }) }
    ((s.setCal { s.cal with run := some run }).runState 1, .ok)

/-- The run's result and its end (R487, R489): a GEOMETRIC run is accepted with one seam axis written; a run that failed as a whole accepted
nothing. -/
def State.endRun (s : State) (r : CalRun) (failed : Bool) : State :=
  let rejected := (r.reasons.filter (fun x => x.2 != 0)).map (fun x => x.1)
  let maskOf (ns : List Nat) : Nat := (ns.map (fun n => 2 ^ n)).sum
  let good := (maskCams r.mask).filter (fun n => !rejected.contains n)
  let outcome := if r.kind = 3 then (if r.wrote then 1 else 3)
    else if failed then 3 else if rejected = [] then 1 else if good = [] then 3 else 2
  let lines := match r.cams.map (fun c => c.lines) with
    | [] => 0
    | l :: ls => ls.foldl min l
  let out := leBytes 4 r.tag ++ leBytes 1 r.kind ++ leBytes 1 outcome ++ leBytes 2 0 ++ leBytes 4 (maskOf good) ++ leBytes 4 (maskOf rejected) ++
    leBytes 4 lines ++ leBytes 1 r.geoReason ++ zeros 3 ++ leBytes 8 s.stamp
  let t := r.reasons.foldl (fun (t : State) x => t.wr Ix.calRejectionReason (x.1 + 1) x.2) s
  (((t.wro Ix.calRunResult 0 out).setCal { t.cal with run := none }).runState 0).calFlag (if outcome = 1 then clRunDone else clRunRejected)

/-- A run ends with one reason for all it was asked for (R488). -/
def State.failRun (s : State) (reason : Nat) : State :=
  match s.cal.run with
  | none => s
  | some r =>
    (s.setCal { s.cal with image := s.cal.image.filter (fun w => w.source != 1), geo := s.cal.geo.filter (fun w => w.source != 1) }).endRun
      { r with reasons := (maskCams r.mask).map (fun n => (n, reason)), geoReason := if r.kind = 3 then reason else 0, wrote := false } true

/-- A mean rounded half up (R485). -/
def meanOf (sum n : Nat) : Nat := (2 * sum + n) / (2 * max n 1)

/-- The means of a camera's positions (R485, R486). -/
def CalCam.means (c : CalCam) : List Nat := c.sums.map (fun x => meanOf x c.lines)

/-- What a run finds of a camera's channels: by channel the mean, and the variance or largest zone residual; then the values written. -/
structure CalFinding where
  means : List Nat
  spread : List Nat
  reason : Nat
  writes : List CalWrite

/-- The mean over the channel's positions of a list of values by position. -/
def channelMean (chan : Nat → Nat) (c : Nat) (vs : List Nat) : Nat :=
  let mine := (vs.zipIdx.filter (fun x => chan x.2 == c)).map (fun x => x.1)
  meanOf mine.sum mine.length

/-- The first check that a camera fails (R488): the checks in table order, with what each is. -/
def firstFailure (checks : List (Nat × Bool)) : Nat := ((checks.find? (fun x => x.2)).map (fun x => x.1)).getD 0

/-- What a DARK run finds of a camera (R485, R488). -/
def State.darkFinding (s : State) (n : Fin 32) (c : CalCam) : CalFinding :=
  let sub := n.val + 1
  let f := s.rd Ix.cptPixelFormat sub
  let w := s.rd Ix.cptLineWidth sub
  let chan (i : Nat) : Nat := channelOf f (s.rd Ix.iplBayerPhase sub) (i / w) (i % w)
  let channels := if isColour f then 3 else 1
  let m := c.means
  let M := (List.range 3).map (fun k => if k < channels then channelMean chan k m else 0)
  let V := (List.range 3).map (fun k =>
    let q := c.squares.getD k (0, 0)
    if k < channels then meanOf q.1 q.2 - (M.getD k 0) ^ 2 else 0)
  let p := s.rd Ix.calDarkPedestal 0
  let black := ((List.range 3).map (fun k =>
    if k < channels then M.getD k 0 - p else s.rd (Ix.iplBlackLevelChannel0 + k) sub)).flatMap (fun v => leBytes 2 v)
  let dark := (m.zipIdx).flatMap (fun x => leBytes 2 (toPattern 16 (clampInt (-32768) 32767 ((x.1 : Int) - M.getD (chan x.2) 0))))
  { means := M, spread := V,
    reason := firstFailure [(1, c.markers != 0), (2, c.sat != 0), (3, M.any (fun x => decide (s.rd Ix.calDarkMeanLimit 0 < x))),
      (4, V.any (fun x => decide (s.rd Ix.calDarkVarianceLimit 0 < x))), (13, c.left)],
    writes := [{ code := 1, inst := n.val, source := 1, data := black }, { code := 2, inst := n.val, source := 1, data := dark }] }

/-- What a FLAT run finds of a camera (R486, R488). -/
def State.flatFinding (s : State) (n : Fin 32) (c : CalCam) : CalFinding :=
  let sub := n.val + 1
  let f := s.rd Ix.cptPixelFormat sub
  let w := s.rd Ix.cptLineWidth sub
  let chan (i : Nat) : Nat := channelOf f (s.rd Ix.iplBayerPhase sub) (i / w) (i % w)
  let channels := if isColour f then 3 else 1
  let m := c.means
  let gain (i : Nat) : Nat := s.shading n (i / w) (i % w)
  let lit := m.zipIdx.map (fun x => x.1 * gain x.2 / 2 ^ 14)
  let T := (List.range 3).map (fun k => if k < channels then channelMean chan k lit else 0)
  let zone (row z k : Nat) : Option Nat :=
    let mine := (lit.zipIdx.filter (fun x => x.2 / w == row && zoneOf w (x.2 % w) == z && chan x.2 == k)).map (fun x => x.1)
    if mine = [] then none else some (meanOf mine.sum mine.length)
  let residuals (k : Nat) : List Nat :=
    (List.range (formatComponents f)).flatMap (fun row => (List.range 32).filterMap (fun z =>
      (zone row z k).map (fun v => max v (T.getD k 0) - min v (T.getD k 0))))
  let R := (List.range 3).map (fun k => if k < channels then (residuals k).foldl max 0 else 0)
  let F := m.zipIdx.map (fun x =>
    let d := x.1 * gain x.2
    if d = 0 then 65536 else (2 * (2 ^ 29 * T.getD (chan x.2) 0) + d) / (2 * d))
  { means := T, spread := R,
    reason := firstFailure [(1, c.markers != 0), (2, c.sat != 0),
      (5, (T.take channels).any (fun x => decide (x < s.rd Ix.calFlatMinimumLevel 0))),
      (6, (List.range channels).any (fun k => decide (s.rd Ix.calFlatResidualLimit 0 * T.getD k 0 < R.getD k 0 * 65536))),
      (7, m.any (fun x => x == 0) || F.any (fun x => decide (65535 < x))), (13, c.left)],
    writes := [{ code := 3, inst := n.val, source := 1, data := F.flatMap (fun v => leBytes 2 v) }] }

/-- The mean of the corrections of a seam axis whose quality suffices; none with too few of them (R487). -/
def State.seamMean (s : State) (strips : Nat) (xs : List (Int × Nat)) : Option Int :=
  let good := (xs.filter (fun x => decide (s.rd Ix.stxQualityMinimum 0 ≤ x.2))).map (fun x => x.1)
  if good.length < (strips + 1) / 2 ∨ good = [] then none
  else
    let n : Int := good.length
    some (if good.sum % n = 0 then good.sum / n else good.sum / n + (Config.seamMean s.free % 2 : Nat))

/-- What geometric writes add to an item of a camera. -/
def addedTo (ws : List CalWrite) (code n : Nat) : Int :=
  ((ws.filter (fun w => w.code == code && w.inst == n)).map (fun w => leInt w.data 0 4)).sum

/-- The geometric writes of a seam of a GEOMETRIC run, or the reason against them (R158, R487): the whole mean is added to the follower and
every camera beyond it, on top of what the seams before it add. -/
def State.seamFinding (s : State) (r : CalRun) (before : List CalWrite) (m : Seam) : Nat × List CalWrite :=
  let mine := (r.seams.filter (fun x => x.1 == m.number)).map (fun x => x.2)
  let along := s.seamMean r.strips (mine.map (fun x => x.1))
  let across := s.seamMean r.strips (mine.map (fun x => x.2))
  let part (x : Option Int) : Int := match x with
    | some v => if s.rd Ix.stxDeadBand 0 < v.natAbs then 256 * v else 0
    | none => 0
  let da := part along
  let dc := part across
  let low := along.isNone || across.isNone
  let delay (n : Nat) : Int := s.rdI Ix.stxMountDelay (n + 1) + addedTo before 5 n + (if m.moves.contains n then da else 0)
  let shift (n : Nat) : Int := s.rdI Ix.stxCrossShift (n + 1) + addedTo before 6 n + dc
  let delays := (List.range 32).map (fun n => (n, delay n))
  if m.moves.any (fun n => decide (bankSize < s.bankUse (s.rd Ix.cptPipeline (n + 1)) delays) || decide (delay n < -65536) ||
      decide (268435455 < delay n) || decide (1048576 < (shift n).natAbs)) then (9, [])
  else
    (if low then 8 else 0, m.moves.flatMap (fun n =>
      (if da = 0 then [] else [{ code := 5, inst := n, source := 1, data := leBytes 4 (toPattern 32 da), add := true }]) ++
      (if dc = 0 then [] else [{ code := 6, inst := n, source := 1, data := leBytes 4 (toPattern 32 dc), add := true }])))

/-- The seams a GEOMETRIC run corrects: the local ones, and a Braid seam at which the device follows (R487). -/
def State.runSeams (s : State) : List Seam := s.seams.filter (fun m => decide (m.number < 31) || m.moves != [])

/-- The checks are done (R488): what was measured shows, the reasons stand, and the accepted values go to MGT. -/
def State.runChecked (s : State) : State :=
  match s.cal.run with
  | none => s
  | some r =>
    if s.rd Ix.calRunState 0 ≠ 3 then s
    else if r.kind = 3 then
      let found := s.runSeams.foldl (fun (acc : List (Nat × List CalWrite)) m => acc ++ [s.seamFinding r (acc.flatMap (fun x => x.2)) m]) []
      let writes := found.flatMap (fun x => x.2)
      let reason := if found.any (fun x => x.1 == 8) then 8 else if found.any (fun x => x.1 == 9) then 9 else 0
      let r' := { r with geoReason := reason, wrote := writes != [] }
      if writes = [] then s.takeFree.endRun r' false
      else (s.takeFree.setCal { s.cal with run := some r', geo := s.cal.geo ++ writes }).runState 4
    else
      let found := r.cams.map (fun c => (c.cam, if r.kind = 1 then s.darkFinding (Fin.ofNat 32 c.cam) c else s.flatFinding (Fin.ofNat 32 c.cam) c))
      let shown := found.foldl (fun (t : State) x =>
        t.wro Ix.calMeasured (x.1 + 1) (x.2.means.flatMap (fun v => leBytes 2 v) ++ leBytes 2 0 ++ x.2.spread.flatMap (fun v => leBytes 4 v))) s
      let r' := { r with reasons := found.map (fun x => (x.1, x.2.reason)) }
      let writes := (found.filter (fun x => x.2.reason == 0)).flatMap (fun x => x.2.writes)
      if writes = [] then shown.endRun r' false
      else (shown.setCal { shown.cal with run := some r', image := shown.cal.image ++ writes }).runState 4

/-- The last write of a run completes (R489): the image values go in as one group; geometric ones must have been made at their boundary. -/
def State.runApplied (s : State) : State :=
  match s.cal.run with
  | none => s
  | some r =>
    if s.rd Ix.calRunState 0 ≠ 4 ∨ s.cal.geo.any (fun w => w.source == 1) then s
    else s.writeImages.endRun r false

/-! ### Export and import -/

/-- A record of an export (R490). -/
def exportRecord (code inst : Nat) (v : Octets) : Octets :=
  leBytes 2 code ++ leBytes 2 inst ++ leBytes 4 v.length ++ v ++ zeros ((8 - v.length % 8) % 8)

/-- A snapshot of every item (R490, R491). -/
def State.exportOctets (s : State) (factory : Bool) (seq : Nat) : Octets :=
  let records := allItems.flatMap (fun x => exportRecord x.1 x.2 (s.itemValue x.1 x.2))
  let total := 48 + records.length + 8
  let body := leBytes 4 0x4C414356 ++ leBytes 2 1 ++ leBytes 2 (bitNat factory) ++ leBytes 8 (s.rd Ix.sysSerialNumber 0) ++ leBytes 8 seq ++
    leBytes 8 s.stamp ++ leBytes 4 total ++ leBytes 4 allItems.length ++ leBytes 8 0 ++ records ++ leBytes 4 0
  body ++ leBytes 4 (crc32c body)

/-- A snapshot takes the next sequence (R491). -/
def State.takeExport (s : State) (factory : Bool) : State × Octets :=
  let seq := s.rd Ix.calLastSequence 0 + 1
  let t := s.wr Ix.calLastSequence 0 seq
  (t, s.exportOctets factory seq)

/-- The records of an export from an offset on; none where they do not fit the space exactly (R492). -/
def recordsOf : Nat → Octets → Option (List (Nat × Nat × Octets))
  | 0, _ => none
  | fuel + 1, bs =>
    if bs = [] then some []
    else
      let n := leAt bs 4 4
      let size := 8 + n + (8 - n % 8) % 8
      if bs.length < size then none
      else (recordsOf fuel (bs.drop size)).map (fun rs => (leAt bs 0 2, leAt bs 2 2, (bs.drop 8).take n) :: rs)

/-- The records of a whole export. -/
def exportRecords (v : Octets) : Option (List (Nat × Nat × Octets)) :=
  let body := (v.drop 48).take (v.length - 56)
  (recordsOf (body.length + 1) body).bind (fun rs => if rs.length = leAt v 0x24 4 then some rs else none)

/-- The status of a slot (R492): 0 valid, 1 empty, 2 magic or version, 3 length, 4 CRC, 5 serial number, 6 record structure. -/
def State.slotStatus (s : State) (v : Octets) : Nat :=
  if v = [] then 1
  else if leAt v 0 4 ≠ 0x4C414356 ∨ leAt v 4 2 ≠ 1 then 2
  else if leAt v 0x20 4 ≠ v.length ∨ v.length < 56 then 3
  else if leAt v (v.length - 4) 4 ≠ crc32c (v.take (v.length - 4)) then 4
  else if s.rd Ix.calSerialCheck 0 = 1 ∧ leAt v 8 8 ≠ s.rd Ix.sysSerialNumber 0 then 5
  else if exportRecords v = none then 6
  else 0

/-- The value of an interface item set as a starting value for its next tracking or training (R492), or as the target that CAL steps to
(R480). -/
def State.setInterface (s : State) (w : CalWrite) : State :=
  let sub := w.inst + 1
  if w.code = 9 then (s.wro Ix.brdLaneSamplingDelay sub w.data).calCount 9 w.inst w.source |>.calBase 9 w.inst w.data
  else if w.code = 10 then (s.wro Ix.dmcLaneDelays sub w.data).calCount 10 w.inst w.source |>.calBase 10 w.inst w.data
  else
    let bases := storeSet [] s.cal.bases (calKey w.code w.inst) w.data
    s.setCal { s.cal with targets := w :: s.cal.targets.filter (fun x => !(x.code == w.code && x.inst == w.inst)),
                          bases := if w.source = 2 then bases else s.cal.bases }

/-- An export is applied (R492): records that do not suit are skipped, the others wait for what their class asks. -/
def State.applyExport (s : State) (v : Octets) (slot st1 st2 : Nat) (raise : Bool) : State :=
  let rs := (exportRecords v).getD []
  let good := rs.filter (fun x => s.itemFits x.1 x.2.1 x.2.2)
  let ws : List CalWrite := good.map (fun x => { code := x.1, inst := x.2.1, source := 2, data := x.2.2 })
  let seq := leAt v 0x10 8
  let t := if raise then s.raiseTo Ix.calLastSequence 0 seq else s
  let t := t.setCal { t.cal with
    image := t.cal.image ++ ws.filter (fun w => decide (w.code ≤ 4))
    geo := t.cal.geo ++ ws.filter (fun w => decide (5 ≤ w.code) && decide (w.code ≤ 7))
    imp := some { slot := slot, status1 := st1, status2 := st2, applied := good.length, skipped := rs.length - good.length, seq := seq } }
  ((ws.filter (fun w => decide (8 ≤ w.code))).foldl (fun (t : State) w => t.setInterface w) t).calFlag clImporting

/-- Nothing could be applied: the import ends with no slot. -/
def State.applyNothing (s : State) (st1 st2 : Nat) : State :=
  (s.setCal { s.cal with imp := some { slot := 0, status1 := st1, status2 := st2, applied := 0, skipped := 0, seq := 0 } }).calFlag clImporting

/-- The factory record is applied, where it passes the checks, and FACTORY_USED sets (R492, R493). -/
def State.applyFactory (s : State) (st1 st2 : Nat) : State :=
  if s.slotStatus s.cal.factory = 0 then (s.calFlag clFactoryUsed).applyExport s.cal.factory 3 st1 st2 false
  else (s.calFlag clFactoryInvalid).applyNothing st1 st2

/-- Import command 1 (R492). -/
def State.importSlots (s : State) : State × Code :=
  if !s.runs .cal then (s, .wrongState)
  else if s.calBusy then (s, .busy)
  else
    let a := s.rdo Ix.calImportSlot 1
    let b := s.rdo Ix.calImportSlot 2
    let sa := s.slotStatus a
    let sb := s.slotStatus b
    let useB := decide (sb = 0) && (decide (sa ≠ 0) || decide (leAt a 0x10 8 < leAt b 0x10 8))
    (if useB then s.applyExport b 2 sa sb true
     else if sa = 0 then s.applyExport a 1 sa sb true
     else s.applyFactory sa sb, .ok)

/-- Import command 2 (R493). DEDUCED: the statuses of the slots are those they have now. -/
def State.importFactory (s : State) : State × Code :=
  if !s.runs .cal then (s, .wrongState)
  else if s.calBusy then (s, .busy)
  else (s.applyFactory (s.slotStatus (s.rdo Ix.calImportSlot 1)) (s.slotStatus (s.rdo Ix.calImportSlot 2)), .ok)

/-- The import's result and its end (R492). -/
def State.endImport (s : State) : State :=
  match s.cal.imp with
  | none => s
  | some i =>
    let out := leBytes 1 i.slot ++ leBytes 1 i.status1 ++ leBytes 1 i.status2 ++ leBytes 1 0 ++ leBytes 4 i.applied ++ leBytes 4 i.skipped ++
      leBytes 4 0 ++ leBytes 8 i.seq ++ leBytes 8 s.stamp
    (((s.wro Ix.calImportResult 0 out).setCal { s.cal with imp := none }).clearBit Ix.calCalibrationStatus 0 clImporting).calFlag clImportDone

/-- The last write of an import completes (R492): the image values have gone in as one group; geometric ones must have been made. -/
def State.importComplete (s : State) : State :=
  if s.cal.imp.isNone ∨ s.cal.geo.any (fun w => w.source == 2) then s else s.writeImages.endImport

/-- Writes of an import not handed to MGT are dropped and count as skipped (R479, R494). -/
def State.dropImport (s : State) (imageToo : Bool) : State :=
  let gone (w : CalWrite) : Bool := w.source == 2
  let n := s.cal.geo.countP gone + (if imageToo then s.cal.image.countP gone else 0)
  let t := s.setCal { s.cal with
    geo := s.cal.geo.filter (fun w => !gone w), image := if imageToo then s.cal.image.filter (fun w => !gone w) else s.cal.image }
  (t.skipRecords n).writeImages.endImport

/-- The run timeout expires (R479, R488): before the writes a run has timed out; geometric writes that still wait are not made. -/
def State.runTimesOut (s : State) : State :=
  if s.cal.imp.isSome ∧ s.cal.geo.any (fun w => w.source == 2) then s.dropImport false
  else if s.cal.run.isSome ∧ s.rd Ix.calRunState 0 < 4 then s.failRun 11
  else if s.cal.run.isSome ∧ s.cal.geo.any (fun w => w.source == 1) then s.failRun 10
  else s

/-- Run cancel (R483). -/
def State.runCancel (s : State) (v : Nat) : State × Code := if v ≠ 1 then (s, .outOfRange) else (s.failRun 12, .ok)

/-- Item write (R477 to R481, R495): one value through CAL. -/
def State.itemWrite (s : State) (v : Octets) : State × Code :=
  let code := octAt v 0
  let inst := leAt v 2 2
  let data := v.drop 4
  let w : CalWrite := { code := code, inst := inst, source := 3, data := data }
  if !s.runs .cal then (s, .wrongState)
  else if !([1, 4, 5, 6, 7, 8, 11].contains code) || octAt v 1 ≠ 0 || !s.itemFits code inst data then (s, .outOfRange)
  else if code = 1 ∨ code = 4 then (s.writeImage w, .ok)
  else if code ≤ 7 then (s.setCal { s.cal with geo := s.cal.geo ++ [w] }, .ok)
  else (s.setInterface w, .ok)

/-- Factory save (R493): only in the Service life-cycle state, `service`. -/
def State.factorySave (s : State) (v : Nat) (service : Bool) : State × Code :=
  if !service then (s, .wrongState)
  else if v ≠ 1 then (s, .outOfRange)
  else
    let r := s.takeExport true
    (r.1.setCal { r.1.cal with factory := r.2 }, .ok)

/-! ### Interface items -/

/-- A tap stepped by one towards a target. -/
def stepTowards (now target : Int) : Int := if now < target then now + 1 else if target < now then now - 1 else now

/-- The taps of a threshold after an interval (R480): one tap towards a target that waits, else one tap against an error larger than the dead
band, in its range and its drift limit, which an import does not have. Answers whether any tap moved and whether the drift limit held one back. -/
def stepTaps (now base : Octets) (target : Option CalWrite) (errors : List (Option Int)) (band limit : Nat) : Octets × Bool × Bool :=
  let one (i : Nat) : Int × Bool :=
    let v := ofPattern 8 (octAt now i)
    let next := match target with
      | some w => stepTowards v (ofPattern 8 (octAt w.data i))
      | none => match errors.getD i none with
        | none => v
        | some e => clampInt (-31) 31 (if (band : Int) < e then v - 1 else if e < -(band : Int) then v + 1 else v)
    let free := target.any (fun w => w.source == 2)
    if next ≠ v ∧ !free ∧ limit < (next - ofPattern 8 (octAt base i)).natAbs then (v, true) else (next, false)
  let rs := (List.range now.length).map one
  let out := rs.flatMap (fun r => leBytes 1 (toPattern 8 r.1))
  (out, decide (out ≠ now), rs.any (fun r => r.2))

/-- One threshold over an interval (R480, R481): of a lane's receiver, or of an encoder's three lines. -/
def State.stepThreshold (s : State) (code inst : Nat) (errors : List (Option Int)) : State :=
  let sub := inst + 1
  let size := if code = 8 then 1 else 3
  let now := (s.itemValue code inst ++ zeros size).take size
  let target := s.cal.targets.find? (fun x => x.code == code && x.inst == inst)
  let base := (storeGet [] s.cal.bases (calKey code inst) ++ zeros size).take size
  let r := stepTaps now base target errors (s.rd Ix.calInterfaceDeadBand 0) (s.rd Ix.calDriftLimit 0)
  let t := if code = 8 then s.wr Ix.calCXPThreshold sub (octAt r.1 0) else s.wro Ix.calEncoderThreshold sub r.1
  let t := if r.2.2 then t.calFlag clDriftLimit else t
  match target with
  | some w =>
    let done := t.setCal { t.cal with targets := t.cal.targets.filter (fun x => !(x.code == code && x.inst == inst)) }
    if r.1 = w.data then done.calCount code inst w.source else if r.2.1 then t else done
  | none => if r.2.1 then t.calCount code inst 4 else t

/-- The interface interval (R480, R494): what the eye monitors and the duty cycles showed, by lane and by encoder; a line that did not toggle
has no error. -/
def State.interfaceInterval (s : State) (lanes : List (Nat × Int)) (encoders : List (Nat × List (Option Int))) : State :=
  if !s.runs .cal then s
  else
    let lane (i : Nat) : List (Option Int) := [(lanes.find? (fun x => x.1 == i)).map (fun x => x.2)]
    let enc (i : Nat) : List (Option Int) := ((encoders.find? (fun x => x.1 == i)).map (fun x => x.2)).getD []
    let t := (List.range 64).foldl (fun (t : State) i => t.stepThreshold 8 i (lane i)) s
    (List.range 4).foldl (fun (t : State) i => t.stepThreshold 11 i (enc i)) t

/-! ### Due flags -/

/-- The included instances of an item (R482). DEDUCED: of an included camera, a lane of one, a Braid port with a role, a channel in the map, an
encoder that is on. -/
def State.itemIncluded (s : State) (code inst : Nat) : Bool :=
  if code ≤ 7 then s.included inst
  else if code = 8 then (List.range 32).any (fun n =>
    s.included n && decide (s.rd Ix.cptFirstLane (n + 1) ≤ inst) && decide (inst < s.rd Ix.cptFirstLane (n + 1) + s.rd Ix.cptLaneCount (n + 1)))
  else if code = 9 then (s.rolePorts 1).any (fun n => n.val == inst) || (s.rolePorts 2).any (fun n => n.val == inst)
  else if code = 10 then s.dmc.map.contains inst
  else s.rd Ix.wpuEncoderMode (inst + 1) != 0

/-- Whether an instance is overdue (R482). -/
def State.overdueItem (s : State) (minutes code inst : Nat) : Bool :=
  let a := storeGet {} s.cal.items (calKey code inst)
  a.count == 0 || decide (minutes * 60 * tbuSecond < s.tbu - a.tbu)

/-- The due flags, evaluated once a minute (R482). -/
def State.dueCheck (s : State) : State :=
  [(1, [1, 2, 3, 4]), (2, [5, 6, 7]), (3, [8, 9, 10, 11])].foldl (fun (t : State) c =>
    let minutes := s.rd Ix.calDueInterval c.1
    let due := minutes != 0 && c.2.any (fun code => (List.range (itemInstances code)).any (fun i => s.itemIncluded code i && s.overdueItem minutes code i))
    t.putBit Ix.calCalibrationStatus 0 (clDueImage + c.1 - 1) due) s

/-! ### States -/

/-- STOP of CAL: a run that still measures ends (R494). -/
def State.calStops (s : State) : State := if s.rd Ix.calRunState 0 < 4 then s.failRun 12 else s

/-- CAL's drain ends when its writes are complete (R494). -/
def State.calDrained (s : State) : Bool := !s.calBusy && s.cal.geo.isEmpty && s.cal.image.isEmpty

/-- Drain timeout, ABORT or fault: writes not handed to MGT are dropped (R494). -/
def State.calTruncate (s : State) : State :=
  let t := s.failRun 12
  let t := if t.cal.imp.isSome then t.dropImport true else t
  t.setCal { t.cal with image := [], geo := [] }

end Sys2Proof.Machine
end

