-- ==== Sys2Proof/Machine/Codec.lean ====
section
/-! DEFINITION. The compression engine's block format and codecs (R234 to R242, R251). -/

namespace Sys2Proof.Machine

/-! ### Bits -/

/-- The `n` lowest bits of a number, most significant first (R237). -/
def putBits : Nat → Nat → List Bool
  | 0, _ => []
  | n + 1, v => v.testBit n :: putBits n v

/-- The number that bits spell, most significant first. -/
def getBits (bs : List Bool) : Nat := bs.foldl (fun v b => 2 * v + bitNat b) 0

/-- Bits packed from the most significant bit of each byte downward, padded with zero bits (R237). -/
def packBits : Nat → List Bool → Octets
  | 0, _ => []
  | n + 1, bs => if bs.isEmpty then [] else BitVec.ofNat 8 (getBits ((bs ++ List.replicate 8 false).take 8)) :: packBits n (bs.drop 8)

/-- The bits of a string (R237). -/
def unpackBits (bs : Octets) : List Bool := bs.flatMap (fun b => putBits 8 b.toNat)

/-! ### The image codec -/

/-- The prediction of a selector from the samples to the left, above and above-left (R237). -/
def predict (sel a b c : Nat) : Nat :=
  match sel with
  | 0 => a
  | 1 => b
  | 2 => if max a b ≤ c then min a b else if c ≤ min a b then max a b else a + b - c
  | _ => (a + b) / 2

/-- The prediction at a column and row of a plane of width `w` whose samples so far stand newest first (R238). -/
def predictAt (sel w d i j : Nat) (done : List Nat) : Nat :=
  if i = 0 ∧ j = 0 then 2 ^ (d - 1)
  else if j = 0 then done.getD 0 0
  else if i = 0 then done.getD (w - 1) 0
  else predict sel (done.getD 0 0) (done.getD (w - 1) 0) (done.getD w 0)

/-- The Rice parameter k of the adaptive state (R239). -/
def riceK (a n : Nat) : Nat → Nat → Nat
  | 0, k => k
  | fuel + 1, k => if n * 2 ^ k < a then riceK a n fuel (k + 1) else k

/-- The adaptive state after a code word (R239). -/
def riceNext (a n m : Nat) : Nat × Nat := if n + 1 = 64 then ((a + m + 1) / 2, 32) else (a + m, n + 1)

/-- The residual of a sample folded to a natural number (R239). -/
def foldResidual (x pred d : Nat) : Nat :=
  let e := ofPattern d ((x + 2 ^ d - pred) % 2 ^ d)
  if 0 ≤ e then (2 * e).toNat else (-2 * e - 1).toNat

/-- The sample a folded residual gives (R239). -/
def unfoldResidual (m pred d : Nat) : Nat :=
  let e : Int := if m % 2 = 0 then (m / 2 : Nat) else -((m + 1) / 2 : Nat)
  (((pred : Int) + e) % (2 ^ d : Nat)).toNat

/-- One code word (R239). -/
def riceCode (a n d m : Nat) : List Bool :=
  let k := riceK a n (d - 1) 0
  let q := m / 2 ^ k
  if q < 24 then List.replicate q true ++ [false] ++ putBits k m else List.replicate 24 true ++ putBits d m

/-- The bitstream of a plane, its samples in row-major order (R238, R239). -/
def encodeSamples (sel w d : Nat) : Nat → List Nat → Nat → Nat → List Nat → List Bool
  | _, _, _, _, [] => []
  | pos, done, a, n, x :: xs =>
    let m := foldResidual x (predictAt sel w d (pos % w) (pos / w) done) d
    let r := riceNext a n m
    riceCode a n d m ++ encodeSamples sel w d (pos + 1) (x :: done) r.1 r.2 xs

/-- The section of a plane by a selector (R237). -/
def encodeSection (sel w d : Nat) (xs : List Nat) : Octets :=
  let bits := encodeSamples sel w d 0 [] (2 ^ (d - 6)) 1 xs
  BitVec.ofNat 8 sel :: packBits (bits.length / 8 + 1) bits

/-- The section with the shortest bitstream, of the lowest selector on equal lengths (R238). -/
def bestSection (w d : Nat) (xs : List Nat) : Octets :=
  let len (sel : Nat) : Nat := (encodeSamples sel w d 0 [] (2 ^ (d - 6)) 1 xs).length
  let better (best sel : Nat) : Nat := if len sel < len best then sel else best
  encodeSection (better (better (better 0 1) 2) 3) w d xs

/-- The leading ones of a bitstream, at most 24, and the rest (R239). -/
def countOnes : Nat → List Bool → Nat × List Bool
  | 0, bs => (0, bs)
  | n + 1, true :: bs => let r := countOnes n bs; (r.1 + 1, r.2)
  | _ + 1, bs => (0, bs)

/-- One code word read: the folded residual and the rest, none where the stream runs out (R239). -/
def readRice (a n d : Nat) (bs : List Bool) : Option (Nat × List Bool) :=
  let k := riceK a n (d - 1) 0
  let r := countOnes 24 bs
  if r.1 = 24 then (if r.2.length < d then none else some (getBits (r.2.take d), r.2.drop d))
  else match r.2 with
    | [] => none
    | _ :: rest => if rest.length < k then none else some (r.1 * 2 ^ k + getBits (rest.take k), rest.drop k)

/-- The samples of a plane decoded, newest first, with the rest of the bits (R238, R239). -/
def decodeSamples (sel w d : Nat) : Nat → Nat → List Nat → Nat → Nat → List Bool → Option (List Nat × List Bool)
  | 0, _, done, _, _, bs => some (done, bs)
  | k + 1, pos, done, a, n, bs =>
    match readRice a n d bs with
    | none => none
    | some (m, rest) =>
      let r := riceNext a n m
      decodeSamples sel w d k (pos + 1) (unfoldResidual m (predictAt sel w d (pos % w) (pos / w) done) d :: done) r.1 r.2 rest

/-- The planes of a payload (R237): `comps` sections of `count` samples; none where it is malformed. -/
def decodeSections (w d count : Nat) : Nat → Octets → Option (List (List Nat))
  | 0, bs => if bs.isEmpty then some [] else none
  | c + 1, bs =>
    match bs with
    | [] => none
    | sel :: rest =>
      if 4 ≤ sel.toNat then none
      else match decodeSamples sel.toNat w d count 0 [] (2 ^ (d - 6)) 1 (unpackBits rest) with
        | none => none
        | some (xs, left) => (decodeSections w d count c (rest.drop (rest.length - left.length / 8))).map (fun ps => xs.reverse :: ps)

/-- The samples of the components of pixels in row-major order (R235). -/
def planesOfBytes (comps size : Nat) (bs : Octets) : List (List Nat) :=
  let vs := (chunks size (bs.length / size) bs).map ofLe
  (List.range comps).map (fun c => (List.range (vs.length / comps)).map (fun p => vs.getD (p * comps + c) 0))

/-- The original bytes of planes (R235). -/
def bytesOfPlanes (size count : Nat) (ps : List (List Nat)) : Octets :=
  (List.range count).flatMap (fun p => ps.flatMap (fun pl => leBytes size (pl.getD p 0)))

/-! ### The generic codec -/

/-- What reading one sequence gives (R240): its literals, its match (offset and length, none for the last sequence) and the octets it
takes; or that the input ends inside it; or that it is malformed, being a last sequence with M ≠ 0, and how many literals it has. -/
inductive SeqRead where
  | ok (literals : Octets) (copy : Option (Nat × Nat)) (used : Nat)
  | short
  | malformed (literals : Nat)
  deriving DecidableEq, Repr

/-- A length extension: the sum of its bytes and their number, none where the input ends inside it (R240). -/
def readExtension : Octets → Option (Nat × Nat)
  | [] => none
  | b :: bs => if b.toNat = 255 then (readExtension bs).map (fun r => (r.1 + 255, r.2 + 1)) else some (b.toNat, 1)

/-- One sequence read (R240). -/
def readSeq (bs : Octets) : SeqRead :=
  match bs with
  | [] => .short
  | token :: rest =>
    let l := token.toNat / 16
    let m := token.toNat % 16
    let ext := if l = 15 then readExtension rest else some (0, 0)
    match ext with
    | none => .short
    | some (lx, ln) =>
      let lits := l + lx
      let body := rest.drop ln
      if body.length < lits + 2 then .short
      else
        let off := leAt body lits 2
        let after := body.drop (lits + 2)
        if off = 0 then (if m = 0 then .ok (body.take lits) none (3 + ln + lits) else .malformed lits)
        else
          match (if m = 15 then readExtension after else some (0, 0)) with
          | none => .short
          | some (mx, mn) => .ok (body.take lits) (some (off, m + 4 + mx)) (3 + ln + lits + mn)

/-- A match copied byte by byte from the output, newest first (R240). -/
def copyMatch (off : Nat) : Nat → Octets → Octets
  | 0, out => out
  | n + 1, out => copyMatch off n (out.getD (off - 1) 0 :: out)

/-- A block's sequences decoded to the original size, the output newest first (R240, R242). -/
def decodeGeneric (size : Nat) : Nat → Octets → Octets → Option Octets
  | 0, _, _ => none
  | fuel + 1, bs, out =>
    match readSeq bs with
    | .ok lits none _ =>
      let o := lits.reverse ++ out
      if o.length = size then some o.reverse else none
    | .ok lits (some (off, n)) used =>
      let o := lits.reverse ++ out
      if o.length < off ∨ size < o.length + n then none else decodeGeneric size fuel (bs.drop used) (copyMatch off n o)
    | _ => none

/-- A count coded as an extension (R240). -/
def extension : Nat → Nat → Octets
  | 0, _ => []
  | fuel + 1, n => if n < 255 then [BitVec.ofNat 8 n] else 255 :: extension fuel (n - 255)

/-- A sequence's octets (R240). -/
def seqOctets (lits : Octets) (copy : Option (Nat × Nat)) : Octets :=
  let l := min 15 lits.length
  let m := match copy with
    | some (_, n) => min 15 (n - 4)
    | none => 0
  BitVec.ofNat 8 (16 * l + m) :: (if l = 15 then extension (lits.length / 255 + 1) (lits.length - 15) else []) ++ lits ++
  (match copy with
    | some (off, n) => leBytes 2 off ++ (if m = 15 then extension (n / 255 + 1) (n - 19) else [])
    | none => leBytes 2 0)

/-- How far two strings agree, at most `n` bytes. -/
def agree : Nat → Octets → Octets → Nat
  | n + 1, a :: as, b :: bs => if a = b then agree n as bs + 1 else 0
  | _, _, _ => 0

/-- The most recent earlier positions whose first four bytes hash like those at `p`, up to `n` of them within 65,535 bytes (R241). -/
def candidates (data : Octets) (p n : Nat) : List Nat :=
  let h (q : Nat) : Nat := Config.matchHash (leAt data q 4)
  (((List.range (min p 65535)).map (fun k => p - 1 - k)).filter (fun q => h q == h p)).take n

/-- The match taken at a position: its offset and length, none below four bytes (R241). -/
def findMatch (data : Octets) (p n : Nat) : Option (Nat × Nat) :=
  if data.length < p + 4 then none
  else
    let best := (candidates data p n).foldl (fun (b : Nat × Nat) q =>
      let k := agree 4096 (data.drop q) (data.drop p)
      if b.2 < k then (p - q, k) else b) (0, 0)
    if best.2 < 4 then none else some best

/-- The next sequence of the greedy parse from a position (R241): its octets and the position after it; `last` where the data ends with
it. DEDUCED: a run of literals longer than R241's limit stays in one sequence, since R240 gives a sequence without a match no other
form than the last. -/
def nextSeq (data : Octets) (n start : Nat) : Nat → Nat → Octets × Nat × Bool
  | 0, p => (seqOctets ((data.drop start).take (p - start)) none, p, true)
  | fuel + 1, p =>
    if data.length ≤ p then (seqOctets ((data.drop start).take (p - start)) none, p, true)
    else match findMatch data p n with
      | some (off, k) => (seqOctets ((data.drop start).take (p - start)) (some (off, k)), p + k, false)
      | none => nextSeq data n start fuel (p + 1)

/-- How far the greedy parse of the sequence that begins at a position looks into the data: the four bytes that it hashes at each position, and the
bytes in which it compares the match it takes (R241). -/
def parseReach (data : Octets) (n : Nat) : Nat → Nat → Nat
  | 0, p => p
  | fuel + 1, p =>
    if data.length ≤ p then p
    else match findMatch data p n with
      | some (_, k) => min data.length (p + max 4 (min 4096 (k + 1)))
      | none => max (min data.length (p + 4)) (parseReach data n fuel (p + 1))

/-- A block's data compressed (R241, R242). -/
def encodeGeneric (data : Octets) (n : Nat) : Nat → Nat → Octets
  | 0, _ => []
  | fuel + 1, p =>
    let r := nextSeq data n p data.length p
    if r.2.2 then r.1 else r.1 ++ encodeGeneric data n fuel r.2.1

/-! ### Blocks -/

/-- A string padded with zeros to the next multiple of 16 (R234). -/
def pad16 (bs : Octets) : Octets := bs ++ zeros ((16 - bs.length % 16) % 16)

/-- A block (R234): the stored form where the codec's payload would not be smaller than the original (R236). The flag says that. -/
def makeBlock (codec layout geometry : Nat) (payload original : Octets) : Octets × Bool :=
  let head (c l g : Nat) (p : Octets) : Octets :=
    leBytes 1 c ++ leBytes 1 l ++ leBytes 2 g ++ leBytes 4 original.length ++ leBytes 4 p.length ++ leBytes 4 (crc32c original)
  if original.length ≤ payload.length then (pad16 (head 0 0 0 original ++ original), true)
  else (pad16 (head codec layout geometry payload ++ payload), false)

/-- An image block of a tile of `w` by `h` pixels (R235, R237). -/
def imageBlock (w h comps : Nat) (wide : Bool) (original : Octets) : Octets × Bool :=
  let size := if wide then 2 else 1
  let payload := (planesOfBytes comps size original).flatMap (bestSection w (8 * size))
  makeBlock 1 (comps - 1 + 4 * bitNat wide) (w - 1 + 64 * (h - 1)) payload original

/-- A generic block (R240 to R242). -/
def genericBlock (n : Nat) (original : Octets) : Octets × Bool :=
  makeBlock 2 0 0 (encodeGeneric original n original.length 0) original

/-- A block's header. -/
structure BlockHead where
  codec : Nat
  layout : Nat
  geometry : Nat
  original : Nat
  compressed : Nat
  crc : Nat
  deriving DecidableEq, Repr

/-- The header read (R234). -/
def blockHead (bs : Octets) : BlockHead where
  codec := octAt bs 0
  layout := octAt bs 1
  geometry := leAt bs 2 2
  original := leAt bs 4 4
  compressed := leAt bs 8 4
  crc := leAt bs 12 4

/-- The octets a block occupies (R234). -/
def BlockHead.size (h : BlockHead) : Nat := 16 + (h.compressed + 15) / 16 * 16

/-- The components, sample size, width and height an image block's header gives (R234). -/
def BlockHead.comps (h : BlockHead) : Nat := field h.layout 0 2 + 1
def BlockHead.sample (h : BlockHead) : Nat := if h.layout.testBit 2 then 2 else 1
def BlockHead.width (h : BlockHead) : Nat := field h.geometry 0 6 + 1
def BlockHead.height (h : BlockHead) : Nat := field h.geometry 6 6 + 1

/-- Whether a header is valid (R234, R235). -/
def BlockHead.ok (h : BlockHead) : Bool :=
  decide (1 ≤ h.original) && decide (h.original ≤ 65536) &&
  (if h.codec = 1 then decide (h.layout < 8) && decide (h.geometry < 4096) &&
      decide (h.original = h.width * h.height * h.comps * h.sample)
   else decide (h.codec ≤ 2) && h.layout == 0 && h.geometry == 0)

/-- The payload of a block decoded, none where it is malformed (R236, R239, R242). -/
def decodePayload (h : BlockHead) (p : Octets) : Option Octets :=
  if h.codec = 0 then some p
  else if h.codec = 1 then
    (decodeSections h.width (8 * h.sample) (h.width * h.height) h.comps p).map
      (bytesOfPlanes h.sample (h.width * h.height))
  else decodeGeneric h.original (p.length + 1) p []

/-- A block's original bytes where it passes every check, none where it is poisoned (R251). -/
def decodeBlock (bs : Octets) : Option Octets :=
  let h := blockHead bs
  if !h.ok || decide (bs.length < 16 + h.compressed) then none
  else match decodePayload h ((bs.drop 16).take h.compressed) with
    | some o => if o.length = h.original ∧ crc32c o = h.crc then some o else none
    | none => none

/-- A running CRC-32C carried on over more octets, from a seed (R245, R247). -/
def crcOn (seed : Nat) (bs : Octets) : Nat := (bs.foldl crc32cByte (seed ^^^ 0xFFFFFFFF)) ^^^ 0xFFFFFFFF

end Sys2Proof.Machine
end

