-- ==== Sys2Proof/Machine/Cde.lean ====
section
/-! DEFINITION. The compression engine's users, lanes and host jobs (R243 to R256). -/

namespace Sys2Proof.Machine

/-- The flags of Engine status (R257). -/
abbrev esBusy : Nat := 0
abbrev esCheckFail : Nat := 1
abbrev esMalformed : Nat := 2
abbrev esOutputFull : Nat := 3
abbrev esInputPoison : Nat := 4
abbrev esQueueFull : Nat := 5

/-- The fields of a job descriptor (R245). -/
abbrev jobOp (d : Octets) : Nat := octAt d 0
abbrev jobCodec (d : Octets) : Nat := octAt d 1
abbrev jobFlags (d : Octets) : Nat := octAt d 2
abbrev jobLayout (d : Octets) : Nat := octAt d 3
abbrev jobTag (d : Octets) : Nat := leAt d 4 4
abbrev jobInput (d : Octets) : Nat := leAt d 8 8
abbrev jobLength (d : Octets) : Nat := leAt d 0x10 8
abbrev jobOutput (d : Octets) : Nat := leAt d 0x18 8
abbrev jobSpace (d : Octets) : Nat := leAt d 0x20 8
abbrev jobWidth (d : Octets) : Nat := leAt d 0x28 4
abbrev jobHeight (d : Octets) : Nat := leAt d 0x2C 4
abbrev jobStride (d : Octets) : Nat := leAt d 0x30 4
abbrev jobSeed (d : Octets) : Nat := leAt d 0x34 4
abbrev jobResume (d : Octets) : Nat := leAt d 0x38 8

/-- Whether a job is image compression, whose unit is a tile (R246). -/
def jobImage (d : Octets) : Bool := jobOp d == 1 && jobCodec d == 1

/-- How many units of input a job has (R246). -/
def jobUnits (d : Octets) : Nat := if jobImage d then ((jobWidth d + 63) / 64) * ((jobHeight d + 63) / 64) else jobLength d

/-- The bytes of a pixel of an image job (R235, R245). -/
def jobPixel (d : Octets) : Nat := (field (jobLayout d) 0 2 + 1) * (if (jobLayout d).testBit 2 then 2 else 1)

/-- Whether a range lies within the CDE work region (R245). -/
def State.inWork (s : State) (addr n : Nat) : Bool :=
  decide ((s.region 3).1 ≤ addr ∧ addr + n ≤ (s.region 3).1 + (s.region 3).2)

/-- Whether a job descriptor is accepted (R245). -/
def State.jobOk (s : State) (d : Octets) : Bool :=
  let op := jobOp d
  let codecOk := decide (3 ≤ op) || (op == 1 && (jobCodec d == 1 || jobCodec d == 2)) || (op == 2 && jobCodec d == 2)
  let resumed := (jobFlags d).testBit 0
  decide (d.length = 64) && decide (1 ≤ op) && decide (op ≤ 4) && codecOk && decide (jobFlags d < 8) &&
  decide (jobLayout d < 128) && (op != 1 || jobOutput d % 16 == 0) &&
  (!jobImage d || (decide (1 ≤ jobWidth d) && decide (1 ≤ jobHeight d) && decide (jobWidth d * jobPixel d ≤ jobStride d) &&
    decide ((jobHeight d - 1) * jobStride d + jobWidth d * jobPixel d ≤ jobLength d))) &&
  s.inWork (jobInput d) (jobLength d) && s.inWork (jobOutput d) (jobSpace d) &&
  decide (jobResume d ≤ jobUnits d) && (resumed || (jobResume d == 0 && jobSeed d == 0))

/-- The host jobs that CDE holds: queued, or in a lane for a block or slice (R245). -/
def State.jobsQueued (s : State) : Nat :=
  s.cde.jobs.length + s.cde.lanes.toList.countP (fun w => match w with
    | some (.host _) => true
    | _ => false)

/-- The live objects of CDE: jobs queued and BUSY (R257). -/
def State.showCde (s : State) : State :=
  (s.wr Ix.cdeHostJobsQueued 0 s.jobsQueued).putBit Ix.cdeEngineStatus 0 esBusy (s.cde.lanes.toList.any (fun w => w.isSome))

/-- CDE's bookkeeping replaced, with what its objects show of it. -/
def State.setCde (s : State) (c : CdeState) : State := { s with cde := c }.showCde

/-- A Job submit (R245). -/
def State.submitJob (s : State) (d : Octets) : State × Code :=
  if !s.runs .cde then (s, .wrongState)
  else if !s.jobOk d then (s, .outOfRange)
  else if 16 ≤ s.jobsQueued then (s.setBit Ix.cdeEngineStatus 0 esQueueFull, .busy)
  else (s.setCde { s.cde with jobs := s.cde.jobs ++ [{ desc := d, consumed := jobResume d, crc := jobSeed d }] }, .ok)

/-- The completion record (R247). -/
def completion (j : HostJob) (status : Nat) : Octets :=
  leBytes 2 0x0005 ++ leBytes 1 1 ++ leBytes 1 status ++ leBytes 4 (jobTag j.desc) ++ leBytes 8 j.consumed ++
  leBytes 8 j.produced ++ leBytes 4 j.crc ++ leBytes 4 j.poisoned

/-- A job ends (R247, R257). -/
def State.endJob (s : State) (j : HostJob) (status : Nat) : State :=
  let r := completion j status
  let s1 := (s.wro Ix.cdeLastCompletion 0 r).bump Ix.cdeHostJobsCompleted 0 1
  let s2 := if status = 1 then (s1.setBit Ix.cdeEngineStatus 0 esOutputFull).bump Ix.cdeOutputFullStops 0 1
    else if status = 3 then s1.setBit Ix.cdeEngineStatus 0 esMalformed
    else if status = 4 then s1.setBit Ix.cdeEngineStatus 0 esInputPoison else s1
  let s3 := if (jobFlags j.desc).testBit 2 then s2.push xqIx fromCde false r else s2
  s3.cross (eventCode 14 0 0) none (jobTag j.desc)

/-- A block is poisoned (R252). -/
def State.checkFailed (s : State) (tag : Nat) : State :=
  ((s.bump Ix.cdeCheckFailures 0 1).setBit Ix.cdeEngineStatus 0 esCheckFail).cross (eventCode 14 0 1) none tag

/-- A range of DRAM read by a host job: its octets, and how many of them stand before the first poisoned unit (R253). -/
def State.readClean (s : State) (addr n : Nat) : Octets × Nat × State :=
  if n = 0 then ([], 0, s)
  else
    let u := unitOf addr
    let (ds, s1) := s.readUnits 6 u ((addr + n - 1) / 64 - addr / 64 + 1)
    let good := (ds.takeWhile (fun d => d.isSome)).length * 64 - (addr - u)
    (((ds.flatMap (fun d => d.getD (zeros 64))).drop (addr - u)).take n, min n good, s1)

/-! ### Throughput -/

/-- The cycles a lane spends on a block (R243). -/
def laneCycles (n per : Nat) : Nat := (n + per - 1) / per + 64

/-- The cycles that decompression of a block takes, by its header (R243). -/
def decodeCycles (h : BlockHead) : Nat :=
  if h.codec = 1 then laneCycles (h.original / h.sample) 12 else if h.codec = 2 then laneCycles h.original 16 else laneCycles h.original 32

/-- A lane has processed a block or slice (R258). -/
def State.laneDone (s : State) (lane cycles : Nat) : State :=
  ((s.bump Ix.cdeLaneBusyCycles (lane + 1) cycles).bump Ix.cdeLaneBlocks (lane + 1) 1).tally (if lane < 16 then 0x20 else 0x21)
    (if lane < 16 then lane else lane - 16) cycles

/-- The counters of a block decompressed (R257). -/
def State.countDecoded (s : State) (n : Nat) : State :=
  (s.bump Ix.cdeBlocksDecompressed 0 1).bump Ix.cdeOriginalBytesDecoded 0 n

/-- The counters of a block compressed (R236, R257). -/
def State.countEncoded (s : State) (original written : Nat) (stored : Bool) : State :=
  let t := ((s.bump Ix.cdeBlocksCompressed 0 1).bump Ix.cdeOriginalBytesEncoded 0 original).bump Ix.cdeCompressedBytesWritten 0 written
  if stored then t.bump Ix.cdeStoredFallbacks 0 1 else t

/-! ### Host jobs -/

/-- What one block or slice leaves of a job: the job, and its status where it ends. -/
structure JobStep where
  job : HostJob
  status : Option Nat
  cycles : Nat
  deriving DecidableEq, Repr

/-- The original bytes of a tile of an image job, and whether any was read poisoned: `rows` of them from row `y` on (R246). -/
def State.tileRows (s : State) (d : Octets) (x w y : Nat) : Nat → Octets × Bool × State
  | 0 => ([], false, s)
  | n + 1 =>
    let (a, bad, s1) := s.dramFetch 6 (jobInput d + y * jobStride d + x * jobPixel d) (w * jobPixel d)
    let (b, bad', s2) := s1.tileRows d x w (y + 1) n
    (a ++ b, bad || bad', s2)

/-- One block of operation 1 (R246, R248, R253). -/
def State.compressBlock (s : State) (j : HostJob) : State × JobStep :=
  let d := j.desc
  let units := jobUnits d
  if units ≤ j.consumed then (s, ⟨j, some 0, 0⟩)
  else
    let across := (jobWidth d + 63) / 64
    let x := j.consumed % across * 64
    let y := j.consumed / across * 64
    let w := min 64 (jobWidth d - x)
    let h := min 64 (jobHeight d - y)
    let comps := field (jobLayout d) 0 2 + 1
    let wide := (jobLayout d).testBit 2
    let n := min ((field (jobLayout d) 3 4 + 1) * 4096) (jobLength d - j.consumed)
    let (data, bad, s1) := if jobImage d then s.tileRows d x w y h else s.dramFetch 6 (jobInput d + j.consumed) n
    if bad then (s1, ⟨j, some 4, 64⟩)
    else
      let (block, stored) := if jobImage d then imageBlock w h comps wide data else genericBlock (s.rd Ix.cdeMatchCandidates 0) data
      let cycles := if jobImage d then laneCycles (data.length / (if wide then 2 else 1)) 4 else laneCycles data.length 4
      if jobSpace d < j.produced + block.length then (s1, ⟨j, some 1, cycles⟩)
      else
        let s2 := (s1.dramStore (jobOutput d + j.produced) block).countEncoded data.length block.length stored
        let j' := { j with consumed := j.consumed + (if jobImage d then 1 else data.length), produced := j.produced + block.length,
                           crc := crcOn j.crc data }
        (s2, ⟨j', if units ≤ j'.consumed then some 0 else none, cycles⟩)

/-- A block's header read for a host job, and whether it was read poisoned: its sizes are then free (R252). -/
def State.headRead (s : State) (addr n : Nat) : BlockHead × Bool × State :=
  let (bs, bad, s1) := s.dramFetch 6 addr n
  let (original, compressed) := Config.poisonedHead s.free
  if bad then ({ blockHead [] with original := 1 + original % 65536, compressed := compressed % 65537 }, true, s1.takeFree)
  else (blockHead bs, false, s1)

/-- One block of operation 3 (R246, R248, R252): a poisoned block gives zeros of its original size. -/
def State.decompressBlock (s : State) (j : HostJob) : State × JobStep :=
  let d := j.desc
  let rest := jobLength d - j.consumed
  let last (j : HostJob) : Option Nat := some (if j.poisoned = 0 then 0 else 2)
  if rest = 0 then (s, ⟨j, last j, 0⟩)
  else
    let (h, blind, s1) := s.headRead (jobInput d + j.consumed) (min 16 rest)
    let size := min h.size rest
    let (bs, bad, s2) := s1.dramFetch 6 (jobInput d + j.consumed) size
    let out := if blind || bad || decide (rest < h.size) then none else decodeBlock bs
    let n := min h.original 65536
    let cycles := decodeCycles h
    if jobSpace d < j.produced + n then (s2, ⟨j, some 1, cycles⟩)
    else
      let data := out.getD (zeros n)
      let s3 := (s2.dramStore (jobOutput d + j.produced) data).countDecoded n
      let s4 := if out.isNone then s3.checkFailed (jobTag d) else s3
      let j' := { j with consumed := j.consumed + size, produced := j.produced + n, crc := crcOn j.crc data,
                         poisoned := j.poisoned + bitNat out.isNone }
      (s4, ⟨j', if jobLength d ≤ j'.consumed then last j' else none, cycles⟩)

/-- How far back a copy of a stream reaches (R240, R250). -/
def streamWindow : Nat := 65535

/-- The first byte that a stream at a place may still copy from (R250). -/
def historyStart (consumed : Nat) : Nat := if streamWindow ≤ consumed then consumed - streamWindow else 0

/-- The sequences of a slice of operation 2 from a position of the input on: the output so far, at most `limit` bytes before a new
sequence begins; the position, the output and the status where the job ends (R241, R246, R248). A code word whose parse looks at poisoned input is not
written (R253); where not even the smallest code word of 3 bytes fits, status 1 comes before status 4 (R249). -/
def compressSlice (data : Octets) (n clean space limit : Nat) (final : Bool) : Nat → Nat → Octets → Nat × Octets × Option Nat
  | 0, p, out => (p, out, none)
  | fuel + 1, p, out =>
    if limit ≤ out.length then (p, out, none)
    else
      let (code, q, isLast) := nextSeq data n p data.length p
      let poisoned := decide (clean < parseReach data n data.length p)
      if !final && decide (data.length < q + 4100) then (p, out, some 0)
      else if poisoned && decide (space < out.length + 3) then (p, out, some 1)
      else if poisoned then (p, out, some 4)
      else if space < out.length + code.length then (p, out, some 1)
      else if isLast then (q, out ++ code, some 0)
      else compressSlice data n clean space limit final fuel q (out ++ code)

/-- One slice of operation 2: a stream that goes on reads at most 65,535 bytes before its place as its history (R244, R246, R250). -/
def State.compressStream (s : State) (j : HostJob) : State × JobStep :=
  let d := j.desc
  let base := historyStart j.consumed
  let at_ := j.consumed - base
  let (data, clean, s1) := s.readClean (jobInput d + base) (jobLength d - base)
  let (p, out, status) := compressSlice data (s.rd Ix.cdeMatchCandidates 0) clean (jobSpace d - j.produced)
    (s.rd Ix.cdeHostSliceSize 0) ((jobFlags d).testBit 1) (data.length + 1) at_ []
  let taken := (data.drop at_).take (p - at_)
  let s2 := ((s1.dramStore (jobOutput d + j.produced) out).bump Ix.cdeOriginalBytesEncoded 0 taken.length).bump
    Ix.cdeCompressedBytesWritten 0 out.length
  (s2, ⟨{ j with consumed := base + p, produced := j.produced + out.length, crc := crcOn j.crc taken }, status, laneCycles taken.length 4⟩)

/-- The sequences of a stream decoded from a position of the input on, the stream's output newest first (R240, R242, R248): stops once
`limit` bytes came out, where the space ends, at the last sequence or at the end of the input; of statuses that arise together, the lowest
(R249). -/
def expandSlice (input : Octets) (clean space limit : Nat) (final : Bool) :
    Nat → Nat → Octets → Nat → Nat × Octets × Nat × Option Nat
  | 0, p, out, n => (p, out, n, none)
  | fuel + 1, p, out, n =>
    if limit ≤ n then (p, out, n, none)
    else if input.length ≤ p then (p, out, n, some (if final then 3 else 0))
    else
      let short := some (if clean < input.length then 4 else if final then 3 else 6)
      match readSeq ((input.take clean).drop p) with
      | .short => (p, out, n, short)
      | .malformed k => (p, out, n, some (if space < n + k then 1 else 3))
      | .ok lits copy used =>
        let o := lits.reverse ++ out
        match copy with
        | none => if space < n + lits.length then (p, out, n, some 1) else (p + used, o, n + lits.length, some 0)
        | some (off, k) =>
          if space < n + lits.length + k then (p, out, n, some 1)
          else if o.length < off then (p, out, n, some 3)
          else expandSlice input clean space limit final fuel (p + used) (copyMatch off k o) (n + lits.length + k)

/-- One slice of operation 4 (R244, R246). DEDUCED: the history of a resumed stream is what the input before the resume offset decodes
to; the 65,535 bytes before it are read and must not be poisoned, and what stands before those is taken as it is (R250). -/
def State.decompressStream (s : State) (j : HostJob) : State × JobStep :=
  let d := j.desc
  let base := historyStart j.consumed
  let (tail_, clean', s1) := s.readClean (jobInput d + base) (jobLength d - base)
  let input := s.dramBytes (jobInput d) base ++ tail_
  let clean := base + clean'
  let before := expandSlice (input.take j.consumed) input.length (2 ^ 64) (2 ^ 64) false (input.length + 1) 0 [] 0
  let (p, out, n, status) := expandSlice input clean (jobSpace d - j.produced) (s.rd Ix.cdeHostSliceSize 0) ((jobFlags d).testBit 1)
    (input.length + 1) j.consumed before.2.1 0
  let data := (out.take n).reverse
  let s2 := (s1.dramStore (jobOutput d + j.produced) data).bump Ix.cdeOriginalBytesDecoded 0 n
  (s2, ⟨{ j with consumed := p, produced := j.produced + n, crc := crcOn j.crc data }, status, laneCycles n 16⟩)

/-- One block or slice of a host job (R244). -/
def State.stepJob (s : State) (j : HostJob) : State × JobStep :=
  if jobOp j.desc = 1 then s.compressBlock j
  else if jobOp j.desc = 2 then s.compressStream j
  else if jobOp j.desc = 3 then s.decompressBlock j
  else s.decompressStream j

/-! ### Lanes -/

/-- The first host job of some operations, and the rest of the queue (R244). -/
def takeJob (ops : List Nat) : List HostJob → Option (HostJob × List HostJob)
  | [] => none
  | j :: js =>
    if ops.contains (jobOp j.desc) then some (j, js)
    else (takeJob ops js).map (fun r => (r.1, j :: r.2))

/-- Whether CDE works: Running, or Draining what it has accepted (R254). -/
def State.cdeWorks (s : State) : Bool := s.runs .cde || s.drains .cde

/-- A free lane takes the next work of its user: a tile or a crop block before any host job, host jobs in submit order (R244, R254). -/
def State.dispatchLane (s : State) (lane : Fin 20) : State :=
  if !s.cdeWorks || (s.cde.lanes[lane]).isSome then s
  else
    let c := s.cde
    let host (ops : List Nat) : State := match takeJob ops c.jobs with
      | some (j, js) => s.setCde { c with jobs := js, lanes := c.lanes.set lane (some (.host { j with begun := true })) }
      | none => s
    if lane.val < 16 then
      match c.tiles, s.runs .cde with
      | t :: ts, true => s.setCde { c with tiles := ts, lanes := c.lanes.set lane (some (.tile t)) }
      | _, _ => host [3, 4]
    else
      match c.crops with
      | b :: bs => s.setCde { c with crops := bs, lanes := c.lanes.set lane (some (.crop b)) }
      | [] => host [1, 2]

/-- Whether a decoded tile suits its page: 64 by 64 pixels of the page's components, 8 bits each (R252). -/
def tileFits (comps : Nat) (h : BlockHead) : Bool :=
  decide (h.original = 4096 * comps) && (h.codec != 1 || (h.width == 64 && h.height == 64 && h.comps == comps && h.sample == 1))

/-- A tile's data released to MRE, none where it is poisoned (R215, R252). -/
def State.tileDone (s : State) (t : TileJob) (data : Option Octets) : State :=
  let bound := s.mre.bound.map (fun p => if p.id = t.page then { p with tiles := (t.tile, data) :: p.tiles } else p)
  let s1 := { s with mre := { s.mre with bound := bound } }
  if data.isNone then (s1.bump Ix.mrePoisonedTiles 0 1).setBit Ix.mreInspectionStatus 0 12 else s1

/-- A tile whose DRAM channel is not Running stays undecoded, and MRE asks for it again (R230). -/
def State.tileLost (s : State) (t : TileJob) : State :=
  { s with mre := { s.mre with bound := s.mre.bound.map (fun p =>
      if p.id = t.page then { p with asked := p.asked.filter (fun k => k != t.tile) } else p) } }

/-- A lane finishes what it has in hand (R243, R244, R251, R252). -/
def State.finishLane (s : State) (lane : Fin 20) : State :=
  match s.cde.lanes[lane] with
  | none => s
  | some w =>
    let s0 := s.setCde { s.cde with lanes := s.cde.lanes.set lane none }
    match w with
    | .tile t =>
      let (hd, bad, s1) := s0.dramFetch 3 t.addr 16
      let h := blockHead hd
      if !s0.rangeRuns t.addr (max 16 h.size) then s1.tileLost t else
      let (bs, bad', s2) := s1.dramFetch 3 t.addr h.size
      let sound := if bad || bad' then none else decodeBlock bs
      let data := if tileFits t.comps h then sound else none
      let s3 := ((s2.laneDone lane.val (decodeCycles h)).countDecoded (min h.original 65536)).tally 0x22 0 1
      (if sound.isNone then s3.checkFailed 0 else s3).tileDone t data
    | .crop b =>
      let (block, stored) := imageBlock b.width b.height b.comps true b.data
      let s1 := (s0.laneDone lane.val (laneCycles (b.data.length / 2) 4)).countEncoded b.data.length block.length stored
      s1.setCde { s1.cde with encoded := s1.cde.encoded ++ [(b.handle, b.index, block)] }
    | .host j =>
      let (s1, r) := s0.stepJob j
      let s2 := s1.laneDone lane.val r.cycles
      match r.status with
      | some st => (s2.endJob r.job (if j.cancelled && st == 6 then 5 else st)).showCde
      | none => if j.cancelled then (s2.endJob r.job 5).showCde else s2.setCde { s2.cde with jobs := r.job :: s2.cde.jobs }

/-- Whether a job is in hand or has been (R254). -/
def endUnits (j : HostJob) : HostJob := if j.begun then j else { j with consumed := 0 }

/-- Every queued host job with a tag ends; one that a lane holds ends with its block or slice (R254). -/
def State.cancelJobs (s : State) (tag : Nat) : State :=
  let hit (j : HostJob) : Bool := jobTag j.desc == tag
  let lanes := s.cde.lanes.map (fun w => match w with
    | some (.host j) => some (CdeWork.host (if hit j then { j with cancelled := true } else j))
    | x => x)
  let s1 := s.setCde { s.cde with jobs := s.cde.jobs.filter (fun j => !hit j), lanes := lanes }
  (s.cde.jobs.filter hit).foldl (fun t j => t.endJob (endUnits j) 5) s1

/-- The host jobs that lanes have in hand. -/
def jobsInHand (ws : List (Option CdeWork)) : List HostJob :=
  ws.filterMap (fun w => match w with
    | some (.host j) => some j
    | _ => none)

/-- The tiles that lanes have in hand. -/
def tilesInHand (ws : List (Option CdeWork)) : List TileJob :=
  ws.filterMap (fun w => match w with
    | some (.tile t) => some t
    | _ => none)

/-- Drain timeout, ABORT or fault: jobs stop with status 5, tiles stay undecoded, blocks of crops are discarded (R254, R255). -/
def State.cdeTruncate (s : State) : State :=
  let ws := s.cde.lanes.toList
  let ended := jobsInHand ws ++ s.cde.jobs
  let s1 := s.setCde { tiles := tilesInHand ws ++ s.cde.tiles, crops := [], jobs := [], lanes := Vector.replicate 20 none, encoded := [] }
  ended.foldl (fun t j => t.endJob (endUnits j) 5) s1

/-- Whether CDE's drain has ended: no host job, no crop block, no work in hand (R254). -/
def State.cdeDrained (s : State) : Bool :=
  s.cde.jobs == [] && s.cde.crops == [] && s.cde.lanes.toList.all (fun w => w.isNone)

end Sys2Proof.Machine
end

