-- ==== Sys2Proof/Machine/DeltaE.lean ====
section
/-! DEFINITION. The colour difference CIEDE2000 in fixed point, and the deviation that R224 bounds by it.

PRESUMED: R224 names CIEDE2000 and not its formula; the formula is that of ISO/CIE 11664-6. Quantities are integers times 2^-40; the truncations
add up to less than 2^-20 of ΔE00, which the bound of `deltaBounds` allows for. -/

namespace Sys2Proof.Machine.Ciede

/-- One, in the fixed point. -/
abbrev one : Int := 2 ^ 40

/-- A whole number, and a number of thousandths, in the fixed point. -/
def whole (n : Int) : Int := n * one
def milli (n : Int) : Int := n * one / 1000

/-- Product and quotient, truncated toward zero. -/
def times (a b : Int) : Int := Int.tdiv (a * b) one
def divided (a b : Int) : Int := Int.tdiv (a * one) b

/-- Square root. -/
def root (a : Int) : Int := sqrtBits (a * one).toNat 64 0

/-- A number to a natural power. -/
def pow (a : Int) : Nat → Int
  | 0 => one
  | k + 1 => times a (pow a k)

/-- π. -/
def pi : Int := 3454217652358

/-- Degrees to radians, and radians to degrees. -/
def radians (d : Int) : Int := times d pi / 180
def degrees (r : Int) : Int := divided (r * 180) pi

/-- The terms of an alternating power series in x²: Σ (−1)^k term(k) x^(2k), from term `k` on, where the next term is the one before times x² over
`step k`. -/
def series (x2 : Int) (step : Nat → Int) : Nat → Nat → Int → Int
  | 0, _, _ => 0
  | fuel + 1, k, t => t + series x2 step fuel (k + 1) (-(Int.tdiv (times t x2) (step k)))

/-- Cosine and sine of an angle in radians between −π and π. -/
def cosSmall (x : Int) : Int := series (times x x) (fun k => (2 * k + 1) * (2 * k + 2)) 20 0 one
def sinSmall (x : Int) : Int := series (times x x) (fun k => (2 * k + 2) * (2 * k + 3)) 20 0 x

/-- Cosine and sine of an angle in degrees. -/
def cosDeg (d : Int) : Int := cosSmall (radians ((d + whole 180) % whole 360 - whole 180))
def sinDeg (d : Int) : Int := sinSmall (radians ((d + whole 180) % whole 360 - whole 180))

/-- The arctangent, in radians, of a number between 0 and 1: three halvings of the angle and the power series. -/
def atanUnit (t : Int) : Int :=
  let half (x : Int) : Int := divided x (one + root (one + times x x))
  let u := half (half (half t))
  8 * ((List.range 12).map (fun (k : Nat) => Int.tdiv ((if k % 2 = 0 then 1 else -1) * pow u (2 * k + 1)) (2 * k + 1))).sum

/-- The hue angle of a point of the a′b′ plane, in degrees from 0 to below 360; 0 for the origin. -/
def hue (a b : Int) : Int :=
  let x : Int := a.natAbs
  let y : Int := b.natAbs
  let first := if x = 0 ∧ y = 0 then 0
    else if y ≤ x then degrees (atanUnit (divided y x)) else whole 90 - degrees (atanUnit (divided x y))
  let h := if 0 ≤ a ∧ 0 ≤ b then first else if a < 0 ∧ 0 ≤ b then whole 180 - first
    else if a < 0 then whole 180 + first else whole 360 - first
  if h = whole 360 then 0 else h

/-- e to minus a number: the power series of a 64th of it, raised to the 64th. -/
def expMinus (y : Int) : Int :=
  if whole 40 ≤ y then 0
  else
    let z := y / 64
    let e := ((List.range 18).foldl (fun (acc : Int × Int) (k : Nat) => (acc.1 + acc.2, -(Int.tdiv (times acc.2 z) (k + 1 : Nat)))) (0, one)).1
    pow e 64

/-- c^7 / (c^7 + 25^7) under a root: of a chroma (ISO/CIE 11664-6). -/
def seventh (c : Int) : Int :=
  let p := pow c 7
  root (divided p (p + whole (25 ^ 7)))

/-- A sample of R134 as L*, a*, b*. -/
def lab (vs : List Nat) : Int × Int × Int :=
  ((vs.getD 0 0 : Int) * 100 * one / 65535, ((vs.getD 1 0 : Int) - 32768) * one / 256, ((vs.getD 2 0 : Int) - 32768) * one / 256)

/-- ΔE00 of two samples with the parametric factors kL, kC and kH in 1/4096, none of which is 0. -/
def deltaE (x y : List Nat) (kL kC kH : Nat) : Int :=
  let (l1, a1, b1) := lab x
  let (l2, a2, b2) := lab y
  let chroma (a b : Int) : Int := root (times a a + times b b)
  let g := (one - seventh ((chroma a1 b1 + chroma a2 b2) / 2)) / 2
  let a1' := times a1 (one + g)
  let a2' := times a2 (one + g)
  let c1 := chroma a1' b1
  let c2 := chroma a2' b2
  let h1 := hue a1' b1
  let h2 := hue a2' b2
  let grey := decide (c1 = 0 ∨ c2 = 0)
  let dh := if grey then 0 else if (h2 - h1).natAbs ≤ (whole 180).natAbs then h2 - h1
    else if whole 180 < h2 - h1 then h2 - h1 - whole 360 else h2 - h1 + whole 360
  let dH := 2 * times (root (times c1 c2)) (sinDeg (dh / 2))
  let lm := (l1 + l2) / 2
  let cm := (c1 + c2) / 2
  let hm := if grey then h1 + h2 else if (h1 - h2).natAbs ≤ (whole 180).natAbs then (h1 + h2) / 2
    else if h1 + h2 < whole 360 then (h1 + h2 + whole 360) / 2 else (h1 + h2 - whole 360) / 2
  let t := one - times (milli 170) (cosDeg (hm - whole 30)) + times (milli 240) (cosDeg (2 * hm)) +
    times (milli 320) (cosDeg (3 * hm + whole 6)) - times (milli 200) (cosDeg (4 * hm - whole 63))
  let q := (hm - whole 275) / 25
  let theta := 30 * expMinus (times q q)
  let d50 := times (lm - whole 50) (lm - whole 50)
  let sl := one + divided (times (milli 15) d50) (root (whole 20 + d50))
  let sc := one + times (milli 45) cm
  let sh := one + times (times (milli 15) cm) t
  let rt := -(times (sinDeg (2 * theta)) (2 * seventh cm))
  let term (d s : Int) (k : Nat) : Int := divided (d * 4096) (s * k)
  let dl := term (l2 - l1) sl kL
  let dc := term (c2 - c1) sc kC
  let dhh := term dH sh kH
  root (times dl dl + times dc dc + times dhh dhh + times rt (times dc dhh))

/-- The lowest and the highest D that R224 admits for a ΔE00: 256 times a value at most 0.02 + 0.004 ΔE00 away, truncated; 2^-20 allows for the
fixed point. -/
def deltaBounds (e : Int) : Nat × Nat :=
  let slack := milli 20 + e / 250 + 2 ^ 20
  (((256 * (e - slack)) / one).toNat, ((256 * (e + slack)) / one).toNat)

/-- D of mode 0 (R224): within its bounds, where it falls is free; with a factor of 0 the spec states no result, and D is free. -/
def measured (image master : List Nat) (factors : List Nat) : Nat :=
  let kL := factors.getD 0 0
  let kC := factors.getD 1 0
  let kH := factors.getD 2 0
  let free := Config.deltaE image master factors
  if kL = 0 ∨ kC = 0 ∨ kH = 0 then min 65535 free
  else
    let (lo, hi) := deltaBounds (deltaE image master kL kC kH)
    min 65535 (lo + free % (hi - lo + 1))

end Sys2Proof.Machine.Ciede
end

