-- ==== Sys2Proof/Machine/Mre.lean ====
section
/-! DEFINITION. Master pages and page inspection: the queue, the binder, registration, warping and the deviation lines (R191 to R231). -/

namespace Sys2Proof.Machine

/-- The flags of Inspection status (R232). -/
abbrev isMarkExtra : Nat := 3
abbrev isMarkMissed : Nat := 4
abbrev isLockLost : Nat := 5
abbrev isMarkOvf : Nat := 6
abbrev isNoMaster : Nat := 7
abbrev isQueueLow : Nat := 8
abbrev isLoadFail : Nat := 9
abbrev isBindOvf : Nat := 10
abbrev isFetchLate : Nat := 11
abbrev isTilePoison : Nat := 12
abbrev isRegWeak : Nat := 13
abbrev isRegLimit : Nat := 14
abbrev isStepClipped : Nat := 15

/-- A flag of Inspection status set. -/
def State.inspFlag (s : State) (b : Nat) : State := s.setBit Ix.mreInspectionStatus 0 b

/-! ### The page image -/

/-- The fields of a page header (R193). -/
abbrev pgFlags (h : Octets) : Nat := leAt h 6 2
abbrev pgFormat (h : Octets) : Nat := octAt h 8
abbrev pgFirst (h : Octets) : Nat := leAt h 0x0C 4
abbrev pgWidth (h : Octets) : Nat := leAt h 0x10 4
abbrev pgHeight (h : Octets) : Nat := leAt h 0x14 4
abbrev pgTileCols (h : Octets) : Nat := leAt h 0x20 4
abbrev pgTileRows (h : Octets) : Nat := leAt h 0x24 4
abbrev pgBlocks (h : Octets) : Nat := leAt h 0x2C 4

/-- The page pitch in LP units (R193). -/
def pgPitch (h : Octets) : Nat := if leAt h 0x18 8 = 0 then pgHeight h * 2 ^ 16 else leAt h 0x18 8

/-- The components of a master sample and of a tile's pixel (R194). -/
def pgComps (h : Octets) : Nat := if pgFormat h = 2 then 1 else 3
def pgPixel (h : Octets) : Nat := pgComps h + field (pgFlags h) 1 1

/-- Whether a page image passes the checks made when its load completes (R193, R197). -/
def imageOk (len : Nat) (im : Octets) : Bool :=
  let tiles := pgTileCols im * pgTileRows im
  let dir := (im.drop 64).take (4 * tiles)
  decide (64 + 4 * tiles ≤ im.length) && leAt im 0 4 == 0x50474D56 && leAt im 4 2 == 1 && decide (pgFlags im < 4) &&
  decide (pgFormat im ≤ 2) && leAt im 9 3 == 0 && decide (1 ≤ pgWidth im ∧ pgWidth im ≤ 262144) &&
  decide (1 ≤ pgHeight im ∧ pgHeight im ≤ 1048576) && pgTileCols im == (pgWidth im + 63) / 64 &&
  pgTileRows im == (pgHeight im + 63) / 64 && decide (pgFirst im + pgWidth im ≤ 262144) && leAt im 0x28 4 == 64 &&
  pgBlocks im % 16 == 0 && leAt im 0x30 8 == len && leAt im 0x38 4 == crc32c (im.take 0x38 ++ dir) && leAt im 0x3C 4 == 0 &&
  (chunks 4 tiles dir).all (fun e => decide (pgBlocks im + ofLe e * 16 + 16 ≤ len))

/-! ### The master queue -/

/-- The ready pages at the head of the queue (R200). -/
def readyHead (q : List MasterPage) : Nat := (q.takeWhile (fun p => p.load == .ready)).length

/-- The queue replaced, with what its objects show and QUEUE_LOW where the ready pages fall below the mark (R200). -/
def State.setPages (s : State) (q : List MasterPage) : State :=
  let r := readyHead q
  let low := s.rd Ix.mreQueueLowMark 0
  let s1 := (({ s with mre := { s.mre with queue := q, ready := r } }).wr Ix.mrePagesQueued 0 q.length).wr Ix.mrePagesReady 0 r
  if r < low ∧ low ≤ s.mre.ready then (s1.inspFlag isQueueLow).cross (eventCode 13 0 7) none 0 else s1

/-- A Page submit (R196). -/
def State.submitPage (s : State) (v : Octets) : State × Code :=
  let number := leAt v 0 4
  let host := leAt v 8 8
  let len := leAt v 0x10 8
  if !s.clocked then (s, .wrongState)
  else if v.length ≠ 32 ∨ number ≤ s.rd Ix.mreLastSubmittedPage 0 ∨ number ≤ s.mre.lastBound ∨ host % 16 ≠ 0 ∨ len = 0 ∨
      (s.region 4).2 < len ∨ leAt v 0x18 8 ≠ 0 then (s, .outOfRange)
  else if s.rd Ix.mreQueueCapacity 0 ≤ s.mre.queue.length then (s, .busy)
  else ((s.setPages (s.mre.queue ++ [{ number := number, tag := leAt v 4 4, host := host, len := len }])).wr
    Ix.mreLastSubmittedPage 0 number, .ok)

/-- Whether tiles of a page, by its bind number, are asked of CDE and not released yet (R197, R213). -/
def State.fetchingFor (s : State) (id : Nat) : Bool :=
  s.cde.tiles.any (fun t => t.page == id) || (tilesInHand s.cde.lanes.toList).any (fun t => t.page == id)

/-- The places that page images hold in the master region: of queued pages, of bound pages whether they are compared or not, and of ended
pages while a tile of theirs is still fetched (R197). -/
def State.imagePlaces (s : State) : List (Nat × Nat) :=
  s.mre.queue.filterMap (fun p => p.place.map (fun a => (a, p.len))) ++ s.mre.bound.filterMap (fun p => p.hold) ++
  (s.mre.leaving.filter (fun l => s.fetchingFor l.1)).map (fun l => l.2)

/-- The place where the next image of a length fits contiguously after the newest loaded, wrapping to the region's start (R197). -/
def State.placeFor (s : State) (len : Nat) : Option Nat :=
  let (a, size) := s.region 4
  let at_ := if s.mre.ringHead + len ≤ size then a + s.mre.ringHead else a
  if len ≤ size ∧ s.imagePlaces.all (fun p => decide (p.1 + p.2 ≤ at_ ∨ at_ + len ≤ p.1)) then some at_ else none

/-- Whether channel 31 can transfer: DMA runs only while PCIE does (R27, R198, R374). -/
def State.loadsMove (s : State) : Bool := s.runs .dma && s.runs .pcie && s.pcie.linkUp && s.pcie.busMaster

/-- One page of the queue replaced by its number. -/
def replacePage (q : List MasterPage) (p : MasterPage) : List MasterPage := q.map (fun x => if x.number = p.number then p else x)

/-- The first page that still loads begins its transfer, where it fits (R197, R198). -/
def State.startLoad (s : State) : State :=
  match s.mre.queue.find? (fun p => p.load == .loading) with
  | none => s
  | some p =>
    if p.moving || !s.loadsMove then s
    else
      match s.placeFor p.len with
      | none => s
      | some a =>
        let t : State := { s with dma := s.dma.set 31 { s.dma[31] with failing := none } }
        t.setPages (replacePage s.mre.queue { p with moving := true, place := some a })

/-- The page whose transfer runs (R197). -/
def State.movingPage (s : State) : Option MasterPage := s.mre.queue.find? (fun p => p.moving)

/-- A page's load fails (R197). -/
def State.failLoad (s : State) (p : MasterPage) : State :=
  let s1 := s.setPages (replacePage s.mre.queue { p with load := .failed, moving := false, place := none })
  (s1.inspFlag isLoadFail).cross (eventCode 13 0 2) none p.number

/-- A page's load completes: the image is copied and its header checked, or the read has failed lastingly (R197). -/
def State.endLoad (s : State) (image : Octets) (dmaError : Bool) : State :=
  match s.movingPage with
  | none => s
  | some p =>
    if dmaError then (s.retryLasting 4).failLoad p
    else if s.dma[31].failing.isSome then s
    else
      match p.place with
      | none => s
      | some a =>
        let s1 := (s.hostFetch 31 p.host p.len).dramStore a image
        if imageOk p.len image then
          let s1 : State := { s1 with mre := { s1.mre with ringHead := a - (s1.region 4).1 + p.len } }
          s1.setPages (replacePage s1.mre.queue { p with load := .ready, moving := false, head := image.take 64 })
        else s1.failLoad p

/-- A load that is not complete in time fails (R197). -/
def State.loadTimesOut (s : State) : State :=
  match s.movingPage with
  | some p => s.failLoad p
  | none => s

/-- FLUSH discards every page that is not bound (R199). -/
def State.flushPages (s : State) : State := (s.bump Ix.mrePagesFlushed 0 s.mre.queue.length).setPages []

/-- The states of the binder (R204, R209). -/
abbrev bsAcquiring : Nat := 0
abbrev bsLocked : Nat := 1
abbrev bsFlywheel : Nat := 2
abbrev bsUnlocked : Nat := 3
abbrev bsFreeRun : Nat := 4

/-- The binder's state. -/
def State.binder (s : State) : Nat := s.rd Ix.mreBindingState 0

/-- The binder enters a state: its object and the status bits (R204, R232). -/
def State.setBinder (s : State) (b : Nat) : State :=
  (((s.wr Ix.mreBindingState 0 b).putBit Ix.mreInspectionStatus 0 0 (b == bsLocked)).putBit Ix.mreInspectionStatus 0 1
    (b == bsFlywheel)).putBit Ix.mreInspectionStatus 0 2 (b == bsUnlocked)

/-- RELOCK returns the binder to acquiring (R199, R204). -/
def State.relock (s : State) : State :=
  if s.binder = bsFreeRun then s
  else { s with mre := { s.mre with miss := 0, expiry := none, anyBind := false } }.setBinder bsAcquiring

/-- RENUMBER clears the page numbers: accepted only while MRE is Stopped and the queue is empty (R199). -/
def State.renumber (s : State) : State × Code :=
  if s.fn .mre = .stopped ∧ s.mre.queue = [] then
    ({ s with mre := { s.mre with lastBound := 0 } }.wr Ix.mreLastSubmittedPage 0 0, .ok)
  else (s, .wrongState)

/-- A Queue command (R199). -/
def State.queueCommand (s : State) (v : Nat) : State × Code :=
  if v = 1 then (s.flushPages, .ok)
  else if v = 2 then ({ s with mre := { s.mre with mapReset := true } }, .ok)
  else if v = 3 then (s.relock, .ok)
  else if v = 4 then s.renumber
  else (s, .outOfRange)

/-! ### Binding -/

/-- Whether a page's sample format suits the deviation mode (R223). -/
def State.formatSuits (s : State) (h : Octets) : Bool := pgFormat h == s.rd Ix.mreDeviationMode 0

/-- The reason a bind gives its page: 0 where it will be compared (R206, R207). A seventeenth waiting page has reason 9 whatever else holds. -/
def State.bindReason (s : State) (lost : Bool) : Nat :=
  if 16 ≤ (s.mre.bound.filter (fun p => !p.begun)).length then 9
  else if lost then 5
  else
    match s.mre.queue with
    | [] => 1
    | p :: _ =>
      match p.load with
      | .loading => 2
      | .failed => 3
      | .ready => if s.formatSuits p.head then 0 else 4

/-- A bind: the queue head as it stands gets a start LP (R202, R206, R207). -/
def State.bind (s : State) (mark time start : Nat) (synth lost : Bool) : State :=
  let reason := s.bindReason lost
  let head := s.mre.queue.head?
  let number := (head.map (fun p => p.number)).getD (s.mre.lastBound + 1)
  let known := head.bind (fun p => if p.load == .ready then some (pgPitch p.head) else none)
  let pitch := match known, s.mre.pitch with
    | some x, _ => x
    | none, some x => x
    | none, none => Config.pagePitch s.free % 2 ^ 64
  let page : BoundPage :=
    { id := s.mre.binds, number := number, tag := (head.map (fun p => p.tag)).getD 0, start := start % 2 ^ 64, pitch := pitch,
      mark := mark, time := time, synth := synth, state := s.binder, reason := reason,
      image := if reason = 0 then head.bind (fun p => p.place.map (fun a => (a, p.len))) else none,
      hold := head.bind (fun p => if p.load == .ready then p.place.map (fun a => (a, p.len)) else none),
      head := (head.map (fun p => p.head)).getD [] }
  let s1 := s.takeFree.setPages (s.mre.queue.drop 1)
  let s2 : State := { s1 with
    mre := { s1.mre with bound := s1.mre.bound ++ [page], binds := s1.mre.binds + 1, lastBound := number, pitch := some pitch, anyBind := true }
    cls := { s1.cls with pages := ((number, page.start) :: s1.cls.pages).take 32 } }
  let s3 := if reason = 9 then s2.inspFlag isBindOvf else s2
  (s3.bump Ix.mrePagesBound 0 1).cross (eventCode 13 0 0) (some (page.start, s3.stamp)) number

/-- The start LP of a page whose mark has an LP (R202). -/
def State.startOf (s : State) (m : Nat) : Nat := (((m : Int) + s.rdI Ix.mrePageOriginOffset 0) % (2 ^ 64 : Nat)).toNat

/-- A mark is accepted and binds (R203, R204). -/
def State.acceptMark (s : State) (m time : Nat) : State :=
  let was := s.binder
  let s1 := (s.bump Ix.mreMarksAccepted 0 1).setBinder bsLocked
  let s2 := { s1 with mre := { s1.mre with mLast := some m, miss := 0, expiry := none } }.bind m time (s.startOf m) false false
  if was = bsUnlocked then s2.cross (eventCode 13 0 6) none s2.mre.lastBound else s2

/-- The LP at which the binder expects the next mark (R203). -/
def State.expected (s : State) : Option Nat :=
  match s.mre.mLast, s.mre.pitch with
  | some m, some p => some (m + p)
  | _, _ => none

/-- A mark record is classified (R203). -/
def State.classifyMark (s : State) (m time : Nat) : State :=
  let w := s.rd Ix.mreMarkWindow 0
  if s.mre.mLast.any (fun l => decide (m ≤ l + w)) then s.bump Ix.mreMarksRepeated 0 1
  else if s.binder = bsAcquiring then s.acceptMark m time
  else if s.expected.any (fun e => decide (e - w ≤ m ∧ m ≤ e + w)) then s.acceptMark m time
  else ((s.bump Ix.mreMarksExtra 0 1).inspFlag isMarkExtra).cross (eventCode 13 0 4) (some (m, time)) s.mre.lastBound

/-- Whether MRE takes input. -/
def State.mreTakes (s : State) : Bool := s.runs .mre || s.drains .mre

/-- A latch of the page mark probe enters the mark buffer (R201). -/
def State.markLatch (s : State) (probe lp time : Nat) : State :=
  if s.rd Ix.mrePageMarkProbe 0 ≠ probe then s
  else if !s.mreTakes then s.discard .mre 1
  else if 16 ≤ s.mre.marks.length then s.inspFlag isMarkOvf
  else { s with mre := { s.mre with marks := s.mre.marks ++ [(lp, time)] } }

/-- The oldest mark of the buffer is classified. -/
def State.nextMark (s : State) : State :=
  match s.mre.marks with
  | [] => s
  | (m, t) :: rest => if s.mreTakes then { s with mre := { s.mre with marks := rest } }.classifyMark m t else s

/-- The marks whose LP a stitched line has reached are classified before it (R201). -/
def State.marksUpTo (s : State) (lp : Nat) : Nat → State
  | 0 => s
  | n + 1 =>
    match s.mre.marks with
    | [] => s
    | (m, _) :: _ => if m ≤ lp then s.nextMark.marksUpTo lp n else s

/-- An expiry that a stitched line has met: a mark is synthesised at the expected LP and binds (R204, R205). -/
def State.expire (s : State) : State :=
  match s.mre.expiry, s.expected with
  | some time, some e =>
    let limit := s.rd Ix.mreFlywheelLimit 0
    let b := s.binder
    let flies := decide ((b = bsLocked ∧ 1 ≤ limit) ∨ (b = bsFlywheel ∧ s.mre.miss < limit))
    let s1 := ((s.bump Ix.mreMarksSynthesised 0 1).inspFlag isMarkMissed).cross (eventCode 13 0 3) (some (e, time)) s.mre.lastBound
    let s2 := s1.setBinder (if flies then bsFlywheel else bsUnlocked)
    let s3 := if !flies && b != bsUnlocked then (s2.inspFlag isLockLost).cross (eventCode 13 0 5) none s.mre.lastBound else s2
    { s3 with mre := { s3.mre with mLast := some e, miss := s3.mre.miss + 1, expiry := none } }.bind e time (s.startOf e) true (!flies)
  | _, _ => s

/-- Whether a stitched line meets an expiry: its time stamp is kept (R204). -/
def State.noteExpiry (s : State) (lp time : Nat) : State :=
  let b := s.binder
  let due := s.expected.any (fun e => decide (e + s.rd Ix.mreMarkWindow 0 < lp))
  if (b = bsLocked ∨ b = bsFlywheel ∨ b = bsUnlocked) ∧ due ∧ s.mre.expiry = none then
    { s with mre := { s.mre with expiry := some time } }
  else s

/-! ### Registration -/

/-- The width of the deviation lines. -/
def State.mreWidth (s : State) : Nat := s.localWidth s.placesNow

/-- The number of cells, and of map windows that are stored (R216). -/
def State.cells (s : State) : Nat := (s.mreWidth + s.rd Ix.mreCellWidth 0 - 1) / s.rd Ix.mreCellWidth 0
def State.mapWindows (s : State) : Nat := 65536 / max 1 s.cells

/-- The map's key of a window and cell: windows beyond the stored ones use the last (R216). -/
def State.mapKey (s : State) (w cell : Nat) : Nat := min w (s.mapWindows - 1) * 1024 + cell

/-- The drift term of a cell and the map's entry of a window and cell, in 1/256 (R218). -/
def State.driftOf (s : State) (cell : Nat) : Int × Int := storeGet (0, 0) s.mre.drift cell
def State.mapOf (s : State) (w cell : Nat) : Int × Int :=
  if s.rd Ix.mreMapMode 0 = 2 then (0, 0) else storeGet (0, 0) s.mre.map (s.mapKey w cell)

/-- Two displacements added. -/
def addPair (a b : Int × Int) : Int × Int := (a.1 + b.1, a.2 + b.2)

/-- A displacement clamped per axis (R220). -/
def clampPair (l : Int) (a : Int × Int) : Int × Int := (clampInt (-l) l a.1, clampInt (-l) l a.2)

/-- Updates added to a store of displacements from a cell on. -/
def addAll (st : List (Nat × (Int × Int))) (k : Nat) : List (Int × Int) → List (Nat × (Int × Int))
  | [] => st
  | u :: us => addAll (storeSet (0, 0) st k (addPair (storeGet (0, 0) st k) u)) (k + 1) us

/-- The drift updates whose window has come take effect (R218). -/
def State.dueDrift (s : State) : State :=
  let due := s.mre.pendT.filter (fun u => u.1 ≤ s.mre.seq)
  { s with mre := { s.mre with drift := due.foldl (fun st u => addAll st 0 u.2) s.mre.drift,
                               pendT := s.mre.pendT.filter (fun u => decide (s.mre.seq < u.1)) } }

/-- The map updates of a page take effect once it has ended (R218). -/
def State.dueMap (s : State) : State :=
  { s with mre := { s.mre with pendM := [], map := s.mre.pendM.foldl (fun st u =>
      storeSet (0, 0) st u.1 (addPair (storeGet (0, 0) st u.1) u.2)) s.mre.map } }

/-- A bound page replaced by its bind number. -/
def State.setBound (s : State) (p : BoundPage) : State :=
  { s with mre := { s.mre with bound := s.mre.bound.map (fun x => if x.id = p.id then p else x) } }

/-- The absolute value of a displacement's larger axis. -/
def largestAxis (a : Int × Int) : Nat := max a.1.natAbs a.2.natAbs

/-- A window begins: the displacements that take force, clamped (R218, R220). -/
def State.openWindow (s : State) (p : BoundPage) (w : Nat) : State :=
  let s1 := { s with mre := { s.mre with seq := s.mre.seq + 1 } }.dueDrift
  let cells := List.range s1.cells
  let raw := cells.map (fun i => addPair (s1.mapOf w i) (s1.driftOf i))
  let limit : Int := s1.rd Ix.mreFieldLimit 0
  let now := raw.map (clampPair limit)
  let limited := (raw.zip now).map (fun x => x.1 != x.2)
  let prev := cells.map (fun i => s1.mre.force.getD i (0, 0))
  let any := limited.any id
  let p' := { p with
    sumX := p.sumX + (now.map (fun a => a.1.natAbs)).sum, sumY := p.sumY + (now.map (fun a => a.2.natAbs)).sum,
    maxA := now.foldl (fun m a => max m (largestAxis a)) p.maxA, cells := p.cells + now.length, limit := p.limit || any }
  let win : MreWindow := { page := p.id, window := w, prev := prev, now := now, limited := limited,
                           cells := cells.map (fun _ => {}), geom := false }
  let s2 := { s1 with mre := { s1.mre with window := some win } }.setBound p'
  let s3 := s2.sample 9 0 (now.foldl (fun m a => max m (largestAxis a)) 0 : Nat) none
  if any then s3.inspFlag isRegLimit else s3

/-- A cell's residual over a window where the cell is valid: the lag of the highest ρ, refined along each axis; the lag is how far beyond the
warped master's place the image lies in the master (R217). -/
def State.cellResidual (s : State) (free : Nat) (c : CellAcc) : Option (Int × Int) :=
  let r := s.rd Ix.mreSearchRange 0
  let n := 2 * r + 1
  let ys := c.lags.map (rho rhoScale)
  let i := peakPlace ys
  let at_ (k : Nat) : Int := ys.getD k 0
  let texture := s.rd Ix.mreTextureMinimum 0
  if c.points ≤ 2 * c.usable ∧ 0 < c.usable ∧ (c.usable * texture) ^ 2 + c.sum ^ 2 ≤ c.usable * c.squares ∧
      (s.rd Ix.mreQualityMinimum 0 : Int) ≤ rho 255 (c.lags.getD i {}) ∧
      0 < i % n ∧ i % n < 2 * r ∧ 0 < i / n ∧ i / n < 2 * r then
    some (256 * ((i % n : Nat) - (r : Int)) + vertex free (at_ (i - 1)) (at_ i) (at_ (i + 1)),
          256 * ((i / n : Nat) - (r : Int)) + vertex (free + 1) (at_ (i - n)) (at_ i) (at_ (i + n)))
  else none

/-- A cell's displacement `into` LP units after its window's first row, times 64 rows: the ramp from the value before (R220). -/
def rampedPair (win : MreWindow) (into i : Nat) : Int × Int :=
  let d : Nat := 64 * 2 ^ 16
  let a := win.prev.getD i (0, 0)
  let b := win.now.getD i (0, 0)
  (a.1 * d + (b.1 - a.1) * (min into d : Nat), a.2 * d + (b.2 - a.2) * (min into d : Nat))

/-- The displacements of a window's cells in force at a place in it, in 1/256 (R220). -/
def inForce (win : MreWindow) (into : Nat) : List (Int × Int) :=
  (List.range win.now.length).map (fun i =>
    let a := rampedPair win into i
    (freeRound a.1 (64 * 2 ^ 16), freeRound a.2 (64 * 2 ^ 16)))

/-- A gain applied to a residual: truncated toward zero, before the clamp (R218). -/
def gained (g : Nat) (r : Int × Int) : Int × Int := (Int.tdiv (r.1 * g) 256, Int.tdiv (r.2 * g) 256)

/-- The mean of displacements, truncated toward zero. -/
def meanPair (us : List (Int × Int)) : Int × Int :=
  let t := us.foldl addPair (0, 0)
  if us = [] then (0, 0) else (Int.tdiv t.1 us.length, Int.tdiv t.2 us.length)

/-- A window ends `into` LP units after its first row: what is in force there is where the next ramp begins, and valid cells update the drift
of two windows on and the map of the next page (R217 to R220, R225). -/
def State.closeWindow (s : State) (into : Nat) : State :=
  match s.mre.window with
  | none => s
  | some win =>
    let rs := win.cells.mapIdx (fun i c => s.cellResidual (s.free + 2 * i) c)
    let valid := rs.filterMap id
    let n := win.cells.length
    let s1 := { s with free := s.free + 2 * n, mre := { s.mre with window := none, force := inForce win into } }
    let s2 := match s1.mre.bound.find? (fun p => p.id == win.page) with
      | some p => s1.setBound { p with valid := p.valid + valid.length }
      | none => s1
    if valid.length * 256 < n * s.rd Ix.mreValidCellMinimum 0 then
      let s3 := match s2.mre.bound.find? (fun p => p.id == win.page) with
        | some p => s2.setBound { p with weak := true }
        | none => s2
      (s3.inspFlag isRegWeak).cross (eventCode 13 0 8) none ((s2.mre.latest.map (fun x => x.1)).getD 0)
    else
      let step : Int := s.rd Ix.mreStepLimit 0
      let rawT := rs.map (fun r => r.map (gained (s.rd Ix.mreDriftGain 0)))
      let rawM := rs.map (fun r => r.map (gained (s.rd Ix.mreMapGain 0)))
      let learns := s.rd Ix.mreMapMode 0 == 0 && !win.geom
      let uT := rawT.map (fun r => r.map (clampPair step))
      let mean := meanPair (uT.filterMap id)
      let uM := if learns then (rawM.zipIdx).filterMap (fun x => x.1.map (fun r => (s2.mapKey win.window x.2, clampPair step r))) else []
      let clipped := rawT != uT || (learns && rawM.any (fun r => r.any (fun x => clampPair step x != x)))
      let s3 : State := { s2 with mre := { s2.mre with
        pendT := s2.mre.pendT ++ [(s2.mre.seq + 2, uT.map (fun u => u.getD mean))], pendM := s2.mre.pendM ++ uM } }
      if clipped then s3.inspFlag isStepClipped else s3

/-- A cell's centre, in half columns (R220). -/
def State.centre (s : State) (i : Nat) : Nat :=
  let w := s.rd Ix.mreCellWidth 0
  i * w + (min ((i + 1) * w) s.mreWidth - 1)

/-- The displacement of a column, in 1/256: along the web the ramp from the value before, across it linear between cell centres and held
beyond the outermost (R220). -/
def State.displacement (s : State) (win : MreWindow) (into c : Nat) : Int × Int :=
  let d := 64 * 2 ^ 16
  let at_ (i : Nat) : Int × Int := rampedPair win into i
  let last := win.now.length - 1
  let i := (List.range win.now.length).countP (fun k => decide (s.centre k ≤ 2 * c))
  if i = 0 then (freeRound (at_ 0).1 d, freeRound (at_ 0).2 d)
  else if last < i then (freeRound (at_ last).1 d, freeRound (at_ last).2 d)
  else
    let t := 2 * c - s.centre (i - 1)
    let u := s.centre i - s.centre (i - 1)
    let mix (a b : Int) : Int := freeRound (a * (u - t : Nat) + b * (t : Nat)) (d * u)
    (mix (at_ (i - 1)).1 (at_ i).1, mix (at_ (i - 1)).2 (at_ i).2)

/-! ### Warping and deviation -/

/-- What a master position gives: its samples and tolerance code, or why there are none. -/
inductive MasterPixel where
  | px (vs : List Nat) (code : Nat)
  | outside
  | late (poisoned : Bool)
  | poison
  deriving DecidableEq, Repr

/-- An expanded master sample (R195). -/
def expandSample (format c v : Nat) : Nat := if format = 0 ∧ c ≠ 0 then v * 256 else v * 257

/-- The bytes of a master pixel: of a tile that is decoded, poisoned, or not there yet (R194, R214, R215). -/
def masterBytes (p : BoundPage) (x y : Nat) : Option (Option Octets) :=
  let h := p.head
  let tile := y / 64 * pgTileCols h + x / 64
  match p.tiles.find? (fun t => t.1 == tile) with
  | none => none
  | some (_, none) => some none
  | some (_, some data) => some (some ((data.drop ((y % 64 * 64 + x % 64) * pgPixel h)).take (pgPixel h)))

/-- The master sample at a position in 1/256 column and 1/256 line: bilinear between the four surrounding pixels, rounded half up; the
tolerance code of the nearest (R222). Beyond the page's edge a surrounding pixel is the nearest within it (DEDUCED). -/
def masterAt (p : BoundPage) (x y : Int) : MasterPixel :=
  let h := p.head
  let px := x / 256
  let py := y / 256
  if px < 0 ∨ py < 0 ∨ (pgWidth h : Int) ≤ px ∨ (pgHeight h : Int) ≤ py then .outside
  else
    let x0 := px.toNat
    let y0 := py.toNat
    let fx := (x % 256).toNat
    let fy := (y % 256).toNat
    let x1 := min (x0 + 1) (pgWidth h - 1)
    let y1 := min (y0 + 1) (pgHeight h - 1)
    let four := [masterBytes p x0 y0, masterBytes p x1 y0, masterBytes p x0 y1, masterBytes p x1 y1]
    let poisoned := four.any (fun b => b == some none)
    if four.any (fun b => b.isNone) then .late poisoned
    else if poisoned then .poison
    else
      let bytes (i : Nat) : Octets := ((four.getD i none).getD none).getD []
      let value (c i : Nat) : Nat := expandSample (pgFormat h) c (octAt (bytes i) c)
      let near := (if 128 ≤ fy then 2 else 0) + (if 128 ≤ fx then 1 else 0)
      .px ((List.range (pgComps h)).map (fun c =>
          ((256 - fy) * ((256 - fx) * value c 0 + fx * value c 1) + fy * ((256 - fx) * value c 2 + fx * value c 3) + 32768) / 65536))
        (if (pgFlags h).testBit 1 then octAt (bytes near) (pgComps h) else 0)

/-- A signed quantity clamped to I16. -/
def clampI16 (i : Int) : Int := clampInt (-32768) 32767 i

/-- The raw deviation and dL of an image pixel against a master pixel (R223, R224). -/
def deviation (mode : Nat) (weights factors : Octets) (image master : List Nat) : Nat × Int :=
  let diff (c : Nat) : Int := (image.getD c 0 : Int) - master.getD c 0
  if mode = 0 then
    (Ciede.measured image master (u16s factors), clampI16 (Int.tdiv (diff 0 * 25600) 65535))
  else if mode = 1 then
    let w (c : Nat) : Int := u16At weights c
    let sum := ([0, 1, 2].map (fun c => w c * (diff c).natAbs)).sum
    (min 65535 (Int.tdiv sum 256).toNat, clampI16 (Int.tdiv ([0, 1, 2].map (fun c => w c * diff c)).sum 512))
  else (min 65535 (diff 0).natAbs, clampI16 (Int.tdiv (diff 0) 2))

/-- The tolerance table applied to a deviation; none where the pixel is masked (R226). -/
def tolerate (table : Octets) (code d : Nat) : Option Nat :=
  let scale := leAt table (4 * code) 2
  let offset := leAt table (4 * code + 2) 2
  if offset = 0xFFFF then none else some (min 65535 (d * scale / 4096 - offset))

/-- The positions of the column flags of R227. -/
abbrev dfNoMaster : Nat := 256
abbrev dfOutside : Nat := 512
abbrev dfPoison : Nat := 1024
abbrev dfLate : Nat := 2048
abbrev dfLimit : Nat := 4096
abbrev dfTol : Nat := 8192

/-- A column for which no master sample is compared (R211). -/
def State.withoutMaster (s : State) (x : Column) (f : Nat) : DevCol :=
  if s.rd Ix.mreNO_MASTERPolicy 0 = 0 then ⟨0, 0, x.f + dfNoMaster + f⟩
  else
    let (d, dl) := deviation (s.rd Ix.mreDeviationMode 0) (s.rdfo Ix.mreRGBWeights 0) (s.rdfo Ix.mreDeltaEFactors 0) x.vs
      (u16s (s.rdo Ix.mreSubstrateReference 0))
    ⟨d, dl, x.f + dfNoMaster + f⟩

/-- Where a column's warp looks in the master, in 1/256 (R222). -/
def State.warpPlace (s : State) (p : BoundPage) (win : MreWindow) (base into offset c : Nat) : Int × Int :=
  let (dx, dy) := s.displacement win into c
  (((base : Int) + c - pgFirst p.head) * 256 + dx, ((offset / 256 : Nat) : Int) + dy)

/-- A column of a compared line, with the master sample it was compared to (R222 to R227). `into` is how far the line lies in its window,
`offset` its page-relative offset. -/
def State.compareColumn (s : State) (p : BoundPage) (win : MreWindow) (base into offset c : Nat) (x : Column) : DevCol × Option (List Nat) :=
  let (mx, my) := s.warpPlace p win base into offset c
  let lim := if win.limited.getD (c / s.rd Ix.mreCellWidth 0) false then dfLimit else 0
  match (if offset / 65536 < pgHeight p.head then masterAt p mx my else .outside) with
  | .outside => (s.withoutMaster x (dfOutside + lim), none)
  | .late poisoned => (s.withoutMaster x (dfLate + (if poisoned then dfPoison else 0) + lim), none)
  | .poison => (s.withoutMaster x (dfPoison + lim), none)
  | .px vs code =>
    let (d, dl) := deviation (s.rd Ix.mreDeviationMode 0) (s.rdfo Ix.mreRGBWeights 0) (s.rdfo Ix.mreDeltaEFactors 0) x.vs vs
    match tolerate (s.rdfo Ix.mreToleranceTable 0) code d with
    | some d' => (⟨d', dl, x.f + lim⟩, some vs)
    | none => (⟨0, 0, x.f + lim + dfTol⟩, some vs)

/-- An image sample and the master's at each lag added to the sums; a lag at which the master gives no sample gets no pair (DEDUCED). -/
def addNear (v : Nat) : List (Option Nat) → List PairSums → List PairSums
  | [], _ => []
  | m :: ms, sums =>
    (match m with
     | some w => (sums.headD {}).add v w
     | none => sums.headD {}) :: addNear v ms sums.tail

/-- A sample point added to its cell (R217): the point is usable where neither image nor master is flagged. -/
def CellAcc.add (a : CellAcc) (stx image : Nat) (master : Option Nat) (near : List (Option Nat)) : CellAcc :=
  match master with
  | some v =>
    if stx &&& 0x35 = 0 then
      { points := a.points + 1, usable := a.usable + 1, sum := a.sum + v, squares := a.squares + v * v, lags := addNear image near a.lags }
    else { a with points := a.points + 1 }
  | none => { a with points := a.points + 1 }

/-- The master's samples of a channel at every lag around a column's place, the lags along the web outermost (R217). -/
def State.nearby (s : State) (p : BoundPage) (win : MreWindow) (base into offset c chan : Nat) : List (Option Nat) :=
  let (mx, my) := s.warpPlace p win base into offset c
  let ks := lags (s.rd Ix.mreSearchRange 0)
  ks.flatMap (fun ky => ks.map (fun kx =>
    match masterAt p (mx + 256 * kx) (my + 256 * ky) with
    | .px vs _ => some (vs.getD chan 0)
    | _ => none))

/-- A line's sample points added to the window's cells: every fourth column of every fourth line (R217). -/
def State.samplePoints (s : State) (p : BoundPage) (win : MreWindow) (x : Stitched) (into offset : Nat) (ms : List (Option (List Nat))) :
    MreWindow :=
  let chan := if s.rd Ix.mreDeviationMode 0 = 1 then 1 else 0
  let w := s.rd Ix.mreCellWidth 0
  let geom := win.geom || x.flags.testBit 1
  if x.line % 4 ≠ 0 then { win with geom := geom }
  else
    let cols := (x.cols.zip ms).zipIdx
    { win with geom := geom, cells := cols.foldl (fun cs e =>
        if e.2 % 4 = 0 then cs.modify (e.2 / w) (fun a =>
          a.add e.1.1.f (e.1.1.vs.getD chan 0) (e.1.2.map (fun vs => vs.getD chan 0)) (s.nearby p win x.base into offset e.2 chan))
        else cs) win.cells }

/-! ### Page records -/

/-- A page record (R228). -/
def pageRecord (p : BoundPage) (endLp : Nat) (short truncated : Bool) : Octets :=
  let mean (n : Nat) : Nat := if p.cells = 0 then 0 else n / p.cells
  leBytes 2 0x0004 ++ leBytes 1 1 ++
  leBytes 1 (bitNat (p.reason != 0) + 2 * bitNat p.synth + 4 * bitNat short + 8 * bitNat truncated + 16 * bitNat p.mapReset +
    32 * bitNat p.weak + 64 * bitNat p.limit + 128 * bitNat (p.reason == 0 && (pgFlags p.head).testBit 1)) ++
  leBytes 4 p.number ++ leBytes 8 p.start ++ leBytes 8 endLp ++ leBytes 8 p.mark ++ leBytes 8 p.time ++
  leBytes 1 p.reason ++ leBytes 1 p.state ++ leBytes 2 0 ++ leBytes 4 p.tag ++ leBytes 4 p.lines ++ leBytes 4 p.masked ++
  leBytes 2 (mean p.sumX) ++ leBytes 2 (mean p.sumY) ++ leBytes 2 p.maxA ++
  leBytes 1 (if p.cells = 0 then 0 else p.valid * 255 / p.cells) ++ leBytes 1 0

/-- A page ends: its record, and for a NO_MASTER page what CLS and the host learn of it (R212, R228). Its space is free once no tile of it is
fetched any more (R197). -/
def State.endPage (s : State) (p : BoundPage) (endLp : Nat) (short truncated : Bool) : State :=
  let s0 := match s.mre.window with
    | some w => if w.page = p.id then s.closeWindow (endLp - p.start - w.window * s.rd Ix.mreWindowHeight 0 * 65536) else s
    | none => s
  let q := (s0.mre.bound.find? (fun x => x.id == p.id)).getD p
  let s1 := s0.dueMap
  let s2 := { s1 with mre := { s1.mre with
    bound := s1.mre.bound.filter (fun x => x.id != p.id)
    leaving := s1.mre.leaving.filter (fun (l : Nat × (Nat × Nat)) => s1.fetchingFor l.1) ++ (q.hold.map (fun h => (q.id, h))).toList } }
  let r := pageRecord q endLp short truncated
  let s3 := s2.push sqIx fromMre false r
  if q.reason = 0 then s3
  else
    let s4 := ((s3.bump Ix.mrePagesWithoutMaster 0 1).inspFlag isNoMaster).cross (eventCode 13 0 1) none q.number
    { s4 with mre := { s4.mre with toCls := s4.mre.toCls ++ [r] } }

/-- Where a bound page's activity ends: at its pitch or at the next start, and whether the next start cuts it short (R207). -/
def pageEnd (p : BoundPage) (next : Option BoundPage) : Nat × Bool :=
  match next with
  | some q => if q.start < p.start + p.pitch then (q.start, true) else (p.start + p.pitch, false)
  | none => (p.start + p.pitch, false)

/-- The pages that have ended at an LP are ended, oldest first (R207). In free run a page that no line has met still leads to the next (R209). -/
def State.endPages (s : State) (lp : Nat) : Nat → State
  | 0 => s
  | n + 1 =>
    match s.mre.bound with
    | [] => s
    | p :: rest =>
      let (e, short) := pageEnd p rest.head?
      if e ≤ lp then
        let t := s.endPage p e short false
        let t := if p.begun || t.binder != bsFreeRun then t else
          t.bind (p.start + p.pitch) t.stamp (p.start + p.pitch) false false
        t.endPages lp n
      else s

/-- The page that is active at an LP: from its start to its end (R207, R208). -/
def State.activePage (s : State) (lp : Nat) : Option BoundPage :=
  match s.mre.bound with
  | [] => none
  | p :: rest => if p.start ≤ lp ∧ lp < (pageEnd p rest.head?).1 then some p else none

/-- A page begins: the map is cleared where its header or a Queue command says so; in free run the next page is bound (R209, R225). -/
def State.beginPage (s : State) (p : BoundPage) : State :=
  let resets := s.mre.mapReset || (p.head != [] && (pgFlags p.head).testBit 0)
  let s1 := s.setBound { p with begun := true, mapReset := resets }
  let s2 : State := { s1 with mre := { s1.mre with
    mapReset := false, latest := some (p.number, p.start), map := if resets then [] else s1.mre.map,
    pendM := if resets then [] else s1.mre.pendM } }
  let s3 := (s2.wr Ix.mreCurrentPage 0 p.number).wr Ix.mreCurrentPageStart 0 p.start
  if s3.binder = bsFreeRun then s3.bind (p.start + p.pitch) s3.stamp (p.start + p.pitch) false false else s3

/-! ### Fetching tiles -/

/-- The displacements in force at an LP: of the window that is open, else those that the last one left (R220). -/
def State.forceAt (s : State) (lp : Nat) : List (Int × Int) :=
  match s.mre.window with
  | none => s.mre.force
  | some w =>
    match s.mre.bound.find? (fun p => p.id == w.page) with
    | some p => inForce w (lp - p.start - w.window * s.rd Ix.mreWindowHeight 0 * 65536)
    | none => s.mre.force

/-- The deepest row of a page that a line at an LP reaches: y, the largest applied along displacement and 1, with the prefetch rows (R213). -/
def State.deepest (s : State) (p : BoundPage) (lp : Nat) : Int :=
  let along := (s.forceAt lp).map (fun a => a.2)
  (((lp : Int) - p.start) + along.foldl max (along.headD 0) * 256) / 65536 + 1 + s.rd Ix.mrePrefetchRows 0

/-- The tiles of a page that a line at an LP calls for and that are not asked for yet (R213). -/
def State.tilesWanted (s : State) (p : BoundPage) (lp : Nat) : List Nat :=
  let h := p.head
  let reach := s.deepest p lp
  let lim : Int := (s.rd Ix.mreFieldLimit 0 + 255) / 256
  let lo : Int := (s.rd Ix.stxColumnBase 0 : Int) - pgFirst h - lim
  let hi : Int := (s.rd Ix.stxColumnBase 0 : Int) + s.mreWidth - pgFirst h + lim
  if reach < 0 ∨ hi < 0 ∨ p.image.isNone then []
  else
    let rows := min (pgTileRows h) (reach.toNat / 64 + 1)
    let cols := (List.range (pgTileCols h)).filter (fun (c : Nat) => decide (lo ≤ (c * 64 + 63 : Nat)) && decide (((c * 64 : Nat) : Int) ≤ hi))
    ((List.range rows).flatMap (fun r => cols.map (fun c => r * pgTileCols h + c))).filter (fun t => !(p.asked.contains t))

/-- A tile asked of CDE: its directory entry gives its block (R194, R213). While the DRAM channel that holds the entry is not Running the tile is
not asked for yet (R230). -/
def State.askTile (s : State) (p : BoundPage) (tile : Nat) : State :=
  match p.image with
  | none => s
  | some (a, _) =>
    let (e, bad, s1) := s.dramFetch 3 (a + 64 + 4 * tile) 4
    let job : TileJob := { page := p.id, tile := tile, addr := a + pgBlocks p.head + ofLe e * 16, comps := pgPixel p.head }
    let s2 : State := { s1 with mre := { s1.mre with
      bound := s1.mre.bound.map (fun x => if x.id = p.id then { x with asked := tile :: x.asked } else x) } }
    if !s.rangeRuns (a + 64 + 4 * tile) 4 then s1
    else if bad then s2.tileDone job none else s2.setCde { s2.cde with tiles := s2.cde.tiles ++ [job] }

/-- The tile rows of the bound pages are fetched in page order, while CDE takes requests (R213, R254). -/
def State.fetchTiles (s : State) (lp : Nat) : State :=
  if s.runs .cde then
    s.mre.bound.foldl (fun (t : State) p => (t.tilesWanted p lp).foldl (fun (u : State) k => u.askTile p k) t) s
  else s

/-! ### Deviation lines -/

/-- The RWB values of MRE come into force (R223, R224, R226). -/
def State.mreBoundary (s : State) : State :=
  ((s.forceo Ix.mreToleranceTable 0).forceo Ix.mreRGBWeights 0).forceo Ix.mreDeltaEFactors 0

/-- A gap line or a line of a NO_MASTER page (R210, R211). -/
def State.plainLine (s : State) (x : Stitched) (page state reason flags offset : Nat) : DevLine :=
  { head := { x with cols := [] }, page := page, state := state, reason := reason, flags := flags, offset := offset,
    cols := x.cols.map (fun c => s.withoutMaster c 0) }

/-- A compared line: the window of its row, the columns, and the samples that the registration takes (R208, R216 to R227). -/
def State.comparedLine (s : State) (p : BoundPage) (x : Stitched) : State × DevLine :=
  let offset := x.lp - p.start
  let h := s.rd Ix.mreWindowHeight 0
  let w := offset / 65536 / h
  let into := offset - w * h * 65536
  let s1 := match s.mre.window with
    | some win => if win.page = p.id ∧ win.window = w then s else (s.closeWindow (h * 65536)).openWindow p w
    | none => s.openWindow p w
  match s1.mre.window, s1.mre.bound.find? (fun q => q.id == p.id) with
  | some win, some q =>
    let res := x.cols.mapIdx (fun c col => s1.compareColumn q win x.base into offset c col)
    let cols := res.map (fun r => r.1)
    let late := cols.any (fun c => c.f &&& dfLate != 0)
    let masked := cols.countP (fun c => c.f &&& (dfLate + dfPoison) != 0)
    let win' := s1.samplePoints q win x into offset (res.map (fun r => r.2))
    let s2 := { s1 with mre := { s1.mre with window := some win' } }.setBound { q with lines := q.lines + 1, masked := q.masked + masked }
    let s3 := s2.bump Ix.mreLinesCompared 0 1
    let s4 := if late then (s3.bump Ix.mreFetchLateLines 0 1).inspFlag isFetchLate else s3
    (s4, { head := { x with cols := [] }, page := p.number, state := 0, reason := 0,
           flags := bitNat (decide (into < 64 * 65536)) + 2 * bitNat p.synth, offset := offset, cols := cols })
  | _, _ => (s1, s1.plainLine x p.number 2 p.reason 0 offset)

/-- MRE takes a stitched line and answers its deviation line, none where it takes no input (R191, R201, R204, R207, R208). -/
def State.mreLine (s : State) (x : Stitched) : State × Option DevLine :=
  let wanted := s.runs .mre || (s.drains .mre && s.mre.stopStrip.any (fun k => decide (x.line / s.strip ≤ k)))
  if !wanted || !(s.mre.next.all (fun n => decide (n ≤ x.line))) then (s.discard .mre 1, none)
  else
    let s0 := if x.line % s.strip = 0 then s.mreBoundary else s
    let s1 := s0.expire.marksUpTo x.lp 16
    let s2 := s1.endPages x.lp (s1.mre.bound.length + x.lp + 2)
    let s3 := match s2.activePage x.lp with
      | some p => if p.begun then s2 else s2.beginPage p
      | none => s2
    let (s4, dev) := match s3.activePage x.lp with
      | some p =>
        if p.reason = 0 then s3.comparedLine p x
        else (s3, s3.plainLine x p.number 2 p.reason (2 * bitNat p.synth) (x.lp - p.start))
      | none =>
        let latest := s3.mre.latest
        (s3, s3.plainLine x ((latest.map (fun (l : Nat × Nat) => l.1)).getD 0) 1 (if s3.mre.anyBind then 0 else 7) 0
          ((latest.map (fun (l : Nat × Nat) => x.lp - l.2)).getD 0))
    let s5 := (s4.noteExpiry x.lp x.time).fetchTiles x.lp
    ({ s5 with mre := { s5.mre with next := some (x.line + 1), lastLp := x.lp } }, some dev)

/-! ### States -/

/-- What ARM checks of MRE beside the functions it depends on (R202, R216, R223, R386, R401). -/
def State.mreArmable (s : State) : Bool :=
  let space := s.rd Ix.iplOutputSpace 0
  let mode := s.rd Ix.mreDeviationMode 0
  decide (((s.rd Ix.mreMarkWindow 0 + s.rd Ix.mreBindLead 0 * 65536 : Nat) : Int) ≤ s.rdI Ix.mrePageOriginOffset 0) &&
  decide (s.cells ≤ 1024) && (space == (if mode = 0 then 1 else if mode = 1 then 0 else 2)) &&
  decide (s.dmc.map ≠ []) && s.regionsFit

/-- MRE enters Running at the strip that begins with a line: the binder acquires, or runs free, and the drift is cleared (R204, R209,
R221, R229). -/
def State.mreStarts (s : State) (line : Nat) : State :=
  let s1 : State := { s with mre := { s.mre with
    bound := [], marks := [], mLast := none, miss := 0, expiry := none, drift := [], pendT := [], pendM := [], window := none, force := [],
    next := some line, stopStrip := none, anyBind := false } }
  if s.rd Ix.mrePageMarkProbe 0 = 255 then
    let start := s.rd Ix.mreFreeRunStartLP 0
    (s1.setBinder bsFreeRun).bind start s.stamp start false false
  else s1.setBinder bsAcquiring

/-- STOP: the lines of the current strip are still compared (R229). -/
def State.mreStops (s : State) : State :=
  { s with mre := { s.mre with stopStrip := s.mre.next.map (fun l => (l - 1) / s.strip) } }

/-- Whether MRE's drain has ended: with the strip's last line (R229). -/
def State.mreDrained (s : State) : Bool :=
  match s.mre.stopStrip, s.mre.next with
  | some k, some l => decide ((k + 1) * s.strip ≤ l)
  | _, _ => true

/-- The lines of the strip that remain when it is cut off, as deviation lines (R229). -/
def State.mreRest (s : State) : List DevLine :=
  match s.mre.next with
  | none => []
  | some l =>
    let n := if l % s.strip = 0 then 0 else s.strip - l % s.strip
    (List.range n).map (fun i =>
      let k := l + i
      { head := { line := k, lp := k * 65536, time := Config.devTime (s.free + i) % 2 ^ 64, missing := 0, index := k % s.strip, flags := 16,
                  code := s.outputCode, base := s.rd Ix.stxColumnBase 0, width := s.mreWidth, cols := [] },
        page := (s.mre.latest.map (fun x => x.1)).getD 0, state := 2, reason := 8, flags := 0,
        offset := (s.mre.latest.map (fun x => k * 65536 - x.2)).getD 0,
        cols := List.replicate s.mreWidth ⟨0, 0, dfNoMaster⟩ })

/-- On reaching Stopped or Faulted every active or bound page ends TRUNCATED; unbound pages stay queued (R229). -/
def State.mreEnds (s : State) : State :=
  let s1 := s.mre.bound.foldl (fun (t : State) p => t.endPage p (if p.begun then t.mre.lastLp else p.start) false true) s
  { s1 with free := s1.free + s1.strip, mre := { s1.mre with next := none, stopStrip := none, window := none, marks := [], expiry := none } }

/-- A DMC channel's retirement invalidates the master region (R200, R399). -/
def State.mreInvalidated (s : State) : State :=
  let s1 := s.setPages []
  { s1 with
    mre := { s1.mre with ringHead := 0, leaving := [],
                         bound := s1.mre.bound.map (fun p => { p with reason := 6, image := none, hold := none, tiles := [] }) }
    cde := { s1.cde with tiles := [] } }

/-- The Registration field object: T, then M in window-major order (R233). -/
def State.registrationField (s : State) : Octets :=
  let pair (a : Int × Int) : Octets := leBytes 2 (toPattern 16 a.1) ++ leBytes 2 (toPattern 16 a.2)
  let cells := List.range s.cells
  cells.flatMap (fun i => pair (s.driftOf i)) ++
  (List.range s.mapWindows).flatMap (fun w => cells.flatMap (fun i => pair (storeGet (0, 0) s.mre.map (s.mapKey w i))))

end Sys2Proof.Machine
end

