-- ==== Sys2Proof/Machine/SegBlob.lean ====
section
/-! DEFINITION. What SEG measures of a blob: sums, features, the blob record, the PARTIAL and the strip summary (R275, R280 to R282). -/

namespace Sys2Proof.Machine

/-- The flags of a blob record (R280). -/
abbrev bfSplit : Nat := 1
abbrev bfContPrev : Nat := 2
abbrev bfContNext : Nat := 4
abbrev bfTruncated : Nat := 8
abbrev bfStandstill : Nat := 16
abbrev bfJoined : Nat := 32
abbrev bfDropNear : Nat := 64

/-- Two blobs' measurements as one; the first pixel's figures are those of the first (R268, R281). -/
def BlobSum.merge (a b : BlobSum) : BlobSum :=
  let d : Int := (b.line0 : Int) - a.line0
  { a with
    area := a.area + b.area, strong := a.strong || b.strong,
    line1 := max a.line1 b.line1, lp1 := if a.line1 < b.line1 then b.lp1 else a.lp1,
    colMin := min a.colMin b.colMin, colMax := max a.colMax b.colMax, cams := a.cams ||| b.cams, segs := a.segs ||| b.segs,
    dMax := max a.dMax b.dMax, sumD := a.sumD + b.sumD, sumDl := a.sumDl + b.sumDl,
    sx := a.sx + b.sx, sy := a.sy + b.sy + b.area * d, sxx := a.sxx + b.sxx,
    syy := a.syy + b.syy + 2 * d * b.sy + b.area * d * d, sxy := a.sxy + b.sxy + d * b.sx, flags := a.flags ||| b.flags }

/-- Whether a blob's first pixel comes before another's: lower line, then lower column (R268). -/
def firstBefore (a b : Blob) : Bool :=
  decide (a.m.line0 < b.m.line0) || (a.m.line0 == b.m.line0 && decide (a.firstCol ≤ b.firstCol))

/-- A list in the order of first pixels (R269). -/
def insertFirst (b : Blob) : List Blob → List Blob
  | [] => [b]
  | c :: cs => if firstBefore b c then b :: c :: cs else c :: insertFirst b cs

/-- The D mean, contrast and lines spanned (R281). -/
def BlobSum.dMean (m : BlobSum) : Nat := m.sumD / m.area
def BlobSum.contrast (m : BlobSum) : Int := clampInt (-32768) 32767 (Int.tdiv m.sumDl m.area)
def BlobSum.lines (m : BlobSum) : Nat := m.line1 - m.line0 + 1

/-- The segments crossed (R281). -/
def BlobSum.crossed (m : BlobSum) : Nat := oddCount 32 m.segs
where
  /-- How many of the lowest bits of a number are set. -/
  oddCount : Nat → Nat → Nat
    | 0, _ => 0
    | n + 1, v => v % 2 + oddCount n (v / 2)

/-- Whether floor(16 √((λ1 + 1/12) / (λ2 + 1/12))) is at least `e`, decided in integers: with n pixels, A, B and C the n²-fold of c_xx,
c_yy and c_xy, and P = 6 (A + B) + n², it holds when (e² − 256) P ≤ 6 (e² + 256) √((A − B)² + 4 C²) (R281). -/
def BlobSum.elongationAtLeast (m : BlobSum) (e : Nat) : Bool :=
  let n : Int := m.area
  let a := n * m.sxx - m.sx * m.sx
  let b := n * m.syy - m.sy * m.sy
  let c := n * m.sxy - m.sx * m.sy
  let p := 6 * (a + b) + n * n
  let q := (a - b) * (a - b) + 4 * c * c
  let l := ((e * e : Nat) - 256 : Int) * p
  decide (l ≤ 0) || decide (l * l ≤ (6 * (e * e + 256 : Nat)) * (6 * (e * e + 256 : Nat)) * q)

/-- The elongation (R281). -/
def BlobSum.elongation (m : BlobSum) : Nat := ((List.range 256).filter m.elongationAtLeast).foldl max 0

/-- The centroid in 1/16 column from column min and 1/16 line from the first line, saturating (R280). -/
def BlobSum.centroid (m : BlobSum) : Nat × Nat :=
  (min 65535 (16 * (m.sx - m.area * m.colMin) / m.area).toNat, min 65535 (16 * m.sy / m.area).toNat)

/-- The blob record (R280): columns are global already. -/
def blobRecord (m : BlobSum) (flags seg : Nat) : Octets :=
  leBytes 2 0x0006 ++ leBytes 1 1 ++ leBytes 1 flags ++ leBytes 1 seg ++ leBytes 1 m.crossed ++ leBytes 1 m.flags ++
  leBytes 1 m.elongation ++ leBytes 8 m.lp0 ++ leBytes 8 m.lp1 ++ leBytes 4 m.colMin ++ leBytes 4 m.colMax ++ leBytes 8 m.time0 ++
  leBytes 4 m.page ++ leBytes 4 m.area ++ leBytes 4 m.cams ++ leBytes 2 m.dMax ++ leBytes 2 m.dMean ++
  leBytes 2 (toPattern 16 m.contrast) ++ leBytes 2 (min 65535 m.lines) ++ leBytes 2 m.centroid.1 ++ leBytes 2 m.centroid.2

/-- A sum that saturates at its width. -/
def satU64 (i : Int) : Nat := (clampInt 0 (2 ^ 64 - 1) i).toNat
def satI64 (i : Int) : Nat := toPattern 64 (clampInt (-(2 ^ 63)) (2 ^ 63 - 1) i)

/-- A PARTIAL event (R275): x counts from the far-side column base, y from the first line. -/
def partialEvent (b : Blob) (base : Nat) : Octets :=
  let m := b.m
  let n : Int := m.area
  let x0 : Int := base
  let f := bitNat m.strong + 2 * bitNat (b.flags.testBit 1) + 4 * bitNat (b.flags.testBit 2) + 8 * bitNat (b.flags.testBit 3) +
    16 * bitNat (b.flags.testBit 4) + 32 * bitNat (b.flags.testBit 6)
  leBytes 1 3 ++ leBytes 1 f ++ leBytes 2 (b.joinId.getD 0xFFFF) ++ leBytes 1 m.flags ++ leBytes 3 0 ++
  leBytes 8 m.lp0 ++ leBytes 8 m.lp1 ++ leBytes 4 m.colMin ++ leBytes 4 m.colMax ++ leBytes 4 m.area ++ leBytes 4 m.cams ++
  leBytes 2 m.dMax ++ leBytes 2 0 ++ leBytes 4 m.page ++ leBytes 8 m.sumD ++ leBytes 8 (toPattern 64 m.sumDl) ++
  leBytes 8 (toPattern 64 (m.sx - n * x0)) ++ leBytes 8 (toPattern 64 m.sy) ++
  leBytes 8 (satU64 (m.sxx - 2 * x0 * m.sx + n * x0 * x0)) ++ leBytes 8 (satU64 m.syy) ++
  leBytes 8 (satI64 (m.sxy - x0 * m.sy)) ++ leBytes 8 m.time0

/-- The measurements a PARTIAL gives, with the far-side column base (R275, R281); line numbers are those of its LPs. -/
def partialSum (p : Octets) (base : Nat) : BlobSum :=
  let n : Int := leAt p 0x20 4
  let x0 : Int := base
  let sx := leInt p 0x40 8
  let sy := leInt p 0x48 8
  { area := leAt p 0x20 4, strong := (octAt p 1).testBit 0, line0 := leAt p 8 8 / 65536, lp0 := leAt p 8 8, time0 := leAt p 0x68 8,
    page := leAt p 0x2C 4, line1 := leAt p 0x10 8 / 65536, lp1 := leAt p 0x10 8, colMin := leAt p 0x18 4, colMax := leAt p 0x1C 4,
    cams := leAt p 0x24 4, dMax := leAt p 0x28 2, sumD := leAt p 0x30 8, sumDl := leInt p 0x38 8, sx := sx + n * x0, sy := sy,
    sxx := (leAt p 0x50 8 : Int) + 2 * x0 * sx + n * x0 * x0, syy := leAt p 0x58 8, sxy := leInt p 0x60 8 + x0 * sy, flags := octAt p 4 }

/-- The record flags a PARTIAL carries (R275, R280). -/
def partialFlags (p : Octets) : Nat :=
  let f := octAt p 1
  bfContPrev * bitNat (f.testBit 1) + bfContNext * bitNat (f.testBit 2) + bfTruncated * bitNat (f.testBit 3) +
  bfStandstill * bitNat (f.testBit 4) + bfDropNear * bitNat (f.testBit 5)

/-- A blob combined with a PARTIAL: the first line's figures are those of the earlier (R276, R281). -/
def combinePartial (m : BlobSum) (p : Octets) (base : Nat) : BlobSum :=
  let q := partialSum p base
  if q.line0 < m.line0 then q.merge m else m.merge q

/-- Runs of consecutive set pixels within a segment, from a column on: (first, last) columns (R268). -/
def runsFrom : Nat → Option Nat → List Bool → List (Nat × Nat)
  | _, none, [] => []
  | c, some a, [] => [(a, c - 1)]
  | c, none, true :: bs => runsFrom (c + 1) (some c) bs
  | c, none, false :: bs => runsFrom (c + 1) none bs
  | c, some a, true :: bs => runsFrom (c + 1) (some a) bs
  | c, some a, false :: bs => (a, c - 1) :: runsFrom (c + 1) none bs

/-- Whether a run runsTouch to one of the line before (R268). -/
def runsTouch (r q : Nat × Nat) : Bool := decide (r.1 ≤ q.2 + 1) && decide (q.1 ≤ r.2 + 1)

/-- A strip summary (R282). -/
def stripSummary (strip dropped sat high colMin colMax unseen : Nat) (truncated : Bool) : Octets :=
  leBytes 2 0x0007 ++ leBytes 1 1 ++
  leBytes 1 (bitNat (dropped != 0) + 2 * bitNat (sat != 0) + 4 * bitNat (unseen != 0) + 8 * bitNat truncated) ++
  leBytes 2 high ++ leBytes 2 0 ++ leBytes 8 strip ++ leBytes 4 dropped ++ leBytes 4 sat ++ leBytes 4 colMin ++ leBytes 4 colMax ++
  leBytes 4 unseen ++ leBytes 4 0

end Sys2Proof.Machine
end

