-- ==== Sys2Proof/Machine/Seg.lean ====
section
/-! DEFINITION. The segment engines: detection, morphology, labelling, Braid joins, spares and faults (R259 to R288). -/

namespace Sys2Proof.Machine

/-- The flags of Detection status (R289). -/
abbrev sdOverflow : Nat := 0
abbrev sdForceClosed : Nat := 1
abbrev sdSplit : Nat := 2
abbrev sdPartialLate : Nat := 3
abbrev sdEngineFault : Nat := 4
abbrev sdMismatch : Nat := 5
abbrev sdSettling : Nat := 7
abbrev sdDuplicate : Nat := 8

/-- The width of a segment (R263). -/
abbrev segWidth : Nat := 8192

/-- The local width that SEG works on (R263). -/
def State.segLocal (s : State) : Nat := s.localWidth s.placesNow

/-- The number of segments in use (R263). -/
def State.segmentsInUse (s : State) : Nat := (s.segLocal + segWidth - 1) / segWidth

/-- The engine that serves a logical segment (R283, R285). -/
def State.engineOf (s : State) (k : Nat) : Option Nat :=
  (List.range 36).find? (fun e => s.rd Ix.segEngineState (e + 1) == 1 && s.rd Ix.segLogicalSegment (e + 1) == k)

/-- The RWB values of SEG come into force (R266). -/
def State.segForce (s : State) : State :=
  ((s.forceAll 0 [Ix.segLowThreshold, Ix.segHighThreshold, Ix.segPolarity, Ix.segMinimumArea, Ix.segMorphology, Ix.segStructuringElement,
    Ix.segSuppressMask, Ix.segMaximumBlobLength]).forceo Ix.segReferenceSample 0).forceo Ix.segChannelWeights 0

/-- The contexts in use: open blobs, blobs that wait for PARTIALs, and records that wait for the FIFO (R270). -/
def State.contexts (s : State) : Nat :=
  s.seg.blobs.length + s.seg.waits.length + s.seg.records.countP (fun r => r.1)

/-- The contexts in use at some moment enter the high-water marks (R282, R289). -/
def State.contextPeak (s : State) (n : Nat) : State :=
  let t := s.raiseTo Ix.segContextHighWater 0 n
  { t with seg := { t.seg with stripHigh := max t.seg.stripHigh n } }

/-- Open contexts and their high-water marks as the objects show them (R289). -/
def State.showContexts (s : State) : State := (s.wr Ix.segOpenContexts 0 s.contexts).contextPeak s.contexts

/-- The segments of the contexts that blobs hold which are open no more: those that wait for PARTIALs, and those whose record waits for the FIFO
(R270, R271). -/
def State.heldSegments (s : State) : List Nat :=
  s.seg.waits.map (fun w => w.blob.seg) ++ (s.seg.records.filter (fun r => r.1)).map (fun r => octAt r.2 4)

/-! ### Candidates -/

/-- D and dL of a stitched column against a reference (R261). -/
def referenceDeviation (space : Nat) (weights : Octets) (vs refs : List Nat) : Nat × Int :=
  let w (c : Nat) : Int := if space = 2 then 256 else u16At weights c
  let chans := List.range (if space = 2 then 1 else 3)
  let diff (c : Nat) : Int := (vs.getD c 0 : Int) - refs.getD c 0
  (min 65535 (Int.tdiv (chans.map (fun c => w c * (diff c).natAbs)).sum 256).toNat,
   clampI16 (Int.tdiv (chans.map (fun c => w c * diff c)).sum 512))

/-- Whether a column is suppressed, a candidate, strong (R265). -/
def State.suppressed (s : State) (x : DevCol) : Bool := (x.f &&& (s.rdf Ix.segSuppressMask 0 ||| 16)) != 0
def State.candidate (s : State) (x : DevCol) : Bool :=
  let pol := s.rdf Ix.segPolarity 0
  !s.suppressed x && decide (s.rdf Ix.segLowThreshold 0 ≤ x.d) &&
  ((decide (0 ≤ x.dl) && pol.testBit 0) || (decide (x.dl ≤ 0) && pol.testBit 1))
def State.strongCandidate (s : State) (x : DevCol) : Bool := s.candidate x && decide (s.rdf Ix.segHighThreshold 0 ≤ x.d)

/-- The running reference's sample of a column, without its fraction bits (R262). -/
def refSample (r : List Nat) : List Nat := r.map (fun v => v / 256)

/-- The running reference after a line: every column that is neither candidate nor suppressed moves by 1/2^k, rounded half up (R262). -/
def refStep (k : Nat) (r vs : List Nat) : List Nat :=
  (r.zip vs).map (fun x => ((x.1 : Int) + ((x.2 * 256 : Nat) - x.1 + (2 ^ (k - 1) : Nat)) / (2 ^ k : Nat)).toNat)

/-! ### Morphology -/

/-- A mask's bit at a column; beyond its ends the bit at that end. -/
def maskBit (m : List Bool) (c : Int) : Bool := m.getD (clampInt 0 ((m.length : Int) - 1) c).toNat false

/-- An erosion or dilation of the middle of some lines' masks by a rectangle of half width `w` (R267). -/
def morphLine (erode : Bool) (w : Nat) (ms : List (List Bool)) (width : Nat) : List Bool :=
  let offs := (List.range (2 * w + 1)).map (fun (i : Nat) => (i : Int) - w)
  (List.range width).map (fun (c : Nat) =>
    if erode then ms.all (fun m => offs.all (fun d => maskBit m (c + d)))
    else ms.any (fun m => offs.any (fun d => maskBit m (c + d))))

/-- A candidate mask with its apron of 8 columns on each side, which replicates the edge columns (R263). -/
def withApron (m : List Bool) : List Bool := List.replicate 8 (m.headD false) ++ m ++ List.replicate 8 (m.getLastD false)

/-- The blob mask of a line from the candidate masks of the five lines around it, suppressed pixels removed again (R263, R267). -/
def blobMask (l : SegLine) (around : List (List Bool)) : List Bool :=
  let width := l.cand.length
  let w := field l.element 0 2
  let tall := l.element.testBit 2
  let at_ (i : Nat) : List Bool := withApron (around.getD i (List.replicate width false))
  let rows (f : Nat → List Bool) (i : Nat) : List (List Bool) := if tall then [f (i - 1), f i, f (i + 1)] else [f i]
  let first (i : Nat) : List Bool := morphLine (l.morph == 1) w (rows at_ i) (width + 16)
  let mask := if l.morph = 0 then l.cand else ((morphLine (l.morph != 1) w (rows first 2) (width + 16)).drop 8).take width
  (mask.zip l.supp).map (fun x => x.1 && !x.2)

/-! ### Labelling -/

/-- The pixel flag summary of a pixel: light, dark, SAT, REPLACED, BLENDED, UNSTITCHED, REG_LIMIT, a suppressed neighbour (R281). -/
def pixelSummary (x : DevCol) (nearSuppressed : Bool) : Nat :=
  bitNat (decide (0 ≤ x.dl)) + 2 * bitNat (decide (x.dl ≤ 0)) + 4 * bitNat (x.f.testBit 0) + 8 * bitNat (x.f.testBit 1) +
  16 * bitNat (x.f.testBit 6) + 32 * bitNat (x.f.testBit 5) + 64 * bitNat (x.f.testBit 12) + 128 * bitNat nearSuppressed

/-- What labelling a line needs beside the blobs: the line, the column base, the suppressed masks of the lines around it, the camera of
a column. -/
structure LabelCtx where
  l : SegLine
  base : Nat
  supps : List (List Bool)
  cam : Nat → Option Nat

/-- The measurements of one pixel. -/
def LabelCtx.pixel (k : LabelCtx) (c : Nat) : BlobSum :=
  let x := k.l.cols.getD c ⟨0, 0, 0⟩
  let near := k.supps.any (fun m => m.getD (c - 1) false || m.getD c false || m.getD (c + 1) false)
  let g : Int := (k.base + c : Nat)
  { area := 1, strong := k.l.strong.getD c false, line0 := k.l.line, lp0 := k.l.lp, time0 := k.l.time, page := k.l.page,
    line1 := k.l.line, lp1 := k.l.lp, colMin := k.base + c, colMax := k.base + c,
    cams := ((k.cam c).map (fun n => 2 ^ n)).getD 0, segs := 2 ^ (c / segWidth), dMax := x.d, sumD := x.d, sumDl := x.dl,
    sx := g, sxx := g * g, flags := pixelSummary x near }

/-- The measurements of a run. -/
def LabelCtx.run (k : LabelCtx) (r : Nat × Nat) : BlobSum :=
  (List.range (r.2 - r.1)).foldl (fun m i => m.merge (k.pixel (r.1 + 1 + i))) (k.pixel r.1)

/-- Labelling under way: the blobs, the runs of this line by blob, the runs dropped, the next blob number, renamings by merges, and the most blobs
that were open at once. -/
structure Labels where
  blobs : List Blob
  runs : List (Nat × (Nat × Nat))
  drops : List (Nat × Nat)
  next : Nat
  renamed : List (Nat × Nat)
  merges : List (Nat × Nat)
  peak : Nat

/-- Blobs merged into the one whose first pixel comes first (R268): join ids become one, and the announcement that one merged into
another is kept (R276). -/
def Labels.mergeBlobs (k : Labels) (a b : Nat) : Labels :=
  match k.blobs.find? (fun x => x.id == a), k.blobs.find? (fun x => x.id == b) with
  | some x, some y =>
    if a = b then k
    else
      let (u, v) := if firstBefore x y then (x, y) else (y, x)
      let w : Blob := { u with m := u.m.merge v.m, runs := u.runs ++ v.runs, flags := u.flags ||| v.flags,
                               joinId := u.joinId.or v.joinId, touched := u.touched || v.touched,
                               joins := u.joins ++ v.joins.filter (fun j => u.joins.all (fun i => i.1 != j.1)) }
      { k with
        blobs := (k.blobs.filter (fun z => z.id != v.id)).map (fun z => if z.id = u.id then w else z)
        runs := k.runs.map (fun r => if r.1 = v.id then (u.id, r.2) else r)
        renamed := (v.id, u.id) :: k.renamed.map (fun r => if r.2 = v.id then (r.1, u.id) else r)
        merges := match u.joinId, v.joinId with
          | some i, some j => k.merges ++ [(j, i)]
          | _, _ => k.merges }
  | _, _ => k

/-- A run joins a blob. -/
def Labels.join (k : Labels) (id : Nat) (r : Nat × Nat) (m : BlobSum) (flags : Nat) : Labels :=
  { k with
    blobs := k.blobs.map (fun b => if b.id = id then { b with m := b.m.merge m, flags := b.flags ||| flags } else b)
    runs := k.runs ++ [(id, r)] }

/-- A run is labelled within its segment: it joins the blobs it runsTouch to, or opens a context where the pool and its segment have one,
or is dropped (R268, R271, R272). `held` gives the segments of contexts that are not open blobs'. -/
def Labels.label (k : Labels) (ctx : LabelCtx) (cont : List (Nat × Nat)) (held : List Nat) (limit : Nat) (r : Nat × Nat) : Labels :=
  let seg := r.1 / segWidth
  let ids := (k.blobs.filter (fun b => b.runs.any (fun q => q.1 / segWidth == seg && runsTouch r q))).map (fun b => b.id)
  let again := bfContPrev * bitNat (cont.any (fun q => runsTouch r q))
  match ids with
  | [] =>
    if 4096 ≤ k.blobs.length + held.length ∨ limit ≤ k.blobs.countP (fun b => b.seg == seg) + held.count seg then
      { k with drops := k.drops ++ [r] }
    else
      { k with
        peak := max k.peak (k.blobs.length + 1)
        blobs := k.blobs ++ [{ id := k.next, firstCol := r.1, seg := seg, m := ctx.run r, runs := [], flags := again }]
        runs := k.runs ++ [(k.next, r)], next := k.next + 1 }
  | i :: is =>
    let k1 := is.foldl (fun t j => t.mergeBlobs (((t.renamed.find? (fun n => n.1 == i)).map (fun n => n.2)).getD i) j) k
    k1.join (((k1.renamed.find? (fun n => n.1 == i)).map (fun n => n.2)).getD i) r (ctx.run r) again

/-- The merges across the seam after a column: runs that touch it on both sides, on this line and the one before (R274). -/
def Labels.seam (k : Labels) (e : Nat) : Labels :=
  let cur := k.runs
  let prev := k.blobs.flatMap (fun b => b.runs.map (fun q => (b.id, q)))
  let left := cur.filter (fun r => r.2.2 == e)
  let right := cur.filter (fun r => r.2.1 == e + 1)
  let leftOld := prev.filter (fun r => r.2.2 == e)
  let rightOld := prev.filter (fun r => r.2.1 == e + 1)
  let pairs := (left.flatMap (fun a => (right ++ rightOld).map (fun b => (a.1, b.1)))) ++
    right.flatMap (fun a => leftOld.map (fun b => (a.1, b.1)))
  pairs.foldl (fun t p =>
    let now (i : Nat) : Nat := ((t.renamed.find? (fun n => n.1 == i)).map (fun n => n.2)).getD i
    t.mergeBlobs (now p.1) (now p.2)) k

/-! ### Records and Braid joins -/

/-- Whether a seam of a role is stitched: only then are summaries sent and awaited (R275, R278). -/
def State.joined (s : State) (role : Nat) : Bool := s.rolePorts role != [] && s.seamStitched role

/-- The local edge column at the join of a role. -/
def State.edgeColumn (s : State) (role : Nat) : Nat := if role = roleOp then 0 else s.segLocal - 1

/-- A record enters the queue before the FIFO, holding its context where it is a blob's (R270). -/
def State.segRecord (s : State) (holds : Bool) (r : Octets) : State :=
  { s with seg := { s.seg with records := s.seg.records ++ [(holds, r)] } }

/-- A blob is reported or rejected (R269): `exempt` blobs need no strong pixel (R272). -/
def State.report (s : State) (m : BlobSum) (flags seg : Nat) (exempt : Bool) : State :=
  if s.seg.minArea ≤ m.area ∧ (m.strong ∨ exempt) then
    let s1 := ((s.segRecord true (blobRecord m flags seg)).bump Ix.segBlobsReported 0 1).tally 0x31 0 1
    let s2 := if flags.testBit 0 then (s1.bump Ix.segSplitBlobs 0 1).setBit Ix.segDetectionStatus 0 sdSplit else s1
    if flags.testBit 5 then s2.bump Ix.segJoinedBlobs 0 1 else s2
  else s.bump Ix.segBlobsRejected 0 1

/-- The column base of the far-side neighbour. -/
def State.farBase (s : State) : Nat := s.rd Ix.stxColumnBase 0 + s.segLocal

/-- A blob with its PARTIALs combined into it, and the flags that its joins give its record (R276 to R279). PRESUMED: a PARTIAL that begins on an
earlier line has its first pixel at its column min, which is all that it tells of it. -/
def State.joinedBlob (s : State) (b : Blob) : Blob :=
  let parts := b.joins.filterMap (fun j => j.2)
  let m := parts.foldl (fun m p => combinePartial m p s.farBase) b.m
  let own := s.rd Ix.stxColumnBase 0
  let unstitched (role : Nat) : Bool := s.rolePorts role != [] && !s.seamStitched role &&
    (if role = roleOp then m.colMin == own else m.colMax == own + s.edgeColumn roleFar)
  let flags := b.flags ||| (bfJoined * bitNat (parts != [])) |||
    (bfSplit * bitNat (unstitched roleOp || unstitched roleFar || b.joins.any (fun j => j.2.isNone))) |||
    parts.foldl (fun f p => f ||| partialFlags p) 0
  let first := match parts.find? (fun p => (partialSum p s.farBase).line0 == m.line0) with
    | some p => if m.line0 < b.m.line0 then leAt p 0x18 4 - own else b.firstCol
    | none => b.firstCol
  { b with m := m, flags := flags, firstCol := first }

/-- A blob with its joins in it is sent as a PARTIAL where the operator-side neighbour owns it, else reported; the join ids it has taken are
acknowledged (R276, R278, R279). -/
def State.completeJoined (s : State) (c : Blob) : State :=
  let s : State := { s with seg := { s.seg with acks := s.seg.acks ++ (c.joins.filter (fun j => j.2.isSome)).map (fun j => j.1) } }
  if c.touched && s.joined roleOp then
    let p := partialEvent c (s.rd Ix.stxColumnBase 0)
    { s with seg := { s.seg with events := s.seg.events ++ [(roleOp, p)], sent := s.seg.sent ++ [(roleOp, p)] } }
  else s.report c.m c.flags c.seg (c.flags.testBit 2 && !c.flags.testBit 4)

/-- Blobs whose own sides and joins are complete leave at once, in the order of their first pixels (R269). -/
def State.completeAll (s : State) (bs : List Blob) : State :=
  ((bs.map s.joinedBlob).foldl (fun acc b => insertFirst b acc) []).foldl (fun (t : State) b => t.completeJoined b) s

/-- Whether a blob has a pixel in the edge column of a stitched join: it then waits for the line's summary and for its PARTIALs (R275, R276). -/
def State.atJoin (s : State) (b : Blob) : Bool :=
  let own := s.rd Ix.stxColumnBase 0
  (s.joined roleOp && b.m.colMin == own) || (s.joined roleFar && b.m.colMax == own + s.edgeColumn roleFar)

/-- Blobs whose own side has closed on a line, with their flags: those at a stitched join wait, the others leave with those of `done`, whose joins
have completed (R269, R276). -/
def State.closeBlobs (s : State) (line : Nat) (closing done : List Blob) : State :=
  let s1 : State := { s with seg := { s.seg with
    waits := s.seg.waits ++ (closing.filter s.atJoin).map (fun b => { blob := { b with runs := [] }, since := line }) } }
  s1.completeAll (done ++ closing.filter (fun b => !s.atJoin b))

/-- The blobs that wait and whose joins are complete by a line: every PARTIAL announced has come, or the far-side seam is stitched no longer and
none is awaited (R276, R278). -/
def State.readyWaits (s : State) (line : Nat) : List Blob :=
  (s.seg.waits.filter (fun w => decide (w.since < line) && (w.blob.joins.all (fun j => j.2.isSome) || !s.joined roleFar))).map (fun w => w.blob)

/-- Those blobs wait no longer. -/
def State.dropWaits (s : State) (bs : List Blob) : State :=
  { s with seg := { s.seg with waits := s.seg.waits.filter (fun w => !bs.contains w.blob) } }

/-- A change to the blob of a number, open or waiting. -/
def State.mapBlob (s : State) (id : Nat) (f : Blob → Blob) : State :=
  { s with seg := { s.seg with
    blobs := s.seg.blobs.map (fun b => if b.id = id then f b else b)
    waits := s.seg.waits.map (fun w => if w.blob.id = id then { w with blob := f w.blob } else w) } }

/-- The neighbour's summary of a role for a line (R178, R275). -/
def State.summaryFor (s : State) (role line : Nat) : Option EdgeSummary := s.seg.summaries.find? (fun m => m.role == role && m.line == line)

/-- The contacts at a join found when a line is labelled: the neighbour's edge pixel on the line before against the own edge pixels of
the three lines around it (R275, R276). -/
def State.joinContacts (s : State) (role line prev : Nat) : State :=
  if !s.joined role then s
  else
    match s.summaryFor role prev with
    | none => s
    | some m =>
      if !m.pixel then s
      else
        let ids := s.seg.edges.filterMap (fun e => if e.1 = role ∧ line ≤ e.2.1 + 2 then e.2.2 else none)
        ids.foldl (fun (t : State) i =>
          if role = roleOp then t.mapBlob i (fun b => { b with touched := true })
          else if m.joinId = 0xFFFF then t
          else t.mapBlob i (fun b => if b.joins.any (fun j => j.1 == m.joinId) then b
            else { b with joins := b.joins ++ [(m.joinId, none)] })) s

/-- A join id given to the blob that holds the edge pixel at the operator-side join (R276). DEDUCED: it is given with the blob's first
edge pixel, so that the summary of a line can carry it. -/
def State.giveJoinId (s : State) (id : Nat) : State :=
  match s.seg.blobs.find? (fun b => b.id == id) with
  | some b =>
    if b.joinId.isSome then s
    else { s.mapBlob id (fun b => { b with joinId := some (s.seg.nextJoin % 65535) }) with
      seg := { (s.mapBlob id (fun b => { b with joinId := some (s.seg.nextJoin % 65535) })).seg with nextJoin := s.seg.nextJoin + 1 } }
  | none => s

/-- The blob-edge summary of a line for a role, with up to 16 of its events (R275). -/
def State.sendSummary (s : State) (role lp : Nat) (edge : Option Nat) (inspected : Bool) : State :=
  if !s.joined role then s
  else
    let mine := (s.seg.events.filter (fun e => e.1 == role)).take 16
    let jid := ((edge.bind (fun i => s.seg.blobs.find? (fun b => b.id == i))).bind (fun b => b.joinId)).getD 0xFFFF
    let ack := if role = roleFar then s.seg.acks.head?.getD 0xFFFF else 0xFFFF
    let head := leBytes 8 lp ++ leBytes 1 (bitNat edge.isSome + 2 * bitNat inspected) ++ leBytes 1 mine.length ++
      leBytes 2 (if role = roleOp then jid else 0xFFFF) ++ leBytes 2 ack ++ leBytes 2 0
    let s1 : State := { s with seg := { s.seg with
      events := mine.foldl (fun es e => es.erase e) s.seg.events, acks := if role = roleFar then s.seg.acks.drop 1 else s.seg.acks } }
    s1.braidSend role msgBlobEdge (head ++ mine.flatMap (fun e => e.2))

/-- PARTIALs that no acknowledgement has come for are reported by this device itself once no port of the seam is up (R277). -/
def State.reclaimPartials (s : State) : State :=
  if s.joined roleOp && (s.rolePorts roleOp).any s.braidUp then s
  else if s.seg.sent = [] then { s with seg := { s.seg with events := s.seg.events.filter (fun e => e.1 != roleOp) } }
  else
    let s1 : State := { s with seg := { s.seg with sent := [], events := s.seg.events.filter (fun e => e.1 != roleOp) } }
    (s.seg.sent.foldl (fun (t : State) e =>
      t.report (partialSum e.2 (t.rd Ix.stxColumnBase 0)) (partialFlags e.2 ||| bfSplit) 0 ((partialFlags e.2).testBit 2)) s1).setBit
      Ix.segDetectionStatus 0 sdDuplicate

/-- A PARTIAL from the far-side neighbour: it completes the blob that touches its join id, or, late, is reported alone and acknowledged (R276,
R277). -/
def State.takePartial (s : State) (p : Octets) : State :=
  let id := leAt p 2 2
  let holds (b : Blob) : Bool := b.joins.any (fun j => j.1 == id && j.2.isNone)
  let fill (b : Blob) : Blob := { b with joins := b.joins.map (fun j => if j.1 = id ∧ j.2 = none then (id, some p) else j) }
  if s.seg.blobs.any holds || s.seg.waits.any (fun w => holds w.blob) then
    { s with seg := { s.seg with blobs := s.seg.blobs.map fill, waits := s.seg.waits.map (fun w => { w with blob := fill w.blob }) } }
  else
    ({ s with seg := { s.seg with acks := s.seg.acks ++ [id] } } : State).report (partialSum p s.farBase) (partialFlags p ||| bfSplit)
      (s.segmentsInUse - 1) ((partialFlags p).testBit 2)

/-- The events of a summary (R275): MERGE renames a join id, PARTIAL completes one. -/
def State.summaryEvents (s : State) (bs : Octets) : Nat → State
  | 0 => s
  | n + 1 =>
    if octAt bs 0 = 3 then (s.takePartial (bs.take 112)).summaryEvents (bs.drop 112) n
    else
      let a := leAt bs 2 2
      let b := leAt bs 4 2
      let fix (x : Blob) : Blob :=
        if x.joins.any (fun j => j.1 == b) then { x with joins := x.joins.filter (fun j => j.1 != a) }
        else { x with joins := x.joins.map (fun j => if j.1 = a then (b, j.2) else j) }
      let t : State := if octAt bs 0 = 1 then { s with seg := { s.seg with
        blobs := s.seg.blobs.map fix, waits := s.seg.waits.map (fun w => { w with blob := fix w.blob }) } } else s
      t.summaryEvents (bs.drop 8) n

/-- A summary that a local line matches is used: its edge, its acknowledgement and its events (R178, R275 to R277). -/
def State.summaryUse (s : State) (role : Nat) (p : Octets) : State :=
  let x : EdgeSummary := { role := role, line := leAt p 0 8 / 65536, pixel := (octAt p 8).testBit 0, joinId := leAt p 0x0A 2 }
  let t : State := { s with seg := { s.seg with
    summaries := (x :: s.seg.summaries).take 64
    sent := if role = roleOp then s.seg.sent.filter (fun e => leAt e.2 2 2 != leAt p 0x0C 2) else s.seg.sent } }
  t.summaryEvents (p.drop 16) (octAt p 9)

/-- Whether a drain has its last line labelled (R286). -/
def State.segOver (s : State) : Bool :=
  s.drains .seg && s.seg.held == [] && s.seg.stopStrip.any (fun k => s.seg.next.any (fun l => decide ((k + 1) * s.strip ≤ l)))

/-- A summary is matched to the local line of the same number (R178): used where the LPs fit, else LP_MISMATCH; kept where the line is still to
come. DESIGN CHOICE: once a drain has its last line, what the neighbour sends of later lines is used unmatched. -/
def State.summaryArrives (s : State) (role : Nat) (p : Octets) : State :=
  let line := leAt p 0 8 / 65536
  match s.seg.taken.find? (fun t => t.1 == line) with
  | some t => if s.lpMatches (leAt p 0 8) t.2 then s.summaryUse role p else s.setBit Ix.stxStitchStatus 0 ssLpMismatch
  | none =>
    if !(s.seg.next.any (fun n => decide (n ≤ line))) then s
    else if s.segOver then s.summaryUse role p
    else { s with seg := { s.seg with early := s.seg.early ++ [(role, p)] } }

/-- The summaries that came before a line was taken are matched to it (R178). -/
def State.matchEarly (s : State) (line : Nat) : State :=
  let at_ (e : Nat × Octets) : Nat := leAt e.2 0 8 / 65536
  (s.seg.early.filter (fun e => at_ e == line)).foldl (fun (t : State) e => t.summaryArrives e.1 e.2)
    { s with seg := { s.seg with early := s.seg.early.filter (fun e => decide (line < at_ e)) } }

/-- After a drain's last line: events and acknowledgements still go out, in summaries of the lines that would have followed. DESIGN CHOICE: R275
sends a summary with each labelled line, and R286 gives the PARTIALs of a drain's end no line. -/
def State.sendClosings (s : State) (role lp : Nat) : Nat → State
  | 0 => s
  | n + 1 =>
    if !s.joined role || (!(s.seg.events.any (fun e => e.1 == role)) && (role != roleFar || s.seg.acks == [])) then s
    else
      let t : State := { s with seg := { s.seg with closings := s.seg.closings + 1 } }
      (t.sendSummary role (lp + 65536 * t.seg.closings) none false).sendClosings role lp n

/-- What the joins still do after a drain's last line (R276, R286): once the stitched neighbours' summaries of that line have come, the contacts on
it are made and the blobs whose joins are complete leave; then events and acknowledgements are sent. -/
def State.drainJoins (s : State) : State :=
  match s.seg.labelled with
  | none => s
  | some (l, lp) =>
    if !s.segOver then s
    else
      let heard (role : Nat) : Bool := !s.joined role || (s.summaryFor role l).isSome
      let s1 := (s.joinContacts roleOp (l + 1) l).joinContacts roleFar (l + 1) l
      let ready := if heard roleOp && heard roleFar then s1.readyWaits (l + 1) else []
      let s2 := (s1.dropWaits ready).completeAll ready
      let n := s2.seg.events.length + s2.seg.acks.length
      ((s2.sendClosings roleOp lp n).sendClosings roleFar lp n).showContexts

/-- The next blob-edge summary received at a port is taken (R275 to R277). -/
def State.summaryReceive (s : State) (n : Fin 4) : State :=
  let (s1, m) := s.takeMessage n msgBlobEdge
  match m with
  | none => s1
  | some p =>
    let role := s1.role n
    let lp := leAt p 0 8
    if !s1.joined role || !s1.firstCopy role msgBlobEdge lp || !(s1.runs .seg || s1.drains .seg) then s1
    else ((s1.copyUsed role msgBlobEdge lp).summaryArrives role p).drainJoins

/-- The wait for PARTIALs runs out: blobs that have waited Partial wait lines are reported alone (R277). -/
def State.partialsLate (s : State) : State :=
  match s.seg.next with
  | none => s
  | some n =>
    let late := (s.seg.waits.filter (fun w => decide (w.since + s.rd Ix.segPartialWait 0 + 3 ≤ n) &&
      w.blob.joins.any (fun j => j.2.isNone))).map (fun w => w.blob)
    if late = [] then s
    else (((s.dropWaits late).completeAll late).setBit Ix.segDetectionStatus 0 sdPartialLate).showContexts

/-! ### A line labelled -/

/-- The first line that the engine serving a segment has seen of it: earlier lines are background to a spare (R284, R285). -/
def State.viewFrom (s : State) (k : Nat) : Nat :=
  match (List.finRange 4).find? (fun i => s.engineOf k == some (32 + i.val)) with
  | some i => (s.seg.spares[i]).view.getD 0
  | none => 0

/-- A segment's columns of a mask. -/
def segColumns (k : Nat) (mask : List Bool) : List Bool := (mask.drop (k * segWidth)).take segWidth

/-- The engine that shadows for a spare: itself, or at a hand-back the engine that it replaced (R283). -/
def State.shadowEngine (s : State) (i : Fin 4) : Option Nat :=
  let st := s.rd Ix.segSpareState (i.val + 1)
  if st = 2 then some (32 + i.val) else if st = 4 then (s.seg.spares[i]).replaced else none

/-- A shadow's runs on a line are compared with the serving engine's: `maskFrom` gives the mask as an engine forms it that has seen the lines from
one on (R283). DEDUCED: lines before the shadowing began are background to the shadow, as R285 says of a spare that serves at once. -/
def State.compareShadow (s : State) (line : Nat) (maskFrom : Nat → List Bool) (i : Fin 4) : State :=
  match s.shadowEngine i, (s.seg.spares[i]).shadowFrom with
  | some e, some b =>
    let m := s.rd Ix.segSpareTarget (i.val + 1)
    if s.rd Ix.segEngineState (e + 1) = 3 ∧ b ≤ line ∧ (s.engineOf m).isSome ∧
        segColumns m (maskFrom b) ≠ segColumns m (maskFrom (s.viewFrom m)) then
      (s.bump Ix.segShadowMismatchLines (i.val + 1) 1).setBit Ix.segDetectionStatus 0 sdMismatch
    else s
  | _, _ => s

/-- The runs of a line by segments that have an engine, and the segments without one (R263, R285). -/
def State.lineRuns (s : State) (mask : List Bool) : List (Nat × Nat) × Nat :=
  (List.range s.segmentsInUse).foldl (fun (acc : List (Nat × Nat) × Nat) k =>
    match s.engineOf k with
    | some _ => (acc.1 ++ runsFrom (k * segWidth) none (segColumns k mask), acc.2)
    | none => (acc.1, acc.2 ||| 2 ^ k)) ([], 0)

/-- The runs counted to their engines (R289). -/
def State.countRuns (s : State) (runs : List (Nat × Nat)) : State :=
  runs.foldl (fun (t : State) r =>
    match t.engineOf (r.1 / segWidth) with
    | some e => (t.bump Ix.segRunsLabelled (e + 1) 1).tally 0x30 e 1
    | none => t) s

/-- Runs that found no context: dropped pixels, the strip's figures, OVERFLOW once per strip (R271). -/
def State.countDrops (s : State) (drops : List (Nat × Nat)) : State :=
  if drops = [] then s
  else
    let n := (drops.map (fun r => r.2 - r.1 + 1)).sum
    let base := s.rd Ix.stxColumnBase 0
    let s1 := ((s.tally 0x32 0 drops.length).bump Ix.segDroppedPixels 0 n).setBit Ix.segDetectionStatus 0 sdOverflow
    let s2 := if s.seg.overflowed then s1 else s1.cross (eventCode 15 0 0) none (((drops.head?).map (fun r => r.1 / segWidth)).getD 0)
    { s2 with seg := { s2.seg with
      overflowed := true, stripDropped := s2.seg.stripDropped + n
      stripMin := drops.foldl (fun m r => min m (base + r.1)) s2.seg.stripMin
      stripMax := drops.foldl (fun m r => max m (base + r.2)) s2.seg.stripMax } }

/-- The strip summary goes to CLS after the strip's last line, and the strip's figures start again (R282). -/
def State.endSegStrip (s : State) (strip : Nat) (truncated : Bool) : State :=
  let g := s.seg
  let t := (s.segRecord false (stripSummary strip g.stripDropped g.stripSat g.stripHigh g.stripMin g.stripMax g.stripUnseen truncated)).sample 5 0
    g.stripHigh (some (strip * s.strip * 65536, s.stamp))
  { t with seg := { t.seg with stripDropped := 0, stripSat := 0, stripHigh := t.contexts, stripMin := 0xFFFFFFFF, stripMax := 0,
                               stripUnseen := 0, overflowed := false } }

/-! ### Spare engines -/

/-- A spare's state and bookkeeping (R283). -/
def State.setSegSpare (s : State) (i : Fin 4) (st : Nat) (x : SegSpare) : State :=
  let t : State := { s.wr Ix.segSpareState (i.val + 1) st with seg := { s.seg with spares := s.seg.spares.set i x } }
  { t with seg := { t.seg with spares := s.seg.spares.set i x } }

/-- An engine's state and segment shown (R289). -/
def State.setEngine (s : State) (e st seg : Nat) : State := (s.wr Ix.segEngineState (e + 1) st).wr Ix.segLogicalSegment (e + 1) seg

/-- The engine of a spare. -/
abbrev spareEngine (i : Fin 4) : Nat := 32 + i.val

/-- A write of Spare target (R144, R283). -/
def State.segSpareTarget (s : State) (i : Fin 4) (m : Nat) : State × Code :=
  if s.rd Ix.segSpareState (i.val + 1) ≠ 0 ∨ s.rd Ix.segEngineState (spareEngine i + 1) ≠ 0 then (s, .busy)
  else if m = 255 then (s.wr Ix.segSpareTarget (i.val + 1) 255, .ok)
  else if (List.finRange 4).any (fun j => j != i && s.rd Ix.segSpareState (j.val + 1) != 0 && s.rd Ix.segSpareTarget (j.val + 1) == m) then
    (s, .busy)
  else (((s.wr Ix.segSpareTarget (i.val + 1) m).setSegSpare i 1 {}).setEngine (spareEngine i) 2 m, .ok)

/-- A spare's loading ends (R283). -/
def State.segSpareLoaded (s : State) (i : Fin 4) : State :=
  let st := s.rd Ix.segSpareState (i.val + 1)
  if st = 1 ∨ st = 4 then s.setSegSpare i st { s.seg.spares[i] with loaded := true } else s

/-- TAKE_OVER of a spare engine (R144, R283). -/
def State.segTakeOver (s : State) (i : Fin 4) : State × Code :=
  let st := s.rd Ix.segSpareState (i.val + 1)
  if st = 1 ∨ st = 2 then (s.setSegSpare i st { s.seg.spares[i] with takeOver := true }, .ok) else (s, .wrongState)

/-- HAND_BACK of a spare engine: the engine that was replaced loads and shadows, if it is idle (R283). -/
def State.segHandBack (s : State) (i : Fin 4) : State × Code :=
  let x := s.seg.spares[i]
  match x.replaced with
  | some e =>
    if s.rd Ix.segSpareState (i.val + 1) = 3 ∧ s.rd Ix.segEngineState (e + 1) = 0 then
      ((s.setSegSpare i 4 { replaced := some e, view := x.view }).setEngine e 2 (s.rd Ix.segSpareTarget (i.val + 1)), .ok)
    else (s, .wrongState)
  | none => (s, .wrongState)

/-- RELEASE of a spare engine (R283). -/
def State.segRelease (s : State) (i : Fin 4) : State × Code :=
  let st := s.rd Ix.segSpareState (i.val + 1)
  if st = 1 ∨ st = 2 then ((s.setSegSpare i 0 {}).setEngine (spareEngine i) 0 255, .ok) else (s, .wrongState)

/-- A spare serves its segment from a line on, in place of an engine (R284, R285); it has seen the segment's lines since its shadowing began. -/
def State.segServes (s : State) (i : Fin 4) (line : Nat) (old : Option Nat) (idle : Bool) : State :=
  let m := s.rd Ix.segSpareTarget (i.val + 1)
  let s1 := match old with
    | some e => if idle then s.setEngine e 0 255 else s
    | none => s
  let view := (s.seg.spares[i]).shadowFrom.getD line
  let s2 := (s1.setSegSpare i 3 { loaded := true, replaced := old, view := some view }).setEngine (spareEngine i) 1 m
  ((s2.wr Ix.segTakeOverLine (i.val + 1) line).bump Ix.segTakeOverCount 0 1).cross (eventCode 15 0 3) none m

/-- Whether an engine is faulted. -/
def State.engineBad (s : State) (e : Nat) : Bool := s.rd Ix.segEngineState (e + 1) == 4

/-- The engine that last served a segment which none serves now: a faulted one, or one that CLEAR has returned to idle since (R283, R285). -/
def State.lostEngine (s : State) (m : Nat) : Option Nat :=
  ((List.range 36).find? (fun e => s.engineBad e && s.rd Ix.segLogicalSegment (e + 1) == m)).or
    ((s.seg.cleared.find? (fun c => c.1 == m)).map (fun c => c.2))

/-- What a strip boundary means for a spare engine (R283 to R285). A faulted engine takes part in none of it until it is cleared. -/
def State.segSpareBoundary (s : State) (line : Nat) (i : Fin 4) : State :=
  let st := s.rd Ix.segSpareState (i.val + 1)
  let x := s.seg.spares[i]
  let m := s.rd Ix.segSpareTarget (i.val + 1)
  let since := x.shadowFrom.any (fun b => decide (b + s.strip ≤ line))
  let bad := s.engineBad (spareEngine i)
  let entry (t : State) : State := t.wr Ix.segShadowMismatchLines (i.val + 1) 0
  if st = 1 ∧ x.loaded ∧ !bad then
    match s.engineOf m with
    | some _ => entry ((s.setSegSpare i 2 { x with shadowFrom := some line }).setEngine (spareEngine i) 3 m)
    | none => s.segServes i line (s.lostEngine m) false
  else if st = 2 ∧ x.takeOver ∧ since ∧ !bad then s.segServes i line (s.engineOf m) true
  else if st = 4 ∧ x.loaded then
    match x.shadowFrom, x.replaced with
    | none, some e => entry ((s.setSegSpare i 4 { x with shadowFrom := some line }).setEngine e 3 m)
    | some _, some e =>
      if since then
        let t := s.setSegSpare i 0 {}
        let s1 := (if bad then t else t.setEngine (spareEngine i) 0 255).setEngine e 1 m
        (s1.wr Ix.segTakeOverLine (i.val + 1) line).cross (eventCode 15 0 4) none m
      else s
    | _, _ => s
  else s

/-- The number of the next line to be labelled. -/
def State.nextLabel (s : State) : Nat := s.seg.next.getD 0 - (s.seg.held.length - s.seg.done)

/-- An engine meets an uncorrectable error (R285, R287): the spare that shadows it serves from the next line to be labelled, and one that shadows
its own spare for a hand-back gives that up (DESIGN CHOICE: the spare goes on serving). -/
def State.engineFaults (s : State) (e cause : Nat) : State :=
  let m := s.rd Ix.segLogicalSegment (e + 1)
  let was := s.rd Ix.segEngineState (e + 1)
  let s1 := ((s.wr Ix.segEngineState (e + 1) 4).wr Ix.segEngineFaultCause (e + 1) cause).setBit Ix.segDetectionStatus 0 sdEngineFault
  let s2 := s1.cross (eventCode 15 0 2) none e
  let shadows (i : Fin 4) : Bool := s.rd Ix.segSpareState (i.val + 1) == 2 && s.rd Ix.segSpareTarget (i.val + 1) == m && !s.engineBad (32 + i.val)
  let returns (i : Fin 4) : Bool := s.rd Ix.segSpareState (i.val + 1) == 4 && (s.seg.spares[i]).replaced == some e
  match (List.finRange 4).find? returns with
  | some i => s2.setSegSpare i 3 { loaded := true, replaced := some e, view := (s.seg.spares[i]).view }
  | none =>
    match (List.finRange 4).find? shadows with
    | some i => if was = 1 ∧ s.rd Ix.segFaultTakeOver 0 = 1 then s2.segServes i s.nextLabel (some e) false else s2
    | none => s2

/-- CLEAR of a faulted engine returns it to idle (R285). DESIGN CHOICE: a spare whose own engine is cleared returns to idle too, and an engine that
shadowed it for a hand-back with it. -/
def State.engineClear (s : State) (e : Fin 36) : State × Code :=
  if s.engineBad e.val then
    let m := s.rd Ix.segLogicalSegment (e.val + 1)
    let t := (s.setEngine e.val 0 255).wr Ix.segEngineFaultCause (e.val + 1) 0
    match (List.finRange 4).find? (fun i => spareEngine i == e.val) with
    | some i =>
      let u := t.setSegSpare i 0 {}
      (match s.rd Ix.segSpareState (i.val + 1), (s.seg.spares[i]).replaced with
        | 4, some k => u.setEngine k 0 255
        | _, _ => u, .ok)
    | none => ({ t with seg := { t.seg with cleared := (m, e.val) :: t.seg.cleared.filter (fun c => c.1 != m) } }, .ok)
  else (s, .wrongState)

/-- The engines that BST returns to service serve their segments from a strip boundary on (R513). -/
def State.segReturns (s : State) : State :=
  s.seg.returning.foldl (fun (t : State) e => t.setEngine e.1 1 e.2) { s with seg := { s.seg with returning := [] } }

/-! ### Labelling a line -/

/-- A line of a strip's beginning is about to be labelled: spares and returned engines change what they serve (R284, R513). -/
def State.segBoundary (s : State) (line : Nat) : State :=
  if line % s.strip = 0 then (List.finRange 4).foldl (fun (t : State) i => t.segSpareBoundary line i) s.segReturns else s

/-- A held line is labelled: runs, seams, joins, then the close decisions (R267 to R276). `i` is its place among the held lines. -/
def State.labelLine (s : State) (i : Nat) (l : SegLine) : State :=
  let width := l.cand.length
  let near (o : Nat) : Option SegLine := if i + o < 2 then none else s.seg.held[i + o - 2]?
  let background := List.replicate width false
  let candAt (since o : Nat) : List Bool := match near o with
    | some x => if since ≤ x.line then x.cand else background
    | none => background
  let maskFrom (since : Nat) : List Bool := blobMask l ((List.range 5).map (candAt since))
  let mask := (List.range s.segmentsInUse).flatMap (fun k => segColumns k (maskFrom (s.viewFrom k)))
  let s := (List.finRange 4).foldl (fun (t : State) j => t.compareShadow l.line maskFrom j) s
  let (runs, unseen) := s.lineRuns mask
  let dead (b : Blob) : Bool := b.runs.any (fun r => unseen.testBit (r.1 / segWidth))
  let ctx : LabelCtx := { l := l, base := s.rd Ix.stxColumnBase 0, supps := [1, 2, 3].map (fun o => ((near o).map (fun x => x.supp)).getD []),
                          cam := fun c => ownerCam s.stx.places c }
  let k0 : Labels := { blobs := s.seg.blobs, runs := [], drops := [], next := s.seg.nextBlob, renamed := [], merges := [], peak := 0 }
  let k1 := runs.foldl (fun k r => k.label ctx s.seg.cont s.heldSegments (s.rd Ix.segSegmentContextLimit 0) r) k0
  let k2 := (List.range (s.segmentsInUse - 1)).foldl (fun k j => k.seam (j * segWidth + segWidth - 1)) k1
  let now (id : Nat) : Nat := ((k2.renamed.find? (fun n => n.1 == id)).map (fun n => n.2)).getD id
  let dropNear (b : Blob) (mine : List (Nat × Nat)) : Bool :=
    mine.any (fun r => s.seg.drops.any (runsTouch r) || k2.drops.any (runsTouch r)) || b.runs.any (fun r => k2.drops.any (runsTouch r))
  let blobs := k2.blobs.map (fun b =>
    let mine := (k2.runs.filter (fun r => r.1 == b.id)).map (fun r => r.2)
    (b, mine, { b with runs := mine, flags := b.flags ||| (bfDropNear * bitNat (dropNear b mine)) ||| (bfTruncated * bitNat (dead b)) }))
  let long (b : Blob) : Bool := decide (l.maxLen ≤ b.m.line1 - b.m.line0 + 1)
  let stays := blobs.filter (fun x => x.2.1 != [] && !long x.2.2 && !dead x.1)
  let goes := blobs.filter (fun x => !(x.2.1 != [] && !long x.2.2 && !dead x.1))
  let forced := goes.filter (fun x => x.2.1 != [] && !dead x.1)
  let edgeId (role : Nat) : Option Nat :=
    (k2.runs.find? (fun r => decide (r.2.1 ≤ s.edgeColumn role ∧ s.edgeColumn role ≤ r.2.2))).map (fun r => r.1)
  let edges := ([roleOp, roleFar].map (fun r => (r, l.line, edgeId r)) ++
    s.seg.edges.map (fun e => (e.1, e.2.1, e.2.2.map now))).filter (fun e => decide (l.line ≤ e.2.1 + 2))
  let sat := (List.range width).countP (fun c =>
    l.cand.getD c false && (l.cols.getD c ⟨0, 0, 0⟩).f.testBit 0 && !unseen.testBit (c / segWidth))
  let s1 : State := { s with seg := { s.seg with
    blobs := k2.blobs.map (fun b => ((blobs.find? (fun x => x.1.id == b.id)).map (fun x => x.2.2)).getD b)
    minArea := l.minArea, nextBlob := k2.next, drops := k2.drops, edges := edges, cont := forced.flatMap (fun x => x.2.1)
    stripSat := s.seg.stripSat + sat, stripUnseen := s.seg.stripUnseen ||| unseen
    events := s.seg.events ++ k2.merges.map (fun m => (roleOp, leBytes 1 1 ++ leBytes 1 0 ++ leBytes 2 m.1 ++ leBytes 2 m.2 ++ leBytes 2 0)) } }
  let s2 := ((s1.countRuns runs).countDrops k2.drops).contextPeak (k1.peak + s.heldSegments.length)
  let s3 := match edgeId roleOp with
    | some id => if s2.joined roleOp then s2.giveJoinId id else s2
    | none => s2
  let s4 := match s.seg.labelled with
    | some (prev, _) => if prev + 1 = l.line then (s3.joinContacts roleOp l.line prev).joinContacts roleFar l.line prev else s3
    | none => s3
  let s5 := (s4.sendSummary roleOp l.lp (edgeId roleOp) true).sendSummary roleFar l.lp (edgeId roleFar) true
  let closing := (goes.map (fun x => x.1.id)).filterMap (fun id => s5.seg.blobs.find? (fun b => b.id == id))
  let isForced (b : Blob) : Bool := forced.any (fun x => x.1.id == b.id)
  let s6 : State := { s5 with seg := { s5.seg with
    labelled := some (l.line, l.lp), blobs := s5.seg.blobs.filter (fun b => stays.any (fun x => x.1.id == b.id)) } }
  let ready := s6.readyWaits l.line
  let s8 := (s6.dropWaits ready).closeBlobs l.line
    (closing.map (fun b => { b with flags := b.flags ||| (bfContNext * bitNat (isForced b)) })) ready
  let s9 := (s8.bump Ix.segForceClosedBlobs 0 forced.length).reclaimPartials
  let s10 := s9.showContexts
  if (l.line + 1) % s.strip = 0 then s10.endSegStrip (l.line / s.strip) false else s10

/-- The held line of a place is labelled. -/
def State.labelAt (s : State) (i : Nat) : State :=
  match s.seg.held[i]? with
  | none => s
  | some l => (s.segBoundary l.line).labelLine i l

/-- The lines held in morphology move on: a line is labelled once the two after it have come, and the two labelled lines before the next
stay held (R267). -/
def State.segAdvance (s : State) (flush : Bool) : Nat → State
  | 0 => s
  | n + 1 =>
    let d := s.seg.done
    if d < s.seg.held.length ∧ (flush ∨ d + 2 < s.seg.held.length) then
      let s1 := s.labelAt d
      let (held, done) := if 2 ≤ d then (s1.seg.held.drop 1, d) else (s1.seg.held, d + 1)
      ({ s1 with seg := { s1.seg with held := held, done := done } }).segAdvance flush n
    else s

/-! ### Lines in -/

/-- A drain's last line has been taken (R286): the held lines are labelled, and every open blob, which has a run on the last line, closes
TRUNCATED. -/
def State.segFinish (s : State) : State :=
  let s1 := s.segAdvance true s.seg.held.length
  let s2 : State := { s1 with seg := { s1.seg with blobs := [], held := [], done := 0, cont := [] } }
  let s3 := s2.closeBlobs (s.seg.next.getD 1 - 1) (s1.seg.blobs.map (fun b => { b with flags := b.flags ||| bfTruncated })) []
  (s3.showContexts.clearBit Ix.segDetectionStatus 0 sdSettling).drainJoins

/-- SEG takes a line: D, dL and flags by column, and the samples that the running reference takes, none with source 0 (R260 to R267). A line
with every column MISSING leaves the reference as it is, the first one too (R262). -/
def State.segTake (s : State) (line lp time page : Nat) (cols : List DevCol) (samples : Option (List (List Nat))) : State :=
  let wanted := s.runs .seg || (s.drains .seg && s.seg.stopStrip.any (fun k => decide (line / s.strip ≤ k)))
  if !wanted || !(s.seg.next.all (fun n => decide (n ≤ line))) then s.discard .seg 1
  else
    let s0 := if line % s.strip = 0 then s.segForce else s
    let space := s0.rd Ix.iplOutputSpace 0
    let moving := s0.rd Ix.segReferenceMode 0 == 1
    let ref : List (List Nat) := match samples with
      | some vss =>
        if s0.seg.ref = [] ∧ !cols.all (fun c => c.f.testBit 4) then vss.map (fun (vs : List Nat) => vs.map (fun v => v * 256)) else s0.seg.ref
      | none => []
    let cols' := match samples with
      | some vss =>
        (cols.zip vss).mapIdx (fun c x =>
          let r := if moving then refSample (ref.getD c []) else u16s (s0.rdfo Ix.segReferenceSample 0)
          let (d, dl) := referenceDeviation space (s0.rdfo Ix.segChannelWeights 0) x.2 r
          (⟨d, dl, x.1.f⟩ : DevCol))
      | none => cols
    let settling := samples.isSome && moving && decide (s0.seg.settled < s0.rd Ix.segReferenceSettle 0)
    let cand := cols'.map (fun x => !settling && s0.candidate x)
    let supp := cols'.map s0.suppressed
    let ref' : List (List Nat) := match samples with
      | some vss => (ref.zip vss).mapIdx (fun c (x : List Nat × List Nat) =>
          if cand.getD c false || supp.getD c false then x.1 else refStep (s0.rd Ix.segReferenceTimeConstant 0) x.1 x.2)
      | none => []
    let x : SegLine :=
      { line := line, lp := lp, time := time, page := page, index := line % s.strip, cols := cols', cand := cand,
        strong := cols'.map (fun x => !settling && s0.strongCandidate x), supp := supp, morph := s0.rdf Ix.segMorphology 0,
        element := s0.rdf Ix.segStructuringElement 0, minArea := s0.rdf Ix.segMinimumArea 0, maxLen := s0.rdf Ix.segMaximumBlobLength 0 }
    let s1 : State := { s0 with seg := { s0.seg with
      held := s0.seg.held ++ [x], ref := if moving then ref' else [], settled := s0.seg.settled + 1, next := some (line + 1)
      taken := ((line, lp) :: s0.seg.taken).take 64 } }
    let s2 := (s1.bump Ix.segLinesInspected 0 1).putBit Ix.segDetectionStatus 0 sdSettling
      (samples.isSome && moving && decide (s1.seg.settled < s1.rd Ix.segReferenceSettle 0))
    let s3 := s2.matchEarly line
    if s.seg.stopStrip.any (fun k => decide (line + 1 = (k + 1) * s.strip)) then s3.segFinish else s3.segAdvance false s3.seg.held.length

/-- A deviation line reaches SEG, with input source 0 (R260). -/
def State.segDeviation (s : State) (x : DevLine) : State :=
  if s.rd Ix.segInputSource 0 = 0 then s.segTake x.head.line x.head.lp x.head.time x.page x.cols none else s

/-- A stitched line reaches SEG, with input source 1 (R260, R261). -/
def State.segStitched (s : State) (x : Stitched) : State :=
  if s.rd Ix.segInputSource 0 = 1 then
    s.segTake x.line x.lp x.time 0 (x.cols.map (fun c => ⟨0, 0, c.f⟩)) (some (x.cols.map (fun c => c.vs)))
  else s

/-- No line has come for the Idle close timeout: every open blob closes (R273). -/
def State.idleClose (s : State) : State :=
  if s.runs .seg && s.rd Ix.segIdleCloseTimeout 0 != 0 then
    let open_ := s.seg.blobs
    let s1 : State := { s with seg := { s.seg with blobs := [], cont := s.seg.cont ++ open_.flatMap (fun b => b.runs) } }
    let s2 := s1.closeBlobs ((s.seg.labelled.map (fun x => x.1)).getD 0)
      (open_.map (fun b => { b with flags := b.flags ||| (bfStandstill ||| bfContNext) })) []
    let s3 := (s2.bump Ix.segForceClosedBlobs 0 open_.length).setBit Ix.segDetectionStatus 0 sdForceClosed
    (s3.cross (eventCode 15 0 1) none 0).showContexts
  else s

/-- The next record enters the FIFO to CLS where it has room, and frees its context (R270). -/
def State.enqueueRecord (s : State) : State :=
  match s.seg.records with
  | [] => s
  | (_, r) :: rest =>
    if 256 ≤ s.seg.fifo.length then s
    else
      let s1 : State := { s with seg := { s.seg with records := rest, fifo := s.seg.fifo ++ [r] } }
      (s1.raiseTo Ix.segRecordFIFOHighWater 0 s1.seg.fifo.length).showContexts

/-! ### States -/

/-- What ARM checks of SEG (R264). -/
def State.segArmable (s : State) : Bool :=
  decide (s.rd Ix.segLowThreshold 0 ≤ s.rd Ix.segHighThreshold 0) && (List.range s.segmentsInUse).all (fun k => (s.engineOf k).isSome)

/-- SEG enters Running at the strip that begins with a line, the pool empty (R262, R286). -/
def State.segStarts (s : State) (line : Nat) : State :=
  let t : State := { s with seg := { spares := s.seg.spares, returning := s.seg.returning, cleared := s.seg.cleared, fifo := s.seg.fifo, records := s.seg.records, minArea := s.rd Ix.segMinimumArea 0, next := some line } }
  ((({ t with brd := { t.brd with used := [] } } : State).wr Ix.segSegmentsInUse 0 s.segmentsInUse).putBit Ix.segDetectionStatus 0 sdSettling
    (s.rd Ix.segInputSource 0 == 1 && s.rd Ix.segReferenceMode 0 == 1 && decide (0 < s.rd Ix.segReferenceSettle 0))).showContexts

/-- STOP: the lines of the current strip are still inspected; where its last line has been taken already, the drain has its last line (R286). -/
def State.segStops (s : State) : State :=
  let k := s.seg.next.map (fun l => (l - 1) / s.strip)
  let t : State := { s with seg := { s.seg with stopStrip := k } }
  if k.any (fun k => s.seg.next.any (fun l => decide ((k + 1) * s.strip ≤ l))) then t.segFinish else t

/-- Whether SEG's drain has ended: every record and the summary are in the FIFO (R286). -/
def State.segDrained (s : State) : Bool :=
  s.seg.records == [] && s.seg.blobs == [] && s.seg.waits == [] && s.seg.held == [] && s.seg.events == [] &&
  match s.seg.stopStrip, s.seg.next with
  | some k, some l => decide ((k + 1) * s.strip ≤ l)
  | _, _ => true

/-- Drain timeout, ABORT or fault: open blobs close TRUNCATED, PARTIALs are discarded, the summary is TRUNCATED (R286). -/
def State.segTruncate (s : State) : State :=
  let open_ := s.seg.blobs ++ s.seg.waits.map (fun w => w.blob)
  let s1 : State := { s with seg := { s.seg with
    blobs := [], waits := [], held := [], done := 0, cont := [], events := [], sent := [], acks := [], early := [] } }
  let s2 := (s1.completeAll (open_.map (fun b => { b with touched := false, joins := [], flags := b.flags ||| bfTruncated }))).clearBit
    Ix.segDetectionStatus 0 sdSettling
  (s2.endSegStrip ((s.seg.next.getD 1 - 1) / s.strip) true).showContexts

end Sys2Proof.Machine
end

