-- ==== Sys2Proof/Machine/Bst.lean ====
section
/-! DEFINITION. Self-test and repair: rounds, online and offline tests, slices, soft repair and fuse repair (R504 to R518). -/

namespace Sys2Proof.Machine

/-! ### Units -/

/-- The bits of Self-test status (R520). -/
abbrev btRound : Nat := 0
abbrev btSpareHeld : Nat := 1
abbrev btTransient : Nat := 2
abbrev btUnitFailed : Nat := 3
abbrev btRepaired : Nat := 4
abbrev btSpareBusy : Nat := 5
abbrev btAborted : Nat := 6
abbrev btFuseFail : Nat := 8
abbrev btRepairFull : Nat := 9

/-- The outcomes of a unit (R520). -/
abbrev boPassed : Nat := 1
abbrev boRepaired : Nat := 2
abbrev boFailed : Nat := 3
abbrev boAborted : Nat := 4
abbrev boSkipped : Nat := 5

/-- The unit codes of an IPL pipeline and of a segment engine (R506). -/
abbrev unitIpl (m : Nat) : Nat := m
abbrev unitSeg (e : Nat) : Nat := 0x100 + e

/-- The slices of a unit's test, none where no unit has the code (R506). -/
def unitSlices (u : Nat) : Option Nat :=
  if u ≤ 16 then some 20
  else if 0x100 ≤ u ∧ u < 0x124 then some 8
  else if 0x200 ≤ u ∧ u < 0x220 then some 4
  else if 0x300 ≤ u ∧ u < 0x304 then some 4
  else if u = 0x400 then some 40
  else if u = 0x401 then some 16
  else if u = 0x402 then some 20
  else if u = 0x403 then some 4
  else if u = 0x404 then some 24
  else if u = 0x405 then some 8
  else if u = 0x406 then some 2
  else none

/-- The functions that hold a unit (R506). -/
def unitFns (u : Nat) : List Fn :=
  if u ≤ 16 then [.ipl (Fin.ofNat 17 u)]
  else if u < 0x200 then [.seg]
  else if u < 0x300 then [.cpt (Fin.ofNat 32 (u - 0x200))]
  else if u < 0x400 then [.brd (Fin.ofNat 4 (u - 0x300))]
  else if u = 0x400 then [.stx]
  else if u = 0x401 then [.mre]
  else if u = 0x402 then [.cde]
  else if u = 0x403 then [.cls]
  else if u = 0x404 then [.pfc]
  else if u = 0x405 then [.hrb, .dma]
  else [.psc, .evf]

/-- The spare rows or columns of a unit's RAMs, per RAM (R511). -/
def unitSpares (u : Nat) (isRow : Bool) : Nat :=
  if u ≤ 16 then (if isRow then 4 else 2)
  else if u = 0x400 then (if isRow then 8 else 2)
  else if isRow then 2 else 1

/-- The online units in ascending code (R506). -/
def onlineUnits : List Nat := (List.range 17).map unitIpl ++ (List.range 36).map unitSeg

/-- The bit of an online unit in the unit mask (R521). -/
def unitBit (u : Nat) : Nat := if u ≤ 16 then u else 17 + (u - 0x100)

/-- A repair table entry (R515): source, kind, unit, RAM, place. -/
def repairEntry (source kind unit ram place : Nat) : Octets :=
  leBytes 1 source ++ leBytes 1 kind ++ leBytes 2 unit ++ leBytes 2 ram ++ leBytes 2 place

/-- Whether a unit's load was given to a spare by fuse (R516): such a unit is never tested. -/
def State.substituted (s : State) (u : Nat) : Bool := s.bst.fused.any (fun e => octAt e 1 == 3 && leAt e 2 2 == u)

/-- The spares of a kind that a RAM of a unit has used (R511). -/
def State.repairsOf (s : State) (u ram kind : Nat) : Nat :=
  ((s.bst.soft ++ s.bst.fused).filter (fun e => octAt e 1 == kind && leAt e 2 2 == u && leAt e 4 2 == ram)).length

/-- A unit's account. -/
def State.bstUnit (s : State) (u : Nat) : BstUnit := storeGet {} s.bst.units u

/-- A unit's account replaced. -/
def State.setUnit (s : State) (u : Nat) (x : BstUnit) : State := { s with bst := { s.bst with units := storeSet {} s.bst.units u x } }

/-- The test under way replaced. -/
def State.setTest (s : State) (t : Option BstTest) : State := { s with bst := { s.bst with test := t } }

/-- A unit's outcome (R520): its stamp, and the test counts. -/
def State.outcome (s : State) (u code passed : Nat) : State :=
  (s.setUnit u { s.bstUnit u with outcome := code, passed := passed, time := s.stamp }).bump Ix.bstUnitsTested 0 1

/-! ### Spares -/

/-- A spare's state (R144, R283), by the spare: 16 or 32 + j. -/
def State.spareStateOf (s : State) (k : Nat) : Nat :=
  if k = 16 then s.rd Ix.iplSpareState 0 else s.rd Ix.segSpareState (k - 31)

/-- Whether a spare is idle for BST (R508, R512). -/
def State.spareIdle (s : State) (k : Nat) : Bool :=
  if k = 16 then s.rd Ix.iplSpareState 0 == 0 && decide (s.fn spareFn = .stopped) && !s.bst.failed.contains 16
  else s.rd Ix.segSpareState (k - 31) == 0 && s.rd Ix.segEngineState (k + 1) == 0 && !s.bst.failed.contains (unitSeg k)

/-- Whether a spare has met a fault (R513). -/
def State.spareBroken (s : State) (k : Nat) : Bool :=
  if k = 16 then decide (s.fn spareFn = .faulted) else s.rd Ix.segEngineState (k + 1) == 4

/-- Whether BST holds a spare: a session's write to its Spare target or Spare command is then refused (R508). -/
def State.bstHolds (s : State) (k : Nat) : Bool :=
  match s.bst.test with
  | some t => t.spare == some k || t.unit == (if k = 16 then 16 else unitSeg k)
  | none => false

/-- BST gives a spare the load of a unit as its target (R508). -/
def State.bstTarget (s : State) (k u : Nat) : State :=
  if k = 16 then s.spareTarget u
  else (s.segSpareTarget (Fin.ofNat 4 (k - 32)) (s.rd Ix.segLogicalSegment (u - 0x100 + 1))).1

/-- BST's TAKE_OVER and HAND_BACK (R508, R509). -/
def State.bstTakeOver (s : State) (k : Nat) : State := if k = 16 then s.takeOver.1 else (s.segTakeOver (Fin.ofNat 4 (k - 32))).1
def State.bstHandBack (s : State) (k : Nat) : State × Code := if k = 16 then s.handBack else s.segHandBack (Fin.ofNat 4 (k - 32))

/-- A SEG engine under test shows engine state 5, and 0 when it is not (R509). -/
def State.showUnderTest (s : State) (u : Nat) (testing : Bool) : State :=
  if 0x100 ≤ u ∧ u < 0x124 then
    let sub := u - 0x100 + 1
    if testing then s.wr Ix.segEngineState sub 5 else if s.rd Ix.segEngineState sub = 5 then s.wr Ix.segEngineState sub 0 else s
  else s

/-- The spare that serves a unit, if one does (R513). -/
def State.servedBy (s : State) (u : Nat) : Option Nat :=
  if u < 0x100 then (if u < 16 && s.spareServes u then some 16 else none)
  else ((List.finRange 4).find? (fun i => s.rd Ix.segSpareState (i.val + 1) == 3 && s.seg.spares[i].replaced == some (u - 0x100))).map
    (fun i => spareEngine i)

/-- Whether a unit is Faulted. -/
def State.unitFaulted (s : State) (u : Nat) : Bool :=
  if u ≤ 16 then decide (s.fn (.ipl (Fin.ofNat 17 u)) = .faulted) else s.rd Ix.segEngineState (u - 0x100 + 1) == 4

/-- BST's CLEAR of a unit (R513). -/
def State.clearUnit (s : State) (u : Nat) : State :=
  if u ≤ 16 then s.enter (.ipl (Fin.ofNat 17 u)) .stopped else (s.engineClear (Fin.ofNat 36 (u - 0x100))).1

/-! ### Tests -/

/-- A test begins: the unit, the spare BST holds, and the phase that Round state shows (R508, R509). -/
def State.beginTest (s : State) (t : BstTest) (phase : Nat) : State :=
  let held := t.spare.isSome || t.unit == 16 || (decide (0x120 ≤ t.unit) && decide (t.unit < 0x124))
  ((((s.setTest (some t)).wr Ix.bstRoundState 0 phase).wr Ix.bstUnitUnderTest 0 t.unit).putBit Ix.bstSelfTestStatus 0 btSpareHeld
    (held && !t.offline)).setBit Ix.bstSelfTestStatus 0 btRound

/-- The first slice of a test starts (R509). -/
def State.beginSlices (s : State) (t : BstTest) : State :=
  ((s.beginTest { t with step := .running } 3).showUnderTest t.unit true).bump Ix.bstSlicesRun 0 1

/-- BST has nothing under test. -/
def State.testGone (s : State) : State :=
  let t := match s.bst.test with
    | some x => s.showUnderTest x.unit false
    | none => s
  (((t.setTest none).wr Ix.bstRoundState 0 0).wr Ix.bstUnitUnderTest 0 0xFFFF).clearBit Ix.bstSelfTestStatus 0 btSpareHeld

/-- A round or an offline test has ended. -/
def State.roundOver (s : State) : State :=
  ({ s with bst := { s.bst with round := false, queue := [] } } : State).clearBit Ix.bstSelfTestStatus 0 btRound

/-- A unit's test ends with an outcome; an offline test that passes takes the unit off the failed list (R512). -/
def State.testEnds (s : State) (x : BstTest) (code : Nat) : State :=
  let t := (s.outcome x.unit code x.passed).testGone
  let t : State := if x.offline && (code == boPassed || code == boRepaired) then
      { t with bst := { t.bst with failed := t.bst.failed.filter (fun u => u != x.unit) } } else t
  if t.bst.round then t else t.roundOver

/-- A test is abandoned (R513, R517). -/
def State.testAborted (s : State) (x : BstTest) : State := (s.testEnds x boAborted).setBit Ix.bstSelfTestStatus 0 btAborted

/-- A unit is marked failed: the spare keeps serving it, and BST lets go of the spare (R512). -/
def State.unitFails (s : State) (x : BstTest) (ram : Nat) : State :=
  let s1 := (s.setUnit x.unit { s.bstUnit x.unit with ram := ram }).testEnds x boFailed
  let s2 : State := if s1.bst.failed.contains x.unit then s1 else { s1 with bst := { s1.bst with failed := s1.bst.failed ++ [x.unit] } }
  s2.setBit Ix.bstSelfTestStatus 0 btUnitFailed

/-- A unit that finds no idle spare is skipped (R508). -/
def State.skipUnit (s : State) (u : Nat) : State := (s.outcome u boSkipped 0).setBit Ix.bstSelfTestStatus 0 btSpareBusy

/-- The test of an online unit begins (R508, R509, R513). DEDUCED: an engine that serves no segment is skipped, as is a spare that is not
idle. -/
def State.startUnit (s : State) (u : Nat) : State :=
  match s.servedBy u with
  | some k =>
    if s.unitFaulted u && s.rd Ix.bstAutoRepair 0 == 1 then (s.clearUnit u).beginSlices { unit := u, spare := some k }
    else s.skipUnit u
  | none =>
    if u = 16 then (if s.spareIdle 16 then s.beginSlices { unit := u } else s.skipUnit u)
    else if u < 16 then (if s.spareIdle 16 then (s.bstTarget 16 u).beginTest { unit := u, spare := some 16 } 1 else s.skipUnit u)
    else if 0x120 ≤ u then (if s.spareIdle (u - 0x100) then s.beginSlices { unit := u } else s.skipUnit u)
    else if s.rd Ix.segEngineState (u - 0x100 + 1) ≠ 1 then s.skipUnit u
    else
      match [32, 33, 34, 35].find? (fun k => s.spareIdle k) with
      | some k => (s.bstTarget k u).beginTest { unit := u, spare := some k } 1
      | none => s.skipUnit u

/-- The round goes on to its next unit, or ends (R507). -/
def State.nextUnit (s : State) : Nat → State
  | 0 => s
  | fuel + 1 =>
    if s.bst.test.isSome || !s.bst.round then s
    else
      match s.bst.queue with
      | [] => s.roundOver
      | u :: us =>
        let t : State := { s with bst := { s.bst with queue := us } }
        if t.bst.failed.contains u || t.substituted u then t.nextUnit fuel else (t.startUnit u).nextUnit fuel

/-- A unit whose spare has met a fault returns to service at the next strip boundary, its values reloaded (R513): a pipeline waits in Armed
for that boundary as its start point. -/
def State.unitReturns (s : State) (k u : Nat) : State :=
  if k = 16 then
    let m := Fin.ofNat 16 u
    let t := (s.setSpare 0 {}).clearBit Ix.iplPipelineStatus (u + 1) 1
    (t.enter (iplFn m) .armed).fnFlag (iplFn m) flagStartPending
  else
    let i := Fin.ofNat 4 (k - 32)
    let m := s.rd Ix.segSpareTarget (i.val + 1)
    let t := (s.setSegSpare i 0 {}).setEngine (u - 0x100) 2 m
    { t with seg := { t.seg with returning := (u - 0x100, m) :: t.seg.returning } }

/-- What a change of a spare's state means for the test that uses it (R508, R509, R513). DEDUCED: HAND_BACK is issued again until the unit
may take its load back. -/
def State.bstFollow (s : State) : State :=
  match s.bst.test with
  | none => s
  | some t =>
    match t.spare with
    | none => s
    | some k =>
      let phase := s.rd Ix.bstRoundState 0
      let st := s.spareStateOf k
      if s.spareBroken k then
        let s1 := s.testAborted t
        if 3 ≤ phase then s1.unitReturns k t.unit else s1
      else if phase ≤ 2 then
        if st = 0 then s.testAborted t
        else if st = 3 then
          (if s.unitFaulted t.unit && s.rd Ix.bstAutoRepair 0 == 1 then s.clearUnit t.unit else s).beginSlices t
        else if phase = 1 ∧ st = 2 then (s.bstTakeOver k).wr Ix.bstRoundState 0 2
        else s
      else if phase = 3 then
        if t.step = .idle ∧ ((unitSlices t.unit).getD 0 ≤ t.passed ∨ s.bst.stopping) then
          let s1 := (s.showUnderTest t.unit false).bstHandBack k
          if s1.2 = .ok then s1.1.wr Ix.bstRoundState 0 4 else s
        else s
      else if st = 0 then
        if t.passed < (unitSlices t.unit).getD 0 then s.testAborted t else s.testEnds t (if t.repaired then boRepaired else boPassed)
      else s

/-- BST's own steps after anything that may concern it: the test under way follows its spare, and a round goes on (R507 to R513). -/
def State.bstStep (s : State) : State := s.bstFollow.nextUnit 60

/-! ### Rounds and slices -/

/-- The round period ends (R507). -/
def State.bistRound (s : State) : State :=
  if s.runs .bst && s.rd Ix.bstBISTEnable 0 == 1 && !s.bst.round && s.bst.test.isNone then
    let mask := ofLe (s.rdo Ix.bstOnlineUnitMask 0)
    (({ s with bst := { s.bst with round := true, queue := onlineUnits.filter (fun u => mask.testBit (unitBit u)) } } : State).setBit
      Ix.bstSelfTestStatus 0 btRound).bstStep
  else s

/-- A unit faulted with an ECC cause and a spare serves it: it comes first in a round that starts at once (R513). -/
def State.autoRepair (s : State) (u : Nat) : State :=
  if s.runs .bst && s.rd Ix.bstAutoRepair 0 == 1 && (s.servedBy u).isSome && !s.bst.test.any (fun t => t.unit == u || t.offline) then
    let mask := ofLe (s.rdo Ix.bstOnlineUnitMask 0)
    let rest := if s.bst.round then s.bst.queue else onlineUnits.filter (fun v => mask.testBit (unitBit v))
    (({ s with bst := { s.bst with round := true, queue := u :: rest.filter (fun v => v != u) } } : State).setBit
      Ix.bstSelfTestStatus 0 btRound).bstStep
  else s

/-- The slice interval ends and the next slice starts (R509). -/
def State.sliceStarts (s : State) : State :=
  match s.bst.test with
  | some t =>
    if s.rd Ix.bstRoundState 0 = 3 ∧ t.step = .idle ∧ t.passed < (unitSlices t.unit).getD 0 ∧ !s.bst.stopping then
      (s.setTest (some { t with step := .running })).bump Ix.bstSlicesRun 0 1
    else s
  | none => s

/-- A slice is done: after the last one the unit takes its load back, or its test ends (R509). -/
def State.slicePasses (s : State) (t : BstTest) : State :=
  let x := { t with passed := t.passed + 1, step := .idle }
  let s1 := s.setTest (some x)
  match x.spare with
  | some _ => s1.bstStep
  | none =>
    if (unitSlices x.unit).getD 0 ≤ x.passed then (s1.testEnds x (if x.repaired then boRepaired else boPassed)).bstStep
    else if s.bst.stopping then s1.testAborted x
    else s1

/-- A march failure of one row or column is mapped to a free spare, and its slice runs once more (R511). -/
def State.softRepair (s : State) (t : BstTest) (ram : Nat) (isRow : Bool) (place : Nat) : State :=
  let kind := if isRow then 1 else 2
  let u := s.bstUnit t.unit
  if s.repairsOf t.unit ram kind < unitSpares t.unit isRow then
    let s1 : State := { s with bst := { s.bst with soft := s.bst.soft ++ [repairEntry 1 kind t.unit ram place] } }
    ((s1.setUnit t.unit { u with soft := u.soft + 1, ram := ram }).setTest (some { t with step := .check })).bump Ix.bstSlicesRun 0 1
  else ((s.setBit Ix.bstSelfTestStatus 0 btRepairFull).unitFails t ram).bstStep

/-- The RAM in which a slice failed (R520). -/
def sliceRam : SliceEnd → Nat
  | .passed => 0
  | .march ram _ _ => ram
  | .other ram => ram

/-- A slice ends (R505, R510, R511). While BST drains, a slice that fails ends the test (R517). -/
def State.sliceEnds (s : State) (r : SliceEnd) : State :=
  match s.bst.test with
  | none => s
  | some t =>
    match t.step, r with
    | .idle, _ => s
    | .backOff, _ => s
    | .running, .passed => s.slicePasses t
    | .running, r =>
      let s1 := s.setUnit t.unit { s.bstUnit t.unit with ram := sliceRam r }
      if s.bst.stopping then s1.testAborted t else s1.setTest (some { t with step := .backOff })
    | .retry, .passed =>
      let u := s.bstUnit t.unit
      let s1 := ((s.retryTransient 5 t.unit).setUnit t.unit { u with transients := u.transients + 1 }).setBit
        Ix.bstSelfTestStatus 0 btTransient
      if s1.rateExceeded 5 t.unit then (s1.unitFails { t with passed := t.passed + 1 } u.ram).bstStep else s1.slicePasses t
    | .retry, .march ram isRow place =>
      if s.bst.stopping then ((s.retryLasting 5).setUnit t.unit { s.bstUnit t.unit with ram := ram }).testAborted t
      else (s.retryLasting 5).softRepair t ram isRow place
    | .retry, .other ram => ((s.retryLasting 5).unitFails t ram).bstStep
    | .check, .passed => (s.setBit Ix.bstSelfTestStatus 0 btRepaired).slicePasses { t with repaired := true }
    | .check, .march ram _ _ => (s.unitFails t ram).bstStep
    | .check, .other ram => (s.unitFails t ram).bstStep

/-- The back-off ends and the slice runs its retry (R510). -/
def State.sliceRetries (s : State) : State :=
  match s.bst.test with
  | some t => if t.step = .backOff then (s.setTest (some { t with step := .retry })).bump Ix.bstSlicesRun 0 1 else s
  | none => s

/-! ### Offline tests -/

/-- Whether an offline action on a unit may run: every function of it Stopped, and for a test no spare serving it (R506, R514). -/
def State.unitAtRest (s : State) (u kind : Nat) : Bool :=
  (unitFns u).all (fun f => decide (s.fn f = .stopped)) && (kind == 2 || decide (0x200 ≤ u) || (s.servedBy u).isNone)

/-- A test request (R512, R514). -/
def State.testRequest (s : State) (bs : Octets) : State × Code :=
  let u := leAt bs 0 2
  let kind := octAt bs 2
  if !s.runs .bst || ((unitSlices u).isSome && !s.unitAtRest u kind) then (s, .wrongState)
  else if (unitSlices u).isNone ∨ (kind ≠ 1 ∧ kind ≠ 2) ∨ octAt bs 3 ≠ 0 then (s, .outOfRange)
  else if s.bst.round || s.bst.test.isSome then (s, .busy)
  else if kind = 2 then ({ s with bst := { s.bst with failed := s.bst.failed.filter (fun v => v != u) } }, .ok)
  else (s.beginSlices { unit := u, offline := true }, .ok)

/-- Whether an offline test holds a function back from ARM (R514). -/
def State.underOfflineTest (s : State) (f : Fn) : Bool := s.bst.test.any (fun t => t.offline && (unitFns t.unit).contains f)

/-! ### Fuse repair -/

/-- The spare that takes a failed unit's load by fuse (R515): the one that serves it, else the first sound one that no other substitution
has. DESIGN CHOICE: the spec names none. -/
def State.substitute (s : State) (taken : List Nat) (u : Nat) : Option Nat :=
  if u < 16 then (if taken.contains 16 || s.bst.failed.contains 16 then none else some 16)
  else if 0x100 ≤ u ∧ u < 0x120 then
    match s.servedBy u with
    | some k => some (unitSeg k)
    | none => ([0x120, 0x121, 0x122, 0x123] : List Nat).find? (fun k => !taken.contains k && !s.bst.failed.contains k)
  else none

/-- The entries that a fuse command burns: every soft repair, and a substitution for each failed unit (R515). -/
def State.fuseEntries (s : State) : List Octets :=
  let taken := (s.bst.fused.filter (fun e => octAt e 1 == 3)).map (fun e => leAt e 6 2)
  let subs := s.bst.failed.foldl (fun (acc : List Nat × List Octets) u =>
    if s.substituted u then acc else
    match s.substitute acc.1 u with
    | some k => (k :: acc.1, acc.2 ++ [repairEntry 1 3 u 0 k])
    | none => acc) (taken, [])
  s.bst.soft ++ subs.2

/-- The fuse command (R515). -/
def State.fuseCommand (s : State) : State × Code :=
  if s.rd Ix.lifLifeCycleState 0 ≠ 2 ∨ s.rd Ix.sysPowerState 0 ≠ 2 then (s, .wrongState)
  else if s.bit Ix.lifLifeCycleStatus 0 2 then (s, .busy)
  else (({ s with bst := { s.bst with burning := s.fuseEntries } } : State).setBit Ix.lifLifeCycleStatus 0 2, .ok)

/-- Entries go to free fuse places in turn: `fails` tells of each place tried whether it failed to verify (R515). -/
def State.burn (s : State) : List Octets → List Bool → State
  | [], _ => s
  | e :: es, fails =>
    let free := s.rd Ix.bstFuseEntriesFree 0
    let bad := (fails.takeWhile (fun b => b)).length
    let s1 := if bad = 0 then s else s.setBit Ix.bstSelfTestStatus 0 btFuseFail
    if free ≤ bad then ((s1.wr Ix.bstFuseEntriesFree 0 0).setBit Ix.bstSelfTestStatus 0 btRepairFull).burn es []
    else
      let s2 : State := { s1 with bst := { s1.bst with
        fused := s1.bst.fused ++ [leBytes 1 2 ++ e.drop 1], soft := s1.bst.soft.filter (fun x => x != e) } }
      (s2.wr Ix.bstFuseEntriesFree 0 (free - bad - 1)).burn es (fails.drop (bad + 1))

/-- Fuse programming ends with its verification (R515). -/
def State.fuseComplete (s : State) (fails : List Bool) : State :=
  if s.bit Ix.lifLifeCycleStatus 0 2 then
    ((({ s with bst := { s.bst with burning := [] } } : State).burn s.bst.burning fails)).clearBit Ix.lifLifeCycleStatus 0 2
  else s

/-- What the fuses set at a reset (R516): each substituted unit Faulted or in engine state 4 with its cause, its spare serving. -/
def State.applyFuses (s : State) : State :=
  s.bst.fused.foldl (fun (t : State) e =>
    if octAt e 1 = 3 then
      let u := leAt e 2 2
      let k := leAt e 6 2
      if u < 16 then
        let t1 := (((t.wr Ix.iplSpareTarget 0 u).wr Ix.iplSpareState 0 3).wr Ix.iplSpareServing 0 u).wr 0x3400 17 2
        let t2 : State := { t1 with spare := { loaded := true } }
        ((t2.wr 0x3400 (u + 1) 4).wr 0x3403 (u + 1) 3).setBit Ix.iplPipelineStatus 17 2
      else
        let i := Fin.ofNat 4 (k - 0x120)
        let m := u - 0x100
        let t1 := (((t.wr Ix.segSpareTarget (i.val + 1) m).setSegSpare i 3 { loaded := true, replaced := some m }).setEngine (k - 0x100) 1 m)
        (t1.setEngine m 4 255).wr Ix.segEngineFaultCause (m + 1) 2
    else t) s

/-! ### States -/

/-- STOP of BST (R517). DESIGN CHOICE: a spare that has not taken over yet is let go, and a test that does not end PASSED ends ABORTED. -/
def State.bstStops (s : State) : State :=
  let s0 : State := { s with bst := { s.bst with stopping := true, queue := [], round := false } }
  match s0.bst.test with
  | none => s0.roundOver
  | some t =>
    let phase := s0.rd Ix.bstRoundState 0
    if phase ≤ 2 then
      let s1 := match t.spare with
        | some k => if k = 16 then s0.releaseSpare.1 else (s0.segRelease (Fin.ofNat 4 (k - 32))).1
        | none => s0
      s1.testAborted t
    else if phase = 3 then
      match t.step, t.spare with
      | .idle, some _ => s0.bstFollow
      | .idle, none => s0.testAborted t
      | .backOff, _ => s0.testAborted t
      | _, _ => s0
    else s0

/-- Whether BST's drain has ended (R517). -/
def State.bstDrained (s : State) : Bool := s.bst.test.isNone

/-- The drain timeout, ABORT or fault of BST: the test ends ABORTED, and the spare keeps serving (R517). -/
def State.bstTruncate (s : State) : State :=
  let s0 : State := { s with bst := { s.bst with queue := [], round := false } }
  match s0.bst.test with
  | some t => s0.testAborted t
  | none => s0.roundOver

/-- BST enters Running (R517). -/
def State.bstStarts (s : State) : State := { s with bst := { s.bst with stopping := false } }

/-! ### What a read shows -/

/-- The result of a unit (R520). -/
def State.unitResult (s : State) (u : Nat) : Octets :=
  let x := s.bstUnit u
  let fusedCount := (s.bst.fused.filter (fun e => octAt e 1 != 3 && leAt e 2 2 == u)).length
  leBytes 2 u ++ leBytes 1 x.outcome ++ leBytes 1 x.passed ++ leBytes 8 x.time ++ leBytes 4 x.transients ++ leBytes 2 x.soft ++
  leBytes 2 fusedCount ++ leBytes 2 x.ram ++ leBytes 2 0

/-- The failed units and the repair table (R520). -/
def State.failedUnits (s : State) : Octets := s.bst.failed.flatMap (leBytes 2)
def State.repairTable (s : State) : Octets := (s.bst.soft ++ s.bst.fused).flatten

end Sys2Proof.Machine
end

