-- ==== Sys2Proof/Machine/Hrb.lean ====
section
/-! DEFINITION. The history ring: lines, crops and image strips (R351 to R356, R376). -/

namespace Sys2Proof.Machine

/-- The flags of History status (R379). -/
abbrev hsWrapped : Nat := 0
abbrev hsCropRefused : Nat := 1
abbrev hsCropAbandoned : Nat := 2
abbrev hsExportLost : Nat := 3
abbrev hsInvalidated : Nat := 5

/-- The stitched line header (R155). -/
def stitchedHeader (x : Stitched) : Octets :=
  leBytes 8 x.lp ++ leBytes 8 x.time ++ leBytes 4 x.missing ++ leBytes 2 x.index ++ leBytes 1 x.flags ++ leBytes 1 x.code ++
  leBytes 4 x.base ++ leBytes 4 x.width

/-- A column in the history format: the store format of R177, or the top 8 bits of each sample and the flags byte (R351). -/
def historyColumn (format : Nat) (c : Column) : Octets :=
  if format = 0 then c.vs.flatMap (fun v => leBytes 2 v) ++ leBytes 1 c.f ++ leBytes 1 0
  else c.vs.flatMap (fun v => leBytes 1 (v / 256)) ++ leBytes 1 c.f

/-- The number of channels of the output space (R135). -/
def State.historyChannels (s : State) : Nat := if s.rd Ix.iplOutputSpace 0 = 2 then 1 else 3

/-- The bytes of a column in the ring (R351). -/
def State.columnBytes (s : State) : Nat :=
  (s.historyChannels + 1) * (if s.rd Ix.hrbHistoryFormat 0 = 0 then 2 else 1)

/-- The bytes a line occupies, and how many lines the region holds (R351). -/
def State.lineBytes (s : State) : Nat := (32 + s.localWidth s.placesNow * s.columnBytes + 63) / 64 * 64
def State.historyLines (s : State) : Nat := (s.region 5).2 / s.lineBytes

/-- Where a line stands in the ring (R351). -/
def State.historyPlace (s : State) (line : Nat) : Nat := (s.region 5).1 + line % s.historyLines * s.lineBytes

/-- HRB's bookkeeping replaced, with what its objects show (R379, R380). -/
def State.setHrb (s : State) (h : HrbState) : State := { s with hrb := h }.wr Ix.hrbPendingCrops 0 h.crops.length

/-- The oldest line held. -/
def State.oldestLine (s : State) : Option Nat := s.hrb.lines.head?.map (fun l => l.line)

/-- The newest line held. -/
def State.newestLine (s : State) : Option Nat := s.hrb.lines.getLast?.map (fun l => l.line)

/-! ### Lines -/

/-- The export of a strip begins with its header (R356). -/
def State.exportBegins (s : State) (x : Stitched) : State :=
  let k := s.rdf Ix.hrbStripExportInterval 0
  let strip := x.line / s.strip
  if k = 0 ∨ strip % k ≠ 0 then s.setHrb { s.hrb with exporting := none, header := [] }
  else
    let first := s.rdf Ix.hrbExportFirstColumn 0 - x.base
    let col := if s.rdf Ix.hrbExportWidth 0 = 0 then 0 else min first x.width
    let width := if s.rdf Ix.hrbExportWidth 0 = 0 then x.width else min (s.rdf Ix.hrbExportWidth 0) (x.width - col)
    let header := leBytes 2 0x000D ++ leBytes 1 1 ++ leBytes 1 (s.rd Ix.hrbHistoryFormat 0) ++ leBytes 4 s.strip ++ leBytes 8 strip ++
      leBytes 8 x.lp ++ leBytes 8 x.time ++ leBytes 4 (x.base + col) ++ leBytes 4 width ++
      leBytes 4 ((32 + width * s.columnBytes + 7) / 8 * 8) ++ leBytes 1 x.code ++ leBytes 3 0 ++ leBytes 16 0
    s.setHrb { s.hrb with exporting := some (col, width), header := header, exports := s.hrb.exports ++ [.header header] }

/-- The pending crops that a drain's last line cuts short (R376). -/
def clipCrops (last : Nat) (cs : List Crop) : List Crop :=
  cs.map (fun c => if !c.cut && decide (last < c.line1) then { c with line1 := last, clipped := true } else c)

/-- Whether an export item is a line that the ring has lost: one older than a line number. -/
def ExportItem.lostBefore (oldest : Nat) : ExportItem → Bool
  | .header _ => false
  | .line l _ _ => decide (l < oldest)

/-- Export lines that HRB had not read when the ring lost them are not delivered: they count as lost (R356). -/
def State.exportsLost (s : State) (gone : ExportItem → Bool) : State :=
  let n := s.hrb.exports.countP gone
  if n = 0 then s
  else (((s.setHrb { s.hrb with exports := s.hrb.exports.filter (fun e => !gone e) }).bump Ix.hrbStripLinesLost 0 n).setBit
    Ix.hrbHistoryStatus 0 hsExportLost).leftLess 5 n

/-- HRB writes a stitched line, with the page number of its deviation header (R351, R352, R356, R376). -/
def State.hrbLine (s : State) (x : Stitched) (page : Nat) : State :=
  let wanted := s.runs .hrb || (s.drains .hrb && s.hrb.stopStrip.any (fun k => decide (x.line / s.strip ≤ k)))
  if !wanted || !(s.hrb.next.all (fun n => decide (n ≤ x.line))) then s.discard .hrb 1
  else if s.historyLines = 0 then s
  else
    let s0 := if x.line % s.strip = 0 then
        (s.forceAll 0 [Ix.hrbStripExportInterval, Ix.hrbExportFirstColumn, Ix.hrbExportWidth]).exportBegins x else s
    let data := stitchedHeader x ++ x.cols.flatMap (historyColumn (s.rd Ix.hrbHistoryFormat 0))
    let s1 := s0.dramStore (s0.historyPlace x.line) (data ++ zeros (s0.lineBytes - data.length))
    let item : HistLine := { line := x.line, lp := x.lp, time := x.time, page := page, truncated := x.flags.testBit 4 }
    let lines := s1.hrb.lines ++ [item]
    let excess := lines.length - s1.historyLines
    let last := s1.hrb.stopStrip.any (fun k => decide (x.line + 1 = (k + 1) * s1.strip))
    let s2 := s1.setHrb { s1.hrb with
      lines := lines.drop excess, next := some (x.line + 1)
      crops := (if last then clipCrops x.line s1.hrb.crops else s1.hrb.crops).map (fun (c : Crop) =>
        if c.line0 = x.line ∧ c.first = none then { c with first := some item } else c)
      exports := match s1.hrb.exporting with
        | some (col, width) => s1.hrb.exports ++ [.line x.line col width]
        | none => s1.hrb.exports }
    let s3 := if excess = 0 then s2
      else (s2.exportsLost (ExportItem.lostBefore (s2.oldestLine.getD 0))).setBit Ix.hrbHistoryStatus 0 hsWrapped
    let s4 := (s3.wr Ix.hrbNewestLine 0 x.line).wr Ix.hrbOldestLine 0 (s3.oldestLine.getD x.line)
    if (x.line + 1) % s.strip = 0 ∧ s4.hrb.exporting.isSome then
      (s4.setHrb { s4.hrb with exporting := none, header := [] }).bump Ix.hrbStripsExported 0 1
    else s4

/-! ### Crops -/

/-- Whether some DMA channel takes crops (R353). -/
def State.cropChannel (s : State) : Bool := (List.range 31).any (fun c => s.rd Ix.dlvChannelSource (c + 1) == 4)

/-- The first line HRB has held since its start point. -/
def State.firstHeld (s : State) : Nat :=
  match s.oldestLine with
  | some o => if s.bit Ix.hrbHistoryStatus 0 hsWrapped then 0 else o
  | none => s.hrb.next.getD 0

/-- Why a crop is refused, by the subindex of Crops refused; none where it is accepted (R353). -/
def State.cropReason (s : State) (width line0 line1 : Nat) : Option Nat :=
  let pixel := (s.historyChannels + 1) * 2
  if !s.runs .hrb || !s.cropChannel || s.dmc.map == [] then some 1
  else if 256 ≤ s.hrb.crops.length then some 2
  else if s.historyLines - s.rd Ix.hrbGuardLines 0 < line1 - line0 + 1 then some 3
  else if line1 < line0 ∨ s.oldestLine.any (fun o => decide (line0 < o)) then some 4
  else if s.rd Ix.hrbMaximumCropBytes 0 < width * (line1 - line0 + 1) * pixel then some 5
  else none

/-- A crop request of CLS (R300, R353): local columns and lines. The flag says whether it is accepted. -/
def State.cropRequest (s : State) (handle col width first last : Nat) : State × Bool :=
  let line0 := max first s.firstHeld
  match s.cropReason width line0 last with
  | some r =>
    (((s.bump Ix.hrbCropsRefused r 1).setBit Ix.hrbHistoryStatus 0 hsCropRefused).cross (eventCode 20 0 0) none handle, false)
  | none =>
    let c : Crop := { handle := handle, col := col, width := width, line0 := line0, line1 := last, clipped := decide (first < line0),
                      first := s.hrb.lines.find? (fun l => l.line == line0) }
    ((s.setHrb { s.hrb with crops := s.hrb.crops ++ [c] }).bump Ix.hrbCropsAccepted 0 1, true)

/-- A crop replaced by its handle. -/
def State.setCrop (s : State) (c : Crop) : State :=
  s.setHrb { s.hrb with crops := s.hrb.crops.map (fun x => if x.handle = c.handle then c else x) }

/-- A crop is abandoned: its header alone will be delivered (R355). -/
def State.abandonCrop (s : State) (c : Crop) : State :=
  let t := s.setCrop { c with abandoned := true, cut := true, raw := [], blocks := 0, encoded := [] }
  ((t.bump Ix.hrbCropsAbandoned 0 1).setBit Ix.hrbHistoryStatus 0 hsCropAbandoned).cross (eventCode 20 0 1) none c.handle

/-- A pixel of the ring as a crop holds it: history format 1 stores its 8-bit values in the top byte (R354). -/
def cropPixel (format channels : Nat) (bs : Octets) : Octets :=
  if format = 0 then bs
  else (bs.take channels).flatMap (fun b => [0, b]) ++ [bs.getD channels 0, 0]

/-- The rows of a crop read from the ring, and whether any unit was poisoned (R354). -/
def State.cropRows (s : State) (c : Crop) : List Nat → Octets × Bool × State
  | [] => ([], false, s)
  | l :: ls =>
    let n := s.columnBytes
    let (bs, bad, s1) := s.dramFetch 5 (s.historyPlace l + 32 + c.col * n) (c.width * n)
    let row := (chunks n c.width bs).flatMap (cropPixel (s.rd Ix.hrbHistoryFormat 0) s.historyChannels)
    let (rest, bad', s2) := s1.cropRows c ls
    (row ++ rest, bad || bad', s2)

/-- The tiles of a crop in row-major order: their places and sizes (R354). -/
def cropTiles (width lines : Nat) : List (Nat × Nat × Nat × Nat) :=
  (List.range ((lines + 63) / 64)).flatMap (fun r => (List.range ((width + 63) / 64)).map (fun k =>
    (64 * k, 64 * r, min 64 (width - 64 * k), min 64 (lines - 64 * r))))

/-- A tile's pixels of a crop's raw data. -/
def tileData (raw : Octets) (width pixel : Nat) (t : Nat × Nat × Nat × Nat) : Octets :=
  (List.range t.2.2.2).flatMap (fun y => (raw.drop (((t.2.1 + y) * width + t.1) * pixel)).take (t.2.2.1 * pixel))

/-- The first crop whose last line the ring holds is cut: its lines are read, and its tiles go to CDE where it compresses (R354, R355). -/
def State.cutCrop (s : State) : State :=
  match s.hrb.crops.find? (fun c => !c.cut && s.newestLine.any (fun n => decide (c.line1 ≤ n))) with
  | none => s
  | some c =>
    if s.oldestLine.any (fun o => decide (c.line0 < o)) then s.abandonCrop c
    else
      let count := c.line1 - c.line0 + 1
      let (raw, bad, s1) := s.cropRows c ((List.range count).map (fun i => c.line0 + i))
      let lines := s1.hrb.lines.filter (fun l => decide (c.line0 ≤ l.line ∧ l.line ≤ c.line1))
      let tiles := cropTiles c.width count
      let packs := s1.rd Ix.hrbCropCompression 0 == 1 && s1.runs .cde
      let s2 := s1.setCrop { c with cut := true, raw := raw, poisoned := bad, lines := lines, blocks := if packs then tiles.length else 0 }
      if packs then
        let pixel := (s1.historyChannels + 1) * 2
        let jobs := tiles.mapIdx (fun i t =>
          ({ handle := c.handle, index := i, width := t.2.2.1, height := t.2.2.2, comps := s1.historyChannels + 1,
             data := tileData raw c.width pixel t } : CropBlock))
        s2.setCde { s2.cde with crops := s2.cde.crops ++ jobs }
      else s2

/-- The next block that CDE has encoded for a crop is taken (R354). -/
def State.takeEncoded (s : State) : State :=
  match s.cde.encoded with
  | [] => s
  | (h, i, b) :: rest =>
    let s1 := s.setCde { s.cde with encoded := rest }
    match s1.hrb.crops.find? (fun c => c.handle == h) with
    | some c => s1.setCrop { c with encoded := (i, b) :: c.encoded }
    | none => s1

/-- A crop's Crumb has left the engine, or its descriptor was marked BAD (R355). -/
def State.crumbLeft (s : State) (handle : Nat) : State :=
  if handle = 0 then s
  else s.setHrb { s.hrb with crops := s.hrb.crops.map (fun c => if c.handle = handle then { c with crumbOut := true } else c) }

/-- Whether every block of a crop is encoded. -/
def Crop.packed (c : Crop) : Bool := decide (c.blocks ≠ 0) && c.encoded.length == c.blocks

/-- Whether a cut crop can be delivered: encoded, uncompressed or abandoned (R354). -/
def Crop.ready (c : Crop) : Bool := c.cut && (c.abandoned || c.blocks == 0 || c.packed)

/-- CDE has stopped or faulted before it encoded every block of a crop (R354): what it has encoded is discarded, and the crop will be delivered
uncompressed, from its lines in the ring. -/
def Crop.unpack (c : Crop) : Crop :=
  if c.blocks = 0 ∨ c.packed then c else { c with blocks := 0, encoded := [], unpacked := true }

/-- CDE has ended its work: no crop waits for it any longer (R354). -/
def State.cropsUnpacked (s : State) : State := s.setHrb { s.hrb with crops := s.hrb.crops.map Crop.unpack }

/-- Whether a crop has lost its data: it was to be delivered from the ring, and the ring no longer holds its first line (R354, R355). -/
def State.cropStale (s : State) (c : Crop) : Bool := c.unpacked && !c.abandoned && !s.hrb.lines.any (fun l => l.line == c.line0)

/-- The crop record: header and data (R355). -/
def State.cropRecord (s : State) (c : Crop) : Octets :=
  let first := c.first
  let count := c.line1 - c.line0 + 1
  let packed := c.packed
  let blocks := (List.range c.blocks).flatMap (fun i => ((c.encoded.find? (fun e => e.1 == i)).map (fun e => e.2)).getD [])
  let data := if c.abandoned then [] else if packed then blocks else pad16 c.raw
  let page := if s.rd Ix.segInputSource 0 = 1 then 0 else (first.map (fun l => l.page)).getD 0
  leBytes 2 0x000C ++ leBytes 1 1 ++
  leBytes 1 (bitNat (packed && !c.abandoned) + 2 * bitNat c.clipped + 4 * bitNat c.abandoned + 8 * bitNat (c.lines.any (fun l => l.truncated))) ++
  leBytes 4 c.handle ++ leBytes 8 ((first.map (fun l => l.lp)).getD (c.line0 * 65536)) ++ leBytes 8 ((first.map (fun l => l.time)).getD 0) ++
  leBytes 4 (s.rd Ix.stxColumnBase 0 + c.col) ++ leBytes 4 c.width ++ leBytes 4 count ++ leBytes 1 s.outputCode ++
  leBytes 1 (s.historyChannels + 1) ++ leBytes 2 ((c.width + 63) / 64) ++ leBytes 2 ((count + 63) / 64) ++ leBytes 2 0 ++
  leBytes 4 data.length ++ leBytes 4 page ++ leBytes 4 0 ++ leBytes 4 (crc32c data) ++ leBytes 4 0 ++ data

/-- The first crop that is ready and whose Crumb has left goes to its DMA channel (R354, R355). -/
def State.deliverCrop (s : State) : State :=
  match s.hrb.crops.find? (fun c => c.crumbOut && c.ready) with
  | none => s
  | some c =>
    let s1 := if s.cropStale c then s.abandonCrop c else s
    let c1 := (s1.hrb.crops.find? (fun x => x.handle == c.handle)).getD c
    s1.setHrb { s1.hrb with crops := s1.hrb.crops.filter (fun x => x.handle != c.handle),
                            ready := s1.hrb.ready ++ [(c1.poisoned && !c1.abandoned, s1.cropRecord c1)] }

/-! ### Image strips -/

/-- The next record of an image strip: a header, or a line's header and window, padded to a multiple of 8 (R356). A line that the ring does
not hold is none. -/
def State.nextExport (s : State) : Option (Bool × Octets) × State :=
  match s.hrb.exports with
  | [] => (none, s)
  | .header h :: rest => (some (false, h), s.setHrb { s.hrb with exports := rest })
  | .line l col width :: rest =>
    let s1 := s.setHrb { s.hrb with exports := rest }
    if s.oldestLine.any (fun o => decide (o ≤ l)) then
      let n := s.columnBytes
      let (h, bad, s2) := s1.dramFetch 5 (s.historyPlace l) 32
      let (d, bad', s3) := s2.dramFetch 5 (s.historyPlace l + 32 + col * n) (width * n)
      let r := h ++ d
      (some (bad || bad', r ++ zeros ((8 - r.length % 8) % 8)), s3)
    else (none, s.exportsLost (ExportItem.lostBefore (l + 1)))

/-! ### States -/

/-- Whether an export item is a line. -/
def ExportItem.isLine : ExportItem → Bool
  | .header _ => false
  | .line _ _ _ => true

/-- HRB enters Running at the strip that begins with a line, the ring empty (R352, R376). DESIGN CHOICE: the crops already cut and the export
records of an earlier run still go to their channels, but for export lines that the ring held. -/
def State.hrbStarts (s : State) (line : Nat) : State :=
  let t := s.exportsLost ExportItem.isLine
  (t.setHrb { ready := t.hrb.ready, exports := t.hrb.exports, crops := t.hrb.crops.filter (fun c => c.cut), next := some line }).clearBit
    Ix.hrbHistoryStatus 0 hsWrapped

/-- STOP: the lines of the current strip are still written (R376). -/
def State.hrbStops (s : State) : State :=
  let k := s.hrb.next.map (fun l => (l - 1) / s.strip)
  let atEnd := s.hrb.next.any (fun l => l % s.strip == 0)
  s.setHrb { s.hrb with stopStrip := k, crops := if atEnd then clipCrops ((s.hrb.next.getD 1) - 1) s.hrb.crops else s.hrb.crops }

/-- Whether HRB's drain has ended (R376). -/
def State.hrbDrained (s : State) : Bool :=
  s.hrb.crops.all (fun c => c.cut) && s.hrb.exports == [] &&
  match s.hrb.stopStrip, s.hrb.next with
  | some k, some l => decide ((k + 1) * s.strip ≤ l)
  | _, _ => true

/-- A strip header with TRUNCATED set (R356). -/
def truncatedHeader (h : Octets) : Octets := h.take 3 ++ [(h.getD 3 0) ||| 2] ++ h.drop 4

/-- The export items with TRUNCATED in the open export's header. DESIGN CHOICE: where that header has gone to its channel already, the export ends
with it once more, TRUNCATED. -/
def closeExport (h : Octets) (items : List ExportItem) : List ExportItem :=
  if items.contains (.header h) then items.map (fun e => if e = .header h then .header (truncatedHeader h) else e)
  else items ++ [.header (truncatedHeader h)]

/-- Drain timeout, ABORT or fault: pending crops are abandoned, the open export ends TRUNCATED (R376). -/
def State.hrbTruncate (s : State) : State :=
  let s1 := s.hrb.crops.foldl (fun (t : State) c => if c.abandoned then t else t.abandonCrop c) s
  s1.setHrb { s1.hrb with
    exporting := none, header := []
    exports := if s1.hrb.exporting.isSome then closeExport s1.hrb.header s1.hrb.exports else s1.hrb.exports }

/-- A DMC channel's retirement empties the ring and abandons every pending crop and export (R352, R399). -/
def State.hrbInvalidated (s : State) : State :=
  let s1 := s.hrb.crops.foldl (fun (t : State) c => if c.abandoned then t else t.abandonCrop c) s
  (((s1.setHrb { s1.hrb with lines := [], exports := [], exporting := none, header := [] }).leftLess 5 s1.hrb.exports.length).setBit
    Ix.hrbHistoryStatus 0 hsInvalidated).clearBit Ix.hrbHistoryStatus 0 hsWrapped

end Sys2Proof.Machine
end

