-- ==== Sys2Proof/Machine/Cls.lean ====
section
/-! DEFINITION. The classifier and the defect ledger (R291 to R315). -/

namespace Sys2Proof.Machine

/-- The flags of Classifier status and Ledger status (R316). -/
abbrev csCropRefused : Nat := 0
abbrev csMarkLate : Nat := 1
abbrev csMarkFailed : Nat := 2
abbrev csCqWait : Nat := 3
abbrev lsSweeping : Nat := 0
abbrev lsRepeat : Nat := 1
abbrev lsErr : Nat := 2
abbrev lsEvict : Nat := 3
abbrev lsInvalidated : Nat := 4

/-! ### The Crumb -/

/-- The fields of a Crumb (R292), before its CRC. -/
structure Crumb where
  type : Nat
  flags : Nat := 0
  ledger : Nat := 0
  cls : Nat := 0
  act : Nat := 0
  lp0 : Nat := 0
  lp1 : Nat := 0
  col0 : Nat := 0
  col1 : Nat := 0
  time : Nat := 0
  page : Nat := 0
  area : Nat := 0
  repeats : Nat := 0
  dMax : Nat := 0
  dMean : Nat := 0
  contrast : Nat := 0
  elongation : Nat := 0
  mask : Nat := 0
  crop : Nat := 0
  cams : Nat := 0
  segment : Nat := 0xFF

/-- The flags of Crumb word 0x00 as numbers (R292). -/
abbrev cfTruncated : Nat := 2 ^ 19
abbrev cfRepeating : Nat := 2 ^ 23
abbrev cfLedgerNone : Nat := 2 ^ 24
abbrev cfLedgerErr : Nat := 2 ^ 25
abbrev cfCropRefused : Nat := 2 ^ 26
abbrev cfMarkLate : Nat := 2 ^ 27
abbrev cfMarkFailed : Nat := 2 ^ 28
abbrev cfMarkMerged : Nat := 2 ^ 29
abbrev cfAreaSat : Nat := 2 ^ 30

/-- A Crumb's 64 octets, the CRC-8 last (R292, R294). -/
def crumbOctets (c : Crumb) : Octets :=
  let body := leBytes 4 (c.type + 256 + c.flags + (if 65535 < c.area then cfAreaSat else 0)) ++
    leBytes 4 (c.ledger + c.cls * 2 ^ 25 + c.act * 2 ^ 29) ++ leBytes 8 c.lp0 ++ leBytes 8 c.lp1 ++ leBytes 4 c.col0 ++ leBytes 4 c.col1 ++
    leBytes 8 c.time ++ leBytes 4 c.page ++ leBytes 2 (min 65535 c.area) ++ leBytes 2 c.repeats ++ leBytes 2 c.dMax ++ leBytes 2 c.dMean ++
    leBytes 2 c.contrast ++ leBytes 1 c.elongation ++ leBytes 1 c.mask ++ leBytes 4 c.crop ++ leBytes 2 c.cams ++ leBytes 1 c.segment
  body ++ leBytes 1 (crc8 body)

/-- Whether CQ takes a Crumb now (R302, R346). -/
def State.cqRoom (s : State) : Bool := s.runs .cq && decide (s.depth cqIx + 8 ≤ queueCapacity cqIx)

/-- CQ_WAIT and PRODUCER_WAIT: a Crumb waits for CQ (R302, R381). -/
def State.showCqWait (s : State) : State :=
  let waits := s.cls.crumbs != [] && !s.cqRoom
  (s.putBit Ix.clsClassifierStatus 0 csCqWait waits).putBit Ix.dlvQueueFlags 1 qProducerWait waits

/-- A Crumb formed: it waits for CQ. -/
def State.formCrumb (s : State) (c : Crumb) : State :=
  { s with cls := { s.cls with crumbs := s.cls.crumbs ++ [crumbOctets c] } }.showCqWait

/-- The first waiting Crumb enters CQ where there is room for the whole of it (R302). -/
def State.pushCrumb (s : State) : State :=
  match s.cls.crumbs with
  | [] => s
  | c :: rest =>
    if s.cqRoom then
      let s1 := ({ s with cls := { s.cls with crumbs := rest } }.bump Ix.clsCrumbsIssued 0 1).bump Ix.clsCrumbsByType (octAt c 0) 1
      let s2 := ((s1.push cqIx 0 false c).showCqWait).tally 0x40 0 1
      if octAt c 0 = 1 then s2.takeFree.sample 6 0 (Config.latency s2.free) (some (leAt c 8 8, leAt c 32 8)) else s2
    else s.showCqWait

/-! ### What CLS reads of a record -/

/-- A blob or streak as CLS handles it (R293, R295, R335). -/
structure ClsBlob where
  streak : Bool
  base : Crumb
  centreCol : Nat
  centreLine : Nat

/-- Bits 0, 2, 4 … or 1, 3, 5 … as cameras in pairs: bit k where camera 2k or 2k + 1 is set (R293). -/
def cameraPairs (m : Nat) : Nat :=
  ((List.range 16).map (fun k => if m.testBit (2 * k) || m.testBit (2 * k + 1) then 2 ^ k else 0)).sum

/-- A blob record as a DEFECT Crumb (R293), a streak event as a STREAK Crumb of the page active at its start (R295). -/
def clsBlob (r : Octets) (page : Nat) : ClsBlob :=
  if leAt r 0 2 = 0x0008 then
    { streak := true, centreLine := 0, centreCol := min 65535 (8 * (leAt r 0x1C 4 - leAt r 0x18 4)),
      base := { type := 2, lp0 := leAt r 8 8, lp1 := leAt r 0x10 8, col0 := leAt r 0x18 4, col1 := leAt r 0x1C 4, time := leAt r 0x20 8,
                page := page, dMax := leAt r 0x28 2, dMean := leAt r 0x2A 2, contrast := leAt r 0x2C 2 } }
  else
    { streak := false, centreLine := leAt r 0x3E 2, centreCol := leAt r 0x3C 2,
      base := { type := 1, flags := (octAt r 3 % 128) * 2 ^ 16, lp0 := leAt r 8 8, lp1 := leAt r 0x10 8, col0 := leAt r 0x18 4,
                col1 := leAt r 0x1C 4, time := leAt r 0x20 8, page := leAt r 0x28 4, area := leAt r 0x2C 4, dMax := leAt r 0x34 2,
                dMean := leAt r 0x36 2, contrast := leAt r 0x38 2, elongation := octAt r 7, mask := octAt r 6,
                cams := cameraPairs (leAt r 0x30 4), segment := octAt r 4 } }

/-- The start LP of a page that CLS keeps (R291). -/
def State.pageStart (s : State) (page : Nat) : Option Nat :=
  if page = 0 then none else (s.cls.pages.find? (fun p => p.1 == page)).map (fun p => p.2)

/-- The page active at an LP, 0 where none is known (R295). -/
def State.pageAt (s : State) (lp : Nat) : Nat := ((s.cls.pages.find? (fun p => decide (p.2 ≤ lp))).map (fun p => p.1)).getD 0

/-- A feature of a blob record (R297). -/
def State.feature (s : State) (r : Octets) (code : Nat) : Int :=
  match code with
  | 0 => leAt r 0x2C 4
  | 1 => leAt r 0x34 2
  | 2 => leAt r 0x36 2
  | 3 => leInt r 0x38 2
  | 4 => octAt r 7
  | 5 => leAt r 0x3A 2
  | 6 => leAt r 0x1C 4 - leAt r 0x18 4 + 1
  | 7 => octAt r 5
  | 8 => octAt r 6
  | 9 => octAt r 3
  | 10 => leAt r 0x18 4 + leAt r 0x3C 2 / 16
  | _ =>
    match s.pageStart (leAt r 0x28 4) with
    | some p => (leAt r 8 8 / 65536 - p / 65536 : Nat)
    | none => 0xFFFFFFFF

/-- The class of a blob: the tree evaluated from a node on (R297). -/
def State.treeClass (s : State) (tree r : Octets) : Nat → Nat → Nat
  | 0, _ => 0
  | fuel + 1, node =>
    let n := (tree.drop (8 * node)).take 8
    let code := octAt n 0
    let v := s.feature r code
    let th : Int := if code = 3 then leInt n 4 4 else leAt n 4 4
    let yes := if octAt n 1 = 0 then decide (v < th) else ((toPattern 32 v) &&& (toPattern 32 th)) != 0
    let child := if yes then octAt n 2 else octAt n 3
    if child < 128 then s.treeClass tree r fuel child else child % 16

/-- Whether a tree is accepted: valid nodes, no path that visits a node twice or passes more than 16 nodes (R298). -/
def treePathOk (tree : Octets) : Nat → List Nat → Nat → Bool
  | 0, _, _ => false
  | fuel + 1, seen, node =>
    let n := (tree.drop (8 * node)).take 8
    let childOk (c : Nat) : Bool :=
      if c < 128 then treePathOk tree fuel (node :: seen) c else decide (c < 0x90)
    !(seen.contains node) && decide (octAt n 0 ≤ 11) && decide (octAt n 1 ≤ 1) && childOk (octAt n 2) && childOk (octAt n 3)

/-- Whether a transfer to the tree is accepted (R298). -/
def treeOk (tree : Octets) : Bool :=
  decide (tree.length = 1024) && treePathOk tree 16 [] 0

/-- A class entry's fields (R299). -/
abbrev clFlags (e : Octets) : Nat := octAt e 0
abbrev clOutput (e : Octets) : Nat := octAt e 1
abbrev clRepeat (e : Octets) : Nat := octAt e 2
abbrev clMargin (e : Octets) : Nat := leAt e 4 2
abbrev clBefore (e : Octets) : Nat := leAt e 6 2
abbrev clAfter (e : Octets) : Nat := leAt e 8 2
abbrev clMerge (e : Octets) : Nat := leAt e 0xA 2
abbrev clTag (e : Octets) : Nat := leAt e 0xC 4

/-- Whether a transfer to the class table is accepted (R299). -/
def classTableOk (t : Octets) : Bool :=
  decide (t.length = 256) && (chunks 16 16 t).all (fun e =>
    decide (clFlags e < 64) && decide (clOutput e ≤ 47) && (decide (clRepeat e ≤ 15) || clRepeat e == 255) && octAt e 3 == 0)

/-- The class entry in force of a class (R299). -/
def State.classEntry (s : State) (c : Nat) : Octets := ((s.rdfo Ix.clsClassTable 0).drop (16 * c)).take 16

/-! ### The ledger -/

/-- What a ledger lookup answers (R307, R308, R311). -/
structure LedgerHit where
  used : Bool
  err : Bool := false
  index : Nat := 0
  repeats : Nat := 0
  hits : Nat := 0
  cls : Nat := 0
  repeating : Bool := false
  report : Bool := false

/-- Whether a DMC channel of the ledger region is not Running (R311). -/
def State.ledgerOff (s : State) : Bool :=
  s.dmc.map.any (fun c => (dmcChan c).all (fun n => !s.runs (.dmc n)))

/-- The key of a blob of a class (R304): `start` is the page's start LP. -/
def State.ledgerKey (s : State) (b : ClsBlob) (cls : Nat) (byColumn : Bool) (start : Nat) : Nat :=
  let cx := ((16 * b.base.col0 + b.centreCol) / (16 * s.rd Ix.clsLedgerCellWidth 0)) % 2 ^ 18
  let cy := if byColumn then 0 else
    ((b.base.lp0 - start + b.centreLine * 4096) / (s.rd Ix.clsLedgerCellHeight 0 * 65536)) % 2 ^ 20
  cx + cy * 2 ^ 18 + bitNat byColumn * 2 ^ 38 + cls * 2 ^ 39

/-- The bucket of a key (R304). -/
def State.bucketOf (s : State) (key : Nat) : Nat := (key * s.rd Ix.clsHashMultiplier 0 % 2 ^ 64) >>> 42

/-- A ledger entry's fields (R303). -/
abbrev enValid (e : Octets) : Bool := (octAt e 7).testBit 7
abbrev enKey (e : Octets) : Nat := leAt e 0 8 % 2 ^ 43
abbrev enFirst (e : Octets) : Nat := leAt e 8 4
abbrev enLast (e : Octets) : Nat := leAt e 0xC 4
abbrev enHits (e : Octets) : Nat := leAt e 0x10 4
abbrev enRepeat (e : Octets) : Nat := leAt e 0x14 2
abbrev enFlags (e : Octets) : Nat := octAt e 0x16
abbrev enClass (e : Octets) : Nat := octAt e 0x17

/-- An entry's octets (R303). -/
def entryOctets (key first last hits repeats flags cls lp : Nat) : Octets :=
  leBytes 8 (key + 2 ^ 63) ++ leBytes 4 first ++ leBytes 4 last ++ leBytes 4 (min hits (2 ^ 32 - 1)) ++ leBytes 2 (min repeats 65535) ++
  leBytes 1 flags ++ leBytes 1 cls ++ leBytes 8 lp

/-- The slot of the lowest last page among some slots, the lowest slot on ties (R306). -/
def oldestSlot : List (Nat × Octets) → Option Nat
  | [] => none
  | (i, e) :: rest =>
    match rest.foldl (fun (b : Nat × Octets) x => if enLast x.2 < enLast b.2 then x else b) (i, e) with
    | (j, _) => some j

/-- The slot a blob uses, whether its entry is new, and whether one is evicted (R305, R306). -/
def chooseSlot (slots : List Octets) (key page age : Nat) : Nat × Bool × Bool :=
  let ixs := (List.range 8).zip slots
  match ixs.find? (fun x => enValid x.2 && enKey x.2 == key) with
  | some x => (x.1, false, false)
  | none =>
    match ixs.find? (fun x => !enValid x.2 || decide (enLast x.2 + age < page)) with
    | some x => (x.1, true, false)
    | none =>
      match oldestSlot (ixs.filter (fun x => !(enFlags x.2).testBit 0)) with
      | some i => (i, true, true)
      | none => ((oldestSlot ixs).getD 0, true, true)

/-- A blob handled by the ledger (R305 to R311): while a channel is not Running, or while no memory is mapped, as with a failed read that is not
counted. -/
def State.ledgerUpdate (s : State) (key page lp cls : Nat) : State × LedgerHit :=
  let bucket := s.bucketOf key
  if s.ledgerOff || s.dmc.map == [] then
    ((s.setBit Ix.clsLedgerStatus 0 lsErr).cross (eventCode 16 0 3) (some (lp, s.stamp)) (bucket * 8), { used := false, err := true })
  else if s.bit Ix.clsLedgerStatus 0 lsSweeping && decide (s.rd Ix.clsSweepPointer 0 ≤ bucket) then (s, { used := false })
  else
    let addr := (s.region 1).1 + bucket * 256
    let (bs, bad, s1) := s.dramFetch 4 addr 256
    if bad then
      (((s1.bump Ix.clsLedgerErrors 0 1).setBit Ix.clsLedgerStatus 0 lsErr).cross (eventCode 16 0 3) (some (lp, s1.stamp)) (bucket * 8),
       { used := false, err := true })
    else
      let slots := chunks 32 8 bs
      let (i, new, evicts) := chooseSlot slots key page (s1.rd Ix.clsAgeLimit 0)
      let e := slots.getD i []
      let gap := s1.rd Ix.clsPageGap 0
      let restart := !new && decide (enLast e + gap < page)
      let again := !new && decide (page ≤ enLast e)
      let hits := if new then 1 else enHits e + 1
      let repeats := if new || restart then 1 else if again then enRepeat e else enRepeat e + 1
      let first := if new || restart then page else enFirst e
      let last := if again then enLast e else page
      let flags := if new || restart then 0 else enFlags e
      let report := decide (s1.rd Ix.clsRepeatThreshold 0 ≤ min repeats 65535) && !flags.testBit 1
      let flags' := if report then 3 else flags
      let ecls := if new then cls else enClass e
      let e' := entryOctets key first last hits repeats flags' ecls lp
      let s2 := (s1.dramStore (addr + 32 * i) e').bump Ix.clsLedgerLookups 0 1
      let s3 := if new then s2.bump Ix.clsLedgerInserts 0 1 else s2
      let s4 := if evicts then
          (if (enFlags e).testBit 0 then s3.setBit Ix.clsLedgerStatus 0 lsEvict else s3).bump Ix.clsLedgerEvictions 0 1 else s3
      let filled := (slots.set i e').countP (fun x => enValid x)
      let s5 := s4.raiseTo Ix.clsBucketHighWater 0 filled
      let index := bucket * 8 + i
      let s6 := if report then
          ((s5.bump Ix.clsRepeatsFound 0 1).setBit Ix.clsLedgerStatus 0 lsRepeat).cross (eventCode 16 0 2) (some (lp, s5.stamp)) index else s5
      (s6, { used := true, index := index, repeats := min repeats 65535, hits := hits, cls := ecls, repeating := flags'.testBit 0,
             report := report })

/-- A sweep of the ledger starts from bucket 0 (R310). -/
def State.startSweep (s : State) : State := (s.setBit Ix.clsLedgerStatus 0 lsSweeping).wr Ix.clsSweepPointer 0 0

/-- CLEAR of the ledger (R310). -/
def State.ledgerClear (s : State) (v : Nat) : State × Code :=
  if v ≠ 1 then (s, .outOfRange)
  else if s.bit Ix.clsLedgerStatus 0 lsSweeping then (s, .busy)
  else (s.startSweep, .ok)

/-- One bucket of a sweep is written empty (R310). -/
def State.sweepStep (s : State) : State :=
  if s.bit Ix.clsLedgerStatus 0 lsSweeping then
    let b := s.rd Ix.clsSweepPointer 0
    let s1 := (s.dramStore ((s.region 1).1 + b * 256) (zeros 256)).wr Ix.clsSweepPointer 0 (b + 1)
    if b + 1 = 2 ^ 22 then s1.clearBit Ix.clsLedgerStatus 0 lsSweeping else s1
  else s

/-- A DMC channel's retirement starts the sweep at its boundary (R310, R399). -/
def State.ledgerInvalidated (s : State) : State := s.startSweep.setBit Ix.clsLedgerStatus 0 lsInvalidated

/-- The Entry at cursor object: read from DRAM at the read (R317). -/
def State.entryAtCursor (s : State) : Octets := s.dramBytes ((s.region 1).1 + 32 * s.rd Ix.clsEntryCursor 0) 32

/-! ### Actions -/

/-- A crop request of a class (R300): the Crumb with its handle, or CROP_REFUSED. -/
def State.requestCrop (s : State) (e : Octets) (c : Crumb) : State × Crumb :=
  let base := s.rd Ix.stxColumnBase 0
  let w := s.localWidth s.placesNow
  let within (g : Nat) : Nat := min (base + w - 1) (max base g)
  let lo := within (c.col0 - clMargin e)
  let hi := within (c.col1 + clMargin e)
  let last := s.rd Ix.clsLastCropHandle 0
  let h := if (last + 1) % 2 ^ 32 = 0 then 1 else last + 1
  let s1 := (s.wr Ix.clsLastCropHandle 0 h).bump Ix.clsCropsRequested 0 1
  let (s2, ok) := s1.cropRequest h (lo - base) (hi - lo + 1) (c.lp0 / 65536 - clBefore e) (c.lp1 / 65536 + clAfter e)
  let c' := { c with act := c.act ||| 1 }
  if ok then (s2, { c' with crop := h })
  else ((s2.bump Ix.clsCropsRefused 0 1).setBit Ix.clsClassifierStatus 0 csCropRefused, { c' with flags := c'.flags + cfCropRefused })

/-- The action word of a mark (R301). -/
def markAction (output : Nat) (lateFire : Bool) : Nat := output + 2 ^ 12 * bitNat lateFire

/-- A mark request of a class: ACT_MARK shows one that was made, not one merged with an earlier mark (R292, R301). -/
def State.requestMark (s : State) (e : Octets) (c : Crumb) : State × Crumb :=
  let o := clOutput e
  let target := c.lp0 + s.rd Ix.pscMarkerDistance (o + 1)
  if (s.cls.marks.find? (fun m => m.1 == o)).any (fun m => decide (m.2 ≤ target ∧ target < m.2 + clMerge e * 65536)) then
    (s.bump Ix.clsMarksMerged 0 1, { c with flags := c.flags + cfMarkMerged })
  else
    let action := markAction o (s.rd Ix.clsLateMarkPolicy 0 == 1)
    let late := targetMet s.lp (s.effectiveTarget target action) action
    let s1 := { s with cls := { s.cls with marks := (o, target) :: s.cls.marks.filter (fun m => m.1 != o) } }.bump Ix.clsMarksRequested 0 1
    let (s2, code) := s1.pscRequest target action (clTag e) false
    let isLate := code == .ok && late
    let failed := code != .ok || (late && s.rd Ix.clsLateMarkPolicy 0 == 0)
    let s3 := if isLate then s2.setBit Ix.clsClassifierStatus 0 csMarkLate else s2
    let s4 := if failed then
        ((s3.bump Ix.clsMarkFailures 0 1).setBit Ix.clsClassifierStatus 0 csMarkFailed).cross (eventCode 16 0 1) (some (c.lp0, s3.stamp)) c.ledger
      else s3
    (s4, { c with act := c.act ||| 2, flags := c.flags + (if isLate then cfMarkLate else 0) + (if failed then cfMarkFailed else 0) })

/-! ### Input -/

/-- A blob or streak after its ledger lookup: the REPEAT Crumb, promotion, the class's actions, the Crumb (R296, R308). -/
def State.finishBlob (s : State) (b : ClsBlob) (cls : Nat) (hit : LedgerHit) : State :=
  let w := s.rd Ix.clsLedgerCellWidth 0
  let cell := (16 * b.base.col0 + b.centreCol) / (16 * w)
  let s1 := if hit.report then s.formCrumb
      { type := 8, ledger := hit.index, cls := hit.cls, lp0 := b.base.lp0, lp1 := b.base.lp1, col0 := cell * w, col1 := cell * w + w - 1,
        time := b.base.time, page := b.base.page, area := hit.hits, repeats := hit.repeats }
    else s
  let promoted := clRepeat (s1.classEntry cls)
  let c := if hit.used && hit.repeating && promoted != 255 then promoted else cls
  let e := s1.classEntry c
  if !(clFlags e).testBit 0 then s1.bump Ix.clsBlobsDiscardedByClass (c + 1) 1
  else
    let crumb : Crumb := { b.base with
      cls := c, ledger := hit.index, repeats := hit.repeats
      flags := b.base.flags + (if hit.used then 0 else cfLedgerNone) + (if hit.err then cfLedgerErr else 0) +
        (if hit.used && hit.repeating then cfRepeating else 0) }
    let (s2, c1) := if (clFlags e).testBit 1 then s1.requestCrop e crumb else (s1, crumb)
    let (s3, c2) := if (clFlags e).testBit 2 then s2.requestMark e c1 else (s2, c1)
    let (s4, c3) := if (clFlags e).testBit 3 then
        (s3.cross (eventCode 16 0 0) (some (c2.lp0, s3.stamp)) c, { c2 with act := c2.act ||| 4 }) else (s3, c2)
    (if b.streak then s4 else s4.bump Ix.clsBlobsByClass (c + 1) 1).formCrumb c3

/-- A blob record or streak event is classified; with a LEDGER class and a known page its lookup goes out, else it is finished (R296,
R335). -/
def State.classify (s : State) (r : Octets) : State :=
  let streak := leAt r 0 2 == 0x0008
  let page := if streak then s.pageAt (leAt r 8 8) else leAt r 0x28 4
  let b := clsBlob r page
  let c := if streak then s.rdf Ix.clsStreakClass 0 else s.treeClass (s.rdfo Ix.clsClassifierTree 0) r 17 0
  let e := s.classEntry c
  let byColumn := (clFlags e).testBit 5
  let direct := s.rd Ix.segInputSource 0 == 1
  let start := s.pageStart page
  let looks := (clFlags e).testBit 4 && (if direct then byColumn else start.isSome)
  if looks then
    let number := if direct then b.base.lp0 / 65536 / s.strip % 2 ^ 32 else page
    { s with cls := { s.cls with lookup := some { record := r, cls := c, key := s.ledgerKey b c byColumn (start.getD 0), page := number } } }
  else s.finishBlob b c { used := false }

/-- The lookup in flight is handled by the ledger and its blob finished (R305, R309). -/
def State.lookUp (s : State) : State :=
  match s.cls.lookup with
  | none => s
  | some l =>
    let page := if leAt l.record 0 2 == 0x0008 then s.pageAt (leAt l.record 8 8) else leAt l.record 0x28 4
    let b := clsBlob l.record page
    let (s1, hit) := ({ s with cls := { s.cls with lookup := none } }.tally 0x42 0 1).ledgerUpdate l.key l.page b.base.lp0 l.cls
    s1.finishBlob b l.cls hit

/-- The Crumbs of a strip summary, each kind where it is enabled, in the order 4, 5, 7, 6 (R295). -/
def State.summaryCrumbs (s : State) (r : Octets) : State :=
  let f := octAt r 3
  let on (b : Nat) : Bool := (s.rdf Ix.clsSummaryCrumbsEnable 0).testBit b
  let strip := leAt r 8 8
  let base : Crumb := { type := 0, flags := cfLedgerNone, lp0 := strip * s.strip * 65536, lp1 := ((strip + 1) * s.strip - 1) * 65536, time := s.stamp }
  let unseen := leAt r 0x20 4
  let segs := (List.range 32).filter (fun k => unseen.testBit k)
  let col := s.rd Ix.stxColumnBase 0
  let w := s.localWidth s.placesNow
  let s1 := if f.testBit 1 && on 0 then s.formCrumb { base with type := 4, area := leAt r 0x14 4 } else s
  let s2 := if f.testBit 0 && on 1 then
      s1.formCrumb { base with type := 5, area := leAt r 0x10 4, col0 := leAt r 0x18 4, col1 := leAt r 0x1C 4 } else s1
  let s3 := if f.testBit 2 && on 2 then
      s2.formCrumb { base with type := 7, crop := unseen, col0 := col + segs.head?.getD 0 * 8192,
                               col1 := col + min (segs.getLast?.getD 0 * 8192 + 8191) (w - 1) } else s2
  if f.testBit 3 && on 3 then s3.formCrumb { base with type := 6 } else s3

/-- The NO_MASTER Crumb of a page record (R295, R315). -/
def State.pageCrumb (s : State) (r : Octets) : State :=
  if (s.rdf Ix.clsSummaryCrumbsEnable 0).testBit 4 then
    s.formCrumb { type := 3, flags := cfLedgerNone + (if (octAt r 3).testBit 3 then cfTruncated else 0), lp0 := leAt r 8 8, lp1 := leAt r 0x10 8,
                  time := leAt r 0x20 8, page := leAt r 4 4, mask := octAt r 0x28 }
  else s

/-- The RWB values of CLS come into force after a strip's summary (R299). -/
def State.clsBoundary (s : State) : State :=
  ((s.forceAll 0 [Ix.clsStreakClass, Ix.clsSummaryCrumbsEnable]).forceo Ix.clsClassifierTree 0).forceo Ix.clsClassTable 0

/-- The next input, in the order SEG, MRE, PFC (R291). -/
def State.clsNext (s : State) : Option (Octets × State) :=
  match s.seg.fifo, s.mre.toCls, s.pfc.fifo with
  | r :: rest, _, _ => some (r, { s with seg := { s.seg with fifo := rest } })
  | [], r :: rest, _ => some (r, { s with mre := { s.mre with toCls := rest } })
  | [], [], r :: rest => some (r, { s with pfc := { s.pfc with fifo := rest } })
  | [], [], [] => none

/-- CLS takes one input, while no Crumb waits and no lookup is in flight (R291, R302, R312). -/
def State.clsInput (s : State) : State :=
  if s.cls.crumbs != [] || s.cls.lookup.isSome then s
  else
    match s.clsNext with
    | none => s
    | some (r, t) =>
      if !(t.runs .cls || t.drains .cls) then t.discard .cls 1
      else if leAt r 0 2 = 0x0007 then
        if t.cls.begun then (t.summaryCrumbs r).clsBoundary
        else ({ t with cls := { t.cls with begun := true } } : State).clsBoundary
      else if !t.cls.begun then t.discard .cls 1
      else if leAt r 0 2 = 0x0004 then t.pageCrumb r
      else t.classify r

/-! ### States -/

/-- What ARM checks of CLS beside the channels it depends on (R401). -/
def State.clsArmable (s : State) : Bool := decide (s.dmc.map ≠ [])

/-- CLS enters Running: it waits for the first strip summary; crop handles begin at 1 (R300, R312). -/
def State.clsStarts (s : State) : State :=
  { s with cls := { s.cls with begun := false, marks := [] } }.wr Ix.clsLastCropHandle 0 0

/-- Whether CLS's drain has ended (R312). -/
def State.clsDrained (s : State) : Bool :=
  !(s.runs .seg) && !(decide (s.fn .seg = .draining)) && s.seg.fifo == [] && s.mre.toCls == [] && s.pfc.fifo == [] &&
  s.cls.crumbs == [] && s.cls.lookup.isNone

/-- Drain timeout, ABORT or fault: waiting inputs are discarded, and one TRUNCATION Crumb counts their blob records; a lookup in flight
completes its write (R312). -/
def State.clsTruncate (s : State) : State :=
  let blobs := s.seg.fifo.countP (fun r => leAt r 0 2 == 0x0006) + bitNat s.cls.lookup.isSome
  let s1 := match s.cls.lookup with
    | some l => ({ s with cls := { s.cls with lookup := none } }.ledgerUpdate l.key l.page (leAt l.record 8 8) l.cls).1
    | none => s
  let s2 : State := { s1 with seg := { s1.seg with fifo := [] }, mre := { s1.mre with toCls := [] }, pfc := { s1.pfc with fifo := [] } }
  let strip := (s2.seg.next.getD 1 - 1) / s2.strip
  if blobs = 0 then s2
  else s2.formCrumb { type := 6, flags := cfLedgerNone, lp0 := strip * s2.strip * 65536, lp1 := ((strip + 1) * s2.strip - 1) * 65536,
                      time := s2.stamp, area := blobs }

end Sys2Proof.Machine
end

