-- ==== Sys2Proof/Machine/Dma.lean ====
section
/-! DEFINITION. The DMA channels, their rings and Trays, and the PCI Express endpoint (R357 to R375). -/

namespace Sys2Proof.Machine

/-- The flags of Channel status (R381). -/
abbrev chPaused : Nat := 1
abbrev chBad : Nat := 3
abbrev chFetchFail : Nat := 4
abbrev chRingErr : Nat := 5
abbrev chShadowLate : Nat := 7
abbrev chLost : Nat := 8

/-- The close reasons of a Tray (R361). -/
abbrev crFull : Nat := 1
abbrev crTimeout : Nat := 2
abbrev crFlush : Nat := 3
abbrev crDrain : Nat := 4
abbrev crTruncated : Nat := 5
abbrev crPowerFail : Nat := 6

/-- The status values of a descriptor (R359). -/
abbrev dsDone : Nat := 1
abbrev dsBad : Nat := 2
abbrev dsInvalid : Nat := 3
abbrev dsAborted : Nat := 4

/-- A channel's bookkeeping, and the same replaced. -/
def State.chan (s : State) (c : Fin 32) : DmaChan := s.dma[c]
def State.setChan (s : State) (c : Fin 32) (x : DmaChan) : State := { s with dma := s.dma.set c x }

/-- A channel's source, its ring entries and its consumer index (R357, R358). -/
def State.chanSource (s : State) (c : Fin 32) : Nat := s.rd Ix.dlvChannelSource (c.val + 1)
def State.ringEntries (s : State) (c : Fin 32) : Nat := s.rd Ix.dlvRingEntries (c.val + 1)
def State.consumer (s : State) (c : Fin 32) : Nat := s.rd Ix.dlvConsumerIndex (c.val + 1)
def State.producer (s : State) (c : Fin 32) : Nat := s.rd Ix.dlvProducerIndex (c.val + 1)

/-- Where a descriptor lies in host memory (R358). -/
def State.descriptorAt (s : State) (c : Fin 32) (i : Nat) : Nat := s.rd Ix.dlvRingBase (c.val + 1) + 32 * (i % s.ringEntries c)

/-- Whether the device may master the bus: with the link down, Bus Master Enable clear or PCIE not Running, the channels act as paused
(R374). -/
def State.busOpen (s : State) : Bool := s.pcie.linkUp && s.pcie.busMaster && s.runs .pcie

/-- Whether a channel may fetch and pop: DMA is Running or Draining, the channel has a source and is not held (R365, R374, R375). -/
def State.chanWorks (s : State) (c : Fin 32) : Bool :=
  (s.runs .dma || s.drains .dma) && s.chanSource c != 0 && c.val != 31 && !(s.chan c).paused && s.busOpen

/-- Whether a channel still carries out what it has in hand: a PAUSE does not hold it (R365), and what an ABORT leaves is a status that waits for
its FENCE read (R363, R375). -/
def State.chanFinishes (s : State) (c : Fin 32) : Bool := c.val != 31 && (s.chan c).current.isSome && s.busOpen

/-- A flag of Channel status set; BAD, FETCH_FAIL and RING_ERR raise vector 36 (R371). -/
def State.chanFlag (s : State) (c : Fin 32) (b : Nat) : State :=
  let t := s.setBit Ix.dlvChannelStatus (c.val + 1) b
  if b = chBad ∨ b = chFetchFail ∨ b = chRingErr then t.msix 36 else t

/-- Whether PCIE carries the device's writes: with the link down or Bus Master Enable clear it reports them as failed (R366). -/
def State.writesPass (s : State) : Bool := s.pcie.linkUp && s.pcie.busMaster

/-- The write accesses that carry octets to an address of host memory (R364). -/
def State.writeAccesses (s : State) (addr : Nat) (data : Octets) : List Output :=
  (accessesFor s.maxPayload data.length addr data.length).map (fun a => .hostWrite a.1 ((data.drop (a.1 - addr)).take a.2))

/-- A write of the device to host memory, counted (R364, R381). The octets `lead` stand before it since the last 64-byte boundary: a Tray's
accesses begin on one, so they go with it once more and are not counted again (DESIGN CHOICE). -/
def State.hostWrite (s : State) (c : Fin 32) (addr : Nat) (lead data : Octets) : State :=
  if data = [] || !s.writesPass then s
  else
    ((s.emits (s.writeAccesses (addr - lead.length) (lead ++ data))).bump Ix.dlvBytesWritten (c.val + 1) data.length).tally 0x50 c.val data.length

/-- A producer index written: one that would run more than the ring ahead of the consumer is ignored (R358); channel 31's doorbell is
not there (R370). -/
def State.doorbell (s : State) (c : Fin 32) (v : Nat) : State :=
  if c = 31 then s
  else
    let t := s.setChan c { s.chan c with bell := v }
    if s.ringEntries c < (v + 2 ^ 32 - s.consumer c) % 2 ^ 32 then t.chanFlag c chRingErr
    else t.wr Ix.dlvProducerIndex (c.val + 1) v

/-! ### Descriptors -/

/-- The fields of a descriptor (R358). -/
abbrev deAddr (d : Octets) : Nat := leAt d 0 8
abbrev deLen (d : Octets) : Nat := leAt d 8 4
abbrev deControl (d : Octets) : Nat := leAt d 0x0C 2
abbrev deFence (d : Octets) : Bool := (deControl d).testBit 0
abbrev deIrq (d : Octets) : Bool := (deControl d).testBit 1
abbrev deToHost (d : Octets) : Bool := (deControl d).testBit 2
abbrev deDevice (d : Octets) : Nat := leAt d 0x10 8

/-- Whether a descriptor is valid for its channel's source (R359). -/
def State.descriptorOk (s : State) (c : Fin 32) (d : Octets) : Bool :=
  decide (deControl d < 8) && leAt d 0x0E 2 == 0 &&
  (if s.chanSource c = 6 then decide (deLen d ≠ 0) && s.inWork (deDevice d) (deLen d)
   else deAddr d % 4096 == 0 && deLen d % 4096 == 0 && decide (2 ^ 21 ≤ deLen d) && decide (deLen d ≤ 2 ^ 30) && deDevice d == 0 &&
     !deToHost d)

/-- How many descriptors are posted (R358). DEDUCED: a producer index that stands more than the ring ahead of the consumer, as after a
hand-over or a Function Level Reset, posts none until the doorbell is written again. -/
def State.posted (s : State) (c : Fin 32) : Nat :=
  let n := (s.producer c + 2 ^ 32 - s.consumer c) % 2 ^ 32
  if s.ringEntries c < n then 0 else n

/-- The next descriptor a channel would fetch, where it may: posted, within the prefetch depth, no read failing (R358, R360, R365). A copy
channel fetches none in a drain (R375). -/
def State.fetchIndex (s : State) (c : Fin 32) : Option Nat :=
  let x := s.chan c
  let i := (s.consumer c + x.fetched.length) % 2 ^ 32
  let posted := decide (x.fetched.length < s.posted c)
  if (s.runs .dma || s.chanSource c != 6) && s.chanWorks c && posted && x.failing.isNone && decide (x.fetched.length < s.rd Ix.dlvPrefetchDepth (c.val + 1)) then some i
  else none

/-- A descriptor's status octets written back (R359, R362); they are no part of the bytes of Trays and copies that Bytes written counts. -/
def State.writeStatus (s : State) (place status reason used : Nat) : State :=
  if s.writesPass then s.emit (.hostWrite (place + 0x18) (leBytes 1 status ++ leBytes 1 reason ++ leBytes 2 0 ++ leBytes 4 used)) else s

/-- A shadow hand-over: the shadow ring becomes the ring, and a failed descriptor read of the old ring is not retried (R367). -/
def State.handOver (s : State) (c : Fin 32) (i : Nat) : State :=
  let sub := c.val + 1
  if s.rd Ix.dlvShadowArm sub = 0 then s
  else
    let x := s.chan c
    let t := s.setChan c { x with
      fetched := [], handed := some s.ns, failing := if x.failing = some .descriptor then none else x.failing }
    let t := (((t.wr Ix.dlvRingBase sub (s.rd Ix.dlvShadowRingBase sub)).wr Ix.dlvRingEntries sub (s.rd Ix.dlvShadowRingEntries sub)).wr
      Ix.dlvConsumerIndex sub (s.rd Ix.dlvShadowStartIndex sub)).wr Ix.dlvShadowArm sub 0
    t.cross (eventCode 19 c.val 2) none i

/-- The hand-over of a copy channel: a descriptor of it completes (R367). -/
def State.copyHandOver (s : State) (c : Fin 32) (i : Nat) : State := if s.chanSource c = 6 then s.handOver c i else s

/-- A descriptor marked BAD: flag, count, event (R360, R366). -/
def State.markBad (s : State) (c : Fin 32) (i : Nat) : State :=
  ((s.chanFlag c chBad).bump Ix.dlvBadDescriptors (c.val + 1) 1).cross (eventCode 19 c.val 1) none i

/-- A descriptor read completes (R358, R360, R373): its octets are kept, or the read has failed and waits for its retry. -/
def State.fetched (s : State) (c : Fin 32) (desc : Octets) (ok : Bool) : State :=
  match s.fetchIndex c with
  | none => s
  | some i =>
    let x := s.chan c
    let t := s.hostFetch c (s.descriptorAt c i) 32
    if ok then t.setChan c { x with fetched := x.fetched ++ [(i, desc)] }
    else t.setChan c { x with failing := some .descriptor }

/-- Descriptors at the head that cannot be used are completed and passed: those whose fetch failed, and INVALID ones (R359, R360); a hand-over of
a copy channel that one brings forgets what was fetched of the old ring (R367). -/
def State.skipUnusable (s : State) (c : Fin 32) : Nat → State
  | 0 => s
  | n + 1 =>
    let x := s.chan c
    match x.fetched with
    | [] => s
    | (i, d) :: rest =>
      let s1 := (s.setChan c { x with fetched := rest }).wr Ix.dlvConsumerIndex (c.val + 1) (i + 1)
      if d = [] then (s1.copyHandOver c i).skipUnusable c n
      else if s.descriptorOk c d then s
      else
        let t := s1.writeStatus (s.descriptorAt c i) dsInvalid 0 0
        let u := (if deIrq d then t.msix c.val else t).cross (eventCode 19 c.val 0) none i
        ((u.tally 0x51 c.val 1).copyHandOver c i).skipUnusable c n

/-- The next usable descriptor is taken (R358, R361). -/
def State.takeDescriptor (s : State) (c : Fin 32) : Option (Nat × Octets) × State :=
  let t := s.skipUnusable c (s.chan c).fetched.length
  let x := t.chan c
  match x.fetched with
  | [] => (none, t)
  | (i, d) :: rest =>
    (some (i, d), (t.setChan c { x with fetched := rest, current := some (i, d), place := t.descriptorAt c i }).wr Ix.dlvConsumerIndex (c.val + 1) (i + 1))

/-! ### Trays -/

/-- The live LP as a channel samples it. -/
abbrev State.liveLp (s : State) : Nat := s.seenLp

/-- The LP of a record for the Tray footer (R594); `header` says whether it is the header of an image strip. -/
def State.recordLp (s : State) (poisoned header : Bool) (source : Nat) (r : Octets) : Nat :=
  if poisoned then s.liveLp
  else if source = 1 then leAt r 0x10 8
  else if source = 4 then leAt r 8 8
  else if source = 5 then (if header then leAt r 0x10 8 else leAt r 0 8)
  else
    let t := leAt r 0 2
    if t = 0x0002 ∨ t = 0x0004 ∨ t = 0x0008 ∨ t = 0x000B then leAt r 0x10 8
    else if t = 0x000A ∨ t = 0x000E then leAt r 8 8
    else s.liveLp

/-- A Tray opens in a descriptor: its header is written (R361). -/
def State.openTray (s : State) (c : Fin 32) (i : Nat) (d : Octets) : State :=
  let seq := s.rd Ix.dlvTraySequence (c.val + 1) + 1
  let x := s.chan c
  let header := leBytes 4 0x59525448 ++ leBytes 2 1 ++ leBytes 1 (s.chanSource c) ++ leBytes 1 c.val ++ leBytes 8 seq ++ leBytes 4 i ++
    leBytes 4 0 ++ leBytes 8 s.liveLp ++ leBytes 8 s.stamp ++ leBytes 8 x.delivered ++ leBytes 4 (deLen d) ++ zeros 12
  ((s.setChan c { x with tray := some { opened := s.ns } }).wr Ix.dlvTraySequence (c.val + 1) seq).hostWrite c (deAddr d) [] header

/-- A descriptor's status is written to the ring it came from, its vector raised, its event sent; a copy's completion hands over (R362,
R363, R367). -/
def State.finishDescriptor (s : State) (c : Fin 32) : State :=
  let x := s.chan c
  match x.current with
  | none => s
  | some (i, d) =>
    let s1 := s.writeStatus x.place x.status x.reason x.used
    let s2 := if deIrq d then s1.msix c.val else s1
    let s3 := if x.status = dsDone ∨ (x.status = dsAborted ∧ s.chanSource c ≠ 6) then s2.bump Ix.dlvTraysCompleted (c.val + 1) 1 else s2
    let s4 := (if x.status = dsBad then s3 else s3.cross (eventCode 19 c.val 0) none i).tally 0x51 c.val 1
    (s4.setChan c { x with current := none, finishing := false, fenced := false, status := 0, reason := 0, used := 0, held := 0 }).copyHandOver c i

/-- A write that PCIE reports as failed marks the descriptor BAD; a Tray's records are lost (R366). An open Tray ends with it, which is a
close for an armed shadow ring (R367). -/
def State.writeFails (s : State) (c : Fin 32) : State :=
  let x := s.chan c
  match x.current with
  | none => s
  | some (i, _) =>
    let n := match x.tray with
      | some t => t.records
      | none => x.held
    let used := (x.tray.map (fun t => t.bytes)).getD x.used
    let s1 := (s.setChan c { x with
      tray := none, lost := x.lost + n, status := dsBad, reason := if x.tray.isSome then 0 else x.reason, used := used, fenced := true,
      failing := if x.failing = some .descriptor then x.failing else none }).markBad c i
    let s2 := if n = 0 then s1 else (s1.bump Ix.dlvRecordsLost (c.val + 1) n).setBit Ix.dlvChannelStatus (c.val + 1) chLost
    let s3 := s2.finishDescriptor c
    if x.tray.isSome then s3.handOver c i else s3

/-- The open Tray closes: its footer is written, its status waits, and an armed shadow ring takes over in the same cycle (R361, R362, R367);
where the footer cannot be written, the descriptor is BAD (R366). -/
def State.closeTray (s : State) (c : Fin 32) (reason status : Nat) : State :=
  let x := s.chan c
  match x.tray, x.current with
  | some t, some (i, d) =>
    if !s.writesPass then s.writeFails c else
    let body := leBytes 4 0x59525446 ++ leBytes 2 1 ++ leBytes 1 reason ++ leBytes 1 0 ++ leBytes 8 (s.rd Ix.dlvTraySequence (c.val + 1)) ++
      leBytes 4 t.bytes ++ leBytes 4 t.records ++ leBytes 4 t.poisoned ++ leBytes 4 x.lost ++ leBytes 8 t.lastLp ++ leBytes 8 s.stamp ++
      leBytes 8 x.delivered
    let footer := body ++ leBytes 4 (crc32c body) ++ leBytes 4 0
    let s1 := (s.hostWrite c (deAddr d + deLen d - 64) [] footer).sample 10 c.val ((s.ns - t.opened) / 1000 : Nat) none
    (s1.setChan c { x with
      tray := none, lost := 0, status := status, reason := reason, used := t.bytes, held := t.records, finishing := true, fenced := false }).handOver c i
  | _, _ => s

/-- Whether a record waits at a channel's source. -/
def State.sourceWaits (s : State) (c : Fin 32) : Bool :=
  match s.chanSource c with
  | 1 => s.queues[0].packets != []
  | 2 => s.queues[1].packets != []
  | 3 => s.queues[2].packets != []
  | 4 => s.hrb.ready != []
  | 5 => s.hrb.exports != []
  | _ => false

/-- The length of the record that waits at a channel's source. -/
def State.sourceLength (s : State) (c : Fin 32) : Nat :=
  let packet (q : Fin 3) : Nat := ((s.queues[q].packets.head?).map (fun p => 8 * p.length)).getD 0
  match s.chanSource c with
  | 1 => packet 0
  | 2 => packet 1
  | 3 => packet 2
  | 4 => ((s.hrb.ready.head?).map (fun r => r.2.length)).getD 0
  | 5 => match s.hrb.exports with
    | .line _ _ w :: _ => (32 + w * s.columnBytes + 7) / 8 * 8
    | _ => 64
  | _ => 0

/-- A packet popped from a queue: whether any of its words is poisoned, and its octets (R345). -/
def State.popPacket (s : State) (q : Fin 3) : Option (Bool × Octets) × State :=
  match s.pop q with
  | none => (none, s)
  | some (ws, t) => (some (ws.any (fun w => w.poison), octetsOfWords (ws.map (fun w => w.data))), t)

/-- The record that waits at a channel's source, taken from it (R357). -/
def State.takeRecord (s : State) (c : Fin 32) : Option (Bool × Octets) × State :=
  match s.chanSource c with
  | 1 => s.popPacket 0
  | 2 => s.popPacket 1
  | 3 => s.popPacket 2
  | 4 => match s.hrb.ready with
    | r :: rest => (some r, s.setHrb { s.hrb with ready := rest })
    | [] => (none, s)
  | 5 => s.nextExport
  | _ => (none, s)

/-- A record is written into the open Tray (R345, R361): a poisoned one as all ones. -/
def State.writeRecord (s : State) (c : Fin 32) (poisoned header : Bool) (r : Octets) : State :=
  let x := s.chan c
  match x.tray, x.current with
  | some t, some (_, d) =>
    let source := s.chanSource c
    let data := if poisoned then List.replicate r.length 0xFF else r
    let run := t.tail ++ data
    let t' : Tray := { t with
      bytes := t.bytes + r.length, tail := run.drop (run.length / 64 * 64), records := t.records + 1, poisoned := t.poisoned + bitNat poisoned
      lastLp := s.recordLp poisoned header source r }
    let s1 := (s.hostWrite c (deAddr d + 64 + t.bytes) t.tail data).setChan c { x with tray := some t', delivered := x.delivered + 1 }
    if source = 1 then s1.crumbLeft (leAt r 0x38 4) else s1
  | _, _ => s

/-- A stream channel with an open Tray takes the next record, or closes the Tray where the record does not fit (R361). -/
def State.packetInto (s : State) (c : Fin 32) : State :=
  let x := s.chan c
  match x.tray, x.current with
  | some t, some (_, d) =>
    if deLen d - 128 < t.bytes + s.sourceLength c then s.closeTray c crFull dsDone
    else
      let header := match s.hrb.exports with
        | .header _ :: _ => true
        | _ => false
      match s.takeRecord c with
      | (some (p, r), s1) =>
        let y := s1.chan c
        (s1.setChan c { y with left := y.left - 1 }).writeRecord c p header r
      | (none, s1) => s1
  | _, _ => s

/-- A stream channel takes a whole packet into its open Tray, opening one where needed; without a descriptor the source waits. In a
drain the packets present at the STOP are delivered, then the Tray closes (R361, R375). -/
def State.dmaPacket (s : State) (c : Fin 32) : State :=
  let x := s.chan c
  let drained := s.drains .dma && decide (x.left = 0)
  if !s.chanWorks c || x.finishing || s.chanSource c == 6 then s
  else if drained then s.closeTray c crDrain dsDone
  else if !s.sourceWaits c then s
  else if x.tray.isSome then s.packetInto c
  else
    match s.takeDescriptor c with
    | (none, t) => t
    | (some (i, d), t) => (t.openTray c i d).packetInto c

/-- The close timeout runs out (R361). -/
def State.closeTimesOut (s : State) (c : Fin 32) : State :=
  if s.chanWorks c && s.rd Ix.dlvCloseTimeout (c.val + 1) != 0 && (s.chan c).tray.any (fun t => decide (t.records ≠ 0)) then
    s.closeTray c crTimeout dsDone
  else s

/-- FLUSH closes the open Tray (R365). -/
def State.flushChan (s : State) (c : Fin 32) : State :=
  if s.runs .dma || s.drains .dma then s.closeTray c crFlush dsDone else s

/-! ### Copies -/

/-- A copy is carried out (R357, R363, R364): from the host with the data its read gave, or to the host. -/
def State.copyData (s : State) (c : Fin 32) (d : Octets) (data : Octets) : State :=
  let n := deLen d
  let (s1, ok) := if deToHost d then
      let (bs, bad, t) := s.dramFetch 6 (deDevice d) n
      if bad then (t, false) else (t.hostWrite c (deAddr d) [] bs, true)
    else (s.dramStore (deDevice d) data, true)
  let i := ((s.chan c).current.map (fun x => x.1)).getD 0
  let x := s1.chan c
  let s2 := s1.setChan c { x with status := if ok then dsDone else dsBad, reason := 0, used := if ok then n else 0, finishing := true, fenced := false }
  if ok then s2 else s2.markBad c i

/-- A copy channel takes its next descriptor; in a drain it takes none (R375). -/
def State.nextCopy (s : State) (c : Fin 32) : State :=
  if (s.chan c).current.isSome || !s.runs .dma then s else (s.takeDescriptor c).2

/-- What completes at a channel (R363): a Tray's or a copy's status, after its FENCE read; or first a copy's data, whose host read may
fail. -/
def State.completeDescriptor (s : State) (c : Fin 32) (data : Octets) (ok : Bool) : State :=
  let x := s.chan c
  if !(s.chanWorks c || s.chanFinishes c) || x.failing.isSome then s
  else if x.finishing then
    match x.current with
    | some (_, d) => if deFence d && !x.fenced then s else s.finishDescriptor c
    | none => s
  else if s.chanSource c = 6 then
    let s1 := s.nextCopy c
    match (s1.chan c).current with
    | none => s1
    | some (_, d) =>
      let s2 := if deToHost d then s1 else s1.hostFetch c (deAddr d) (deLen d)
      if !deToHost d && !ok then s2.setChan c { s2.chan c with failing := some .data }
      else
        let s3 := s2.copyData c d data
        if deFence d then s3 else s3.finishDescriptor c
  else s

/-- The FENCE read-back returns (R363). DESIGN CHOICE: it reads the last byte of what the descriptor's data could reach. -/
def State.fenceRead (s : State) (c : Fin 32) (ok : Bool) : State :=
  let x := s.chan c
  match x.current with
  | some (_, d) =>
    if x.finishing && deFence d && !x.fenced && x.failing.isNone && s.busOpen then
      let t := s.hostFetch c (deAddr d + deLen d - 1) 1
      if ok then t.setChan c { x with fenced := true } else t.setChan c { x with failing := some .fence }
    else s
  | none => s

/-- The host length a copy from the host needs, of the descriptor that the channel has in hand or takes next. -/
def State.copyLength (s : State) (c : Fin 32) : Option Nat :=
  let d := match (s.chan c).current with
    | some x => some x.2
    | none => (((s.skipUnusable c (s.chan c).fetched.length).chan c).fetched.head?).map (fun (x : Nat × Octets) => x.2)
  if s.chanSource c = 6 && !(s.chan c).finishing then d.bind (fun d => if deToHost d then none else some (deLen d)) else none

/-- A read of channel 31 for the page in transfer fails or times out: it waits for its retry (R197, R360). -/
def State.masterReadFails (s : State) : State :=
  if s.movingPage.isSome && s.loadsMove then s.setChan 31 { s.chan 31 with failing := some .data } else s

/-- The retry of a read of channel 31 (R197, R360). -/
def State.masterReadRetried (s : State) (ok : Bool) : State :=
  let t := s.setChan 31 { s.chan 31 with failing := none }
  if (s.chan 31).failing.isNone then s
  else if ok then (t.retryTransient 4 31).bump Ix.dlvRetriedReads 32 1
  else match s.movingPage with
    | some p => (t.retryLasting 4).failLoad p
    | none => t

/-- The request of a retried read leaves (R360, R373). -/
def State.readAgain (s : State) (c : Fin 32) (kind : HostRead) : State :=
  let x := s.chan c
  match kind with
  | .descriptor => s.hostFetch c (s.descriptorAt c ((s.consumer c + x.fetched.length) % 2 ^ 32)) 32
  | .data => match x.current with
    | some (_, d) => s.hostFetch c (deAddr d) (deLen d)
    | none => s
  | .fence => match x.current with
    | some (_, d) => s.hostFetch c (deAddr d + deLen d - 1) 1
    | none => s

/-- The single retry of a failed host read (R360): good, it was transient; else the failure is lasting. `data` is what the retry read. A channel
that is held does not fetch, so the retry of its descriptor waits (R365). -/
def State.retryRead (s : State) (c : Fin 32) (data : Octets) (ok : Bool) : State :=
  if c = 31 then s.masterReadRetried ok else
  let x := s.chan c
  let s0 := s.setChan c { x with failing := none }
  match x.failing with
  | none => s
  | some kind =>
    if kind = .descriptor ∧ !s.chanWorks c then s
    else if ok then
      let s1 := (s0.retryTransient 4 c.val).bump Ix.dlvRetriedReads (c.val + 1) 1
      match kind with
      | .descriptor => s1.fetched c data true
      | .fence => (s1.readAgain c kind).setChan c { s1.chan c with fenced := true }
      | .data => s1.completeDescriptor c data true
    else
      let s0 := (s0.readAgain c kind).retryLasting 4
      match kind with
      | .descriptor =>
        let i := (s.consumer c + x.fetched.length) % 2 ^ 32
        let s1 := ((s0.setChan c { x with failing := none, fetched := x.fetched ++ [(i, [])] }).writeStatus (s.descriptorAt c i) dsBad 0 0).chanFlag c chFetchFail
        (s1.markBad c i).skipUnusable c 1
      | .fence =>
        let i := (x.current.map (fun y => y.1)).getD 0
        let t := (s0.setChan c { x with failing := none, fenced := true, status := dsBad, lost := x.lost + x.held }).markBad c i
        if x.held = 0 then t else (t.bump Ix.dlvRecordsLost (c.val + 1) x.held).setBit Ix.dlvChannelStatus (c.val + 1) chLost
      | .data =>
        let i := (x.current.map (fun y => y.1)).getD 0
        ((s0.setChan c { x with failing := none, status := dsBad, reason := 0, used := 0, finishing := true, fenced := true }).markBad c i).finishDescriptor c

/-- A host read is answered by no completion in time: it counts as failed, and a second time lastingly (R360); the host may have disabled
the timeout (R368). -/
def State.readTimesOut (s : State) (c : Fin 32) (kind : HostRead) : State :=
  if s.pcie.setup.timeoutOff then s
  else if (s.chan c).failing.isSome then s.retryRead c [] false
  else if c = 31 then s.masterReadFails
  else
    match kind with
    | .descriptor => s.fetched c [] false
    | .data => s.completeDescriptor c [] false
    | .fence => s.fenceRead c false

/-! ### Pause -/

/-- PAUSE stops fetches and pops (R365). -/
def State.pauseChan (s : State) (c : Fin 32) : State := s.setChan c { s.chan c with paused := true }

/-- RESUME continues a paused channel (R365). -/
def State.resumeChan (s : State) (c : Fin 32) : State := s.setChan c { s.chan c with paused := false }

/-- Whether PAUSED shows: the channel is paused, and nothing that it has read or popped waits to be written, neither a status nor a copy whose
read is retried (R365). -/
def DmaChan.atRest (x : DmaChan) : Bool := x.paused && (x.current.isNone || x.tray.isSome)

/-- A Channel command (R365). Channel 31's objects are read-only (R357). -/
def State.channelCommand (s : State) (c : Fin 32) (v : Nat) : State × Code :=
  if c = 31 then (s, .accessClass)
  else if v = 1 then (s.pauseChan c, .ok)
  else if v = 2 then (s.resumeChan c, .ok)
  else if v = 3 then (s.flushChan c, .ok)
  else (s, .outOfRange)

/-- A shadow or arm write that lands in the cycle of a hand-over does not take part in it: the write is kept, the channel stays armed with the
written value, and SHADOW_LATE sets (R367). The channel has handed over at this very time, and the flag says whether the cycle is the same. -/
def State.shadowLate (s : State) (c : Fin 32) (arm : Nat) (inHandOver : Bool) : State :=
  if inHandOver && (s.chan c).handed == some s.ns then
    (s.wr Ix.dlvShadowArm (c.val + 1) arm).setBit Ix.dlvChannelStatus (c.val + 1) chShadowLate
  else s

/-- A write of Shadow arm (R367). -/
def State.shadowArm (s : State) (c : Fin 32) (v : Nat) (inHandOver : Bool) : State :=
  (s.wr Ix.dlvShadowArm (c.val + 1) v).shadowLate c v inHandOver

/-- The live bits of Channel status (R381): ACTIVE, PAUSED, TRAY_OPEN, SHADOW_ARMED, NO_DESCRIPTOR. -/
def State.chanLive (s : State) (c : Fin 32) : Nat :=
  let x := s.chan c
  bitNat (s.chanSource c != 0 && s.runs .dma) + 2 * bitNat x.atRest + 4 * bitNat x.tray.isSome + 64 * bitNat (s.rd Ix.dlvShadowArm (c.val + 1) == 1) +
  512 * bitNat ((s.runs .dma || (s.drains .dma && x.left != 0)) && s.sourceWaits c && x.tray.isNone && !x.finishing && s.posted c == 0)

/-! ### States -/

/-- The longest crop record (R234, R236, R353, R355): the header, and for every tile a block of its pixels as they are, with the block's header and
padding. DEDUCED: lines or columns of one pixel make the most tiles, one for every 64 pixels begun. -/
def State.largestCrop (s : State) : Nat :=
  let most := s.rd Ix.hrbMaximumCropBytes 0
  let pixel := (s.historyChannels + 1) * 2
  64 + most + (most / pixel + 63) / 64 * (16 + (16 - pixel))

/-- What ARM checks of DMA beside PCIE (R357, R361). DEDUCED: a Tray may be as long as 1 GiB, so only a record that exceeds the data
space of such a Tray bars ARM. -/
def State.dmaArmable (s : State) : Bool :=
  let src (c : Nat) : Nat := s.rd Ix.dlvChannelSource (c + 1)
  [1, 2, 3, 4, 5].all (fun k => decide ((List.range 31).countP (fun c => src c == k) ≤ 1)) &&
  (!s.cropChannel || decide (s.largestCrop ≤ 2 ^ 30 - 128))

/-- The channels, as instances. -/
abbrev dmaAll : List (Fin 32) := List.finRange 32

/-- How many records wait at a channel's source. -/
def State.sourceCount (s : State) (c : Fin 32) : Nat :=
  match s.chanSource c with
  | 1 => s.queues[0].packets.length
  | 2 => s.queues[1].packets.length
  | 3 => s.queues[2].packets.length
  | 4 => s.hrb.ready.length
  | 5 => s.hrb.exports.length
  | _ => 0

/-- STOP of DMA: the packets present are still delivered (R375). -/
def State.dmaStops (s : State) : State :=
  dmaAll.foldl (fun (t : State) c => t.setChan c { t.chan c with left := s.sourceCount c }) s

/-- Whether DMA's drain has ended (R375). -/
def State.dmaDrained (s : State) : Bool :=
  dmaAll.all (fun c => let x := s.chan c; x.left == 0 && x.tray.isNone && x.current.isNone)

/-- Drain timeout, ABORT or fault of a channel: the footer of its Tray is written and the descriptor in use completes with status 4, after its
read-back where it carries FENCE (R363, R375). -/
def State.chanTruncate (s : State) (c : Fin 32) : State :=
  let x := s.chan c
  let s1 := if x.tray.isSome then s.closeTray c crTruncated dsAborted
    else if x.current.isSome && x.status != dsBad then s.setChan c { x with status := dsAborted, finishing := true }
    else s
  let y := s1.chan c
  let waits := y.current.any (fun p => deFence p.2 && !y.fenced)
  let s2 := if waits then s1 else s1.finishDescriptor c
  let z := s2.chan c
  s2.setChan c { z with
    fetched := [], left := 0, finishing := waits, failing := if waits && z.failing = some .fence then z.failing else none }

/-- Every channel ends as on ABORT (R374, R375). -/
def State.dmaTruncate (s : State) : State := dmaAll.foldl (fun (t : State) c => t.chanTruncate c) s

/-- A Function Level Reset clears the doorbells and shadow rings (R374). -/
def State.clearRings (s : State) : State :=
  dmaAll.foldl (fun (t : State) c =>
    let sub := c.val + 1
    (((((t.wr Ix.dlvProducerIndex sub 0).wr Ix.dlvShadowRingBase sub 0).wr Ix.dlvShadowRingEntries sub 256).wr Ix.dlvShadowStartIndex sub 0).wr
      Ix.dlvShadowArm sub 0).setChan c { t.chan c with bell := 0 }) s

/-! ### The endpoint -/

/-- The link comes up at a speed and width, and the host sets up the device (R368, R381). DESIGN CHOICE: the table has no row for a write of
configuration space beside those of Bus Master Enable, so the host's setting comes with the link. -/
def State.linkUp (s : State) (speed width : Nat) (setup : HostSetup) : State :=
  ({ s with pcie := { s.pcie with linkUp := true, setup := setup } }.wr Ix.dlvLinkSpeed 0 speed).wr Ix.dlvLinkWidth 0 width

/-- The link is lost: a Running PCIE becomes Faulted with LINK_DOWN (R374). -/
def State.linkDown (s : State) : State :=
  let t := ({ s with pcie := { s.pcie with linkUp := false } }.wr Ix.dlvLinkSpeed 0 0).wr Ix.dlvLinkWidth 0 0
  if s.runs .pcie then t.enterFaulted .pcie 1 else t

/-- The host sets or clears Bus Master Enable (R374). -/
def State.setBusMaster (s : State) (v : Bool) : State := { s with pcie := { s.pcie with busMaster := v } }

/-- An AER error is counted and raises vector 36 (R371, R381). -/
def State.aerError (s : State) (correctable : Bool) : State :=
  (s.bump (if correctable then Ix.dlvCorrectableErrors else Ix.dlvUncorrectableErrors) 0 1).msix 36

/-- A read of BAR4: the DRAM data while the window is enabled, all ones otherwise and for poisoned data (R372). -/
def State.windowRead (s : State) (offset n : Nat) : State :=
  let ones := List.replicate n (0xFF : Byte)
  if s.rd Ix.dlvDiagnosticWindowEnable 0 = 0 then s.emit (.hostRead 4 offset ones)
  else
    let (bs, bad, t) := s.dramFetch 7 (s.rd Ix.dlvDiagnosticWindowBase 0 + offset) n
    if bad then (t.setBit Ix.dlvWindowStatus 0 0).emit (.hostRead 4 offset ones) else t.emit (.hostRead 4 offset bs)

/-- A write of BAR4 takes effect while the window is enabled and in the Service life-cycle state (R372). -/
def State.windowWrite (s : State) (service : Bool) (offset : Nat) (data : Octets) : State :=
  if s.rd Ix.dlvDiagnosticWindowEnable 0 = 1 ∧ service then s.dramStore (s.rd Ix.dlvDiagnosticWindowBase 0 + offset) data else s

end Sys2Proof.Machine
end

