-- ==== Sys2Proof/Machine/Mon.lean ====
section
/-! DEFINITION. The event recorder and the performance counters (R522 to R539). -/

namespace Sys2Proof.Machine

/-- The positions of the recorder's flags (R537). -/
abbrev rcSkipped : Nat := 0
abbrev rcDropped : Nat := 1
abbrev rcEcc : Nat := 2
abbrev rcSnapshotting : Nat := 3

/-- The recorder sources with the number of their instances (R523). -/
def recorderInstances : Nat → Nat
  | 1 => 1 | 2 => 1 | 3 => 32 | 4 => 3 | 5 => 1 | 6 => 1 | 7 => 8 | 8 => 1 | 9 => 1 | 10 => 32 | 11 => 8 | 12 => 32
  | _ => 0

/-- Whether a Source value names a source and one of its instances (R523). -/
def recorderSourceOk (v : Nat) : Bool := decide (v / 65536 < recorderInstances (v % 65536))

/-- A recorder's live accumulators. -/
def State.accum (s : State) (r : Nat) : Accum := storeGet {} s.mon.live r

/-- A recorder's live accumulators replaced. -/
def State.setAccum (s : State) (r : Nat) (a : Accum) : State := { s with mon := { s.mon with live := storeSet {} s.mon.live r a } }

/-- A sample accumulates (R525): the sum saturates, equal extremes keep the earlier sample, the bin is exact with a floor shift. -/
def Accum.add (a : Accum) (base : Int) (shift : Nat) (v : Int) (own : Nat × Nat) : Accum :=
  let i := (v - base) / 2 ^ shift
  let k := i.toNat
  { a with
    count := a.count + 1
    sum := clampInt (-2 ^ 63) (2 ^ 63 - 1) (a.sum + v)
    low := if v < a.low.1 then (v, own) else a.low
    high := if a.high.1 < v then (v, own) else a.high
    under := if v < base then min (a.under + 1) (2 ^ 32 - 1) else a.under
    above := if base ≤ v ∧ 63 < i then min (a.above + 1) (2 ^ 32 - 1) else a.above
    bins := if base ≤ v ∧ i ≤ 63 then storeSet 0 a.bins k (min (storeGet 0 a.bins k + 1) (2 ^ 32 - 1)) else a.bins }

/-- MON takes a source's oldest sample, and every enabled recorder of the source accumulates it (R524, R525, R536). -/
def State.recorderSample (s : State) (code inst : Nat) : State :=
  match s.mon.fifos.find? (fun f => f.1 == (code, inst)) with
  | some (_, x :: xs) =>
    let others := s.mon.fifos.filter (fun f => f.1 != (code, inst))
    let t : State := { s with mon := { s.mon with fifos := if xs = [] then others else ((code, inst), xs) :: others } }
    let own := x.own.getD (s.seenLp, s.stamp)
    (List.range 128).foldl (fun (t : State) r =>
      if t.rd Ix.monEnable (r + 1) = 1 ∧ t.rd Ix.monSource (r + 1) = code + 65536 * inst then
        t.setAccum r ((t.accum r).add (t.rdI Ix.monHistogramBase (r + 1)) (t.rd Ix.monHistogramShift (r + 1)) x.value own)
      else t) t
  | _ => s

/-- A write of Enable: enabling a recorder clears its live accumulators (R526). -/
def State.recorderEnable (s : State) (r : Nat) (v : Nat) : State :=
  let t := s.wr Ix.monEnable (r + 1) v
  if v = 1 ∧ s.rd Ix.monEnable (r + 1) = 0 then t.setAccum r {} else t

/-- Whether a recorder's settings may be written: while it is not enabled (R526). -/
def State.recorderOpen (s : State) (r : Nat) : Bool := s.rd Ix.monEnable (r + 1) == 0

/-! ### Snapshots -/

/-- An extreme in a window: value, LP, time stamp. -/
def extremeOctets (e : Int × (Nat × Nat)) : Octets := leBytes 8 (toPattern 64 e.1) ++ leBytes 8 e.2.1 ++ leBytes 8 e.2.2

/-- A readout window (R531). -/
def recorderWindow (seq r flags source time lp : Nat) (a : Accum) (base : Int) (shift : Nat) : Octets :=
  leBytes 4 seq ++ leBytes 1 r ++ leBytes 1 flags ++ leBytes 2 (source % 65536) ++ leBytes 8 time ++ leBytes 8 lp ++ leBytes 8 a.count ++
  leBytes 8 (toPattern 64 a.sum) ++ extremeOctets a.low ++ extremeOctets a.high ++ leBytes 4 a.dropped ++ leBytes 1 (source / 65536) ++ zeros 3 ++
  leBytes 8 (toPattern 64 base) ++ leBytes 1 shift ++ zeros 7 ++ leBytes 4 a.under ++
  (List.range 64).flatMap (fun i => leBytes 4 (storeGet 0 a.bins i)) ++ leBytes 4 a.above

/-- A recorder's exported record (R530). -/
def recorderRecord (seq r flags source time : Nat) (a : Accum) : Octets :=
  leBytes 2 0x000F ++ leBytes 1 1 ++ leBytes 1 r ++ leBytes 4 seq ++ leBytes 8 time ++ leBytes 8 a.count ++ leBytes 8 (toPattern 64 a.sum) ++
  leBytes 8 (toPattern 64 a.low.1) ++ leBytes 8 (toPattern 64 a.high.1) ++ leBytes 8 a.high.2.1 ++ leBytes 4 a.dropped ++
  leBytes 2 (source % 65536) ++ leBytes 1 flags ++ leBytes 1 0

/-- A recorder's window at this instant. -/
def State.windowOf (s : State) (seq : Nat) (r : Nat) : Octets :=
  let a := s.accum r
  let mode := s.rd Ix.monRecorderMode (r + 1)
  recorderWindow seq r (s.rd Ix.monEnable (r + 1) + 2 * (mode % 2) + 4 * bitNat (a.dropped != 0)) (s.rd Ix.monSource (r + 1)) s.stamp s.seenLp a
    (s.rdI Ix.monHistogramBase (r + 1)) (s.rd Ix.monHistogramShift (r + 1))

/-- A snapshot's cycle (R527, R528): the sequence, the time, the bank, and the restart of the accumulators that clear at a snapshot. -/
def State.snapshot (s : State) : State :=
  let seq := (s.rd Ix.monSnapshotSequence 0 + 1) % 2 ^ 32
  let t := ((s.wr Ix.monSnapshotSequence 0 seq).wr Ix.monSnapshotTime 0 s.stamp).setBit Ix.monRecorderStatus 0 rcSnapshotting
  let exported := (List.range 128).filter (fun r => s.rd Ix.monEnable (r + 1) == 1 && s.bit Ix.monRecorderMode (r + 1) 1)
  let records := exported.map (fun r =>
    recorderRecord seq r (s.rd Ix.monRecorderMode (r + 1) % 2) (s.rd Ix.monSource (r + 1)) s.stamp (s.accum r))
  let kept := s.mon.live.filter (fun x => !s.bit Ix.monRecorderMode (x.1 + 1) 0)
  { t with mon := { t.mon with bank := (List.range 128).map (fun r => s.windowOf seq r), exports := records,
                               live := kept } }

/-- Whether a snapshot runs. -/
def State.snapshotting (s : State) : Bool := s.bit Ix.monRecorderStatus 0 rcSnapshotting

/-- Snapshot command (R527, R529). -/
def State.snapshotCommand (s : State) (v : Nat) : State × Code :=
  if v ≠ 1 then (s, .outOfRange) else if s.snapshotting then (s, .busy) else (s.snapshot, .ok)

/-- The snapshot interval expires (R527, R529). -/
def State.snapshotInterval (s : State) : State :=
  if s.rd Ix.monSnapshotInterval 0 = 0 then s
  else if s.snapshotting then (s.bumpSat Ix.monSnapshotsSkipped 0 1).setBit Ix.monRecorderStatus 0 rcSkipped
  else s.snapshot

/-- The copy into the readout bank completes: the exported records are pushed in recorder order (R527, R530). -/
def State.snapshotComplete (s : State) : State :=
  if s.snapshotting then
    let t := s.mon.exports.foldl (fun (t : State) r => t.push xqIx fromMon false r) s
    ({ t with mon := { t.mon with exports := [] } } : State).clearBit Ix.monRecorderStatus 0 rcSnapshotting
  else s

/-- A recorder's readout window; before the first snapshot an empty interval (R527, R531). -/
def State.bankWindow (s : State) (r : Nat) : Octets :=
  (s.mon.bank[r]?).getD (recorderWindow 0 r 0 0 0 0 {} 0 0)

/-- All windows in recorder order (R531). -/
def State.allRecorders (s : State) : Octets := (List.range 128).flatMap (fun r => s.bankWindow r)

/-- Whether the recorder's drain has ended (R536). -/
def State.monDrained (s : State) : Bool := s.mon.fifos.isEmpty

/-- Drain timeout or ABORT: the samples still in the FIFOs count as dropped (R536). -/
def State.monTruncate (s : State) : State :=
  let t := s.mon.fifos.foldl (fun (t : State) f =>
    (List.range 128).foldl (fun (t : State) r =>
      if t.rd Ix.monEnable (r + 1) = 1 ∧ t.rd Ix.monSource (r + 1) = f.1.1 + 65536 * f.1.2 then
        let a := t.accum r
        ((t.setAccum r { a with dropped := a.dropped + f.2.length }).bump Ix.monDroppedSamples (r + 1) f.2.length).setBit
          Ix.monRecorderStatus 0 rcDropped
      else t) t) s
  { t with mon := { t.mon with fifos := [] } }

/-! ### Performance counters -/

/-- The events of PMC (R532). -/
def pmcEvents : List Nat :=
  [0x00, 0x01, 0x10, 0x11, 0x12, 0x20, 0x21, 0x22, 0x30, 0x31, 0x32, 0x40, 0x41, 0x42, 0x50, 0x51, 0x60, 0x61, 0x62, 0x70, 0x71]

/-- Whether the counters are frozen (R534). -/
def State.frozen (s : State) : Bool := s.bit Ix.pmcPMCStatus 0 0

/-- The counters as BAR2 shows them from 0x000 on (R535). -/
def State.counterOctets (s : State) : Octets :=
  leBytes 8 (s.rd Ix.pmcCycleCounter 0) ++ (List.range 8).flatMap (fun k => leBytes 8 (s.rd Ix.pmcCounter (k + 1)))

/-- BAR2 0x000 to 0x04F (R535). -/
def State.counterWindow (s : State) : Octets :=
  s.counterOctets ++ leBytes 4 (s.rd Ix.pmcFreezeGeneration 0) ++ leBytes 4 (s.rd Ix.pmcPMCStatus 0 % 4)

/-- The PMC record (R534). -/
def State.pmcRecord (s : State) : Octets :=
  leBytes 2 0x0010 ++ leBytes 1 1 ++ leBytes 1 0 ++ leBytes 4 (s.rd Ix.pmcFreezeGeneration 0) ++ leBytes 8 s.stamp ++ s.counterOctets

/-- A freeze (R534): one while frozen has no effect. -/
def State.freeze (s : State) : State :=
  if s.frozen then s
  else
    let t := (s.setBit Ix.pmcPMCStatus 0 0).bump Ix.pmcFreezeGeneration 0 1
    if s.rd Ix.pmcFreezeExport 0 = 1 then t.push xqIx fromMon false t.pmcRecord else t

/-- A release (R534). -/
def State.unfreeze (s : State) : State := s.clearBit Ix.pmcPMCStatus 0 0

/-- The masked counters zeroed (R533). -/
def State.clearCounters (s : State) (mask : Nat) : State :=
  let t := (List.range 8).foldl (fun (t : State) k => if mask.testBit k then t.wr Ix.pmcCounter (k + 1) 0 else t) s
  if mask.testBit 8 then t.wr Ix.pmcCycleCounter 0 0 else t

/-- Freeze command (R534). -/
def State.freezeCommand (s : State) (v : Nat) : State × Code :=
  if v = 1 then (s.freeze, .ok) else if v = 2 then (s.unfreeze, .ok) else (s, .outOfRange)

/-- Clear (R533): bits 8 to 0 select. -/
def State.counterClear (s : State) (v : Nat) : State × Code :=
  if 2 ^ 9 ≤ v then (s, .outOfRange) else (s.clearCounters v, .ok)

/-- A BAR2 control write, which only the user control enable lets through (R535). The window is BAR2's, so it needs the link (R370). -/
def State.userControl (s : State) (v : Nat) : State :=
  if !s.pcie.linkUp || s.rd Ix.pmcUserControlEnable 0 = 0 then s
  else if v = 1 then s.freeze else if v = 2 then s.unfreeze else if v = 3 then s.clearCounters 0x1FF else s

end Sys2Proof.Machine
end

