-- ==== Sys2Proof/Machine/Tbu.lean ====
section
/-! DEFINITION. The time base, its pulse outputs and its capture inputs (R458 to R473). -/

namespace Sys2Proof.Machine

/-- A CLK_TB cycle is 4 ns (R18). -/
def State.advanceTb (s : State) (cycles : Nat) : State := s.advance (4 * cycles)

/-! ### The clock -/

/-- The clock increment of a rate adjustment in 1/16 ppb (R459): rounded half up. -/
def clockIncrement (a : Int) : Nat :=
  ((4 * 2 ^ 32 : Int) + (2 * (4 * 2 ^ 32 * a) + 16 * 10 ^ 9) / (2 * (16 * 10 ^ 9))).toNat

/-- The last whole second that the clock can hold, plus one, in its units (R461). -/
def clockEnd : Nat := 2 ^ 48 * tbuSecond

/-- The clock in whole nanoseconds. -/
def State.clockNs (s : State) : Nat := s.tbu / 2 ^ 32

/-- The clock as 12 octets: seconds, nanoseconds (R474). -/
def clockOctets (tbu : Nat) : Octets := leBytes 8 (tbu / tbuSecond) ++ leBytes 4 (tbu % tbuSecond / 2 ^ 32)

/-- The clock's value at an instant that WPU's history still holds, with the rate and quality flags then in force (R60, R460). -/
def State.clockAt (s : State) (ns : Nat) : Nat × Nat × Nat :=
  match publishedAt s.wpu.history ns with
  | some p => (p.tbu + p.incr * (ns / 4 - p.ns / 4), p.incr, p.quality)
  | none => (s.tbu, s.rd Ix.netClockIncrement 0, s.rd Ix.netTimeStatus 0 % 16)

/-- Whether the firmware servo is in control of the clock (R461). -/
def State.servoHolds (s : State) : Bool :=
  s.rd Ix.netServoMode 0 == 0 && [1, 2].any (fun p => let st := s.rd Ix.netPortState p; st == 8 || st == 9)

/-- TRACEABLE follows the grandmaster: what the parent announces, or SET where this device is grandmaster (R460). -/
def State.putTraceable (s : State) (announced : Bool) : State :=
  let own := s.bit Ix.netTimeStatus 0 6 && s.rd Ix.netTimeStatus 0 % 4 == 1
  s.putBit Ix.netTimeStatus 0 3 (own || announced)

/-! ### Pulse outputs -/

/-- The arm of an output replaced, with ARMED. -/
def State.setArm (s : State) (n : Fin 4) (a : Option ToutArm) : State :=
  ({ s with tbuUnit := { s.tbuUnit with arms := s.tbuUnit.arms.set n a } } : State).putBit Ix.netPulseStatus (n.val + 1) 0 a.isSome

/-- Edges of an output that the clock has passed (R469): LATE sets; a once output disarms, a periodic one takes the first edge not yet
passed; each passed edge counts as missed. -/
def State.passEdges (s : State) (n : Fin 4) (a : ToutArm) : State :=
  let s1 := s.setBit Ix.netPulseStatus (n.val + 1) 1
  let p := a.period * 2 ^ 32
  if a.periodic then
    let k := (s.tbu - a.next * 2 ^ 32 + p - 1) / p
    (s1.bump Ix.netMissedPulses (n.val + 1) k).setArm n (some { a with next := a.next + k * a.period })
  else (s1.bump Ix.netMissedPulses (n.val + 1) 1).setArm n none

/-- Whether the clock has passed an edge: an edge at its very value is reached, not passed. -/
def State.passed (s : State) (a : ToutArm) : Bool := decide (a.next * 2 ^ 32 < s.tbu)

/-- Pulse arm takes the settings in force (R468, R469). Pulse outputs act only while TBU is Running (R471); with mode 0 there is no edge to
arm. -/
def State.pulseArm (s : State) (n : Fin 4) : State :=
  let sub := n.val + 1
  let mode := s.rd Ix.netPulseMode sub
  let o := s.rdo Ix.netPulseStart sub
  let start := leAt o 0 8 * 10 ^ 9 + leAt o 8 4
  let a : ToutArm := { periodic := decide (mode = 2), start := start, period := s.rd Ix.netPulsePeriod sub, next := start }
  if mode = 0 then s
  else if s.passed a then s.passEdges n a
  else s.setArm n (some a)

/-- The clock reaches the programmed edge of an armed output (R468). -/
def State.pulseEdge (s : State) (n : Fin 4) : State :=
  match s.tbuUnit.arms[n] with
  | some a =>
    if s.runs .tbu && decide (a.next * 2 ^ 32 ≤ s.tbu) then
      let s1 := (s.bump Ix.netPulses (n.val + 1) 1).setBit Ix.netPulseStatus (n.val + 1) 3
      let s2 := s1.setArm n (if a.periodic then some { a with next := a.next + a.period } else none)
      s2.cross (eventCode 22 n.val 0) none 0
    else s
  | none => s

/-- The pulse of an output ends (R468). -/
def State.toutEnds (s : State) (n : Fin 4) : State := s.clearBit Ix.netPulseStatus (n.val + 1) 3

/-- A write of Pulse mode: 0 disarms the output and ends an active pulse (R469). -/
def State.pulseMode (s : State) (n : Fin 4) (v : Nat) : State :=
  let t := s.wr Ix.netPulseMode (n.val + 1) v
  if v = 0 then (t.setArm n none).toutEnds n else t

/-- The level of a TOUT pin: high-impedance below Ready, which reads inactive (R468). -/
def State.toutLevel (s : State) (n : Fin 4) : Bool :=
  s.clocked && xor (s.bit Ix.netPulseStatus (n.val + 1) 3) (s.rd Ix.netPolarity (n.val + 1) == 1)

/-- What a set or step does to an armed output, from the clock before it (R469). -/
def State.steppedOutput (s : State) (before : Nat) (n : Fin 4) : State :=
  match s.tbuUnit.arms[n] with
  | none => s
  | some a =>
    if before < s.tbu then
      if decide (before ≤ a.next * 2 ^ 32) && s.passed a then (s.passEdges n a).setBit Ix.netPulseStatus (n.val + 1) 2 else s
    else if a.periodic then
      let now := s.tbu / 2 ^ 32
      let k := if s.tbu < a.start * 2 ^ 32 then 0 else (now - a.start) / a.period + 1
      s.setArm n (some { a with next := a.start + k * a.period })
    else s

/-- The outputs in turn. -/
abbrev toutAll : List (Fin 4) := List.finRange 4

/-- The clock given a value by a set or step (R461): STEPPED, the STEP flag while its window runs, the armed outputs. -/
def State.moveClock (s : State) (tbu : Nat) : State :=
  let s1 : State := { s with tbu := tbu, tbuUnit := { s.tbuUnit with epoch := s.tbuUnit.epoch + 1 } }
  let s2 := s1.setBit Ix.netTimeStatus 0 4
  let s3 := if s.rd Ix.netStepMarkWindow 0 = 0 then s2 else s2.setBit Ix.netTimeStatus 0 2
  (if s3.runs .tbu then toutAll.foldl (fun (t : State) n => t.steppedOutput s.tbu n) s3 else s3).publish

/-- Time set (R461): SYNC_STATE moves to SET, where this device as grandmaster is traceable. -/
def State.timeSet (s : State) (v : Octets) : State × Code :=
  let sec := leAt v 0 8
  let ns := leAt v 8 4
  if s.servoHolds then (s, .wrongState)
  else if 10 ^ 9 ≤ ns ∨ 2 ^ 48 ≤ sec then (s, .outOfRange)
  else
    let t := (s.moveClock ((sec * 10 ^ 9 + ns) * 2 ^ 32)).setSync 1
    let t : State := { t with tbuUnit := { t.tbuUnit with within := 0 } }
    ((if t.bit Ix.netTimeStatus 0 6 then t.putTraceable false else t).publish, .ok)

/-- The clock stepped by a signed number of ns, where the result stays in range (R461). -/
def State.stepClock (s : State) (d : Int) : Option State :=
  let v : Int := (s.tbu : Int) + d * 2 ^ 32
  if 0 ≤ v ∧ v < (clockEnd : Int) then some (s.moveClock v.toNat) else none

/-- Time step (R461). -/
def State.timeStep (s : State) (d : Int) : State × Code :=
  if s.servoHolds then (s, .wrongState)
  else
    match s.stepClock d with
    | some t => (t, .ok)
    | none => (s, .outOfRange)

/-- The rate adjustment put in force (R459). -/
def State.setRate (s : State) (a : Int) : State :=
  ((s.wrI Ix.netRateAdjustment 0 a).wr Ix.netClockIncrement 0 (clockIncrement a)).publish

/-- A write of Rate adjustment (R459, R461). -/
def State.rateAdjustment (s : State) (a : Int) : State × Code :=
  if s.servoHolds then (s, .wrongState) else (s.setRate a, .ok)

/-- The step mark window ends (R460). -/
def State.stepMarkEnds (s : State) : State := (s.clearBit Ix.netTimeStatus 0 2).publish

/-- Holdover limit passes (R462). -/
def State.holdoverEnds (s : State) : State :=
  if s.rd Ix.netTimeStatus 0 % 4 = 3 then ((s.setSync 0).setBit Ix.netTimeStatus 0 5).publish else s

/-! ### Capture inputs -/

/-- A capture's octets (R470). -/
def captureOctets (tbu flags quality lp seq : Nat) : Octets :=
  clockOctets tbu ++ leBytes 1 (flags + 16 * quality) ++ zeros 3 ++ leBytes 8 lp ++ leBytes 4 seq ++ zeros 4

/-- The last capture of an input takes a second source flag (R470). -/
def State.mergeCapture (s : State) (n : Fin 4) (flags : Nat) : State :=
  match s.tbuUnit.captures[n].reverse with
  | [] => s
  | c :: older =>
    let merged := c.take 12 ++ leBytes 1 (octAt c 12 ||| flags) ++ c.drop 13
    { s with tbuUnit := { s.tbuUnit with captures := s.tbuUnit.captures.set n (merged :: older).reverse } }

/-- An input latches the instant `ns` and `quarter` quarters of its cycle (R460, R470). -/
def State.latch (s : State) (n : Fin 4) (task : Bool) (flags ns quarter : Nat) : State :=
  let at_ := s.clockAt ns
  let tbu := at_.1 + quarter * at_.2.1 / 4
  let lp := (publishedAt s.wpu.history ns).elim s.lp (fun p => p.lp)
  let again : Option Bool := match s.tbuUnit.last[n] with
    | some (c, byTask, kept) => if c = ns / 4 ∧ byTask ≠ task then some kept else none
    | none => none
  match again with
  | some kept => if kept then s.mergeCapture n flags else s
  | none =>
    let s1 := s.bump Ix.netCaptureCount (n.val + 1) 1
    let rec_ := captureOctets tbu flags at_.2.2 lp (s1.rd Ix.netCaptureCount (n.val + 1))
    let fifo := s.tbuUnit.captures[n]
    let full := decide (16 ≤ fifo.length)
    let s2 : State := { s1 with tbuUnit := { s1.tbuUnit with last := s1.tbuUnit.last.set n (some (ns / 4, task, !full)) } }
    let s3 : State := if full then s2.setBit Ix.netCaptureStatus (n.val + 1) 0
      else ({ s2 with tbuUnit := { s2.tbuUnit with captures := s2.tbuUnit.captures.set n (fifo ++ [rec_]) } } : State).wr
        Ix.netCapturesWaiting (n.val + 1) (fifo.length + 1)
    s3.cross (eventCode 22 n.val 1) none 0

/-- A filtered edge at a TIN input (R470): the filter delay is taken off. An edge that finds TBU not Running is discarded (R26). -/
def State.tinEdge (s : State) (n : Fin 4) (rising : Bool) (quarter : Fin 4) : State :=
  let sel := s.rd Ix.netCaptureEdge (n.val + 1)
  let chosen := if rising then sel == 1 || sel == 3 else sel == 2 || sel == 3
  if !s.clocked || !chosen then s
  else if !s.runs .tbu then s.discard .tbu 1
  else s.latch n false ((if rising then 1 else 2) + 8) (s.ns - 4 * s.rd Ix.netCaptureFilter (n.val + 1)) quarter.val

/-- An activation of task TBU_STAMPn (R470). -/
def State.tbuStamp (s : State) (n : Fin 4) : State :=
  if s.runs .tbu then s.latch n true 4 s.ns 0 else s.discard .tbu 1

/-- A read of Capture takes the oldest one; from an empty FIFO it answers zeros (R470). -/
def State.captureRead (s : State) (n : Fin 4) : State × Octets :=
  match s.tbuUnit.captures[n] with
  | [] => (s.setBit Ix.netCaptureStatus (n.val + 1) 1, zeros 32)
  | c :: cs =>
    let last := if cs = [] then s.tbuUnit.last[n].map (fun x => (x.1, x.2.1, false)) else s.tbuUnit.last[n]
    (({ s with tbuUnit := { s.tbuUnit with captures := s.tbuUnit.captures.set n cs, last := s.tbuUnit.last.set n last } } : State).wr
      Ix.netCapturesWaiting (n.val + 1) cs.length, c)

/-! ### States -/

/-- Every pulse under way ends (R471). -/
def State.endPulses (s : State) : State := toutAll.foldl (fun (t : State) n => t.toutEnds n) s

/-- STOP of TBU: pending edges are disarmed (R471). -/
def State.tbuStops (s : State) : State := toutAll.foldl (fun (t : State) n => t.setArm n none) s

/-- TBU's drain ends when no pulse is active (R471). -/
def State.tbuDrained (s : State) : Bool := toutAll.all (fun n => !s.bit Ix.netPulseStatus (n.val + 1) 3)

end Sys2Proof.Machine
end

