-- ==== Sys2Proof/Machine/Evf.lean ====
section
/-! DEFINITION. The event fabric: channels, tasks, owners and loops (R406 to R422). -/

namespace Sys2Proof.Machine

/-- Whether a channel is Secure (R414). -/
def State.chanSecure (s : State) (c : Nat) : Bool := s.rd (chanIx c) Ix.evfSubSecurity == 1

/-- A channel enabled or disabled, with the count of those enabled (R411, R421). -/
def State.putEnable (s : State) (c : Nat) (on : Bool) : State :=
  let was := s.chanEnabled c
  let n := s.rd Ix.evfChannelsEnabled 0
  (s.wr (chanIx c) Ix.evfSubEnable (bitNat on)).wr Ix.evfChannelsEnabled 0 (if was == on then n else if on then n + 1 else n - 1)

/-- The channels, in order. -/
abbrev evfChannels : List Nat := List.range 256

/-- Channel status as it reads: ENABLED and ORPHANED follow the channel (R414, R421). -/
def State.chanStatus (s : State) (c : Nat) : Nat :=
  let on := s.chanEnabled c
  s.rd (chanIx c) Ix.evfSubChannelStatus + bitNat on + 8 * bitNat (on && s.rd (chanIx c) Ix.evfSubOwner == 0xFFFF)

/-! ### Firing -/

/-- The place of a cause's kind in the order source, PSC, Fire write (R411). -/
def causeRank (c : Cause) : Nat :=
  match c.kind with
  | .event => 0 | .psc => 1 | .fire => 2

/-- Whether a cause reaches a channel: its source event, or a kind-4 entry or Fire write that names it (R411). -/
def State.causeMeets (s : State) (x : Cause) (c : Nat) : Bool :=
  match x.kind with
  | .event => x.code != 0 && s.rd (chanIx c) Ix.evfSubSource == x.code
  | _ => x.code == c

/-- The cause whose values a firing takes: the first in the order of R411. -/
def firstCause : List Cause → Option Cause
  | [] => none
  | x :: xs =>
    match firstCause xs with
    | some y => if causeRank y < causeRank x then some y else some x
    | none => some x

/-- The event code of a firing: 0 for a PSC or Fire cause (R412). -/
def causeCode (x : Cause) : Nat :=
  match x.kind with
  | .event => x.code
  | _ => 0

/-- The event record (R412). -/
def eventRecord (c : Nat) (x : Cause) (loop merged : Bool) : Octets :=
  leBytes 2 0x000E ++ leBytes 1 1 ++ leBytes 1 (bitNat loop + 2 * bitNat merged) ++ leBytes 1 c ++ leBytes 1 0 ++ leBytes 2 (causeCode x) ++
  leBytes 8 x.lp ++ leBytes 8 x.time ++ leBytes 4 x.arg ++ leBytes 4 0

/-- A channel raises its vector: at most one message per µs, the rest at its end (R412). -/
def State.raiseVector (s : State) (v : Nat) : State :=
  if s.evf.vectors.any (fun x => x.1 == v) then
    { s with evf := { s.evf with vectors := s.evf.vectors.map (fun x => if x.1 = v then (v, true) else x) } }
  else ({ s with evf := { s.evf with vectors := s.evf.vectors ++ [(v, false)] } } : State).msix v

/-- The µs of a vector ends (R412). -/
def State.vectorHoldoff (s : State) (v : Nat) : State :=
  if s.evf.vectors.contains (v, true) then
    ({ s with evf := { s.evf with vectors := s.evf.vectors.map (fun x => if x.1 = v then (v, false) else x) } } : State).msix v
  else { s with evf := { s.evf with vectors := s.evf.vectors.filter (fun x => x.1 != v) } }

/-- A channel fires, but for its tasks and outputs (R411, R412, R417); answers whether the firing is delivered. -/
def State.fireChannel (s : State) (c : Nat) (x : Cause) (others : Nat) : State × Bool :=
  if 256 ≤ s.recentFirings c then
    let t := ((s.putEnable c false).setBit (chanIx c) Ix.evfSubChannelStatus 1).setBit Ix.evfFabricStatus 0 0
    (t.push xqIx fromEvf false (eventRecord c x true (others != 0)), false)
  else
    let recent := s.evf.firings.filter (fun f => decide (s.cycle < f.2 + 1024))
    let t : State := { s with evf := { s.evf with firings := (c, s.cycle) :: recent } }
    let t := ((t.bump (chanIx c) Ix.evfSubFireCount 1).tally 0x70 c 1).wro (chanIx c) Ix.evfSubLastEvent
      (leBytes 8 x.lp ++ leBytes 8 x.time ++ leBytes 4 x.arg ++ leBytes 2 (causeCode x) ++ leBytes 2 0)
    let t := if others = 0 then t else t.bumpSat (chanIx c) Ix.evfSubMergedFirings others
    let t := if t.rd (chanIx c) Ix.evfSubRecord = 1 then t.push xqIx fromEvf false (eventRecord c x false (others != 0)) else t
    let v := t.rd (chanIx c) Ix.evfSubVector
    (if v = 0 then t else t.raiseVector v, true)

/-- The task codes a channel lists (R412). -/
def State.tasksOf (s : State) (c : Nat) : List Nat :=
  let v := s.rd (chanIx c) Ix.evfSubTasks
  [field v 0 8, field v 8 8, field v 16 8, field v 24 8].filter (fun t => t != 0xFF)

/-- The channels that causes of one cycle reach fire in turn (R411); answers the channels that fired, with their cause. -/
def State.fireChannels (s : State) (cs : List Cause) : List Nat → State × List (Nat × Cause)
  | [] => (s, [])
  | c :: rest =>
    let mine := cs.filter (fun x => s.causeMeets x c)
    match firstCause mine with
    | none => s.fireChannels cs rest
    | some x =>
      if s.chanEnabled c then
        let r := s.fireChannel c x (mine.length - 1)
        let r' := r.1.fireChannels cs rest
        (r'.1, if r.2 then (c, x) :: r'.2 else r'.2)
      else (s.bump Ix.evfDiscardedAtDisabledChannels 0 mine.length).fireChannels cs rest

/-! ### Tasks -/

/-- What one activation of a task does (R408): the channel that supplies the values, and its cause. -/
def State.performTask (s : State) (task c : Nat) (x : Cause) : State :=
  if task = 0 then
    let target := clampInt 0 (2 ^ 64 - 1) ((x.lp : Int) + s.rdI (chanIx c) Ix.evfSubScheduleOffset)
    (s.pscRequest target.toNat (s.rd (chanIx c) Ix.evfSubScheduleAction) (s.rd (chanIx c) Ix.evfSubScheduleTag) false).1
  else if task = 1 then (s.swapRequest).1
  else if task = 2 then s.freeze
  else if task = 3 then s.unfreeze
  else if task = 4 then s.snapshot
  else if task ≤ 8 then s.tbuStamp (Fin.ofNat 4 (task - 5))
  else if task ≤ 40 then s.portResume (Fin.ofNat 32 (task - 9))
  else s.flushChan (Fin.ofNat 32 (task - 41))

/-- Whether a task input is busy: MON_SNAP while any snapshot runs (R408, R529). -/
def State.taskBusy (s : State) (task : Nat) : Bool :=
  if task = 4 then s.snapshotting else s.bit Ix.evfTaskStatus (task + 1) 1

/-- The activations of one task input in one cycle: coincident ones become one, and one that meets a busy task is an overrun (R409,
R410). PSC_SCHEDULE is busy for the cycle alone. -/
def State.activateTask (s : State) (task : Nat) (fired : List (Nat × Cause)) : State :=
  match fired with
  | [] => s
  | (c, x) :: more =>
    let t := if more = [] then s else s.bumpSat Ix.evfCoincideCount (task + 1) more.length
    if t.taskBusy task then (t.bumpSat Ix.evfOverrunCount (task + 1) 1).setBit Ix.evfTaskStatus (task + 1) 0
    else
      let u := t.bump Ix.evfTaskActivations (task + 1) 1
      (if task = 0 ∨ task = 4 then u else u.setBit Ix.evfTaskStatus (task + 1) 1).performTask task c x

/-- A task's busy time runs out (R409); MON_SNAP's ends with its snapshot (R408). -/
def State.taskBusyEnds (s : State) (task : Nat) : State := s.clearBit Ix.evfTaskStatus (task + 1) 1

/-- The causes of the next CLK_POS cycle: kind-4 entries fire their channels in the cycle in which they fire, events a cycle later (R418). -/
def State.nextCauses (s : State) : List Cause :=
  let own := s.evf.inbox.filter (fun x => decide (x.kind = .psc))
  if own = [] then s.evf.inbox else own

/-- What the causes of one CLK_POS cycle bring (R411, R412); the outputs of a kind-4 entry's channel have fired with the entry (R76). -/
def State.fabricCycle (s : State) : State :=
  let cs := s.nextCauses
  let s0 : State := { s with evf := { s.evf with inbox := s.evf.inbox.filter (fun x => !cs.contains x) } }
  let r := s0.fireChannels cs evfChannels
  let t := r.1.fireOutputs ((r.2.filter (fun f => decide (f.2.kind ≠ .psc))).flatMap (fun f => (r.1.outputsOf 2 f.1).map (fun o => (o, 0)))) []
  (List.range 73).foldl (fun (t : State) task => t.activateTask task (r.2.filter (fun f => (s.tasksOf f.1).contains task))) t

/-- The causes that wait are worked off, cycle by cycle: R416 keeps the chains of one event shorter than the channels are many. -/
def State.settleFor (s : State) : Nat → State
  | 0 => s
  | fuel + 1 => if s.evf.inbox = [] then s else s.fabricCycle.settleFor fuel

/-- The causes that wait are worked off. -/
def State.settle (s : State) : State := s.settleFor 300

/-- An event leaves its crossing slot (R406, R407): it fires its channels while EVF is Running, or in a drain that found it in its slot;
else it is discarded and counted (R411, R419). -/
def State.crossingExit (s : State) (code : Nat) : State :=
  match s.evf.slots.find? (fun x => x.code == code) with
  | none => s
  | some x =>
    let t : State := { s with evf := { s.evf with slots := s.evf.slots.filter (fun y => y.code != code) } }
    let own := x.own.getD (t.lp, t.stamp)
    let c : Cause := { kind := .event, code := code, lp := own.1, time := own.2, arg := x.arg }
    if s.fn .evf = .running ∨ (s.drains .evf ∧ x.atStop) then
      ({ t with evf := { t.evf with inbox := t.evf.inbox ++ [c] } } : State).settle
    else t.discard .evf 1

/-- Travel reaches the camera ports and the scheduler, and its events their channels (R71, R73, R93, R96, R411). -/
def State.travelled (r : State × Option Travel) : State :=
  match r.2 with
  | none => r.1.comparators.settle
  | some tr =>
    let p := r.1.allHits tr.hits
    ((p.1.pscTravel tr (withheldPins p.2)).comparators).settle

/-! ### States -/

/-- STOP of EVF: the events now in their slots will still be delivered (R419). -/
def State.evfStops (s : State) : State :=
  { s with evf := { s.evf with slots := s.evf.slots.map (fun x => { x with atStop := true }) } }

/-- EVF's drain ends when no event that the STOP found remains (R419). -/
def State.evfDrained (s : State) : Bool := s.evf.inbox.isEmpty && !s.evf.slots.any (fun x => x.atStop)

/-- Drain timeout, ABORT or fault of EVF: they are discarded, and counted (R26, R419). -/
def State.evfTruncate (s : State) : State :=
  let kept := if s.fn .evf = .draining then s.evf.slots.filter (fun x => !x.atStop) else []
  ({ s with evf := { s.evf with inbox := [], slots := kept } } : State).discard .evf (s.evf.inbox.length + (s.evf.slots.length - kept.length))

/-! ### Loops -/

/-- The events that a task may produce directly (R408). -/
def taskEvents (task : Nat) : List Nat :=
  if task = 0 then [eventCode 7 0 0, eventCode 7 0 1, eventCode 7 0 2]
  else if task = 1 then [eventCode 17 0 3, eventCode 17 0 4]
  else if 5 ≤ task ∧ task ≤ 8 then [eventCode 22 (task - 5) 1]
  else if 41 ≤ task then [eventCode 19 (task - 41) 0, eventCode 19 (task - 41) 1, eventCode 19 (task - 41) 2]
  else []

/-- The channels among `on` that a channel's tasks may fire directly (R416). -/
def State.leadsTo (s : State) (on : List Nat) (c : Nat) : List Nat :=
  let tasks := s.tasksOf c
  let events := tasks.flatMap taskEvents
  let action := s.rd (chanIx c) Ix.evfSubScheduleAction
  on.filter (fun y => events.contains (s.rd (chanIx y) Ix.evfSubSource) ||
    (tasks.contains 0 && actKind action == kindChannel && actNumber action == y))

/-- The channels reached from some, in so many steps. -/
def State.reachedFrom (s : State) (on : List Nat) (seen : List Nat) : Nat → List Nat
  | 0 => seen
  | fuel + 1 =>
    let more := (seen.flatMap (fun c => s.leadsTo on c)).filter (fun c => !seen.contains c)
    if more = [] then seen else s.reachedFrom on (seen ++ more.eraseDups) fuel

/-- Whether a path through enabled channels and the channel itself returns to it (R416). -/
def State.loops (s : State) (c : Nat) : Bool :=
  let on := evfChannels.filter (fun y => s.chanEnabled y || y == c)
  (s.reachedFrom on (s.leadsTo on c) on.length).contains c

/-! ### Owners -/

/-- Whether a session may read or write a channel at all: an Open session no Secure channel (R415). -/
def State.chanReachable (s : State) (c : Nat) (secure : Bool) : Bool := secure || !s.chanSecure c

/-- Whether a session owns a channel (R415). -/
def State.owns (s : State) (c session : Nat) : Bool := s.rd (chanIx c) Ix.evfSubOwner == session

/-- A channel's record at its reset values (R414). -/
def State.resetRecord (s : State) (c : Nat) : State :=
  let t := (List.range 18).foldl (fun (t : State) sub => t.wr (chanIx c) sub (resetReg (key (chanIx c) sub))) (s.putEnable c false)
  let u := t.wro (chanIx c) Ix.evfSubLastEvent (resetOct (key (chanIx c) Ix.evfSubLastEvent))
  { u with evf := { u.evf with firings := u.evf.firings.filter (fun f => f.1 != c) } }

/-- A claim with value 1 or 2 (R414): only of an unowned channel; Secure, and an unowned Secure channel, only by an authenticated
session; an enabled channel keeps its attribute, and a Secure one then asks for L2. -/
def State.claim (s : State) (c session level : Nat) (secure : Bool) (v : Nat) : State × Code :=
  let on := s.chanEnabled c
  if !s.chanReachable c secure then (s, .noAccess)
  else if v = 2 ∧ !secure then (s, .noAccess)
  else if s.rd (chanIx c) Ix.evfSubOwner ≠ 0xFFFF then (s, .busy)
  else if on ∧ s.chanSecure c ∧ level < 2 then (s, .noAccess)
  else
    let t := s.wr (chanIx c) Ix.evfSubOwner session
    (if on then t else t.wr (chanIx c) Ix.evfSubSecurity (v - 1), .ok)

/-- A release (R414, R415). -/
def State.release (s : State) (c session : Nat) (secure : Bool) : State × Code :=
  if !s.chanReachable c secure || !s.owns c session then (s, .noAccess) else (s.resetRecord c, .ok)

/-- A write of Enable (R413 to R417): the loop check, and the count of firings from 0. -/
def State.channelEnable (s : State) (c session : Nat) (secure : Bool) (v : Nat) : State × Code :=
  let action := s.rd (chanIx c) Ix.evfSubScheduleAction
  if !s.chanReachable c secure || !s.owns c session then (s, .noAccess)
  else if v = 0 then (s.putEnable c false, .ok)
  else if !s.chanSecure c && actKind action == kindChannel && s.chanSecure (actNumber action) then (s, .noAccess)
  else if s.loops c then (s.setBit (chanIx c) Ix.evfSubChannelStatus 2, .outOfRange)
  else
    let t := s.putEnable c true
    ({ t with evf := { t.evf with firings := t.evf.firings.filter (fun f => f.1 != c) } }, .ok)

/-- A write of 1 to Fire (R411). -/
def State.fireWrite (s : State) (c session : Nat) (secure : Bool) : State × Code :=
  if !s.chanReachable c secure || !s.owns c session then (s, .noAccess)
  else ((s.reachFabric { kind := .fire, code := c, lp := s.lp, time := s.stamp, arg := 0 }).settle, .ok)

/-- Whether a Tasks value may be written: no code above 72 but 0xFF, none twice (R413). -/
def tasksOk (v : Nat) : Bool :=
  let ts := [field v 0 8, field v 8 8, field v 16 8, field v 24 8].filter (fun t => t != 0xFF)
  ts.all (fun t => decide (t ≤ 72)) && decide ts.Nodup

/-- The channels of a session that has ended run on without an owner (R414). -/
def State.orphan (s : State) (session : Nat) : State :=
  evfChannels.foldl (fun (t : State) c => if t.owns c session then t.wr (chanIx c) Ix.evfSubOwner 0xFFFF else t) s

end Sys2Proof.Machine
end

