-- ==== Sys2Proof/Machine/Ptp.lean ====
section
/-! DEFINITION. The field ports and PTP (R454 to R457, R462 to R467). What the default best master clock algorithm does is PRESUMED from
IEEE 1588-2019, which the spec names and does not give. -/

namespace Sys2Proof.Machine

/-- A field port beside its objects, replaced. -/
def State.setFnp (s : State) (n : Fin 2) (x : FnpPort) : State := { s with fnp := s.fnp.set n x }

/-- Whether a port's link is up. -/
def State.fnpUp (s : State) (n : Fin 2) : Bool := decide (2 ≤ s.rd Ix.netLinkState (n.val + 1))

/-- A good frame arrives at a port (R456): none is heard on a link that is down, and a port not Running discards it (R26). Answers whether
the port has it. -/
def State.frameIn (s : State) (n : Fin 2) : State × Bool :=
  if !s.runs (.fnp n) then (s.discard (.fnp n) 1, false)
  else if !s.fnpUp n then (s, false)
  else (s.bump Ix.netFramesReceived (n.val + 1) 1, true)

/-- A port sends a frame: on a link that is up, Running. -/
def State.frameOut (s : State) (n : Fin 2) (o : Output) : State :=
  if s.fnpUp n && s.runs (.fnp n) then (s.emit o).bump Ix.netFramesSent (n.val + 1) 1 else s

/-- Whether a PTP port acts: TBU Running, a PTP port that is Running, and the firmware that runs the protocol not restarting (R463, R471,
R554). -/
def State.ptpActs (s : State) (n : Fin 2) : Bool := s.runs .tbu && s.ptpPort n && s.runs (.fnp n) && !s.power.restarting

/-- A PTP port that uses UDP reports its groups (R456). -/
def State.joinGroups (s : State) (n : Fin 2) : State :=
  if s.ptpActs n && s.rd Ix.netTransport 0 == 0 then
    (s.frameOut n (.igmpReport n.val 0xE0000181)).frameOut n (.igmpReport n.val 0xE000006B)
  else s

/-! ### Links -/

/-- The rate the port tries: its mode's, or in automatic mode the one of the current half second (R455). -/
def State.triesFast (s : State) (n : Fin 2) : Bool :=
  let m := s.rd Ix.netLinkMode (n.val + 1)
  m == 1 || (m == 3 && s.fnp[n].fast)

/-- Block lock or synchronisation is reached (R455, R457). Synchronisation without the auto-negotiation that is asked for is no link. A PTP
port reports its groups on a new link (R456). -/
def State.fnpLinkUp (s : State) (n : Fin 2) (negotiated : Bool) : State :=
  let sub := n.val + 1
  if !s.runs (.fnp n) || s.rd Ix.netLinkMode sub == 0 || s.fnpUp n then s
  else if s.triesFast n then ((s.wr Ix.netLinkState sub 3).setBit Ix.netPortStatus sub 0).joinGroups n
  else if s.rd Ix.netAutoNegotiation sub == 1 && !negotiated then s.setBit Ix.netPortStatus sub 2
  else ((s.wr Ix.netLinkState sub 2).setBit Ix.netPortStatus sub 0).joinGroups n

/-- Lock or synchronisation has been absent for 10 ms (R457). -/
def State.fnpLinkLoss (s : State) (n : Fin 2) : State :=
  let sub := n.val + 1
  if s.fnpUp n then
    let t := ((s.wr Ix.netLinkState sub 1).clearBit Ix.netPortStatus sub 0).setBit Ix.netPortStatus sub 1
    (t.bumpSat Ix.netLinkLossCount sub 1).setFnp n { t.fnp[n] with fast := true }
  else s

/-- Automatic mode tries the other rate (R455). -/
def State.modeAlternates (s : State) (n : Fin 2) : State :=
  if s.runs (.fnp n) && s.rd Ix.netLinkMode (n.val + 1) == 3 && !s.fnpUp n then s.setFnp n { s.fnp[n] with fast := !s.fnp[n].fast } else s

/-- A write of Link mode loads the latencies of the mode (R465). DEDUCED: automatic mode tries 10GBASE-R first and loads its latencies;
off has none to load. -/
def State.linkMode (s : State) (n : Fin 2) (v : Nat) : State :=
  let sub := n.val + 1
  let t := s.wr Ix.netLinkMode sub v
  if v = 2 then (t.wr Ix.netIngressLatency sub 212000).wr Ix.netEgressLatency sub 176000
  else if v = 0 then t
  else (t.wr Ix.netIngressLatency sub 46000).wr Ix.netEgressLatency sub 38000

/-- A port starts: it negotiates its link, unless it is off (R455, R471). -/
def State.fnpStarts (s : State) (n : Fin 2) : State :=
  let t := s.setFnp n { s.fnp[n] with fast := true }
  if s.rd Ix.netLinkMode (n.val + 1) = 0 then t else t.wr Ix.netLinkState (n.val + 1) 1

/-- A port ends: its transmitter idles (R471). -/
def State.fnpEnds (s : State) (n : Fin 2) : State :=
  ((s.wr Ix.netLinkState (n.val + 1) 0).clearBit Ix.netPortStatus (n.val + 1) 0).setFnp n { s.fnp[n] with stamps := [] }

/-! ### Frames of the plain protocols -/

/-- A received ARP request is answered where it asks for the port's address; another frame is not the port's (R456). -/
def State.arp (s : State) (n : Fin 2) (mac : BitVec 48) (ip target : BitVec 32) : State :=
  let (t, heard) := s.frameIn n
  if !heard then t
  else if target.toNat = s.rd Ix.netIPv4Address (n.val + 1) then t.frameOut n (.arpReply n.val mac ip)
  else t.bump Ix.netFramesDiscarded (n.val + 1) 1

/-- A received ICMP echo is answered where it is sent to the port's address (R456). -/
def State.icmpEcho (s : State) (n : Fin 2) (ip target : BitVec 32) (data : Octets) : State :=
  let (t, heard) := s.frameIn n
  if !heard then t
  else if target.toNat = s.rd Ix.netIPv4Address (n.val + 1) then t.frameOut n (.echoReply n.val ip data)
  else t.bump Ix.netFramesDiscarded (n.val + 1) 1

/-- A frame the port does not take, or one with a bad FCS (R456). -/
def State.frameDiscard (s : State) (n : Fin 2) (badFcs : Bool) : State :=
  if badFcs then
    if !s.runs (.fnp n) then s.discard (.fnp n) 1
    else if s.fnpUp n then (s.bump Ix.netFramesInError (n.val + 1) 1).setBit Ix.netPortStatus (n.val + 1) 3 else s
  else
    let (t, heard) := s.frameIn n
    if heard then t.bump Ix.netFramesDiscarded (n.val + 1) 1 else t

/-! ### Stamps -/

/-- The clock value of an event in this cycle with its quarters, in whole ns (R460). -/
def State.eventNs (s : State) (quarter : Fin 4) : Nat := (s.tbu + quarter.val * s.rd Ix.netClockIncrement 0 / 4) / 2 ^ 32

/-- A receive stamp in ps at the SerDes pins (R465). -/
def State.rxStamp (s : State) (n : Fin 2) (quarter : Fin 4) : Int :=
  1000 * (s.eventNs quarter : Int) - s.rdI Ix.netIngressLatency (n.val + 1)

/-- A transmit stamp in ps at the SerDes pins (R465). -/
def State.txStamp (s : State) (n : Fin 2) (quarter : Fin 4) : Int :=
  1000 * (s.eventNs quarter : Int) + s.rdI Ix.netEgressLatency (n.val + 1)

/-- A quotient of PTP arithmetic: exact, or one of the two integers beside it. -/
def ptpQuotient (x : Int) (d : Nat) (k : Nat) : Int := if x % d = 0 then x / d else x / d + (Config.ptpRound k % 2 : Nat)

/-- The whole nanoseconds of a stamp, and the rest in 2^-16 ns, which goes into a correction field (R463). -/
def State.stampParts (s : State) (ps : Int) : Nat × Int := ((ps / 1000).toNat, ptpQuotient (ps % 1000 * 8192) 125 s.free)

/-- The identifier of a sent event message (R467). -/
def stampId (kind seq : Nat) : Nat := kind * 4096 + seq % 4096

/-- A sent event message puts its stamp into the queue (R467). Answers whether the queue has it. -/
def State.putStamp (s : State) (n : Fin 2) (id : Nat) (ps : Int) : State × Bool :=
  let others := s.fnp[n].stamps.filter (fun x => x.1 != id)
  if 16 ≤ others.length then ((s.setBit Ix.netPortStatus (n.val + 1) 4).bumpSat Ix.netStampsLost (n.val + 1) 1, false)
  else
    let q := others ++ [(id, ps)]
    ((s.setFnp n { s.fnp[n] with stamps := q }).raiseTo Ix.netStampQueueHighWater (n.val + 1) q.length, true)

/-- The firmware takes a stamp by its identifier (R467). -/
def State.takeStamp (s : State) (n : Fin 2) (id : Nat) : State :=
  s.setFnp n { s.fnp[n] with stamps := s.fnp[n].stamps.filter (fun x => x.1 != id) }

/-- An event message is sent with its stamp (R465, R467), on a link that is up: the stamp enters the queue, and the firmware takes it, where it
does so within the 10 ms. Answers the stamp where the firmware has it. -/
def State.sendEvent (s : State) (n : Fin 2) (kind : Nat) (m : PtpMessage) (quarter : Fin 4) (taken : Bool) : State × Option Int :=
  let ps := s.txStamp n quarter
  let id := stampId kind m.seq
  if !s.fnpUp n then (s, none)
  else
    let (t, queued) := (s.frameOut n (.ptp n.val m)).putStamp n id ps
    if queued && taken then (t.takeStamp n id, some ps) else (t, none)

/-- A stamp was not taken within 10 ms (R467). -/
def State.stampTimesOut (s : State) (n : Fin 2) : State :=
  match s.fnp[n].stamps with
  | [] => s
  | _ :: q => (s.setFnp n { s.fnp[n] with stamps := q }).setBit Ix.netPortStatus (n.val + 1) 5

/-! ### The best master clock -/

/-- This device's clock identity (R463). -/
def State.clockId (s : State) : Nat := (Config.clockIdentity (s.rd Ix.sysSerialNumber 0)).toNat

/-- A port's identity: the clock's and the port number (R463). -/
def State.portIdentity (s : State) (n : Fin 2) : Nat := s.clockId * 65536 + n.val + 1

/-- A PTP port's state (R474): 3 DISABLED, 4 LISTENING, 6 MASTER, 7 PASSIVE, 8 UNCALIBRATED, 9 SLAVE. -/
def State.ptpState (s : State) (n : Fin 2) : Nat := s.rd Ix.netPortState (n.val + 1)

/-- This device's own data set (R463). -/
def State.ownClock (s : State) : PtpAnnounce where
  priority1 := s.rd Ix.netPriority1 0
  clockClass := if s.rd Ix.netPTPRole 0 = 2 then 255 else 248
  accuracy := 0xFE
  variance := 0xFFFF
  priority2 := s.rd Ix.netPriority2 0
  grandmaster := s.clockId
  steps := 0
  utcOffset := s.rdI Ix.netUTCOffset 0
  traceable := false
  timeSource := 0xA0

/-- The order of comparison of two data sets. -/
def announceRank (a : PtpAnnounce) (sender : Nat) : List Nat :=
  [a.priority1, a.clockClass, a.accuracy, a.variance, a.priority2, a.grandmaster, a.steps, sender]

/-- The lexicographic order. -/
def lexBelow : List Nat → List Nat → Bool
  | [], _ => false
  | _ :: _, [] => false
  | a :: as, b :: bs => decide (a < b) || (a == b && lexBelow as bs)

/-- The better of two masters. -/
def betterMaster (a b : Nat × PtpAnnounce) : Nat × PtpAnnounce :=
  if lexBelow (announceRank b.2 b.1) (announceRank a.2 a.1) then b else a

/-- The best qualified master that a port has heard: one of which it has had two Announces. -/
def State.bestOn (s : State) (n : Fin 2) : Option (Nat × PtpAnnounce) :=
  if !s.ptpPort n then none
  else (s.fnp[n].foreign.filter (fun f => decide (2 ≤ f.2.1))).foldl (fun (b : Option (Nat × PtpAnnounce)) f =>
    some (match b with | none => (f.1, f.2.2) | some x => betterMaster x (f.1, f.2.2))) none

/-- The best master of the device with its port. -/
def State.bestMaster (s : State) : Option (Fin 2 × (Nat × PtpAnnounce)) :=
  match s.bestOn 0, s.bestOn 1 with
  | none, none => none
  | some a, none => some (0, a)
  | none, some b => some (1, b)
  | some a, some b => if betterMaster a b = a then some (0, a) else some (1, b)

/-- A PTP port given a state and the master it selects (R462). -/
def State.ptpMoves (s : State) (n : Fin 2) (st : Nat) (parent : Option Nat) : State :=
  let now := s.ptpState n
  if decide (8 ≤ now) && st == 8 && s.fnp[n].parent == parent then s
  else
    let t := (s.setFnp n { s.fnp[n] with parent := parent, sync := none, delay := none }).wr Ix.netPortState (n.val + 1) st
    if now = 9 then t.loseLock else t

/-- A port's decision: the state it goes to and its master. A port that listens and has heard no master goes on listening until its
receipt timeout. -/
def State.ptpDecision (s : State) (n : Fin 2) (timedOut : Bool) : Nat × Option Nat :=
  let alone := if s.ptpState n = 4 ∧ !timedOut then 4 else 6
  match s.bestOn n with
  | none => (if s.rd Ix.netPTPRole 0 = 2 then 4 else alone, none)
  | some mine =>
    if s.rd Ix.netPTPRole 0 = 2 then (8, some mine.1)
    else
      match s.bestMaster with
      | none => (alone, none)
      | some (p, best) =>
        if lexBelow (announceRank s.ownClock 0) (announceRank best.2 0) then (6, none)
        else if p = n then (8, some best.1)
        else if mine.2.grandmaster = best.2.grandmaster then (7, none) else (6, none)

/-- One port's decision carried out. -/
def State.ptpDecides (s : State) (n : Fin 2) (timedOut : Bool) : State :=
  if s.ptpActs n then
    let d := s.ptpDecision n timedOut
    s.ptpMoves n d.1 d.2
  else s

/-- The announced data of the selected master, if a port has one. -/
def State.parentAnnounce (s : State) : Option PtpAnnounce :=
  let of_ (n : Fin 2) : Option PtpAnnounce := if 8 ≤ s.ptpState n then (s.bestOn n).map (fun x => x.2) else none
  match of_ 0 with
  | some a => some a
  | none => of_ 1

/-- What the decisions leave: GRANDMASTER, the grandmaster's identity, the UTC offset received, TRACEABLE (R460, R474). -/
def State.ptpSettles (s : State) : State :=
  match s.parentAnnounce with
  | some a =>
    (((s.clearBit Ix.netTimeStatus 0 6).wro Ix.netGrandmasterIdentity 0 (beBytes 8 a.grandmaster)).wrI Ix.netUTCOffset 0 a.utcOffset).putTraceable
      a.traceable
  | none =>
    if s.ptpState 0 = 6 ∨ s.ptpState 1 = 6 then
      ((s.setBit Ix.netTimeStatus 0 6).wro Ix.netGrandmasterIdentity 0 (beBytes 8 s.clockId)).putTraceable false
    else (s.clearBit Ix.netTimeStatus 0 6).putTraceable false

/-- The best master clock algorithm over both ports; `late` is the port whose receipt timeout has expired. -/
def State.bmca (s : State) (late : Option (Fin 2)) : State :=
  (((s.ptpDecides 0 (late == some 0)).ptpDecides 1 (late == some 1)).ptpSettles).publish

/-- PTP starts on a port with TBU: it listens, and reports its groups where it uses UDP (R456, R471). -/
def State.ptpStarts (s : State) (n : Fin 2) : State :=
  if s.ptpPort n then (s.wr Ix.netPortState (n.val + 1) 4).joinGroups n else s

/-! ### The servo -/

/-- An exchange gives the offset, in 1/250 of 2^-16 ns (R462, R464). -/
def State.servo (s : State) (n : Fin 2) (off2 : Int) : State :=
  let off := ptpQuotient off2 250 s.free
  let s1 := ((s.takeFree.wrI Ix.netOffsetFromMaster 0 off).wr Ix.netPortState (n.val + 1) 9).sample 8 0 (Int.tdiv off2 (250 * 65536)) none
  let beyond (ns : Nat) : Bool := decide ((ns * 65536 * 250 : Nat) < off2.natAbs)
  let s2 :=
    if s.rd Ix.netServoMode 0 ≠ 0 then s1
    else if beyond (s.rd Ix.netStepThreshold 0) then
      (s1.stepClock (-((2 * off2 + 250 * 65536) / (2 * 250 * 65536)))).getD s1
    else
      let a := Config.servoRate s1.free
      let c := clampInt (-8000000) 8000000 a
      let t := s1.takeFree.setRate c
      if c = a then t else t.setBit Ix.netTimeStatus 0 7
  let inside := !beyond (s.rd Ix.netLockThreshold 0)
  let run := if inside then s2.tbuUnit.within + 1 else 0
  let s3 : State := { s2 with tbuUnit := { s2.tbuUnit with within := run } }
  (if inside && decide (s.rd Ix.netLockCount 0 ≤ run) && s3.rd Ix.netTimeStatus 0 % 4 != 2 then s3.setSync 2 else s3).publish

/-- The Sync's share of an exchange: t2 - t1 with its corrections and the asymmetry, in 1/125 of 2^-16 ns (R464, R466). -/
def State.syncShare (s : State) (n : Fin 2) (x : SyncRecord) (t1 : Nat) : Int :=
  x.t2 * 8192 - (t1 : Int) * 8192000 - 125 * (x.corr + s.rdI Ix.netAsymmetry (n.val + 1))

/-- The path delay shown, of twice its value in 1/125 of 2^-16 ns. -/
def State.showPath (s : State) (n : Fin 2) (p : Int) : State :=
  (s.takeFree.wrI Ix.netMeanPathDelay 0 (ptpQuotient p 250 s.free)).setFnp n { s.fnp[n] with path := some p }

/-- Whatever of an exchange is complete goes to the servo (R464): end to end, a Sync and a Delay_Req whose stamps lie on one side of every
set or step; peer to peer, a Sync and a known path delay. -/
def State.exchange (s : State) (n : Fin 2) : State :=
  let x := s.fnp[n]
  if s.ptpState n < 8 then s
  else
    match x.sync with
    | some y =>
      match y.t1 with
      | none => s
      | some t1 =>
        let ms := s.syncShare n y t1
        if s.rd Ix.netDelayMechanism 0 = 1 then
          match x.delay with
          | some d =>
            match d.own with
            | some t3 =>
              if !d.answered then s
              else
                let t := s.setFnp n { x with sync := none, delay := none }
                if d.epoch = y.epoch then
                  let sm := (d.remote : Int) * 8192000 - t3 * 8192 - 125 * d.corr
                  (t.showPath n (ms + sm)).servo n (ms - sm)
                else t
            | none => s
          | none => s
        else
          match x.path with
          | some p => (s.setFnp n { x with sync := none }).servo n (2 * ms - p)
          | none => s
    | none => s

/-! ### Messages -/

/-- A PTP message arrives (R456, R463): a port that runs no PTP does not take it; one of another domain or of this device goes unused, and so
does one that finds the firmware restarting (R554). -/
def State.ptpIn (s : State) (n : Fin 2) (m : PtpMessage) : State × Bool :=
  let (t, heard) := s.frameIn n
  if !heard then (t, false)
  else if !(t.runs .tbu && t.ptpPort n) then (t.bump Ix.netFramesDiscarded (n.val + 1) 1, false)
  else (t, t.ptpActs n && decide (m.domain = s.rd Ix.netDomainNumber 0) && decide (m.source / 65536 ≠ s.clockId))

/-- Whether a message comes from the master that the port follows. -/
def State.fromParent (s : State) (n : Fin 2) (m : PtpMessage) : Bool :=
  decide (8 ≤ s.ptpState n) && s.fnp[n].parent == some m.source

/-- A Sync (R463, R465). -/
def State.ptpSync (s : State) (n : Fin 2) (q : Fin 4) (m : PtpMessage) : State :=
  let (t, used) := s.ptpIn n m
  if used && t.fromParent n m then
    let y : SyncRecord := {
      seq := m.seq, t2 := t.rxStamp n q, epoch := t.tbuUnit.epoch, corr := m.correction
      t1 := if m.twoStep then none else some m.time }
    (t.setFnp n { t.fnp[n] with sync := some y }).exchange n
  else t

/-- A Follow_Up (R463). -/
def State.ptpFollowUp (s : State) (n : Fin 2) (m : PtpMessage) : State :=
  let (t, used) := s.ptpIn n m
  if used && t.fromParent n m then
    match t.fnp[n].sync with
    | some y =>
      if y.seq = m.seq ∧ y.t1 = none then
        (t.setFnp n { t.fnp[n] with sync := some { y with t1 := some m.time, corr := y.corr + m.correction } }).exchange n
      else t
    | none => t
  else t

/-- A message of this port's. -/
def State.ptpMessage (s : State) (n : Fin 2) (kind : PtpKind) (seq : Nat) : PtpMessage where
  kind := kind
  domain := s.rd Ix.netDomainNumber 0
  seq := seq % 65536
  source := s.portIdentity n
  correction := 0
  twoStep := false
  time := 0
  requesting := 0

/-- A Delay_Req is answered by a MASTER that measures end to end (R463, R465). -/
def State.ptpDelayReq (s : State) (n : Fin 2) (q : Fin 4) (m : PtpMessage) : State :=
  let (t, used) := s.ptpIn n m
  if used && t.ptpState n == 6 && t.rd Ix.netDelayMechanism 0 == 1 then
    let p := t.stampParts (t.rxStamp n q)
    (t.takeFree).frameOut n (.ptp n.val { t.ptpMessage n .delayResp m.seq with
      correction := m.correction - p.2, time := p.1, requesting := m.source })
  else t

/-- A Delay_Resp completes an end-to-end exchange (R464). -/
def State.ptpDelayResp (s : State) (n : Fin 2) (m : PtpMessage) : State :=
  let (t, used) := s.ptpIn n m
  if used && t.fromParent n m && m.requesting == t.portIdentity n && t.rd Ix.netDelayMechanism 0 == 1 then
    match t.fnp[n].delay with
    | some d =>
      if d.seq = m.seq ∧ !d.answered then
        (t.setFnp n { t.fnp[n] with delay := some { d with remote := m.time, corr := m.correction, answered := true } }).exchange n
      else t
    | none => t
  else t

/-- A Pdelay_Req is stamped and answered, with the stamp of the answer in the follow-up where the firmware has it (R463, R465, R467). -/
def State.ptpPdelayReq (s : State) (n : Fin 2) (q : Fin 4) (m : PtpMessage) (taken : Bool) : State :=
  let (t, used) := s.ptpIn n m
  if used && t.rd Ix.netDelayMechanism 0 == 2 then
    let p := t.stampParts (t.rxStamp n q)
    let (u, sent) := t.takeFree.sendEvent n 3 { t.ptpMessage n .pdelayResp m.seq with
      correction := -p.2, twoStep := true, time := p.1, requesting := m.source } q taken
    match sent with
    | some ps =>
      let o := u.stampParts ps
      u.takeFree.frameOut n (.ptp n.val { u.ptpMessage n .pdelayRespFollowUp m.seq with
        correction := m.correction + o.2, time := o.1, requesting := m.source })
    | none => u
  else t

/-- The peer delay is complete: (t4 - t1) - (t3 - t2) with the corrections (R464, R466). An exchange across a set or step is discarded. -/
def State.peerDelay (s : State) (n : Fin 2) (d : DelayRecord) (turn corr : Int) : State :=
  let t := s.setFnp n { s.fnp[n] with delay := none }
  match d.own with
  | some t1 => (t.showPath n ((d.arrival - t1) * 8192 - turn * 8192000 - 125 * (corr + s.rdI Ix.netAsymmetry (n.val + 1)))).exchange n
  | none => t

/-- A Pdelay_Resp is stamped (R465). -/
def State.ptpPdelayResp (s : State) (n : Fin 2) (q : Fin 4) (m : PtpMessage) : State :=
  let (t, used) := s.ptpIn n m
  if used && m.requesting == t.portIdentity n && t.rd Ix.netDelayMechanism 0 == 2 then
    match t.fnp[n].delay with
    | some d =>
      if d.seq = m.seq ∧ !d.answered then
        let d1 := { d with remote := m.time, arrival := t.rxStamp n q, corr := m.correction, answered := true }
        if d.epoch ≠ t.tbuUnit.epoch then t.setFnp n { t.fnp[n] with delay := none }
        else if m.twoStep then t.setFnp n { t.fnp[n] with delay := some d1 }
        else t.peerDelay n d1 0 m.correction
      else t
    | none => t
  else t

/-- A Pdelay_Resp_Follow_Up completes a peer delay exchange (R463). -/
def State.ptpPdelayFollowUp (s : State) (n : Fin 2) (m : PtpMessage) : State :=
  let (t, used) := s.ptpIn n m
  if used && m.requesting == t.portIdentity n && t.rd Ix.netDelayMechanism 0 == 2 then
    match t.fnp[n].delay with
    | some d =>
      if d.seq = m.seq ∧ d.answered then t.peerDelay n d ((m.time : Int) - d.remote) (d.corr + m.correction) else t
    | none => t
  else t

/-- The foreign masters with one Announce more. -/
def heardMaster (source : Nat) (a : PtpAnnounce) : List (Nat × Nat × PtpAnnounce) → List (Nat × Nat × PtpAnnounce)
  | [] => [(source, 1, a)]
  | f :: fs => if f.1 = source then (source, f.2.1 + 1, a) :: fs else f :: heardMaster source a fs

/-- An Announce feeds the best master clock algorithm (R463). -/
def State.ptpAnnounce (s : State) (n : Fin 2) (m : PtpMessage) : State :=
  let (t, used) := s.ptpIn n m
  match m.kind with
  | .announce a =>
    if used && decide (a.steps < 255) then (t.setFnp n { t.fnp[n] with foreign := heardMaster m.source a t.fnp[n].foreign }).bmca none else t
  | _ => t

/-- A MASTER sends its Sync, and a Follow_Up with its stamp where the firmware has it (R463, R467). -/
def State.syncInterval (s : State) (n : Fin 2) (q : Fin 4) (taken : Bool) : State :=
  if s.ptpActs n && s.ptpState n == 6 then
    let seq := s.fnp[n].syncSeq
    let s1 := s.setFnp n { s.fnp[n] with syncSeq := (seq + 1) % 65536 }
    let (t, sent) := s1.sendEvent n 0 { s1.ptpMessage n .sync seq with twoStep := true } q taken
    match sent with
    | some ps =>
      let p := t.stampParts ps
      t.takeFree.frameOut n (.ptp n.val { t.ptpMessage n .followUp seq with correction := p.2, time := p.1 })
    | none => t
  else s

/-- What this device announces: its own data set, or its master's one step further (R463). -/
def State.announced (s : State) : PtpAnnounce :=
  match s.parentAnnounce with
  | some a => { a with steps := a.steps + 1 }
  | none => { s.ownClock with traceable := s.bit Ix.netTimeStatus 0 3 }

/-- A MASTER sends an Announce (R463). -/
def State.announceInterval (s : State) (n : Fin 2) : State :=
  if s.ptpActs n && s.ptpState n == 6 then
    let seq := s.fnp[n].announceSeq
    let t := s.setFnp n { s.fnp[n] with announceSeq := (seq + 1) % 65536 }
    t.frameOut n (.ptp n.val { t.ptpMessage n (.announce t.announced) seq with time := t.clockNs })
  else s

/-- The port sends a Delay_Req to its master, or a Pdelay_Req to its peer, with the asymmetry in the correction (R463, R466, R467). -/
def State.delayInterval (s : State) (n : Fin 2) (q : Fin 4) (taken : Bool) : State :=
  let peer := s.rd Ix.netDelayMechanism 0 == 2
  if s.ptpActs n && (if peer then s.ptpState n != 3 else decide (8 ≤ s.ptpState n)) then
    let seq := s.fnp[n].delaySeq
    let s1 := s.setFnp n { s.fnp[n] with delaySeq := (seq + 1) % 65536 }
    let (t, sent) := s1.sendEvent n (if peer then 2 else 1) { s1.ptpMessage n (if peer then .pdelayReq else .delayReq) seq with
      correction := -s.rdI Ix.netAsymmetry (n.val + 1) } q taken
    let d : Option DelayRecord := sent.map (fun ps => { seq := seq % 65536, own := some ps, epoch := t.tbuUnit.epoch })
    t.setFnp n { t.fnp[n] with delay := d }
  else s

/-- The announce receipt timer of a port expires (R464): its masters are forgotten and the algorithm runs again. -/
def State.announceTimesOut (s : State) (n : Fin 2) : State :=
  if s.ptpActs n && s.ptpState n != 6 then
    ((s.setFnp n { s.fnp[n] with foreign := [] }).setBit Ix.netTimeStatus 0 8).bmca (some n)
  else s

/-- No Sync for three intervals: LOCKED becomes HOLDOVER (R462). -/
def State.syncTimesOut (s : State) (n : Fin 2) : State :=
  if s.ptpState n = 9 then (s.setFnp n { s.fnp[n] with sync := none }).loseLock.publish else s

/-- TBU starts (R471). DEDUCED: an output that was armed before finds the edges that have passed meanwhile as a late arm does (R469). -/
def State.tbuStarts (s : State) : State :=
  toutAll.foldl (fun (t : State) n => match t.tbuUnit.arms[n] with
    | some a => if t.passed a then t.passEdges n a else t
    | none => t) ((s.ptpStarts 0).ptpStarts 1)

/-- What ARM of TBU checks of the field ports (R27, R463). -/
def State.tbuArmable (s : State) : Bool :=
  [(0 : Fin 2), 1].all (fun n => !s.ptpPort n || (s.runs (.fnp n) && s.rd Ix.netLinkMode (n.val + 1) != 0))

end Sys2Proof.Machine
end

