-- ==== Sys2Proof/Machine/Fsm.lean ====
section
/-! DEFINITION. The function state machine of R22 over all blocks: its commands, its start points, its drains and its faults; and the way
of a stitched line from STX to the blocks that take it. -/

namespace Sys2Proof.Machine

/-! ### A stitched line's way -/

/-- The retirement boundary: the channels leave the map and every region's content is invalid (R399). -/
def State.retireNow (s : State) : State := s.dmcRetire.hrbInvalidated.ledgerInvalidated.mreInvalidated

/-- A stitched line goes to MRE, SEG, HRB and PFC; at a strip's first line a pending retirement comes first (R398). -/
def State.downstream (s : State) (x : Stitched) (truncated : Bool) : State :=
  let s0 := if x.line % s.strip = 0 && s.runs .hrb && s.retirementDue then s.retireNow else s
  let r := s0.mreLine x
  let s1 := match r.2 with
    | some d => r.1.segDeviation d
    | none => r.1
  let s2 := (s1.segStitched x).hrbLine x ((r.2.map (fun (d : DevLine) => d.page)).getD 0)
  ((s2.pfcHeader x.line x.time truncated).pfcDrain).bstStep

/-- STX begins line L, once; at a strip's first line CAL's geometric writes start before it (R159, R177, R479). -/
def State.beginLine (s : State) (l : Nat) (truncated : Bool) : State :=
  if s.stx.sent = some l then s else (if l % s.strip = 0 && !truncated then s.geoBoundary else s).openLine l truncated

/-- STX forms line L and hands it on (R159). -/
def State.formAndPass (s : State) (l : Nat) (truncated : Bool) : State :=
  let r := (s.beginLine l truncated).formLine l truncated
  r.1.downstream r.2 truncated

/-- STX forms the line that its cameras and neighbours have delivered (R159, R177, R179). -/
def State.stitchReady (s : State) : State :=
  match s.formsLine with
  | some l =>
    if s.camerasReady l then
      let t := s.beginLine l false
      if t.neighboursReady l then t.formAndPass l false else t
    else s
  | none => s

/-- A camera or a neighbour lags by the line wait: the line is formed with it missing (R159, R179). -/
def State.stitchWaited (s : State) : State :=
  match s.formsLine with
  | some l => if s.waitOver l then s.formAndPass l false else s
  | none => s

/-- The remaining lines of a strip that STX cuts off (R184). -/
def State.stxCut (s : State) : Nat → State
  | 0 => s
  | n + 1 =>
    match s.stx.next with
    | some l => (s.formAndPass l true).stxCut n
    | none => s

/-- The remaining lines of a strip that MRE cuts off reach SEG (R229). -/
def State.mreCut (s : State) : State := s.mreRest.foldl (fun (t : State) d => t.segDeviation d) s

/-! ### Queues -/

/-- The words a queue holds are discarded and its packets are lost (R375). -/
def State.queueTruncate (s : State) (q : Fin 3) : State :=
  let ps := s.queues[q].packets
  if ps = [] then s
  else (((s.setQueue q s.queues[q].turnsEnd).putPackets q []).losePackets q ps.length (wordCount ps)).leftLess (q.val + 1) ps.length

/-! ### What the functions do on STOP, at the end of a drain, and when work is cut off -/

/-- What a function does when a STOP takes it from Running to Draining, by the rule of its chapter. -/
def State.stops (s : State) (f : Fn) : State :=
  match f with
  | .cpt n => s.portStops n
  | .ipl p => if p.val < 16 then s.iplStops (Fin.ofNat 16 p.val) else s
  | .stx => s.stxStops
  | .brd n => (s.braidStops n).reclaimPartials
  | .mre => s.mreStops
  | .seg => s.segStops
  | .pfc => s.pfcStops.pfcDrain
  | .hrb => s.hrbStops
  | .dma => s.dmaStops
  | .evf => s.evfStops
  | .tbu => s.tbuStops
  | .cal => s.calStops
  | .bst => s.bstStops
  | .wpu | .psc | .cde | .cls | .cq | .sq | .xq | .pcie | .dmc _ | .fnp _ | .mon | .pmc => s

/-- Whether a draining function has completed its remaining work, by the rule of its chapter. -/
def State.drained (s : State) (f : Fn) : Bool :=
  match f with
  | .wpu => s.probesEmpty
  | .psc => s.pscDrained
  | .evf => s.evfDrained
  | .cpt n => s.portDrained n
  | .ipl p => decide (p.val = 16) || s.iplDrained (Fin.ofNat 16 p.val)
  | .stx => s.stxDrained
  | .brd _ => true
  | .mre => s.mreDrained
  | .cde => s.cdeDrained
  | .seg => s.segDrained
  | .cls => s.clsDrained
  | .pfc => s.pfcDrained
  | .hrb => s.hrbDrained
  | .cq => s.queues[cqIx].packets.isEmpty
  | .sq => s.queues[sqIx].packets.isEmpty
  | .xq => s.queues[xqIx].packets.isEmpty
  | .dma => s.dmaDrained
  | .pcie => true
  | .dmc n => s.dmcDrained n
  | .fnp _ => true
  | .tbu => s.tbuDrained
  | .cal => s.calDrained
  | .bst => s.bstDrained
  | .mon => s.monDrained
  | .pmc => true

/-- The remaining work of a function is truncated, by the rule of its chapter: on the drain timeout, on ABORT and on entry to Faulted. -/
def State.truncate (s : State) (f : Fn) : State :=
  match f with
  | .wpu => s.dropProbes
  | .psc => s.pscDiscard
  | .evf => s.evfTruncate
  | .cpt n => s.portTruncate n
  | .ipl p => if p.val < 16 then s.iplTruncate (Fin.ofNat 16 p.val) else s
  | .stx => s.stxCut s.stxRest
  | .brd n => (s.braidStops n).reclaimPartials
  | .mre => s.mreCut
  | .cde => s.cdeTruncate.cropsUnpacked
  | .seg => s.segTruncate
  | .cls => s.clsTruncate
  | .pfc => s.pfcTruncate
  | .hrb => s.hrbTruncate
  | .cq => s.queueTruncate cqIx
  | .sq => s.queueTruncate sqIx
  | .xq => s.queueTruncate xqIx
  | .dma => s.dmaTruncate
  | .pcie => s
  | .dmc n => s.dmcTruncate n
  | .fnp n => s.fnpEnds n
  | .tbu => s.tbuStops.endPulses
  | .cal => s.calTruncate
  | .bst => s.bstTruncate
  | .mon => s.monTruncate
  | .pmc => s

/-- What a function does as it reaches Stopped or Faulted from Running or Draining: MRE ends its pages (R229), a field port idles its
transmitter (R471), and PSC's outputs go to their inactive level (R79). -/
def State.ends (s : State) (f : Fn) : State :=
  match f with
  | .mre => s.mreEnds
  | .fnp n => s.fnpEnds n
  | .psc => s.outputsRest
  | .wpu | .evf | .cpt _ | .ipl _ | .stx | .brd _ | .cde | .seg | .cls | .pfc | .hrb => s
  | .cq | .sq | .xq | .dma | .pcie | .dmc _ | .tbu | .cal | .bst | .mon | .pmc => s

/-! ### ARM -/

/-- Whether every DRAM channel in the map is Running: each region lies on all of them (R27, R385). -/
def State.dramRuns (s : State) : Bool :=
  s.dmc.map.all (fun c => match dmcChan c with
    | some n => s.runs (.dmc n)
    | none => false)

/-- What ARM of WPU checks: a serial input's poll interval is no shorter than its frame and the rest of the line (R38). DEDUCED: a BiSS-C
frame counts its position word, two status bits and the CRC-6, an SSI frame its position word. -/
def State.wpuArmable (s : State) : Bool :=
  [1, 2].all (fun sub =>
    let mode := s.rd Ix.wpuSerialMode sub
    let bits := s.rd Ix.wpuSerialPositionWidth sub + (if mode = 1 then 8 else 0)
    let clock := s.rd Ix.wpuSerialClock sub
    mode == 0 || decide (bits * 1000 + s.rd Ix.wpuSerialFrameTimeout sub * clock ≤ s.rd Ix.wpuSerialPollInterval sub * clock))

/-- The settings and dependencies that ARM checks of a function (R22, R27 and the function's chapter). -/
def State.armable (s : State) (f : Fn) : Bool :=
  match f with
  | .wpu => s.wpuArmable
  | .cpt n => s.portArmable n && s.runs .wpu && (!s.pinMode n.val || s.runs .psc)
  | .ipl p => decide (p.val < 16) && s.iplArmable (Fin.ofNat 16 p.val)
  | .stx => s.stxArmable
  | .mre => s.mreArmable && s.runs .cde && s.dramRuns
  | .cde => decide (s.dmc.map ≠ []) && s.regionsFit
  | .seg => s.segArmable
  | .cls => s.clsArmable && s.dramRuns
  | .pfc => s.pfcArmable
  | .hrb => decide (s.dmc.map ≠ []) && s.regionsFit && s.dramRuns
  | .dma => s.dmaArmable && s.runs .pcie
  | .dmc n => s.dmcArmable n
  | .tbu => s.tbuArmable
  | .psc | .evf | .brd _ | .cq | .sq | .xq | .pcie | .fnp _ | .cal | .bst | .mon | .pmc => true

/-- Whether the power state and the life-cycle state let a function be armed (R27, R498): a decommissioned device arms only BST, DMC, the
field ports and TBU. -/
def State.armAllowed (s : State) (f : Fn) : Bool :=
  let retired := s.rd Ix.lifLifeCycleState 0 == 3
  match f with
  | .fnp _ => s.clocked
  | .bst => s.operating
  | .dmc _ => s.operating
  | .tbu => s.operating
  | _ => s.operating && !retired

/-- What a function takes up at ARM (R148, R319, R384, R542). -/
def State.arms (s : State) (f : Fn) : State :=
  match f with
  | .ipl p => if p.val < 16 then s.iplArms (Fin.ofNat 16 p.val) else s
  | .pfc => s.pfcArms
  | .dmc n => s.dmcArms n
  | .cls => if s.power.sweepDue then ({ s with power := { s.power with sweepDue := false } } : State).startSweep else s
  | _ => s

/-- A refused command leaves the state and sets CMD_REJECTED (R22). -/
def State.refuse (s : State) (f : Fn) (c : Code) : State × Code := (s.fnFlag f flagCmdRejected, c)

/-- ARM (R22, R27). `trains` says whether a DRAM channel's training finds a working setting, its retry included (R384). -/
def State.armCommand (s : State) (f : Fn) (trains : Bool) : State × Code :=
  if s.fn f ≠ .stopped || !s.armAllowed f || !s.armable f then s.refuse f .wrongState
  else if s.underOfflineTest f then s.refuse f .busy
  else
    match f with
    | .dmc n =>
      if trains then ((s.arms f).enter f .armed, .ok)
      else (((s.bumpSat Ix.dmcTrainingFailures (n.val + 1) 1).dmcFlag n dsTrainFail true).retryLasting 8).refuse f .wrongState
    | _ => ((s.arms f).enter f .armed, .ok)

/-! ### START and the start point -/

/-- START sets START_PENDING (R22). -/
def State.startCommand (s : State) (f : Fn) : State × Code :=
  if s.fn f = .armed then (s.fnFlag f flagStartPending, .ok) else s.refuse f .wrongState

/-- Whether a function's start point is a strip boundary (R23). -/
def startsAtStrip (f : Fn) : Bool :=
  match f with
  | .cpt _ | .ipl _ | .stx | .mre | .seg | .cls | .pfc | .hrb => true
  | _ => false

/-- What a function does as it enters Running, by the rule of its chapter; `line` is the first line of the strip. -/
def State.starts (s : State) (f : Fn) (line : Nat) : State :=
  match f with
  | .wpu => s.wpuStarts
  | .cpt n => s.portStarts n line
  | .ipl p => if p.val < 16 then s.pipeBegins (Fin.ofNat 16 p.val) line else s
  | .stx => s.stxStarts line
  | .brd n => s.braidTrain n 1
  | .mre => s.mreStarts line
  | .seg => s.segStarts line
  | .cls => s.clsStarts
  | .pfc => s.pfcStarts line
  | .hrb => s.hrbStarts line
  | .fnp n => s.fnpStarts n
  | .tbu => s.tbuStarts
  | .bst => s.bstStarts
  | .psc | .evf | .cde | .cq | .sq | .xq | .dma | .pcie | .dmc _ | .cal | .mon | .pmc => s

/-- An Armed function with START pending reaches its start point and enters Running (R22, R23). -/
def State.startPoint (s : State) (f : Fn) (line : Nat) : State :=
  if s.fn f = .armed && s.bit (f.base + 4) f.sub flagStartPending && (!startsAtStrip f || line % s.strip = 0) then
    (((s.clearBit (f.base + 4) f.sub flagStartPending).enter f .running).starts f line).bstStep
  else s

/-! ### Leaving Running -/

/-- A function enters Stopped from Running or Draining. -/
def State.enterStopped (s : State) (f : Fn) : State := ((s.ends f).enter f .stopped).bstStep

/-- DISARM, and STOP in Armed, cancel a pending START (R22). -/
def State.disarm (s : State) (f : Fn) : State := ((s.clearBit (f.base + 4) f.sub flagStartPending).enter f .stopped).bstStep

def State.disarmCommand (s : State) (f : Fn) : State × Code :=
  if s.fn f = .armed then (s.disarm f, .ok) else s.refuse f .wrongState

/-- STOP (R22). -/
def State.stopCommand (s : State) (f : Fn) : State × Code :=
  match s.fn f with
  | .armed => (s.disarm f, .ok)
  | .running => (((s.enter f .draining).stops f).bstStep, .ok)
  | .draining => (s, .ok)
  | .stopped => s.refuse f .wrongState
  | .faulted => s.refuse f .wrongState

/-- The remaining work of a draining function is truncated: DRAIN_TIMEOUT sets (R22). -/
def State.cutOff (s : State) (f : Fn) : State :=
  let t := s.truncate f
  ({ t with cut := f :: t.cut } : State).fnFlag f flagDrainTimeout

/-- ABORT (R22). -/
def State.abortCommand (s : State) (f : Fn) : State × Code :=
  match s.fn f with
  | .running => ((((s.enter f .draining).stops f).cutOff f).bstStep, .ok)
  | .draining => (if s.cut.contains f then s.fnFlag f flagDrainTimeout else (s.cutOff f).bstStep, .ok)
  | .armed => s.refuse f .wrongState
  | .stopped => s.refuse f .wrongState
  | .faulted => s.refuse f .wrongState

/-- A draining function whose work is complete enters Stopped (R22). -/
def State.drainComplete (s : State) (f : Fn) : State :=
  let s := if f = .seg then s.drainJoins else s
  if s.fn f = .draining && (s.cut.contains f || s.drained f) then s.enterStopped f else s

/-- The drain timeout expires: what is left is truncated and the function enters Stopped (R22, R24). -/
def State.drainTimesOut (s : State) (f : Fn) : State :=
  if s.fn f = .draining then (if s.cut.contains f then s else s.cutOff f).enterStopped f else s

/-- CLEAR returns a Faulted function to Stopped (R22); for WPU it empties the windows of illegal transitions (R35), for IPL16 it also frees
the spare. -/
def State.clearCommand (s : State) (f : Fn) : State × Code :=
  let fused : Bool := match f with
    | .ipl p => s.substituted p.val
    | _ => false
  if s.fn f ≠ .faulted ∨ fused then s.refuse f .wrongState
  else
    let t := s.enter f .stopped
    match f with
    | .wpu => (t.clearWindows, .ok)
    | .ipl p => (if p.val = 16 then (t.setSpare 0 {}).bstStep else t.bstStep, .ok)
    | _ => (t, .ok)

/-- Function control of IPL16 takes only ABORT, which acts as RELEASE, and CLEAR (R144). -/
def State.spareControl (s : State) (v : Nat) : State × Code :=
  if v = 6 then s.clearCommand spareFn
  else if v = 4 then
    if s.bstHolds 16 then (s, .busy)
    else
      let r := s.releaseSpare
      if r.2 = .ok then r else s.refuse spareFn .wrongState
  else s.refuse spareFn .wrongState

/-- A write of Function control (R21, R22). A fault that reaches the function in the same cycle, `met`, refuses the command whatever it is, and
comes as an event of its own (R25). -/
def State.control (s : State) (f : Fn) (v : Nat) (trains met : Bool) : State × Code :=
  if v < 1 || 6 < v then (s, .outOfRange)
  else if met then s.refuse f .wrongState
  else if f = spareFn then s.spareControl v
  else if v = 1 then s.armCommand f trains
  else if v = 2 then s.startCommand f
  else if v = 3 then s.stopCommand f
  else if v = 4 then s.abortCommand f
  else if v = 5 then s.disarmCommand f
  else s.clearCommand f

/-! ### Faults -/

/-- A function faults: what it has in flight is abandoned and reported as its chapter defines, and it enters Faulted (R22). A pipeline that a
spare shadows is taken over whatever its state (R147); a serving spare's lines are lost; a camera port withholds its triggers whatever its
state (R112). -/
def State.faults (s : State) (f : Fn) (cause : Nat) : State :=
  if s.fn f = .faulted then s
  else
    let busy := s.runs f || s.fn f = .draining
    let s1 := if s.cut.contains f then s
      else match f with
        | .ipl p =>
          if p.val < 16 then
            let m : Fin 16 := Fin.ofNat 16 p.val
            if busy || s.rd Ix.iplSpareState 0 == 2 && s.rd Ix.iplSpareServing 0 == p.val then s.iplFaults m else s
          else if s.spareServes (s.rd Ix.iplSpareServing 0) then s.spareLost (Fin.ofNat 16 (s.rd Ix.iplSpareServing 0))
          else s
        | .cpt n => s.portTruncate n
        | _ => if busy then s.truncate f else s
    let s2 := if busy then s1.ends f else s1
    let s3 := s2.enterFaulted f cause
    let s4 := if f = .tbu then s3.setSync 0 else s3
    s4.bstStep

/-- A fault whose word is recorded in a fault address object. -/
def State.faultsAt (s : State) (f : Fn) (cause ix sub address : Nat) : State :=
  if s.fn f = .faulted then s else (s.faults f cause).wr ix sub address

/-- The corrupted contexts of the pool are lost and counted (R286). -/
def State.loseBlobs (s : State) (lost : List Nat) : State :=
  let gone := s.seg.blobs.countP (fun b => lost.contains b.id) + s.seg.waits.countP (fun w => lost.contains w.blob.id)
  let t : State := { s with seg := { s.seg with blobs := s.seg.blobs.filter (fun b => !lost.contains b.id),
                                                waits := s.seg.waits.filter (fun w => !lost.contains w.blob.id) } }
  t.bump Ix.segBlobsRejected 0 gone

/-- The parity of a queue word turns wrong (R344). -/
def State.hitWord (s : State) (q : Fin 3) (packet word : Nat) : State :=
  s.setQueue q { s.queues[q] with
    packets := s.queues[q].packets.mapIdx (fun i p => if i = packet then p.mapIdx (fun j w => if j = word then { w with parity := !w.parity } else w)
      else p) }

/-- An uncorrectable error in a protected memory (R504 and the rule of each block). -/
def State.uncorrectable (s : State) (part : EccPart) (address : Nat) : State :=
  match part with
  | .pscTable => if s.fn .psc = .faulted then s else (s.faults .psc 1).setBit Ix.pscSchedulerStatus 0 5
  | .cptBuffer n => s.faults (.cpt n) 2
  | .iplTable p => (s.faultsAt (.ipl p) 1 Ix.iplFaultAddress (p.val + 1) address).autoRepair p.val
  | .iplBuffer p => (s.faultsAt (.ipl p) 2 Ix.iplFaultAddress (p.val + 1) address).autoRepair p.val
  | .stxStore => s.faultsAt .stx 1 Ix.stxFaultAddress 0 address
  | .brdBuffer n => s.faults (.brd n) 1
  | .mreField => s.faultsAt .mre 1 Ix.mreFaultAddress 0 address
  | .mreBuffer => s.faultsAt .mre 2 Ix.mreFaultAddress 0 address
  | .cdeBuffer => s.faultsAt .cde 1 Ix.cdeFaultAddress 0 address
  | .segEngine e =>
    if s.rd Ix.segEngineState (e.val + 1) = 4 then s else ((s.engineFaults e.val 1).autoRepair (unitSeg e.val)).bstStep
  | .segPool lost => if s.fn .seg = .faulted then s else (s.loseBlobs lost).faultsAt .seg 1 Ix.segFaultAddress 0 address
  | .clsTable => s.faultsAt .cls 1 Ix.clsFaultAddress 0 address
  | .clsFifo => s.faultsAt .cls 2 Ix.clsFaultAddress 0 address
  | .pfcState => s.faultsAt .pfc 1 Ix.pfcFaultAddress 0 address
  | .pfcBank => s.faultsAt .pfc 2 Ix.pfcFaultAddress 0 address
  | .queue q packet word => s.hitWord q packet word
  | .dmaStaging => s.faultsAt .dma 1 Ix.dlvFaultAddress 0 address
  | .hrbStaging => s.faultsAt .hrb 1 Ix.hrbFaultAddress 0 address
  | .dmcBuffer n => s.faultsAt (.dmc n) 2 Ix.dmcFaultAddress 0 address
  | .evfRecord c =>
    if s.fn .evf = .faulted then s else (s.faultsAt .evf 1 Ix.evfFaultAddress 0 c.val).setBit Ix.evfFabricStatus 0 2
  | .fnpBuffer n => s.faults (.fnp n) 1
  | .tbuSettings => s.faults .tbu 1
  | .calAccum => s.faults .cal 1
  | .bstPattern => s.faultsAt .bst 1 Ix.bstFaultAddress 0 address
  | .monRam => s.faultsAt .mon 1 0x6E01 0 address
  | .pmcCounters => if s.fn .pmc = .faulted then s else (s.faults .pmc 1).setBit Ix.pmcPMCStatus 0 2
  | .objectStore ix sub => { s with badObjects := key ix.toNat sub.toNat :: s.badObjects.filter (fun k => k != key ix.toNat sub.toNat) }

/-- A corrected error: the block's corrected count and its ECC_CORRECTED (R504). Memories with parity correct nothing. -/
def State.corrected (s : State) (part : EccPart) : State :=
  match part with
  | .iplTable p => (s.bumpSat Ix.iplCorrectedTableErrors (p.val + 1) 1).setBit Ix.iplPipelineStatus (p.val + 1) 3
  | .iplBuffer p => (s.bumpSat Ix.iplCorrectedTableErrors (p.val + 1) 1).setBit Ix.iplPipelineStatus (p.val + 1) 3
  | .stxStore => (s.bumpSat Ix.stxCorrectedStoreErrors 0 1).setBit Ix.stxStitchStatus 0 8
  | .brdBuffer n => s.setBit Ix.brdLinkStatus (n.val + 1) 9
  | .mreField => (s.bumpSat Ix.mreCorrectedBufferErrors 0 1).setBit Ix.mreInspectionStatus 0 16
  | .mreBuffer => (s.bumpSat Ix.mreCorrectedBufferErrors 0 1).setBit Ix.mreInspectionStatus 0 16
  | .cdeBuffer => (s.bumpSat Ix.cdeCorrectedBufferErrors 0 1).setBit Ix.cdeEngineStatus 0 6
  | .segEngine _ => (s.bumpSat Ix.segCorrectedErrors 0 1).setBit Ix.segDetectionStatus 0 6
  | .segPool _ => (s.bumpSat Ix.segCorrectedErrors 0 1).setBit Ix.segDetectionStatus 0 6
  | .clsTable => (s.bumpSat Ix.clsCorrectedErrors 0 1).setBit Ix.clsClassifierStatus 0 4
  | .clsFifo => (s.bumpSat Ix.clsCorrectedErrors 0 1).setBit Ix.clsClassifierStatus 0 4
  | .pfcState => (s.bumpSat Ix.pfcCorrectedErrors 0 1).setBit Ix.pfcFilterStatus 0 7
  | .pfcBank => (s.bumpSat Ix.pfcCorrectedErrors 0 1).setBit Ix.pfcFilterStatus 0 7
  | .dmaStaging => s.bumpSat Ix.dlvCorrectedErrors 0 1
  | .hrbStaging => (s.bumpSat Ix.hrbCorrectedErrors 0 1).setBit Ix.hrbHistoryStatus 0 4
  | .dmcBuffer n => (s.bumpSat Ix.dmcCorrectedBufferErrors 0 1).dmcFlag n dsEccCorrected true
  | .calAccum => (s.bumpSat Ix.calCorrectedErrors 0 1).setBit Ix.calCalibrationStatus 0 12
  | .bstPattern => (s.bumpSat Ix.bstCorrectedErrors 0 1).setBit Ix.bstSelfTestStatus 0 10
  | .monRam => (s.bumpSat 0x6E00 0 1).setBit Ix.monRecorderStatus 0 2
  | .pscTable | .cptBuffer _ | .queue _ _ _ | .evfRecord _ | .fnpBuffer _ | .tbuSettings | .pmcCounters | .objectStore _ _ => s

end Sys2Proof.Machine
end

