-- ==== Sys2Proof/Machine/Flash.lean ====
section
/-! DEFINITION. The boot flash: the directory, the image slots and the checks of the boot ROM (R547 to R550, R553). -/

namespace Sys2Proof.Machine

/-! ### The boot directory -/

/-- Whether a copy of the directory is valid (R547). -/
def copyValid (c : Octets) : Bool :=
  c.length == 64 && leAt c 0 4 == 0x52445656 && leAt c 4 2 == 1 && leAt c 0x3C 4 == crc32c (c.take 60)

/-- The sequence of a copy, 0 where it is invalid: a writer overwrites the copy with the lower one (R547). -/
def copySeq (c : Octets) : Nat := if copyValid c then leAt c 8 8 else 0

/-- The directory a reader uses: the valid copy with the higher sequence (R547). -/
def FlashState.directory (f : FlashState) : Option Octets :=
  if copyValid f.dirA && (!copyValid f.dirB || decide (copySeq f.dirB ≤ copySeq f.dirA)) then some f.dirA
  else if copyValid f.dirB then some f.dirB
  else none

/-- The preferred slot and the states of the slots; without a directory slot A is preferred and both are good (R550). -/
def FlashState.preferred (f : FlashState) : Nat := (f.directory.map (fun c => octAt c 6)).getD 1
def FlashState.slotState (f : FlashState) (slot : Nat) : Nat := (f.directory.map (fun c => octAt c (0x0F + slot))).getD 3

/-- The directory written anew: into the copy with the lower sequence (R547). -/
def FlashState.writeDirectory (f : FlashState) (preferred a b : Nat) : FlashState :=
  let seq := max (copySeq f.dirA) (copySeq f.dirB) + 1
  let c := directoryCopy seq preferred a b
  if copySeq f.dirA ≤ copySeq f.dirB then { f with dirA := c } else { f with dirB := c }

/-- A slot's state written into the directory (R547). -/
def FlashState.mark (f : FlashState) (slot state : Nat) : FlashState :=
  f.writeDirectory f.preferred (if slot = 1 then state else f.slotState 1) (if slot = 2 then state else f.slotState 2)

/-- The preferred slot written into the directory (R547). -/
def FlashState.prefer (f : FlashState) (slot : Nat) : FlashState := f.writeDirectory slot (f.slotState 1) (f.slotState 2)

/-- The image in a slot: 1 A, 2 B. -/
def FlashState.image (f : FlashState) (slot : Nat) : Octets := if slot = 1 then f.slotA else f.slotB

/-- A slot given an image. -/
def FlashState.putImage (f : FlashState) (slot : Nat) (bs : Octets) : FlashState :=
  if slot = 1 then { f with slotA := bs } else { f with slotB := bs }

/-- The other slot. -/
def otherSlot (slot : Nat) : Nat := if slot = 1 then 2 else 1

/-! ### Images -/

/-- The fields of an image header (R548). -/
def imVersion (h : Octets) : Octets := (h.drop 8).take 8
def imSecurity (h : Octets) : Nat := octAt h 0x10
def imPayload (h : Octets) : Nat := leAt h 0x18 4

/-- Whether the octets of a span of the header are 0. -/
def zeroSpan (h : Octets) (lo hi : Nat) : Bool := ((h.drop lo).take (hi - lo)).all (fun b => b == 0)

/-- The checks of R549 on a header alone: its form, the silicon revision, the security version. -/
def State.headerPasses (s : State) (h : Octets) : Bool :=
  decide (512 ≤ h.length) && leAt h 0 4 == 0x4D495656 && leAt h 4 2 == 1 && zeroSpan h 6 8 && zeroSpan h 0x11 0x12 && zeroSpan h 0x14 0x18 &&
  zeroSpan h 0x1C 0x20 && zeroSpan h 0xB1 0x1A0 && decide (1 ≤ imPayload h) && decide (imPayload h ≤ 25165312) && decide (imSecurity h ≤ 64) &&
  decide (leAt h 0x12 2 ≤ s.rd Ix.sysSiliconRevision 0) && decide (s.rd Ix.updMinimumSecurityVersion 0 ≤ imSecurity h)

/-- The check of the root key is skipped in UNPROVISIONED, which UNVERIFIED_ROOT shows of an image that gets as far (R549). -/
def State.rootSkipped (s : State) (slot : Nat) : State :=
  if s.rd Ix.lifLifeCycleState 0 = 0 ∧ s.headerPasses (s.flash.image slot) then s.setBit Ix.sysPowerStatus 0 5 else s

/-- Whether the boot ROM accepts the image in a slot (R549): the root key is not checked in UNPROVISIONED. -/
def State.slotPasses (s : State) (slot : Nat) : Bool :=
  let im := s.flash.image slot
  let key := (im.drop 0x50).take 97
  let payload := (im.drop 512).take (imPayload im)
  s.headerPasses im && (s.rd Ix.lifLifeCycleState 0 == 0 || Config.sha384 key == s.rdo Ix.lifRootKeyHash 0) &&
  Config.ecdsaVerify key (im.take 0x1A0) ((im.drop 0x1A0).take 96) &&
  payload.length == imPayload im && Config.sha384 payload == (im.drop 0x20).take 48

/-- The slot information of a slot (R565). -/
def State.slotInformation (s : State) (slot : Nat) : Octets :=
  let im := s.flash.image slot
  leBytes 1 (s.flash.slotState slot) ++ leBytes 1 (imSecurity im) ++ leBytes 2 0 ++ leBytes 4 (imPayload im) ++ leBytes 8 (ofLe (imVersion im))

/-! ### Replacing an image -/

/-- The states of an update (R565). -/
abbrev upIdle : Nat := 0
abbrev upReceiving : Nat := 1
abbrev upStaged : Nat := 2
abbrev upActivating : Nat := 3
abbrev upTrial : Nat := 4

/-- The slot that an Image transfer writes (R553). -/
def State.spareSlot (s : State) : Nat := otherSlot (s.rd Ix.updRunningSlot 0)

/-- The segments of an image reach the flash as they arrive; the first marks the slot empty (R553). -/
def State.imageSegment (s : State) (first : Bool) (data : Octets) : State :=
  let slot := s.spareSlot
  let f := if first then (s.flash.mark slot 0).putImage slot data else s.flash.putImage slot (s.flash.image slot ++ data)
  ({ s with flash := f } : State).wr Ix.updUpdateState 0 upReceiving

/-- The last segment of an image: a slot that passes is staged, another stays empty (R553). -/
def State.imageEnds (s : State) : State × Code :=
  let slot := s.spareSlot
  let t := s.rootSkipped slot
  if s.slotPasses slot then (({ t with flash := s.flash.mark slot 1 } : State).wr Ix.updUpdateState 0 upStaged, .ok)
  else (t.wr Ix.updUpdateState 0 upIdle, .outOfRange)

/-- An abandoned transfer leaves the slot empty (R553). -/
def State.imageAbandoned (s : State) : State :=
  if s.rd Ix.updUpdateState 0 = upReceiving then s.wr Ix.updUpdateState 0 upIdle else s

end Sys2Proof.Machine
end

