-- ==== Sys2Proof/Machine/Ses.lean ====
section
/-! DEFINITION. Sessions: paths, opening, authentication, responses and repeats, transfers, the ends of sessions, DTLS associations, the
mailboxes and group frames (R430 to R450). -/

namespace Sys2Proof.Machine

/-- The bits of Access status (R452). -/
abbrev acAuthFail : Nat := 0
abbrev acSessionFull : Nat := 1
abbrev acExpired : Nat := 2
abbrev acSeqErr : Nat := 3
abbrev acSegmentTimeout : Nat := 4
abbrev acNoTime : Nat := 5

/-- A bit of Access status set. -/
def State.access (s : State) (b : Nat) : State := s.setBit Ix.sesAccessStatus 0 b

/-! ### Paths -/

/-- Whether the management cores answer: not in Off and not while they restart (R540, R546). -/
def State.mgtUp (s : State) : Bool := s.on && !s.power.restarting

/-- Whether a network path is served: from Ready on, over a Running field port, inside DTLS over a complete association of the same client
(R438, R454, R540). -/
def State.netServed (s : State) (port : Fin 2) (ip : BitVec 32) (udp : BitVec 16) (assoc : Option Nat) : Bool :=
  s.mgtUp && s.clocked && s.runs (.fnp port) &&
  match assoc with
  | none => true
  | some a => s.assocs.any (fun x => x.id == a && x.done && x.port == port.val && x.ip == ip && x.udp == udp)

/-- Whether a number path writes scalars big-endian: the network does, the mailbox does not (R426). -/
def Path.bigEndian : Path → Bool
  | .net _ _ _ _ => true
  | .mailbox _ => false

/-- A number of `n` octets as a path carries it (R426). -/
def pathNum (p : Path) (n v : Nat) : Octets := if Path.bigEndian p then beBytes n v else leBytes n v

/-- The number that octets of a path spell (R426). -/
def pathNat (p : Path) (bs : Octets) : Nat := if Path.bigEndian p then ofBe bs else ofLe bs

/-- The segment size of a path (R440). -/
def segmentSize (p : Path) : Nat := if Path.bigEndian p then 1376 else 3816

/-- A frame reaches a field port that is not Running: it is discarded and counted (R26). -/
def State.fnpUnheard (s : State) (port : Fin 2) : State :=
  if s.clocked && !s.runs (.fnp port) then s.discard (.fnp port) 1 else s

/-! ### Responses -/

/-- The response frame of a node: the header of R438, its fields big-endian on the network and little-endian in a mailbox (R5, R447). -/
def responseFrame (node : Nat) (p : Path) (session seq : Nat) (r : Response) : Octets :=
  pathNum p 2 0x5644 ++ pathNum p 1 1 ++ pathNum p 1 r.opcode ++ pathNum p 1 1 ++ pathNum p 1 0 ++ pathNum p 2 node ++ pathNum p 2 0 ++
  pathNum p 2 session ++ pathNum p 2 seq ++ pathNum p 2 r.status ++ pathNum p 2 r.payload.length ++ pathNum p 2 0 ++ r.payload

/-- A field port's counter of frames grows by the frame of a path; a mailbox has none (R474). -/
def State.countPort (s : State) (ix : Nat) (p : Path) : State :=
  { s with regs := match p with
      | .net port _ _ _ => (s.bump ix (port.val + 1) 1).regs
      | .mailbox _ => s.regs }

/-- A frame that came over the network counts among those its port has received (R474). -/
def State.netHeard (s : State) (port : Fin 2) : State := s.bump Ix.netFramesReceived (port.val + 1) 1

/-- A frame that a path brings is counted (R452, R474). -/
def State.frameHeard (s : State) (p : Path) : State := (s.bump Ix.sesFramesReceived 0 1).countPort Ix.netFramesReceived p

/-- A response leaves: a mailbox holds it until it is acknowledged, and raises vector 35 where its interrupt is enabled (R437, R448). -/
def State.respond (s : State) (p : Path) (session seq : Nat) (r : Response) : State :=
  let frame := responseFrame (s.rd Ix.sysNodeID 0) p session seq r
  let t := (s.emit (.response p session seq r frame)).countPort Ix.netFramesSent p
  match p with
  | .net _ _ _ _ => t
  | .mailbox m =>
    let b := t.mailboxes[m]
    let u : State := { t with mailboxes := t.mailboxes.set m { b with ready := true, response := frame } }
    if b.irq then u.msix 35 else u

/-- A frame reaches MGT: over the network it is counted where the path is served; a mailbox takes it unless it is busy or holds a response,
which MB_OVERRUN shows (R448, R452). The frame's effect follows. -/
def State.deliver (s : State) (p : Path) (k : State → State) : State :=
  match p with
  | .net port ip udp assoc => 
    if s.netServed port ip udp assoc then k (s.frameHeard p) else s.fnpUnheard port
  | .mailbox m =>
    if !s.on || !s.pcie.linkUp then s
    else if s.power.restarting || s.mailboxes[m].ready then
      { s with mailboxes := s.mailboxes.set m { s.mailboxes[m] with overrun := true } }
    else k (s.frameHeard p)

/-! ### The ends of sessions -/

/-- A transfer is abandoned: an image slot stays empty, any other object as it was (R141, R444, R553). -/
def State.abandon (s : State) (t : Transfer) : State :=
  if t.write && t.ix == Ix.updImage then s.imageAbandoned else s

/-- A session ends: its transfer is abandoned, its response discarded, its channels run on without an owner, and the association that carried
it closes (R433, R436). -/
def State.endSession (s : State) (id : Nat) : State :=
  match s.sessions.find? (fun x => x.id == id) with
  | none => s
  | some x =>
    let t := match x.transfer with
      | some y => s.abandon y
      | none => s
    let gone (a : Assoc) : Bool := match x.path with
      | .net _ _ _ (some k) => a.id == k
      | _ => false
    ({ t with sessions := t.sessions.filter (fun y => y.id != id), assocs := t.assocs.filter (fun a => !gone a) } : State).orphan id

/-- Several sessions end. -/
def State.endSessions (s : State) (ids : List Nat) : State := ids.foldl (fun (t : State) id => t.endSession id) s

/-- The IDs of the sessions that a test picks. -/
def State.sessionIds (s : State) (p : Session → Bool) : List Nat := (s.sessions.filter p).map (fun x => x.id)

/-- The session timeout runs out (R436). -/
def State.sessionExpires (s : State) (id : Nat) : State :=
  if s.mgtUp && s.sessions.any (fun x => x.id == id) then
    ((s.endSession id).bumpSat Ix.sesSessionsExpired 0 1).access acExpired
  else s

/-- A session replaced, where it is still open. -/
def State.putSession (s : State) (x : Session) : State :=
  { s with sessions := s.sessions.map (fun y => if y.id = x.id then x else y) }

/-- The segment timeout runs out: the transfer is abandoned (R444). -/
def State.segmentExpires (s : State) (id : Nat) : State :=
  match s.sessions.find? (fun x => x.id == id) with
  | some x =>
    match x.transfer with
    | some t => if s.mgtUp then ((s.abandon t).putSession { x with transfer := none }).access acSegmentTimeout else s
    | none => s
  | none => s

/-! ### Requests -/

/-- What the effect of a request answers: the state, the code and the payload. -/
structure Reply where
  state : State
  code : Code
  payload : Octets := []

/-- Whether a session is the one a request names (R430 "no session"): of this path, and the one bound to the association or mailbox. -/
def sessionFits (p : Path) (x : Session) : Bool :=
  match p, x.path with
  | .mailbox m, .mailbox k => m == k
  | .net _ _ _ a, .net _ _ _ b => a == b
  | _, _ => false

/-- A request of a session (R430, R437): refused without a session or out of sequence; a repeat gets the stored response again; a new one is
performed, or refused by a later check, and its response stored. A segment whose offset is wrong is refused with "sequence" and uses up none
(R442). -/
def State.request (s : State) (r : Req) (opcode : Nat) (effect : State → Session → Reply) : State :=
  s.deliver r.path (fun s =>
    let id := r.session.toNat
    let seq := r.seq.toNat
    match s.sessions.find? (fun x => x.id == id && sessionFits r.path x) with
    | none => s.respond r.path id seq { opcode := opcode, status := Code.noSession.value, payload := [] }
    | some x =>
      if x.lastSeq = seq then
        let t := ((s.bump Ix.sesRepeatedRequests 0 1).retryTransient 3 id).putSession { x with lastNs := s.ns }
        match x.stored with
        | some a => t.respond r.path id seq a
        | none => t
      else if (x.lastSeq + 1) % 65536 = seq then
        let y : Reply := effect (s.putSession { x with lastSeq := seq, lastNs := s.ns }) { x with lastSeq := seq, lastNs := s.ns }
        if y.code = .sequence then (s.access acSeqErr).respond r.path id seq { opcode := opcode, status := Code.sequence.value, payload := [] }
        else
        let a : Response := { opcode := opcode, status := y.code.value, payload := y.payload }
        let t : State := { y.state with sessions := y.state.sessions.map (fun z => if z.id = id then { z with stored := some a } else z) }
        t.respond r.path id seq a
      else (s.access acSeqErr).respond r.path id seq { opcode := opcode, status := Code.sequence.value, payload := [] })

/-! ### Opening -/

/-- The levels that an unauthenticated session may have, of the object that says so (R435, R449). -/
def levelAllowed (allowed level : Nat) : Bool := (allowed == 0 && level == 0) || (allowed == 1 && decide (level ≤ 1))

/-- The highest level that a chain's anchor allows now: L3 only in SERVICE (R434). -/
def State.levelLimit (s : State) (anchorMax : Nat) : Nat := if s.rd Ix.lifLifeCycleState 0 = 2 then anchorMax else min anchorMax 2

/-- A session opens with an ID. -/
def State.openSession (s : State) (id : Nat) (p : Path) (level : Nat) (secure : Bool) (anchorMax seq : Nat) (a : Response) : State :=
  let x : Session :=
    { id := id, path := p, level := level, secure := secure, provisioned := false, timeoutMs := s.rd Ix.sesSessionTimeout 0, opened := s.stamp,
      lastNs := s.ns, lastSeq := seq, stored := some a, transfer := none, cursor := 0, challenge := none, anchorMax := anchorMax }
  { s with sessions := s.sessions ++ [x] }

/-- The payload that answers OPEN (R439). -/
def openPayload (p : Path) (id level timeout : Nat) : Octets :=
  pathNum p 2 id ++ pathNum p 1 level ++ pathNum p 1 0 ++ pathNum p 4 timeout ++ pathNum p 2 (segmentSize p)

/-- Whether a client name is printable ASCII of at most 32 characters (R426, R439). -/
def nameOk (name : Octets) : Bool := decide (name.length ≤ 32) && name.all (fun b => decide (0x20 ≤ b.toNat ∧ b.toNat ≤ 0x7E))

/-- What OPEN answers (R432 to R435, R449): the ID the session takes, or the code of the refusal. -/
def State.openCode (s : State) (p : Path) (level : Nat) (name : Octets) : Code :=
  if 3 < level ∨ !nameOk name then .outOfRange
  else
    match p with
    | .mailbox _ => if levelAllowed (s.rd Ix.sesMailboxUnauthenticatedLevel 0) level then .ok else .authFailed
    | .net _ _ _ none =>
      let net := s.sessions.filter (fun x => Path.bigEndian x.path)
      if 64 ≤ net.length ∨ 56 ≤ (net.filter (fun x => !x.secure)).length then .noResources
      else if levelAllowed (s.rd Ix.sesNetworkUnauthenticatedLevel 0) level then .ok else .authFailed
    | .net _ _ _ (some a) =>
      let anchor := ((s.assocs.find? (fun x => x.id == a)).map (fun x => x.anchorMax)).getD 0
      if s.sessions.any (fun x => sessionFits p x) then .busy
      else if 64 ≤ (s.sessions.filter (fun x => Path.bigEndian x.path)).length then .noResources
      else if level ≤ s.levelLimit anchor then .ok else .authFailed

/-- The lowest free ID of a path (R432). -/
def State.freeId (s : State) (p : Path) : Nat :=
  match p with
  | .mailbox m => 64 + m.val
  | .net _ _ _ _ => ((List.range 64).find? (fun i => !s.sessions.any (fun x => x.id == i))).getD 63

/-- OPEN (R432, R435, R449): an OPEN on a mailbox first ends the session it holds. -/
def State.openRequest (s : State) (p : Path) (seq level : Nat) (name : Octets) : State :=
  s.deliver p (fun s =>
    let s1 := match p with
      | .mailbox m => s.endSession (64 + m.val)
      | .net _ _ _ _ => s
    let code := s1.openCode p level name
    let id := s1.freeId p
    let assoc : Option Assoc := match p with
      | .net _ _ _ (some a) => s1.assocs.find? (fun x => x.id == a)
      | _ => none
    let s2 := if code = .noResources then s1.access acSessionFull else s1
    let a : Response :=
      { opcode := 1, status := code.value, payload := if code = .ok then openPayload p id level (s1.rd Ix.sesSessionTimeout 0) else [] }
    let s3 := if code = .ok then s2.openSession id p level assoc.isSome ((assoc.map (fun a => a.anchorMax)).getD 0) seq a else s2
    s3.respond p 0xFFFF seq a)

/-! ### Authentication -/

/-- The valid trust anchors: hash and maximum level (R453). -/
def State.anchors (s : State) : List (Octets × Nat) :=
  ((List.range 16).map (fun k => s.rdo Ix.sesTrustAnchor (k + 1))).filterMap
    (fun a => if octAt a 49 = 1 then some (a.take 48, octAt a 48) else none)

/-- Whether TBU reports its time as synchronised (R462). -/
def State.timeKnown (s : State) : Bool := s.rd Ix.netTimeStatus 0 % 4 != 0

/-- Whether a chain is accepted: it is sound, in date where the time is known, and ends at a valid anchor, whose maximum level is the answer
(R434). -/
def State.chainLevel (s : State) (chain : Octets) : Option Nat :=
  if Config.chainSound chain && (!s.timeKnown || Config.chainDates chain (s.tbu / tbuSecond)) then
    (s.anchors.find? (fun a => a.1 == Config.sha384 (Config.chainRoot chain))).map (fun a => a.2)
  else none

/-- NO_TIME sets where a chain's dates are not checked (R434). -/
def State.noTime (s : State) : State := if s.timeKnown then s else s.access acNoTime

/-- A failed handshake or AUTH is counted (R433, R449). -/
def State.authFails (s : State) : State := (s.bumpSat Ix.sesAuthenticationFailures 0 1).access acAuthFail

/-- AUTH step 1: a random challenge of 48 octets (R449). -/
def State.authChallenge (s : State) (x : Session) : Reply :=
  let c := (List.range 48).map (fun i => Config.freeByte (s.free + i))
  let t : State := { s with free := s.free + 48 }
  { state := t.putSession { x with challenge := some c }, code := .ok, payload := c }

/-- What the leaf key of an AUTH signs (R449). -/
def authMessage (challenge : Octets) (id : Nat) : Octets := ascii "VDP-MAILBOX" ++ challenge ++ leBytes 2 id

/-- AUTH step 2 (R434, R449): each challenge serves one attempt; while no anchor is valid, an empty chain grants L2. -/
def State.authResponse (s : State) (x : Session) (level : Nat) (chain sig : Octets) : Reply :=
  let s1 := s.putSession { x with challenge := none }
  if 3 < level then { state := s, code := .outOfRange }
  else if x.challenge.isSome && s.anchors.isEmpty && chain == [] && sig == [] then
    { state := s.putSession { x with challenge := none, level := 2, secure := true, provisioned := true, anchorMax := 0 }, code := .ok }
  else
    let s2 := s1.noTime
    match x.challenge, s.chainLevel chain with
    | some c, some limit =>
      if level ≤ s.levelLimit limit && Config.ecdsaVerify (Config.leafKey chain) (Config.sha384 (authMessage c x.id)) sig then
        { state := s2.putSession { x with challenge := none, level := level, secure := true, provisioned := false, anchorMax := limit }, code := .ok }
      else { state := s2.authFails, code := .authFailed }
    | _, _ => { state := s2.authFails, code := .authFailed }

/-! ### DTLS -/

/-- A ClientHello: a handshake starts where fewer than eight are in progress (R433). -/
def State.clientHello (s : State) (port : Fin 2) (ip : BitVec 32) (udp : BitVec 16) : State :=
  if s.netServed port ip udp none && decide ((s.assocs.filter (fun a => !a.done)).length < 8) then
    { s.netHeard port with
      assocs := s.assocs ++ [{ id := s.nextAssoc, port := port.val, ip := ip, udp := udp, done := false, anchorMax := 0 }],
      nextAssoc := s.nextAssoc + 1 }
  else if s.netServed port ip udp none then s.netHeard port
  else s.fnpUnheard port

/-- A handshake ends (R433, R434): `ok` says whether suites, key exchange and signatures were as R433 asks. -/
def State.handshake (s : State) (a : Nat) (chain : Octets) (ok : Bool) : State :=
  if !s.mgtUp || !s.assocs.any (fun x => x.id == a && !x.done) then s
  else
    let s1 := s.noTime
    match (if ok then s.chainLevel chain else none) with
    | some limit => { s1 with assocs := s1.assocs.map (fun x => if x.id = a then { x with done := true, anchorMax := limit } else x) }
    | none => ({ s1 with assocs := s1.assocs.filter (fun x => x.id != a) } : State).authFails

/-- A handshake that is not complete in time is abandoned (R433). -/
def State.handshakeTimesOut (s : State) (a : Nat) : State :=
  { s with assocs := s.assocs.filter (fun x => x.id != a || x.done) }

/-- An association closes, and the session it carries with it (R433). -/
def State.dtlsClose (s : State) (a : Nat) : State :=
  if s.mgtUp && s.assocs.any (fun x => x.id == a && x.done) then
    let t := s.endSessions (s.sessionIds (fun x => match x.path with
      | .net _ _ _ (some k) => k == a
      | _ => false))
    { t with assocs := t.assocs.filter (fun x => x.id != a) }
  else s

/-! ### Groups and discovery -/

/-- Whether the device is a member of a group (R446). -/
def State.memberOf (s : State) (g : Nat) : Bool :=
  g == 0xFFFF || (g != 0 && (List.range 8).any (fun k => s.rd Ix.sysGroupMembership (k + 1) == g))

/-- The octets of the firmware version, as an OCT travels (R446). -/
def State.identity (s : State) (p : Path) : Octets :=
  let port := match p with
    | .net n _ _ _ => n.val
    | .mailbox _ => 0
  let name := (s.rdo Ix.sysNodeName 0).take 16
  pathNum p 2 (s.rd Ix.sysNodeID 0) ++ pathNum p 2 (s.rd Ix.sysSiliconRevision 0) ++ pathNum p 8 (s.rd Ix.sysSerialNumber 0) ++
  s.rdo Ix.sysFirmwareVersion 0 ++ pathNum p 4 (s.rd Ix.sysDeviceType 0) ++ pathNum p 4 (s.rd Ix.netIPv4Address (port + 1)) ++
  beBytes 6 (Config.macAddress (s.rd Ix.sysSerialNumber 0) port).toNat ++ pathNum p 1 (s.rd Ix.sysPowerState 0) ++
  pathNum p 1 (s.rd Ix.lifLifeCycleState 0) ++ name ++ List.replicate (16 - name.length) 0x20

/-- A frame is discarded without response and counted (R439, R446). -/
def State.frameDiscarded (s : State) : State := s.bump Ix.sesFramesDiscarded 0 1

/-- A group frame (R446): a member's answer waits for its delay; for another device the frame is discarded. -/
def State.groupRequest (s : State) (r : Req) (group : Nat) (answer : State → State × Response) : State :=
  if s.memberOf group then
    s.deliver r.path (fun s =>
      let a := answer s
      { a.1 with groupAnswers := a.1.groupAnswers ++ [{ path := r.path, seq := r.seq.toNat, response := a.2 }] })
  else
    match r.path with
    | .net port ip udp assoc => if s.netServed port ip udp assoc then (s.netHeard port).frameDiscarded else s.fnpUnheard port
    | .mailbox _ => s

/-- The delay of a group answer ends, and it leaves (R446). -/
def State.groupAnswer (s : State) : State :=
  match s.groupAnswers with
  | [] => s
  | a :: rest =>
    if s.mgtUp then ({ s with groupAnswers := rest } : State).respond a.path 0xFFFF a.seq a.response else s

/-! ### Mailboxes -/

/-- A mailbox that an acknowledgement or a status write reaches (R448). -/
def State.mailboxAck (s : State) (m : Fin 4) : State :=
  if s.on && s.pcie.linkUp && !s.power.restarting then
    { s with mailboxes := s.mailboxes.set m { s.mailboxes[m] with ready := false } }
  else s

/-- The host's write of Mailbox status: [2] clears MB_OVERRUN, [3] enables the interrupt (R447). -/
def State.mailboxStatus (s : State) (m : Fin 4) (v : Nat) : State :=
  if s.on && s.pcie.linkUp then
    let b := s.mailboxes[m]
    { s with mailboxes := s.mailboxes.set m { b with overrun := b.overrun && !v.testBit 2, irq := v.testBit 3 } }
  else s

/-- A Function Level Reset or the loss of the link: the mailbox sessions end, and the status bits but the interrupt enable clear (R450). -/
def State.mailboxesEnd (s : State) : State :=
  let t := s.endSessions [64, 65, 66, 67]
  { t with mailboxes := t.mailboxes.map (fun b => { b with ready := false, overrun := false }) }

/-! ### What a read shows -/

/-- The session table (R452). -/
def State.sessionTable (s : State) : Octets :=
  s.sessions.flatMap (fun x =>
    let (ip, udp, box) : Nat × Nat × Bool := match x.path with
      | .net _ ip udp _ => (ip.toNat, udp.toNat, false)
      | .mailbox _ => (0, 0, true)
    leBytes 2 x.id ++ leBytes 1 x.level ++ leBytes 1 (bitNat x.secure + 2 * bitNat box) ++ leBytes 4 ip ++ leBytes 2 udp ++ leBytes 2 0 ++
    leBytes 8 x.opened ++ leBytes 4 ((s.ns - x.lastNs) / 1000000))

/-- PROVISIONING: no trust anchor is valid (R449, R452). -/
def State.accessLive (s : State) : Nat := 64 * bitNat s.anchors.isEmpty

end Sys2Proof.Machine
end

