-- ==== Sys2Proof/Machine/Life.lean ====
section
/-! DEFINITION. The life-cycle: its commands and the service idle timeout (R497 to R500), and the minimum security version (R556). -/

namespace Sys2Proof.Machine

/-- The bits of Life-cycle status (R519). -/
abbrev lcServiceTimeout : Nat := 0
abbrev lcCmdRefused : Nat := 1
abbrev lcFuseBusy : Nat := 2

/-- The life-cycle states (R497). -/
abbrev lcUnprovisioned : Nat := 0
abbrev lcDeployed : Nat := 1
abbrev lcService : Nat := 2
abbrev lcDecommissioned : Nat := 3

/-- Every function of the device (R8, R21). -/
def allFns : List Fn :=
  [.wpu, .psc, .evf] ++ (List.finRange 32).map (fun n => Fn.cpt n) ++ (List.finRange 17).map (fun n => Fn.ipl n) ++ [.stx] ++
  (List.finRange 4).map (fun n => Fn.brd n) ++ [.mre, .cde, .seg, .cls, .pfc, .hrb, .cq, .sq, .xq, .dma, .pcie] ++
  (List.finRange 8).map (fun n => Fn.dmc n) ++ (List.finRange 2).map (fun n => Fn.fnp n) ++ [.tbu, .cal, .bst, .mon, .pmc]

/-- The functions that a decommissioned device may run (R497). -/
def runsRetired (f : Fn) : Bool :=
  match f with
  | .bst => true
  | .dmc _ => true
  | .fnp _ => true
  | .tbu => true
  | _ => false

/-- The state leaves SERVICE: every L3 session ends (R500). -/
def State.leaveService (s : State) (after : Nat) : State :=
  (s.wr Ix.lifLifeCycleState 0 after).endSessions (s.sessionIds (fun x => x.level == 3))

/-- A life-cycle command is refused (R499). -/
def State.lifeRefused (s : State) (c : Code) : State × Code := (s.setBit Ix.lifLifeCycleStatus 0 lcCmdRefused, c)

/-- An accepted transition is counted (R499). -/
def State.lifeMoved (s : State) : State := s.bumpSat Ix.lifLifeCycleTransitions 0 1

/-- Whether a command's octets are of the length, reserved octets and serial number of R499. -/
def State.lifeFits (s : State) (bs : Octets) (len : Nat) : Bool :=
  bs.length == len && leAt bs 1 3 == 0 && leAt bs 4 8 == s.rd Ix.sysSerialNumber 0

/-- Every trust anchor is made invalid (R499). -/
def State.dropAnchors (s : State) : State :=
  (List.range 16).foldl (fun (t : State) k => t.wro Ix.sesTrustAnchor (k + 1) ((t.rdo Ix.sesTrustAnchor (k + 1)).set 49 0)) s

/-- The life-cycle commands, requested by a session (R499). -/
def State.provision (s : State) (x : Session) (bs : Octets) : State × Code :=
  let hash := (bs.drop 12).take 48
  if !x.secure then s.lifeRefused .noAccess
  else if s.rd Ix.lifLifeCycleState 0 ≠ lcUnprovisioned then s.lifeRefused .wrongState
  else if !s.lifeFits bs 60 || hash.all (fun b => b == 0) then s.lifeRefused .outOfRange
  else if s.bit Ix.lifLifeCycleStatus 0 lcFuseBusy then s.lifeRefused .busy
  else if Config.fuseVerifies s.free then
    (((s.takeFree.wro Ix.lifRootKeyHash 0 hash).wr Ix.lifLifeCycleState 0 lcDeployed).lifeMoved, .ok)
  else (s.takeFree, .deviceError)

def State.enterService (s : State) (x : Session) (bs : Octets) : State × Code :=
  if !(x.secure && x.anchorMax == 3) then s.lifeRefused .noAccess
  else if s.rd Ix.lifLifeCycleState 0 ≠ lcDeployed then s.lifeRefused .wrongState
  else if !s.lifeFits bs 12 then s.lifeRefused .outOfRange
  else (((s.wr Ix.lifLifeCycleState 0 lcService).wr Ix.lifServiceEntryTime 0 s.stamp).lifeMoved, .ok)

def State.leaveServiceCommand (s : State) (bs : Octets) : State × Code :=
  if s.rd Ix.lifLifeCycleState 0 ≠ lcService then s.lifeRefused .wrongState
  else if !s.lifeFits bs 12 then s.lifeRefused .outOfRange
  else if s.bit Ix.lifLifeCycleStatus 0 lcFuseBusy then s.lifeRefused .busy
  else ((s.leaveService lcDeployed).lifeMoved, .ok)

def State.decommission (s : State) (x : Session) (bs : Octets) : State × Code :=
  if x.level < 3 then s.lifeRefused .noAccess
  else if s.rd Ix.lifLifeCycleState 0 ≠ lcService || !allFns.all (fun f => runsRetired f || s.fn f = .stopped) then s.lifeRefused .wrongState
  else if !s.lifeFits bs 12 then s.lifeRefused .outOfRange
  else if s.bit Ix.lifLifeCycleStatus 0 lcFuseBusy then s.lifeRefused .busy
  else ((s.dropAnchors.leaveService lcDecommissioned).lifeMoved, .ok)

/-- A write of Life-cycle command (R499). -/
def State.lifeCommand (s : State) (x : Session) (bs : Octets) : State × Code :=
  if octAt bs 0 = 1 then s.provision x bs
  else if octAt bs 0 = 2 then s.enterService x bs
  else if octAt bs 0 = 3 then s.leaveServiceCommand bs
  else if octAt bs 0 = 4 then s.decommission x bs
  else s.lifeRefused .outOfRange

/-- A period without an L3 session reaches the Service idle timeout (R500). -/
def State.serviceIdle (s : State) : State :=
  if s.rd Ix.lifLifeCycleState 0 = lcService && !s.sessions.any (fun x => x.level == 3) then
    (s.leaveService lcDeployed).setBit Ix.lifLifeCycleStatus 0 lcServiceTimeout
  else s

/-- Raise security version: in SERVICE and Ready the fused minimum rises to the version of the running good image (R556). -/
def State.raiseSecurity (s : State) (v : Nat) : State × Code :=
  let slot := s.rd Ix.updRunningSlot 0
  if s.rd Ix.lifLifeCycleState 0 ≠ lcService || s.rd Ix.sysPowerState 0 ≠ 2 || s.flash.slotState slot ≠ 3 then (s, .wrongState)
  else if v ≠ 1 then (s, .outOfRange)
  else if s.bit Ix.lifLifeCycleStatus 0 lcFuseBusy then (s, .busy)
  else (s.wr Ix.updMinimumSecurityVersion 0 (max (s.rd Ix.updMinimumSecurityVersion 0) (imSecurity (s.flash.image slot))), .ok)

end Sys2Proof.Machine
end

