-- ==== Sys2Proof/Machine/Pwr.lean ====
section
/-! DEFINITION. Power states and their commands, device resets and the boot, restarts of the management cores, firmware updates, the
power-fail sequence, and the temperature and supply monitors (R540 to R562, R590). -/

namespace Sys2Proof.Machine

/-- The bits of Power status (R563). -/
abbrev pwTransitioning : Nat := 0
abbrev pwFailLive : Nat := 1
abbrev pwFailSeen : Nat := 2
abbrev pwBootFallback : Nat := 3
abbrev pwRecovery : Nat := 4
abbrev pwUnverifiedRoot : Nat := 5
abbrev pwTrialReverted : Nat := 6

/-- The power states (R540). -/
abbrev psStandby : Nat := 1
abbrev psReady : Nat := 2
abbrev psRun : Nat := 3
abbrev psService : Nat := 4

/-- A power state entered, its transition in progress (R541); the serial inputs lose their reference (R39). -/
def State.powerState (s : State) (v : Nat) : State := (s.serialForget.wr Ix.sysPowerState 0 v).setBit Ix.sysPowerStatus 0 pwTransitioning

/-! ### Ready and Standby -/

/-- MGT arms and starts a field port whose Link mode is not 0 (R454, R542). -/
def State.startFieldPort (s : State) (n : Fin 2) : State :=
  if s.rd Ix.netLinkMode (n.val + 1) ≠ 0 ∧ s.fn (.fnp n) = .stopped then (s.enter (.fnp n) .running).starts (.fnp n) 0 else s

/-- The pages of the master queue return to waiting to load: DRAM content does not survive (R542). -/
def State.reloadPages (s : State) : State :=
  let q := s.mre.queue.map (fun (p : MasterPage) => { p with load := .loading, moving := false, place := none, head := [] })
  ({ s with mre := { s.mre with ringHead := 0 } } : State).setPages q

/-- The device DRAM's contents are lost, with what the channels held (R29). -/
def State.loseMemory (s : State) : State :=
  { s with dram := [], dmc := { s.dmc with poison := [], waiting := [], injected := [] } }

/-- A sweep of the ledger is due once CLS runs (R31, R310). -/
def State.sweepIsDue (s : State) : State := { s with power := { s.power with sweepDue := true } }

/-- The entry to Ready (R20, R31, R542): `levels` are the first samples of the encoders' lines. -/
def State.enterReady (s : State) (levels : BitVec 8) : State :=
  let s1 := ((s.powerState psReady).putBit Ix.sysPowerStatus 0 pwFailLive s.power.failPin).wr Ix.envSpreadInForce 0 (s.rd Ix.envCLK_PIPESpread 0 + 256 * s.rd Ix.envCLK_MGTSpread 0)
  let s2 := (s1.loseMemory.dmcEnterReady.reloadPages.outputsRest).wpuReady levels
  (s2.discoveryBegins.sweepIsDue.startFieldPort 0).startFieldPort 1

/-- Standby: the field ports stop and every VDP session ends (R541). -/
def State.stopFieldPort (s : State) (n : Fin 2) : State :=
  if s.fn (.fnp n) = .stopped ∨ s.fn (.fnp n) = .faulted then s else s.enterStopped (.fnp n)

def State.enterStandby (s : State) : State :=
  let t := ((s.linksStop.powerState psStandby).stopFieldPort 0).stopFieldPort 1
  { t.endSessions (t.sessionIds (fun x => Path.bigEndian x.path)) with assocs := [] }

/-- Whether every function but the field ports is Stopped or Faulted (R541). -/
def State.quiet (s : State) : Bool :=
  allFns.all (fun f =>
    match f with
    | .fnp _ => true
    | _ => s.fn f = .stopped || s.fn f = .faulted)

/-- Power commands, in the order of R541: a transition the table does not have is refused, one while TRANSITIONING shows is refused busy.
An accepted reset waits until its response is sent. -/
def State.powerCommand (s : State) (v : Nat) (levels : BitVec 8) : State × Code :=
  let st := s.rd Ix.sysPowerState 0
  let allowed :=
    if v = 1 then st = psReady
    else if v = 2 then st = psStandby ∨ ((st = psRun ∨ st = psService) ∧ s.quiet)
    else if v = 3 ∨ v = 4 then st = psReady
    else if v = 5 then st = psStandby
    else v = 6
  if v < 1 ∨ 6 < v then (s, .outOfRange)
  else if ¬ allowed then (s, .wrongState)
  else if s.bit Ix.sysPowerStatus 0 pwTransitioning then (s, .busy)
  else
    let t : State := { s with power := { s.power with bootDue := false } }
    if v = 1 then (t.enterStandby, .ok)
    else if v = 2 then ((t.wr Ix.sysClockMargin 0 0).enterReady levels, .ok)
    else if v = 3 then (t.powerState psRun, .ok)
    else if v = 4 then (t.powerState psService, .ok)
    else if v = 5 then ({ t with power := { t.power with off := true, offCommand := true } }, .ok)
    else ({ t with power := { t.power with resetDue := true } }, .ok)

/-- A transition completes (R541). -/
def State.transitionComplete (s : State) (micros : Nat) : State :=
  if s.bit Ix.sysPowerStatus 0 pwTransitioning then
    (s.clearBit Ix.sysPowerStatus 0 pwTransitioning).wr Ix.sysTransitionTime 0 (min micros (2 ^ 32 - 1))
  else s

/-! ### Device resets -/

/-- The scalars that fuses and the configuration record keep over a device reset (R498, R547, R556). -/
def keptRegs : List (Nat × Nat) :=
  [(Ix.sysNodeID, 0), (Ix.sysBootTarget, 0), (Ix.bstFuseEntriesFree, 0), (Ix.updMinimumSecurityVersion, 0), (Ix.lifLifeCycleState, 0)] ++
  (List.range 8).map (fun k => (Ix.sysGroupMembership, k + 1))

/-- The octet strings that fuses and the configuration record keep (R498, R547). -/
def keptOcts : List (Nat × Nat) :=
  [(Ix.sysNodeName, 0), (Ix.lifRootKeyHash, 0)] ++ (List.range 16).map (fun k => (Ix.sesTrustAnchor, k + 1))

/-- The volatile state cleared, with what outlives it: the sockets, the flash, the fuses, the factory record, the pins and what has left them
(R545). SERVICE ends: the fuses say DEPLOYED (R498). -/
def State.cleared (s : State) : State :=
  let r := State.reset
  let t : State :=
    { r with dmc := { r.dmc with sockets := s.dmc.sockets }, flash := s.flash, bst := { r.bst with fused := s.bst.fused },
             cal := { r.cal with factory := s.cal.factory }, power := { r.power with failPin := s.power.failPin },
             out := s.out, free := s.free, pending := s.pending }
  let u := keptRegs.foldl (fun (t : State) k => t.wr k.1 k.2 (s.rd k.1 k.2)) (t.clearBit Ix.sysPowerStatus 0 pwUnverifiedRoot)
  let v := keptOcts.foldl (fun (t : State) k => t.wro k.1 k.2 (s.rdo k.1 k.2)) u
  if s.rd Ix.lifLifeCycleState 0 = lcService then v.wr Ix.lifLifeCycleState 0 lcDeployed else v

/-- The boot ROM tries the candidate slots in order: one that is good and passes is chosen; one that is rejected is marked failed (R549,
R550). -/
def State.tryBoot (s : State) : List Nat → State × Option Nat
  | [] => (s, none)
  | slot :: rest =>
    if s.flash.slotState slot ≠ 3 then s.tryBoot rest
    else if s.slotPasses slot then (s.rootSkipped slot, some slot)
    else (({ s.rootSkipped slot with flash := s.flash.mark slot 4 } : State).setBit Ix.sysPowerStatus 0 pwBootFallback).tryBoot rest

/-- The choice of a slot: a preferred slot on trial is marked failed and not booted; without a slot that passes the device is in recovery
(R550). -/
def State.bootSlot (s : State) : State :=
  let pref := s.flash.preferred
  let r :=
    if s.flash.slotState pref = 2 then
      (({ s with flash := s.flash.mark pref 4 } : State).setBit Ix.sysPowerStatus 0 pwBootFallback).tryBoot [otherSlot pref]
    else s.tryBoot [pref, otherSlot pref]
  match r.2 with
  | some slot => (r.1.wr Ix.updRunningSlot 0 slot).wro Ix.sysFirmwareVersion 0 (imVersion (r.1.flash.image slot))
  | none => r.1.setBit Ix.sysPowerStatus 0 pwRecovery

/-- A device reset with its cause and the boot that follows it, up to Standby (R545, R550, R551); the fused repairs are applied (R516). -/
def State.boot (s : State) (cause : Nat) : State :=
  ((s.cleared.wr Ix.sysLastResetCause 0 cause).bootSlot).applyFuses

/-- An accepted reset command is performed once the response has been sent (R541). -/
def State.afterRequest (s : State) : State := if s.power.resetDue then s.boot 3 else s

/-- PORST_N asserted and released (R545). -/
def State.pinReset (s : State) : State := s.boot (if s.power.thermTrip then 4 else if s.power.offCommand then 5 else 2)

/-- After the start-up a Boot target of 2 enters Ready, once (R552). In recovery MGT serves only the mailbox (R550). -/
def State.bootTarget (s : State) (levels : BitVec 8) : State :=
  if s.mgtUp && s.power.bootDue && s.rd Ix.sysPowerState 0 = psStandby && s.rd Ix.sysBootTarget 0 = 2 && !s.bit Ix.sysPowerStatus 0 pwRecovery then
    ({ s with power := { s.power with bootDue := false } } : State).enterReady levels
  else s

/-- A temperature comparator trips: the device enters Off with THERMTRIP_N low and without a power-fail sequence (R544). -/
def State.thermalTrip (s : State) : State :=
  { s with power := { s.power with off := true, thermTrip := true, fail := none, bootDue := false } }

/-! ### PCIe resets -/

/-- The loss of the PCIe link: PCIE faults where it runs, the mailbox sessions end (R374, R450). -/
def State.pcieDown (s : State) : State := s.linkDown.mailboxesEnd

/-- PERST_N resets the link, the configuration space and the mailbox sessions (R545). -/
def State.pcieReset (s : State) : State :=
  let t := s.pcieDown.setBusMaster false
  { t with pcie := { t.pcie with setup := hostDefaults } }

/-- A Function Level Reset: every DMA channel ends as on ABORT, doorbells and shadow rings clear, the mailbox sessions end (R374, R450). -/
def State.functionReset (s : State) : State := s.dmaTruncate.clearRings.mailboxesEnd

/-! ### Restarts of the management cores -/

/-- The management cores restart: every session and association ends, and the dictionary goes unanswered (R546). -/
def State.restart (s : State) (kind cause : Nat) : State :=
  let t := s.endSessions (s.sessionIds (fun _ => true))
  let u : State := { t with assocs := [], groupAnswers := [], power := { t.power with restarting := true, restartKind := kind } }
  (u.bumpSat Ix.sysMGTRestarts 0 1).wr Ix.sysLastRestartCause 0 cause

/-- A revert: the trial slot fails, the other is preferred, and the cores restart on it (R555). -/
def State.revert (s : State) : State :=
  let slot := s.rd Ix.updRunningSlot 0
  (({ s with flash := (s.flash.mark slot 4).prefer (otherSlot slot), power := { s.power with watchdogs := 0 } } : State)).restart 2 3

/-- The watchdog expires; the second time on trial it brings a revert (R546, R557). -/
def State.watchdog (s : State) : State :=
  if !s.mgtUp then s
  else
    let t := s.restart 0 1
    if s.rd Ix.updUpdateState 0 = upTrial then
      let n := s.power.watchdogs + 1
      if 2 ≤ n then t.revert.setBit Ix.sysPowerStatus 0 pwTrialReverted
      else { t with power := { t.power with watchdogs := n } }
    else t

/-- The cores run an image of a slot. -/
def State.runSlot (s : State) (slot update : Nat) : State :=
  ((s.wr Ix.updRunningSlot 0 slot).wr Ix.updUpdateState 0 update).wro Ix.sysFirmwareVersion 0 (imVersion (s.flash.image slot))

/-- The cores have restarted and answer again (R546, R554, R555). -/
def State.restarted (s : State) (ms : Nat) : State :=
  if !s.on || !s.power.restarting then s
  else
    let t := ({ s with power := { s.power with restarting := false, restartKind := 0 } } : State).wr Ix.updActivationTime 0 (min ms (2 ^ 32 - 1))
    let other := otherSlot (s.rd Ix.updRunningSlot 0)
    if s.power.restartKind = 1 then ({ t with power := { t.power with watchdogs := 0 } } : State).runSlot other upTrial
    else if s.power.restartKind = 2 then t.runSlot other upIdle
    else t

/-! ### Updates -/

/-- Whether something is under way that an activation must not meet (R554). -/
def State.activationBusy (s : State) : Bool :=
  s.calBusy || s.bst.round || s.bst.test.isSome || s.bit Ix.lifLifeCycleStatus 0 lcFuseBusy ||
  (s.rd Ix.iplSpareState 0 == 1 || s.rd Ix.iplSpareState 0 == 4) ||
  [1, 2, 3, 4].any (fun sub => s.rd Ix.segSpareState sub == 1 || s.rd Ix.segSpareState sub == 4)

/-- ACTIVATE: the staged slot is on trial and preferred, and the cores restart on it (R554). In recovery it acts as a reset (R550). -/
def State.activateImage (s : State) : State × Code :=
  if s.bit Ix.sysPowerStatus 0 pwRecovery then ({ s with power := { s.power with resetDue := true } }, .ok)
  else if s.rd Ix.updUpdateState 0 ≠ upStaged then (s, .wrongState)
  else if s.activationBusy then (s, .busy)
  else
    let slot := s.spareSlot
    ((({ s with flash := (s.flash.mark slot 2).prefer slot } : State).wr Ix.updUpdateState 0 upActivating).restart 1 2, .ok)

/-- COMMIT and REVERT (R555). -/
def State.commit (s : State) : State × Code :=
  if s.rd Ix.updUpdateState 0 ≠ upTrial then (s, .wrongState)
  else (({ s with flash := s.flash.mark (s.rd Ix.updRunningSlot 0) 3 } : State).wr Ix.updUpdateState 0 upIdle, .ok)

def State.revertCommand (s : State) : State × Code :=
  if s.rd Ix.updUpdateState 0 ≠ upTrial then (s, .wrongState) else (s.revert, .ok)

/-- Update command (R565). -/
def State.updateCommand (s : State) (v : Nat) : State × Code :=
  if v = 1 then s.activateImage
  else if v = 2 then s.commit
  else if v = 3 then s.revertCommand
  else (s, .outOfRange)

/-! ### The power-fail sequence -/

/-- The functions that the sequence stops, in its order: SEG first, which labels no further line (R559). -/
def failFns : List Fn :=
  [.seg, .pfc] ++ (List.finRange 32).map (fun n => Fn.cpt n) ++ (List.finRange 17).map (fun n => Fn.ipl n) ++ [.stx, .mre, .hrb]

/-- The functions that the sequence keeps until its end (R559). -/
def flushFns : List Fn := [.cls, .cq, .sq, .xq, .dma]

/-- A function's work is cut off as on ABORT (R559). -/
def State.failCut (s : State) (f : Fn) : State :=
  if f = spareFn then s
  else if s.runs f then (((s.enter f .draining).stops f).cutOff f)
  else if s.drains f then s.cutOff f
  else s

/-- The LP of the last line that SEG labelled (R559). -/
def State.lastLabelled (s : State) : Nat := if s.seg.done = 0 then 0 else ((s.seg.held[s.seg.done - 1]?).map (fun l => l.lp)).getD 0

/-- A record is classified by the tree alone: no ledger, no crop, no mark, no alert (R559). -/
def State.finalBlob (s : State) (r : Octets) : State :=
  let streak := leAt r 0 2 == 0x0008
  if !streak && leAt r 0 2 != 0x0006 then s
  else
    let b := clsBlob r (if streak then s.pageAt (leAt r 8 8) else leAt r 0x28 4)
    let c := if streak then s.rdf Ix.clsStreakClass 0 else s.treeClass (s.rdfo Ix.clsClassifierTree 0) r 17 0
    if (clFlags (s.classEntry c)).testBit 0 then
      (if streak then s else s.bump Ix.clsBlobsByClass (c + 1) 1).formCrumb { b.base with cls := c, flags := b.base.flags + cfLedgerNone }
    else s.bump Ix.clsBlobsDiscardedByClass (c + 1) 1

/-- The records that CLS still takes: the lookup in flight, those in the FIFOs and those on their way into them (R559). -/
def State.finalRecords (s : State) : List Octets :=
  (s.cls.lookup.map (fun l => l.record)).toList ++ s.seg.fifo ++ s.seg.records.map (fun r => r.2) ++ s.pfc.fifo ++ s.pfc.ended

/-- The waiting Crumbs enter CQ as far as there is room (R302). -/
def State.pushCrumbs (s : State) : Nat → State
  | 0 => s
  | n + 1 => if s.cls.crumbs = [] || !s.cqRoom then s else s.pushCrumb.pushCrumbs n

/-- CLS closes: every record becomes a Crumb, the FINAL Crumb follows (R295, R559). -/
def State.finalCrumbs (s : State) (lp : Nat) : State :=
  if s.runs .cls || s.drains .cls then
    let rs := s.finalRecords
    let s1 : State := { s with cls := { s.cls with lookup := none }, seg := { s.seg with fifo := [], records := [] },
                               mre := { s.mre with toCls := [] }, pfc := { s.pfc with fifo := [], ended := [] } }
    let s2 := rs.foldl (fun (t : State) r => t.finalBlob r) s1
    let n := s2.cls.crumbs.length - s.cls.crumbs.length
    let s3 := s2.formCrumb { type := 15, flags := cfLedgerNone, lp0 := lp, lp1 := lp, time := s.stamp, area := n }
    s3.pushCrumbs s3.cls.crumbs.length
  else s

/-- The channel that serves a source, if one does (R357). -/
def State.channelFor (s : State) (src : Nat) : Option (Fin 32) := dmaAll.find? (fun c => s.chanSource c == src)

/-- How many records the CQ channel has delivered. -/
def State.cqDelivered (s : State) : Nat := ((s.channelFor 1).map (fun c => (s.chan c).delivered)).getD 0

/-- A power-fail warning (R558, R559): in Run and Service, where it is enabled, the lines stop and the blobs close. -/
def State.failWarning (s : State) : State :=
  let s0 : State := { s with power := { s.power with failPin := true } }
  if !s.clocked then s0
  else
    let s1 := (s0.setBit Ix.sysPowerStatus 0 pwFailLive).setBit Ix.sysPowerStatus 0 pwFailSeen
    if s.operating && s.rd Ix.sysPowerFailEnable 0 = 1 && s.power.fail.isNone then
      let lp := s.lastLabelled
      let s2 := (failFns.foldl (fun (t : State) f => t.failCut f) s1).bstStep
      let waiting := s2.cls.crumbs.length + wordCount s2.queues[cqIx].packets / 8
      let s3 := s2.finalCrumbs lp
      let n := s3.cls.crumbs.length + wordCount s3.queues[cqIx].packets / 8 - waiting - 1
      { s3 with power := { s3.power with fail := some { lp := lp, time := s.stamp, crumbs := n, before := s.cqDelivered } } }
    else s1

/-- The CQ channel delivers every Crumb for as long as it can (R559). -/
def State.flushCq (s : State) (c : Fin 32) : Nat → State
  | 0 => s
  | n + 1 =>
    let t := (s.pushCrumbs s.cls.crumbs.length).dmaPacket c
    if t.queues[cqIx].packets = s.queues[cqIx].packets && t.cls.crumbs = s.cls.crumbs then t else t.flushCq c n

/-- A stream channel closes its open Tray with reason POWER_FAIL (R559, R562). -/
def State.failClose (s : State) (c : Fin 32) : State :=
  if (s.chan c).tray.isSome then (s.closeTray c crPowerFail dsDone).finishDescriptor c else s

/-- A function of the sequence reaches Stopped with DRAIN_TIMEOUT set (R559). -/
def State.failStop (s : State) (f : Fn) : State :=
  if s.runs f || s.fn f = .draining then ((if s.cut.contains f then s else s.cutOff f).enterStopped f) else s

/-- The sequence ends (R559, R562): CQ is flushed, the Trays close, the functions stop, and the record is written. -/
def State.failComplete (s : State) (duration : Nat) : State :=
  match s.power.fail with
  | none => s
  | some p =>
    let s1 := match s.channelFor 1 with
      | some c => ((s.resumeChan c).flushCq c (s.cls.crumbs.length + s.queues[cqIx].packets.length + 1))
      | none => s
    let done := s1.cls.crumbs = [] && s1.queues[cqIx].packets = []
    let flushed := s1.cqDelivered - p.before
    let s2 := dmaAll.foldl (fun (t : State) c => t.failClose c) s1
    let s3 : State := { s2 with cls := { s2.cls with crumbs := [] } }
    let s4 := (failFns ++ flushFns).foldl (fun (t : State) f => t.failStop f) s3
    let rec_ := leBytes 8 p.lp ++ leBytes 8 p.time ++ leBytes 4 p.crumbs ++ leBytes 4 flushed ++ leBytes 4 (min duration (2 ^ 32 - 1)) ++
      leBytes 1 (if done then 1 else 2) ++ leBytes 3 0
    { s4 with power := { s4.power with fail := none } }.wro Ix.sysPowerFailRecord 0 rec_

/-- PWRFAIL_N returns high (R558). -/
def State.failRelease (s : State) : State :=
  ({ s with power := { s.power with failPin := false } } : State).clearBit Ix.sysPowerStatus 0 pwFailLive

/-! ### Monitors -/

/-- The nominal voltages of the supplies in mV (R574, R591). -/
def supplyNominal : List Nat := [750, 1100, 850, 1200, 3300, 1800, 1800, 1800]

/-- Whether a supply's reading lies below or above ±5 % of its nominal (R590). -/
def supplyLow (nominal v : Nat) : Bool := decide (100 * v < 95 * nominal)
def supplyHigh (nominal v : Nat) : Bool := decide (105 * nominal < 100 * v)

/-- A sensor's reading: none where its self-check fails (R590, R591). -/
def State.readSensor (s : State) (k : Nat) (v : Option Int) : State :=
  match v with
  | none => (s.wr Ix.envDieTemperature (k + 1) 0x7FFF).setBit Ix.envMonitorStatus 0 6
  | some t =>
    let s1 := (s.wrI Ix.envDieTemperature (k + 1) t).sample 11 k t none
    if s.rdI Ix.envPeakTemperature (k + 1) < t then s1.wrI Ix.envPeakTemperature (k + 1) t else s1

/-- A temperature flag with its sticky companion: it shows from the threshold on, and clears below the threshold less the hysteresis (R590). -/
def State.heatFlag (s : State) (b : Nat) (limit : Int) (ts : List Int) : State :=
  if ts.any (fun t => decide (limit ≤ t)) then (s.setBit Ix.envMonitorStatus 0 b).setBit Ix.envMonitorStatus 0 (b + 1)
  else if ts.all (fun t => decide (t < limit - (s.rd Ix.envTemperatureHysteresis 0 : Nat))) then s.clearBit Ix.envMonitorStatus 0 b
  else s

/-- A supply monitor's reading (R590, R591). -/
def State.readSupply (s : State) (k v : Nat) : State :=
  let nominal := supplyNominal.getD k 0
  let s1 := s.wr Ix.envSupplyVoltage (k + 1) v
  let s2 := if supplyLow nominal v then (s1.setBit Ix.envMonitorStatus 0 4).wr Ix.envLastSupplyFault 0 (k + 1) else s1
  if supplyHigh nominal v then (s2.setBit Ix.envMonitorStatus 0 5).wr Ix.envLastSupplyFault 0 (k + 1) else s2

/-- A monitor poll: eight sensors in 1/16 °C, eight supplies in mV, the core current in 0.1 A (R590, R591). -/
def State.monitorPoll (s : State) (temps : List (Option Int)) (supplies : List Nat) (current : Nat) : State :=
  if !s.mgtUp then s
  else
    let good := temps.filterMap id
    let s1 := temps.zipIdx.foldl (fun (t : State) x => t.readSensor x.2 x.1) s
    let s2 := match good with
      | [] => s1
      | t :: ts => s1.wrI Ix.envHighestTemperature 0 (ts.foldl max t)
    let s3 := (s2.heatFlag 0 (s.rdI Ix.envTemperatureWarning 0) good).heatFlag 2 (s.rdI Ix.envTemperatureCritical 0) good
    let s4 := supplies.zipIdx.foldl (fun (t : State) x => t.readSupply x.2 x.1) s3
    let vpp := supplies.getD 7 0
    (s4.putBit Ix.envMonitorStatus 0 7 (!supplyLow 1800 vpp && !supplyHigh 1800 vpp)).wr Ix.envCoreCurrent 0 current

end Sys2Proof.Machine
end

