-- ==== Sys2Proof/Machine/Flags.lean ====
section
/-! DEFINITION. What a read of an object shows beside what the store holds: the live bits of status objects, and the objects that are
computed at the read (R427, R431). -/

namespace Sys2Proof.Machine

/-- The scalar objects that a read computes, at a subindex that is not an array's count; none where the store alone answers. Live LP is that
which MGT sees (R11). -/
def State.liveNumber (s : State) (x : Session) (ix sub : Nat) : Option Nat :=
  let k := sub - 1
  if ix = Ix.wpuLP then some s.seenLp
  else if ix = Ix.pscEntriesInUse then some s.psc.entries.length
  else if ix = Ix.pscNextForwardTarget then some (nextForward s.psc.entries)
  else if ix = Ix.pscOutputLevel then some (bitNat (s.pinLevel k))
  else if ix = Ix.cptPortStatus then some (s.rd ix sub ||| s.portLive (Fin.ofNat 32 k))
  else if ix = Ix.iplTableStatus then some (s.rd ix sub ||| s.tableLive (Fin.ofNat 32 k))
  else if ix = Ix.stxStitchStatus then some (s.rd ix sub ||| s.stxLive)
  else if ix = Ix.stxStoreBankUse then some (s.bankUseNow k)
  else if ix = Ix.brdLinkStatus then some (s.rd ix sub ||| s.braidLive (Fin.ofNat 4 k))
  else if ix = Ix.segSegmentsInUse then some s.segmentsInUse
  else if ix = Ix.clsLedgerStatus then some (s.rd ix sub ||| 32 * bitNat s.ledgerOff)
  else if ix = Ix.pfcFilterStatus then some (s.rd ix sub ||| s.pfcLive)
  else if ix = Ix.pfcGroupDelay then some s.pfcDelay
  else if ix = Ix.pfcDecimation then some s.pfcRtot
  else if ix = Ix.hrbHistoryLines then some s.historyLines
  else if ix = Ix.dlvQueueDepth then some (s.depth (Fin.ofNat 3 k))
  else if ix = Ix.dlvPacketsWaiting then some (s.queues[Fin.ofNat 3 k].packets.length)
  else if ix = Ix.dlvChannelStatus then some (s.rd ix sub ||| s.chanLive (Fin.ofNat 32 k))
  else if ix = Ix.sysUptime then some (s.ns / 1000000000)
  else if ix = Ix.sesSessionsOpen then some s.sessions.length
  else if ix = Ix.sesOwnSession then some x.id
  else if ix = Ix.sesOwnLevel then some (x.level + 128 * bitNat x.secure)
  else if ix = Ix.sesAccessStatus then some (s.rd ix sub ||| s.accessLive)
  else if ix = Ix.netTimeStamp then some s.stamp
  else if ix = Ix.calItemCount then some s.itemSelected.count
  else if ix = Ix.calItemLastTime then some s.itemSelected.time
  else if ix = Ix.calItemLastSource then some s.itemSelected.source
  else if ix = Ix.monCursor then some x.cursor
  else if ix = Ix.monLiveCount then some (s.accum k).count
  else if chanIx 0 ≤ ix ∧ ix ≤ chanIx 255 ∧ sub = Ix.evfSubChannelStatus then some (s.chanStatus (ix - chanIx 0))
  else if chanIx 0 ≤ ix ∧ ix ≤ chanIx 255 ∧ sub = Ix.evfSubLimiterCount then some (s.recentFirings (ix - chanIx 0))
  else none

/-- The octet strings that a read computes; none where the store alone answers. -/
def State.liveString (s : State) (x : Session) (ix sub : Nat) : Option Octets :=
  let k := sub - 1
  if ix = Ix.pscEntryAtCursor then some (s.entryAt (s.rd Ix.pscEntryCursor 0))
  else if ix = Ix.mreRegistrationField then some s.registrationField
  else if ix = Ix.clsEntryAtCursor then some s.entryAtCursor
  else if ix = Ix.dmcRegion then some (s.regionObject sub)
  else if ix = Ix.sesSessionTable then some s.sessionTable
  else if ix = Ix.sesDeviceCertificate then some Config.deviceCertificate
  else if ix = Ix.netMACAddress then some (beBytes 6 (Config.macAddress (s.rd Ix.sysSerialNumber 0) k).toNat)
  else if ix = Ix.netTime then some (leBytes 8 (s.clockNow / tbuSecond) ++ leBytes 4 (s.clockNow % tbuSecond / 2 ^ 32))
  else if ix = Ix.calItemSummary then some s.itemSummary
  else if ix = Ix.bstUnitResult then some (s.unitResult (s.rd Ix.bstUnitSelect 0))
  else if ix = Ix.bstFailedUnits then some s.failedUnits
  else if ix = Ix.bstRepairTable then some s.repairTable
  else if ix = Ix.monWindow then some (s.bankWindow x.cursor)
  else if ix = Ix.monAllRecorders then some s.allRecorders
  else if ix = Ix.pmcCounterSnapshot then some s.counterWindow
  else if ix = Ix.updSlotInformation then some (s.slotInformation sub)
  else none

/-- Whether an index holds an array or a record, of which subindex 0 reads the count (R423). -/
def isArray (ix : Nat) : Bool := (rowOf ix 1).isSome

/-- The scalar that a read returns (R427): an array's count stands in the store. -/
def State.shown (s : State) (x : Session) (ix sub : Nat) : Nat :=
  if sub = 0 && isArray ix then s.rd ix 0 else (s.liveNumber x ix sub).getD (s.rd ix sub)

/-- The octet string that a read returns. -/
def State.shownOctets (s : State) (x : Session) (ix sub : Nat) : Octets := (s.liveString x ix sub).getD (s.rdo ix sub)

end Sys2Proof.Machine
end

