-- ==== Sys2Proof/Machine/Operands.lean ====
section
/-! DEFINITION. The operand forms of dictionary requests: an object's address, the value of a write as its path carries it, and the checks of R430
that lie before the object's own. -/

namespace Sys2Proof.Machine

/-- A value as a request carries it: the number of a scalar, the octets of a string. -/
structure Operand where
  num : Nat
  octets : Octets
  deriving DecidableEq, Repr

/-- The value that octets of a path spell for an object; none where their length does not suit its type (R426, R430 "type mismatch"). -/
def readOperand (p : Path) (r : ObjRow) (bs : Octets) : Option Operand :=
  if r.ty.isOctets then
    if r.ty ≠ .dom ∧ r.rng.admitsLen bs.length ∧ bs.length ≤ 1376 then some { num := 0, octets := bs } else none
  else if bs.length = r.ty.bytes then some { num := pathNat p bs, octets := [] }
  else none

/-- A value of an object as a path carries it (R426). -/
def writeOperand (p : Path) (r : ObjRow) (v : Operand) : Octets :=
  if r.ty.isOctets then v.octets else pathNum p r.ty.bytes v.num

/-- The integer that a scalar's bit pattern stands for (R426). -/
def Ty.integer (t : Ty) (n : Nat) : Int := if t.signed then ofPattern t.bits n else n

/-- Whether a value lies in its object's range (R426, R430 "value out of range", R593). -/
def valueOk (r : ObjRow) (v : Operand) : Bool :=
  match r.ty with
  | .vis => v.octets.all (fun b => decide (0x20 ≤ b.toNat ∧ b.toNat ≤ 0x7E))
  | .oct => true
  | .dom => true
  | .bool => decide (v.num ≤ 1) && r.rng.admits v.num v.num
  | .f32 => v.num / 2 ^ 23 % 256 != 255
  | t => r.rng.admits v.num (Ty.integer t v.num)

/-- Whether an object is one that exists in recovery: the identity objects and the basic objects of the firmware block (R550). -/
def inRecovery (ix : Nat) : Bool := (0x1010 ≤ ix && ix ≤ 0x101B) || (0x7800 ≤ ix && ix < 0x7A00)

/-- Whether the device is in recovery (R550). -/
def State.recovering (s : State) : Bool := s.bit Ix.sysPowerStatus 0 pwRecovery

/-- Whether any object stands at an index now (R430 "no object", R550). -/
def State.hasIndex (s : State) (ix : Nat) : Bool := indexExists ix && (!s.recovering || inRecovery ix)

/-- Whether an index lies in the basic half of its block (R424). -/
def isBasic (ix : Nat) : Bool := decide (ix % 0x400 < 0x200)

/-- The level that a read needs (R428). -/
def readLevel (r : ObjRow) (ix : Nat) : Nat := if isBasic ix then 0 else max 2 r.lvl

/-- The level that a write needs (R428). -/
def writeLevel (r : ObjRow) (ix : Nat) : Nat := if isBasic ix then r.lvl else max 2 r.lvl

/-- The event-fabric channel whose record an index is. -/
def recordOf (ix : Nat) : Option Nat := if chanIx 0 ≤ ix ∧ ix ≤ chanIx 255 then some (ix - chanIx 0) else none

/-- Whether a session may read an object's record: an Open one no Secure channel's (R415). -/
def State.mayRead (s : State) (x : Session) (ix : Nat) : Bool :=
  match recordOf ix with
  | some c => s.chanReachable c x.secure
  | none => true

/-- Whether a session may write an object of a record: only the owner, but for a claim (R415). -/
def State.mayWrite (s : State) (x : Session) (ix sub : Nat) : Bool :=
  match recordOf ix with
  | some c => s.chanReachable c x.secure && (sub == Ix.evfSubClaim || s.owns c x.id)
  | none => true

/-- Whether an object is one of DMA channel 31's, which are read-only (R357). -/
def isMasterChannel (ix sub : Nat) : Bool := sub == 32 && ((0x5840 ≤ ix && ix ≤ 0x584C) || (0x5A00 ≤ ix && ix ≤ 0x5A06))

/-- Whether an object of a row may be written at all, and read at all (R427, R430 "access class"). -/
def writable (r : ObjRow) (ix sub : Nat) : Bool := r.acc != .ro && !isMasterChannel ix sub

/-- The checks of a read up to the level (R430). -/
def State.readCheck (s : State) (x : Session) (ix sub : Nat) : Code × Option ObjRow :=
  if !s.hasIndex ix then (.noObject, none)
  else
    match rowOf ix sub with
    | none => (.noSubindex, none)
    | some r =>
      if r.acc = .wo then (.accessClass, none)
      else if x.level < readLevel r ix ∨ !s.mayRead x ix then (.noAccess, none)
      else (.ok, some r)

/-- The checks of a write up to the level (R430). -/
def State.writeCheck (s : State) (x : Session) (ix sub : Nat) : Code × Option ObjRow :=
  if !s.hasIndex ix then (.noObject, none)
  else
    match rowOf ix sub with
    | none => (.noSubindex, none)
    | some r =>
      if !writable r ix sub then (.accessClass, none)
      else if x.level < writeLevel r ix ∨ !s.mayWrite x ix sub then (.noAccess, none)
      else (.ok, some r)

/-! ### State conditions -/

/-- The instances of a block with several, or the one function of a block (R427). -/
def blockFns (ix : Nat) : List Fn :=
  let b := ix / 0x400
  if b = 8 then [.wpu] else if b = 9 then [.psc] else if b = 10 then [.evf]
  else if b = 12 then (List.finRange 32).map (fun n => Fn.cpt n) else if b = 13 then (List.finRange 17).map (fun n => Fn.ipl n)
  else if b = 14 then [.stx] else if b = 15 then (List.finRange 4).map (fun n => Fn.brd n) else if b = 16 then [.mre]
  else if b = 17 then [.cde] else if b = 18 then [.seg] else if b = 19 then [.cls] else if b = 20 then [.pfc]
  else if b = 21 then [.hrb] else if b = 22 then [.dma] else if b = 23 then (List.finRange 8).map (fun n => Fn.dmc n)
  else if b = 25 then [.cal] else if b = 26 then [.bst] else if b = 27 then [.mon] else if b = 28 then [.pmc] else []

/-- Whether an IPL object is indexed by camera (R427). -/
def isCameraRws (ix : Nat) : Bool :=
  ix == Ix.iplOutputWidth || ix == Ix.iplBayerPhase || ix == Ix.iplRowSpacing || ix == Ix.iplRowOrder || ix == Ix.iplRemapInterpolation

/-- The functions that must be Stopped for a write of an RWS object (R427, R103, R135). -/
def State.owners (s : State) (ix sub : Nat) : List Fn :=
  if ix = Ix.cptStripLength then
    (List.finRange 32).map (fun n => Fn.cpt n) ++ (List.finRange 17).map (fun n => Fn.ipl n) ++ [.stx, .mre, .seg, .cls, .pfc, .hrb]
  else if isCameraRws ix then
    let m := s.rd Ix.cptPipeline sub
    let withSpare := s.rd Ix.iplSpareState 0 != 0 && (s.rd Ix.iplSpareServing 0 == m || s.rd Ix.iplSpareTarget 0 == m)
    Fn.ipl (Fin.ofNat 17 m) :: (if withSpare then [spareFn] else [])
  else if ix / 0x400 = 24 then
    if (0x6010 ≤ ix ∧ ix ≤ 0x6017) ∨ ix = Ix.netAutoNegotiation then [Fn.fnp (Fin.ofNat 2 (sub - 1))] else [.tbu]
  else
    let b := ix / 0x400
    let fs := blockFns ix
    if (b = 12 ∨ b = 13 ∨ b = 15 ∨ b = 23) ∧ sub ≠ 0 then ((fs[sub - 1]?).map (fun f => [f])).getD [] else fs

/-- The state conditions of a write (R427 RWS, R47, R413, R461, R526, R564). -/
def State.stateAllows (s : State) (r : ObjRow) (ix sub : Nat) : Bool :=
  (r.acc != .rws || (s.owners ix sub).all (fun f => decide (s.fn f = .stopped))) &&
  (ix != Ix.wpuLPPresetCommand || decide (s.fn .wpu = .stopped)) &&
  (match recordOf ix with
    | some c =>
      !s.chanEnabled c || !(sub == Ix.evfSubSource || sub == Ix.evfSubTasks || sub == Ix.evfSubScheduleOffset ||
        sub == Ix.evfSubScheduleAction || sub == Ix.evfSubScheduleTag || sub == Ix.evfSubVector || sub == Ix.evfSubRecord)
    | none => true) &&
  (!(ix == Ix.monSource || ix == Ix.monHistogramBase || ix == Ix.monHistogramShift || ix == Ix.monRecorderMode) ||
    s.recorderOpen (sub - 1)) &&
  (ix != Ix.sysClockMargin || s.rd Ix.sysPowerState 0 == psService) &&
  (!(ix == Ix.netTimeSet || ix == Ix.netTimeStep || ix == Ix.netRateAdjustment) || !s.servoHolds)

end Sys2Proof.Machine
end

