-- ==== Sys2Proof/Machine/Writes.lean ====
section
/-! DEFINITION. What an accepted write of each object does, block by block: the objects whose writes do more than store a value (the chapters'
object tables). -/

namespace Sys2Proof.Machine

/-- What the surroundings decide while a write is performed: whether a DRAM channel's memory trains (R384), the encoder levels at an entry to
Ready (R31), whether a shadow write lands in the cycle of a hand-over (R367), whether a fault reaches the function that is commanded in the
same cycle (R25). -/
structure Surround where
  trains : Bool
  levels : BitVec 8
  handOver : Bool
  faultMet : Bool
  deriving DecidableEq, Repr

/-- The surroundings of a write of the general form: free values. -/
def State.surround (s : State) : Surround where
  trains := Config.memoryTrains s.free
  levels := Config.encoderLevels s.free
  handOver := Config.inHandOver s.free
  faultMet := false

/-- A write: the session that asks, the surroundings, the object, its row, and the value. -/
structure WriteCall where
  session : Session
  around : Surround
  row : ObjRow
  ix : Nat
  sub : Nat
  v : Nat
  bs : Octets

/-- The value as an integer (R426). -/
def WriteCall.int (w : WriteCall) : Int := Ty.integer w.row.ty w.v

/-- The value stored as the object's range says (R427, R429, R593). -/
def State.keep (s : State) (w : WriteCall) : State :=
  if w.row.ty.isOctets then s.wro w.ix w.sub w.bs else s.wr w.ix w.sub (w.row.rng.written (s.rd w.ix w.sub) w.v)

/-- A change accepted under a condition. -/
def keepIf (ok : Bool) (s t : State) : State × Code := if ok then (t, .ok) else (s, .outOfRange)

/-- The instance that a subindex above 0 names (R423). -/
abbrev instanceOf (n : Nat) [NeZero n] (sub : Nat) : Fin n := Fin.ofNat n (sub - 1)

/-! ### Web position unit -/

/-- LP is loaded from the preset value (R46, R47): it moves without travel. -/
def State.lpPreset (s : State) : State :=
  let v := s.rd Ix.wpuLPPresetValue 0
  let t := ((s.wr Ix.wpuLP 0 v).wr Ix.wpuLPAccumulator 0 0).pscPreset ((v : Int) - s.lp)
  let u := if v = 0 then (t.wr Ix.wpuHighWaterLP 0 (2 ^ 64 - 1)).setBit Ix.wpuPositionStatus 0 psHwNone
    else (t.wr Ix.wpuHighWaterLP 0 (v - 1)).clearBit Ix.wpuPositionStatus 0 psHwNone
  u.publish.comparators

/-- A change of P reaches the blocks that travel concerns; where it crosses a strip boundary forward, for the first time, without HRB, a channel
retirement that waits is carried out (R14, R398). -/
def State.moveEnds (r : State × Option Travel) : State :=
  let t := State.travelled r
  match r.2 with
  | some tr =>
    if tr.newStrip (t.rd Ix.cptStripLength 0) && t.retirementDue && !t.runs .hrb then t.retireNow.settle else t
  | none => t

/-- A write of Spacing compare: evaluated once, whatever the direction (R58). -/
def State.spacingWritten (s : State) (n : Nat) : State :=
  let t : State := if h : n < 24 then { s with wpu := { s.wpu with spent := s.wpu.spent.set n false } } else s
  let r := t.spcEval n (t.rd Ix.wpuSpacingMode (n + 1) == 1)
  State.travelled (r.1, some { before := t.lp, after := t.lp, high := some t.lp, hits := r.2 })

/-- A write of an encoder's or a serial input's mode (R35, R39, R42, R52). -/
def State.modeWritten (s : State) (src : Nat) : State :=
  let t : State :=
    if src < 4 then
      let n : Fin 4 := Fin.ofNat 4 src
      { s with wpu := { s.wpu with enc := s.wpu.enc.set n { s.wpu.enc[n] with illegal := [] } } }
    else
      let n : Fin 2 := Fin.ofNat 2 (src - 4)
      s.setSer n { s.wpu.ser[n] with ref := none }
  if s.source = src then t.setP else t

/-- Writes of the block of WPU. -/
def State.writeWpu (s : State) (w : WriteCall) : State × Code :=
  let t := s.keep w
  if w.ix = Ix.wpuLinePitch ∧ w.sub = 1 then ((t.wr Ix.wpuLPAccumulator 0 0).emptySpeed.comparators.settle, .ok)
  else if w.ix = Ix.wpuPositionSource then (t.setP.comparators.settle, .ok)
  else if w.ix = Ix.wpuLPPresetCommand then (s.lpPreset.settle, .ok)
  else if w.ix = Ix.wpuEncoderMode then ((t.modeWritten (w.sub - 1)).comparators.settle, .ok)
  else if w.ix = Ix.wpuSerialMode then ((t.modeWritten (w.sub + 3)).comparators.settle, .ok)
  else if w.ix = Ix.wpuSpacingCompare then (t.spacingWritten (w.sub - 1), .ok)
  else if w.ix = Ix.wpuComparatorSource ∨ w.ix = Ix.wpuComparatorCondition ∨ w.ix = Ix.wpuThreshold ∨ w.ix = Ix.wpuHysteresis then
    (t.comparators.settle, .ok)
  else (t, .ok)

/-! ### Position scheduler -/

/-- Whether an action word names a channel of EVF that an Open session may not name (R69, R415). -/
def State.actionBarred (s : State) (x : Session) (action : Nat) : Bool :=
  actKind action == kindChannel && !s.chanReachable (actNumber action) x.secure

/-- Whether a write would give an output a Secure channel as its source that the session may not name (R415). DEDUCED: the pair of output source
and source number decides. -/
def State.valueBarred (s : State) (x : Session) (ix sub v : Nat) : Bool :=
  if ix = Ix.pscOutputSource then v == 2 && !s.chanReachable (s.rd Ix.pscSourceNumber sub) x.secure
  else if ix = Ix.pscSourceNumber then s.rd Ix.pscOutputSource sub == 2 && !s.chanReachable v x.secure
  else false

/-- Writes of the block of PSC. -/
def State.writePsc (s : State) (w : WriteCall) : State × Code :=
  let t := s.keep w
  if w.ix = Ix.pscScheduleRequest then
    let action := leAt w.bs 8 4
    let r := s.pscRequest (leAt w.bs 0 8) action (leAt w.bs 12 4) (s.actionBarred w.session action)
    (r.1.settle, r.2)
  else if w.ix = Ix.pscCancelTag then (s.cancelTag w.v, .ok)
  else if w.ix = Ix.pscSourceNumber then keepIf (s.rd Ix.pscOutputSource w.sub != 1 || decide (w.v ≤ 23)) s t
  else (t, .ok)

/-! ### Camera ports -/

/-- Writes of the block of the camera ports. -/
def State.writeCpt (s : State) (w : WriteCall) : State × Code :=
  let n := instanceOf 32 w.sub
  let t := s.keep w
  if w.ix = Ix.cptLaneCount then (t.laneCountWritten n, .ok)
  else if w.ix = Ix.cptResume then (s.portResume n, .ok)
  else if w.ix = Ix.cptControlRequest then s.controlSend n w.bs
  else (t, .ok)

/-! ### Input pipelines -/

/-- A write of Spare target (R144, R508): busy while BST holds the spare or it is not idle. -/
def State.spareTargetWrite (s : State) (m : Nat) : State × Code :=
  if s.bstHolds 16 || s.rd Ix.iplSpareState 0 != 0 then (s, .busy)
  else if m = 255 then (s.wr Ix.iplSpareTarget 0 255, .ok)
  else ((s.spareTarget m).bstStep, .ok)

/-- A write of Spare command (R144, R508, R516). -/
def State.spareCommandWrite (s : State) (v : Nat) : State × Code :=
  if v = 2 ∧ s.substituted (s.rd Ix.iplSpareServing 0) then (s, .wrongState)
  else if s.bstHolds 16 then (s, .busy)
  else
    let r := if v = 1 then s.takeOver else if v = 2 then s.handBack else s.releaseSpare
    (r.1.bstStep, r.2)

/-- Writes of the block of IPL. -/
def State.writeIpl (s : State) (w : WriteCall) : State × Code :=
  let n := instanceOf 32 w.sub
  let t := s.keep w
  if w.ix = Ix.iplSpareTarget then s.spareTargetWrite w.v
  else if w.ix = Ix.iplSpareCommand then s.spareCommandWrite w.v
  else if w.ix = Ix.iplBlackLevelChannel0 ∨ w.ix = Ix.iplBlackLevelChannel1 ∨ w.ix = Ix.iplBlackLevelChannel2 then
    ((t.iplPend w.ix w.sub).calSuperseded 1 n.val, .ok)
  else if w.ix = Ix.iplLensShading ∨ w.ix = Ix.iplSaturationLevel then (t.iplPend w.ix w.sub, .ok)
  else if w.ix = Ix.iplColourMatrix then ((t.iplPend w.ix w.sub).calSuperseded 4 n.val, .ok)
  else if w.ix = Ix.iplRemapCoefficients then ((t.remapWrite n w.bs).calSuperseded 7 n.val, .ok)
  else (t, .ok)

/-! ### Stitcher and Braid -/

/-- Writes of the block of STX. -/
def State.writeStx (s : State) (w : WriteCall) : State × Code :=
  let n := instanceOf 32 w.sub
  if w.ix = Ix.stxMountDelay then
    let r := s.delayWrite n w.int
    if r.2 = .ok then (r.1.calSuperseded 5 n.val, .ok) else r
  else if w.ix = Ix.stxCrossShift then
    let r := s.shiftWrite n w.int
    if r.2 = .ok then (r.1.calSuperseded 6 n.val, .ok) else r
  else (s.keep w, .ok)

/-- Writes of the block of BRD: a port without a role shows as unused (R170); the exchange width is at least the blend width + 32 (R189). -/
def State.writeBrd (s : State) (w : WriteCall) : State × Code :=
  let t := s.keep w
  if w.ix = Ix.brdPortRole ∧ w.v = 0 then (t.wr Ix.brdLinkState w.sub 0, .ok)
  else if w.ix = Ix.brdExchangeWidth then keepIf (decide (s.rd Ix.stxBlendWidth 0 + 32 ≤ w.v)) s t
  else (t, .ok)

/-! ### Inspection -/

/-- Writes of the block of MRE. -/
def State.writeMre (s : State) (w : WriteCall) : State × Code :=
  let t := s.keep w
  if w.ix = Ix.mrePageSubmit then s.submitPage w.bs
  else if w.ix = Ix.mreQueueCommand then s.queueCommand w.v
  else if w.ix = Ix.mreQueueLowMark then
    let old := s.rd Ix.mreQueueLowMark 0
    if s.mre.ready < w.v ∧ old ≤ s.mre.ready then ((t.inspFlag isQueueLow).cross (eventCode 13 0 7) none 0, .ok) else (t, .ok)
  else (t, .ok)

/-- Writes of the block of CDE. -/
def State.writeCde (s : State) (w : WriteCall) : State × Code :=
  if w.ix = Ix.cdeJobSubmit then s.submitJob w.bs
  else if w.ix = Ix.cdeJobCancel then (s.cancelJobs w.v, .ok)
  else (s.keep w, .ok)

/-- A write of a spare engine's command (R283, R508, R516). -/
def State.segSpareCommandWrite (s : State) (i : Fin 4) (v : Nat) : State × Code :=
  let fused : Bool := match s.seg.spares[i].replaced with
    | some e => s.substituted (unitSeg e)
    | none => false
  if decide (v = 2) && fused then (s, .wrongState)
  else if s.bstHolds (32 + i.val) then (s, .busy)
  else
    let r := if v = 1 then s.segTakeOver i else if v = 2 then s.segHandBack i else s.segRelease i
    (r.1.bstStep, r.2)

/-- Writes of the block of SEG. -/
def State.writeSeg (s : State) (w : WriteCall) : State × Code :=
  let t := s.keep w
  if w.ix = Ix.segLowThreshold then keepIf (decide (w.v ≤ s.rd Ix.segHighThreshold 0)) s t
  else if w.ix = Ix.segHighThreshold then keepIf (decide (s.rd Ix.segLowThreshold 0 ≤ w.v)) s t
  else if w.ix = Ix.segSuppressMask then (t.setBit w.ix 0 4, .ok)
  else if w.ix = Ix.segEngineCommand then
    if s.substituted (unitSeg (w.sub - 1)) then (s, .wrongState)
    else
      let r := s.engineClear (instanceOf 36 w.sub)
      (r.1.bstStep, r.2)
  else if w.ix = Ix.segSpareTarget then
    let i := instanceOf 4 w.sub
    if s.bstHolds (32 + i.val) then (s, .busy)
    else
      let r := s.segSpareTarget i w.v
      (r.1.bstStep, r.2)
  else if w.ix = Ix.segSpareCommand then s.segSpareCommandWrite (instanceOf 4 w.sub) w.v
  else (t, .ok)

/-- Writes of the block of CLS and LDG. -/
def State.writeCls (s : State) (w : WriteCall) : State × Code :=
  if w.ix = Ix.clsLedgerCommand then s.ledgerClear w.v else (s.keep w, .ok)

/-- A write into a coefficient bank (R336). -/
def State.bankWrite (s : State) (w : WriteCall) (bad : Bool) : State × Code :=
  let bank := w.sub - 1
  let c := s.bankCode bank bad
  if c = .ok then ((s.keep w).bankUnsettled bank, .ok) else (s, c)

/-- Writes of the block of PFC. A bank whose FIR nothing has written follows the number of taps (R336). -/
def State.writePfc (s : State) (w : WriteCall) : State × Code :=
  let t := s.keep w
  if w.ix = Ix.pfcOnThreshold then keepIf (decide (s.rd Ix.pfcOffThreshold 0 ≤ w.v)) s t
  else if w.ix = Ix.pfcOffThreshold then keepIf (decide (w.v ≤ s.rd Ix.pfcOnThreshold 0)) s t
  else if w.ix = Ix.pfcSwapRequest then if w.v = 1 then s.swapRequest else (s.swapCancel, .ok)
  else if w.ix = Ix.pfcFIRCoefficients then
    let (u, c) := s.bankWrite w (!s.firOk w.bs)
    (if c = .ok then { u with pfc := { u.pfc with firWritten := w.sub :: u.pfc.firWritten } } else u, c)
  else if w.ix = Ix.pfcFIRTaps then (([1, 2].filter (fun b => !t.pfc.firWritten.contains b)).foldl (fun (u : State) b =>
    u.wro Ix.pfcFIRCoefficients b (centreFir w.v)) t, .ok)
  else if w.ix = Ix.pfcHalfbandCoefficients ∨ w.ix = Ix.pfcOutputGain then s.bankWrite w false
  else (t, .ok)

/-! ### Delivery and memory -/

/-- Writes of the block of the queues, DMA and PCIE. -/
def State.writeDlv (s : State) (w : WriteCall) : State × Code :=
  let t := s.keep w
  let q : Fin 3 := instanceOf 3 w.sub
  let c := instanceOf 32 w.sub
  if w.ix = Ix.dlvHighWatermark then
    keepIf (decide (1 ≤ w.v ∧ w.v ≤ queueCapacity q)) s (t.depthChanged q (t.depth q))
  else if w.ix = Ix.dlvLowWatermark then keepIf (decide (w.v ≤ queueCapacity q - 1)) s t
  else if w.ix = Ix.dlvProducerIndex then (s.doorbell c w.v, .ok)
  else if w.ix = Ix.dlvChannelCommand then s.channelCommand c w.v
  else if w.ix = Ix.dlvShadowArm then (s.shadowArm c w.v w.around.handOver, .ok)
  else if w.ix = Ix.dlvShadowRingBase ∨ w.ix = Ix.dlvShadowRingEntries ∨ w.ix = Ix.dlvShadowStartIndex then
    (t.shadowLate c 1 w.around.handOver, .ok)
  else (t, .ok)

/-- Writes of the block of DMC: error injection (R405). -/
def State.writeDmc (s : State) (w : WriteCall) : State × Code :=
  if w.ix = Ix.dmcErrorInjection then
    let kind := octAt w.bs 8
    if 1 ≤ kind ∧ kind ≤ 3 then (s.injectError (leAt w.bs 0 8) kind, .ok) else (s, .outOfRange)
  else (s.keep w, .ok)

/-! ### Event fabric -/

/-- Writes of the block of EVF: claims, releases, enables, fires, and the record's settings (R411 to R417). -/
def State.writeEvf (s : State) (w : WriteCall) : State × Code :=
  let x := w.session
  match recordOf w.ix with
  | none => (s.keep w, .ok)
  | some c =>
    if w.sub = Ix.evfSubClaim then if w.v = 3 then s.release c x.id x.secure else s.claim c x.id x.level x.secure w.v
    else if w.sub = Ix.evfSubEnable then s.channelEnable c x.id x.secure w.v
    else if w.sub = Ix.evfSubFire then s.fireWrite c x.id x.secure
    else if w.sub = Ix.evfSubTasks then keepIf (tasksOk w.v) s (s.keep w)
    else (s.keep w, .ok)

/-! ### Management -/

/-- Whether a trust anchor may be written by a session (R453). -/
def anchorOk (x : Session) (a : Octets) : Bool :=
  let level := octAt a 48
  (level == 2 || level == 3) && decide (octAt a 49 ≤ 1) && leAt a 50 2 == 0 && (x.provisioned || decide (level ≤ x.level))

/-- Writes of the identity and power block. -/
def State.writeSys (s : State) (w : WriteCall) : State × Code :=
  if w.ix = Ix.sysPowerCommand then s.powerCommand w.v w.around.levels else (s.keep w, .ok)

/-- Writes of the sessions block. -/
def State.writeSes (s : State) (w : WriteCall) : State × Code :=
  if w.ix = Ix.sesSessionEnd then (s.endSession w.v, .ok)
  else if w.ix = Ix.sesTrustAnchor then keepIf (anchorOk w.session w.bs) s (s.keep w)
  else (s.keep w, .ok)

/-- Writes of the life-cycle block. -/
def State.writeLif (s : State) (w : WriteCall) : State × Code :=
  if w.ix = Ix.lifLifeCycleCommand then s.lifeCommand w.session w.bs else (s.keep w, .ok)

/-- Writes of the block of the field ports and TBU. -/
def State.writeNet (s : State) (w : WriteCall) : State × Code :=
  if w.ix = Ix.netLinkMode then (s.linkMode (instanceOf 2 w.sub) w.v, .ok)
  else if w.ix = Ix.netTimeSet then s.timeSet w.bs
  else if w.ix = Ix.netTimeStep then s.timeStep w.int
  else if w.ix = Ix.netRateAdjustment then s.rateAdjustment w.int
  else if w.ix = Ix.netPulseMode then (s.pulseMode (instanceOf 4 w.sub) w.v, .ok)
  else if w.ix = Ix.netPulseArm then (s.pulseArm (instanceOf 4 w.sub), .ok)
  else (s.keep w, .ok)

/-- Writes of the block of CAL. -/
def State.writeCal (s : State) (w : WriteCall) : State × Code :=
  if w.ix = Ix.calRunRequest then s.runRequest w.bs
  else if w.ix = Ix.calRunCancel then s.runCancel w.v
  else if w.ix = Ix.calImportCommand then if w.v = 1 then s.importSlots else s.importFactory
  else if w.ix = Ix.calItemWrite then s.itemWrite w.bs
  else if w.ix = Ix.calFactorySave then s.factorySave w.v (s.rd Ix.lifLifeCycleState 0 == 2)
  else (s.keep w, .ok)

/-- Writes of the block of BST. DEDUCED: a unit mask with a bit above 52 is out of range. -/
def State.writeBst (s : State) (w : WriteCall) : State × Code :=
  if w.ix = Ix.bstTestRequest then s.testRequest w.bs
  else if w.ix = Ix.bstFuseCommand then s.fuseCommand
  else if w.ix = Ix.bstOnlineUnitMask then keepIf (decide (ofLe w.bs < 2 ^ 53)) s (s.keep w)
  else (s.keep w, .ok)

/-- Writes of the block of the event recorder. The cursor is the session's own (R531). -/
def State.writeMon (s : State) (w : WriteCall) : State × Code :=
  if w.ix = Ix.monSnapshotCommand then s.snapshotCommand w.v
  else if w.ix = Ix.monCursor then (s.putSession { w.session with cursor := w.v }, .ok)
  else if w.ix = Ix.monSource then keepIf (recorderSourceOk w.v) s (s.keep w)
  else if w.ix = Ix.monEnable then (s.recorderEnable (w.sub - 1) w.v, .ok)
  else (s.keep w, .ok)

/-- Writes of the block of PMC. -/
def State.writePmc (s : State) (w : WriteCall) : State × Code :=
  if w.ix = Ix.pmcFreezeCommand then s.freezeCommand w.v
  else if w.ix = Ix.pmcClear then s.counterClear w.v
  else if w.ix = Ix.pmcEventSelect then keepIf (w.v == 0 || pmcEvents.contains w.v) s (s.keep w)
  else (s.keep w, .ok)

/-- Writes of the firmware block. -/
def State.writeUpd (s : State) (w : WriteCall) : State × Code :=
  if w.ix = Ix.updUpdateCommand then s.updateCommand w.v
  else if w.ix = Ix.updRaiseSecurityVersion then s.raiseSecurity w.v
  else (s.keep w, .ok)

/-! ### The dictionary -/

/-- The function whose common objects stand at an index below the eighth of its block (R21). -/
def fnAt (ix sub : Nat) : Option Fn := allFns.find? (fun f => f.base == ix - ix % 0x400 && f.sub == sub)

/-- A write of a function's common objects: Function control is a command (R21, R22). -/
def State.writeCommon (s : State) (w : WriteCall) : State × Code :=
  match fnAt w.ix w.sub with
  | some f =>
    if w.ix % 0x400 = 1 then
      let r := s.control f w.v w.around.trains w.around.faultMet
      (r.1.settle, r.2)
    else (s.keep w, .ok)
  | none => (s, .noSubindex)

/-- An accepted write takes effect (R427): by its block. -/
def State.writeEffect (s : State) (w : WriteCall) : State × Code :=
  let b := w.ix / 0x400
  if w.ix % 0x400 < 8 then s.writeCommon w
  else if b = 4 then s.writeSys w else if b = 5 then s.writeSes w else if b = 6 then s.writeLif w
  else if b = 8 then s.writeWpu w else if b = 9 then s.writePsc w else if b = 10 then s.writeEvf w
  else if b = 12 then s.writeCpt w else if b = 13 then s.writeIpl w else if b = 14 then s.writeStx w
  else if b = 15 then s.writeBrd w else if b = 16 then s.writeMre w else if b = 17 then s.writeCde w
  else if b = 18 then s.writeSeg w else if b = 19 then s.writeCls w else if b = 20 then s.writePfc w
  else if b = 22 then s.writeDlv w else if b = 23 then s.writeDmc w else if b = 24 then s.writeNet w
  else if b = 25 then s.writeCal w else if b = 26 then s.writeBst w else if b = 27 then s.writeMon w
  else if b = 28 then s.writePmc w else if b = 30 then s.writeUpd w
  else (s.keep w, .ok)

end Sys2Proof.Machine
end

