-- ==== Sys2Proof/Machine/Dict.lean ====
section
/-! DEFINITION. The requests of the dictionary protocol (R430, R431, R437 to R449): reads, writes, transfers, the frames of a mailbox. -/

namespace Sys2Proof.Machine

/-- A request refused. -/
def refuseWith (s : State) (c : Code) : Reply := { state := s, code := c }

/-- Whether the object store has an uncorrectable error in an object's words (R430 "device error"). -/
def State.badObject (s : State) (ix sub : Nat) : Bool := s.badObjects.contains (key ix sub)

/-! ### Reads -/

/-- What a read that returns an object does: RC fields that read 1 clear (R429), a capture leaves its FIFO (R470), the cursor moves on (R531). -/
def State.afterRead (s : State) (x : Session) (r : ObjRow) (ix sub : Nat) : State :=
  match r.rng with
  | .flags _ _ rc => if rc = 0 then s else s.wr ix sub (r.rng.afterRead (s.rd ix sub))
  | _ => if ix = Ix.monWindow then s.putSession { x with cursor := (x.cursor + 1) % 128 } else s

/-- The value of an object at a read, and the state after it (R431). -/
def State.readObject (s : State) (x : Session) (r : ObjRow) (ix sub : Nat) : State × Operand :=
  if ix = Ix.netCapture ∧ sub ≠ 0 then
    let q := s.captureRead (instanceOf 4 sub)
    (q.1, { num := 0, octets := q.2 })
  else if r.ty.isOctets then (s.afterRead x r ix sub, { num := 0, octets := s.shownOctets x ix sub })
  else (s.afterRead x r ix sub, { num := s.shown x ix sub, octets := [] })

/-- READ (R430, R431, R439). -/
def State.readReply (s : State) (x : Session) (p : Path) (ix sub : Nat) : Reply :=
  match s.readCheck x ix sub with
  | (c, none) => refuseWith s c
  | (_, some r) =>
    if r.ty = .dom then refuseWith s .typeMismatch
    else if s.badObject ix sub then refuseWith s .deviceError
    else
      let q := s.readObject x r ix sub
      let v := writeOperand p r q.2
      { state := q.1, code := .ok, payload := pathNum p 1 r.ty.code ++ pathNum p 1 0 ++ pathNum p 2 v.length ++ v }

/-! ### Writes -/

/-- WRITE of an object's value as its path carries it (R427, R430, R431). -/
def State.writeReply (s : State) (x : Session) (e : Surround) (p : Path) (ix sub : Nat) (value : Octets) : Reply :=
  match s.writeCheck x ix sub with
  | (c, none) => refuseWith s c
  | (_, some r) =>
    match readOperand p r value with
    | none => refuseWith s .typeMismatch
    | some o =>
      if s.valueBarred x ix sub o.num then refuseWith s .noAccess
      else if !s.stateAllows r ix sub then refuseWith s .wrongState
      else if !valueOk r o then refuseWith s .outOfRange
      else
        let q := s.writeEffect { session := x, around := e, row := r, ix := ix, sub := sub, v := o.num, bs := o.octets }
        if q.2 = .ok && s.badObject ix sub then refuseWith s .deviceError else { state := q.1, code := q.2 }

/-! ### Segmented transfers -/

/-- The object's chapter checks a completed transfer's content (R125, R126, R168, R298, R299, R443, R553): the state with it, and the code. -/
def State.domEnds (s : State) (ix sub : Nat) (bs : Octets) : State × Code :=
  let n := instanceOf 32 sub
  if ix = Ix.iplDarkAndFlatTable ∨ ix = Ix.iplDefectMap ∨ ix = Ix.iplToneCurve ∨ ix = Ix.iplLabTable then
    if s.iplTableOk n ix bs then
      let t := (s.wro ix sub bs).iplPend ix sub
      (if ix = Ix.iplDarkAndFlatTable then (t.calSuperseded 2 n.val).calSuperseded 3 n.val else t, .ok)
    else (s, .outOfRange)
  else if ix = Ix.stxCrossWebMap then keepIf (mapOk bs) s (s.wro ix sub bs)
  else if ix = Ix.clsClassifierTree then keepIf (treeOk bs) s (s.wro ix sub bs)
  else if ix = Ix.clsClassTable then keepIf (classTableOk bs) s (s.wro ix sub bs)
  else if ix = Ix.updImage then s.imageEnds
  else (s.wro ix sub bs, .ok)

/-- Whether another session is transferring an object (R440). -/
def State.transferring (s : State) (id ix sub : Nat) : Bool :=
  s.sessions.any (fun y => y.id != id && match y.transfer with
    | some t => t.ix == ix && t.sub == sub
    | none => false)

/-- Whether an image may not be written now: Update state is 3 or 4 (R553). -/
def State.imageBusy (s : State) (ix : Nat) : Bool := ix == Ix.updImage && decide (3 ≤ s.rd Ix.updUpdateState 0)

/-- DOM_READ: a snapshot of the object (R440, R441). Each snapshot of Export takes the next sequence (R491). -/
def State.domReadReply (s : State) (x : Session) (p : Path) (ix sub : Nat) : Reply :=
  match s.readCheck x ix sub with
  | (c, none) => refuseWith s c
  | (_, some r) =>
    if r.ty ≠ .dom then refuseWith s .typeMismatch
    else if x.transfer.isSome then refuseWith s .noResources
    else if s.badObject ix sub then refuseWith s .deviceError
    else
      let q : State × Octets := if ix = Ix.calExport then s.takeExport false else (s, s.shownOctets x ix sub)
      { state := q.1.putSession { x with transfer := some { ix := ix, sub := sub, write := false, total := q.2.length, data := q.2 } },
        code := .ok, payload := pathNum p 4 q.2.length ++ pathNum p 2 (segmentSize p) }

/-- DOM_WRITE: a transfer of a stated length begins (R440, R442); a completed write that is pending for an IPL table is cancelled (R141). One of
length 0 needs no segment and is complete at once (DESIGN CHOICE: R442 asks for segments of at least one byte). -/
def State.domWriteReply (s : State) (x : Session) (p : Path) (ix sub total : Nat) : Reply :=
  match s.writeCheck x ix sub with
  | (c, none) => refuseWith s c
  | (_, some r) =>
    if r.ty ≠ .dom then refuseWith s .typeMismatch
    else if !r.rng.admitsLen total then refuseWith s .outOfRange
    else if s.transferring x.id ix sub || s.imageBusy ix then refuseWith s .busy
    else if x.transfer.isSome then refuseWith s .noResources
    else if s.badObject ix sub then refuseWith s .deviceError
    else
      let t := s.cancelPending ix sub
      if total = 0 then
        let q := t.domEnds ix sub []
        { state := q.1, code := q.2, payload := if q.2 = .ok then pathNum p 2 (segmentSize p) else [] }
      else
        { state := t.putSession { x with transfer := some { ix := ix, sub := sub, write := true, total := total, data := [] } },
          code := .ok, payload := pathNum p 2 (segmentSize p) }

/-- A SEGMENT of a read transfer: bytes of the snapshot (R441). -/
def State.segmentRead (s : State) (x : Session) (p : Path) (t : Transfer) (offset n : Nat) (last : Bool) : Reply :=
  if n < 1 ∨ segmentSize p < n ∨ t.total < offset then refuseWith s .outOfRange
  else
    { state := if last then s.putSession { x with transfer := none } else s, code := .ok, payload := (t.data.drop offset).take n }

/-- A SEGMENT of a write transfer (R442, R443): the last one has its content checked. -/
def State.segmentWrite (s : State) (x : Session) (p : Path) (t : Transfer) (offset : Nat) (data : Octets) (last : Bool) : Reply :=
  let now := t.data.length + data.length
  if offset ≠ t.data.length ∨ t.total < now then refuseWith s .sequence
  else if data.length < 1 ∨ segmentSize p < data.length ∨ (last ∧ now ≠ t.total) then refuseWith s .outOfRange
  else
    let s1 := if t.ix = Ix.updImage then s.imageSegment (t.data = []) data else s
    if last then
      let q := (s1.putSession { x with transfer := none }).domEnds t.ix t.sub (t.data ++ data)
      { state := q.1, code := q.2, payload := if q.2 = .ok then pathNum p 4 now else [] }
    else
      { state := s1.putSession { x with transfer := some { t with data := t.data ++ data } }, code := .ok, payload := pathNum p 4 now }

/-- SEGMENT: what its payload means follows from the open transfer (R439). -/
def State.segmentReply (s : State) (x : Session) (p : Path) (payload : Octets) (last : Bool) : Reply :=
  match x.transfer with
  | none => refuseWith s .wrongState
  | some t =>
    let offset := pathNat p (payload.take 4)
    let rest := payload.drop 4
    if payload.length < 4 ∨ (!t.write ∧ rest.length ≠ 2) then refuseWith s .typeMismatch
    else if t.write then s.segmentWrite x p t offset rest last
    else s.segmentRead x p t offset (pathNat p rest) last

/-- DOM_ABORT abandons the session's transfer (R444). -/
def State.domAbort (s : State) (x : Session) : Reply :=
  match x.transfer with
  | some t => { state := (s.abandon t).putSession { x with transfer := none }, code := .ok }
  | none => { state := s, code := .ok }

/-! ### The other requests -/

/-- KEEPALIVE returns the live LP and the time stamp (R439, R9). -/
def State.keepAlive (s : State) (p : Path) : Reply :=
  { state := s, code := .ok, payload := pathNum p 8 s.seenLp ++ pathNum p 8 s.stamp }

/-- The reader that a group READ is performed for: L0 and Open (R446). -/
def groupReader (p : Path) : Session :=
  { id := 0xFFFF, path := p, level := 0, secure := false, provisioned := false, timeoutMs := 0, opened := 0, lastNs := 0, lastSeq := 0,
    stored := none, transfer := none, cursor := 0, challenge := none, anchorMax := 0 }

/-- A reply as the response of an opcode. -/
def Reply.response (y : Reply) (opcode : Nat) : State × Response :=
  (y.state, { opcode := opcode, status := y.code.value, payload := y.payload })

/-- A READ request, in a group frame or of a session (R439, R446). A mailbox ignores the group (R447). -/
def State.readRequest (s : State) (r : Req) (group ix sub : Nat) : State :=
  if group ≠ 0 ∧ Path.bigEndian r.path then
    s.groupRequest r group (fun t => (t.readReply (groupReader r.path) r.path ix sub).response 0x10)
  else s.request r 0x10 (fun t x => t.readReply x r.path ix sub)

/-- A WRITE request (R439): a power command that resets the device does so once it is answered (R541). -/
def State.writeRequest (s : State) (e : Surround) (r : Req) (ix sub : Nat) (value : Octets) : State :=
  (s.request r 0x11 (fun t x => t.writeReply x e r.path ix sub value)).afterRequest

/-- A WRITE of the general form, its surroundings free. -/
def State.writeFree (s : State) (r : Req) (ix sub : Nat) (value : Octets) : State :=
  s.takeFree.writeRequest s.surround r ix sub value

/-- A WRITE of a scalar object that a row of its own names, by the object's number of octets. -/
def State.writeNumber (s : State) (r : Req) (ix sub n v : Nat) : State := s.writeFree r ix sub (pathNum r.path n v)

/-- A DISCOVER request, in a group frame or of a session (R446). -/
def State.discoverRequest (s : State) (r : Req) (group : Nat) : State :=
  let answer (t : State) : Reply := { state := t, code := .ok, payload := t.identity r.path }
  if group ≠ 0 ∧ Path.bigEndian r.path then s.groupRequest r group (fun t => (answer t).response 0x30)
  else s.request r 0x30 (fun t _ => answer t)

/-- AUTH step 1: mailbox only (R439, R449). -/
def State.authOne (s : State) (r : Req) : State :=
  s.request r 0x04 (fun t x => if Path.bigEndian r.path then refuseWith t .badOpcode else t.authChallenge x)

/-- AUTH step 2 (R449). -/
def State.authTwo (s : State) (r : Req) (level : Nat) (chain sig : Octets) : State :=
  s.request r 0x04 (fun t x => if Path.bigEndian r.path then refuseWith t .badOpcode else t.authResponse x level chain sig)

/-- CLOSE ends the session (R436). -/
def State.closeRequest (s : State) (r : Req) : State := s.request r 0x02 (fun t x => { state := t.endSession x.id, code := .ok })

/-! ### Mailbox frames -/

/-- Whether a request frame of a mailbox is well formed (R438, R439, R447). -/
def frameOk (f : Octets) : Bool :=
  decide (20 ≤ f.length ∧ f.length ≤ 3840) && leAt f 0 2 == 0x5644 && octAt f 2 == 1 && octAt f 4 &&& 0xFD == 0 && octAt f 5 == 0 &&
  leAt f 0x12 2 == 0 && leAt f 0x10 2 == f.length - 20

/-- A request refused because its payload does not suit its opcode. -/
def State.payloadBad (s : State) (r : Req) (opcode : Nat) : State := s.request r opcode (fun t _ => refuseWith t .typeMismatch)

/-- The AUTH payload (R449): the step; in step 2 the level, the chain's length, the chain, and the signature of 96 octets or none. -/
def State.authFrame (s : State) (r : Req) (b : Octets) : State :=
  if octAt b 0 = 1 then s.authOne r
  else
    let n := leAt b 2 2
    if octAt b 0 = 2 ∧ (b.length = 4 + n + 96 ∨ (n = 0 ∧ b.length = 4)) then s.authTwo r (octAt b 1) ((b.drop 4).take n) (b.drop (4 + n))
    else s.payloadBad r 0x04

/-- The request that a mailbox frame spells (R438, R439): an opcode that is none is answered "bad opcode". -/
def State.frameRequest (s : State) (m : Fin 4) (f : Octets) : State :=
  let r : Req := { path := .mailbox m, session := BitVec.ofNat 16 (leAt f 0x0A 2), seq := BitVec.ofNat 16 (leAt f 0x0C 2) }
  let op := octAt f 3
  let last := (octAt f 4).testBit 1
  let b := f.drop 20
  let ix := leAt b 0 2
  let sub := octAt b 2
  if op = 0x01 then
    if 2 ≤ b.length ∧ octAt b 1 = 0 then s.openRequest r.path r.seq.toNat (octAt b 0) (b.drop 2)
    else s.deliver r.path (fun t => t.respond r.path 0xFFFF r.seq.toNat { opcode := 1, status := Code.typeMismatch.value, payload := [] })
  else if op = 0x02 then s.closeRequest r
  else if op = 0x03 then s.request r op (fun t _ => t.keepAlive r.path)
  else if op = 0x04 then s.authFrame r b
  else if op = 0x10 then if b.length = 4 then s.readRequest r 0 ix sub else s.payloadBad r op
  else if op = 0x11 then if 4 ≤ b.length then s.writeFree r ix sub (b.drop 4) else s.payloadBad r op
  else if op = 0x20 then if b.length = 4 then s.request r op (fun t x => t.domReadReply x r.path ix sub) else s.payloadBad r op
  else if op = 0x21 then
    if b.length = 8 then s.request r op (fun t x => t.domWriteReply x r.path ix sub (leAt b 4 4)) else s.payloadBad r op
  else if op = 0x22 then s.request r op (fun t x => t.segmentReply x r.path b last)
  else if op = 0x23 then s.request r op (fun t x => t.domAbort x)
  else if op = 0x30 then s.discoverRequest r 0
  else s.request r op (fun t _ => refuseWith t .badOpcode)

/-- The host writes a request frame and its length into a mailbox (R447, R448). -/
def State.mailboxFill (s : State) (m : Fin 4) (f : Octets) : State :=
  if s.on && s.pcie.linkUp then
    let b := s.mailboxes[m]
    { s with mailboxes := s.mailboxes.set m { b with length := f.length, request := f ++ b.request.drop f.length } }
  else s

/-- A frame posted to a mailbox (R447, R448): a malformed one is answered "bad opcode". -/
def State.mailboxPost (s : State) (m : Fin 4) (f : Octets) : State :=
  if frameOk f then s.frameRequest m f
  else
    s.deliver (.mailbox m) (fun t => t.respond (.mailbox m) (leAt f 0x0A 2) (leAt f 0x0C 2)
      { opcode := octAt f 3, status := Code.badOpcode.value, payload := [] })

end Sys2Proof.Machine
end

