-- ==== Sys2Proof/Machine/Events.lean ====
section
/-! DEFINITION. What the rows share: where an event reaches the device, the writes that rows of their own name, and the events that no block's
file gives an operation of its own. -/

namespace Sys2Proof.Machine

/-! ### Where an event reaches the device -/

/-- What happens only while CLK_POS, CLK_PIPE and the SerDes run (R31, R540). -/
def State.whileClocked (s : State) (k : State → State) : State := if s.clocked then k s else s

/-- What happens in every power state but Off, in which nothing answers and nothing is sampled (R540). -/
def State.whileOn (s : State) (k : State → State) : State := if s.on then k s else s

/-- What the MGT firmware does: not in Off, and not while its cores restart (R540, R546). -/
def State.whileManaged (s : State) (k : State → State) : State := if s.mgtUp then k s else s

/-- What comes over the PCI Express link: while the device is on and the link is up (R368, R374). -/
def State.overLink (s : State) (k : State → State) : State := if s.on && s.pcie.linkUp then k s else s

/-- Cycles of CLK_POS pass, 5 ns each (R18). -/
def State.posCycles (s : State) (n : Nat) : State := s.advance (5 * n)

/-- With no command waiting, one cycle of CLK_TB passes, 4 ns; in Off nothing runs (R18, R540). DESIGN CHOICE: the table has no row for the
passing of time. -/
def State.idle (s : State) : State := s.whileOn (fun s => (s.advance 4).settle)

/-! ### Writes that rows of their own name -/

/-- A write of Function control (R21, R22): `trains` says whether a DRAM channel's training finds a working setting (R384), `met` whether a
fault reaches the function in the same cycle, which refuses the command (R25). -/
def State.functionControl (s : State) (r : Req) (f : Fn) (v : Nat) (trains met : Bool) : State :=
  s.takeFree.writeRequest { s.surround with trains := trains, faultMet := met } r (f.base + 1) f.sub (pathNum r.path 1 v)

/-- A write of Power command; `levels` are the encoder lines' first samples at an entry to Ready (R31, R541). -/
def State.powerWrite (s : State) (r : Req) (v : Nat) (levels : BitVec 8) : State :=
  s.takeFree.writeRequest { s.surround with levels := levels } r Ix.sysPowerCommand 0 (pathNum r.path 1 v)

/-- A write of Shadow arm; `inHandOver` says whether it lands in the cycle of a hand-over (R367). -/
def State.shadowWrite (s : State) (r : Req) (c : Fin 32) (v : Nat) (inHandOver : Bool) : State :=
  s.takeFree.writeRequest { s.surround with handOver := inHandOver } r Ix.dlvShadowArm (c.val + 1) (pathNum r.path 1 v)

/-- A write of a field of an event-fabric channel's record (R411). -/
def State.channelWrite (s : State) (r : Req) (c : Fin 256) (sub v : Nat) : State := s.writeNumber r (chanIx c.val) sub 1 v

/-- A life-cycle command's head: its code, three reserved octets and the serial number (R499). -/
def lifeHead (code : Nat) (serial : BitVec 64) : Octets := leBytes 1 code ++ zeros 3 ++ leBytes 8 serial.toNat

/-- A malformed or foreign VDP frame on a served port (R438, R439). -/
def State.netDiscard (s : State) (port : Fin 2) : State := if s.clocked && s.runs (.fnp port) then (s.netHeard port).frameDiscarded else s.fnpUnheard port

/-! ### Web position -/

/-- A line fault's end clears its live flag (R36). -/
def State.lineFaultEnds (s : State) (n : Fin 4) (line : EncLine) : State := s.clearBit Ix.wpuEncoderStatus (n.val + 1) (encLineFlag line)

/-- The poll interval of an enabled serial input ends: a frame is clocked (R38). -/
def State.serialPoll (s : State) (n : Fin 2) : State :=
  if s.rd Ix.wpuSerialMode (n.val + 1) = 0 then s else s.setSer n { s.wpu.ser[n] with polling := true }

/-- Whether a serial input is clocking a frame (R38). -/
def State.serialBusy (s : State) (n : Fin 2) : Bool := s.rd Ix.wpuSerialMode (n.val + 1) != 0 && s.wpu.ser[n].polling

/-- A frame's last bit has come and its check is complete (R38 to R40): SSI has no check bits; BiSS-C's warning bit shows for a good frame. -/
def State.serialFrame (s : State) (n : Fin 2) (word : BitVec 40) (crc : BitVec 6) (errBit warnBit : Bool) : State :=
  if !s.serialBusy n then s
  else
    let mode := s.rd Ix.wpuSerialMode (n.val + 1)
    let w := s.rd Ix.wpuSerialPositionWidth (n.val + 1)
    let v := word.toNat % 2 ^ w
    let t := s.setSer n { s.wpu.ser[n] with polling := false }
    let good := mode != 1 || (errBit && bissOk (s.rd Ix.wpuBiSSCRCPolynomial (n.val + 1)) w v errBit warnBit crc.toNat)
    if good then
      let u := if mode = 1 then t.putBit Ix.wpuSerialStatus (n.val + 1) 1 (!warnBit) else t
      State.moveEnds (u.serialGood n w (if mode = 3 then ofGray w v else v))
    else (t.serialBad n).comparators.settle

/-- No start bit comes within the frame timeout: the frame is bad (R40). -/
def State.serialTimesOut (s : State) (n : Fin 2) : State :=
  if !s.serialBusy n then s else ((s.setSer n { s.wpu.ser[n] with polling := false }).serialBad n).comparators.settle

/-- The reported speed follows the elapsed time while no change of P comes (R53). -/
def State.speedDecays (s : State) : State := s.speedUpdate.comparators.settle

/-- No change of P within the standstill timeout (R54): the buffer empties and WPU_STANDSTILL goes to EVF, once per standstill. -/
def State.standsStill (s : State) : State :=
  if s.bit Ix.wpuPositionStatus 0 psStandstill then s
  else
    let t := ((s.setBit Ix.wpuPositionStatus 0 psStandstill).setBit Ix.wpuPositionStatus 0 psStandstillSeen).emptySpeed
    (({ t with wpu := { t.wpu with lastNew := none } } : State).eventHere (eventCode 6 0 1) 0).comparators.settle

/-- A filtered probe edge; a latch of the page mark probe that enters its capture FIFO goes to MRE too (R60, R62, R201). -/
def State.probeTakes (s : State) (n : Fin 8) (rising : Bool) : State :=
  let r := s.probeEdge n rising
  match r.2 with
  | some l => (if s.wpu.probes[n].length < 16 then r.1.markLatch n.val l.lp l.time else r.1).settle
  | none => r.1

/-! ### Camera ports -/

/-- The back-off of a failed training ends and the single retry begins (R91). -/
def State.trainingRetries (s : State) (n : Fin 32) : State :=
  if (s.port n).train = .backOff then s.setPort n { s.port n with train := .retry } else s

/-- A heartbeat restarts the supervision of an up link (R92). -/
def State.heartbeat (s : State) (n : Fin 32) : State :=
  if s.rd Ix.cptLinkState (n.val + 1) = 3 then s.setPort n { s.port n with heard := s.ns } else s

/-- The falling-edge packet of the oldest trigger follows its rising edge (R95). -/
def State.triggerFalls (s : State) (n : Fin 32) : State :=
  let c := s.port n
  if c.pulsesHigh = 0 then s
  else ((s.setPort n { c with pulsesHigh := c.pulsesHigh - 1 }).emit (.triggerPacket n.val (s.rd Ix.cptHighSpeedUpconnection (n.val + 1) == 1) false (Config.triggerDelay s.free))).takeFree

/-- The link has stayed lost for the reconnect timeout, where there is one (R92, R113). -/
def State.reconnectTimesOut (s : State) (n : Fin 32) : State :=
  let st := s.rd Ix.cptLinkState (n.val + 1)
  if s.rd Ix.cptReconnectTimeout (n.val + 1) ≠ 0 ∧ st ≠ 0 ∧ st ≠ 3 ∧ (s.port n).needResume then (s.faults (.cpt n) 1).settle else s

/-! ### Braid and the coefficient banks -/

/-- The clock lane of an up link is lost: CLOCK_LOSS sets and a retraining starts (R174). -/
def State.clockLost (s : State) (n : Fin 4) : State :=
  if s.braidUp n then (s.setBit Ix.brdLinkStatus (n.val + 1) blClockLoss).braidRetrain n else s

/-- No acknowledgement has advanced within the Ack timeout: what is unacknowledged is resent (R176). -/
def State.ackTimesOut (s : State) (n : Fin 4) : State := if s.braidUp n then s.flitsFail n else s

/-- The index of a bank's object (R336). -/
def bankIndex : BankObject → Nat
  | .fir => Ix.pfcFIRCoefficients
  | .halfband => Ix.pfcHalfbandCoefficients
  | .gain => Ix.pfcOutputGain

/-- A write into a coefficient bank (R336). -/
def State.bankRowWrite (s : State) (r : Req) (o : BankObject) (bank : Fin 2) (value : Octets) : State :=
  s.writeFree r (bankIndex o) (bank.val + 1) value

/-! ### Delivery -/

/-- BAR4 is written in the SERVICE life-cycle state only (R372, R497). -/
def State.bar4Write (s : State) (offset : Nat) (data : Octets) : State := s.windowWrite (s.rd Ix.lifLifeCycleState 0 == 2) offset data

/-- Whether what a retry read has the length of what was to be read (R360): a descriptor's 32 octets, a copy's own. -/
def State.retryFits (s : State) (c : Fin 32) (data : Octets) (ok : Bool) : Bool :=
  !ok || c == 31 || match (s.chan c).failing with
    | some .descriptor => data.length == 32
    | some .data => s.copyLength c == some data.length
    | _ => true

/-- Whether a copy's data has its descriptor's length (R363). -/
def State.copyFits (s : State) (c : Fin 32) (data : Octets) (ok : Bool) : Bool := !ok || (s.copyLength c).all (fun n => n == data.length)

/-- Whether a loaded image has the length that was submitted (R197). -/
def State.imageFits (s : State) (image : Octets) (dmaError : Bool) : Bool := dmaError || s.movingPage.all (fun p => p.len == image.length)

end Sys2Proof.Machine
end

