-- ==== Sys2Proof/Machine/ExecBraid.lean ====
section
/-! DEFINITION. The meanings of the rows of the Braid links. -/

namespace Sys2Proof.Machine

/-- `BRAID_TRAINING_COMPLETE` (R171): Braid training ends with a chosen preset and the link up, or with failure. -/
def execBraidTrainingComplete (n : Fin 4) (partner : BraidPartner) (reports : Vector (BitVec 8) 8) (eye : BitVec 16) (laneMap taps skew
    : Vector Byte 8) (micros : Nat) (s : State) : Host.Outcome State Fault Refusal :=
  .next (s.whileClocked (fun s => s.braidComplete n partner (reports.toList.map (fun v => v.toNat)) eye.toNat laneMap.toList taps.toList skew.toList micros))

/-- `BRAID_TRAINING_TIMEOUT` (R173): A Braid training attempt exceeds 5 ms and fails. -/
def execBraidTrainingTimeout (n : Fin 4) (s : State) : Host.Outcome State Fault Refusal :=
  .next (s.whileClocked (fun s => s.braidFails n))

/-- `BRAID_TRAINING_RETRY` (R173): The 10 ms back-off expires and the single Braid training retry begins. -/
def execBraidTrainingRetry (n : Fin 4) (s : State) : Host.Outcome State Fault Refusal := .next (s.whileClocked (fun s => s.braidRetry n))

/-- `RETRAIN_INTERVAL` (R173): The retrain interval expires on a down link and a new training begins. -/
def execRetrainInterval (n : Fin 4) (s : State) : Host.Outcome State Fault Refusal := .next (s.whileClocked (fun s => s.braidAgain n))

/-- `BRAID_CLOCK_LOSS` (R174): The clock lane is lost for over 1 µs; CLOCK_LOSS sets and retraining starts. -/
def execBraidClockLoss (n : Fin 4) (s : State) : Host.Outcome State Fault Refusal := .next (s.whileClocked (fun s => (s.clockLost n).reclaimPartials))

/-- `BRAID_EYE_TRACKING` (R174): A lane moves its sampling delay one tap to follow its eye edges. -/
def execBraidEyeTracking (n : Fin 4) (lane : Fin 8) (up : Bool) (s : State) : Host.Outcome State Fault Refusal :=
  .next (s.whileClocked (fun s => s.braidTap n lane up))

/-- `FLIT_RECEIVE` (R176): A received flit is checked by CRC and sequence, accepted or NAKed. -/
def execFlitReceive (n : Fin 4) (flit : Vector Byte 80) (s : State) : Host.Outcome State Fault Refusal :=
  .next (s.whileClocked (fun s => (s.flitReceive n flit.toList).reclaimPartials))

/-- `NAK` (R176): A received NAK makes the transmitter resend every flit after the acknowledged sequence. -/
def execNak (n : Fin 4) (ack : BitVec 12) (s : State) : Host.Outcome State Fault Refusal :=
  .next (s.whileClocked (fun s => (s.flitNak n ack.toNat).reclaimPartials))

/-- `ACK_TIMEOUT` (R176): No acknowledgement advances within the Ack timeout; unacknowledged flits are replayed. -/
def execAckTimeout (n : Fin 4) (s : State) : Host.Outcome State Fault Refusal := .next (s.whileClocked (fun s => (s.ackTimesOut n).reclaimPartials))

/-- `OVERLAP_MESSAGE` (R178): An overlap message from the neighbour is matched to the local stitched line by LP. -/
def execOverlapMessage (n : Fin 4) (s : State) : Host.Outcome State Fault Refusal := .next (s.whileClocked (fun s => s.overlapReceive n))

/-- `REJOIN` (R182): A rejoin message names the strip at which the seam returns to stitched operation. -/
def execRejoin (n : Fin 4) (s : State) : Host.Outcome State Fault Refusal := .next (s.whileClocked (fun s => s.rejoinReceive n))

/-- `BLOB_EDGE_SUMMARY` (R275): A blob-edge summary from a Braid neighbour is matched and its MERGE and PARTIAL events taken. -/
def execBlobEdgeSummary (n : Fin 4) (s : State) : Host.Outcome State Fault Refusal := .next (s.whileClocked (fun s => s.summaryReceive n))

end Sys2Proof.Machine
end

