-- ==== Sys2Proof/Machine/ExecCalibration.lean ====
section
/-! DEFINITION. The meanings of the rows of calibration. -/

namespace Sys2Proof.Machine

/-- `RUN_REQUEST` (R483): Run request starts a DARK, FLAT or GEOMETRIC calibration run. -/
def execRunRequest (r : Req) (value : Octets) (s : State) : Host.Outcome State Fault Refusal :=
  .next (s.writeFree r Ix.calRunRequest 0 value)

/-- `RUN_CANCEL` (R483): Run cancel ends a run with reason ABORTED. -/
def execRunCancel (r : Req) (s : State) : Host.Outcome State Fault Refusal := .next (s.writeNumber r Ix.calRunCancel 0 1 1)

/-- `RUN_CHECK_COMPLETE` (R488): The checks of each camera finish and the accepted values go to MGT. -/
def execRunCheckComplete (s : State) : Host.Outcome State Fault Refusal := .next (s.whileManaged (fun s => s.runChecked))

/-- `RUN_APPLY_COMPLETE` (R489): The last write of a run completes and Run result is written. -/
def execRunApplyComplete (s : State) : Host.Outcome State Fault Refusal := .next (s.whileManaged (fun s => s.runApplied))

/-- `RUN_TIMEOUT` (R479): The run timeout expires; the run ends with TIMEOUT or RAMP_BUSY. -/
def execRunTimeout (s : State) : Host.Outcome State Fault Refusal := .next (s.whileOn (fun s => s.runTimesOut))

/-- `IMPORT` (R492): Import command 1 applies the valid slot with the higher sequence. -/
def execImportCmd (r : Req) (s : State) : Host.Outcome State Fault Refusal := .next (s.writeNumber r Ix.calImportCommand 0 1 1)

/-- `APPLY_FACTORY` (R493): Import command 2 applies the factory record. -/
def execApplyFactory (r : Req) (s : State) : Host.Outcome State Fault Refusal := .next (s.writeNumber r Ix.calImportCommand 0 1 2)

/-- `IMPORT_COMPLETE` (R492): The last import write completes and Import result is written. -/
def execImportComplete (s : State) : Host.Outcome State Fault Refusal := .next (s.whileManaged (fun s => s.importComplete))

/-- `ITEM_WRITE` (R481): Item write gives one calibration item a new value through CAL. -/
def execItemWrite (r : Req) (value : Octets) (s : State) : Host.Outcome State Fault Refusal :=
  .next (s.writeFree r Ix.calItemWrite 0 value)

/-- `FACTORY_SAVE` (R493): Factory save stores a snapshot of the values as the factory record. -/
def execFactorySave (r : Req) (s : State) : Host.Outcome State Fault Refusal := .next (s.writeNumber r Ix.calFactorySave 0 1 1)

/-- `INTERFACE_INTERVAL` (R480): The interface interval expires and CXP and encoder thresholds step one tap. -/
def execInterfaceInterval (lanes : List (Nat × Int)) (encoders : List (Nat × List (Option Int))) (s : State) : Host.Outcome State Fault
    Refusal :=
  .next (s.whileOn (fun s => s.interfaceInterval lanes encoders))

/-- `DUE_CHECK` (R482): Once a minute CAL evaluates the due flags. -/
def execDueCheck (s : State) : Host.Outcome State Fault Refusal := .next (s.whileOn (fun s => s.dueCheck))

end Sys2Proof.Machine
end

