-- ==== Sys2Proof/Machine/ExecCamera.lean ====
section
/-! DEFINITION. The meanings of the rows of the camera ports. -/

namespace Sys2Proof.Machine

/-- `DISCOVERY_ATTEMPT` (R90): A discovery attempt probes the port's lanes, reads bootstrap registers and starts training. -/
def execDiscoveryAttempt (n : Fin 32) (conns : List CxpConn) (s : State) : Host.Outcome State Fault Refusal :=
  .next (s.whileClocked (fun s => s.discover n conns))

/-- `LINK_UP` (R90): Training locks and deskews the group; the CXP link is up and CPTn_LINK_UP is sent. -/
def execLinkUp (n : Fin 32) (skew : Nat) (s : State) : Host.Outcome State Fault Refusal :=
  .next (s.whileClocked (fun s => s.linkComesUp n skew))

/-- `TRAINING_FAIL` (R91): A CXP link training fails; a first failure schedules the retry, a second returns to discovery. -/
def execTrainingFail (n : Fin 32) (s : State) : Host.Outcome State Fault Refusal := .next (s.whileClocked (fun s => s.trainingFails n))

/-- `TRAINING_RETRY` (R91): The 10 ms training back-off expires and the single retry begins. -/
def execTrainingRetry (n : Fin 32) (s : State) : Host.Outcome State Fault Refusal := .next (s.whileClocked (fun s => s.trainingRetries n))

/-- `LANE_LOCK_LOSS` (R92): A lane stays out of lock for over 1 µs and the CXP link is lost. -/
def execLaneLockLoss (n : Fin 32) (s : State) : Host.Outcome State Fault Refusal := .next (s.whileClocked (fun s => s.linkLost n))

/-- `HEARTBEAT` (R92): A heartbeat from the camera restarts the heartbeat supervision. -/
def execHeartbeat (n : Fin 32) (s : State) : Host.Outcome State Fault Refusal := .next (s.whileClocked (fun s => s.heartbeat n))

/-- `HEARTBEAT_TIMEOUT` (R92): No heartbeat arrives within the timeout and the link is lost. -/
def execHeartbeatTimeout (n : Fin 32) (s : State) : Host.Outcome State Fault Refusal := .next (s.whileClocked (fun s => s.linkLost n))

/-- `TAG_EXPIRED` (R99): A pending tag older than the tag timeout is retired as EXPIRED. -/
def execTagExpired (dt : Nat) (n : Fin 32) (s : State) : Host.Outcome State Fault Refusal :=
  .next (s.whileClocked (fun s => (s.posCycles dt).retireExpired n))

/-- `TRIGGER_PACKET_FALL` (R95): After the trigger packet width the falling-edge trigger packet is sent. -/
def execTriggerPacketFall (n : Fin 32) (s : State) : Host.Outcome State Fault Refusal :=
  .next (s.whileClocked (fun s => s.triggerFalls n))

/-- `FRAME_START` (R98): A camera frame starts and is bound to the strip of the head tag, or puts the port out of step. -/
def execFrameStart (dt : Nat) (n : Fin 32) (s : State) : Host.Outcome State Fault Refusal :=
  .next (s.whileClocked (fun s => (s.posCycles dt).frameStart n))

/-- `LINE_FIRST_PACKET` (R107): A line's first packet takes a buffer slot at its pipeline. -/
def execLineFirstPacket (dt : Nat) (n : Fin 32) (s : State) : Host.Outcome State Fault Refusal :=
  .next (s.whileClocked (fun s => (s.posCycles dt).firstPacket n))

/-- `LINE_COMPLETE` (R98): A completed camera line is paired with the oldest pending tag and sent to IPL as a line or marker. -/
def execLineComplete (dt : Nat) (n : Fin 32) (extra crcError frameEnd : Bool) (header xSize : Nat) (samples : List (BitVec 16)) (s :
    State) : Host.Outcome State Fault Refusal :=
  .next (s.whileClocked (fun s => (s.posCycles dt).lineComplete n extra crcError frameEnd header xSize (samples.map (fun v => v.toNat))))

/-- `FRAME_END` (R104): A camera frame ends; a frame ending before the strip closes it short. -/
def execFrameEnd (dt : Nat) (n : Fin 32) (s : State) : Host.Outcome State Fault Refusal :=
  .next (s.whileClocked (fun s => (s.posCycles dt).frameEnd n))

/-- `CONTROL_REQUEST` (R108): A write of Control request sends one control command to the camera. -/
def execControlRequest (r : Req) (n : Fin 32) (value : Octets) (s : State) : Host.Outcome State Fault Refusal :=
  .next (s.writeFree r Ix.cptControlRequest (n.val + 1) value)

/-- `CONTROL_RESPONSE` (R109): The camera's control acknowledgement is stored in Control response. -/
def execControlResponse (n : Fin 32) (ack : BitVec 8) (data : Octets) (s : State) : Host.Outcome State Fault Refusal :=
  .next (s.whileClocked (fun s => s.controlAnswer n ack data))

/-- `CONTROL_TIMEOUT` (R111): An unanswered control request ends with status 3. -/
def execControlTimeout (n : Fin 32) (s : State) : Host.Outcome State Fault Refusal :=
  .next (s.whileClocked (fun s => s.controlTimesOut n))

/-- `CAMERA_EVENT` (R110): An event packet from the camera is counted, stored and sends CPTn_CAM_EVENT. -/
def execCameraEvent (n : Fin 32) (packet : Octets) (s : State) : Host.Outcome State Fault Refusal :=
  .next (s.whileClocked (fun s => s.cameraEvent n packet))

/-- `RECONNECT_TIMEOUT` (R113): The link stays lost for the reconnect timeout and the port faults. -/
def execReconnectTimeout (n : Fin 32) (s : State) : Host.Outcome State Fault Refusal :=
  .next (s.whileClocked (fun s => s.reconnectTimesOut n))

/-- `RESUME` (R115): A write of Resume allows triggering to restart at the next strip boundary after link-up. -/
def execResume (r : Req) (n : Fin 32) (value : BitVec 8) (s : State) : Host.Outcome State Fault Refusal :=
  .next (s.writeNumber r Ix.cptResume (n.val + 1) 1 value.toNat)

/-- `STRIP_LENGTH_WRITE` (R103): A write of Strip length is accepted only while every strip-framing function is Stopped. -/
def execStripLengthWrite (r : Req) (value : BitVec 32) (s : State) : Host.Outcome State Fault Refusal :=
  .next (s.writeNumber r Ix.cptStripLength 0 4 value.toNat)

end Sys2Proof.Machine
end

