-- ==== Sys2Proof/Machine/Bar0.lean ====
section
/-! DEFINITION. The base address registers and the memory space of BAR0 and BAR2 by offset (R369, R370, R447, R535). -/

namespace Sys2Proof.Machine

/-- What a base address register tells the host (R368, R369): the octets it spans, the bits of its address, and whether reads may be
prefetched. -/
structure BarKind where
  size : Nat
  bits : Nat
  prefetchable : Bool
  deriving DecidableEq, Repr

/-- The base address registers by their number; a 64-bit one takes the number after its own too (R368, R369). -/
def barKind : Nat → Option BarKind
  | 0 => some { size := 2 ^ 16, bits := 64, prefetchable := false }
  | 2 => some { size := 2 ^ 12, bits := 32, prefetchable := true }
  | 4 => some { size := 2 ^ 28, bits := 64, prefetchable := false }
  | _ => none

/-! ### Places -/

/-- What stands at an offset of BAR0 (R370, R447): a field of a mailbox, a doorbell, a field of a shadow ring, a field of the status of a
channel or of a queue, or the live LP and time. The last number is the offset in the field's block. -/
inductive Bar0Place where
  | mailbox (m : Fin 4) (at_ : Nat)
  | doorbell (c : Fin 32) (at_ : Nat)
  | shadow (c : Fin 32) (at_ : Nat)
  | channel (c : Fin 32) (at_ : Nat)
  | queue (q : Fin 3) (at_ : Nat)
  | live (at_ : Nat)
  | reserved
  deriving DecidableEq, Repr

/-- BAR0's map (R370). -/
def bar0Place (o : Nat) : Bar0Place :=
  if o < 0x8000 then .mailbox (Fin.ofNat 4 (o / 0x2000)) (o % 0x2000)
  else if o < 0x8100 then .doorbell (Fin.ofNat 32 ((o - 0x8000) / 8)) ((o - 0x8000) % 8)
  else if o < 0x8500 then .shadow (Fin.ofNat 32 ((o - 0x8100) / 32)) ((o - 0x8100) % 32)
  else if o < 0xC000 then .reserved
  else if o < 0xC200 then .channel (Fin.ofNat 32 ((o - 0xC000) / 16)) ((o - 0xC000) % 16)
  else if o < 0xC230 then .queue (Fin.ofNat 3 ((o - 0xC200) / 16)) ((o - 0xC200) % 16)
  else if o < 0xC300 then .reserved
  else if o < 0xC310 then .live (o - 0xC300)
  else .reserved

/-! ### Reads -/

/-- Mailbox status (R447); a mailbox whose cores restart with a request in hand shows no BUSY, since a request is answered at its post. -/
def Mailbox.status (b : Mailbox) : Nat := 2 * bitNat b.ready + 4 * bitNat b.overrun + 8 * bitNat b.irq

/-- The octet of a mailbox at an offset (R447). -/
def Mailbox.octet (b : Mailbox) (o : Nat) : Byte :=
  if o < 4 then 0
  else if o < 8 then (leBytes 4 b.status).getD (o - 4) 0
  else if o < 0xC then (leBytes 4 b.length).getD (o - 8) 0
  else if o < 0x10 then (leBytes 4 b.response.length).getD (o - 0xC) 0
  else if o < 0x100 then 0
  else if o < 0x1000 then b.request.getD (o - 0x100) 0
  else if o < 0x1F00 then b.response.getD (o - 0x1000) 0
  else 0

/-- A shadow ring as BAR0 shows it (R370). -/
def State.shadowOctets (s : State) (c : Fin 32) : Octets :=
  let sub := c.val + 1
  leBytes 8 (s.rd Ix.dlvShadowRingBase sub) ++ leBytes 4 (s.rd Ix.dlvShadowRingEntries sub) ++
    leBytes 4 (s.rd Ix.dlvShadowStartIndex sub) ++ leBytes 4 (s.rd Ix.dlvShadowArm sub)

/-- A channel's status as BAR0 shows it (R370). -/
def State.channelOctets (s : State) (c : Fin 32) : Octets :=
  leBytes 4 (s.consumer c) ++ leBytes 4 (s.rd Ix.dlvTraySequence (c.val + 1)) ++
    leBytes 4 ((((s.chan c).tray).map (fun t => t.bytes)).getD 0) ++
    leBytes 4 (s.rd Ix.dlvChannelStatus (c.val + 1) ||| s.chanLive c)

/-- A queue's status as BAR0 shows it (R370). -/
def State.queueOctets (s : State) (q : Fin 3) : Octets :=
  leBytes 4 (s.depth q) ++ leBytes 4 s.queues[q].packets.length ++ leBytes 4 (s.rd Ix.dlvQueueFlags (q.val + 1))

/-- The octet at an offset of BAR0 (R369, R370); what its map leaves out, and the doorbell and the shadow ring of channel 31, read 0. -/
def State.bar0Octet (s : State) (o : Nat) : Byte :=
  match bar0Place o with
  | .mailbox m i => s.mailboxes[m].octet i
  | .doorbell c i => if c = 31 then 0 else (leBytes 4 (s.chan c).bell).getD i 0
  | .shadow c i => if c = 31 then 0 else (s.shadowOctets c).getD i 0
  | .channel c i => (s.channelOctets c).getD i 0
  | .queue q i => (s.queueOctets q).getD i 0
  | .live i => (leBytes 8 s.liveLp ++ leBytes 8 s.stamp).getD i 0
  | .reserved => 0

/-- A read that takes in a queue's flags clears those that it returned (R350, R370). -/
def State.queueFlagsShown (s : State) (first n : Nat) (q : Fin 3) : State :=
  let o := 0xC208 + 16 * q.val
  if first ≤ o ∧ o < first + n then
    let ix := Ix.dlvQueueFlags
    (rowOf ix (q.val + 1)).elim s (fun r => s.wr ix (q.val + 1) (r.rng.afterRead (s.rd ix (q.val + 1))))
  else s

/-- A read of BAR0 (R370): its octets, taken together. -/
def State.bar0Read (s : State) (first n : Nat) : State :=
  let t := s.emit (.hostRead 0 first ((List.range n).map (fun i => s.bar0Octet (first + i))))
  ((t.queueFlagsShown first n 0).queueFlagsShown first n 1).queueFlagsShown first n 2

/-- A read of BAR2 (R535): the counters, the freeze generation and the status; other offsets read 0. -/
def State.bar2Read (s : State) (first n : Nat) : State :=
  s.emit (.hostRead 2 first ((List.range n).map (fun i => s.counterWindow.getD (first + i) 0)))

/-! ### Writes -/

/-- Half of a 64-bit value replaced. -/
def lowHalf (old v : Nat) : Nat := old / 2 ^ 32 * 2 ^ 32 + v
def highHalf (old v : Nat) : Nat := old % 2 ^ 32 + v * 2 ^ 32

/-- A word of a shadow ring written (R367, R370). DESIGN CHOICE: a value that the object of the same name does not admit is ignored, since BAR0 has
no answer that could refuse it. -/
def State.shadowWord (s : State) (c : Fin 32) (i v : Nat) : State :=
  let sub := c.val + 1
  let put (ix w : Nat) : State := if (rowOf ix sub).any (fun r => valueOk r { num := w, octets := [] }) then s.wr ix sub w else s
  if c = 31 then s
  else if i = 0 then put Ix.dlvShadowRingBase (lowHalf (s.rd Ix.dlvShadowRingBase sub) v)
  else if i = 4 then put Ix.dlvShadowRingBase (highHalf (s.rd Ix.dlvShadowRingBase sub) v)
  else if i = 8 then put Ix.dlvShadowRingEntries v
  else if i = 12 then put Ix.dlvShadowStartIndex v
  else if i = 16 then put Ix.dlvShadowArm v
  else s

/-- A word of a mailbox written outside its frames (R447, R448): the doorbell posts the request that stands in the mailbox, or acknowledges. -/
def State.mailboxWord (s : State) (m : Fin 4) (i v : Nat) : State :=
  let b := s.mailboxes[m]
  if i = 0 then
    if v = 1 then s.mailboxPost m ((List.range (min b.length 3841)).map (fun k => b.request.getD k 0))
    else if v = 2 then s.mailboxAck m
    else s
  else if i = 4 then s.mailboxStatus m v
  else if i = 8 then { s with mailboxes := s.mailboxes.set m { b with length := v } }
  else s

/-- An octet of a mailbox's request area written (R447). -/
def Mailbox.putRequest (b : Mailbox) (k : Nat) (x : Byte) : Mailbox :=
  { b with request := b.request.take k ++ zeros (k - b.request.length) ++ [x] ++ b.request.drop (k + 1) }

/-- A 32-bit word of BAR0 outside the request areas written (R369, R370). -/
def State.bar0Word (s : State) (o v : Nat) : State :=
  match bar0Place o with
  | .mailbox m i => s.mailboxWord m i v
  | .doorbell c i => if i = 0 then s.doorbell c v else s
  | .shadow c i => s.shadowWord c i v
  | .channel _ _ => s
  | .queue _ _ => s
  | .live _ => s
  | .reserved => s

/-- One octet of a write to BAR0: it lands in a request area, or, as the last of an aligned word all of whose octets are written, it writes the
word. DESIGN CHOICE: a field of BAR0 takes a write only as a whole 32-bit word. -/
def State.bar0Put (s : State) (first : Nat) (data : Octets) (k : Nat) : State :=
  let o := first + k
  let word := if o % 4 = 3 ∧ 3 ≤ k then s.bar0Word (o - 3) (leAt data (k - 3) 4) else s
  match bar0Place o with
  | .mailbox m i =>
    if 0x100 ≤ i ∧ i < 0x1000 then
      { s with mailboxes := s.mailboxes.set m (s.mailboxes[m].putRequest (i - 0x100) (data.getD k 0)) }
    else word
  | .doorbell _ _ => word
  | .shadow _ _ => word
  | .channel _ _ => word
  | .queue _ _ => word
  | .live _ => word
  | .reserved => word

/-- A write of octets to BAR0 from an offset on (R370). -/
def State.bar0Write (s : State) (first : Nat) (data : Octets) : State :=
  (List.range data.length).foldl (fun (t : State) k => t.bar0Put first data k) s

/-- A write of octets to BAR2 from an offset on (R535): only user control, a word at 0x080, takes one. -/
def State.bar2Write (s : State) (first : Nat) (data : Octets) : State :=
  if first ≤ 0x80 ∧ 0x84 ≤ first + data.length then s.userControl (leAt data (0x80 - first) 4) else s

/-- What the host does in the memory space of BAR0 or BAR2 (R370, R535). -/
def State.barAccess (s : State) (place : BarPlace) (access : BarAccess) : State :=
  match place, access with
  | .doorbell c, .word v => s.doorbell c v.toNat
  | .doorbell c, .write data => s.bar0Write (0x8000 + 8 * c.val) data
  | .doorbell c, .read n => s.bar0Read (0x8000 + 8 * c.val) n.val
  | .bar0 o, .word v => s.bar0Write o.toNat (leBytes 4 v.toNat)
  | .bar0 o, .write data => s.bar0Write o.toNat data
  | .bar0 o, .read n => s.bar0Read o.toNat n.val
  | .bar2 o, .word v => s.bar2Write o.toNat (leBytes 4 v.toNat)
  | .bar2 o, .write data => s.bar2Write o.toNat data
  | .bar2 o, .read n => s.bar2Read o.toNat n.val

end Sys2Proof.Machine
end

