-- ==== Sys2Proof/Machine/ExecDelivery.lean ====
section
/-! DEFINITION. The meanings of the rows of the queues, DMA, PCI Express and the history ring. -/

namespace Sys2Proof.Machine

/-- `LOSS_RECORD` (R348): A Running SQ or XQ with 4 free words pushes its loss record. -/
def execLossRecord (q : Fin 3) (s : State) : Host.Outcome State Fault Refusal := .next (s.whileClocked (fun s => s.pushLoss q))

/-- `QUEUE_FLAGS_READ` (R350): A read of queue flags returns and clears HIGH_SEEN, LOW_SEEN, LOST and POISON. -/
def execQueueFlagsRead (r : Req) (q : Fin 3) (s : State) : Host.Outcome State Fault Refusal :=
  .next (s.readRequest r 0 Ix.dlvQueueFlags (q.val + 1))

/-- `DOORBELL` (R358, R369, R370): A producer index write posts descriptors to a DMA channel; it is one access to the memory space of BAR0, and
the row stands for the others too. -/
def execDoorbell (place : BarPlace) (access : BarAccess) (s : State) : Host.Outcome State Fault Refusal :=
  .next (s.overLink (fun s => s.barAccess place access))

/-- `DESCRIPTOR_FETCH` (R358): A descriptor read from the host ring completes and is checked. -/
def execDescriptorFetch (c : Fin 32) (desc : Vector Byte 32) (ok : Bool) (s : State) : Host.Outcome State Fault Refusal :=
  .next (s.whileClocked (fun s => s.fetched c desc.toList ok))

/-- `FETCH_RETRY` (R360): The 10 µs back-off expires and a failed host read is retried once. -/
def execFetchRetry (c : Fin 32) (data : Octets) (ok : Bool) (s : State) : Host.Outcome State Fault Refusal :=
  if s.retryFits c data ok then .next (s.whileClocked (fun s => s.retryRead c data ok)) else .fault (.impossibleOperand "FETCH_RETRY")

/-- `DMA_PACKET` (R361): A stream channel pops a whole packet and writes it into its open Tray, opening one if needed. -/
def execDmaPacket (c : Fin 32) (s : State) : Host.Outcome State Fault Refusal := .next (s.whileClocked (fun s => s.dmaPacket c))

/-- `CLOSE_TIMEOUT` (R361): The close timeout runs out and the open Tray closes with reason TIMEOUT. -/
def execCloseTimeout (c : Fin 32) (s : State) : Host.Outcome State Fault Refusal := .next (s.whileClocked (fun s => s.closeTimesOut c))

/-- `DESCRIPTOR_COMPLETE` (R363): A descriptor's last write leaves the engine and it completes, raising its vector. -/
def execDescriptorComplete (c : Fin 32) (data : Octets) (ok : Bool) (s : State) : Host.Outcome State Fault Refusal :=
  if s.copyFits c data ok then .next (s.whileClocked (fun s => s.completeDescriptor c data ok)) else .fault (.impossibleOperand "DESCRIPTOR_COMPLETE")

/-- `FENCE_READ` (R363): The FENCE read-back returns and the descriptor's status may be written. -/
def execFenceRead (c : Fin 32) (ok : Bool) (s : State) : Host.Outcome State Fault Refusal :=
  .next (s.whileClocked (fun s => s.fenceRead c ok))

/-- `PAUSE` (R365): Channel command PAUSE stops fetches and pops after writing held data. -/
def execPause (r : Req) (c : Fin 32) (s : State) : Host.Outcome State Fault Refusal :=
  .next (s.writeNumber r Ix.dlvChannelCommand (c.val + 1) 1 1)

/-- `CHANNEL_RESUME` (R365): Channel command RESUME continues a paused channel with the same Tray. -/
def execChannelResume (r : Req) (c : Fin 32) (s : State) : Host.Outcome State Fault Refusal :=
  .next (s.writeNumber r Ix.dlvChannelCommand (c.val + 1) 1 2)

/-- `FLUSH` (R365): Channel command FLUSH closes the open Tray with reason FLUSH. -/
def execFlush (r : Req) (c : Fin 32) (s : State) : Host.Outcome State Fault Refusal :=
  .next (s.writeNumber r Ix.dlvChannelCommand (c.val + 1) 1 3)

/-- `WRITE_FAIL` (R366): A write reported failed by PCIE marks the descriptor BAD and its records lost. -/
def execWriteFail (c : Fin 32) (s : State) : Host.Outcome State Fault Refusal := .next (s.whileClocked (fun s => s.writeFails c))

/-- `COMPLETION_TIMEOUT` (R360): The PCI Express completion timeout of a DMA host read (a descriptor fetch, copy source, master load or
FENCE read-back) expires, and the read counts as failed and is retried or made lasting. -/
def execCompletionTimeout (c : Fin 32) (kind : HostRead) (s : State) : Host.Outcome State Fault Refusal :=
  .next (s.whileClocked (fun s => s.readTimesOut c kind))

/-- `SHADOW_ARM` (R367): A write of Shadow arm arms or disarms the ring hand-over. -/
def execShadowArm (r : Req) (c : Fin 32) (value : BitVec 8) (inHandOver : Bool) (s : State) : Host.Outcome State Fault Refusal :=
  .next (s.shadowWrite r c value.toNat inHandOver)

/-- `CROP_CUT` (R354): Once the ring holds a crop's last line HRB cuts it and sends it for compression. -/
def execCropCut (s : State) : Host.Outcome State Fault Refusal := .next (s.whileClocked (fun s => s.cutCrop))

/-- `CROP_BLOCK_ENCODED` (R354): CDE finishes encoding one block of a crop. -/
def execCropBlockEncoded (s : State) : Host.Outcome State Fault Refusal := .next (s.whileClocked (fun s => s.takeEncoded))

/-- `CROP_DELIVER` (R355): After its Crumb has left, a crop goes to its DMA channel. -/
def execCropDeliver (s : State) : Host.Outcome State Fault Refusal := .next (s.whileClocked (fun s => s.deliverCrop))

/-- `FUNCTION_LEVEL_RESET` (R374): An FLR ends every DMA channel as ABORT and clears doorbells and shadow rings. -/
def execFunctionLevelReset (s : State) : Host.Outcome State Fault Refusal := .next (s.whileOn (fun s => s.functionReset))

/-- `PCIE_LINK_DOWN` (R374): Loss of the PCIe link faults PCIE and pauses the DMA channels. -/
def execPcieLinkDown (s : State) : Host.Outcome State Fault Refusal := .next (s.whileOn (fun s => s.pcieDown))

/-- `PCIE_LINK_UP` (R368): The PCI Express link trains up again after a link-down, and Link speed and Link width are written. -/
def execPcieLinkUp (link : PcieLink) (setup : HostSetup) (s : State) : Host.Outcome State Fault Refusal :=
  .next (s.whileOn (fun s => s.linkUp link.speed.toNat link.width.toNat setup))

/-- `BUS_MASTER_DISABLE` (R374): Clearing Bus Master Enable makes the channels act as paused. -/
def execBusMasterDisable (s : State) : Host.Outcome State Fault Refusal := .next (s.overLink (fun s => s.setBusMaster false))

/-- `BUS_MASTER_ENABLE` (R374): The host sets Bus Master Enable again, and the DMA channels that acted as paused resume. -/
def execBusMasterEnable (s : State) : Host.Outcome State Fault Refusal := .next (s.overLink (fun s => s.setBusMaster true))

/-- `AER_ERROR` (R371): The PCI Express endpoint detects an AER correctable or uncorrectable error, which increments its counter and
raises MSI-X vector 36. -/
def execAerError (correctable : Bool) (s : State) : Host.Outcome State Fault Refusal :=
  .next (s.overLink (fun s => s.aerError correctable))

/-- `BAR4_READ` (R372): A BAR4 read returns DRAM data, or all ones, setting WINDOW_POISON on poison. -/
def execBar4Read (offset : BitVec 28) (length : Fin 4097) (s : State) : Host.Outcome State Fault Refusal :=
  .next (s.overLink (fun s => s.windowRead offset.toNat length.val))

/-- `BAR4_WRITE` (R372): A BAR4 write reaches DRAM only with the window enabled in SERVICE. -/
def execBar4Write (offset : BitVec 28) (data : Octets) (s : State) : Host.Outcome State Fault Refusal :=
  .next (s.overLink (fun s => s.bar4Write offset.toNat data))

end Sys2Proof.Machine
end

