-- ==== Sys2Proof/Machine/ExecDetect.lean ====
section
/-! DEFINITION. The meanings of the rows of the segment engines, the classifier and the profile filter chain. -/

namespace Sys2Proof.Machine

/-- `BLOB_RECORD_ENQUEUE` (R270): A closed blob's record enters the FIFO to CLS when room exists and its context frees. -/
def execBlobRecordEnqueue (s : State) : Host.Outcome State Fault Refusal := .next (s.whileClocked (fun s => s.enqueueRecord))

/-- `IDLE_CLOSE` (R273): No line for the idle close timeout; open blobs close with STANDSTILL. -/
def execIdleClose (s : State) : Host.Outcome State Fault Refusal := .next (s.whileClocked (fun s => s.idleClose))

/-- `PARTIAL_WAIT` (R277): An announced PARTIAL has not arrived within the partial wait; the owner reports SPLIT. -/
def execPartialWait (s : State) : Host.Outcome State Fault Refusal := .next (s.whileClocked (fun s => s.partialsLate))

/-- `SEG_SPARE_TARGET` (R283): A write of a SEG spare's target names a logical segment to load and shadow. -/
def execSegSpareTarget (r : Req) (i : Fin 4) (value : BitVec 8) (s : State) : Host.Outcome State Fault Refusal :=
  .next (s.writeNumber r Ix.segSpareTarget (i.val + 1) 1 value.toNat)

/-- `SEG_SPARE_LOADED` (R283): A spare engine finishes loading its segment's column range. -/
def execSegSpareLoaded (i : Fin 4) (s : State) : Host.Outcome State Fault Refusal :=
  .next (s.whileClocked (fun s => (s.segSpareLoaded i).bstStep))

/-- `SEG_SPARE_TAKE_OVER` (R283): Spare command TAKE_OVER for a spare engine. -/
def execSegSpareTakeOver (r : Req) (i : Fin 4) (s : State) : Host.Outcome State Fault Refusal :=
  .next (s.writeNumber r Ix.segSpareCommand (i.val + 1) 1 1)

/-- `SEG_SPARE_HAND_BACK` (R283): Spare command HAND_BACK for a spare engine. -/
def execSegSpareHandBack (r : Req) (i : Fin 4) (s : State) : Host.Outcome State Fault Refusal :=
  .next (s.writeNumber r Ix.segSpareCommand (i.val + 1) 1 2)

/-- `SEG_SPARE_RELEASE` (R283): Spare command RELEASE returns a spare engine to idle. -/
def execSegSpareRelease (r : Req) (i : Fin 4) (s : State) : Host.Outcome State Fault Refusal :=
  .next (s.writeNumber r Ix.segSpareCommand (i.val + 1) 1 3)

/-- `ENGINE_CLEAR` (R285): Engine command CLEAR returns a faulted engine to idle. -/
def execEngineClear (r : Req) (e : Fin 36) (s : State) : Host.Outcome State Fault Refusal :=
  .next (s.writeNumber r Ix.segEngineCommand (e.val + 1) 1 1)

/-- `CLS_INPUT` (R296): CLS takes one input and classifies it, requesting ledger, crop, mark and alert actions. -/
def execClsInput (s : State) : Host.Outcome State Fault Refusal := .next (s.whileClocked (fun s => s.clsInput.settle))

/-- `LEDGER_LOOKUP` (R305): A ledger bucket read completes and the entry is updated and written back. -/
def execLedgerLookup (s : State) : Host.Outcome State Fault Refusal := .next (s.whileClocked (fun s => s.lookUp.settle))

/-- `CRUMB_PUSH` (R302): CLS pushes a Crumb to CQ once there is room for the whole packet. -/
def execCrumbPush (s : State) : Host.Outcome State Fault Refusal := .next (s.whileClocked (fun s => s.pushCrumb))

/-- `LEDGER_CLEAR` (R310): Ledger command CLEAR starts a sweep writing every bucket empty. -/
def execLedgerClear (r : Req) (value : BitVec 8) (s : State) : Host.Outcome State Fault Refusal :=
  .next (s.writeNumber r Ix.clsLedgerCommand 0 1 value.toNat)

/-- `LEDGER_SWEEP_STEP` (R310): Every 64 cycles the sweep writes one bucket empty and ends after the last. -/
def execLedgerSweepStep (s : State) : Host.Outcome State Fault Refusal := .next (s.whileClocked (fun s => s.sweepStep))

/-- `PFC_OUTPUT` (R321): PFC forms a decimated profile output for every bin and runs baseline, thresholds and streaks. -/
def execPfcOutput (s : State) : Host.Outcome State Fault Refusal := .next (s.whileClocked (fun s => s.pfcOutput.pfcDrain))

/-- `STREAK_EVENT_ENQUEUE` (R332): An ended streak's event enters the FIFO to CLS when room exists. -/
def execStreakEventEnqueue (s : State) : Host.Outcome State Fault Refusal := .next (s.whileClocked (fun s => s.streakEnqueue))

/-- `SWAP_REQUEST` (R337): Swap request 1 asks for a bank swap, waiting if a fade runs. -/
def execSwapRequest (r : Req) (s : State) : Host.Outcome State Fault Refusal := .next (s.writeNumber r Ix.pfcSwapRequest 0 1 1)

/-- `SWAP_CANCEL` (R338): Swap request 2 cancels a waiting swap request. -/
def execSwapCancel (r : Req) (s : State) : Host.Outcome State Fault Refusal := .next (s.writeNumber r Ix.pfcSwapRequest 0 1 2)

/-- `BANK_WRITE` (R336): A write into the stopped coefficient bank makes it unsettled. -/
def execBankWrite (r : Req) (object : BankObject) (bank : Fin 2) (value : Octets) (s : State) : Host.Outcome State Fault Refusal :=
  .next (s.bankRowWrite r object bank value)

end Sys2Proof.Machine
end

