-- ==== Sys2Proof/Machine/ExecEvents.lean ====
section
/-! DEFINITION. The meanings of the rows of the event fabric. -/

namespace Sys2Proof.Machine

/-- `FIRE` (R411): A write of 1 to a channel's Fire fires the channel with the live LP. -/
def execFire (r : Req) (c : Fin 256) (s : State) : Host.Outcome State Fault Refusal := .next (s.channelWrite r c Ix.evfSubFire 1)

/-- `TASK_BUSY_END` (R409): A task's busy time runs out and it can take activations again. -/
def execTaskBusyEnd (task : Fin 73) (s : State) : Host.Outcome State Fault Refusal :=
  .next (s.whileClocked (fun s => s.taskBusyEnds task.val))

/-- `CROSSING_EXIT` (R407): An event from another domain leaves its crossing slot and reaches EVF. -/
def execCrossingExit (code : BitVec 16) (s : State) : Host.Outcome State Fault Refusal :=
  .next (s.whileClocked (fun s => s.crossingExit code.toNat))

/-- `VECTOR_HOLDOFF` (R412): At the end of a µs a held channel vector sends its MSI-X message. -/
def execVectorHoldoff (vector : Fin 128) (s : State) : Host.Outcome State Fault Refusal :=
  .next (s.whileClocked (fun s => s.vectorHoldoff vector.val))

/-- `CLAIM_OPEN` (R414): Claim 1 claims an unowned channel as Open. -/
def execClaimOpen (r : Req) (c : Fin 256) (s : State) : Host.Outcome State Fault Refusal := .next (s.channelWrite r c Ix.evfSubClaim 1)

/-- `CLAIM_SECURE` (R414): Claim 2 claims an unowned channel as Secure. -/
def execClaimSecure (r : Req) (c : Fin 256) (s : State) : Host.Outcome State Fault Refusal := .next (s.channelWrite r c Ix.evfSubClaim 2)

/-- `CLAIM_RELEASE` (R414): Claim 3 releases and disables the owner's channel. -/
def execClaimRelease (r : Req) (c : Fin 256) (s : State) : Host.Outcome State Fault Refusal := .next (s.channelWrite r c Ix.evfSubClaim 3)

/-- `CHANNEL_ENABLE` (R416): A write of Enable checks for loops and enables or disables the channel. -/
def execChannelEnable (r : Req) (c : Fin 256) (value : BitVec 8) (s : State) : Host.Outcome State Fault Refusal :=
  .next (s.channelWrite r c Ix.evfSubEnable value.toNat)

end Sys2Proof.Machine
end

