-- ==== Sys2Proof/Machine/ExecFunction.lean ====
section
/-! DEFINITION. The meanings of the rows of the function state machine and the general forms. -/

namespace Sys2Proof.Machine

/-- `ARM` (R22): Function control ARM checks the settings and dependencies and moves a Stopped function to Armed, locking its RWS objects.
-/
def execArm (r : Req) (f : FnAim) (trains : Bool) (s : State) : Host.Outcome State Fault Refusal :=
  .next (s.functionControl r f.fn 1 trains f.met)

/-- `START` (R22): Function control START sets START_PENDING on an Armed function, which then waits for its start point. -/
def execStart (r : Req) (f : FnAim) (s : State) : Host.Outcome State Fault Refusal := .next (s.functionControl r f.fn 2 true f.met)

/-- `STOP` (R22): Function control STOP moves a Running function to Draining, or cancels a pending START in Armed. -/
def execStop (r : Req) (f : FnAim) (s : State) : Host.Outcome State Fault Refusal := .next (s.functionControl r f.fn 3 true f.met)

/-- `ABORT` (R22): Function control ABORT moves a Running function to Draining as if the drain timeout had expired, or truncates a drain
in progress. -/
def execAbort (r : Req) (f : FnAim) (s : State) : Host.Outcome State Fault Refusal := .next (s.functionControl r f.fn 4 true f.met)

/-- `DISARM` (R22): Function control DISARM returns an Armed function to Stopped and unlocks its RWS objects. -/
def execDisarm (r : Req) (f : FnAim) (s : State) : Host.Outcome State Fault Refusal := .next (s.functionControl r f.fn 5 true f.met)

/-- `CLEAR` (R22): Function control CLEAR returns a Faulted function to Stopped. -/
def execClear (r : Req) (f : FnAim) (s : State) : Host.Outcome State Fault Refusal := .next (s.functionControl r f.fn 6 true f.met)

/-- `DRAIN_COMPLETE` (R22): A Draining function completes its remaining work and enters Stopped. -/
def execDrainComplete (f : Fn) (s : State) : Host.Outcome State Fault Refusal := .next (s.whileOn (fun s => (s.drainComplete f).settle))

/-- `DRAIN_TIMEOUT` (R24): The drain timeout expires in TBU time; the remaining work is truncated and DRAIN_TIMEOUT sets. -/
def execDrainTimeout (f : Fn) (s : State) : Host.Outcome State Fault Refusal := .next (s.whileOn (fun s => (s.drainTimesOut f).settle))

/-- `START_POINT_REACHED` (R23): An Armed function with START pending reaches its start point and enters Running. -/
def execStartPointReached (f : Fn) (line : Nat) (s : State) : Host.Outcome State Fault Refusal :=
  .next (s.whileOn (fun s => (s.startPoint f line).settle))

/-- `WRITE` (R427): VDP or mailbox WRITE of an object without a row of its own, taking effect per its access class. -/
def execWrite (r : Req) (ix : BitVec 16) (sub : BitVec 8) (value : Octets) (s : State) : Host.Outcome State Fault Refusal :=
  .next (s.writeFree r ix.toNat sub.toNat value)

/-- `UNCORRECTABLE_ERROR` (R504): An uncorrectable ECC or parity error is detected in a block's RAM and escalated as a unit or function
fault. -/
def execUncorrectableError (part : EccPart) (address : BitVec 32) (s : State) : Host.Outcome State Fault Refusal :=
  .next (s.whileOn (fun s => (s.uncorrectable part address.toNat).settle))

/-- `CORRECTED_ERROR` (R504): A single-bit error is corrected; the block's corrected count increments and ECC_CORRECTED sets. -/
def execCorrectedError (part : EccPart) (s : State) : Host.Outcome State Fault Refusal := .next (s.whileOn (fun s => s.corrected part))

end Sys2Proof.Machine
end

