-- ==== Sys2Proof/Machine/ExecMaster.lean ====
section
/-! DEFINITION. The meanings of the rows of the master raster engine and the compression engine. -/

namespace Sys2Proof.Machine

/-- `PAGE_SUBMIT` (R196): Page submit queues one master page or is refused. -/
def execPageSubmit (r : Req) (value : Octets) (s : State) : Host.Outcome State Fault Refusal :=
  .next (s.writeFree r Ix.mrePageSubmit 0 value)

/-- `MASTER_LOAD_START` (R197): A queued page that fits in the master region starts loading over DMA channel 31. -/
def execMasterLoadStart (s : State) : Host.Outcome State Fault Refusal := .next (s.whileClocked (fun s => s.startLoad))

/-- `MASTER_LOAD_COMPLETE` (R197): A page load completes and its header is checked; the page becomes ready or failed. -/
def execMasterLoadComplete (image : Octets) (dmaError : Bool) (s : State) : Host.Outcome State Fault Refusal :=
  if s.imageFits image dmaError then .next (s.whileClocked (fun s => s.endLoad image dmaError)) else .fault (.impossibleOperand "MASTER_LOAD_COMPLETE")

/-- `LOAD_TIMEOUT` (R197): A load not complete within the load timeout of its transfer start fails. -/
def execLoadTimeout (s : State) : Host.Outcome State Fault Refusal := .next (s.whileClocked (fun s => s.loadTimesOut))

/-- `QUEUE_FLUSH` (R199): Queue command FLUSH discards every page that is not bound. -/
def execQueueFlush (r : Req) (s : State) : Host.Outcome State Fault Refusal := .next (s.writeNumber r Ix.mreQueueCommand 0 1 1)

/-- `MAP_RESET` (R199): Queue command MAP_RESET clears the page map at the next page start. -/
def execMapReset (r : Req) (s : State) : Host.Outcome State Fault Refusal := .next (s.writeNumber r Ix.mreQueueCommand 0 1 2)

/-- `RELOCK` (R199): Queue command RELOCK returns the binder to acquiring. -/
def execRelock (r : Req) (s : State) : Host.Outcome State Fault Refusal := .next (s.writeNumber r Ix.mreQueueCommand 0 1 3)

/-- `RENUMBER` (R199): Queue command RENUMBER clears the last submitted and bound page numbers. -/
def execRenumber (r : Req) (s : State) : Host.Outcome State Fault Refusal := .next (s.writeNumber r Ix.mreQueueCommand 0 1 4)

/-- `PAGE_MARK` (R203): MRE classifies a mark record as REPEAT, ACCEPT or EXTRA. -/
def execPageMark (s : State) : Host.Outcome State Fault Refusal := .next (s.whileClocked (fun s => s.nextMark))

/-- `MARK_EXPIRY` (R204): A stitched line passes the mark window with no accepted mark. -/
def execMarkExpiry (s : State) : Host.Outcome State Fault Refusal := .next (s.whileClocked (fun s => s.expire))

/-- `JOB_SUBMIT` (R245): Job submit queues one host CDE job or is refused. -/
def execJobSubmit (r : Req) (value : Octets) (s : State) : Host.Outcome State Fault Refusal :=
  .next (s.writeFree r Ix.cdeJobSubmit 0 value)

/-- `LANE_DISPATCH` (R244): A free CDE lane takes the next MRE tile, crop block or host job block or slice. -/
def execLaneDispatch (lane : Fin 20) (s : State) : Host.Outcome State Fault Refusal :=
  .next (s.whileClocked (fun s => s.dispatchLane lane))

/-- `BLOCK_COMPLETE` (R243): A CDE lane finishes a block or slice and releases its data. -/
def execBlockComplete (lane : Fin 20) (s : State) : Host.Outcome State Fault Refusal :=
  .next (s.whileClocked (fun s => s.finishLane lane))

/-- `JOB_CANCEL` (R254): Job cancel ends every queued host job with that tag with status 5. -/
def execJobCancel (r : Req) (tag : BitVec 32) (s : State) : Host.Outcome State Fault Refusal :=
  .next (s.writeNumber r Ix.cdeJobCancel 0 4 tag.toNat)

end Sys2Proof.Machine
end

