-- ==== Sys2Proof/Machine/ExecMemory.lean ====
section
/-! DEFINITION. The meanings of the rows of the memory controller. -/

namespace Sys2Proof.Machine

/-- `DRAM_ACCESS` (R389): A DRAM channel accepts and performs a read or write by priority. -/
def execDramAccess (arrivals : List DramRequest) (n : Fin 8) (health : DramHealth) (s : State) : Host.Outcome State Fault Refusal :=
  if arrivals.all requestOk then .next (s.whileClocked (fun s => (s.acceptDram arrivals).serveDram n health)) else .fault (.impossibleOperand "DRAM_ACCESS")

/-- `REQUEST_AGING` (R389): A request waiting 4 µs is raised to priority 2. -/
def execRequestAging (k : Nat) (s : State) : Host.Outcome State Fault Refusal := .next (s.whileClocked (fun s => s.ageDram k))

/-- `DRAM_READ_RETRY` (R392): After 1 µs an uncorrectable read is retried; success is transient, failure lasting. -/
def execDramReadRetry (n : Fin 8) (health : DramHealth) (s : State) : Host.Outcome State Fault Refusal :=
  .next (s.whileClocked (fun s => s.retryDram n health))

/-- `RDIMM_ALERT` (R392): The RDIMM signals ALERT_n and the command is retried. -/
def execRdimmAlert (n : Fin 8) (request : DramRequest) (health : DramHealth) (s : State) : Host.Outcome State Fault Refusal :=
  if requestOk request then .next (s.whileClocked (fun s => s.alertDram n request health)) else .fault (.impossibleOperand "RDIMM_ALERT")

/-- `SCRUB_PASS` (R391): The scrub interval expires and a new scrub pass begins. -/
def execScrubPass (corrected : List (Nat × Nat)) (recovered failed : List Nat) (s : State) : Host.Outcome State Fault Refusal :=
  .next (s.whileClocked (fun s => s.scrubPass corrected recovered failed))

/-- `REFRESH` (R395): The refresh interval expires and a refresh command is issued. -/
def execRefresh (n : Fin 8) (s : State) : Host.Outcome State Fault Refusal := .next (s.whileClocked (fun s => s.refreshDram n))

/-- `TEMPERATURE_POLL` (R395): DMC reads MR4 and sets the refresh band. -/
def execTemperaturePoll (n : Fin 8) (band : Fin 3) (s : State) : Host.Outcome State Fault Refusal :=
  .next (s.whileClocked (fun s => s.pollBand n band.val))

/-- `EYE_TRACKING` (R396): The tracking interval expires and lane eye edges are measured and stepped. -/
def execEyeTracking (n : Fin 8) (margin : BitVec 16) (moves : List (Fin 160 × Bool)) (s : State) : Host.Outcome State Fault Refusal :=
  .next (s.whileClocked (fun s => s.trackEyes n margin.toNat (moves.map (fun v => (v.1.val, v.2)))))

/-- `RETRAIN_COMPLETE` (R397): A retraining attempt ends, putting a setting in force or failing. -/
def execRetrainComplete (n : Fin 8) (setting : Option (Vector Byte 160)) (s : State) : Host.Outcome State Fault Refusal :=
  .next (s.whileClocked (fun s => s.retrained n (setting.map (fun v => v.toList))))

/-- `RETRAIN_RETRY` (R397): The 10 ms back-off expires and the retraining is retried once. -/
def execRetrainRetry (n : Fin 8) (s : State) : Host.Outcome State Fault Refusal := .next (s.whileClocked (fun s => s.retrainAgain n))

/-- `ERROR_INJECTION` (R405): Error injection arms an error for the next read of a unit. -/
def execErrorInjection (r : Req) (value : Octets) (s : State) : Host.Outcome State Fault Refusal :=
  .next (s.writeFree r Ix.dmcErrorInjection 0 value)

end Sys2Proof.Machine
end

