-- ==== Sys2Proof/Machine/ExecMonitor.lean ====
section
/-! DEFINITION. The meanings of the rows of the event recorder and the performance counters. -/

namespace Sys2Proof.Machine

/-- `RECORDER_SAMPLE` (R525): MON takes a source sample and every recorder of it accumulates the value. -/
def execRecorderSample (code : BitVec 16) (instanceNo : BitVec 16) (s : State) : Host.Outcome State Fault Refusal :=
  .next (s.whileClocked (fun s => s.recorderSample code.toNat instanceNo.toNat))

/-- `SNAPSHOT_COMMAND` (R527): Snapshot command starts a snapshot, or is refused while one runs. -/
def execSnapshotCommand (r : Req) (s : State) : Host.Outcome State Fault Refusal := .next (s.writeNumber r Ix.monSnapshotCommand 0 1 1)

/-- `SNAPSHOT_INTERVAL` (R527): The snapshot interval expires and a periodic snapshot starts or is skipped. -/
def execSnapshotInterval (s : State) : Host.Outcome State Fault Refusal := .next (s.whileClocked (fun s => s.snapshotInterval))

/-- `SNAPSHOT_COMPLETE` (R527): The snapshot copy into the readout bank completes. -/
def execSnapshotComplete (s : State) : Host.Outcome State Fault Refusal := .next (s.whileClocked (fun s => s.snapshotComplete))

/-- `WINDOW_READ` (R531): A read of Window returns the recorder at the session cursor and advances it. -/
def execWindowRead (r : Req) (s : State) : Host.Outcome State Fault Refusal := .next (s.readRequest r 0 Ix.monWindow 0)

/-- `RECORDER_ENABLE` (R526): Enabling a recorder clears its live accumulators. -/
def execRecorderEnable (r : Req) (recorder : Fin 128) (value : BitVec 8) (s : State) : Host.Outcome State Fault Refusal :=
  .next (s.writeNumber r Ix.monEnable (recorder.val + 1) 1 value.toNat)

/-- `FREEZE_COMMAND` (R534): Freeze command 1 freezes all counters. -/
def execFreezeCommand (r : Req) (s : State) : Host.Outcome State Fault Refusal := .next (s.writeNumber r Ix.pmcFreezeCommand 0 1 1)

/-- `FREEZE_RELEASE` (R534): Freeze command 2 releases the counters. -/
def execFreezeRelease (r : Req) (s : State) : Host.Outcome State Fault Refusal := .next (s.writeNumber r Ix.pmcFreezeCommand 0 1 2)

/-- `USER_FREEZE` (R535): BAR2 user control 1 freezes the counters. -/
def execUserFreeze (s : State) : Host.Outcome State Fault Refusal := .next (s.overLink (fun s => s.userControl 1))

/-- `USER_RELEASE` (R535): BAR2 user control 2 releases the counters. -/
def execUserRelease (s : State) : Host.Outcome State Fault Refusal := .next (s.overLink (fun s => s.userControl 2))

/-- `USER_CLEAR` (R535): BAR2 user control 3 clears all nine counters. -/
def execUserClear (s : State) : Host.Outcome State Fault Refusal := .next (s.overLink (fun s => s.userControl 3))

/-- `COUNTER_CLEAR` (R533): A write of Clear zeroes the masked counters. -/
def execCounterClear (r : Req) (mask : BitVec 16) (s : State) : Host.Outcome State Fault Refusal :=
  .next (s.writeNumber r Ix.pmcClear 0 2 mask.toNat)

end Sys2Proof.Machine
end

