-- ==== Sys2Proof/Machine/ExecNetwork.lean ====
section
/-! DEFINITION. The meanings of the rows of the field ports and network time. -/

namespace Sys2Proof.Machine

/-- `FNP_LINK_UP` (R457): A field port reaches block lock or synchronisation and its link is up. -/
def execFnpLinkUp (n : Fin 2) (negotiated : Bool) (s : State) : Host.Outcome State Fault Refusal :=
  .next (s.whileClocked (fun s => s.fnpLinkUp n negotiated))

/-- `FNP_LINK_LOSS` (R457): Lock absent for 10 ms; the port link is lost and bring-up restarts. -/
def execFnpLinkLoss (n : Fin 2) (s : State) : Host.Outcome State Fault Refusal := .next (s.whileClocked (fun s => s.fnpLinkLoss n))

/-- `MODE_ALTERNATION` (R455): In automatic mode the port tries the other rate after 500 ms. -/
def execModeAlternation (n : Fin 2) (s : State) : Host.Outcome State Fault Refusal := .next (s.whileClocked (fun s => s.modeAlternates n))

/-- `ARP` (R456): A received ARP frame is answered. -/
def execArp (n : Fin 2) (mac : BitVec 48) (ip target : BitVec 32) (s : State) : Host.Outcome State Fault Refusal :=
  .next (s.whileClocked (fun s => s.arp n mac ip target))

/-- `ICMP_ECHO` (R456): A received ICMP echo is answered. -/
def execIcmpEcho (n : Fin 2) (ip target : BitVec 32) (data : Octets) (s : State) : Host.Outcome State Fault Refusal :=
  .next (s.whileClocked (fun s => s.icmpEcho n ip target data))

/-- `FNP_FRAME_DISCARD` (R456): A frame the port does not take is counted and discarded. -/
def execFnpFrameDiscard (n : Fin 2) (badFcs : Bool) (s : State) : Host.Outcome State Fault Refusal :=
  .next (s.whileClocked (fun s => s.frameDiscard n badFcs))

/-- `PTP_SYNC` (R465): A received Sync is stamped and starts an exchange. -/
def execPtpSync (dt : Nat) (n : Fin 2) (quarter : Fin 4) (m : PtpMessage) (s : State) : Host.Outcome State Fault Refusal :=
  .next (s.whileClocked (fun s => (s.advance dt).ptpSync n quarter m))

/-- `PTP_FOLLOW_UP` (R463): A received Follow_Up completes a two-step Sync. -/
def execPtpFollowUp (dt : Nat) (n : Fin 2) (m : PtpMessage) (s : State) : Host.Outcome State Fault Refusal :=
  .next (s.whileClocked (fun s => (s.advance dt).ptpFollowUp n m))

/-- `PTP_DELAY_REQ` (R465): A received Delay_Req is stamped and answered as master. -/
def execPtpDelayReq (dt : Nat) (n : Fin 2) (quarter : Fin 4) (m : PtpMessage) (s : State) : Host.Outcome State Fault Refusal :=
  .next (s.whileClocked (fun s => (s.advance dt).ptpDelayReq n quarter m))

/-- `PTP_DELAY_RESP` (R464): A received Delay_Resp completes an E2E exchange. -/
def execPtpDelayResp (dt : Nat) (n : Fin 2) (m : PtpMessage) (s : State) : Host.Outcome State Fault Refusal :=
  .next (s.whileClocked (fun s => (s.advance dt).ptpDelayResp n m))

/-- `PTP_PDELAY_REQ` (R465): A received Pdelay_Req is stamped and answered. -/
def execPtpPdelayReq (dt : Nat) (n : Fin 2) (quarter : Fin 4) (m : PtpMessage) (taken : Bool) (s : State) : Host.Outcome State Fault
    Refusal :=
  .next (s.whileClocked (fun s => (s.advance dt).ptpPdelayReq n quarter m taken))

/-- `PTP_PDELAY_RESP` (R465): A received Pdelay_Resp is stamped for the peer delay. -/
def execPtpPdelayResp (dt : Nat) (n : Fin 2) (quarter : Fin 4) (m : PtpMessage) (s : State) : Host.Outcome State Fault Refusal :=
  .next (s.whileClocked (fun s => (s.advance dt).ptpPdelayResp n quarter m))

/-- `PTP_PDELAY_RESP_FOLLOW_UP` (R463): A received Pdelay_Resp_Follow_Up completes a peer delay exchange. -/
def execPtpPdelayRespFollowUp (dt : Nat) (n : Fin 2) (m : PtpMessage) (s : State) : Host.Outcome State Fault Refusal :=
  .next (s.whileClocked (fun s => (s.advance dt).ptpPdelayFollowUp n m))

/-- `PTP_ANNOUNCE` (R463): A received Announce feeds the best master clock algorithm. -/
def execPtpAnnounce (dt : Nat) (n : Fin 2) (m : PtpMessage) (s : State) : Host.Outcome State Fault Refusal :=
  .next (s.whileClocked (fun s => (s.advance dt).ptpAnnounce n m))

/-- `SYNC_INTERVAL` (R463): As master the port sends a Sync at each sync interval. -/
def execSyncInterval (dt : Nat) (n : Fin 2) (quarter : Fin 4) (taken : Bool) (s : State) : Host.Outcome State Fault Refusal :=
  .next (s.whileClocked (fun s => (s.advance dt).syncInterval n quarter taken))

/-- `ANNOUNCE_INTERVAL` (R463): As master the port sends an Announce at each announce interval. -/
def execAnnounceInterval (dt : Nat) (n : Fin 2) (s : State) : Host.Outcome State Fault Refusal :=
  .next (s.whileClocked (fun s => (s.advance dt).announceInterval n))

/-- `DELAY_REQ_INTERVAL` (R463): The port sends a Delay_Req or Pdelay_Req at its interval. -/
def execDelayReqInterval (dt : Nat) (n : Fin 2) (quarter : Fin 4) (taken : Bool) (s : State) : Host.Outcome State Fault Refusal :=
  .next (s.whileClocked (fun s => (s.advance dt).delayInterval n quarter taken))

/-- `TXTS_TIMEOUT` (R467): A stamp not taken within 10 ms is removed and TXTS_MISS sets. -/
def execTxtsTimeout (n : Fin 2) (s : State) : Host.Outcome State Fault Refusal := .next (s.whileClocked (fun s => s.stampTimesOut n))

/-- `ANNOUNCE_TIMEOUT` (R464): Announce receipt timeout; BMCA runs again. -/
def execAnnounceTimeout (n : Fin 2) (s : State) : Host.Outcome State Fault Refusal :=
  .next (s.whileClocked (fun s => s.announceTimesOut n))

/-- `SYNC_RECEIPT_TIMEOUT` (R462): No Sync for 3 intervals; LOCKED becomes HOLDOVER. -/
def execSyncReceiptTimeout (n : Fin 2) (s : State) : Host.Outcome State Fault Refusal :=
  .next (s.whileClocked (fun s => s.syncTimesOut n))

/-- `HOLDOVER_LIMIT` (R462): Holdover limit passes; SYNC_STATE becomes FREE. -/
def execHoldoverLimit (s : State) : Host.Outcome State Fault Refusal := .next (s.whileOn (fun s => s.holdoverEnds))

/-- `STEP_MARK_END` (R460): The step mark window ends and the STEP flag clears. -/
def execStepMarkEnd (s : State) : Host.Outcome State Fault Refusal := .next (s.whileOn (fun s => s.stepMarkEnds))

/-- `TIME_SET` (R461): Time set loads the TBU clock and moves SYNC_STATE to SET. -/
def execTimeSet (r : Req) (value : Octets) (s : State) : Host.Outcome State Fault Refusal := .next (s.writeFree r Ix.netTimeSet 0 value)

/-- `TIME_STEP` (R461): Time step adds a signed step to the TBU clock. -/
def execTimeStep (r : Req) (value : BitVec 64) (s : State) : Host.Outcome State Fault Refusal :=
  .next (s.writeNumber r Ix.netTimeStep 0 8 value.toNat)

/-- `RATE_ADJUSTMENT` (R459): A write of Rate adjustment sets the clock increment from the next cycle. -/
def execRateAdjustment (r : Req) (value : BitVec 32) (s : State) : Host.Outcome State Fault Refusal :=
  .next (s.writeNumber r Ix.netRateAdjustment 0 4 value.toNat)

/-- `PULSE_ARM` (R468): Pulse arm arms a TOUT output with the settings in force. -/
def execPulseArm (r : Req) (n : Fin 4) (value : BitVec 8) (s : State) : Host.Outcome State Fault Refusal :=
  .next (s.writeNumber r Ix.netPulseArm (n.val + 1) 1 value.toNat)

/-- `PULSE_EDGE` (R468): The clock reaches the programmed edge and TOUT goes active. -/
def execPulseEdge (dt : Nat) (n : Fin 4) (s : State) : Host.Outcome State Fault Refusal :=
  .next (s.whileClocked (fun s => (s.advance dt).pulseEdge n))

/-- `TOUT_PULSE_END` (R468): A TOUT pulse ends after its width. -/
def execToutPulseEnd (n : Fin 4) (s : State) : Host.Outcome State Fault Refusal := .next (s.whileClocked (fun s => s.toutEnds n))

/-- `PULSE_MODE_WRITE` (R469): A write of 0 to Pulse mode disarms and ends an active pulse. -/
def execPulseModeWrite (r : Req) (n : Fin 4) (value : BitVec 8) (s : State) : Host.Outcome State Fault Refusal :=
  .next (s.writeNumber r Ix.netPulseMode (n.val + 1) 1 value.toNat)

/-- `TIN_EDGE` (R470): A filtered TIN edge latches time and LP into the capture FIFO. -/
def execTinEdge (dt : Nat) (n : Fin 4) (rising : Bool) (quarter : Fin 4) (s : State) : Host.Outcome State Fault Refusal :=
  .next (s.whileClocked (fun s => (s.advance dt).tinEdge n rising quarter))

/-- `CAPTURE_READ` (R470): A read of Capture takes the oldest capture, or sets EMPTY_READ. -/
def execCaptureRead (r : Req) (n : Fin 4) (s : State) : Host.Outcome State Fault Refusal :=
  .next (s.readRequest r 0 Ix.netCapture (n.val + 1))

end Sys2Proof.Machine
end

