-- ==== Sys2Proof/Machine/ExecPipeline.lean ====
section
/-! DEFINITION. The meanings of the rows of the input pipelines and the stitcher. -/

namespace Sys2Proof.Machine

/-- `IPL_INPUT` (R122): A pipeline takes a camera line, marker or strip-close record and passes it through its stages. -/
def execIplInput (m : Fin 16) (differs : Bool) (s : State) : Host.Outcome State Fault Refusal :=
  .next (s.whileClocked (fun s => (s.iplInput m differs).bstStep))

/-- `SPARE_TARGET` (R144): A write of Spare target names a pipeline for IPL16 to load and shadow. -/
def execSpareTarget (r : Req) (value : BitVec 8) (s : State) : Host.Outcome State Fault Refusal :=
  .next (s.writeNumber r Ix.iplSpareTarget 0 1 value.toNat)

/-- `SPARE_LOADED` (R144): The spare finishes loading the target's settings and banks. -/
def execSpareLoaded (micros : Nat) (s : State) : Host.Outcome State Fault Refusal :=
  .next (s.whileClocked (fun s => (s.spareLoaded micros).bstStep))

/-- `TAKE_OVER` (R144): Spare command TAKE_OVER requests take-over at the next eligible strip boundary. -/
def execTakeOver (r : Req) (s : State) : Host.Outcome State Fault Refusal := .next (s.writeNumber r Ix.iplSpareCommand 0 1 1)

/-- `HAND_BACK` (R144): Spare command HAND_BACK restarts the pipeline, which loads and shadows the spare. -/
def execHandBack (r : Req) (s : State) : Host.Outcome State Fault Refusal := .next (s.writeNumber r Ix.iplSpareCommand 0 1 2)

/-- `RELEASE` (R144): Spare command RELEASE returns the spare to idle from loading or shadow. -/
def execRelease (r : Req) (s : State) : Host.Outcome State Fault Refusal := .next (s.writeNumber r Ix.iplSpareCommand 0 1 3)

/-- `STITCHED_LINE` (R159): STX forms stitched line L once every included camera delivered line L+1, aligning and blending. -/
def execStitchedLine (s : State) : Host.Outcome State Fault Refusal := .next (s.whileClocked (fun s => s.stitchReady))

/-- `LINE_WAIT` (R159): A camera or neighbour lags by the line wait; the line is formed with it missing. -/
def execLineWait (s : State) : Host.Outcome State Fault Refusal := .next (s.whileClocked (fun s => s.stitchWaited))

end Sys2Proof.Machine
end

