-- ==== Sys2Proof/Machine/ExecPosition.lean ====
section
/-! DEFINITION. The meanings of the rows of the web position unit. -/

namespace Sys2Proof.Machine

/-- `ENCODER_TRANSITION` (R595): A filtered sample in which A or B of an encoder changes is decoded into counts and may move P and LP. -/
def execEncoderTransition (dt : Nat) (n : Fin 4) (a b : Bool) (s : State) : Host.Outcome State Fault Refusal :=
  .next (s.whileClocked (fun s => State.moveEnds ((s.posCycles dt).encoderSample n a b)))

/-- `LINE_FAULT` (R36): An RS-422 line stays below 200 mV for over 1 µs; line fault flags set and WPU may fault. -/
def execLineFault (n : Fin 4) (line : EncLine) (s : State) : Host.Outcome State Fault Refusal :=
  .next (s.whileClocked (fun s => (s.lineFault n line).settle))

/-- `LINE_FAULT_END` (R36): An RS-422 line whose differential voltage was below 200 mV recovers, and its live LINE_A, LINE_B or LINE_Z
flag clears. -/
def execLineFaultEnd (n : Fin 4) (line : EncLine) (s : State) : Host.Outcome State Fault Refusal :=
  .next (s.whileClocked (fun s => s.lineFaultEnds n line))

/-- `ENCODER_INDEX` (R37): A rising Z transition latches Index LP and time and increments the index count. -/
def execEncoderIndex (dt : Nat) (n : Fin 4) (s : State) : Host.Outcome State Fault Refusal :=
  .next (s.whileClocked (fun s => ((s.posCycles dt).encoderIndex n).settle))

/-- `SERIAL_POLL` (R38): The serial poll interval expires and WPU clocks a frame from the absolute encoder. -/
def execSerialPoll (n : Fin 2) (s : State) : Host.Outcome State Fault Refusal := .next (s.whileClocked (fun s => s.serialPoll n))

/-- `SERIAL_FRAME` (R39): A serial frame check completes and a good reading adds its signed difference to the count. -/
def execSerialFrame (dt : Nat) (n : Fin 2) (word : BitVec 40) (crc : BitVec 6) (errBit warnBit : Bool) (s : State) : Host.Outcome State
    Fault Refusal :=
  .next (s.whileClocked (fun s => (s.posCycles dt).serialFrame n word crc errBit warnBit))

/-- `SERIAL_FRAME_TIMEOUT` (R40): No start bit arrives within the frame timeout; the frame counts as bad. -/
def execSerialFrameTimeout (n : Fin 2) (s : State) : Host.Outcome State Fault Refusal :=
  .next (s.whileClocked (fun s => s.serialTimesOut n))

/-- `SPEED_DECAY` (R53): Elapsed cycles exceed the averaged period and the reported speed is limited toward zero. -/
def execSpeedDecay (dt : Nat) (s : State) : Host.Outcome State Fault Refusal :=
  .next (s.whileClocked (fun s => (s.posCycles dt).speedDecays))

/-- `STANDSTILL` (R54): No change of P within the standstill timeout; standstill is reported and WPU_STANDSTILL sent. -/
def execStandstill (dt : Nat) (s : State) : Host.Outcome State Fault Refusal :=
  .next (s.whileClocked (fun s => (s.posCycles dt).standsStill))

/-- `LP_PRESET` (R47): LP preset command loads LP from the preset value and clears the accumulator while WPU is Stopped. -/
def execLpPreset (r : Req) (value : BitVec 8) (s : State) : Host.Outcome State Fault Refusal :=
  .next (s.writeNumber r Ix.wpuLPPresetCommand 0 1 value.toNat)

/-- `COUNTS_PER_LINE_WRITE` (R44): A write of Counts per line keeps LP, clears the accumulator and empties the speed buffer. -/
def execCountsPerLineWrite (r : Req) (value : BitVec 64) (s : State) : Host.Outcome State Fault Refusal :=
  .next (s.writeNumber r Ix.wpuLinePitch 1 8 value.toNat)

/-- `POSITION_SOURCE_WRITE` (R42): A write of Position source sets P to the new source's raw count without travel. -/
def execPositionSourceWrite (r : Req) (value : BitVec 8) (s : State) : Host.Outcome State Fault Refusal :=
  .next (s.writeNumber r Ix.wpuPositionSource 0 1 value.toNat)

/-- `ENCODER_MODE_WRITE` (R35): A write of the encoder or serial mode clears the QERR window and resets P for the selected source. -/
def execEncoderModeWrite (r : Req) (source : Fin 6) (value : BitVec 8) (s : State) : Host.Outcome State Fault Refusal :=
  .next (if source.val < 4 then s.writeNumber r Ix.wpuEncoderMode (source.val + 1) 1 value.toNat else s.writeNumber r Ix.wpuSerialMode (source.val - 3) 1 value.toNat)

/-- `SPACING_COMPARE_WRITE` (R58): A write to Spacing compare takes effect next cycle and is evaluated once in either direction. -/
def execSpacingCompareWrite (r : Req) (n : Fin 24) (value : BitVec 64) (s : State) : Host.Outcome State Fault Refusal :=
  .next (s.writeNumber r Ix.wpuSpacingCompare (n.val + 1) 8 value.toNat)

/-- `PROBE_EDGE` (R60): A selected edge on a probe input latches LP and time with the filter delay removed. -/
def execProbeEdge (dt : Nat) (n : Fin 8) (rising : Bool) (s : State) : Host.Outcome State Fault Refusal :=
  .next (s.whileClocked (fun s => (s.posCycles dt).probeTakes n rising))

/-- `PROBE_RECORD_OFFER` (R62): XQ arbitration serves WPU and the oldest probe record is pushed or discarded. -/
def execProbeRecordOffer (n : Fin 8) (s : State) : Host.Outcome State Fault Refusal := .next (s.whileClocked (fun s => s.probeOffer n))

end Sys2Proof.Machine
end

