-- ==== Sys2Proof/Machine/ExecPower.lean ====
section
/-! DEFINITION. The meanings of the rows of power, reset and firmware. -/

namespace Sys2Proof.Machine

/-- `READY` (R541): Power command READY enters Ready from Standby, Run or Service. -/
def execReady (r : Req) (levels : BitVec 8) (s : State) : Host.Outcome State Fault Refusal := .next (s.powerWrite r 2 levels)

/-- `RUN` (R541): Power command RUN enters Run from Ready. -/
def execRun (r : Req) (s : State) : Host.Outcome State Fault Refusal := .next (s.writeNumber r Ix.sysPowerCommand 0 1 3)

/-- `SERVICE` (R541): Power command SERVICE enters the Service power state from Ready. -/
def execService (r : Req) (s : State) : Host.Outcome State Fault Refusal := .next (s.writeNumber r Ix.sysPowerCommand 0 1 4)

/-- `STANDBY` (R541): Power command STANDBY stops the field ports and clocks and enters Standby. -/
def execStandby (r : Req) (s : State) : Host.Outcome State Fault Refusal := .next (s.writeNumber r Ix.sysPowerCommand 0 1 1)

/-- `OFF` (R541): Power command OFF halts MGT and enters Off. -/
def execOff (r : Req) (s : State) : Host.Outcome State Fault Refusal := .next (s.writeNumber r Ix.sysPowerCommand 0 1 5)

/-- `RESET` (R541): Power command RESET performs a device reset with cause 3. -/
def execReset (r : Req) (s : State) : Host.Outcome State Fault Refusal := .next (s.writeNumber r Ix.sysPowerCommand 0 1 6)

/-- `TRANSITION_COMPLETE` (R541): A power transition completes and TRANSITIONING clears. -/
def execTransitionComplete (micros : Nat) (s : State) : Host.Outcome State Fault Refusal :=
  .next (s.whileOn (fun s => s.transitionComplete micros))

/-- `THERMAL_TRIP` (R544): A sensor reaches 115 °C; outputs float, THERMTRIP_N drives low and the device enters Off. -/
def execThermalTrip (s : State) : Host.Outcome State Fault Refusal := .next (s.whileOn (fun s => s.thermalTrip))

/-- `POWER_ON` (R545): Supplies rise with PORST_N low, giving a power-on reset. -/
def execPowerOn (s : State) : Host.Outcome State Fault Refusal := .next (s.boot 1)

/-- `PORST_N` (R545): PORST_N asserted and released resets the device and boots it. -/
def execPorstN (s : State) : Host.Outcome State Fault Refusal := .next (s.pinReset)

/-- `PERST_N` (R545): PERST_N resets the PCIe link, configuration space and mailbox sessions. -/
def execPerstN (s : State) : Host.Outcome State Fault Refusal := .next (s.whileOn (fun s => s.pcieReset))

/-- `BOOT_TARGET_READY` (R552): After start-up a Boot target of 2 enters Ready. -/
def execBootTargetReady (levels : BitVec 8) (s : State) : Host.Outcome State Fault Refusal := .next (s.bootTarget levels)

/-- `WATCHDOG` (R546): The MGT watchdog expires and the management cores restart. -/
def execWatchdog (s : State) : Host.Outcome State Fault Refusal := .next (s.watchdog)

/-- `MGT_RESTART_COMPLETE` (R546): The management cores finish restarting and answer the dictionary again. -/
def execMgtRestartComplete (millis : Nat) (s : State) : Host.Outcome State Fault Refusal := .next (s.restarted millis)

/-- `ACTIVATE` (R554): Update command ACTIVATE makes the staged slot trial and restarts MGT on it. -/
def execActivate (r : Req) (s : State) : Host.Outcome State Fault Refusal := .next (s.writeNumber r Ix.updUpdateCommand 0 1 1)

/-- `COMMIT` (R555): Update command COMMIT marks the trial slot good. -/
def execCommit (r : Req) (s : State) : Host.Outcome State Fault Refusal := .next (s.writeNumber r Ix.updUpdateCommand 0 1 2)

/-- `REVERT` (R555): Update command REVERT fails the trial slot and restarts MGT on the other. -/
def execRevert (r : Req) (s : State) : Host.Outcome State Fault Refusal := .next (s.writeNumber r Ix.updUpdateCommand 0 1 3)

/-- `RAISE_SECURITY_VERSION` (R556): The fused minimum security version is raised to the running image's. -/
def execRaiseSecurityVersion (r : Req) (value : BitVec 8) (s : State) : Host.Outcome State Fault Refusal :=
  .next (s.writeNumber r Ix.updRaiseSecurityVersion 0 1 value.toNat)

/-- `PWRFAIL_WARNING` (R558): A filtered low PWRFAIL_N starts the power-fail sequence in Run or Service. -/
def execPwrfailWarning (s : State) : Host.Outcome State Fault Refusal := .next (s.failWarning)

/-- `PWRFAIL_COMPLETE` (R562): The power-fail sequence ends with Trays closed POWER_FAIL and the record written. -/
def execPwrfailComplete (duration : Nat) (s : State) : Host.Outcome State Fault Refusal :=
  .next (s.whileOn (fun s => s.failComplete duration))

/-- `PWRFAIL_RELEASE` (R558): PWRFAIL_N returns high, and PWRFAIL_LIVE clears. -/
def execPwrfailRelease (s : State) : Host.Outcome State Fault Refusal := .next (s.failRelease)

/-- `MONITOR_POLL` (R590): MGT reads every sensor and supply monitor and updates the monitor flags. -/
def execMonitorPoll (temps : Vector (Option Int) 8) (supplies : Vector (BitVec 16) 8) (current : BitVec 16) (s : State) : Host.Outcome
    State Fault Refusal :=
  .next (s.monitorPoll temps.toList (supplies.toList.map (fun v => v.toNat)) current.toNat)

end Sys2Proof.Machine
end

