-- ==== Sys2Proof/Machine/ExecScheduler.lean ====
section
/-! DEFINITION. The meanings of the rows of the position scheduler. -/

namespace Sys2Proof.Machine

/-- `SCHEDULE_REQUEST` (R69): A Schedule request is checked and stored as a PSC entry or refused. -/
def execScheduleRequest (r : Req) (target : BitVec 64) (action tag : BitVec 32) (s : State) : Host.Outcome State Fault Refusal :=
  .next (s.writeFree r Ix.pscScheduleRequest 0 (leBytes 8 target.toNat ++ leBytes 4 action.toNat ++ leBytes 4 tag.toNat))

/-- `CANCEL_TAG` (R72): Cancel tag removes every pending entry with that tag, or sets CANCEL_MISS. -/
def execCancelTag (r : Req) (tag : BitVec 32) (s : State) : Host.Outcome State Fault Refusal :=
  .next (s.writeNumber r Ix.pscCancelTag 0 4 tag.toNat)

/-- `PULSE_WIDTH_END` (R74): A time-mode pulse ends after its pulse width in CLK_POS cycles. -/
def execPulseWidthEnd (n : Fin 48) (s : State) : Host.Outcome State Fault Refusal :=
  .next (s.whileClocked (fun s => s.pulseWidthEnd n.val))

/-- `WIDTH_CAP` (R74): The width cap ends a pulse and sets CAP. -/
def execWidthCap (n : Fin 48) (s : State) : Host.Outcome State Fault Refusal := .next (s.whileClocked (fun s => s.widthCap n.val))

/-- `FORCE` (R77): A write of Force drives or releases the pin independently of shaping. -/
def execForce (r : Req) (n : Fin 48) (value : BitVec 8) (s : State) : Host.Outcome State Fault Refusal :=
  .next (s.writeNumber r Ix.pscForce (n.val + 1) 1 value.toNat)

end Sys2Proof.Machine
end

