-- ==== Sys2Proof/Machine/ExecSession.lean ====
section
/-! DEFINITION. The meanings of the rows of the sessions and the dictionary requests. -/

namespace Sys2Proof.Machine

/-- `OPEN` (R432): OPEN opens a session at a requested level. -/
def execOpenCmd (path : Path) (seq : BitVec 16) (level : BitVec 8) (name : Octets) (s : State) : Host.Outcome State Fault Refusal :=
  .next (s.openRequest path seq.toNat level.toNat name)

/-- `CLOSE` (R436): CLOSE ends the session. -/
def execClose (r : Req) (s : State) : Host.Outcome State Fault Refusal := .next (s.closeRequest r)

/-- `KEEPALIVE` (R439): KEEPALIVE returns live LP and time stamp and keeps the session alive. -/
def execKeepalive (r : Req) (s : State) : Host.Outcome State Fault Refusal := .next (s.request r 0x03 (fun t _ => t.keepAlive r.path))

/-- `AUTH_CHALLENGE` (R449): AUTH step 1 returns a 48-byte challenge. -/
def execAuthChallenge (r : Req) (s : State) : Host.Outcome State Fault Refusal := .next (s.authOne r)

/-- `AUTH_RESPONSE` (R449): AUTH step 2 checks chain and signature and raises the mailbox session level. -/
def execAuthResponse (r : Req) (level : BitVec 8) (chain signature : Octets) (s : State) : Host.Outcome State Fault Refusal :=
  .next (s.authTwo r level.toNat chain signature)

/-- `READ` (R431): READ returns one object's whole value. -/
def execRead (r : Req) (group : BitVec 8) (ix : BitVec 16) (sub : BitVec 8) (s : State) : Host.Outcome State Fault Refusal :=
  .next (s.readRequest r group.toNat ix.toNat sub.toNat)

/-- `DOM_READ` (R441): DOM_READ opens a read transfer over a snapshot of a domain. -/
def execDomRead (r : Req) (ix : BitVec 16) (sub : BitVec 8) (s : State) : Host.Outcome State Fault Refusal :=
  .next (s.request r 0x20 (fun t x => t.domReadReply x r.path ix.toNat sub.toNat))

/-- `DOM_WRITE` (R442): DOM_WRITE opens a write transfer of a stated total length. -/
def execDomWrite (r : Req) (ix : BitVec 16) (sub : BitVec 8) (total : BitVec 32) (s : State) : Host.Outcome State Fault Refusal :=
  .next (s.request r 0x21 (fun t x => t.domWriteReply x r.path ix.toNat sub.toNat total.toNat))

/-- `SEGMENT_READ` (R441): SEGMENT returns bytes of the snapshot from an offset. -/
def execSegmentRead (r : Req) (offset : BitVec 32) (length : BitVec 16) (last : Bool) (s : State) : Host.Outcome State Fault Refusal :=
  .next (s.request r 0x22 (fun t x => t.segmentReply x r.path (pathNum r.path 4 offset.toNat ++ pathNum r.path 2 length.toNat) last))

/-- `SEGMENT_WRITE` (R442): SEGMENT delivers data; the last segment triggers the content check. -/
def execSegmentWrite (r : Req) (offset : BitVec 32) (data : Octets) (last : Bool) (s : State) : Host.Outcome State Fault Refusal :=
  .next (s.request r 0x22 (fun t x => t.segmentReply x r.path (pathNum r.path 4 offset.toNat ++ data) last))

/-- `DOM_ABORT` (R444): DOM_ABORT abandons the session's transfer. -/
def execDomAbort (r : Req) (s : State) : Host.Outcome State Fault Refusal := .next (s.request r 0x23 (fun t x => t.domAbort x))

/-- `DISCOVER` (R446): DISCOVER returns the identity summary. -/
def execDiscover (r : Req) (group : BitVec 8) (s : State) : Host.Outcome State Fault Refusal := .next (s.discoverRequest r group.toNat)

/-- `VDP_FRAME_DISCARD` (R439): A malformed or foreign VDP frame is discarded and counted. -/
def execVdpFrameDiscard (port : Fin 2) (s : State) : Host.Outcome State Fault Refusal :=
  .next (s.whileManaged (fun s => s.netDiscard port))

/-- `SESSION_TIMEOUT` (R436): A session with no valid request for the session timeout ends. -/
def execSessionTimeout (id : Fin 68) (s : State) : Host.Outcome State Fault Refusal := .next (s.sessionExpires id.val)

/-- `SESSION_END` (R436): A write of Session end ends the named session. -/
def execSessionEnd (r : Req) (id : BitVec 16) (s : State) : Host.Outcome State Fault Refusal :=
  .next (s.writeNumber r Ix.sesSessionEnd 0 2 id.toNat)

/-- `SEGMENT_TIMEOUT` (R444): No segment within the segment timeout; the transfer is abandoned. -/
def execSegmentTimeout (id : Fin 68) (s : State) : Host.Outcome State Fault Refusal := .next (s.segmentExpires id.val)

/-- `CLIENT_HELLO` (R433): A DTLS ClientHello starts a handshake if fewer than 8 are in progress. -/
def execClientHello (port : Fin 2) (ip : BitVec 32) (udp : BitVec 16) (s : State) : Host.Outcome State Fault Refusal :=
  .next (s.clientHello port ip udp)

/-- `DTLS_HANDSHAKE` (R433): A DTLS handshake completes or fails against the trust anchors. -/
def execDtlsHandshake (association : Nat) (chain : Octets) (ok : Bool) (s : State) : Host.Outcome State Fault Refusal :=
  .next (s.handshake association chain ok)

/-- `HANDSHAKE_TIMEOUT` (R433): A handshake not complete 10 s after its ClientHello is abandoned. -/
def execHandshakeTimeout (association : Nat) (s : State) : Host.Outcome State Fault Refusal :=
  .next (s.whileManaged (fun s => s.handshakeTimesOut association))

/-- `DTLS_CLOSE` (R433): The client closes the DTLS association, which closes the VDP session it carries. -/
def execDtlsClose (association : Nat) (s : State) : Host.Outcome State Fault Refusal := .next (s.dtlsClose association)

/-- `GROUP_RESPONSE` (R446): After its response spread delay a group member sends its unicast answer. -/
def execGroupResponse (s : State) : Host.Outcome State Fault Refusal := .next (s.groupAnswer)

/-- `MAILBOX_POST` (R448): Doorbell 1 posts a mailbox request frame. -/
def execMailboxPost (m : Fin 4) (status : BitVec 32) (frame : Octets) (s : State) : Host.Outcome State Fault Refusal :=
  .next (((s.mailboxStatus m status.toNat).mailboxFill m frame).mailboxPost m frame)

/-- `MAILBOX_ACK` (R448): Doorbell 2 acknowledges the response and clears RESP_READY. -/
def execMailboxAck (m : Fin 4) (status : BitVec 32) (s : State) : Host.Outcome State Fault Refusal :=
  .next ((s.mailboxStatus m status.toNat).mailboxAck m)

/-- `NODE_ID_WRITE` (R445): A write of Node ID is stored and applies from the next frame. -/
def execNodeIdWrite (r : Req) (value : BitVec 16) (s : State) : Host.Outcome State Fault Refusal :=
  .next (s.writeNumber r Ix.sysNodeID 0 2 value.toNat)

/-- `TRUST_ANCHOR_WRITE` (R453): A write of a trust anchor entry is checked and stored in flash. -/
def execTrustAnchorWrite (r : Req) (k : Fin 16) (value : Octets) (s : State) : Host.Outcome State Fault Refusal :=
  .next (s.writeFree r Ix.sesTrustAnchor (k.val + 1) value)

end Sys2Proof.Machine
end

