-- ==== Sys2Proof/Machine/ExecTest.lean ====
section
/-! DEFINITION. The meanings of the rows of the life cycle and self-test. -/

namespace Sys2Proof.Machine

/-- `PROVISION` (R499): PROVISION burns the root key hash and enters DEPLOYED. -/
def execProvision (r : Req) (serial : BitVec 64) (hash : Vector Byte 48) (s : State) : Host.Outcome State Fault Refusal :=
  .next (s.writeFree r Ix.lifLifeCycleCommand 0 (lifeHead 1 serial ++ hash.toList))

/-- `ENTER_SERVICE` (R499): ENTER_SERVICE moves DEPLOYED to the SERVICE life-cycle state. -/
def execEnterService (r : Req) (serial : BitVec 64) (s : State) : Host.Outcome State Fault Refusal :=
  .next (s.writeFree r Ix.lifLifeCycleCommand 0 (lifeHead 2 serial))

/-- `LEAVE_SERVICE` (R499): LEAVE_SERVICE returns to DEPLOYED. -/
def execLeaveService (r : Req) (serial : BitVec 64) (s : State) : Host.Outcome State Fault Refusal :=
  .next (s.writeFree r Ix.lifLifeCycleCommand 0 (lifeHead 3 serial))

/-- `DECOMMISSION` (R499): DECOMMISSION burns the decommission bit and invalidates trust anchors. -/
def execDecommission (r : Req) (serial : BitVec 64) (s : State) : Host.Outcome State Fault Refusal :=
  .next (s.writeFree r Ix.lifLifeCycleCommand 0 (lifeHead 4 serial))

/-- `SERVICE_IDLE_TIMEOUT` (R500): No L3 session for the idle timeout; the state returns to DEPLOYED. -/
def execServiceIdleTimeout (s : State) : Host.Outcome State Fault Refusal := .next (s.whileManaged (fun s => s.serviceIdle))

/-- `BIST_ROUND` (R507): The round period expires and BST starts an online test round. -/
def execBistRound (s : State) : Host.Outcome State Fault Refusal := .next (s.whileOn (fun s => s.bistRound))

/-- `SLICE_START` (R509): The slice interval expires and the next test slice starts. -/
def execSliceStart (s : State) : Host.Outcome State Fault Refusal := .next (s.whileOn (fun s => s.sliceStarts))

/-- `SLICE_COMPLETE` (R510): A test slice ends passed or failed. -/
def execSliceComplete (result : SliceEnd) (s : State) : Host.Outcome State Fault Refusal :=
  .next (s.whileOn (fun s => s.sliceEnds result))

/-- `SLICE_RETRY` (R510): The 10 ms back-off expires and a failed slice is retried. -/
def execSliceRetry (s : State) : Host.Outcome State Fault Refusal := .next (s.whileOn (fun s => s.sliceRetries))

/-- `TEST_UNIT` (R514): Test request kind 1 runs an offline test of a unit. -/
def execTestUnit (r : Req) (unit : BitVec 16) (s : State) : Host.Outcome State Fault Refusal :=
  .next (s.writeFree r Ix.bstTestRequest 0 (leBytes 2 unit.toNat ++ leBytes 1 1 ++ zeros 1))

/-- `CLEAR_FAILED` (R512): Test request kind 2 removes a unit from the failed list. -/
def execClearFailed (r : Req) (unit : BitVec 16) (s : State) : Host.Outcome State Fault Refusal :=
  .next (s.writeFree r Ix.bstTestRequest 0 (leBytes 2 unit.toNat ++ leBytes 1 2 ++ zeros 1))

/-- `FUSE_COMMAND` (R515): Fuse command burns soft repairs and substitutions into fuses. -/
def execFuseCommand (r : Req) (s : State) : Host.Outcome State Fault Refusal := .next (s.writeNumber r Ix.bstFuseCommand 0 1 1)

/-- `FUSE_COMPLETE` (R515): Fuse programming finishes and entries are verified. -/
def execFuseComplete (fails : List Bool) (s : State) : Host.Outcome State Fault Refusal :=
  .next (s.whileManaged (fun s => s.fuseComplete fails))

end Sys2Proof.Machine
end

