-- ==== Sys2Proof/Machine/Dispatch.lean ====
section
/-! DEFINITION. The dispatch: one arm per command. -/

namespace Sys2Proof.Machine

def exec (i : Instr) (s : State) : Host.Outcome State Fault Refusal :=
  match i with
  | .arm r f trains => Sys2Proof.Machine.execArm r f trains s
  | .start r f => Sys2Proof.Machine.execStart r f s
  | .stop r f => Sys2Proof.Machine.execStop r f s
  | .abort r f => Sys2Proof.Machine.execAbort r f s
  | .disarm r f => Sys2Proof.Machine.execDisarm r f s
  | .clear r f => Sys2Proof.Machine.execClear r f s
  | .drainComplete f => Sys2Proof.Machine.execDrainComplete f s
  | .drainTimeout f => Sys2Proof.Machine.execDrainTimeout f s
  | .startPointReached f line => Sys2Proof.Machine.execStartPointReached f line s
  | .write r ix sub value => Sys2Proof.Machine.execWrite r ix sub value s
  | .uncorrectableError part address => Sys2Proof.Machine.execUncorrectableError part address s
  | .correctedError part => Sys2Proof.Machine.execCorrectedError part s
  | .encoderTransition dt n a b => Sys2Proof.Machine.execEncoderTransition dt n a b s
  | .lineFault n line => Sys2Proof.Machine.execLineFault n line s
  | .encoderIndex dt n => Sys2Proof.Machine.execEncoderIndex dt n s
  | .serialPoll n => Sys2Proof.Machine.execSerialPoll n s
  | .serialFrame dt n word crc errBit warnBit => Sys2Proof.Machine.execSerialFrame dt n word crc errBit warnBit s
  | .serialFrameTimeout n => Sys2Proof.Machine.execSerialFrameTimeout n s
  | .speedDecay dt => Sys2Proof.Machine.execSpeedDecay dt s
  | .standstill dt => Sys2Proof.Machine.execStandstill dt s
  | .lpPreset r value => Sys2Proof.Machine.execLpPreset r value s
  | .countsPerLineWrite r value => Sys2Proof.Machine.execCountsPerLineWrite r value s
  | .positionSourceWrite r value => Sys2Proof.Machine.execPositionSourceWrite r value s
  | .encoderModeWrite r source value => Sys2Proof.Machine.execEncoderModeWrite r source value s
  | .spacingCompareWrite r n value => Sys2Proof.Machine.execSpacingCompareWrite r n value s
  | .probeEdge dt n rising => Sys2Proof.Machine.execProbeEdge dt n rising s
  | .probeRecordOffer n => Sys2Proof.Machine.execProbeRecordOffer n s
  | .scheduleRequest r target action tag => Sys2Proof.Machine.execScheduleRequest r target action tag s
  | .cancelTag r tag => Sys2Proof.Machine.execCancelTag r tag s
  | .pulseWidthEnd n => Sys2Proof.Machine.execPulseWidthEnd n s
  | .widthCap n => Sys2Proof.Machine.execWidthCap n s
  | .force r n value => Sys2Proof.Machine.execForce r n value s
  | .discoveryAttempt n conns => Sys2Proof.Machine.execDiscoveryAttempt n conns s
  | .linkUp n skew => Sys2Proof.Machine.execLinkUp n skew s
  | .trainingFail n => Sys2Proof.Machine.execTrainingFail n s
  | .trainingRetry n => Sys2Proof.Machine.execTrainingRetry n s
  | .laneLockLoss n => Sys2Proof.Machine.execLaneLockLoss n s
  | .heartbeat n => Sys2Proof.Machine.execHeartbeat n s
  | .heartbeatTimeout n => Sys2Proof.Machine.execHeartbeatTimeout n s
  | .tagExpired dt n => Sys2Proof.Machine.execTagExpired dt n s
  | .triggerPacketFall n => Sys2Proof.Machine.execTriggerPacketFall n s
  | .frameStart dt n => Sys2Proof.Machine.execFrameStart dt n s
  | .lineFirstPacket dt n => Sys2Proof.Machine.execLineFirstPacket dt n s
  | .lineComplete dt n extra crcError frameEnd header xSize samples => Sys2Proof.Machine.execLineComplete dt n extra crcError frameEnd header xSize samples s
  | .frameEnd dt n => Sys2Proof.Machine.execFrameEnd dt n s
  | .controlRequest r n value => Sys2Proof.Machine.execControlRequest r n value s
  | .controlResponse n ack data => Sys2Proof.Machine.execControlResponse n ack data s
  | .controlTimeout n => Sys2Proof.Machine.execControlTimeout n s
  | .cameraEvent n packet => Sys2Proof.Machine.execCameraEvent n packet s
  | .reconnectTimeout n => Sys2Proof.Machine.execReconnectTimeout n s
  | .resume r n value => Sys2Proof.Machine.execResume r n value s
  | .stripLengthWrite r value => Sys2Proof.Machine.execStripLengthWrite r value s
  | .iplInput m differs => Sys2Proof.Machine.execIplInput m differs s
  | .spareTarget r value => Sys2Proof.Machine.execSpareTarget r value s
  | .spareLoaded micros => Sys2Proof.Machine.execSpareLoaded micros s
  | .takeOver r => Sys2Proof.Machine.execTakeOver r s
  | .handBack r => Sys2Proof.Machine.execHandBack r s
  | .release r => Sys2Proof.Machine.execRelease r s
  | .stitchedLine => Sys2Proof.Machine.execStitchedLine s
  | .lineWait => Sys2Proof.Machine.execLineWait s
  | .braidTrainingComplete n partner reports eye laneMap taps skew micros => Sys2Proof.Machine.execBraidTrainingComplete n partner reports eye laneMap taps skew micros s
  | .braidTrainingTimeout n => Sys2Proof.Machine.execBraidTrainingTimeout n s
  | .braidTrainingRetry n => Sys2Proof.Machine.execBraidTrainingRetry n s
  | .retrainInterval n => Sys2Proof.Machine.execRetrainInterval n s
  | .braidClockLoss n => Sys2Proof.Machine.execBraidClockLoss n s
  | .braidEyeTracking n lane up => Sys2Proof.Machine.execBraidEyeTracking n lane up s
  | .flitReceive n flit => Sys2Proof.Machine.execFlitReceive n flit s
  | .nak n ack => Sys2Proof.Machine.execNak n ack s
  | .ackTimeout n => Sys2Proof.Machine.execAckTimeout n s
  | .overlapMessage n => Sys2Proof.Machine.execOverlapMessage n s
  | .rejoin n => Sys2Proof.Machine.execRejoin n s
  | .blobEdgeSummary n => Sys2Proof.Machine.execBlobEdgeSummary n s
  | .pageSubmit r value => Sys2Proof.Machine.execPageSubmit r value s
  | .masterLoadStart => Sys2Proof.Machine.execMasterLoadStart s
  | .masterLoadComplete image dmaError => Sys2Proof.Machine.execMasterLoadComplete image dmaError s
  | .loadTimeout => Sys2Proof.Machine.execLoadTimeout s
  | .queueFlush r => Sys2Proof.Machine.execQueueFlush r s
  | .mapReset r => Sys2Proof.Machine.execMapReset r s
  | .relock r => Sys2Proof.Machine.execRelock r s
  | .renumber r => Sys2Proof.Machine.execRenumber r s
  | .pageMark => Sys2Proof.Machine.execPageMark s
  | .markExpiry => Sys2Proof.Machine.execMarkExpiry s
  | .jobSubmit r value => Sys2Proof.Machine.execJobSubmit r value s
  | .laneDispatch lane => Sys2Proof.Machine.execLaneDispatch lane s
  | .blockComplete lane => Sys2Proof.Machine.execBlockComplete lane s
  | .jobCancel r tag => Sys2Proof.Machine.execJobCancel r tag s
  | .blobRecordEnqueue => Sys2Proof.Machine.execBlobRecordEnqueue s
  | .idleClose => Sys2Proof.Machine.execIdleClose s
  | .partialWait => Sys2Proof.Machine.execPartialWait s
  | .segSpareTarget r k value => Sys2Proof.Machine.execSegSpareTarget r k value s
  | .segSpareLoaded k => Sys2Proof.Machine.execSegSpareLoaded k s
  | .segSpareTakeOver r k => Sys2Proof.Machine.execSegSpareTakeOver r k s
  | .segSpareHandBack r k => Sys2Proof.Machine.execSegSpareHandBack r k s
  | .segSpareRelease r k => Sys2Proof.Machine.execSegSpareRelease r k s
  | .engineClear r e => Sys2Proof.Machine.execEngineClear r e s
  | .clsInput => Sys2Proof.Machine.execClsInput s
  | .ledgerLookup => Sys2Proof.Machine.execLedgerLookup s
  | .crumbPush => Sys2Proof.Machine.execCrumbPush s
  | .ledgerClear r value => Sys2Proof.Machine.execLedgerClear r value s
  | .ledgerSweepStep => Sys2Proof.Machine.execLedgerSweepStep s
  | .pfcOutput => Sys2Proof.Machine.execPfcOutput s
  | .streakEventEnqueue => Sys2Proof.Machine.execStreakEventEnqueue s
  | .swapRequest r => Sys2Proof.Machine.execSwapRequest r s
  | .swapCancel r => Sys2Proof.Machine.execSwapCancel r s
  | .bankWrite r object bank value => Sys2Proof.Machine.execBankWrite r object bank value s
  | .lossRecord q => Sys2Proof.Machine.execLossRecord q s
  | .queueFlagsRead r q => Sys2Proof.Machine.execQueueFlagsRead r q s
  | .doorbell place access => Sys2Proof.Machine.execDoorbell place access s
  | .descriptorFetch c desc ok => Sys2Proof.Machine.execDescriptorFetch c desc ok s
  | .fetchRetry c data ok => Sys2Proof.Machine.execFetchRetry c data ok s
  | .dmaPacket c => Sys2Proof.Machine.execDmaPacket c s
  | .closeTimeout c => Sys2Proof.Machine.execCloseTimeout c s
  | .descriptorComplete c data ok => Sys2Proof.Machine.execDescriptorComplete c data ok s
  | .fenceRead c ok => Sys2Proof.Machine.execFenceRead c ok s
  | .pause r c => Sys2Proof.Machine.execPause r c s
  | .channelResume r c => Sys2Proof.Machine.execChannelResume r c s
  | .flush r c => Sys2Proof.Machine.execFlush r c s
  | .writeFail c => Sys2Proof.Machine.execWriteFail c s
  | .shadowArm r c value inHandOver => Sys2Proof.Machine.execShadowArm r c value inHandOver s
  | .cropCut => Sys2Proof.Machine.execCropCut s
  | .cropBlockEncoded => Sys2Proof.Machine.execCropBlockEncoded s
  | .cropDeliver => Sys2Proof.Machine.execCropDeliver s
  | .functionLevelReset => Sys2Proof.Machine.execFunctionLevelReset s
  | .pcieLinkDown => Sys2Proof.Machine.execPcieLinkDown s
  | .busMasterDisable => Sys2Proof.Machine.execBusMasterDisable s
  | .bar4Read offset length => Sys2Proof.Machine.execBar4Read offset length s
  | .bar4Write offset data => Sys2Proof.Machine.execBar4Write offset data s
  | .dramAccess arrivals n health => Sys2Proof.Machine.execDramAccess arrivals n health s
  | .requestAging k => Sys2Proof.Machine.execRequestAging k s
  | .dramReadRetry n health => Sys2Proof.Machine.execDramReadRetry n health s
  | .rdimmAlert n request health => Sys2Proof.Machine.execRdimmAlert n request health s
  | .scrubPass corrected recovered failed => Sys2Proof.Machine.execScrubPass corrected recovered failed s
  | .refresh n => Sys2Proof.Machine.execRefresh n s
  | .temperaturePoll n band => Sys2Proof.Machine.execTemperaturePoll n band s
  | .eyeTracking n margin moves => Sys2Proof.Machine.execEyeTracking n margin moves s
  | .retrainComplete n setting => Sys2Proof.Machine.execRetrainComplete n setting s
  | .retrainRetry n => Sys2Proof.Machine.execRetrainRetry n s
  | .errorInjection r value => Sys2Proof.Machine.execErrorInjection r value s
  | .fire r c => Sys2Proof.Machine.execFire r c s
  | .taskBusyEnd task => Sys2Proof.Machine.execTaskBusyEnd task s
  | .crossingExit code => Sys2Proof.Machine.execCrossingExit code s
  | .vectorHoldoff vector => Sys2Proof.Machine.execVectorHoldoff vector s
  | .claimOpen r c => Sys2Proof.Machine.execClaimOpen r c s
  | .claimSecure r c => Sys2Proof.Machine.execClaimSecure r c s
  | .claimRelease r c => Sys2Proof.Machine.execClaimRelease r c s
  | .channelEnable r c value => Sys2Proof.Machine.execChannelEnable r c value s
  | .openCmd path seq level name => Sys2Proof.Machine.execOpenCmd path seq level name s
  | .close r => Sys2Proof.Machine.execClose r s
  | .keepalive r => Sys2Proof.Machine.execKeepalive r s
  | .authChallenge r => Sys2Proof.Machine.execAuthChallenge r s
  | .authResponse r level chain signature => Sys2Proof.Machine.execAuthResponse r level chain signature s
  | .read r group ix sub => Sys2Proof.Machine.execRead r group ix sub s
  | .domRead r ix sub => Sys2Proof.Machine.execDomRead r ix sub s
  | .domWrite r ix sub total => Sys2Proof.Machine.execDomWrite r ix sub total s
  | .segmentRead r offset length last => Sys2Proof.Machine.execSegmentRead r offset length last s
  | .segmentWrite r offset data last => Sys2Proof.Machine.execSegmentWrite r offset data last s
  | .domAbort r => Sys2Proof.Machine.execDomAbort r s
  | .discover r group => Sys2Proof.Machine.execDiscover r group s
  | .vdpFrameDiscard port => Sys2Proof.Machine.execVdpFrameDiscard port s
  | .sessionTimeout id => Sys2Proof.Machine.execSessionTimeout id s
  | .sessionEnd r id => Sys2Proof.Machine.execSessionEnd r id s
  | .segmentTimeout id => Sys2Proof.Machine.execSegmentTimeout id s
  | .clientHello port ip udp => Sys2Proof.Machine.execClientHello port ip udp s
  | .dtlsHandshake association chain ok => Sys2Proof.Machine.execDtlsHandshake association chain ok s
  | .handshakeTimeout association => Sys2Proof.Machine.execHandshakeTimeout association s
  | .groupResponse => Sys2Proof.Machine.execGroupResponse s
  | .mailboxPost m status frame => Sys2Proof.Machine.execMailboxPost m status frame s
  | .mailboxAck m status => Sys2Proof.Machine.execMailboxAck m status s
  | .nodeIdWrite r value => Sys2Proof.Machine.execNodeIdWrite r value s
  | .trustAnchorWrite r k value => Sys2Proof.Machine.execTrustAnchorWrite r k value s
  | .fnpLinkUp n negotiated => Sys2Proof.Machine.execFnpLinkUp n negotiated s
  | .fnpLinkLoss n => Sys2Proof.Machine.execFnpLinkLoss n s
  | .modeAlternation n => Sys2Proof.Machine.execModeAlternation n s
  | .arp n mac ip target => Sys2Proof.Machine.execArp n mac ip target s
  | .icmpEcho n ip target data => Sys2Proof.Machine.execIcmpEcho n ip target data s
  | .fnpFrameDiscard n badFcs => Sys2Proof.Machine.execFnpFrameDiscard n badFcs s
  | .ptpSync dt n quarter m => Sys2Proof.Machine.execPtpSync dt n quarter m s
  | .ptpFollowUp dt n m => Sys2Proof.Machine.execPtpFollowUp dt n m s
  | .ptpDelayReq dt n quarter m => Sys2Proof.Machine.execPtpDelayReq dt n quarter m s
  | .ptpDelayResp dt n m => Sys2Proof.Machine.execPtpDelayResp dt n m s
  | .ptpPdelayReq dt n quarter m taken => Sys2Proof.Machine.execPtpPdelayReq dt n quarter m taken s
  | .ptpPdelayResp dt n quarter m => Sys2Proof.Machine.execPtpPdelayResp dt n quarter m s
  | .ptpPdelayRespFollowUp dt n m => Sys2Proof.Machine.execPtpPdelayRespFollowUp dt n m s
  | .ptpAnnounce dt n m => Sys2Proof.Machine.execPtpAnnounce dt n m s
  | .syncInterval dt n quarter taken => Sys2Proof.Machine.execSyncInterval dt n quarter taken s
  | .announceInterval dt n => Sys2Proof.Machine.execAnnounceInterval dt n s
  | .delayReqInterval dt n quarter taken => Sys2Proof.Machine.execDelayReqInterval dt n quarter taken s
  | .txtsTimeout n => Sys2Proof.Machine.execTxtsTimeout n s
  | .announceTimeout n => Sys2Proof.Machine.execAnnounceTimeout n s
  | .syncReceiptTimeout n => Sys2Proof.Machine.execSyncReceiptTimeout n s
  | .holdoverLimit => Sys2Proof.Machine.execHoldoverLimit s
  | .stepMarkEnd => Sys2Proof.Machine.execStepMarkEnd s
  | .timeSet r value => Sys2Proof.Machine.execTimeSet r value s
  | .timeStep r value => Sys2Proof.Machine.execTimeStep r value s
  | .rateAdjustment r value => Sys2Proof.Machine.execRateAdjustment r value s
  | .pulseArm r n value => Sys2Proof.Machine.execPulseArm r n value s
  | .pulseEdge dt n => Sys2Proof.Machine.execPulseEdge dt n s
  | .toutPulseEnd n => Sys2Proof.Machine.execToutPulseEnd n s
  | .pulseModeWrite r n value => Sys2Proof.Machine.execPulseModeWrite r n value s
  | .tinEdge dt n rising quarter => Sys2Proof.Machine.execTinEdge dt n rising quarter s
  | .captureRead r n => Sys2Proof.Machine.execCaptureRead r n s
  | .runRequest r value => Sys2Proof.Machine.execRunRequest r value s
  | .runCancel r => Sys2Proof.Machine.execRunCancel r s
  | .runCheckComplete => Sys2Proof.Machine.execRunCheckComplete s
  | .runApplyComplete => Sys2Proof.Machine.execRunApplyComplete s
  | .runTimeout => Sys2Proof.Machine.execRunTimeout s
  | .importCmd r => Sys2Proof.Machine.execImportCmd r s
  | .applyFactory r => Sys2Proof.Machine.execApplyFactory r s
  | .importComplete => Sys2Proof.Machine.execImportComplete s
  | .itemWrite r value => Sys2Proof.Machine.execItemWrite r value s
  | .factorySave r => Sys2Proof.Machine.execFactorySave r s
  | .interfaceInterval lanes encoders => Sys2Proof.Machine.execInterfaceInterval lanes encoders s
  | .dueCheck => Sys2Proof.Machine.execDueCheck s
  | .provision r serial hash => Sys2Proof.Machine.execProvision r serial hash s
  | .enterService r serial => Sys2Proof.Machine.execEnterService r serial s
  | .leaveService r serial => Sys2Proof.Machine.execLeaveService r serial s
  | .decommission r serial => Sys2Proof.Machine.execDecommission r serial s
  | .serviceIdleTimeout => Sys2Proof.Machine.execServiceIdleTimeout s
  | .bistRound => Sys2Proof.Machine.execBistRound s
  | .sliceStart => Sys2Proof.Machine.execSliceStart s
  | .sliceComplete result => Sys2Proof.Machine.execSliceComplete result s
  | .sliceRetry => Sys2Proof.Machine.execSliceRetry s
  | .testUnit r unit => Sys2Proof.Machine.execTestUnit r unit s
  | .clearFailed r unit => Sys2Proof.Machine.execClearFailed r unit s
  | .fuseCommand r => Sys2Proof.Machine.execFuseCommand r s
  | .fuseComplete fails => Sys2Proof.Machine.execFuseComplete fails s
  | .recorderSample code instanceNo => Sys2Proof.Machine.execRecorderSample code instanceNo s
  | .snapshotCommand r => Sys2Proof.Machine.execSnapshotCommand r s
  | .snapshotInterval => Sys2Proof.Machine.execSnapshotInterval s
  | .snapshotComplete => Sys2Proof.Machine.execSnapshotComplete s
  | .windowRead r => Sys2Proof.Machine.execWindowRead r s
  | .recorderEnable r recorder value => Sys2Proof.Machine.execRecorderEnable r recorder value s
  | .freezeCommand r => Sys2Proof.Machine.execFreezeCommand r s
  | .freezeRelease r => Sys2Proof.Machine.execFreezeRelease r s
  | .userFreeze => Sys2Proof.Machine.execUserFreeze s
  | .userRelease => Sys2Proof.Machine.execUserRelease s
  | .userClear => Sys2Proof.Machine.execUserClear s
  | .counterClear r mask => Sys2Proof.Machine.execCounterClear r mask s
  | .ready r levels => Sys2Proof.Machine.execReady r levels s
  | .run r => Sys2Proof.Machine.execRun r s
  | .service r => Sys2Proof.Machine.execService r s
  | .standby r => Sys2Proof.Machine.execStandby r s
  | .off r => Sys2Proof.Machine.execOff r s
  | .reset r => Sys2Proof.Machine.execReset r s
  | .transitionComplete micros => Sys2Proof.Machine.execTransitionComplete micros s
  | .thermalTrip => Sys2Proof.Machine.execThermalTrip s
  | .powerOn => Sys2Proof.Machine.execPowerOn s
  | .porstN => Sys2Proof.Machine.execPorstN s
  | .perstN => Sys2Proof.Machine.execPerstN s
  | .bootTargetReady levels => Sys2Proof.Machine.execBootTargetReady levels s
  | .watchdog => Sys2Proof.Machine.execWatchdog s
  | .mgtRestartComplete millis => Sys2Proof.Machine.execMgtRestartComplete millis s
  | .activate r => Sys2Proof.Machine.execActivate r s
  | .commit r => Sys2Proof.Machine.execCommit r s
  | .revert r => Sys2Proof.Machine.execRevert r s
  | .raiseSecurityVersion r value => Sys2Proof.Machine.execRaiseSecurityVersion r value s
  | .pwrfailWarning => Sys2Proof.Machine.execPwrfailWarning s
  | .pwrfailComplete duration => Sys2Proof.Machine.execPwrfailComplete duration s
  | .monitorPoll temps supplies current => Sys2Proof.Machine.execMonitorPoll temps supplies current s
  | .lineFaultEnd n line => Sys2Proof.Machine.execLineFaultEnd n line s
  | .completionTimeout c kind => Sys2Proof.Machine.execCompletionTimeout c kind s
  | .pcieLinkUp link setup => Sys2Proof.Machine.execPcieLinkUp link setup s
  | .busMasterEnable => Sys2Proof.Machine.execBusMasterEnable s
  | .aerError correctable => Sys2Proof.Machine.execAerError correctable s
  | .dtlsClose association => Sys2Proof.Machine.execDtlsClose association s
  | .pwrfailRelease => Sys2Proof.Machine.execPwrfailRelease s

end Sys2Proof.Machine
end

