-- ==== Sys2Proof/Safety.lean ====
section
/-! DEFINITION. The invariants of the device, in the terms the statements use. -/

namespace Sys2Proof.Machine

/-- The dictionary's scalars are in canonical form: keys rise, no entry equals the value of an unlisted key, and every value fits its
object's width (R423, R426). -/
def regsOk (m : List (Nat × Nat)) : Bool :=
  storeOk (fun k v => v != resetReg k && decide (v < 2 ^ bitsAt k)) 0 m

/-- The dictionary's octet strings are in canonical form (R423). -/
def octsOk (m : List (Nat × Octets)) : Bool := storeOk (fun k v => v != resetOct k) 0 m

/-- The device DRAM is in canonical form: addresses rise and no entry is the byte of an unlisted address (R385). -/
def Memory.wf (m : List Host.Cell) : Bool := storeOk (fun _ b => b != 0) 0 m

/-- Every store of the device is in its canonical form. -/
def State.StoresOk (s : State) : Prop :=
  regsOk s.regs = true ∧ octsOk s.octs = true ∧ regsOk s.forced = true ∧ octsOk s.forcedOcts = true ∧ Memory.wf s.dram = true

/-- An outcome that is a next state satisfies a property. -/
def nextHas (o : Host.Outcome State Fault Refusal) (p : State → Prop) : Prop :=
  match o with
  | .next t => p t
  | .fault _ => True
  | .refused _ => True

/-! ### Requests -/

/-- Whether a request's path is served now: a frame that comes over it reaches MGT (R438, R448, R540, R546). -/
def State.serves (s : State) : Path → Bool
  | .net port ip udp assoc => s.netServed port ip udp assoc
  | .mailbox m => s.on && s.pcie.linkUp && !s.power.restarting && !(s.mailboxes[m]).ready

/-- A session as a new request finds it: its sequence used and its timeout restarted (R436, R437). -/
def Session.asking (x : Session) (r : Req) (now : Nat) : Session := { x with lastSeq := r.seq.toNat, lastNs := now }

/-- The state that a new request of a session finds: the frame counted, the session's sequence used (R437, R452). -/
def State.asked (s : State) (r : Req) (x : Session) : State := (s.frameHeard r.path).putSession (x.asking r s.ns)

/-- The counters that the frame of a request and the frame of its answer move, by their keys (R452, R474). -/
def pathCounters (p : Path) : List Nat :=
  match p with
  | .net port _ _ _ => [key Ix.sesFramesReceived 0, key Ix.netFramesReceived (port.val + 1), key Ix.netFramesSent (port.val + 1)]
  | .mailbox _ => [key Ix.sesFramesReceived 0]

/-- A request that is new: its path is served, it names the open session `x` of that path, and it is the next in order (R430, R437). -/
abbrev State.Asks (s : State) (r : Req) (x : Session) : Prop :=
  s.serves r.path = true ∧ s.sessions.find? (fun y => y.id == r.session.toNat && sessionFits r.path y) = some x ∧
  (x.lastSeq + 1) % 65536 = r.seq.toNat

/-- Whether a write of a value passes every check of R430 that lies before the object's own chapter. -/
def State.writeOk (s : State) (x : Session) (p : Path) (ix sub : Nat) (value : Octets) : Bool :=
  match (s.writeCheck x ix sub).2 with
  | some row =>
    match readOperand p row value with
    | some o => !s.valueBarred x ix sub o.num && s.stateAllows row ix sub && valueOk row o && !s.badObject ix sub
    | none => false
  | none => false

/-- A WRITE that is new and passes the checks of R430 before the object's own chapter. -/
abbrev State.Grants (s : State) (r : Req) (x : Session) (ix sub : Nat) (value : Octets) : Prop :=
  s.Asks r x ∧ (s.takeFree.asked r x).writeOk (x.asking r s.ns) r.path ix sub value = true ∧ s.power.resetDue = false

/-- Among what a command puts out is the answer to a request (R437). -/
def State.Answers (s t : State) (r : Req) (opcode : Nat) (c : Code) (payload : Octets) : Prop :=
  ∃ before after : List Output, t.out = s.out ++ before ++
    Output.response r.path r.session.toNat r.seq.toNat { opcode := opcode, status := c.value, payload := payload }
      (responseFrame (t.rd Ix.sysNodeID 0) r.path r.session.toNat r.seq.toNat { opcode := opcode, status := c.value, payload := payload }) :: after

/-! ### Memory errors -/

/-- The function that an uncorrectable error in a part faults, and the fault cause its chapter gives; none for an engine of SEG, which faults
alone, a queue's word and an object, which are marked (R504). -/
def eccFault : EccPart → Option (Fn × Nat)
  | .pscTable => some (.psc, 1)
  | .cptBuffer n => some (.cpt n, 2)
  | .iplTable p => some (.ipl p, 1)
  | .iplBuffer p => some (.ipl p, 2)
  | .stxStore => some (.stx, 1)
  | .brdBuffer n => some (.brd n, 1)
  | .mreField => some (.mre, 1)
  | .mreBuffer => some (.mre, 2)
  | .cdeBuffer => some (.cde, 1)
  | .segEngine _ => none
  | .segPool _ => some (.seg, 1)
  | .clsTable => some (.cls, 1)
  | .clsFifo => some (.cls, 2)
  | .pfcState => some (.pfc, 1)
  | .pfcBank => some (.pfc, 2)
  | .queue _ _ _ => none
  | .dmaStaging => some (.dma, 1)
  | .hrbStaging => some (.hrb, 1)
  | .dmcBuffer n => some (.dmc n, 2)
  | .evfRecord _ => some (.evf, 1)
  | .fnpBuffer n => some (.fnp n, 1)
  | .tbuSettings => some (.tbu, 1)
  | .calAccum => some (.cal, 1)
  | .bstPattern => some (.bst, 1)
  | .monRam => some (.mon, 1)
  | .pmcCounters => some (.pmc, 1)
  | .objectStore _ _ => none

/-- The count of corrected errors of a part's memory, by index and subindex, and its ECC_CORRECTED, by index, subindex and bit (R504); none where the
block has not both. -/
def eccCounted : EccPart → Option ((Nat × Nat) × (Nat × Nat × Nat))
  | .iplTable p => some ((Ix.iplCorrectedTableErrors, p.val + 1), (Ix.iplPipelineStatus, p.val + 1, 3))
  | .iplBuffer p => some ((Ix.iplCorrectedTableErrors, p.val + 1), (Ix.iplPipelineStatus, p.val + 1, 3))
  | .stxStore => some ((Ix.stxCorrectedStoreErrors, 0), (Ix.stxStitchStatus, 0, 8))
  | .mreField => some ((Ix.mreCorrectedBufferErrors, 0), (Ix.mreInspectionStatus, 0, 16))
  | .mreBuffer => some ((Ix.mreCorrectedBufferErrors, 0), (Ix.mreInspectionStatus, 0, 16))
  | .cdeBuffer => some ((Ix.cdeCorrectedBufferErrors, 0), (Ix.cdeEngineStatus, 0, 6))
  | .segEngine _ => some ((Ix.segCorrectedErrors, 0), (Ix.segDetectionStatus, 0, 6))
  | .segPool _ => some ((Ix.segCorrectedErrors, 0), (Ix.segDetectionStatus, 0, 6))
  | .clsTable => some ((Ix.clsCorrectedErrors, 0), (Ix.clsClassifierStatus, 0, 4))
  | .clsFifo => some ((Ix.clsCorrectedErrors, 0), (Ix.clsClassifierStatus, 0, 4))
  | .pfcState => some ((Ix.pfcCorrectedErrors, 0), (Ix.pfcFilterStatus, 0, 7))
  | .pfcBank => some ((Ix.pfcCorrectedErrors, 0), (Ix.pfcFilterStatus, 0, 7))
  | .hrbStaging => some ((Ix.hrbCorrectedErrors, 0), (Ix.hrbHistoryStatus, 0, 4))
  | .calAccum => some ((Ix.calCorrectedErrors, 0), (Ix.calCalibrationStatus, 0, 12))
  | .bstPattern => some ((Ix.bstCorrectedErrors, 0), (Ix.bstSelfTestStatus, 0, 10))
  | .monRam => some ((0x6E00, 0), (Ix.monRecorderStatus, 0, 2))
  | .dmaStaging => none
  | .dmcBuffer _ => none
  | .brdBuffer _ => none
  | .pscTable => none
  | .cptBuffer _ => none
  | .queue _ _ _ => none
  | .evfRecord _ => none
  | .fnpBuffer _ => none
  | .tbuSettings => none
  | .pmcCounters => none
  | .objectStore _ _ => none

/-! ### What may act beside a command -/

/-- No cause waits for EVF, and BST has neither a test nor a round under way: a command's effect is its own. -/
abbrev State.AtRest (s : State) : Prop := s.evf.inbox = [] ∧ s.bst.test = none ∧ s.bst.round = false

/-- EVF is not Running and no cause waits for it: events are discarded and counted, and fire nothing (R419). -/
abbrev State.EvfStill (s : State) : Prop := s.fabricRuns = false ∧ s.evf.inbox = []

end Sys2Proof.Machine
end

