-- ==== Sys2Proof/Certificates/Slice0/Obligations.lean ====
section
/-! DEFINITION. The statements for the provers. -/

open Sys2Proof Sys2Proof.Machine

/-- A step performs the command at the front of the queue, with the rest of the queue waiting on. Choices of the model it meets: log 1. -/
def Obligations.StepRunsFront : Prop :=
  ∀ (s : State) (c : Instr) (rest : List Instr), s.pending = c :: rest → step s = exec c { s with pending := rest }

/-- The commands of the function state machine (R21, R22): ARM, START, DISARM, STOP in Armed and CLEAR, each where the table of R22 lists
it. Entering a state writes State entry LP and time. -/
def Obligations.FunctionCommandsAct : Prop :=
  (∀ (s : State) (r : Req) (x : Session) (f : Fn), s.Grants r x (f.base + 1) f.sub (pathNum r.path 1 1) →
    (s.takeFree.asked r x).fn f = .stopped → (s.takeFree.asked r x).armAllowed f = true → (s.takeFree.asked r x).armable f = true →
    s.AtRest →
    ∃ t, exec (.arm r ⟨f, false⟩ true) s = .next t ∧ s.Answers t r 0x11 .ok [] ∧ t.fn f = .armed ∧
      t.rd (f.base + 5) f.sub = s.entryLp f % 2 ^ 64 ∧ t.rd (f.base + 6) f.sub = s.stamp % 2 ^ 64) ∧
  (∀ (s : State) (r : Req) (x : Session) (f : Fn), s.AtRest → f ≠ spareFn → s.Grants r x (f.base + 1) f.sub (pathNum r.path 1 2) →
    s.fn f = .armed →
    ∃ t, exec (.start r ⟨f, false⟩) s = .next t ∧ s.Answers t r 0x11 .ok [] ∧ t.fn f = .armed ∧
      t.bit (f.base + 4) f.sub flagStartPending = true ∧ t.octs = s.octs ∧ t.dram = s.dram ∧ t.evf = s.evf ∧
      ∀ ix sub, key ix sub ≠ key (f.base + 4) f.sub → key ix sub ∉ pathCounters r.path → t.rd ix sub = s.rd ix sub) ∧
  (∀ (s : State) (r : Req) (x : Session) (f : Fn) (c : Bool), s.AtRest → f ≠ spareFn →
    s.Grants r x (f.base + 1) f.sub (pathNum r.path 1 (if c then 5 else 3)) → s.fn f = .armed →
    ∃ t, exec (if c then .disarm r ⟨f, false⟩ else .stop r ⟨f, false⟩) s = .next t ∧ s.Answers t r 0x11 .ok [] ∧ t.fn f = .stopped ∧
      t.bit (f.base + 4) f.sub flagStartPending = false ∧ t.rd (f.base + 5) f.sub = s.entryLp f % 2 ^ 64 ∧
      t.rd (f.base + 6) f.sub = s.stamp % 2 ^ 64 ∧ t.octs = s.octs ∧ t.dram = s.dram) ∧
  (∀ (s : State) (r : Req) (x : Session) (f : Fn), s.AtRest → s.Grants r x (f.base + 1) f.sub (pathNum r.path 1 6) → s.fn f = .faulted →
    (∀ p, f = .ipl p → s.substituted p.val = false) →
    ∃ t, exec (.clear r ⟨f, false⟩) s = .next t ∧ s.Answers t r 0x11 .ok [] ∧ t.fn f = .stopped ∧ t.rd (f.base + 3) f.sub = s.rd (f.base + 3) f.sub ∧
      t.octs = s.octs ∧ t.dram = s.dram)

/-- Commands that the state does not admit (R22), or that meet a fault of the function in their cycle (R25): "wrong state", CMD_REJECTED
sets, and nothing of the function changes. IPL16 takes none but ABORT and CLEAR (R144). Choices of the model it meets: log 117. -/
def Obligations.FunctionCommandsRefused : Prop :=
  (∀ (s : State) (r : Req) (x : Session) (f : Fn) (v : Nat) (c : Instr) (m : Bool), s.AtRest → f ≠ spareFn →
    (v, c) ∈ [(1, .arm r ⟨f, m⟩ true), (2, .start r ⟨f, m⟩), (3, .stop r ⟨f, m⟩), (4, .abort r ⟨f, m⟩), (5, .disarm r ⟨f, m⟩), (6, .clear r ⟨f, m⟩)] →
    s.Grants r x (f.base + 1) f.sub (pathNum r.path 1 v) →
    (v = 1 ∧ s.fn f ≠ .stopped) ∨ ((v = 2 ∨ v = 5) ∧ s.fn f ≠ .armed) ∨ (v = 3 ∧ (s.fn f = .stopped ∨ s.fn f = .faulted)) ∨
      (v = 4 ∧ s.fn f ≠ .running ∧ s.fn f ≠ .draining) ∨ (v = 6 ∧ s.fn f ≠ .faulted) ∨ m = true →
    ∃ t, exec c s = .next t ∧ s.Answers t r 0x11 .wrongState [] ∧ t.bit (f.base + 4) f.sub flagCmdRejected = true ∧
      t.octs = s.octs ∧ t.dram = s.dram ∧ t.evf = s.evf ∧ t.psc = s.psc ∧ t.dma = s.dma ∧
      ∀ ix sub, key ix sub ≠ key (f.base + 4) f.sub → key ix sub ∉ pathCounters r.path → t.rd ix sub = s.rd ix sub) ∧
  (∀ (s : State) (r : Req) (x : Session) (v : Nat) (c : Instr), s.AtRest →
    (v, c) ∈ [(1, .arm r ⟨spareFn, false⟩ true), (2, .start r ⟨spareFn, false⟩), (3, .stop r ⟨spareFn, false⟩), (5, .disarm r ⟨spareFn, false⟩)] →
    s.Grants r x (spareFn.base + 1) spareFn.sub (pathNum r.path 1 v) →
    ∃ t, exec c s = .next t ∧ s.Answers t r 0x11 .wrongState [] ∧ t.fn spareFn = s.fn spareFn ∧ t.spare = s.spare)

/-- The start points (R23): a function of the image path enters Running at the first line of a strip, any other at once; away from its start
point it waits in Armed. -/
def Obligations.StartPointsReached : Prop :=
  ∀ (s : State) (f : Fn) (line : Nat), s.on = true → s.AtRest → s.fn f = .armed → s.bit (f.base + 4) f.sub flagStartPending = true →
    let image := (∃ n, f = .cpt n) ∨ (∃ n, f = .ipl n) ∨ f ∈ [Fn.stx, .mre, .seg, .cls, .pfc, .hrb]
    (image ∧ line % s.rd Ix.cptStripLength 0 ≠ 0 → exec (.startPointReached f line) s = .next s) ∧
    (¬image ∨ line % s.rd Ix.cptStripLength 0 = 0 →
      ∃ t, exec (.startPointReached f line) s = .next t ∧ t.fn f = .running ∧ t.bit (f.base + 4) f.sub flagStartPending = false ∧
        t.rd (f.base + 5) f.sub = s.entryLp f % 2 ^ 64 ∧ t.rd (f.base + 6) f.sub = s.stamp % 2 ^ 64)

/-- Leaving Running (R22, R24): STOP begins a drain, ABORT one that is cut off at once; the end of the work or the drain timeout ends it,
and the timeout shows. The image path's functions that pass work on when cut off stand in a statement of their own. Choices of the model it
meets: log 117. -/
def Obligations.FunctionsDrain : Prop :=
  (∀ (s : State) (r : Req) (x : Session) (f : Fn), s.AtRest → f ≠ spareFn → s.Grants r x (f.base + 1) f.sub (pathNum r.path 1 3) →
    s.fn f = .running →
    ∃ t, exec (.stop r ⟨f, false⟩) s = .next t ∧ s.Answers t r 0x11 .ok [] ∧ t.fn f = .draining ∧ t.rd (f.base + 5) f.sub = s.entryLp f % 2 ^ 64) ∧
  (∀ (s : State) (f : Fn), s.on = true → s.AtRest → s.fn f = .draining → f ∈ s.cut ∨ s.drained f = true →
    ∃ t, exec (.drainComplete f) s = .next t ∧ t.fn f = .stopped ∧ t.rd (f.base + 5) f.sub = s.entryLp f % 2 ^ 64 ∧ f ∉ t.cut) ∧
  (∀ (s : State) (f : Fn), s.on = true → s.AtRest → s.fn f = .draining → f ∉ s.cut → s.drained f = false →
    exec (.drainComplete f) s = .next s) ∧
  (∀ (f : Fn), f ∈ [Fn.wpu, .psc, .evf, .cq, .sq, .xq, .pcie, .tbu, .pmc, .mon, .bst] ∨ (∃ n, f = .brd n) ∨ (∃ n, f = .fnp n) →
    (∀ (s : State) (r : Req) (x : Session), s.AtRest → s.Grants r x (f.base + 1) f.sub (pathNum r.path 1 4) →
      s.fn f = .running ∨ s.fn f = .draining →
      ∃ t, exec (.abort r ⟨f, false⟩) s = .next t ∧ s.Answers t r 0x11 .ok [] ∧ t.fn f = .draining ∧
        t.bit (f.base + 4) f.sub flagDrainTimeout = true) ∧
    (∀ (s : State), s.on = true → s.AtRest → s.fn f = .draining → f ∉ s.cut →
      ∃ t, exec (.drainTimeout f) s = .next t ∧ t.fn f = .stopped ∧ t.bit (f.base + 4) f.sub flagDrainTimeout = true))

/-- ABORT and the drain timeout of the functions that pass work on when they are cut off (R22, R24). -/
def Obligations.ImageFunctionsCut : Prop :=
  ∀ (f : Fn), f ∈ [Fn.stx, .mre, .cde, .seg, .cls, .pfc, .hrb, .dma, .cal] ∨ (∃ n, f = .cpt n) ∨ (∃ n : Fin 17, n.val < 16 ∧ f = .ipl n) ∨
    (∃ n, f = .dmc n) →
    (∀ (s : State) (r : Req) (x : Session), s.AtRest → s.Grants r x (f.base + 1) f.sub (pathNum r.path 1 4) →
      s.fn f = .running ∨ s.fn f = .draining →
      ∃ t, exec (.abort r ⟨f, false⟩) s = .next t ∧ s.Answers t r 0x11 .ok [] ∧ t.fn f = .draining ∧
        t.bit (f.base + 4) f.sub flagDrainTimeout = true) ∧
    (∀ (s : State), s.on = true → s.AtRest → s.fn f = .draining → f ∉ s.cut →
      ∃ t, exec (.drainTimeout f) s = .next t ∧ t.fn f = .stopped ∧ t.bit (f.base + 4) f.sub flagDrainTimeout = true)

/-- An uncorrectable error in a function's memory faults it with its cause, records the address and raises vector 37 (R22, R371, R504); an
object's parity error marks the object; a corrected error is counted and shows. Choices of the model it meets: log 34, 119. -/
def Obligations.MemoryErrorsReported : Prop :=
  (∀ (s : State) (part : EccPart) (address : BitVec 32) (f : Fn) (cause : Nat), s.on = true → s.AtRest → s.runs .bst = false →
    s.fn f = .stopped ∨ s.fn f = .armed → (∀ n, f ≠ .cpt n) →
    eccFault part = some (f, cause) →
    ∃ t, exec (.uncorrectableError part address) s = .next t ∧ t.fn f = .faulted ∧ t.rd (f.base + 3) f.sub = cause ∧
      t.rd (f.base + 5) f.sub = s.entryLp f % 2 ^ 64 ∧
      ((∀ n : Fin 17, f ≠ .ipl n) →
        t.out = s.out ++ (if s.pcie.linkUp && s.pcie.busMaster then [Output.msix 37] else []) ∧ t.octs = s.octs ∧ t.dram = s.dram)) ∧
  (∀ (s : State) (part : EccPart) (address : BitVec 32) (f : Fn) (cause : Nat), s.on = true → s.EvfStill → s.bst.test = none →
    s.bst.round = false → s.runs .bst = false → s.fn f ≠ .faulted → eccFault part = some (f, cause) →
    ∃ t, exec (.uncorrectableError part address) s = .next t ∧ t.fn f = .faulted ∧ t.rd (f.base + 3) f.sub = cause ∧
      t.rd (f.base + 5) f.sub = s.entryLp f % 2 ^ 64 ∧ t.rd (f.base + 6) f.sub = s.stamp % 2 ^ 64) ∧
  (∀ (s : State) (e : Fin 36) (address : BitVec 32), s.on = true → s.EvfStill → s.bst.test = none → s.bst.round = false →
    s.runs .bst = false → s.rd Ix.segEngineState (e.val + 1) ≠ 4 →
    ∃ t, exec (.uncorrectableError (.segEngine e) address) s = .next t ∧ t.rd Ix.segEngineState (e.val + 1) = 4) ∧
  (∀ (s : State) (q : Fin 3) (packet word : Nat) (address : BitVec 32) (ws : List QWord) (w : QWord), s.on = true → s.AtRest →
    s.queues[q].packets[packet]? = some ws → ws[word]? = some w →
    ∃ t, exec (.uncorrectableError (.queue q packet word) address) s = .next t ∧
      t.queues[q].packets[packet]? = some (ws.set word { w with parity := !w.parity }) ∧ t.regs = s.regs ∧ t.out = s.out) ∧
  (∀ (s : State) (ix : BitVec 16) (sub : BitVec 8) (address : BitVec 32), s.on = true → s.AtRest →
    ∃ t, exec (.uncorrectableError (.objectStore ix sub) address) s = .next t ∧ t.badObject ix.toNat sub.toNat = true ∧
      t.regs = s.regs ∧ t.octs = s.octs ∧ t.out = s.out) ∧
  (∀ (s : State) (part : EccPart) (ix sub sx ssub b : Nat), s.on = true → eccCounted part = some ((ix, sub), (sx, ssub, b)) →
    ∃ t, exec (.correctedError part) s = .next t ∧ t.rd ix sub = min (s.rd ix sub + 1) (2 ^ 32 - 1) ∧ t.bit sx ssub b = true ∧
      t.octs = s.octs ∧ t.dram = s.dram ∧ t.out = s.out ∧
      ∀ jx jub, key jx jub ≠ key ix sub → key jx jub ≠ key sx ssub → t.rd jx jub = s.rd jx jub) ∧
  (∀ (s : State) (n : Fin 4), s.on = true →
    ∃ t, exec (.correctedError (.brdBuffer n)) s = .next t ∧ t.bit Ix.brdLinkStatus (n.val + 1) 9 = true ∧ t.out = s.out) ∧
  (∀ (s : State), s.on = true →
    ∃ t, exec (.correctedError .dmaStaging) s = .next t ∧ t.rd Ix.dlvCorrectedErrors 0 = min (s.rd Ix.dlvCorrectedErrors 0 + 1) (2 ^ 32 - 1) ∧
      t.dma = s.dma) ∧
  (∀ (s : State) (n : Fin 8), s.on = true →
    ∃ t, exec (.correctedError (.dmcBuffer n)) s = .next t ∧
      t.rd Ix.dmcCorrectedBufferErrors 0 = min (s.rd Ix.dmcCorrectedBufferErrors 0 + 1) (2 ^ 32 - 1) ∧ t.dram = s.dram) ∧
  (∀ (s : State) (part : EccPart), s.on = true →
    part ∈ [EccPart.pscTable, .tbuSettings, .pmcCounters] ∨ (∃ n, part = .cptBuffer n) ∨ (∃ n, part = .fnpBuffer n) ∨ (∃ c, part = .evfRecord c) →
    exec (.correctedError part) s = .next s) ∧
  (∀ (s : State) (q : Fin 3) (packet word : Nat), s.on = true → exec (.correctedError (.queue q packet word)) s = .next s) ∧
  (∀ (s : State) (ix : BitVec 16) (sub : BitVec 8), s.on = true → exec (.correctedError (.objectStore ix sub)) s = .next s)

/-- Encoder transitions (R34, R35, R42 to R45): a legal X4 transition moves the raw count by one, an illegal one is counted and moves
nothing, and a forward count of the selected source moves LP and the accumulator by exactly one count of travel. Choices of the model it
meets: log 18, 19. -/
def Obligations.EncodersCount : Prop :=
  (∀ (s : State) (dt : Nat) (n : Fin 4) (a b : Bool), s.clocked = true → s.EvfStill → s.rd Ix.wpuEncoderMode (n.val + 1) = 1 →
    s.source ≠ n.val → ((s.wpu.enc[n]).a == a) ≠ ((s.wpu.enc[n]).b == b) →
    ∃ t d, exec (.encoderTransition dt n a b) s = .next t ∧
      d = (if grayPlace a b = (grayPlace (s.wpu.enc[n]).a (s.wpu.enc[n]).b + 1) % 4 then (1 : Int) else -1) ∧
      t.rd Ix.wpuEncoderRawCount (n.val + 1) = toPattern 64 (s.rdI Ix.wpuEncoderRawCount (n.val + 1) + d) ∧
      (t.wpu.enc[n]).a = a ∧ (t.wpu.enc[n]).b = b ∧ t.rd Ix.wpuLP 0 = s.rd Ix.wpuLP 0 ∧ t.ns = s.ns + 5 * dt) ∧
  (∀ (s : State) (dt : Nat) (n : Fin 4), s.clocked = true → s.EvfStill → 1 ≤ s.rd Ix.wpuEncoderMode (n.val + 1) →
    s.rd Ix.wpuEncoderMode (n.val + 1) ≤ 3 → s.source ≠ n.val →
    ∃ t, exec (.encoderTransition dt n (!(s.wpu.enc[n]).a) (!(s.wpu.enc[n]).b)) s = .next t ∧
      t.rd Ix.wpuQERRCount (n.val + 1) = min (s.rd Ix.wpuQERRCount (n.val + 1) + 1) (2 ^ 32 - 1) ∧
      t.bit Ix.wpuEncoderStatus (n.val + 1) 0 = true ∧ t.rd Ix.wpuEncoderRawCount (n.val + 1) = s.rd Ix.wpuEncoderRawCount (n.val + 1) ∧
      t.rd Ix.wpuLP 0 = s.rd Ix.wpuLP 0) ∧
  (∀ (s : State) (n : Fin 4) (k v : Nat), s.clocked = true → s.EvfStill → s.runs .wpu = true → s.source = n.val →
    s.rd Ix.wpuEncoderMode (n.val + 1) = 1 → s.rd Ix.wpuDirectionInvert 0 = 0 → (s.wpu.enc[n]).a = false → (s.wpu.enc[n]).b = false →
    s.rdI Ix.wpuEncoderRawCount (n.val + 1) = s.rdI Ix.wpuPositionCount 0 → s.rdI Ix.wpuPositionCount 0 < 2 ^ 62 →
    -2 ^ 62 < s.rdI Ix.wpuPositionCount 0 → k = s.rd Ix.wpuLinePitch 1 → 0 < k → k < 2 ^ 64 →
    v = s.rd Ix.wpuLP 0 * k + s.rd Ix.wpuLPAccumulator 0 + 2 ^ 48 → v < 2 ^ 64 * k →
    (∀ i : Fin 24, s.rd Ix.wpuSpacingMode (i.val + 1) = 0) → s.psc.entries = [] → s.retirementDue = false →
    ∃ t, exec (.encoderTransition 0 n true false) s = .next t ∧ t.rd Ix.wpuLP 0 * k + t.rd Ix.wpuLPAccumulator 0 = v ∧
      t.rd Ix.wpuLPAccumulator 0 < k ∧ t.rdI Ix.wpuPositionCount 0 = s.rdI Ix.wpuPositionCount 0 + 1)

/-- Line faults and index pulses of the encoders (R36, R37). -/
def Obligations.EncoderLinesWatched : Prop :=
  (∀ (s : State) (n : Fin 4) (line : EncLine), s.clocked = true → s.evf.inbox = [] → s.rd Ix.wpuEncoderElectrical (n.val + 1) ≠ 2 →
    s.rd Ix.wpuLineFaultEnable (n.val + 1) = 0 →
    ∃ t, exec (.lineFault n line) s = .next t ∧ t.bit Ix.wpuEncoderStatus (n.val + 1) (encLineFlag line) = true ∧
      t.bit Ix.wpuEncoderStatus (n.val + 1) 5 = true ∧ t.octs = s.octs ∧ t.wpu = s.wpu ∧ t.psc = s.psc ∧ t.dram = s.dram ∧
      ∀ ix sub, key ix sub ≠ key Ix.wpuEncoderStatus (n.val + 1) → t.rd ix sub = s.rd ix sub) ∧
  (∀ (s : State) (n : Fin 4), s.clocked = true → s.evf.inbox = [] → s.rd Ix.wpuEncoderElectrical (n.val + 1) ≠ 2 →
    s.rd Ix.wpuLineFaultEnable (n.val + 1) = 1 → s.source = n.val → s.fn .wpu ≠ .faulted →
    ∃ t, exec (.lineFault n .a) s = .next t ∧ t.fn .wpu = .faulted ∧ t.rd 0x2003 0 = 2 ∧ t.rd Ix.wpuLP 0 = s.rd Ix.wpuLP 0) ∧
  (∀ (s : State) (n : Fin 4) (line : EncLine), s.clocked = true →
    ∃ t, exec (.lineFaultEnd n line) s = .next t ∧ t.bit Ix.wpuEncoderStatus (n.val + 1) (encLineFlag line) = false ∧ t.octs = s.octs ∧
      t.wpu = s.wpu ∧ ∀ ix sub, key ix sub ≠ key Ix.wpuEncoderStatus (n.val + 1) → t.rd ix sub = s.rd ix sub) ∧
  (∀ (s : State) (dt : Nat) (n : Fin 4) (p : Published), s.clocked = true → s.EvfStill → s.rd Ix.wpuEncoderMode (n.val + 1) ≠ 0 →
    publishedAt s.wpu.history (s.ns + 5 * dt - 5 * (s.rd Ix.wpuEncoderFilterLength (n.val + 1) + 2)) = some p →
    ∃ t, exec (.encoderIndex dt n) s = .next t ∧ t.rd Ix.wpuIndexLP (n.val + 1) = p.lp % 2 ^ 64 ∧
      t.rd Ix.wpuIndexCount (n.val + 1) = (s.rd Ix.wpuIndexCount (n.val + 1) + 1) % 2 ^ 32 ∧ t.rd Ix.wpuLP 0 = s.rd Ix.wpuLP 0 ∧ t.wpu = s.wpu)

/-- Serial inputs (R38 to R40): a poll clocks a frame; a good frame moves the input by the signed difference of its words; a bad one and one
that does not come are counted and move nothing. Choices of the model it meets: log 20, 22. -/
def Obligations.SerialInputsRead : Prop :=
  (∀ (s : State) (n : Fin 2), s.clocked = true → s.rd Ix.wpuSerialMode (n.val + 1) ≠ 0 →
    ∃ t, exec (.serialPoll n) s = .next t ∧ (t.wpu.ser[n]).polling = true ∧ t.regs = s.regs ∧ t.octs = s.octs ∧ t.out = s.out) ∧
  (∀ (s : State) (dt : Nat) (n : Fin 2) (word : BitVec 40) (crc : BitVec 6) (e w : Bool) (old k : Nat), s.clocked = true → s.EvfStill →
    s.rd Ix.wpuSerialMode (n.val + 1) = 2 → (s.wpu.ser[n]).polling = true → (s.wpu.ser[n]).ref = some old → s.source ≠ n.val + 4 →
    k = s.rd Ix.wpuSerialPositionWidth (n.val + 1) → old < 2 ^ k → k ≤ 40 →
    ∃ t d, exec (.serialFrame dt n word crc e w) s = .next t ∧
      d = ofPattern k ((word.toNat % 2 ^ k + 2 ^ k - old) % 2 ^ k) ∧ (t.wpu.ser[n]).count = (s.wpu.ser[n]).count + d ∧
      (t.wpu.ser[n]).ref = some (word.toNat % 2 ^ k) ∧ (t.wpu.ser[n]).bad = 0 ∧ (t.wpu.ser[n]).polling = false ∧
      t.rd Ix.wpuSerialRawPosition (n.val + 1) = word.toNat % 2 ^ k ∧ t.rd Ix.wpuLP 0 = s.rd Ix.wpuLP 0) ∧
  (∀ (s : State) (dt : Nat) (n : Fin 2) (word : BitVec 40) (crc : BitVec 6) (w : Bool), s.clocked = true → s.EvfStill →
    s.rd Ix.wpuSerialMode (n.val + 1) = 1 → (s.wpu.ser[n]).polling = true → s.source ≠ n.val + 4 →
    ∃ t, exec (.serialFrame dt n word crc false w) s = .next t ∧
      t.rd Ix.wpuSerialErrorCount (n.val + 1) = min (s.rd Ix.wpuSerialErrorCount (n.val + 1) + 1) (2 ^ 32 - 1) ∧
      (t.wpu.ser[n]).bad = (s.wpu.ser[n]).bad + 1 ∧ (t.wpu.ser[n]).count = (s.wpu.ser[n]).count ∧
      t.bit Ix.wpuSerialStatus (n.val + 1) 0 = true) ∧
  (∀ (s : State) (n : Fin 2), s.clocked = true → s.EvfStill → s.rd Ix.wpuSerialMode (n.val + 1) ≠ 0 → (s.wpu.ser[n]).polling = true →
    s.source ≠ n.val + 4 →
    ∃ t, exec (.serialFrameTimeout n) s = .next t ∧
      t.rd Ix.wpuSerialErrorCount (n.val + 1) = min (s.rd Ix.wpuSerialErrorCount (n.val + 1) + 1) (2 ^ 32 - 1) ∧
      (t.wpu.ser[n]).polling = false ∧ (t.wpu.ser[n]).count = (s.wpu.ser[n]).count)

/-- Speed at rest and probes (R53, R54, R60 to R62): the reported speed falls as no change of P comes, a standstill shows and empties the
buffer, a probe latches the LP of its edge, and its records leave through XQ in order. Choices of the model it meets: log 23. -/
def Obligations.SpeedAndProbes : Prop :=
  (∀ (s : State) (dt e : Nat) (buf : List (Nat × Nat)), s.clocked = true → s.EvfStill →
    buf = s.wpu.periods.take (s.rd Ix.wpuSpeedAveraging 0) → buf ≠ [] → e = (s.ns + 5 * dt) / 5 - s.wpu.lastChange →
    sumCycles buf < e * sumCounts buf → s.bit Ix.wpuPositionStatus 0 psDir = false →
    ∃ t, exec (.speedDecay dt) s = .next t ∧
      t.rd Ix.wpuSpeedLines 0 = min (256 * 200000000 * 2 ^ 32 / (e * s.rd Ix.wpuLinePitch 1)) (2 ^ 31 - 1) ∧
      t.bit Ix.wpuPositionStatus 0 psSpeedValid = true ∧ t.rd Ix.wpuLP 0 = s.rd Ix.wpuLP 0) ∧
  (∀ (s : State) (dt : Nat), s.clocked = true → s.EvfStill → s.bit Ix.wpuPositionStatus 0 psStandstill = false →
    ∃ t, exec (.standstill dt) s = .next t ∧ t.bit Ix.wpuPositionStatus 0 psStandstill = true ∧
      t.bit Ix.wpuPositionStatus 0 psStandstillSeen = true ∧ t.bit Ix.wpuPositionStatus 0 psSpeedValid = false ∧
      t.rd Ix.wpuSpeedLines 0 = 0 ∧ t.wpu.periods = [] ∧ t.rd Ix.wpuLP 0 = s.rd Ix.wpuLP 0) ∧
  (∀ (s : State) (dt : Nat) (n : Fin 8) (rising : Bool) (p : Published), s.clocked = true → s.EvfStill →
    (s.rd Ix.wpuProbeEdge (n.val + 1) = 3 ∨ s.rd Ix.wpuProbeEdge (n.val + 1) = if rising then 1 else 2) →
    publishedAt s.wpu.history (s.ns + 5 * dt - 5 * (s.rd Ix.wpuProbeFilterLength (n.val + 1) + 2)) = some p → p.running = true →
    s.rd Ix.wpuLockout (n.val + 1) ≤ (if s.rd Ix.wpuLatchedLP (n.val + 1) ≤ p.lp then p.lp - s.rd Ix.wpuLatchedLP (n.val + 1)
      else s.rd Ix.wpuLatchedLP (n.val + 1) - p.lp) → (s.wpu.probes[n]).length < 16 →
    ∃ t l, exec (.probeEdge dt n rising) s = .next t ∧ t.rd Ix.wpuLatchCount (n.val + 1) = (s.rd Ix.wpuLatchCount (n.val + 1) + 1) % 2 ^ 64 ∧
      t.rd Ix.wpuLatchedLP (n.val + 1) = p.lp % 2 ^ 64 ∧ t.wpu.probes[n] = s.wpu.probes[n] ++ [l] ∧ l.lp = p.lp ∧ l.rising = rising ∧
      l.count = t.rd Ix.wpuLatchCount (n.val + 1) ∧ t.rd Ix.wpuLP 0 = s.rd Ix.wpuLP 0) ∧
  (∀ (s : State) (n : Fin 8) (l : ProbeLatch) (ls : List ProbeLatch), s.clocked = true → s.wpu.probes[n] = l :: ls → s.runs .xq = true →
    (s.queues[xqIx]).lostPackets = 0 → s.depth xqIx + 4 ≤ 16384 →
    ∃ t, exec (.probeRecordOffer n) s = .next t ∧ t.wpu.probes[n] = ls ∧
      (t.queues[xqIx]).packets = (s.queues[xqIx]).packets ++ [packetOf false (wordsOf 4 (probeRecord n.val l))] ∧
      t.rd Ix.dlvPacketsPushed 3 = (s.rd Ix.dlvPacketsPushed 3 + 1) % 2 ^ 64)

/-- The writes of WPU's block that act (R42, R45 to R47, R52, R58): LP preset, line pitch, position source, an input's mode, a spacing
compare. -/
def Obligations.PositionWritesAct : Prop :=
  (∀ (s : State) (r : Req) (x : Session) (v : Nat), s.EvfStill → s.Grants r x Ix.wpuLPPresetCommand 0 (pathNum r.path 1 1) →
    v = s.rd Ix.wpuLPPresetValue 0 → v < 2 ^ 64 →
    ∃ t, exec (.lpPreset r 1) s = .next t ∧ s.Answers t r 0x11 .ok [] ∧ t.rd Ix.wpuLP 0 = v ∧ t.rd Ix.wpuLPAccumulator 0 = 0 ∧
      t.bit Ix.wpuPositionStatus 0 psHwNone = decide (v = 0) ∧ (v ≠ 0 → t.rd Ix.wpuHighWaterLP 0 = v - 1) ∧
      t.psc.entries = s.psc.entries) ∧
  (∀ (s : State) (r : Req) (x : Session) (v : BitVec 64), s.EvfStill → s.Grants r x Ix.wpuLinePitch 1 (pathNum r.path 8 v.toNat) →
    ∃ t, exec (.countsPerLineWrite r v) s = .next t ∧ s.Answers t r 0x11 .ok [] ∧ t.rd Ix.wpuLinePitch 1 = v.toNat ∧
      t.rd Ix.wpuLPAccumulator 0 = 0 ∧ t.wpu.periods = [] ∧ t.rd Ix.wpuLP 0 = s.rd Ix.wpuLP 0 ∧ t.psc = s.psc) ∧
  (∀ (s : State) (r : Req) (x : Session) (v : BitVec 8), s.EvfStill → s.Grants r x Ix.wpuPositionSource 0 (pathNum r.path 1 v.toNat) →
    ∃ t, exec (.positionSourceWrite r v) s = .next t ∧ s.Answers t r 0x11 .ok [] ∧ t.rd Ix.wpuPositionSource 0 = v.toNat ∧
      t.rd Ix.wpuPositionCount 0 = toPattern 64 (s.countOf v.toNat) ∧ t.wpu.periods = [] ∧ t.rd Ix.wpuLP 0 = s.rd Ix.wpuLP 0) ∧
  (∀ (s : State) (r : Req) (x : Session) (n : Fin 4) (v : BitVec 8), s.EvfStill →
    s.Grants r x Ix.wpuEncoderMode (n.val + 1) (pathNum r.path 1 v.toNat) →
    ∃ t, exec (.encoderModeWrite r (n.castLE (by decide)) v) s = .next t ∧ s.Answers t r 0x11 .ok [] ∧
      t.rd Ix.wpuEncoderMode (n.val + 1) = v.toNat ∧ (t.wpu.enc[n]).illegal = [] ∧ t.rd Ix.wpuLP 0 = s.rd Ix.wpuLP 0) ∧
  (∀ (s : State) (r : Req) (x : Session) (n : Fin 2) (v : BitVec 8), s.EvfStill →
    s.Grants r x Ix.wpuSerialMode (n.val + 1) (pathNum r.path 1 v.toNat) →
    ∃ t, exec (.encoderModeWrite r (n.natAdd 4) v) s = .next t ∧ s.Answers t r 0x11 .ok [] ∧
      t.rd Ix.wpuSerialMode (n.val + 1) = v.toNat ∧ (t.wpu.ser[n]).ref = none ∧ t.rd Ix.wpuLP 0 = s.rd Ix.wpuLP 0) ∧
  (∀ (s : State) (r : Req) (x : Session) (n : Fin 24) (v : BitVec 64), s.EvfStill →
    s.Grants r x Ix.wpuSpacingCompare (n.val + 1) (pathNum r.path 8 v.toNat) → s.runs .wpu = false ∨ s.rd Ix.wpuSpacingMode (n.val + 1) = 0 →
    ∃ t, exec (.spacingCompareWrite r n v) s = .next t ∧ s.Answers t r 0x11 .ok [] ∧ t.rd Ix.wpuSpacingCompare (n.val + 1) = v.toNat ∧
      t.wpu.spent[n] = false ∧ t.rd Ix.wpuHitCount (n.val + 1) = s.rd Ix.wpuHitCount (n.val + 1) ∧ t.rd Ix.wpuLP 0 = s.rd Ix.wpuLP 0)

/-- The scheduler (R67 to R74, R82): a request is stored with its Lead taken off, or is late, counted and dropped; a tag cancels its
entries; a pulse ends after its width or at the width cap; a force holds a pin. Choices of the model it meets: log 27, 29. -/
def Obligations.SchedulerActs : Prop :=
  (∀ (s : State) (r : Req) (x : Session) (target : BitVec 64) (action tag : BitVec 32) (e : PscEntry), s.EvfStill →
    s.Grants r x Ix.pscScheduleRequest 0 (leBytes 8 target.toNat ++ leBytes 4 action.toNat ++ leBytes 4 tag.toNat) → s.runs .psc = true →
    actionOk action.toNat = true → actKind action.toNat ≠ 4 → s.psc.entries.length < 512 →
    e = { slot := freeSlot s.psc.entries 0, target := target.toNat - s.rd Ix.pscLead (actNumber action.toNat + 1), action := action.toNat,
          tag := tag.toNat } →
    (targetMet (s.rd Ix.wpuLP 0) e.target e.action = false →
      ∃ t, exec (.scheduleRequest r target action tag) s = .next t ∧ s.Answers t r 0x11 .ok [] ∧
        t.psc.entries = insertEntry e s.psc.entries ∧ t.psc.outs = s.psc.outs ∧ t.rd Ix.pscLateCount 0 = s.rd Ix.pscLateCount 0) ∧
    (targetMet (s.rd Ix.wpuLP 0) e.target e.action = true → actLateFire e.action = false → actRecord e.action = false →
      ∃ t, exec (.scheduleRequest r target action tag) s = .next t ∧ s.Answers t r 0x11 .ok [] ∧ t.psc = s.psc ∧
        t.rd Ix.pscLateCount 0 = (s.rd Ix.pscLateCount 0 + 1) % 2 ^ 64 ∧ t.bit Ix.pscSchedulerStatus 0 0 = true)) ∧
  (∀ (s : State) (r : Req) (x : Session) (tag : BitVec 32), s.Grants r x Ix.pscCancelTag 0 (pathNum r.path 4 tag.toNat) →
    ∃ t, exec (.cancelTag r tag) s = .next t ∧ s.Answers t r 0x11 .ok [] ∧
      t.psc.entries = s.psc.entries.filter (fun e => e.tag != tag.toNat) ∧ t.psc.outs = s.psc.outs ∧
      t.rd Ix.pscCancelCount 0 % 2 ^ 64 = (s.rd Ix.pscCancelCount 0 + s.psc.entries.countP (fun e => e.tag == tag.toNat)) % 2 ^ 64) ∧
  (∀ (s : State) (n : Fin 48) (p : Pulse), s.clocked = true → (s.psc.outs[n]).pulse = some p → p.inLp = false →
    ∃ t, exec (.pulseWidthEnd n) s = .next t ∧ t.psc.outs[n] = { active := false, pulse := none } ∧
      t.psc.entries = s.psc.entries ∧ t.regs = s.regs ∧ ∀ m, m ≠ n → t.psc.outs[m] = s.psc.outs[m]) ∧
  (∀ (s : State) (n : Fin 48) (p : Pulse), s.clocked = true → (s.psc.outs[n]).pulse = some p →
    ∃ t, exec (.widthCap n) s = .next t ∧ t.psc.outs[n] = { active := false, pulse := none } ∧ t.bit Ix.pscSchedulerStatus 0 3 = true ∧
      ∀ m, m ≠ n → t.psc.outs[m] = s.psc.outs[m]) ∧
  (∀ (s : State) (r : Req) (x : Session) (n : Fin 48) (v : BitVec 8), s.Grants r x Ix.pscForce (n.val + 1) (pathNum r.path 1 v.toNat) →
    ∃ t, exec (.force r n v) s = .next t ∧ s.Answers t r 0x11 .ok [] ∧ t.psc = s.psc ∧
      (s.clocked = true → v = 1 → t.pinLevel n.val = false) ∧ (s.clocked = true → v = 2 → t.pinLevel n.val = true) ∧
      ∀ m, m ≠ n → t.pinLevel m.val = s.pinLevel m.val)

/-- How a camera's link comes up (R90, R91): discovery finds nothing, a camera that matches, or one that does not; training locks, or fails,
backs off and is tried once more. Choices of the model it meets: log 37. -/
def Obligations.CameraLinksTrain : Prop :=
  (∀ (s : State) (n : Fin 32), s.clocked = true → s.rd Ix.cptLaneCount (n.val + 1) ≠ 0 → s.rd Ix.cptLinkState (n.val + 1) ≠ 2 →
    s.rd Ix.cptLinkState (n.val + 1) ≠ 3 →
    ∃ t, exec (.discoveryAttempt n []) s = .next t ∧ t.rd Ix.cptLinkState (n.val + 1) = 1 ∧ t.cpt = s.cpt ∧ t.octs = s.octs) ∧
  (∀ (s : State) (n : Fin 32) (x : CxpConn) (xs : List CxpConn), s.clocked = true → s.rd Ix.cptLaneCount (n.val + 1) ≠ 0 →
    s.rd Ix.cptLinkState (n.val + 1) ≠ 2 → s.rd Ix.cptLinkState (n.val + 1) ≠ 3 →
    connsMatch (s.rd Ix.cptLaneCount (n.val + 1)) (x :: xs) = true → (s.cpt[n]).known = none →
    ∃ t, exec (.discoveryAttempt n (x :: xs)) s = .next t ∧ t.rd Ix.cptLinkState (n.val + 1) = 2 ∧ (t.cpt[n]).train = .first ∧
      (t.cpt[n]).found = some (x.identity, connLayout (x :: xs)) ∧
      t.out = s.out ++ [Output.connectionConfig n.val (t.cpt[n]).rate (s.rd Ix.cptLaneCount (n.val + 1))] ∧
      (t.cpt[n]).rate = bestRate (s.rd Ix.cptLinkRateLimit (n.val + 1)) ((x :: xs).foldl (fun r c => r &&& c.rates) 0xFF) ∧
      ∀ m, m ≠ n → t.cpt[m] = s.cpt[m]) ∧
  (∀ (s : State) (n : Fin 32) (x : CxpConn) (xs : List CxpConn), s.clocked = true → s.rd Ix.cptLaneCount (n.val + 1) ≠ 0 →
    s.rd Ix.cptLinkState (n.val + 1) ≠ 2 → s.rd Ix.cptLinkState (n.val + 1) ≠ 3 →
    connsMatch (s.rd Ix.cptLaneCount (n.val + 1)) (x :: xs) = false →
    ∃ t, exec (.discoveryAttempt n (x :: xs)) s = .next t ∧ t.rd Ix.cptLinkState (n.val + 1) = 5 ∧ t.bit Ix.cptPortStatus (n.val + 1) 15 = true ∧
      t.cpt = s.cpt) ∧
  (∀ (s : State) (n : Fin 32) (skew : Nat), s.clocked = true → (s.cpt[n]).train = .first → skew ≤ s.rd Ix.cptLaneSkewLimit (n.val + 1) →
    ∃ t, exec (.linkUp n skew) s = .next t ∧ t.rd Ix.cptLinkState (n.val + 1) = 3 ∧
      t.rd Ix.cptLinkRateInUse (n.val + 1) = (s.cpt[n]).rate % 2 ^ 8 ∧
      t.rd Ix.cptCameraConnections (n.val + 1) = s.rd Ix.cptLaneCount (n.val + 1) % 2 ^ 8 ∧ (t.cpt[n]).train = .idle ∧
      (t.cpt[n]).heard = s.ns ∧ (t.cpt[n]).known = (s.cpt[n]).found ∧ ∀ m, m ≠ n → t.cpt[m] = s.cpt[m]) ∧
  (∀ (s : State) (n : Fin 32), s.clocked = true → (s.cpt[n]).train = .first →
    ∃ t, exec (.trainingFail n) s = .next t ∧ (t.cpt[n]).train = .backOff ∧ t.regs = s.regs ∧ ∀ m, m ≠ n → t.cpt[m] = s.cpt[m]) ∧
  (∀ (s : State) (n : Fin 32), s.clocked = true → (s.cpt[n]).train = .retry →
    ∃ t, exec (.trainingFail n) s = .next t ∧ (t.cpt[n]).train = .idle ∧ t.rd Ix.cptLinkState (n.val + 1) = 1 ∧
      t.rd Ix.cptTrainingFailures (n.val + 1) = min (s.rd Ix.cptTrainingFailures (n.val + 1) + 1) (2 ^ 32 - 1) ∧
      t.bit Ix.cptPortStatus (n.val + 1) 16 = true) ∧
  (∀ (s : State) (n : Fin 32), s.clocked = true → (s.cpt[n]).train = .backOff →
    ∃ t, exec (.trainingRetry n) s = .next t ∧ (t.cpt[n]).train = .retry ∧ t.regs = s.regs ∧ ∀ m, m ≠ n → t.cpt[m] = s.cpt[m])

/-- How an up link is watched (R92, R113): a heartbeat is noted; the loss of a lane's lock or of the heartbeats loses the link and retires
every pending tag; a link that stays lost for the reconnect timeout faults the port. Choices of the model it meets: log 38. -/
def Obligations.CameraLinksWatched : Prop :=
  (∀ (s : State) (n : Fin 32), s.clocked = true → s.rd Ix.cptLinkState (n.val + 1) = 3 →
    ∃ t, exec (.heartbeat n) s = .next t ∧ (t.cpt[n]).heard = s.ns ∧ (t.cpt[n]).tags = (s.cpt[n]).tags ∧ t.regs = s.regs ∧
      t.octs = s.octs ∧ ∀ m, m ≠ n → t.cpt[m] = s.cpt[m]) ∧
  (∀ (s : State) (n : Fin 32), s.clocked = true → s.rd Ix.cptLinkState (n.val + 1) = 3 →
    ∃ t, exec (.laneLockLoss n) s = .next t ∧ t.rd Ix.cptLinkState (n.val + 1) = 4 ∧ t.rd Ix.cptLinkRateInUse (n.val + 1) = 0 ∧
      t.rd Ix.cptCameraConnections (n.val + 1) = 0 ∧ (t.cpt[n]).tags = [] ∧ (t.cpt[n]).needResume = true ∧
      t.rd Ix.cptLinkLossCount (n.val + 1) = min (s.rd Ix.cptLinkLossCount (n.val + 1) + 1) (2 ^ 32 - 1) ∧
      exec (.heartbeatTimeout n) s = .next t) ∧
  (∀ (s : State) (n : Fin 32), s.clocked = true → s.AtRest → s.rd Ix.cptReconnectTimeout (n.val + 1) ≠ 0 →
    s.rd Ix.cptLinkState (n.val + 1) = 4 → (s.cpt[n]).needResume = true → s.fn (.cpt n) = .stopped ∨ s.fn (.cpt n) = .armed →
    ∃ t, exec (.reconnectTimeout n) s = .next t ∧ t.fn (.cpt n) = .faulted ∧ t.rd 0x3003 (n.val + 1) = 1)

/-- Camera lines and frames (R93, R95, R98, R99, R102, R104, R105, R107): a frame is bound to the strip of its head tag or puts the port out
of step; a line takes a buffer slot; a completed line takes the oldest tag and goes to the pipeline with it; overdue tags expire. Choices of
the model it meets: log 33, 35. -/
def Obligations.CameraLinesPair : Prop :=
  (∀ (s : State) (dt : Nat) (n : Fin 32) (x : Tag) (xs : List Tag), s.clocked = true → s.portTakes n = true → (s.cpt[n]).tags = x :: xs →
    (s.posCycles dt).overdue n x = false → x.line % s.rd Ix.cptStripLength 0 = 0 →
    ∃ t, exec (.frameStart dt n) s = .next t ∧ (t.cpt[n]).frameStrip = some (x.line / s.rd Ix.cptStripLength 0) ∧
      (t.cpt[n]).outOfStep = false ∧ (t.cpt[n]).framePos = 0 ∧ (t.cpt[n]).frames = (s.cpt[n]).frames + 1 ∧ (t.cpt[n]).tags = x :: xs) ∧
  (∀ (s : State) (dt : Nat) (n : Fin 32), s.clocked = true → s.portTakes n = true → (s.cpt[n]).tags = [] →
    ∃ t, exec (.frameStart dt n) s = .next t ∧ (t.cpt[n]).outOfStep = true ∧ (t.cpt[n]).framePos = 0 ∧
      t.bit Ix.cptPortStatus (n.val + 1) 13 = true) ∧
  (∀ (s : State) (dt : Nat) (n : Fin 32), s.clocked = true →
    ∃ t, exec (.lineFirstPacket dt n) s = .next t ∧
      (t.cpt[n]).incoming = (s.cpt[n]).incoming ++ [decide ((s.cpt[n]).slots < 2)] ∧
      (t.cpt[n]).slots = (if (s.cpt[n]).slots < 2 then (s.cpt[n]).slots + 1 else (s.cpt[n]).slots) ∧ (t.cpt[n]).tags = (s.cpt[n]).tags) ∧
  (∀ (s : State) (dt : Nat) (n : Fin 32) (x : Tag) (xs : List Tag) (last : Bool) (header xSize : Nat) (samples : List (BitVec 16)),
    s.clocked = true → s.portTakes n = true → (s.cpt[n]).incoming = [true] → (s.cpt[n]).outOfStep = false →
    (s.cpt[n]).framePos < s.rd Ix.cptStripLength 0 → (s.cpt[n]).tags = x :: xs → (s.posCycles dt).overdue n x = false →
    (s.cpt[n]).frameStrip = some (x.line / s.rd Ix.cptStripLength 0) → (s.cpt[n]).resolved = [] → (s.cpt[n]).sendNext = some x.line →
    header = formatHeader (s.rd Ix.cptPixelFormat (n.val + 1)) →
    xSize = formatRows (s.rd Ix.cptPixelFormat (n.val + 1)) * s.rd Ix.cptLineWidth (n.val + 1) →
    samples.length = formatComponents (s.rd Ix.cptPixelFormat (n.val + 1)) * s.rd Ix.cptLineWidth (n.val + 1) →
    ∃ t tag more, exec (.lineComplete dt n false false last header xSize samples) s = .next t ∧
      t.iplIn[s.pipelineOf n] = s.iplIn[s.pipelineOf n] ++ CamItem.line tag (samples.map (fun v => v.toNat %
        2 ^ formatDepth (s.rd Ix.cptPixelFormat (n.val + 1)))) :: more ∧
      tag.line = x.line ∧ tag.lp = x.lp ∧ tag.time = x.time ∧ tag.reason = 0 ∧ tag.frameEnd = last ∧
      (t.cpt[n]).tags = xs ∧ (t.cpt[n]).framePos = (s.cpt[n]).framePos + 1 ∧ (t.cpt[n]).sendNext = some (x.line + 1)) ∧
  (∀ (s : State) (dt : Nat) (n : Fin 32) (c e : Bool) (header xSize : Nat) (samples : List (BitVec 16)), s.clocked = true →
    ∃ t, exec (.lineComplete dt n true c e header xSize samples) s = .next t ∧
      t.rd Ix.cptUntriggeredLinesDiscarded (n.val + 1) = (s.rd Ix.cptUntriggeredLinesDiscarded (n.val + 1) + 1) % 2 ^ 64 ∧
      t.bit Ix.cptPortStatus (n.val + 1) 12 = true ∧ (t.cpt[n]).tags = (s.cpt[n]).tags ∧ t.iplIn = s.iplIn) ∧
  (∀ (s : State) (dt : Nat) (n : Fin 32), s.clocked = true → s.portTakes n = true → (s.cpt[n]).outOfStep = true →
    ∃ t, exec (.frameEnd dt n) s = .next t ∧ (t.cpt[n]).hold = true ∧ (t.cpt[n]).tags = (s.cpt[n]).tags ∧ t.iplIn = s.iplIn) ∧
  (∀ (s : State) (dt : Nat) (n : Fin 32) (k : Nat), s.clocked = true → s.portTakes n = true → (s.cpt[n]).outOfStep = false →
    (s.cpt[n]).frameStrip = some k → (s.cpt[n]).framePos < s.rd Ix.cptStripLength 0 →
    ∃ t, exec (.frameEnd dt n) s = .next t ∧
      (t.cpt[n]).tags = (s.cpt[n]).tags.filter (fun x => x.line / s.rd Ix.cptStripLength 0 != k) ∧
      t.rd Ix.cptStripsClosedShort (n.val + 1) = min (s.rd Ix.cptStripsClosedShort (n.val + 1) + 1) (2 ^ 32 - 1) ∧
      t.bit Ix.cptPortStatus (n.val + 1) 5 = true) ∧
  (∀ (s : State) (dt : Nat) (n : Fin 32), s.clocked = true →
    ∃ t, exec (.tagExpired dt n) s = .next t ∧ (t.cpt[n]).tags = (s.cpt[n]).tags.dropWhile (fun x => (s.posCycles dt).overdue n x)) ∧
  (∀ (s : State) (n : Fin 32), s.clocked = true → (s.cpt[n]).pulsesHigh ≠ 0 →
    ∃ t, exec (.triggerPacketFall n) s = .next t ∧ t.out = s.out ++ [Output.triggerPacket n.val (s.rd Ix.cptHighSpeedUpconnection (n.val + 1) == 1) false (Config.triggerDelay s.free)] ∧
      (t.cpt[n]).pulsesHigh = (s.cpt[n]).pulsesHigh - 1 ∧ t.regs = s.regs ∧ ∀ m, m ≠ n → t.cpt[m] = s.cpt[m])

/-- The control tunnel, camera events, Resume and the strip length (R103, R108 to R111, R115). Choices of the model it meets: log 32. -/
def Obligations.CameraControlAct : Prop :=
  (∀ (s : State) (r : Req) (x : Session) (n : Fin 32) (value : Octets), s.Grants r x Ix.cptControlRequest (n.val + 1) value →
    s.rd Ix.cptLinkState (n.val + 1) = 3 → controlOk value = true → s.rd Ix.cptControlStatus (n.val + 1) ≠ 1 →
    ∃ t, exec (.controlRequest r n value) s = .next t ∧ s.Answers t r 0x11 .ok [] ∧ t.rd Ix.cptControlStatus (n.val + 1) = 1 ∧
      Output.cameraControl n.val value ∈ t.out.drop s.out.length ∧ t.cpt = s.cpt ∧ t.octs = s.octs) ∧
  (∀ (s : State) (r : Req) (x : Session) (n : Fin 32) (value : Octets), s.Grants r x Ix.cptControlRequest (n.val + 1) value →
    s.rd Ix.cptLinkState (n.val + 1) = 3 → controlOk value = true → s.rd Ix.cptControlStatus (n.val + 1) = 1 →
    ∃ t, exec (.controlRequest r n value) s = .next t ∧ s.Answers t r 0x11 .busy [] ∧ t.octs = s.octs ∧
      ∀ ix sub, key ix sub ∉ pathCounters r.path → t.rd ix sub = s.rd ix sub) ∧
  (∀ (s : State) (n : Fin 32) (ack : BitVec 8) (data : Octets), s.clocked = true → s.rd Ix.cptControlStatus (n.val + 1) = 1 →
    ∃ t, exec (.controlResponse n ack data) s = .next t ∧ t.rd Ix.cptControlStatus (n.val + 1) = (if ack = 0 then 2 else 4) ∧
      t.rdo Ix.cptControlResponse (n.val + 1) =
        leBytes 1 (if ack = 0 then 2 else 4) ++ leBytes 1 ack.toNat ++ leBytes 2 data.length ++ data.take 1024 ∧
      t.cpt = s.cpt ∧ t.out = s.out) ∧
  (∀ (s : State) (n : Fin 32), s.clocked = true → s.rd Ix.cptControlStatus (n.val + 1) = 1 →
    ∃ t, exec (.controlTimeout n) s = .next t ∧ t.rd Ix.cptControlStatus (n.val + 1) = 3 ∧ t.bit Ix.cptPortStatus (n.val + 1) 18 = true ∧
      t.octs = s.octs ∧ t.cpt = s.cpt) ∧
  (∀ (s : State) (n : Fin 32) (ack : BitVec 8) (data : Octets), s.rd Ix.cptControlStatus (n.val + 1) ≠ 1 →
    exec (.controlResponse n ack data) s = .next s) ∧
  (∀ (s : State) (n : Fin 32) (packet : Octets), s.clocked = true →
    ∃ t, exec (.cameraEvent n packet) s = .next t ∧ t.rdo Ix.cptLastCameraEvent (n.val + 1) = (packet ++ zeros 16).take 16 ∧
      t.rd Ix.cptCameraEventCount (n.val + 1) = (s.rd Ix.cptCameraEventCount (n.val + 1) + 1) % 2 ^ 32 ∧
      t.bit Ix.cptPortStatus (n.val + 1) 17 = true ∧ t.cpt = s.cpt ∧ t.dram = s.dram) ∧
  (∀ (s : State) (r : Req) (x : Session) (n : Fin 32), s.Grants r x Ix.cptResume (n.val + 1) (pathNum r.path 1 1) →
    s.rd Ix.cptLinkState (n.val + 1) = 3 →
    ∃ t, exec (.resume r n 1) s = .next t ∧ s.Answers t r 0x11 .ok [] ∧ (t.cpt[n]).resumed = true ∧ (t.cpt[n]).tags = (s.cpt[n]).tags ∧
      ∀ m, m ≠ n → t.cpt[m] = s.cpt[m]) ∧
  (∀ (s : State) (r : Req) (x : Session) (v : BitVec 32), s.Grants r x Ix.cptStripLength 0 (pathNum r.path 4 v.toNat) →
    ∃ t, exec (.stripLengthWrite r v) s = .next t ∧ s.Answers t r 0x11 .ok [] ∧ t.rd Ix.cptStripLength 0 = v.toNat ∧ t.cpt = s.cpt ∧
      t.octs = s.octs ∧ t.dram = s.dram ∧
      ∀ ix sub, key ix sub ≠ key Ix.cptStripLength 0 → key ix sub ∉ pathCounters r.path → t.rd ix sub = s.rd ix sub)

/-- Lines on their way to the stitcher (R26, R120, R122, R143, R159): a pipeline that runs passes a line, a marker or a strip-close record
on and counts it; one that does not counts the line as discarded and frees the port's buffer slot; STX forms the line its cameras have
delivered, or that the line wait ends. Choices of the model it meets: log 39, 48. -/
def Obligations.LinesPassPipelines : Prop :=
  (∀ (s : State) (m : Fin 16) (d : Bool), s.clocked = true → s.AtRest → s.iplIn[m] = [] →
    ∃ t, exec (.iplInput m d) s = .next t ∧ t.iplIn = s.iplIn ∧ t.regs = s.regs ∧ t.ipl = s.ipl ∧ t.stx = s.stx) ∧
  (∀ (s : State) (m : Fin 16) (n : Fin 32) (d : Bool) (tag : LineTag) (v : List Nat) (xs : List CamItem), s.clocked = true → s.AtRest →
    s.iplIn[m] = CamItem.line tag v :: xs → tag.port = n.val → s.fn (iplFn m) = .stopped → s.rd Ix.iplSpareState 0 = 0 →
    tag.line % s.strip ≠ 0 →
    ∃ t, exec (.iplInput m d) s = .next t ∧ t.iplIn = s.iplIn.set m xs ∧
      t.rd ((iplFn m).base + 7) (iplFn m).sub = (s.rd ((iplFn m).base + 7) (iplFn m).sub + 1) % 2 ^ 64 ∧
      (t.cpt[n]).slots = (s.cpt[n]).slots - 1 ∧ t.ipl = s.ipl ∧ t.stx = s.stx) ∧
  (∀ (s : State) (m : Fin 16) (n : Fin 32) (d : Bool) (tag : LineTag) (v : List Nat) (xs : List CamItem) (l : Nat), s.clocked = true →
    s.AtRest → s.iplIn[m] = CamItem.line tag v :: xs → tag.port = n.val → s.fn (iplFn m) = .running → s.rd Ix.iplSpareState 0 = 0 →
    tag.line = l + 1 → tag.reason = 0 → (l + 1) % s.strip ≠ 0 → s.pipes[m].start ≤ l → s.rd Ix.cptPipeline (n.val + 1) = m.val →
    s.rd Ix.cptPixelFormat (n.val + 1) = 0 → (s.ipl[n]).last = some l → (s.ipl[n]).next = some (l + 1) → (s.ipl[n]).closes = [] →
    s.cal.run = none → s.fn .stx = .stopped → s.fn .pfc = .stopped → s.pmcCounts = false →
    ∃ t, exec (.iplInput m d) s = .next t ∧ t.iplIn = s.iplIn.set m xs ∧ (t.ipl[n]).next = some (l + 2) ∧ (t.ipl[n]).last = some (l + 1) ∧
      t.rd Ix.iplLinesProcessed (m.val + 1) = (s.rd Ix.iplLinesProcessed (m.val + 1) + 1) % 2 ^ 64 ∧
      t.rd Ix.iplMarkersPassed (m.val + 1) = s.rd Ix.iplMarkersPassed (m.val + 1) ∧ (t.cpt[n]).slots = (s.cpt[n]).slots - 1 ∧
      t.stx = s.stx ∧ t.pfc = s.pfc) ∧
  (∀ (s : State) (m : Fin 16) (n : Fin 32) (d : Bool) (tag : LineTag) (xs : List CamItem) (l : Nat), s.clocked = true →
    s.AtRest → s.iplIn[m] = CamItem.marker tag :: xs → tag.port = n.val → s.fn (iplFn m) = .running → s.rd Ix.iplSpareState 0 = 0 →
    tag.line = l + 1 → 1 ≤ tag.reason → tag.reason ≤ 10 → (l + 1) % s.strip ≠ 0 → s.pipes[m].start ≤ l →
    s.rd Ix.cptPipeline (n.val + 1) = m.val → s.rd Ix.cptPixelFormat (n.val + 1) = 0 → (s.ipl[n]).last = some l →
    (s.ipl[n]).next = some (l + 1) → (s.ipl[n]).closes = [] → s.cal.run = none → s.fn .stx = .stopped → s.fn .pfc = .stopped →
    ∃ t, exec (.iplInput m d) s = .next t ∧ t.iplIn = s.iplIn.set m xs ∧ (t.ipl[n]).next = some (l + 2) ∧
      t.rd Ix.iplMarkersPassed (m.val + 1) = (s.rd Ix.iplMarkersPassed (m.val + 1) + 1) % 2 ^ 64 ∧
      t.rd Ix.iplLinesProcessed (m.val + 1) = s.rd Ix.iplLinesProcessed (m.val + 1) ∧ t.cpt = s.cpt ∧ t.stx = s.stx ∧ t.pfc = s.pfc) ∧
  (∀ (s : State) (m : Fin 16) (n : Fin 32) (d : Bool) (r : StripClose) (xs : List CamItem) (l : Nat), s.clocked = true → s.AtRest →
    s.EvfStill → s.iplIn[m] = CamItem.close r :: xs → r.port = n.val → r.truncated = false → s.fn (iplFn m) = .running →
    s.rd Ix.iplSpareState 0 = 0 → s.pipes[m].start ≤ r.strip * s.strip → s.rd Ix.cptPipeline (n.val + 1) = m.val →
    (s.ipl[n]).next = some l → l < (r.strip + 1) * s.strip → (s.ipl[n]).closes = [] → (s.ipl[n]).tap = 0 →
    s.rd Ix.iplStatisticsEnable 0 = 1 → s.cal.run = none →
    ∃ t, exec (.iplInput m d) s = .next t ∧ t.iplIn = s.iplIn.set m xs ∧ (t.ipl[n]).closes = [(r, 0)] ∧ (t.ipl[n]).tapped = {} ∧
      t.rd Ix.iplStatisticsRecords (m.val + 1) = (s.rd Ix.iplStatisticsRecords (m.val + 1) + 1) % 2 ^ 64 ∧ t.stx = s.stx) ∧
  (∀ (s : State) (l : Nat), s.clocked = true → s.AtRest → s.EvfStill → s.formsLine = some l → s.camerasReady l = true → s.rolePorts roleOp = [] →
    s.rolePorts roleFar = [] → l % s.strip ≠ 0 → (l + 1) % s.strip ≠ 0 → s.waitOver l = false → s.fn .mre = .stopped → s.fn .hrb = .stopped →
    s.fn .pfc = .stopped → s.rd Ix.segInputSource 0 = 0 →
    ∃ t, exec .stitchedLine s = .next t ∧ t.stx.next = some (l + 1) ∧
      t.rd Ix.stxLinesStitched 0 = (s.rd Ix.stxLinesStitched 0 + 1) % 2 ^ 64 ∧ t.stx.places = s.stx.places ∧ t.mre = s.mre ∧ t.hrb = s.hrb ∧
      t.pfc = s.pfc ∧ t.seg = s.seg) ∧
  (∀ (s : State) (l : Nat), s.clocked = true → s.AtRest → s.EvfStill → s.formsLine = some l → s.waitOver l = true →
    s.rolePorts roleOp = [] → s.rolePorts roleFar = [] → l % s.strip ≠ 0 → (l + 1) % s.strip ≠ 0 → s.fn .mre = .stopped →
    s.fn .hrb = .stopped → s.fn .pfc = .stopped → s.rd Ix.segInputSource 0 = 0 →
    ∃ t, exec .lineWait s = .next t ∧ t.stx.next = some (l + 1) ∧
      t.rd Ix.stxLinesStitched 0 = (s.rd Ix.stxLinesStitched 0 + 1) % 2 ^ 64 ∧ t.stx.places = s.stx.places) ∧
  (∀ (s : State) (m : Fin 16) (d : Bool) (x : CamItem) (xs : List CamItem), s.clocked = true → s.AtRest → s.iplIn[m] = x :: xs →
    ∃ t, exec (.iplInput m d) s = .next t ∧ t.iplIn = s.iplIn.set m xs ∧ t.ns = s.ns ∧ t.wpu = s.wpu) ∧
  (∀ (s : State) (m : Fin 16) (n : Fin 32) (d : Bool) (tag : LineTag) (v : List Nat) (xs : List CamItem), s.clocked = true → s.AtRest →
    s.iplIn[m] = CamItem.line tag v :: xs → tag.port = n.val → s.fn (iplFn m) = .running → s.rd Ix.iplSpareState 0 = 0 →
    s.pipes[m].start ≤ tag.line →
    ∃ t, exec (.iplInput m d) s = .next t ∧ t.iplIn = s.iplIn.set m xs ∧ (t.ipl[n]).last = some tag.line ∧
      (t.cpt[n]).slots = (s.cpt[n]).slots - 1) ∧
  (∀ (s : State) (m : Fin 16) (n : Fin 32) (d : Bool) (tag : LineTag) (xs : List CamItem), s.clocked = true → s.AtRest →
    s.iplIn[m] = CamItem.marker tag :: xs → tag.port = n.val → s.fn (iplFn m) = .running → s.rd Ix.iplSpareState 0 = 0 →
    s.pipes[m].start ≤ tag.line →
    ∃ t, exec (.iplInput m d) s = .next t ∧ t.iplIn = s.iplIn.set m xs ∧ (t.ipl[n]).last = some tag.line ∧
      (t.cpt[n]).slots = (s.cpt[n]).slots) ∧
  (∀ (s : State) (l : Nat), s.clocked = true → s.AtRest → s.formsLine = some l → s.camerasReady l = true →
    (s.rolePorts roleOp = [] ∧ s.rolePorts roleFar = []) ∨ (s.stx.sent = some l ∧ s.neighboursReady l = true) →
    ∃ t, exec .stitchedLine s = .next t ∧ t.stx.next = some (l + 1) ∧
      t.rd Ix.stxLinesStitched 0 = (s.rd Ix.stxLinesStitched 0 + 1) % 2 ^ 64) ∧
  (∀ (s : State) (l : Nat), s.clocked = true → s.formsLine = some l → s.camerasReady l = false ∨ (s.stx.sent = some l ∧
    s.neighboursReady l = false) → exec .stitchedLine s = .next s) ∧
  (∀ (s : State) (l : Nat), s.clocked = true → s.AtRest → s.formsLine = some l → s.waitOver l = true →
    ∃ t, exec .lineWait s = .next t ∧ t.stx.next = some (l + 1) ∧
      t.rd Ix.stxLinesStitched 0 = (s.rd Ix.stxLinesStitched 0 + 1) % 2 ^ 64) ∧
  (∀ (s : State) (l : Nat), s.clocked = true → s.formsLine = some l → s.waitOver l = false → exec .lineWait s = .next s)

/-- The spare pipeline (R144): it is given a target from idle, loads, waits for its take-over, is handed back to the pipeline it serves, and
is released. Choices of the model it meets: log 66. -/
def Obligations.SpareActs : Prop :=
  (∀ (s : State) (r : Req) (x : Session) (value : BitVec 8), s.AtRest → s.EvfStill →
    s.Grants r x Ix.iplSpareTarget 0 (pathNum r.path 1 value.toNat) → value.toNat < 16 → s.rd Ix.iplSpareState 0 = 0 →
    s.fn spareFn = .stopped → s.bstHolds 16 = false →
    ∃ t, exec (.spareTarget r value) s = .next t ∧ s.Answers t r 0x11 .ok [] ∧ t.rd Ix.iplSpareTarget 0 = value.toNat ∧
      t.rd Ix.iplSpareState 0 = 1 ∧ t.rd Ix.iplSpareServing 0 = value.toNat ∧ t.fn spareFn = .running ∧ t.spare = {} ∧ t.ipl = s.ipl) ∧
  (∀ (s : State) (r : Req) (x : Session) (value : BitVec 8), s.Grants r x Ix.iplSpareTarget 0 (pathNum r.path 1 value.toNat) →
    s.rd Ix.iplSpareState 0 ≠ 0 →
    ∃ t, exec (.spareTarget r value) s = .next t ∧ s.Answers t r 0x11 .busy [] ∧ t.spare = s.spare ∧
      ∀ ix sub, key ix sub ∉ pathCounters r.path → t.rd ix sub = s.rd ix sub) ∧
  (∀ (s : State) (micros : Nat), s.clocked = true → s.AtRest → s.rd Ix.iplSpareState 0 = 1 ∨ s.rd Ix.iplSpareState 0 = 4 →
    s.spare.loaded = false →
    ∃ t, exec (.spareLoaded micros) s = .next t ∧ t.spare = { s.spare with loaded := true } ∧
      t.rd Ix.iplSpareLoadTime 0 = micros % 2 ^ 32 ∧ (∀ ix sub, key ix sub ≠ key Ix.iplSpareLoadTime 0 → t.rd ix sub = s.rd ix sub) ∧
      t.ipl = s.ipl) ∧
  (∀ (s : State) (r : Req) (x : Session), s.AtRest → s.Grants r x Ix.iplSpareCommand 0 (pathNum r.path 1 1) →
    s.rd Ix.iplSpareState 0 = 1 ∨ s.rd Ix.iplSpareState 0 = 2 → s.bstHolds 16 = false →
    ∃ t, exec (.takeOver r) s = .next t ∧ s.Answers t r 0x11 .ok [] ∧ t.spare = { s.spare with takeOver := true } ∧
      (∀ ix sub, key ix sub ∉ pathCounters r.path → t.rd ix sub = s.rd ix sub) ∧ t.ipl = s.ipl) ∧
  (∀ (s : State) (r : Req) (x : Session) (m : Fin 16), s.AtRest → s.EvfStill → s.Grants r x Ix.iplSpareCommand 0 (pathNum r.path 1 2) →
    s.rd Ix.iplSpareState 0 = 3 → s.rd Ix.iplSpareServing 0 = m.val → s.fn (iplFn m) = .stopped → s.iplArmable m = true →
    s.substituted m.val = false → s.bstHolds 16 = false → s.fn spareFn = .running →
    ∃ t, exec (.handBack r) s = .next t ∧ s.Answers t r 0x11 .ok [] ∧ t.rd Ix.iplSpareState 0 = 4 ∧ t.fn (iplFn m) = .running ∧
      t.spare = {} ∧ t.fn spareFn = .running ∧ t.rd Ix.iplSpareServing 0 = m.val) ∧
  (∀ (s : State) (r : Req) (x : Session), s.AtRest → s.EvfStill → s.Grants r x Ix.iplSpareCommand 0 (pathNum r.path 1 3) →
    s.rd Ix.iplSpareState 0 = 1 ∨ s.rd Ix.iplSpareState 0 = 2 → s.fn spareFn = .running → s.bstHolds 16 = false →
    ∃ t, exec (.release r) s = .next t ∧ s.Answers t r 0x11 .ok [] ∧ t.rd Ix.iplSpareState 0 = 0 ∧ t.rd Ix.iplSpareServing 0 = 255 ∧
      t.fn spareFn = .stopped ∧ t.spare = {} ∧ t.ipl = s.ipl) ∧
  (∀ (s : State) (r : Req) (x : Session), s.AtRest → s.Grants r x Ix.iplSpareCommand 0 (pathNum r.path 1 3) →
    s.rd Ix.iplSpareState 0 = 0 ∨ s.rd Ix.iplSpareState 0 = 3 ∨ s.rd Ix.iplSpareState 0 = 4 → s.bstHolds 16 = false →
    ∃ t, exec (.release r) s = .next t ∧ s.Answers t r 0x11 .wrongState [] ∧ t.spare = s.spare ∧
      ∀ ix sub, key ix sub ∉ pathCounters r.path → t.rd ix sub = s.rd ix sub)

/-- How a Braid link is brought up, tracked and lost (R171 to R174): a fitting partner brings it up with the preset of the largest reported
eye, or with the override; another partner is a mismatch; a failed training backs off, a failed retry takes the link down, and the retrain
interval starts anew; the loss of the clock lane retrains; a lane's sampling delay moves by one tap. Choices of the model it meets: log 61,
62. -/
def Obligations.BraidLinksTrain : Prop :=
  (∀ (s : State) (n : Fin 4) (p : BraidPartner) (reports : Vector (BitVec 8) 8) (eye : BitVec 16) (lanes taps skew : Vector Byte 8)
      (micros : Nat), s.clocked = true → s.runs (.brd n) = true → (s.brd.ports[n]).train = .first → s.partnerFits n p = true →
    s.rd Ix.brdTXPresetOverride (n.val + 1) = 255 →
    (∃ k : Fin 8, s.rd Ix.brdEyeMinimum (n.val + 1) ≤ (reports[k]).toNat) → s.rd Ix.brdPortRole (n.val + 1) = roleFar →
    ∃ t, exec (.braidTrainingComplete n p reports eye lanes taps skew micros) s = .next t ∧ t.rd Ix.brdLinkState (n.val + 1) = 2 ∧
      (∃ k : Fin 8, t.rd Ix.brdTXPresetInUse (n.val + 1) = k.val ∧ ∀ j : Fin 8, (reports[j]).toNat ≤ (reports[k]).toNat) ∧
      t.rd Ix.brdEyeWidthMinimum (n.val + 1) = eye.toNat ∧ t.rd Ix.brdTrainingTime (n.val + 1) = micros % 2 ^ 32 ∧
      t.rdo Ix.brdPartnerIdentity (n.val + 1) = leBytes 8 p.serial.toNat ++ leBytes 2 p.node.toNat ++ leBytes 1 p.port.toNat ++
        leBytes 1 p.role.toNat ++ leBytes 4 p.base.toNat ∧
      t.rdo Ix.brdLaneMap (n.val + 1) = lanes.toList ∧ t.rdo Ix.brdLaneSamplingDelay (n.val + 1) = taps.toList ∧
      t.rdo Ix.brdLaneSkew (n.val + 1) = skew.toList ∧ t.brd.ports[n] = { inbox := (s.brd.ports[n]).inbox } ∧
      (∀ m, m ≠ n → t.brd.ports[m] = s.brd.ports[m]) ∧ t.stx = s.stx ∧ t.out = s.out) ∧
  (∀ (s : State) (n : Fin 4) (p : BraidPartner) (reports : Vector (BitVec 8) 8) (eye : BitVec 16) (lanes taps skew : Vector Byte 8)
      (micros l : Nat), s.clocked = true → s.runs (.brd n) = true → (s.brd.ports[n]).train = .first → s.partnerFits n p = true →
    s.rd Ix.brdTXPresetOverride (n.val + 1) < 8 → s.rd Ix.brdPortRole (n.val + 1) = roleOp → s.rd Ix.brdBraidSeamState roleOp = 1 →
    s.stx.next = some l →
    ∃ t, exec (.braidTrainingComplete n p reports eye lanes taps skew micros) s = .next t ∧ t.rd Ix.brdLinkState (n.val + 1) = 2 ∧
      t.rd Ix.brdTXPresetInUse (n.val + 1) = s.rd Ix.brdTXPresetOverride (n.val + 1) ∧
      t.stx.rejoin = (roleOp, l / s.strip + 2) :: s.stx.rejoin.filter (fun r => r.1 != roleOp) ∧
      (t.brd.ports[n]).replay.length = 1 ∧ t.rd Ix.brdFlitsSent (n.val + 1) = (s.rd Ix.brdFlitsSent (n.val + 1) + 1) % 2 ^ 64) ∧
  (∀ (s : State) (n : Fin 4) (p : BraidPartner) (reports : Vector (BitVec 8) 8) (eye : BitVec 16) (lanes taps skew : Vector Byte 8)
      (micros : Nat), s.clocked = true → s.runs (.brd n) = true → (s.brd.ports[n]).train = .first → s.partnerFits n p = false →
    ∃ t, exec (.braidTrainingComplete n p reports eye lanes taps skew micros) s = .next t ∧ t.rd Ix.brdLinkState (n.val + 1) = 5 ∧
      t.bit Ix.brdLinkStatus (n.val + 1) 3 = true ∧ (t.brd.ports[n]).train = .idle ∧ t.octs = s.octs ∧ t.stx = s.stx ∧ t.out = s.out) ∧
  (∀ (s : State) (n : Fin 4) (p : BraidPartner) (reports : Vector (BitVec 8) 8) (eye : BitVec 16) (lanes taps skew : Vector Byte 8)
      (micros : Nat), s.clocked = true → s.runs (.brd n) = true → (s.brd.ports[n]).train = .first → s.partnerFits n p = true →
    s.rd Ix.brdTXPresetOverride (n.val + 1) = 255 → (∀ k : Fin 8, (reports[k]).toNat < s.rd Ix.brdEyeMinimum (n.val + 1)) →
    ∃ t, exec (.braidTrainingComplete n p reports eye lanes taps skew micros) s = .next t ∧ (t.brd.ports[n]).train = .backOff ∧
      t.regs = s.regs ∧ t.octs = s.octs ∧ exec (.braidTrainingTimeout n) s = .next t) ∧
  (∀ (s : State) (n : Fin 4), s.clocked = true → (s.brd.ports[n]).train = .backOff →
    ∃ t, exec (.braidTrainingRetry n) s = .next t ∧ (t.brd.ports[n]).train = .retry ∧ t.regs = s.regs ∧
      ∀ m, m ≠ n → t.brd.ports[m] = s.brd.ports[m]) ∧
  (∀ (s : State) (n : Fin 4), s.clocked = true → (s.brd.ports[n]).train = .retry →
    ∃ t, exec (.braidTrainingTimeout n) s = .next t ∧ (t.brd.ports[n]).train = .idle ∧ t.rd Ix.brdLinkState (n.val + 1) = 4 ∧
      t.bit Ix.brdLinkStatus (n.val + 1) 2 = true ∧ t.bit Ix.brdLinkStatus (n.val + 1) 8 = true ∧
      t.rd Ix.brdLinkDownCount (n.val + 1) = min (s.rd Ix.brdLinkDownCount (n.val + 1) + 1) (2 ^ 32 - 1)) ∧
  (∀ (s : State) (n : Fin 4), s.clocked = true → s.runs (.brd n) = true →
    s.rd Ix.brdLinkState (n.val + 1) = 4 ∨ s.rd Ix.brdLinkState (n.val + 1) = 5 → s.rd Ix.brdPortRole (n.val + 1) ≠ 0 →
    ∃ t, exec (.retrainInterval n) s = .next t ∧ t.rd Ix.brdLinkState (n.val + 1) = 1 ∧ (t.brd.ports[n]).train = .first ∧ t.octs = s.octs) ∧
  (∀ (s : State) (n : Fin 4), s.clocked = true → s.runs (.brd n) = true → s.rd Ix.brdLinkState (n.val + 1) = 2 →
    s.rd Ix.brdPortRole (n.val + 1) ≠ 0 →
    ∃ t, exec (.braidClockLoss n) s = .next t ∧ t.rd Ix.brdLinkState (n.val + 1) = 3 ∧ t.bit Ix.brdLinkStatus (n.val + 1) 7 = true ∧
      t.rd Ix.brdRetrains (n.val + 1) = min (s.rd Ix.brdRetrains (n.val + 1) + 1) (2 ^ 32 - 1) ∧
      t.brd.ports[n] = { train := .first, inbox := (s.brd.ports[n]).inbox }) ∧
  (∀ (s : State) (n : Fin 4) (lane : Fin 8) (taps : Vector Byte 8), s.clocked = true → s.runs (.brd n) = true →
    s.rd Ix.brdLinkState (n.val + 1) = 2 → s.rdo Ix.brdLaneSamplingDelay (n.val + 1) = taps.toList → (taps[lane]).toNat < 127 →
    s.driftAllows 9 n.val lane.val ((taps[lane]).toNat + 1) = true →
    ∃ t, exec (.braidEyeTracking n lane true) s = .next t ∧
      t.rdo Ix.brdLaneSamplingDelay (n.val + 1) = (taps.set lane (taps[lane] + 1)).toList ∧ t.regs = s.regs ∧ t.brd = s.brd) ∧
  (∀ (s : State) (n : Fin 4) (lane : Fin 8) (up : Bool) (taps : Vector Byte 8) (v : Nat), s.clocked = true → s.runs (.brd n) = true →
    s.rd Ix.brdLinkState (n.val + 1) = 2 → s.rdo Ix.brdLaneSamplingDelay (n.val + 1) = taps.toList →
    v = (if up then min 127 ((taps[lane]).toNat + 1) else (taps[lane]).toNat - 1) → s.driftAllows 9 n.val lane.val v = true →
    ∃ t, exec (.braidEyeTracking n lane up) s = .next t ∧
      t.rdo Ix.brdLaneSamplingDelay (n.val + 1) = (taps.set lane (BitVec.ofNat 8 v)).toList ∧ t.regs = s.regs ∧ t.brd = s.brd) ∧
  (∀ (s : State) (n : Fin 4) (lane : Fin 8) (up : Bool) (taps : Vector Byte 8) (v : Nat), s.clocked = true → s.runs (.brd n) = true →
    s.rd Ix.brdLinkState (n.val + 1) = 2 → s.rdo Ix.brdLaneSamplingDelay (n.val + 1) = taps.toList →
    v = (if up then min 127 ((taps[lane]).toNat + 1) else (taps[lane]).toNat - 1) → s.driftAllows 9 n.val lane.val v = false →
    ∃ t, exec (.braidEyeTracking n lane up) s = .next t ∧ t.octs = s.octs ∧ t.bit Ix.calCalibrationStatus 0 11 = true ∧ t.brd = s.brd)

/-- What a Braid link carries (R170, R175 to R178, R182, R275): a good flit in sequence is taken and a message with its last flit, a flit
that fails is answered with a NAK, and a lasting failure retrains; a NAK and an ack timeout resend; messages wait for their line, a rejoin
for its strip, and a summary is taken once. Choices of the model it meets: log 59, 60. -/
def Obligations.BraidLinksCarry : Prop :=
  (∀ (s : State) (n : Fin 4) (flit : Vector Byte 80), s.clocked = true → s.runs (.brd n) = true → s.rd Ix.brdLinkState (n.val + 1) = 2 →
    leAt flit.toList 76 4 = crc32c (flit.toList.take 76) → octAt flit.toList 0 = msgOverlap → octAt flit.toList 1 = 3 →
    leAt flit.toList 2 2 = (s.brd.ports[n]).rx → (s.brd.ports[n]).rx < 4096 → leAt flit.toList 4 2 < 4096 →
    (s.brd.ports[n]).replay = [] → (s.brd.ports[n]).waiting = [] →
    ∃ t, exec (.flitReceive n flit) s = .next t ∧ (t.brd.ports[n]).rx = ((s.brd.ports[n]).rx + 1) % 4096 ∧
      (t.brd.ports[n]).inbox = (s.brd.ports[n]).inbox ++ [{ type := msgOverlap, payload := (flit.toList.drop 8).take 64 }] ∧
      (t.brd.ports[n]).credits = min 512 ((s.brd.ports[n]).credits + leAt flit.toList 6 2) ∧ (t.brd.ports[n]).naked = false ∧
      t.rd Ix.brdFlitsReceived (n.val + 1) = (s.rd Ix.brdFlitsReceived (n.val + 1) + 1) % 2 ^ 64 ∧ t.out = s.out ∧
      ∀ m, m ≠ n → t.brd.ports[m] = s.brd.ports[m]) ∧
  (∀ (s : State) (n : Fin 4) (flit : Vector Byte 80), s.clocked = true → s.runs (.brd n) = true → s.rd Ix.brdLinkState (n.val + 1) = 2 →
    leAt flit.toList 76 4 ≠ crc32c (flit.toList.take 76) → (s.brd.ports[n]).naked = false →
    ∃ t, exec (.flitReceive n flit) s = .next t ∧ (t.brd.ports[n]).rx = (s.brd.ports[n]).rx ∧ (t.brd.ports[n]).naked = true ∧
      (t.brd.ports[n]).inbox = (s.brd.ports[n]).inbox ∧
      t.rd Ix.brdCRCErrors (n.val + 1) = (s.rd Ix.brdCRCErrors (n.val + 1) + 1) % 2 ^ 64 ∧ t.bit Ix.brdLinkStatus (n.val + 1) 4 = true ∧
      t.out = s.out ++ [Output.flit n.val (flitOctets 0 0 0 (((s.brd.ports[n]).rx + 4095) % 4096) true (s.brd.ports[n]).owed [])]) ∧
  (∀ (s : State) (n : Fin 4) (flit : Vector Byte 80), s.clocked = true → s.runs (.brd n) = true → s.rd Ix.brdLinkState (n.val + 1) = 2 →
    leAt flit.toList 76 4 ≠ crc32c (flit.toList.take 76) → octAt flit.toList 1 = 4 → (s.brd.ports[n]).naked = true →
    s.rd Ix.brdPortRole (n.val + 1) ≠ 0 →
    ∃ t, exec (.flitReceive n flit) s = .next t ∧ t.rd Ix.brdLinkState (n.val + 1) = 3 ∧ t.bit Ix.brdLinkStatus (n.val + 1) 6 = true ∧
      t.brd.ports[n] = { train := .first, inbox := (s.brd.ports[n]).inbox } ∧ t.out = s.out) ∧
  (∀ (s : State) (n : Fin 4) (ack : BitVec 12) (k : Nat), s.clocked = true → s.runs (.brd n) = true → s.rd Ix.brdLinkState (n.val + 1) = 2 →
    (s.brd.ports[n]).replay.findIdx? (fun f => f.1 == ack.toNat) = some k →
    ((s.brd.ports[n]).replay.drop (k + 1)).head?.any (fun f => (s.brd.ports[n]).resent.contains f.1) = false →
    ∃ t, exec (.nak n ack) s = .next t ∧ (t.brd.ports[n]).replay = (s.brd.ports[n]).replay.drop (k + 1) ∧
      (t.brd.ports[n]).resent = ((s.brd.ports[n]).replay.drop (k + 1)).map (fun f => f.1) ∧
      t.out = s.out ++ ((s.brd.ports[n]).replay.drop (k + 1)).map (fun f => Output.flit n.val (replayed f.2)) ∧
      (t.brd.ports[n]).waiting = (s.brd.ports[n]).waiting ∧ t.octs = s.octs) ∧
  (∀ (s : State) (n : Fin 4) (ack : BitVec 12) (k : Nat) (f : Nat × Octets), s.clocked = true → s.runs (.brd n) = true →
    s.rd Ix.brdLinkState (n.val + 1) = 2 → s.rd Ix.brdPortRole (n.val + 1) ≠ 0 →
    (s.brd.ports[n]).replay.findIdx? (fun f => f.1 == ack.toNat) = some k → ((s.brd.ports[n]).replay.drop (k + 1)).head? = some f →
    f.1 ∈ (s.brd.ports[n]).resent →
    ∃ t, exec (.nak n ack) s = .next t ∧ t.rd Ix.brdLinkState (n.val + 1) = 3 ∧ t.bit Ix.brdLinkStatus (n.val + 1) 6 = true ∧
      t.brd.ports[n] = { train := .first, inbox := (s.brd.ports[n]).inbox } ∧ t.out = s.out) ∧
  (∀ (s : State) (n : Fin 4), s.clocked = true → s.runs (.brd n) = true → s.rd Ix.brdLinkState (n.val + 1) = 2 →
    (s.brd.ports[n]).replay.head?.any (fun f => (s.brd.ports[n]).resent.contains f.1) = false →
    ∃ t, exec (.ackTimeout n) s = .next t ∧
      t.brd.ports[n] = { s.brd.ports[n] with resent := (s.brd.ports[n]).replay.map (fun f => f.1) } ∧
      (∀ m, m ≠ n → t.brd.ports[m] = s.brd.ports[m]) ∧
      t.out = s.out ++ ((s.brd.ports[n]).replay.map (fun f => Output.flit n.val (replayed f.2))) ∧ t.octs = s.octs) ∧
  (∀ (s : State) (n : Fin 4) (f : Nat × Octets), s.clocked = true → s.runs (.brd n) = true → s.rd Ix.brdLinkState (n.val + 1) = 2 →
    s.rd Ix.brdPortRole (n.val + 1) ≠ 0 → (s.brd.ports[n]).replay.head? = some f → f.1 ∈ (s.brd.ports[n]).resent →
    ∃ t, exec (.ackTimeout n) s = .next t ∧ t.rd Ix.brdLinkState (n.val + 1) = 3 ∧ t.bit Ix.brdLinkStatus (n.val + 1) 6 = true ∧
      t.rd Ix.brdRetrains (n.val + 1) = min (s.rd Ix.brdRetrains (n.val + 1) + 1) (2 ^ 32 - 1) ∧
      t.brd.ports[n] = { train := .first, inbox := (s.brd.ports[n]).inbox } ∧ t.out = s.out) ∧
  (∀ (s : State) (n : Fin 4) (m : BraidMessage) (ms : List BraidMessage) (l : Nat), s.clocked = true →
    (s.brd.ports[n]).inbox = m :: ms → m.type = msgOverlap → s.stx.next = some l → l ≤ leAt m.payload 0 8 / 2 ^ 16 →
    s.stx.neighbours.all (fun x => x.role != s.rd Ix.brdPortRole (n.val + 1) || x.lp != leAt m.payload 0 8) = true →
    ∃ t, exec (.overlapMessage n) s = .next t ∧ (t.brd.ports[n]).inbox = ms ∧
      t.stx.neighbours = s.stx.neighbours ++ [parseOverlap (s.rd Ix.brdPortRole (n.val + 1)) s.channels m.payload] ∧ t.regs = s.regs) ∧
  (∀ (s : State) (n : Fin 4) (m : BraidMessage) (ms : List BraidMessage) (l : Nat), s.clocked = true →
    (s.brd.ports[n]).inbox = m :: ms → m.type = msgOverlap → s.stx.next = some l → leAt m.payload 0 8 / 2 ^ 16 < l →
    ∃ t, exec (.overlapMessage n) s = .next t ∧ (t.brd.ports[n]).inbox = ms ∧ t.stx = s.stx ∧ t.regs = s.regs) ∧
  (∀ (s : State) (n : Fin 4) (m : BraidMessage) (ms : List BraidMessage) (l : Nat), s.clocked = true →
    (s.brd.ports[n]).inbox = m :: ms → m.type = msgRejoin → s.rd Ix.brdPortRole (n.val + 1) = roleFar → s.stx.next = some l →
    l < leAt m.payload 0 8 * s.strip ∨ l = leAt m.payload 0 8 * s.strip ∧ s.stx.sent ≠ some l →
    ∃ t, exec (.rejoin n) s = .next t ∧ (t.brd.ports[n]).inbox = ms ∧
      t.stx.rejoin = (roleFar, leAt m.payload 0 8) :: s.stx.rejoin.filter (fun r => r.1 != roleFar) ∧ t.regs = s.regs ∧ t.out = s.out) ∧
  (∀ (s : State) (n : Fin 4) (m : BraidMessage) (ms : List BraidMessage) (l : Nat), s.clocked = true →
    (s.brd.ports[n]).inbox = m :: ms → m.type = msgRejoin → s.rd Ix.brdPortRole (n.val + 1) = roleFar → s.stx.next = some l →
    leAt m.payload 0 8 * s.strip < l ∨ leAt m.payload 0 8 * s.strip = l ∧ s.stx.sent = some l → m.payload.length ≤ 64 →
    s.runs (.brd n) = true → s.rd Ix.brdLinkState (n.val + 1) = 2 → (s.brd.ports[n]).waiting = [] → (s.brd.ports[n]).credits ≠ 0 →
    (s.brd.ports[n]).replay.length < 256 →
    ∃ t, exec (.rejoin n) s = .next t ∧ (t.brd.ports[n]).inbox = ms ∧ t.stx = s.stx ∧
      t.rd Ix.brdFlitsSent (n.val + 1) = (s.rd Ix.brdFlitsSent (n.val + 1) + 1) % 2 ^ 64 ∧
      Output.flit n.val (flitOctets msgRejoin 3 (s.brd.ports[n]).tx (s.brd.ports[n]).lastGood false (s.brd.ports[n]).owed m.payload) ∈
        t.out) ∧
  (∀ (s : State) (n : Fin 4) (m : BraidMessage) (ms : List BraidMessage) (l : Nat), s.clocked = true →
    (s.brd.ports[n]).inbox = m :: ms → m.type = msgRejoin → s.rd Ix.brdPortRole (n.val + 1) = roleOp → s.stx.next = some l →
    s.rd Ix.brdBraidSeamState roleOp = 1 →
    ∃ t, exec (.rejoin n) s = .next t ∧ (t.brd.ports[n]).inbox = ms ∧
      t.stx.rejoin = (roleOp, l / s.strip + 2) :: s.stx.rejoin.filter (fun r => r.1 != roleOp)) ∧
  (∀ (s : State) (n : Fin 4) (m : BraidMessage) (ms : List BraidMessage) (lp : Nat), s.clocked = true → s.runs .seg = true →
    (s.brd.ports[n]).inbox = m :: ms → m.type = msgBlobEdge → s.rd Ix.brdPortRole (n.val + 1) = roleFar →
    s.rd Ix.brdBraidSeamState roleFar = 0 → octAt m.payload 9 = 0 →
    s.brd.used.contains ((roleFar, msgBlobEdge), leAt m.payload 0 8) = false →
    s.seg.taken.find? (fun x => x.1 == leAt m.payload 0 8 / 65536) = some (leAt m.payload 0 8 / 65536, lp) →
    s.lpMatches (leAt m.payload 0 8) lp = true →
    ∃ t, exec (.blobEdgeSummary n) s = .next t ∧ (t.brd.ports[n]).inbox = ms ∧
      t.seg = { s.seg with summaries := ({ role := roleFar, line := leAt m.payload 0 8 / 65536, pixel := (octAt m.payload 8).testBit 0,
                                           joinId := leAt m.payload 10 2 } :: s.seg.summaries).take 64 } ∧ t.regs = s.regs ∧
      exec (.blobEdgeSummary n) { t with brd := { t.brd with ports := s.brd.ports } } = .next t) ∧
  (∀ (s : State) (n : Fin 4) (m : BraidMessage) (ms : List BraidMessage) (lp : Nat), s.clocked = true → s.runs .seg = true →
    (s.brd.ports[n]).inbox = m :: ms → m.type = msgBlobEdge → s.rd Ix.brdPortRole (n.val + 1) ≠ 0 →
    s.rd Ix.brdBraidSeamState (s.rd Ix.brdPortRole (n.val + 1)) = 0 →
    s.brd.used.contains ((s.rd Ix.brdPortRole (n.val + 1), msgBlobEdge), leAt m.payload 0 8) = false →
    s.seg.taken.find? (fun x => x.1 == leAt m.payload 0 8 / 65536) = some (leAt m.payload 0 8 / 65536, lp) →
    s.lpMatches (leAt m.payload 0 8) lp = false →
    ∃ t, exec (.blobEdgeSummary n) s = .next t ∧ (t.brd.ports[n]).inbox = ms ∧ t.seg = s.seg ∧
      t.bit Ix.stxStitchStatus 0 6 = true) ∧
  (∀ (s : State) (n : Fin 4) (m : BraidMessage) (ms : List BraidMessage) (k : Nat), s.clocked = true → s.runs .seg = true →
    (s.brd.ports[n]).inbox = m :: ms → m.type = msgBlobEdge → s.rd Ix.brdPortRole (n.val + 1) ≠ 0 →
    s.rd Ix.brdBraidSeamState (s.rd Ix.brdPortRole (n.val + 1)) = 0 →
    s.brd.used.contains ((s.rd Ix.brdPortRole (n.val + 1), msgBlobEdge), leAt m.payload 0 8) = false →
    s.seg.taken.find? (fun x => x.1 == leAt m.payload 0 8 / 65536) = none → s.seg.next = some k →
    k ≤ leAt m.payload 0 8 / 65536 →
    ∃ t, exec (.blobEdgeSummary n) s = .next t ∧ (t.brd.ports[n]).inbox = ms ∧
      t.seg = { s.seg with early := s.seg.early ++ [(s.rd Ix.brdPortRole (n.val + 1), m.payload)] } ∧ t.regs = s.regs) ∧
  (∀ (s : State) (n : Fin 4) (m : BraidMessage) (ms : List BraidMessage), s.clocked = true → (s.brd.ports[n]).inbox = m :: ms →
    m.type = msgBlobEdge →
    ∃ t, exec (.blobEdgeSummary n) s = .next t ∧ (t.brd.ports[n]).inbox = ms ∧ t.stx.next = s.stx.next ∧ t.wpu = s.wpu) ∧
  (∀ (s : State) (n : Fin 4) (m : BraidMessage) (ms : List BraidMessage), s.clocked = true → s.runs .seg = true →
    (s.brd.ports[n]).inbox = m :: ms → m.type = msgBlobEdge → s.rd Ix.brdPortRole (n.val + 1) ≠ 0 →
    s.rd Ix.brdBraidSeamState (s.rd Ix.brdPortRole (n.val + 1)) = 0 →
    s.brd.used.contains ((s.rd Ix.brdPortRole (n.val + 1), msgBlobEdge), leAt m.payload 0 8) = false →
    ∃ t, exec (.blobEdgeSummary n) s = .next t ∧ (t.brd.ports[n]).inbox = ms ∧
      t.brd.used = ((s.rd Ix.brdPortRole (n.val + 1), msgBlobEdge), leAt m.payload 0 8) :: s.brd.used) ∧
  (∀ (s : State) (n : Fin 4), s.clocked = true → (s.brd.ports[n]).inbox.all (fun m => m.type != msgBlobEdge) = true →
    exec (.blobEdgeSummary n) s = .next s)

/-- The master queue (R196 to R199): a page is queued or refused; it loads over channel 31 one at a time; its image is checked when the load
ends; FLUSH, MAP_RESET, RELOCK and RENUMBER act. Choices of the model it meets: log 71, 79. -/
def Obligations.MasterQueueActs : Prop :=
  (∀ (s : State) (r : Req) (x : Session) (value : Octets), s.Grants r x Ix.mrePageSubmit 0 value → s.clocked = true →
    s.rd Ix.mreLastSubmittedPage 0 < leAt value 0 4 → s.mre.lastBound < leAt value 0 4 → leAt value 8 8 % 16 = 0 → leAt value 16 8 ≠ 0 →
    leAt value 16 8 ≤ (s.region 4).2 → leAt value 24 8 = 0 → value.length = 32 → s.mre.queue.length < s.rd Ix.mreQueueCapacity 0 →
    ∃ t, exec (.pageSubmit r value) s = .next t ∧ s.Answers t r 0x11 .ok [] ∧
      t.mre.queue = s.mre.queue ++ [{ number := leAt value 0 4, tag := leAt value 4 4, host := leAt value 8 8, len := leAt value 16 8 }] ∧
      t.rd Ix.mreLastSubmittedPage 0 = leAt value 0 4 ∧ t.rd Ix.mrePagesQueued 0 = (s.mre.queue.length + 1) % 2 ^ 16 ∧
      t.mre.bound = s.mre.bound ∧ t.dram = s.dram) ∧
  (∀ (s : State) (r : Req) (x : Session) (value : Octets), s.Grants r x Ix.mrePageSubmit 0 value → s.clocked = true →
    leAt value 0 4 ≤ s.rd Ix.mreLastSubmittedPage 0 ∨ leAt value 0 4 ≤ s.mre.lastBound ∨ leAt value 8 8 % 16 ≠ 0 ∨ leAt value 16 8 = 0 ∨
      (s.region 4).2 < leAt value 16 8 ∨ leAt value 24 8 ≠ 0 →
    ∃ t, exec (.pageSubmit r value) s = .next t ∧ s.Answers t r 0x11 .outOfRange [] ∧ t.mre = s.mre) ∧
  (∀ (s : State) (p : MasterPage) (a : Nat), s.clocked = true → s.loadsMove = true → s.mre.queue.find? (fun q => q.load == .loading) = some p →
    p.moving = false → s.placeFor p.len = some a →
    ∃ t, exec .masterLoadStart s = .next t ∧ t.mre.queue = replacePage s.mre.queue { p with moving := true, place := some a } ∧
      t.dram = s.dram ∧ t.mre.bound = s.mre.bound) ∧
  (∀ (s : State) (p : MasterPage) (a : Nat) (image : Octets), s.clocked = true → s.mre.queue = [p] → p.moving = true → p.place = some a → s.dma[31].failing = none →
    image.length = p.len → imageOk p.len image = true →
    ∃ t, exec (.masterLoadComplete image false) s = .next t ∧
      t.mre.queue = [{ p with load := .ready, moving := false, head := image.take 64 }] ∧ t.rd Ix.mrePagesReady 0 = 1 ∧
      t.dram = (s.dramStore a image).dram) ∧
  (∀ (s : State) (p : MasterPage) (a : Nat) (image : Octets), s.clocked = true → s.EvfStill → s.mre.queue = [p] → p.moving = true →
    p.place = some a → s.dma[31].failing = none → image.length = p.len → imageOk p.len image = false →
    ∃ t, exec (.masterLoadComplete image false) s = .next t ∧
      t.mre.queue = [{ p with load := .failed, moving := false, place := none }] ∧ t.bit Ix.mreInspectionStatus 0 9 = true) ∧
  (∀ (s : State) (p : MasterPage), s.clocked = true → s.EvfStill → s.mre.queue = [p] → p.moving = true →
    ∃ t, exec .loadTimeout s = .next t ∧ t.mre.queue = [{ p with load := .failed, moving := false, place := none }] ∧
      t.bit Ix.mreInspectionStatus 0 9 = true ∧ t.dram = s.dram) ∧
  (∀ (s : State) (r : Req) (x : Session), s.Grants r x Ix.mreQueueCommand 0 (pathNum r.path 1 1) →
    ∃ t, exec (.queueFlush r) s = .next t ∧ s.Answers t r 0x11 .ok [] ∧ t.mre.queue = [] ∧ t.mre.bound = s.mre.bound ∧
      t.rd Ix.mrePagesFlushed 0 = (s.rd Ix.mrePagesFlushed 0 + s.mre.queue.length) % 2 ^ 64 ∧ t.rd Ix.mrePagesQueued 0 = 0) ∧
  (∀ (s : State) (r : Req) (x : Session), s.Grants r x Ix.mreQueueCommand 0 (pathNum r.path 1 2) →
    ∃ t, exec (.mapReset r) s = .next t ∧ s.Answers t r 0x11 .ok [] ∧ t.mre = { s.mre with mapReset := true } ∧ t.dram = s.dram) ∧
  (∀ (s : State) (r : Req) (x : Session), s.Grants r x Ix.mreQueueCommand 0 (pathNum r.path 1 3) → s.rd Ix.mreBindingState 0 ≠ bsFreeRun →
    ∃ t, exec (.relock r) s = .next t ∧ s.Answers t r 0x11 .ok [] ∧ t.rd Ix.mreBindingState 0 = bsAcquiring ∧ t.mre.miss = 0 ∧
      t.mre.queue = s.mre.queue ∧ t.mre.bound = s.mre.bound) ∧
  (∀ (s : State) (r : Req) (x : Session), s.Grants r x Ix.mreQueueCommand 0 (pathNum r.path 1 4) → s.fn .mre = .stopped → s.mre.queue = [] →
    ∃ t, exec (.renumber r) s = .next t ∧ s.Answers t r 0x11 .ok [] ∧ t.mre = { s.mre with lastBound := 0 } ∧
      t.rd Ix.mreLastSubmittedPage 0 = 0) ∧
  (∀ (s : State) (r : Req) (x : Session), s.Grants r x Ix.mreQueueCommand 0 (pathNum r.path 1 4) → s.mre.queue ≠ [] →
    ∃ t, exec (.renumber r) s = .next t ∧ s.Answers t r 0x11 .wrongState [] ∧ t.mre = s.mre) ∧
  (∀ (s : State) (p : MasterPage) (a : Nat) (image : Octets), s.clocked = true → s.movingPage = some p → p.place = some a →
    s.dma[31].failing = none → image.length = p.len → imageOk p.len image = true →
    ∃ t, exec (.masterLoadComplete image false) s = .next t ∧
      t.mre.queue = replacePage s.mre.queue { p with load := .ready, moving := false, head := image.take 64 } ∧
      t.dram = (s.dramStore a image).dram ∧ t.mre.bound = s.mre.bound) ∧
  (∀ (s : State) (p : MasterPage) (a : Nat) (image : Octets), s.clocked = true → s.movingPage = some p → p.place = some a →
    s.dma[31].failing = none → image.length = p.len → imageOk p.len image = false →
    ∃ t, exec (.masterLoadComplete image false) s = .next t ∧
      t.mre.queue = replacePage s.mre.queue { p with load := .failed, moving := false, place := none } ∧
      t.bit Ix.mreInspectionStatus 0 9 = true ∧ t.mre.bound = s.mre.bound) ∧
  (∀ (s : State) (p : MasterPage) (image : Octets), s.clocked = true → s.movingPage = some p →
    ∃ t, exec (.masterLoadComplete image true) s = .next t ∧
      t.mre.queue = replacePage s.mre.queue { p with load := .failed, moving := false, place := none } ∧
      t.bit Ix.mreInspectionStatus 0 9 = true ∧ t.dram = s.dram ∧ t.mre.bound = s.mre.bound) ∧
  (∀ (s : State) (p : MasterPage), s.clocked = true → s.movingPage = some p →
    ∃ t, exec .loadTimeout s = .next t ∧
      t.mre.queue = replacePage s.mre.queue { p with load := .failed, moving := false, place := none } ∧
      t.bit Ix.mreInspectionStatus 0 9 = true ∧ t.dram = s.dram ∧ t.mre.bound = s.mre.bound) ∧
  (∀ (s : State) (image : Octets) (d : Bool), s.movingPage = none →
    exec (.masterLoadComplete image d) s = .next s ∧ exec .loadTimeout s = .next s)

/-- Page marks (R202 to R206): a mark near the last one is a repeat, one in the window or the first one is accepted and binds the head of
the queue, any other is extra; an expiry synthesises a mark at the expected place, which binds a compared page in flywheel and none in
unlocked. Choices of the model it meets: log 71, 72. -/
def Obligations.MarksBind : Prop :=
  (∀ (s : State) (m time l : Nat) (ms : List (Nat × Nat)), s.clocked = true → s.fn .mre = .running → s.mre.marks = (m, time) :: ms →
    s.mre.mLast = some l → m ≤ l + s.rd Ix.mreMarkWindow 0 →
    ∃ t, exec .pageMark s = .next t ∧ t.rd Ix.mreMarksRepeated 0 = (s.rd Ix.mreMarksRepeated 0 + 1) % 2 ^ 64 ∧
      t.mre = { s.mre with marks := ms } ∧ t.octs = s.octs) ∧
  (∀ (s : State) (m time : Nat) (ms : List (Nat × Nat)) (p : MasterPage) (ps : List MasterPage), s.clocked = true → s.EvfStill →
    s.fn .mre = .running → s.mre.marks = (m, time) :: ms → s.mre.mLast = none → s.rd Ix.mreBindingState 0 = bsAcquiring →
    s.mre.queue = p :: ps → p.load = .ready → s.formatSuits p.head = true → s.mre.bound = [] →
    ∃ t, exec .pageMark s = .next t ∧ t.rd Ix.mreBindingState 0 = bsLocked ∧ t.mre.mLast = some m ∧ t.mre.queue = ps ∧
      t.mre.pitch = some (pgPitch p.head) ∧
      (t.mre.bound.map (fun b => (b.number, b.start, b.mark, b.time, b.reason))) = [(p.number, s.startOf m, m, time, 0)] ∧
      t.rd Ix.mreMarksAccepted 0 = (s.rd Ix.mreMarksAccepted 0 + 1) % 2 ^ 64 ∧
      t.rd Ix.mrePagesBound 0 = (s.rd Ix.mrePagesBound 0 + 1) % 2 ^ 64) ∧
  (∀ (s : State) (m time l e : Nat) (ms : List (Nat × Nat)), s.clocked = true → s.EvfStill → s.fn .mre = .running →
    s.mre.marks = (m, time) :: ms → s.mre.mLast = some l → l + s.rd Ix.mreMarkWindow 0 < m → s.rd Ix.mreBindingState 0 = bsFlywheel →
    s.expected = some e → e - s.rd Ix.mreMarkWindow 0 ≤ m → m ≤ e + s.rd Ix.mreMarkWindow 0 → s.mre.queue = [] → s.mre.bound = [] →
    ∃ t, exec .pageMark s = .next t ∧ t.rd Ix.mreBindingState 0 = bsLocked ∧ t.mre.miss = 0 ∧
      (t.mre.bound.map (fun b => (b.number, b.start, b.reason))) = [(s.mre.lastBound + 1, s.startOf m, 1)]) ∧
  (∀ (s : State) (m time l e : Nat) (ms : List (Nat × Nat)), s.clocked = true → s.EvfStill → s.fn .mre = .running →
    s.mre.marks = (m, time) :: ms → s.mre.mLast = some l → l + s.rd Ix.mreMarkWindow 0 < m → s.rd Ix.mreBindingState 0 = bsLocked →
    s.expected = some e → m < e - s.rd Ix.mreMarkWindow 0 ∨ e + s.rd Ix.mreMarkWindow 0 < m →
    ∃ t, exec .pageMark s = .next t ∧ t.mre = { s.mre with marks := ms } ∧ t.bit Ix.mreInspectionStatus 0 3 = true ∧
      t.rd Ix.mreMarksExtra 0 = (s.rd Ix.mreMarksExtra 0 + 1) % 2 ^ 64) ∧
  (∀ (s : State) (e time : Nat), s.clocked = true → s.EvfStill → s.mre.expiry = some time → s.expected = some e →
    s.rd Ix.mreBindingState 0 = bsLocked → 1 ≤ s.rd Ix.mreFlywheelLimit 0 → s.mre.bound = [] → s.mre.queue = [] →
    ∃ t, exec .markExpiry s = .next t ∧ t.rd Ix.mreBindingState 0 = bsFlywheel ∧ t.mre.miss = s.mre.miss + 1 ∧ t.mre.mLast = some e ∧
      t.bit Ix.mreInspectionStatus 0 4 = true ∧ t.rd Ix.mreMarksSynthesised 0 = (s.rd Ix.mreMarksSynthesised 0 + 1) % 2 ^ 64 ∧
      (t.mre.bound.map (fun b => (b.mark, b.time, b.synth, b.reason))) = [(e, time, true, 1)]) ∧
  (∀ (s : State) (e time : Nat), s.clocked = true → s.EvfStill → s.mre.expiry = some time → s.expected = some e →
    s.rd Ix.mreBindingState 0 = bsFlywheel → s.rd Ix.mreFlywheelLimit 0 ≤ s.mre.miss → s.mre.bound = [] →
    ∃ t, exec .markExpiry s = .next t ∧ t.rd Ix.mreBindingState 0 = bsUnlocked ∧ t.bit Ix.mreInspectionStatus 0 5 = true ∧
      t.mre.queue = s.mre.queue.drop 1 ∧ (t.mre.bound.map (fun b => (b.mark, b.synth, b.reason))) = [(e, true, 5)]) ∧
  (∀ (s : State) (m time : Nat) (ms : List (Nat × Nat)), s.clocked = true → s.fn .mre = .running → s.mre.marks = (m, time) :: ms →
    s.mre.mLast.any (fun l => decide (m ≤ l + s.rd Ix.mreMarkWindow 0)) = false →
    s.rd Ix.mreBindingState 0 = bsAcquiring ∨
      s.expected.any (fun e => decide (e - s.rd Ix.mreMarkWindow 0 ≤ m ∧ m ≤ e + s.rd Ix.mreMarkWindow 0)) = true →
    ∃ t, exec .pageMark s = .next t ∧ t.mre.marks = ms ∧ t.mre.mLast = some m ∧ t.mre.miss = 0 ∧ t.mre.expiry = none ∧
      t.rd Ix.mreBindingState 0 = bsLocked ∧ t.mre.queue = s.mre.queue.drop 1 ∧ t.mre.bound.length = s.mre.bound.length + 1 ∧
      t.mre.binds = s.mre.binds + 1 ∧ t.rd Ix.mreMarksAccepted 0 = (s.rd Ix.mreMarksAccepted 0 + 1) % 2 ^ 64 ∧
      t.rd Ix.mrePagesBound 0 = (s.rd Ix.mrePagesBound 0 + 1) % 2 ^ 64) ∧
  (∀ (s : State) (e time : Nat), s.clocked = true → s.mre.expiry = some time → s.expected = some e →
    ∃ t, exec .markExpiry s = .next t ∧ t.mre.mLast = some e ∧ t.mre.miss = s.mre.miss + 1 ∧ t.mre.expiry = none ∧
      t.mre.queue = s.mre.queue.drop 1 ∧ t.mre.bound.length = s.mre.bound.length + 1 ∧ t.mre.binds = s.mre.binds + 1 ∧
      t.bit Ix.mreInspectionStatus 0 4 = true ∧ t.rd Ix.mreMarksSynthesised 0 = (s.rd Ix.mreMarksSynthesised 0 + 1) % 2 ^ 64 ∧
      t.rd Ix.mrePagesBound 0 = (s.rd Ix.mrePagesBound 0 + 1) % 2 ^ 64) ∧
  (∀ (s : State), s.clocked = true → s.mre.expiry = none → exec .markExpiry s = .next s)

/-- The compression engine (R243 to R254): a host job is queued or turned away, a free lane takes the work of its user before any host job,
and finishes it; a job of no input is done; a cancel ends the queued jobs of its tag. Choices of the model it meets: log 80. -/
def Obligations.CompressionActs : Prop :=
  (∀ (s : State) (r : Req) (x : Session) (value : Octets), s.Grants r x Ix.cdeJobSubmit 0 value → s.fn .cde = .running →
    s.jobOk value = true → s.jobsQueued < 16 →
    ∃ t, exec (.jobSubmit r value) s = .next t ∧ s.Answers t r 0x11 .ok [] ∧
      t.cde.jobs = s.cde.jobs ++ [{ desc := value, consumed := jobResume value, crc := jobSeed value }] ∧
      t.rd Ix.cdeHostJobsQueued 0 = s.jobsQueued + 1 ∧ t.cde.lanes = s.cde.lanes ∧ t.dram = s.dram) ∧
  (∀ (s : State) (r : Req) (x : Session) (value : Octets), s.Grants r x Ix.cdeJobSubmit 0 value → s.fn .cde = .running →
    s.jobOk value = true → 16 ≤ s.jobsQueued →
    ∃ t, exec (.jobSubmit r value) s = .next t ∧ s.Answers t r 0x11 .busy [] ∧ t.cde = s.cde ∧ t.bit Ix.cdeEngineStatus 0 5 = true) ∧
  (∀ (s : State) (lane : Fin 20) (w : TileJob) (ws : List TileJob), s.clocked = true → s.fn .cde = .running → lane.val < 16 →
    s.cde.lanes[lane] = none → s.cde.tiles = w :: ws →
    ∃ t, exec (.laneDispatch lane) s = .next t ∧ t.cde.lanes = s.cde.lanes.set lane (some (CdeWork.tile w)) ∧ t.cde.tiles = ws ∧
      t.cde.jobs = s.cde.jobs ∧ t.bit Ix.cdeEngineStatus 0 0 = true ∧ t.dram = s.dram) ∧
  (∀ (s : State) (lane : Fin 20) (w : CropBlock) (ws : List CropBlock), s.clocked = true → s.fn .cde = .running → 16 ≤ lane.val →
    s.cde.lanes[lane] = none → s.cde.crops = w :: ws →
    ∃ t, exec (.laneDispatch lane) s = .next t ∧ t.cde.lanes = s.cde.lanes.set lane (some (CdeWork.crop w)) ∧ t.cde.crops = ws ∧
      t.cde.jobs = s.cde.jobs ∧ t.dram = s.dram) ∧
  (∀ (s : State) (lane : Fin 20) (j : HostJob) (js : List HostJob), s.clocked = true → s.fn .cde = .running →
    s.cde.lanes[lane] = none → s.cde.tiles = [] → s.cde.crops = [] → s.cde.jobs = j :: js →
    (lane.val < 16 ∧ (jobOp j.desc = 3 ∨ jobOp j.desc = 4)) ∨ (16 ≤ lane.val ∧ (jobOp j.desc = 1 ∨ jobOp j.desc = 2)) →
    ∃ t, exec (.laneDispatch lane) s = .next t ∧ t.cde.lanes = s.cde.lanes.set lane (some (CdeWork.host { j with begun := true })) ∧
      t.cde.jobs = js ∧ t.dram = s.dram) ∧
  (∀ (s : State) (lane : Fin 20) (j : HostJob), s.clocked = true → s.cde.lanes[lane] = some (CdeWork.host j) →
    (jobOp j.desc = 1 ∧ jobUnits j.desc ≤ j.consumed) ∨ (jobOp j.desc = 3 ∧ jobLength j.desc ≤ j.consumed ∧ j.poisoned = 0) →
    s.pmcCounts = false → jobFlags j.desc < 4 →
    ∃ t, exec (.blockComplete lane) s = .next t ∧ t.cde.lanes = s.cde.lanes.set lane none ∧ t.cde.jobs = s.cde.jobs ∧
      t.rdo Ix.cdeLastCompletion 0 = completion j 0 ∧
      t.rd Ix.cdeHostJobsCompleted 0 = (s.rd Ix.cdeHostJobsCompleted 0 + 1) % 2 ^ 64 ∧ t.dram = s.dram) ∧
  (∀ (s : State) (lane : Fin 20) (b : CropBlock), s.clocked = true → s.cde.lanes[lane] = some (CdeWork.crop b) → s.pmcCounts = false →
    ∃ t, exec (.blockComplete lane) s = .next t ∧ t.cde.lanes = s.cde.lanes.set lane none ∧
      t.cde.encoded = s.cde.encoded ++ [(b.handle, b.index, (imageBlock b.width b.height b.comps true b.data).1)] ∧
      t.rd Ix.cdeBlocksCompressed 0 = (s.rd Ix.cdeBlocksCompressed 0 + 1) % 2 ^ 64 ∧ t.dram = s.dram) ∧
  (∀ (s : State) (r : Req) (x : Session) (tag : BitVec 32) (j : HostJob), s.EvfStill → s.Grants r x Ix.cdeJobCancel 0 (pathNum r.path 4 tag.toNat) →
    s.cde.jobs = [j] → jobTag j.desc = tag.toNat → j.begun = false → jobFlags j.desc < 4 →
    ∃ t, exec (.jobCancel r tag) s = .next t ∧ s.Answers t r 0x11 .ok [] ∧ t.cde.jobs = [] ∧
      t.rdo Ix.cdeLastCompletion 0 = completion { j with consumed := 0 } 5 ∧ t.dram = s.dram) ∧
  (∀ (s : State) (lane : Fin 20) (w : CdeWork), s.clocked = true → s.cde.lanes[lane] = some w →
    ∃ t, exec (.blockComplete lane) s = .next t ∧ t.cde.lanes = s.cde.lanes.set lane none ∧ t.cde.tiles = s.cde.tiles ∧
      t.cde.crops = s.cde.crops ∧ t.mre.queue = s.mre.queue) ∧
  (∀ (s : State) (lane : Fin 20), s.cde.lanes[lane] = none → exec (.blockComplete lane) s = .next s) ∧
  (∀ (s : State) (r : Req) (x : Session) (tag : BitVec 32), s.Grants r x Ix.cdeJobCancel 0 (pathNum r.path 4 tag.toNat) →
    ∃ t, exec (.jobCancel r tag) s = .next t ∧ s.Answers t r 0x11 .ok [] ∧
      t.cde.jobs = s.cde.jobs.filter (fun j => !(jobTag j.desc == tag.toNat)) ∧ t.cde.tiles = s.cde.tiles ∧ t.cde.crops = s.cde.crops ∧
      t.dram = s.dram)

/-- The segment engines (R144, R270, R273, R277, R283, R285): records enter the FIFO while it has room; standstill closes every open blob; a
PARTIAL that is late is waited for no longer; a spare engine takes a target, loads, takes over, is handed back and released; a faulted
engine is cleared. Choices of the model it meets: log 64, 65. -/
def Obligations.SegmentEnginesAct : Prop :=
  (∀ (s : State) (b : Bool) (r : Octets) (rest : List (Bool × Octets)), s.clocked = true → s.seg.records = (b, r) :: rest →
    s.seg.fifo.length < 256 →
    ∃ t, exec .blobRecordEnqueue s = .next t ∧ t.seg.records = rest ∧ t.seg.fifo = s.seg.fifo ++ [r] ∧ t.seg.blobs = s.seg.blobs ∧
      t.octs = s.octs ∧ t.out = s.out) ∧
  (∀ (s : State) (b : Bool) (r : Octets) (rest : List (Bool × Octets)), s.clocked = true → s.seg.records = (b, r) :: rest →
    256 ≤ s.seg.fifo.length →
    ∃ t, exec .blobRecordEnqueue s = .next t ∧ t.seg = s.seg ∧ t.regs = s.regs) ∧
  (∀ (s : State) (b : Blob), s.clocked = true → s.EvfStill → s.fn .seg = .running → s.rd Ix.segIdleCloseTimeout 0 ≠ 0 → s.seg.blobs = [b] →
    s.rolePorts roleOp = [] → s.rolePorts roleFar = [] → b.joins = [] → s.seg.minArea ≤ b.m.area → b.m.strong = true →
    b.flags.testBit 0 = false → b.flags.testBit 5 = false → s.pmcCounts = false →
    ∃ t, exec .idleClose s = .next t ∧ t.seg.blobs = [] ∧ t.seg.cont = s.seg.cont ++ b.runs ∧
      t.seg.records = s.seg.records ++ [(true, blobRecord b.m (b.flags ||| 20) b.seg)] ∧
      t.rd Ix.segForceClosedBlobs 0 = (s.rd Ix.segForceClosedBlobs 0 + 1) % 2 ^ 64 ∧
      t.rd Ix.segBlobsReported 0 = (s.rd Ix.segBlobsReported 0 + 1) % 2 ^ 64 ∧ t.bit Ix.segDetectionStatus 0 1 = true) ∧
  (∀ (s : State) (w : JoinWait) (n : Nat), s.clocked = true → s.seg.next = some n → s.seg.waits = [w] →
    w.since + s.rd Ix.segPartialWait 0 + 3 ≤ n → (w.blob.joins.any fun j => j.2.isNone) = true → s.rolePorts roleOp = [] →
    s.rolePorts roleFar = [] →
    ∃ t, exec .partialWait s = .next t ∧ t.seg.waits = [] ∧ t.bit Ix.segDetectionStatus 0 3 = true ∧ t.seg.blobs = s.seg.blobs) ∧
  (∀ (s : State) (r : Req) (x : Session) (i : Fin 4) (value : BitVec 8), s.AtRest →
    s.Grants r x Ix.segSpareTarget (i.val + 1) (pathNum r.path 1 value.toNat) → value.toNat < 32 →
    s.rd Ix.segSpareState (i.val + 1) = 0 → s.rd Ix.segEngineState (32 + i.val + 1) = 0 →
    (∀ j : Fin 4, j ≠ i → s.rd Ix.segSpareTarget (j.val + 1) ≠ value.toNat) →
    ∃ t, exec (.segSpareTarget r i value) s = .next t ∧ s.Answers t r 0x11 .ok [] ∧ t.rd Ix.segSpareTarget (i.val + 1) = value.toNat ∧
      t.rd Ix.segSpareState (i.val + 1) = 1 ∧ t.rd Ix.segEngineState (32 + i.val + 1) = 2 ∧
      t.rd Ix.segLogicalSegment (32 + i.val + 1) = value.toNat ∧ t.seg.blobs = s.seg.blobs) ∧
  (∀ (s : State) (i : Fin 4), s.clocked = true → s.AtRest → s.rd Ix.segSpareState (i.val + 1) = 1 →
    ∃ t, exec (.segSpareLoaded i) s = .next t ∧ t.seg.spares = s.seg.spares.set i { s.seg.spares[i] with loaded := true } ∧
      t.rd Ix.segSpareState (i.val + 1) = 1 ∧ t.seg.blobs = s.seg.blobs) ∧
  (∀ (s : State) (r : Req) (x : Session) (i : Fin 4), s.AtRest → s.Grants r x Ix.segSpareCommand (i.val + 1) (pathNum r.path 1 1) →
    s.rd Ix.segSpareState (i.val + 1) = 1 ∨ s.rd Ix.segSpareState (i.val + 1) = 2 →
    ∃ t, exec (.segSpareTakeOver r i) s = .next t ∧ s.Answers t r 0x11 .ok [] ∧
      t.seg.spares = s.seg.spares.set i { s.seg.spares[i] with takeOver := true } ∧
      t.rd Ix.segSpareState (i.val + 1) = s.rd Ix.segSpareState (i.val + 1)) ∧
  (∀ (s : State) (r : Req) (x : Session) (i : Fin 4) (e : Fin 36), s.AtRest →
    s.Grants r x Ix.segSpareCommand (i.val + 1) (pathNum r.path 1 2) → (s.seg.spares[i]).replaced = some e.val →
    s.substituted (unitSeg e.val) = false → s.rd Ix.segSpareState (i.val + 1) = 3 → s.rd Ix.segEngineState (e.val + 1) = 0 →
    ∃ t, exec (.segSpareHandBack r i) s = .next t ∧ s.Answers t r 0x11 .ok [] ∧ t.rd Ix.segSpareState (i.val + 1) = 4 ∧
      t.rd Ix.segEngineState (e.val + 1) = 2 ∧ (t.seg.spares[i]).replaced = some e.val ∧ t.seg.blobs = s.seg.blobs) ∧
  (∀ (s : State) (r : Req) (x : Session) (i : Fin 4), s.AtRest → s.Grants r x Ix.segSpareCommand (i.val + 1) (pathNum r.path 1 3) →
    s.rd Ix.segSpareState (i.val + 1) = 1 ∨ s.rd Ix.segSpareState (i.val + 1) = 2 →
    ∃ t, exec (.segSpareRelease r i) s = .next t ∧ s.Answers t r 0x11 .ok [] ∧ t.rd Ix.segSpareState (i.val + 1) = 0 ∧
      t.rd Ix.segEngineState (32 + i.val + 1) = 0 ∧ t.rd Ix.segLogicalSegment (32 + i.val + 1) = 255 ∧ t.seg.spares = s.seg.spares.set i {}) ∧
  (∀ (s : State) (r : Req) (x : Session) (e : Fin 36), s.AtRest → s.Grants r x Ix.segEngineCommand (e.val + 1) (pathNum r.path 1 1) →
    s.substituted (unitSeg e.val) = false → s.rd Ix.segEngineState (e.val + 1) = 4 →
    ∃ t, exec (.engineClear r e) s = .next t ∧ s.Answers t r 0x11 .ok [] ∧ t.rd Ix.segEngineState (e.val + 1) = 0 ∧
      t.rd Ix.segLogicalSegment (e.val + 1) = 255 ∧ t.rd Ix.segEngineFaultCause (e.val + 1) = 0 ∧
      (e.val < 32 → t.seg.spares = s.seg.spares ∧
        t.seg.cleared.head? = some (s.rd Ix.segLogicalSegment (e.val + 1), e.val)) ∧
      t.seg.blobs = s.seg.blobs ∧ t.seg.records = s.seg.records) ∧
  (∀ (s : State) (r : Req) (x : Session) (i : Fin 4), s.AtRest →
    s.Grants r x Ix.segEngineCommand (32 + i.val + 1) (pathNum r.path 1 1) →
    s.substituted (unitSeg (32 + i.val)) = false → s.rd Ix.segEngineState (32 + i.val + 1) = 4 →
    ∃ t, exec (.engineClear r ⟨32 + i.val, by omega⟩) s = .next t ∧ s.Answers t r 0x11 .ok [] ∧
      t.rd Ix.segEngineState (32 + i.val + 1) = 0 ∧ t.rd Ix.segSpareState (i.val + 1) = 0 ∧
      t.seg.spares = s.seg.spares.set i {} ∧ t.seg.blobs = s.seg.blobs) ∧
  (∀ (s : State), s.clocked = true → s.fn .seg = .running → s.rd Ix.segIdleCloseTimeout 0 ≠ 0 →
    ∃ t, exec .idleClose s = .next t ∧ t.seg.blobs = [] ∧ t.seg.cont = s.seg.cont ++ s.seg.blobs.flatMap (fun b => b.runs) ∧
      t.rd Ix.segForceClosedBlobs 0 = (s.rd Ix.segForceClosedBlobs 0 + s.seg.blobs.length) % 2 ^ 64 ∧
      t.bit Ix.segDetectionStatus 0 1 = true ∧ t.seg.fifo = s.seg.fifo) ∧
  (∀ (s : State), s.fn .seg ≠ .running ∨ s.rd Ix.segIdleCloseTimeout 0 = 0 → exec .idleClose s = .next s) ∧
  (∀ (s : State) (n : Nat), s.clocked = true → s.seg.next = some n →
    s.seg.waits.any (fun w => decide (w.since + s.rd Ix.segPartialWait 0 + 3 ≤ n) && w.blob.joins.any (fun j => j.2.isNone)) = true →
    ∃ t, exec .partialWait s = .next t ∧ t.bit Ix.segDetectionStatus 0 3 = true ∧ t.seg.blobs = s.seg.blobs ∧ t.seg.fifo = s.seg.fifo ∧
      ∀ w ∈ t.seg.waits, w ∈ s.seg.waits ∧ (n < w.since + s.rd Ix.segPartialWait 0 + 3 ∨ w.blob.joins.all (fun j => j.2.isSome) = true)) ∧
  (∀ (s : State) (n : Nat), s.seg.next = some n →
    s.seg.waits.any (fun w => decide (w.since + s.rd Ix.segPartialWait 0 + 3 ≤ n) && w.blob.joins.any (fun j => j.2.isNone)) = false →
    exec .partialWait s = .next s)

/-- The classifier and its ledger (R291, R296, R302, R305, R310, R312): inputs count from the first strip summary on; a blob whose class
neither emits nor looks up is discarded and counted, one whose class looks up waits for the ledger; a Crumb leaves once CQ has room; a clear
sweeps every bucket. Choices of the model it meets: log 67. -/
def Obligations.ClassifierActs : Prop :=
  (∀ (s : State) (r : Octets) (rest : List Octets), s.clocked = true → s.EvfStill → s.fn .cls = .running → s.cls.crumbs = [] → s.cls.lookup = none →
    s.seg.fifo = r :: rest → leAt r 0 2 = 7 → s.cls.begun = false →
    ∃ t, exec .clsInput s = .next t ∧ t.cls = { s.cls with begun := true } ∧ t.seg.fifo = rest ∧
      t.rdf Ix.clsStreakClass 0 = s.rd Ix.clsStreakClass 0 ∧ t.rdfo Ix.clsClassTable 0 = s.rdo Ix.clsClassTable 0 ∧ t.regs = s.regs) ∧
  (∀ (s : State) (r : Octets) (rest : List Octets), s.clocked = true → s.EvfStill → s.fn .cls = .running → s.cls.crumbs = [] → s.cls.lookup = none →
    s.seg.fifo = r :: rest → leAt r 0 2 = 6 → s.cls.begun = false →
    ∃ t, exec .clsInput s = .next t ∧ t.cls = s.cls ∧ t.seg.fifo = rest ∧
      t.rd (Fn.cls.base + 7) Fn.cls.sub = (s.rd (Fn.cls.base + 7) Fn.cls.sub + 1) % 2 ^ 64 ∧ t.octs = s.octs) ∧
  (∀ (s : State) (r : Octets) (rest : List Octets) (c : Fin 16), s.clocked = true → s.EvfStill → s.fn .cls = .running → s.cls.crumbs = [] →
    s.cls.lookup = none → s.seg.fifo = r :: rest → leAt r 0 2 = 6 → s.cls.begun = true →
    s.treeClass (s.rdfo Ix.clsClassifierTree 0) r 17 0 = c.val → (clFlags (s.classEntry c.val)).testBit 4 = false →
    (clFlags (s.classEntry c.val)).testBit 0 = false →
    ∃ t, exec .clsInput s = .next t ∧ t.cls = s.cls ∧ t.seg.fifo = rest ∧
      t.rd Ix.clsBlobsDiscardedByClass (c.val + 1) = (s.rd Ix.clsBlobsDiscardedByClass (c.val + 1) + 1) % 2 ^ 64 ∧ t.octs = s.octs) ∧
  (∀ (s : State) (r : Octets) (rest : List Octets) (c : Fin 16), s.clocked = true → s.EvfStill → s.fn .cls = .running → s.cls.crumbs = [] →
    s.cls.lookup = none → s.seg.fifo = r :: rest → leAt r 0 2 = 6 → s.cls.begun = true →
    s.treeClass (s.rdfo Ix.clsClassifierTree 0) r 17 0 = c.val → (clFlags (s.classEntry c.val)).testBit 4 = true →
    s.rd Ix.segInputSource 0 = 0 → (s.pageStart (leAt r 0x28 4)).isSome = true →
    ∃ t, exec .clsInput s = .next t ∧ (t.cls.lookup.map fun l => (l.record, l.cls, l.page)) = some (r, c.val, leAt r 0x28 4) ∧
      t.cls.crumbs = [] ∧ t.seg.fifo = rest ∧ t.regs = s.regs ∧ t.dram = s.dram) ∧
  (∀ (s : State) (r : Octets) (rest : List Octets), s.clocked = true → s.EvfStill → s.fn .cls = .running → s.cls.crumbs = [] → s.cls.lookup = none →
    s.seg.fifo = [] → s.mre.toCls = r :: rest → leAt r 0 2 = 4 → s.cls.begun = true → (s.rdf Ix.clsSummaryCrumbsEnable 0).testBit 4 = true →
    ∃ t, exec .clsInput s = .next t ∧ (t.cls.crumbs.map fun c => octAt c 0) = [3] ∧ t.mre.toCls = rest ∧ t.dram = s.dram) ∧
  (∀ (s : State) (l : Lookup), s.clocked = true → s.EvfStill → s.cls.lookup = some l → s.pmcCounts = false →
    ∃ t, exec .ledgerLookup s = .next t ∧ t.cls.lookup = none ∧
      t.dram = (({ s with cls := { s.cls with lookup := none } } : State).ledgerUpdate l.key l.page
        (clsBlob l.record 0).base.lp0 l.cls).1.dram ∧ t.seg = s.seg) ∧
  (∀ (s : State) (c : Octets) (rest : List Octets), s.clocked = true → s.EvfStill → s.cls.crumbs = c :: rest → s.cqRoom = true →
    s.pmcCounts = false →
    ∃ t, exec .crumbPush s = .next t ∧ t.cls.crumbs = rest ∧
      t.rd Ix.clsCrumbsIssued 0 = (s.rd Ix.clsCrumbsIssued 0 + 1) % 2 ^ 64 ∧ t.seg = s.seg) ∧
  (∀ (s : State) (c : Octets) (rest : List Octets), s.clocked = true → s.cls.crumbs = c :: rest → s.cqRoom = false →
    ∃ t, exec .crumbPush s = .next t ∧ t.cls = s.cls ∧ t.queues = s.queues) ∧
  (∀ (s : State) (r : Req) (x : Session), s.Grants r x Ix.clsLedgerCommand 0 (pathNum r.path 1 1) → s.bit Ix.clsLedgerStatus 0 lsSweeping = false →
    ∃ t, exec (.ledgerClear r 1) s = .next t ∧ s.Answers t r 0x11 .ok [] ∧ t.bit Ix.clsLedgerStatus 0 lsSweeping = true ∧
      t.rd Ix.clsSweepPointer 0 = 0 ∧ t.dram = s.dram) ∧
  (∀ (s : State), s.clocked = true → s.bit Ix.clsLedgerStatus 0 lsSweeping = true →
    ∃ t, exec .ledgerSweepStep s = .next t ∧ t.rd Ix.clsSweepPointer 0 = (s.rd Ix.clsSweepPointer 0 + 1) % 2 ^ 32 ∧
      t.dram = (s.dramStore ((s.region 1).1 + s.rd Ix.clsSweepPointer 0 * 256) (zeros 256)).dram ∧
      t.bit Ix.clsLedgerStatus 0 lsSweeping = decide (s.rd Ix.clsSweepPointer 0 + 1 ≠ 2 ^ 22)) ∧
  (∀ (s : State) (r : Octets) (rest : List Octets), s.clocked = true → s.EvfStill → s.cls.crumbs = [] → s.cls.lookup = none →
    s.seg.fifo = r :: rest →
    ∃ t, exec .clsInput s = .next t ∧ t.seg.fifo = rest ∧ t.mre.toCls = s.mre.toCls ∧ t.pfc.fifo = s.pfc.fifo) ∧
  (∀ (s : State) (r : Octets) (rest : List Octets), s.clocked = true → s.EvfStill → s.cls.crumbs = [] → s.cls.lookup = none →
    s.seg.fifo = [] → s.mre.toCls = r :: rest →
    ∃ t, exec .clsInput s = .next t ∧ t.mre.toCls = rest ∧ t.seg.fifo = [] ∧ t.pfc.fifo = s.pfc.fifo) ∧
  (∀ (s : State) (r : Octets) (rest : List Octets), s.clocked = true → s.EvfStill → s.cls.crumbs = [] → s.cls.lookup = none →
    s.seg.fifo = [] → s.mre.toCls = [] → s.pfc.fifo = r :: rest →
    ∃ t, exec .clsInput s = .next t ∧ t.pfc.fifo = rest ∧ t.seg.fifo = [] ∧ t.mre.toCls = []) ∧
  (∀ (s : State) (l : Lookup), s.clocked = true → s.EvfStill → s.cls.lookup = some l →
    ∃ t, exec .ledgerLookup s = .next t ∧ t.cls.lookup = none ∧ t.seg.fifo = s.seg.fifo ∧ t.mre.toCls = s.mre.toCls)

/-- The profile filter chain (R321, R332, R336 to R338): an output that is due is formed once it exists for every bin, and waits till then;
an ended streak's event enters the FIFO while it has room; a swap request is taken or turned away, and cancelled; a write into the stopped
bank unsettles it. Choices of the model it meets: log 69, 206. -/
def Obligations.ProfileChainActs : Prop :=
  (∀ (s : State) (d : PfcDue) (rest : List PfcDue), s.clocked = true → s.EvfStill → s.fn .pfc = .running → s.pfc.due = d :: rest →
    s.pfcComplete d = true →
    ∃ t, exec .pfcOutput s = .next t ∧ t.pfc.due = rest ∧ t.pfc.outputs = s.pfc.outputs + 1 ∧ t.pfc.from_ = d.line + 1 ∧
      t.rd Ix.pfcOutputsProduced 0 = (s.rd Ix.pfcOutputsProduced 0 + 1) % 2 ^ 64 ∧ t.pfc.bins.length = s.pfc.bins.length ∧
      t.pfc.fifo = s.pfc.fifo ∧ t.seg = s.seg) ∧
  (∀ (s : State) (d : PfcDue) (rest : List PfcDue), s.clocked = true → s.fn .pfc = .running → s.pfc.due = d :: rest →
    s.pfcComplete d = false → ∃ t, exec .pfcOutput s = .next t ∧ t.pfc = s.pfc ∧ t.regs = s.regs) ∧
  (∀ (s : State), s.clocked = true → s.fn .pfc = .running → s.pfc.due = [] →
    ∃ t, exec .pfcOutput s = .next t ∧ t.pfc = s.pfc ∧ t.regs = s.regs) ∧
  (∀ (s : State) (e : Octets) (es : List Octets), s.clocked = true → s.pfc.ended = e :: es → s.pfc.fifo.length < 64 →
    ∃ t, exec .streakEventEnqueue s = .next t ∧ t.pfc = { s.pfc with ended := es, fifo := s.pfc.fifo ++ [e] } ∧
      t.rd Ix.pfcOpenStreaks 0 = (s.pfc.streaks.length + es.length) % 2 ^ 16 ∧ t.octs = s.octs) ∧
  (∀ (s : State) (e : Octets) (es : List Octets), s.clocked = true → s.pfc.ended = e :: es → 64 ≤ s.pfc.fifo.length →
    ∃ t, exec .streakEventEnqueue s = .next t ∧ t.pfc = s.pfc ∧ t.regs = s.regs) ∧
  (∀ (s : State) (r : Req) (x : Session), s.Grants r x Ix.pfcSwapRequest 0 (pathNum r.path 1 1) → s.pfc.swap = false →
    ∃ t, exec (.swapRequest r) s = .next t ∧ s.Answers t r 0x11 .ok [] ∧ t.pfc = { s.pfc with swap := true } ∧
      (s.pfc.fade.isSome = true → t.bit Ix.pfcFilterStatus 0 2 = true) ∧ t.rd Ix.pfcActiveBank 0 = s.rd Ix.pfcActiveBank 0) ∧
  (∀ (s : State) (r : Req) (x : Session), s.Grants r x Ix.pfcSwapRequest 0 (pathNum r.path 1 1) → s.pfc.swap = true →
    ∃ t, exec (.swapRequest r) s = .next t ∧ s.Answers t r 0x11 .busy [] ∧ t.pfc = s.pfc ∧ t.bit Ix.pfcFilterStatus 0 3 = true ∧
      t.rd Ix.pfcSwapsRefused 0 = min (s.rd Ix.pfcSwapsRefused 0 + 1) (2 ^ 32 - 1)) ∧
  (∀ (s : State) (r : Req) (x : Session), s.Grants r x Ix.pfcSwapRequest 0 (pathNum r.path 1 2) →
    ∃ t, exec (.swapCancel r) s = .next t ∧ s.Answers t r 0x11 .ok [] ∧ t.pfc = { s.pfc with swap := false } ∧
      t.bit Ix.pfcFilterStatus 0 2 = false) ∧
  (∀ (s : State) (r : Req) (x : Session) (bank : Fin 2) (v : BitVec 32),
    s.Grants r x Ix.pfcOutputGain (bank.val + 1) (pathNum r.path 4 v.toNat) → s.rd Ix.pfcActiveBank 0 ≠ bank.val → s.pfc.fade = none →
    s.pfc.swap = false →
    ∃ t, exec (.bankWrite r .gain bank (pathNum r.path 4 v.toNat)) s = .next t ∧ s.Answers t r 0x11 .ok [] ∧
      t.rd Ix.pfcOutputGain (bank.val + 1) = v.toNat ∧ t.rd Ix.pfcBankSettleCount (bank.val + 1) = s.pfcQ % 2 ^ 16 ∧ t.pfc = s.pfc) ∧
  (∀ (s : State) (r : Req) (x : Session) (bank : Fin 2) (v : BitVec 32),
    s.Grants r x Ix.pfcOutputGain (bank.val + 1) (pathNum r.path 4 v.toNat) → s.rd Ix.pfcActiveBank 0 = bank.val →
    ∃ t, exec (.bankWrite r .gain bank (pathNum r.path 4 v.toNat)) s = .next t ∧ s.Answers t r 0x11 .wrongState [] ∧ t.pfc = s.pfc ∧
      t.rd Ix.pfcOutputGain (bank.val + 1) = s.rd Ix.pfcOutputGain (bank.val + 1))

/-- Rings and descriptors (R358, R360, R370): a doorbell posts descriptors or is ignored; a descriptor read is kept, or waits for its one
retry, whose success is transient and whose failure marks the descriptor BAD and passes it; a read of channel 31 waits likewise (R197).
Choices of the model it meets: log 85, 91. -/
def Obligations.RingsFetch : Prop :=
  (∀ (s : State) (c : Fin 32) (v : BitVec 32), s.on = true → s.pcie.linkUp = true → c ≠ 31 →
    (v.toNat + 2 ^ 32 - s.consumer c) % 2 ^ 32 ≤ s.ringEntries c →
    ∃ t, exec (.doorbell (.doorbell c) (.word v)) s = .next t ∧ t.producer c = v.toNat ∧ t.consumer c = s.consumer c ∧
      t.dma = s.dma.set c { s.chan c with bell := v.toNat } ∧ t.out = s.out) ∧
  (∀ (s : State) (c : Fin 32) (v : BitVec 32), s.on = true → s.pcie.linkUp = true → c ≠ 31 →
    s.ringEntries c < (v.toNat + 2 ^ 32 - s.consumer c) % 2 ^ 32 →
    ∃ t, exec (.doorbell (.doorbell c) (.word v)) s = .next t ∧ t.producer c = s.producer c ∧
      t.bit Ix.dlvChannelStatus (c.val + 1) chRingErr = true ∧ t.dma = s.dma.set c { s.chan c with bell := v.toNat }) ∧
  (∀ (s : State) (v : BitVec 32), exec (.doorbell (.doorbell 31) (.word v)) s = .next s) ∧
  (∀ (s : State) (c : Fin 32) (desc : Vector Byte 32) (i : Nat), s.clocked = true → s.fetchIndex c = some i →
    ∃ t, exec (.descriptorFetch c desc true) s = .next t ∧
      t.chan c = { s.chan c with fetched := (s.chan c).fetched ++ [(i, desc.toList)] } ∧ t.regs = s.regs ∧
      t.out = s.out ++ (accessesFor s.maxReadRequest 32 (s.descriptorAt c i) 32).map
        (fun a => Output.hostFetch a.1 a.2 (s.rd Ix.dlvReadNoSnoop (c.val + 1) == 1))) ∧
  (∀ (s : State) (c : Fin 32) (desc : Vector Byte 32) (i : Nat), s.clocked = true → s.fetchIndex c = some i →
    ∃ t, exec (.descriptorFetch c desc false) s = .next t ∧ t.chan c = { s.chan c with failing := some .descriptor } ∧ t.regs = s.regs) ∧
  (∀ (s : State) (c : Fin 32) (data : Octets) (i : Nat), s.clocked = true → c ≠ 31 → (s.chan c).failing = some .descriptor →
    data.length = 32 → (s.setChan c { s.chan c with failing := none }).fetchIndex c = some i →
    ∃ t, exec (.fetchRetry c data true) s = .next t ∧
      t.chan c = { s.chan c with failing := none, fetched := (s.chan c).fetched ++ [(i, data)] } ∧
      t.rd Ix.dlvRetriedReads (c.val + 1) = (s.rd Ix.dlvRetriedReads (c.val + 1) + 1) % 2 ^ 64 ∧ t.consumer c = s.consumer c) ∧
  (∀ (s : State) (c : Fin 32) (data : Octets), s.clocked = true → c ≠ 31 → (s.chan c).failing = some .descriptor → s.chanWorks c = false →
    exec (.fetchRetry c data false) s = .next s) ∧
  (∀ (s : State) (c : Fin 32) (data : Octets), s.clocked = true → c ≠ 31 → s.chanSource c ≠ 6 → s.chanWorks c = true →
    (s.chan c).failing = some .descriptor → (s.chan c).fetched = [] →
    ∃ t, exec (.fetchRetry c data false) s = .next t ∧ t.chan c = { s.chan c with failing := none } ∧
      t.bit Ix.dlvChannelStatus (c.val + 1) chFetchFail = true ∧ t.bit Ix.dlvChannelStatus (c.val + 1) chBad = true ∧
      t.consumer c = (s.consumer c + 1) % 2 ^ 32 ∧
      t.rd Ix.dlvBadDescriptors (c.val + 1) = (s.rd Ix.dlvBadDescriptors (c.val + 1) + 1) % 2 ^ 64) ∧
  (∀ (s : State) (c : Fin 32) (kind : HostRead), s.pcie.setup.timeoutOff = true → exec (.completionTimeout c kind) s = .next s) ∧
  (∀ (s : State) (c : Fin 32) (i : Nat), s.clocked = true → s.pcie.setup.timeoutOff = false → c ≠ 31 → (s.chan c).failing = none → s.fetchIndex c = some i →
    ∃ t, exec (.completionTimeout c .descriptor) s = .next t ∧ t.chan c = { s.chan c with failing := some .descriptor } ∧ t.regs = s.regs) ∧
  (∀ (s : State) (kind : HostRead), s.clocked = true → s.pcie.setup.timeoutOff = false → (s.chan 31).failing = none →
    s.movingPage.isSome = true → s.loadsMove = true →
    ∃ t, exec (.completionTimeout 31 kind) s = .next t ∧ t.chan 31 = { s.chan 31 with failing := some .data } ∧ t.mre = s.mre ∧ t.regs = s.regs)

/-- Trays (R361 to R364, R366 to R368): a packet goes whole into the open Tray; a Tray opens in the next descriptor, or the source waits; a
record that does not fit, the timeout and FLUSH close it, and an armed shadow ring takes over with the close; the descriptor completes, a
FENCE read first; a failed write loses the Tray's records; the accesses of a write each carry at least one octet and at most Max Payload
Size, cross no 4 KiB boundary, go no further than the next 64-byte boundary where they begin off one, and carry all octets in order. Choices
of the model it meets: log 87, 88, 90. -/
def Obligations.TraysFillAndClose : Prop :=
  (∀ (s : State) (c : Fin 32) (tray : Tray) (i : Nat) (d : Octets) (p : List QWord) (ps : List (List QWord)), s.clocked = true →
    s.fn .dma = .running → s.chanWorks c = true → (s.chan c).finishing = false → s.chanSource c = 2 → (s.chan c).tray = some tray →
    (s.chan c).current = some (i, d) → s.queues[sqIx].packets = p :: ps → p ≠ [] → badParity p = 0 → p.all (fun w => !w.poison) = true →
    tray.bytes + 8 * p.length ≤ deLen d - 128 →
    ∃ t, exec (.dmaPacket c) s = .next t ∧ t.queues[sqIx].packets = ps ∧
      (t.chan c).tray.map (fun y => (y.bytes, y.records, y.poisoned, y.opened)) =
        some (tray.bytes + 8 * p.length, tray.records + 1, tray.poisoned, tray.opened) ∧
      t.out = s.out ++ s.writeAccesses (deAddr d + 64 + tray.bytes - tray.tail.length)
        (tray.tail ++ octetsOfWords (p.map (fun w => w.data))) ∧
      (t.chan c).delivered = (s.chan c).delivered + 1) ∧
  (∀ (s : State) (c : Fin 32) (i : Nat) (d : Octets) (rest : List (Nat × Octets)) (p : List QWord) (ps : List (List QWord)), s.clocked = true →
    s.fn .dma = .running → s.chanWorks c = true → (s.chan c).finishing = false → s.chanSource c = 3 → (s.chan c).tray = none →
    s.queues[xqIx].packets = p :: ps → (s.chan c).fetched = (i, d) :: rest → d ≠ [] → s.descriptorOk c d = true →
    8 * p.length ≤ deLen d - 128 →
    ∃ t, exec (.dmaPacket c) s = .next t ∧ (t.chan c).current = some (i, d) ∧ (t.chan c).fetched = rest ∧ (t.chan c).tray.isSome = true ∧
      t.consumer c = (i + 1) % 2 ^ 32 ∧
      t.rd Ix.dlvTraySequence (c.val + 1) = (s.rd Ix.dlvTraySequence (c.val + 1) + 1) % 2 ^ 64 ∧ t.queues[xqIx].packets = ps) ∧
  (∀ (s : State) (c : Fin 32), s.clocked = true → s.fn .dma = .running → s.chanSource c ≠ 6 → (s.chan c).tray = none → (s.chan c).fetched = [] →
    exec (.dmaPacket c) s = .next s) ∧
  (∀ (s : State) (c : Fin 32) (tray : Tray) (i : Nat) (d : Octets) (p : List QWord) (ps : List (List QWord)), s.clocked = true →
    s.fn .dma = .running → s.chanWorks c = true → (s.chan c).finishing = false → s.chanSource c = 1 → (s.chan c).tray = some tray →
    (s.chan c).current = some (i, d) → s.queues[cqIx].packets = p :: ps → deLen d - 128 < tray.bytes + 8 * p.length →
    ∃ t, exec (.dmaPacket c) s = .next t ∧ (t.chan c).tray = none ∧ (t.chan c).finishing = true ∧ (t.chan c).reason = crFull ∧
      (t.chan c).status = dsDone ∧ (t.chan c).used = tray.bytes ∧ (t.chan c).lost = 0 ∧ t.queues = s.queues) ∧
  (∀ (s : State) (c : Fin 32) (tray : Tray) (i : Nat) (d : Octets), s.clocked = true → s.chanWorks c = true →
    s.rd Ix.dlvCloseTimeout (c.val + 1) ≠ 0 → (s.chan c).tray = some tray → tray.records ≠ 0 → (s.chan c).current = some (i, d) →
    s.rd Ix.dlvShadowArm (c.val + 1) = 1 →
    ∃ t, exec (.closeTimeout c) s = .next t ∧ (t.chan c).tray = none ∧ (t.chan c).reason = crTimeout ∧ (t.chan c).fetched = [] ∧
      t.rd Ix.dlvRingBase (c.val + 1) = s.rd Ix.dlvShadowRingBase (c.val + 1) % 2 ^ 64 ∧
      t.ringEntries c = s.rd Ix.dlvShadowRingEntries (c.val + 1) % 2 ^ 32 ∧
      t.consumer c = s.rd Ix.dlvShadowStartIndex (c.val + 1) % 2 ^ 32 ∧ t.rd Ix.dlvShadowArm (c.val + 1) = 0 ∧
      (t.chan c).place = (s.chan c).place) ∧
  (∀ (s : State) (r : Req) (x : Session) (c : Fin 32) (tray : Tray) (i : Nat) (d : Octets),
    s.Grants r x Ix.dlvChannelCommand (c.val + 1) (pathNum r.path 1 3) → c ≠ 31 → s.runs .dma = true ∨ s.drains .dma = true → s.writesPass = true →
    (s.chan c).tray = some tray → (s.chan c).current = some (i, d) →
    ∃ t, exec (.flush r c) s = .next t ∧ s.Answers t r 0x11 .ok [] ∧ (t.chan c).tray = none ∧ (t.chan c).reason = crFlush ∧
      (t.chan c).used = tray.bytes) ∧
  (∀ (s : State) (c : Fin 32) (i : Nat) (d : Octets), s.clocked = true → s.busOpen = true → (s.chan c).current = some (i, d) →
    (s.chan c).finishing = true → deFence d = true → (s.chan c).fenced = false → (s.chan c).failing = none →
    ∃ t, exec (.fenceRead c true) s = .next t ∧ t.chan c = { s.chan c with fenced := true } ∧ t.regs = s.regs ∧
      t.out = s.out ++ [.hostFetch (deAddr d + deLen d - 1) 1 (s.rd Ix.dlvReadNoSnoop (c.val + 1) == 1)]) ∧
  (∀ (s : State) (c : Fin 32) (i : Nat) (d data : Octets) (ok : Bool), s.clocked = true → s.chanFinishes c = true → s.chanSource c ≠ 6 →
    (s.chan c).current = some (i, d) → (s.chan c).finishing = true → (s.chan c).failing = none → deFence d = false ∨ (s.chan c).fenced = true →
    (s.chan c).status = dsDone →
    ∃ t, exec (.descriptorComplete c data ok) s = .next t ∧ (t.chan c).current = none ∧ (t.chan c).finishing = false ∧
      t.rd Ix.dlvTraysCompleted (c.val + 1) = (s.rd Ix.dlvTraysCompleted (c.val + 1) + 1) % 2 ^ 64 ∧
      t.out = s.out ++ (Output.hostWrite ((s.chan c).place + 0x18) (leBytes 1 1 ++ leBytes 1 (s.chan c).reason ++ leBytes 2 0 ++
        leBytes 4 (s.chan c).used) :: (if deIrq d then [Output.msix c.val] else []))) ∧
  (∀ (s : State) (c : Fin 32) (i : Nat) (d data : Octets), s.clocked = true → s.chanFinishes c = true → s.chanSource c = 6 →
    (s.chan c).current = some (i, d) → (s.chan c).finishing = false → (s.chan c).failing = none → deToHost d = false → deFence d = false →
    data.length = deLen d →
    ∃ t, exec (.descriptorComplete c data true) s = .next t ∧ (t.chan c).current = none ∧
      t.dram = (s.dramStore (deDevice d) data).dram ∧
      t.rd Ix.dlvTraysCompleted (c.val + 1) = (s.rd Ix.dlvTraysCompleted (c.val + 1) + 1) % 2 ^ 64) ∧
  (∀ (s : State) (c : Fin 32) (tray : Tray) (i : Nat) (d : Octets), s.clocked = true → (s.chan c).current = some (i, d) →
    (s.chan c).tray = some tray → tray.records ≠ 0 →
    ∃ t, exec (.writeFail c) s = .next t ∧ (t.chan c).tray = none ∧ (t.chan c).current = none ∧
      (t.chan c).lost = (s.chan c).lost + tray.records ∧ t.bit Ix.dlvChannelStatus (c.val + 1) chBad = true ∧
      t.bit Ix.dlvChannelStatus (c.val + 1) chLost = true ∧
      t.rd Ix.dlvRecordsLost (c.val + 1) = (s.rd Ix.dlvRecordsLost (c.val + 1) + tray.records) % 2 ^ 64 ∧
      t.rd Ix.dlvBadDescriptors (c.val + 1) = (s.rd Ix.dlvBadDescriptors (c.val + 1) + 1) % 2 ^ 64) ∧
  (∀ (s : State) (q : Fin 3), s.clocked = true → s.lossDue q = true →
    ∃ t, exec (.lossRecord q) s = .next t ∧ t.queues[q].lostPackets = 0 ∧ t.queues[q].lostWords = 0 ∧
      t.queues[q].packets = s.queues[q].packets ++ [packetOf false (wordsOf 4 (lossRecord q s.queues[q]))] ∧
      t.rd Ix.dlvPacketsPushed (q.val + 1) = (s.rd Ix.dlvPacketsPushed (q.val + 1) + 1) % 2 ^ 64) ∧
  (∀ (s : State) (addr : Nat) (data : Octets),
    (s.writeAccesses addr data).all (fun o => match o with
      | .hostWrite x bs => decide (1 ≤ bs.length ∧ bs.length ≤ s.maxPayload ∧ x / 4096 = (x + bs.length - 1) / 4096 ∧
          (x % 64 ≠ 0 → x / 64 = (x + bs.length - 1) / 64))
      | _ => false) = true ∧
    (s.writeAccesses addr data).flatMap (fun o => match o with
      | .hostWrite _ bs => bs
      | _ => []) = data) ∧
  (∀ (s : State) (c : Fin 32) (q : Fin 3) (tray : Tray) (i : Nat) (d : Octets) (p : List QWord) (ps : List (List QWord)), s.clocked = true →
    s.fn .dma = .running → s.chanWorks c = true → (s.chan c).finishing = false → s.chanSource c = q.val + 1 →
    (s.chan c).tray = some tray → (s.chan c).current = some (i, d) → s.queues[q].packets = p :: ps →
    tray.bytes + 8 * p.length ≤ deLen d - 128 →
    ∃ t, exec (.dmaPacket c) s = .next t ∧ t.queues[q].packets = ps ∧
      (t.chan c).tray.map (fun y => (y.bytes, y.records, y.opened)) = some (tray.bytes + 8 * p.length, tray.records + 1, tray.opened) ∧
      (t.chan c).delivered = (s.chan c).delivered + 1 ∧ (t.chan c).current = some (i, d)) ∧
  (∀ (s : State) (c : Fin 32) (tray : Tray) (i : Nat) (d : Octets) (r : Bool × Octets) (rest : List (Bool × Octets)), s.clocked = true →
    s.fn .dma = .running → s.chanWorks c = true → (s.chan c).finishing = false → s.chanSource c = 4 →
    (s.chan c).tray = some tray → (s.chan c).current = some (i, d) → s.hrb.ready = r :: rest → tray.bytes + r.2.length ≤ deLen d - 128 →
    ∃ t, exec (.dmaPacket c) s = .next t ∧ t.hrb.ready = rest ∧
      (t.chan c).tray.map (fun y => (y.bytes, y.records, y.opened)) = some (tray.bytes + r.2.length, tray.records + 1, tray.opened) ∧
      (t.chan c).delivered = (s.chan c).delivered + 1 ∧ t.queues = s.queues) ∧
  (∀ (s : State) (c : Fin 32) (tray : Tray) (i : Nat) (d : Octets) (e : ExportItem) (rest : List ExportItem), s.clocked = true →
    s.fn .dma = .running → s.chanWorks c = true → (s.chan c).finishing = false → s.chanSource c = 5 →
    (s.chan c).tray = some tray → (s.chan c).current = some (i, d) → s.hrb.exports = e :: rest →
    tray.bytes + s.sourceLength c ≤ deLen d - 128 → (match e with
      | .header _ => true
      | .line l _ _ => s.oldestLine.any (fun o => decide (o ≤ l))) = true →
    ∃ t, exec (.dmaPacket c) s = .next t ∧ t.hrb.exports = rest ∧
      (t.chan c).tray.map (fun y => (y.records, y.opened)) = some (tray.records + 1, tray.opened) ∧
      (t.chan c).delivered = (s.chan c).delivered + 1 ∧ t.queues = s.queues) ∧
  (∀ (s : State) (c : Fin 32) (tray : Tray) (i : Nat) (d : Octets), s.clocked = true → s.chanWorks c = true →
    s.rd Ix.dlvCloseTimeout (c.val + 1) ≠ 0 → (s.chan c).tray = some tray → tray.records ≠ 0 → (s.chan c).current = some (i, d) →
    ∃ t, exec (.closeTimeout c) s = .next t ∧ (t.chan c).tray = none ∧ (t.chan c).finishing = true ∧ (t.chan c).reason = crTimeout ∧
      (t.chan c).status = dsDone ∧ (t.chan c).used = tray.bytes ∧ (t.chan c).held = tray.records ∧ (t.chan c).current = some (i, d)) ∧
  (∀ (s : State) (r : Req) (x : Session) (c : Fin 32), s.Grants r x Ix.dlvChannelCommand (c.val + 1) (pathNum r.path 1 3) → c ≠ 31 →
    (s.chan c).tray = none →
    ∃ t, exec (.flush r c) s = .next t ∧ s.Answers t r 0x11 .ok [] ∧ t.dma = s.dma ∧ t.queues = s.queues) ∧
  (∀ (s : State) (c : Fin 32) (i : Nat) (d : Octets), s.clocked = true → s.busOpen = true → (s.chan c).current = some (i, d) →
    (s.chan c).finishing = true → deFence d = true → (s.chan c).fenced = false → (s.chan c).failing = none →
    ∃ t, exec (.fenceRead c false) s = .next t ∧ t.chan c = { s.chan c with failing := some .fence } ∧ t.regs = s.regs) ∧
  (∀ (s : State) (c : Fin 32) (i : Nat) (d data : Octets) (ok : Bool), s.clocked = true → s.chanFinishes c = true →
    (s.chan c).current = some (i, d) → (s.chan c).finishing = true → (s.chan c).failing = none → deFence d = false ∨ (s.chan c).fenced = true →
    ∃ t, exec (.descriptorComplete c data ok) s = .next t ∧ (t.chan c).current = none ∧ (t.chan c).finishing = false ∧
      t.out = s.out ++ (Output.hostWrite ((s.chan c).place + 0x18) (leBytes 1 (s.chan c).status ++ leBytes 1 (s.chan c).reason ++ leBytes 2 0 ++
        leBytes 4 (s.chan c).used) :: (if deIrq d then [Output.msix c.val] else []))) ∧
  (∀ (s : State) (c : Fin 32) (i : Nat) (d data : Octets) (ok : Bool), s.clocked = true → s.chanFinishes c = true → s.chanSource c = 6 →
    (s.chan c).current = some (i, d) → (s.chan c).finishing = false → (s.chan c).failing = none → deToHost d = true →
    deFence d = false →
    ∃ t, exec (.descriptorComplete c data ok) s = .next t ∧ (t.chan c).current = none ∧ (t.chan c).finishing = false ∧ t.dram = s.dram) ∧
  (∀ (s : State) (c : Fin 32) (i : Nat) (d : Octets), s.clocked = true → (s.chan c).current = some (i, d) →
    ∃ t, exec (.writeFail c) s = .next t ∧ (t.chan c).tray = none ∧ (t.chan c).current = none ∧ (t.chan c).finishing = false ∧
      t.bit Ix.dlvChannelStatus (c.val + 1) chBad = true ∧
      t.rd Ix.dlvBadDescriptors (c.val + 1) = (s.rd Ix.dlvBadDescriptors (c.val + 1) + 1) % 2 ^ 64) ∧
  (∀ (s : State) (c : Fin 32), (s.chan c).current = none → exec (.writeFail c) s = .next s)

/-- Channel commands and crops (R354, R355, R365, R367): PAUSE and RESUME; Shadow arm; a crop is cut when the ring holds its last line, or
abandoned when its first has been overwritten; its blocks are taken; it goes to its channel after its Crumb. Choices of the model it meets:
log 88, 94. -/
def Obligations.ChannelsAndCrops : Prop :=
  (∀ (s : State) (r : Req) (x : Session) (c : Fin 32), s.Grants r x Ix.dlvChannelCommand (c.val + 1) (pathNum r.path 1 1) → c ≠ 31 →
    ∃ t, exec (.pause r c) s = .next t ∧ s.Answers t r 0x11 .ok [] ∧ t.chan c = { s.chan c with paused := true } ∧
      (t.chanLive c).testBit chPaused = ((s.chan c).current.isNone || (s.chan c).tray.isSome) ∧ t.consumer c = s.consumer c ∧
      t.chanWorks c = false) ∧
  (∀ (s : State) (r : Req) (x : Session) (c : Fin 32), s.Grants r x Ix.dlvChannelCommand (c.val + 1) (pathNum r.path 1 2) → c ≠ 31 →
    ∃ t, exec (.channelResume r c) s = .next t ∧ s.Answers t r 0x11 .ok [] ∧ t.chan c = { s.chan c with paused := false } ∧
      (t.chanLive c).testBit chPaused = false ∧ t.consumer c = s.consumer c) ∧
  (∀ (s : State) (r : Req) (x : Session) (c : Fin 32) (v : BitVec 8),
    s.Grants r x Ix.dlvShadowArm (c.val + 1) (pathNum r.path 1 v.toNat) →
    ∃ t, exec (.shadowArm r c v false) s = .next t ∧ s.Answers t r 0x11 .ok [] ∧ t.rd Ix.dlvShadowArm (c.val + 1) = v.toNat ∧
      t.dma = s.dma ∧ t.bit Ix.dlvChannelStatus (c.val + 1) chShadowLate = s.bit Ix.dlvChannelStatus (c.val + 1) chShadowLate) ∧
  (∀ (s : State) (r : Req) (x : Session) (c : Fin 32) (v : BitVec 8),
    s.Grants r x Ix.dlvShadowArm (c.val + 1) (pathNum r.path 1 v.toNat) → (s.chan c).handed = some s.ns →
    ∃ t, exec (.shadowArm r c v true) s = .next t ∧ t.rd Ix.dlvShadowArm (c.val + 1) = v.toNat ∧
      t.bit Ix.dlvChannelStatus (c.val + 1) chShadowLate = true ∧ t.rd Ix.dlvRingBase (c.val + 1) = s.rd Ix.dlvRingBase (c.val + 1)) ∧
  (∀ (s : State) (k : Crop) (o n : HistLine) (ls : List HistLine), s.clocked = true → s.hrb.crops = [k] → k.cut = false →
    s.hrb.lines = o :: ls → s.hrb.lines.getLast? = some n → k.line1 ≤ n.line → k.line0 < o.line →
    ∃ t, exec .cropCut s = .next t ∧ t.bit Ix.hrbHistoryStatus 0 hsCropAbandoned = true ∧
      t.rd Ix.hrbCropsAbandoned 0 = (s.rd Ix.hrbCropsAbandoned 0 + 1) % 2 ^ 64 ∧
      t.hrb.crops = [{ k with abandoned := true, cut := true, raw := [], blocks := 0, encoded := [] }] ∧ t.dram = s.dram) ∧
  (∀ (s : State) (k : Crop) (o n : HistLine) (ls : List HistLine), s.clocked = true → s.hrb.crops = [k] → k.cut = false →
    s.hrb.lines = o :: ls → s.hrb.lines.getLast? = some n → k.line1 ≤ n.line → o.line ≤ k.line0 → s.rd Ix.hrbCropCompression 0 = 0 →
    ∃ t, exec .cropCut s = .next t ∧ t.hrb.crops.map (fun y => (y.cut, y.abandoned, y.blocks)) = [(true, k.abandoned, 0)] ∧
      t.hrb.crops.map (fun y => y.lines) = [s.hrb.lines.filter (fun l => decide (k.line0 ≤ l.line ∧ l.line ≤ k.line1))] ∧ t.cde = s.cde) ∧
  (∀ (s : State) (k : Crop) (i : Nat) (b : Octets) (rest : List (Nat × Nat × Octets)), s.clocked = true →
    s.cde.encoded = (k.handle, i, b) :: rest → s.hrb.crops = [k] →
    ∃ t, exec .cropBlockEncoded s = .next t ∧ t.cde.encoded = rest ∧ t.hrb.crops = [{ k with encoded := (i, b) :: k.encoded }]) ∧
  (∀ (s : State) (k : Crop), s.clocked = true → s.hrb.crops = [k] → k.cut = true → k.crumbOut = true → k.blocks = 0 →
    s.cropStale k = false →
    ∃ t, exec .cropDeliver s = .next t ∧ t.hrb.crops = [] ∧ t.hrb.lines = s.hrb.lines ∧
      t.hrb.ready = s.hrb.ready ++ [(k.poisoned && !k.abandoned, s.cropRecord k)] ∧ t.rd Ix.hrbPendingCrops 0 = 0) ∧
  (∀ (s : State) (k : Crop), s.clocked = true → s.hrb.crops = [k] → k.crumbOut = false → exec .cropDeliver s = .next s) ∧
  (∀ (s : State) (k : Crop) (n : HistLine), s.clocked = true → s.hrb.lines.getLast? = some n →
    s.hrb.crops.find? (fun c => !c.cut && decide (c.line1 ≤ n.line)) = some k →
    ∃ t, exec .cropCut s = .next t ∧ t.hrb.crops.map (fun y => y.handle) = s.hrb.crops.map (fun y => y.handle) ∧
      (∀ y ∈ t.hrb.crops, y.handle = k.handle → y.cut = true) ∧
      (∀ y ∈ s.hrb.crops, y.handle ≠ k.handle → y ∈ t.hrb.crops) ∧ t.hrb.lines = s.hrb.lines ∧ t.hrb.ready = s.hrb.ready) ∧
  (∀ (s : State) (e : Nat × Nat × Octets) (rest : List (Nat × Nat × Octets)), s.clocked = true → s.cde.encoded = e :: rest →
    ∃ t, exec .cropBlockEncoded s = .next t ∧ t.cde.encoded = rest ∧
      t.hrb.crops.map (fun y => y.handle) = s.hrb.crops.map (fun y => y.handle) ∧ t.hrb.ready = s.hrb.ready ∧ t.cde.crops = s.cde.crops) ∧
  (∀ (s : State) (k : Crop), s.clocked = true → s.hrb.crops.find? (fun c => c.crumbOut && c.ready) = some k →
    ∃ t, exec .cropDeliver s = .next t ∧ t.hrb.crops = s.hrb.crops.filter (fun y => y.handle != k.handle) ∧
      t.hrb.ready.length = s.hrb.ready.length + 1 ∧ t.hrb.lines = s.hrb.lines)

/-- The endpoint (R366, R369 to R372, R374, R535): link down and up, Bus Master Enable, AER errors, the diagnostic window, the Function
Level Reset, the mailboxes' end (R450), and the memory space of BAR0 and BAR2: a read answers the octets of its places, reserved ones 0; a
doorbell reads as it was written; a write of reserved or read-only places is ignored; a word of a shadow ring writes its object; a read of a
queue's flags clears them. Choices of the model it meets: log 95, 96. -/
def Obligations.EndpointActs : Prop :=
  (∀ (s : State), s.on = true → s.fn .pcie = .running →
    ∃ t, exec .pcieLinkDown s = .next t ∧ t.pcie.linkUp = false ∧ t.fn .pcie = .faulted ∧ t.rd Ix.dlvLinkSpeed 0 = 0 ∧
      t.rd Ix.dlvLinkWidth 0 = 0 ∧ t.dram = s.dram) ∧
  (∀ (s : State) (speed width : BitVec 8) (setup : HostSetup), s.on = true →
    ∃ t, exec (.pcieLinkUp ⟨speed, width⟩ setup) s = .next t ∧ t.pcie = { s.pcie with linkUp := true, setup := setup } ∧ t.rd Ix.dlvLinkSpeed 0 = speed.toNat ∧
      t.rd Ix.dlvLinkWidth 0 = width.toNat ∧ t.fn .pcie = s.fn .pcie ∧ t.dma = s.dma) ∧
  (∀ (s : State), s.on = true → s.pcie.linkUp = true →
    ∃ t, exec .busMasterDisable s = .next t ∧ t.pcie = { s.pcie with busMaster := false } ∧ (∀ c, t.chanWorks c = false) ∧
      t.regs = s.regs ∧ t.dma = s.dma) ∧
  (∀ (s : State), s.on = true → s.pcie.linkUp = true →
    ∃ t, exec .busMasterEnable s = .next t ∧ t.pcie = { s.pcie with busMaster := true } ∧ t.regs = s.regs ∧ t.dma = s.dma) ∧
  (∀ (s : State) (correctable : Bool), s.on = true → s.pcie.linkUp = true → s.pcie.busMaster = true →
    ∃ t, exec (.aerError correctable) s = .next t ∧ t.out = s.out ++ [.msix 36] ∧
      t.rd Ix.dlvCorrectableErrors 0 = (s.rd Ix.dlvCorrectableErrors 0 + (if correctable then 1 else 0)) % 2 ^ 64 ∧
      t.rd Ix.dlvUncorrectableErrors 0 = (s.rd Ix.dlvUncorrectableErrors 0 + (if correctable then 0 else 1)) % 2 ^ 64) ∧
  (∀ (s : State) (offset : BitVec 28) (n : Fin 4097), s.on = true → s.pcie.linkUp = true → s.rd Ix.dlvDiagnosticWindowEnable 0 = 0 →
    ∃ t, exec (.bar4Read offset n) s = .next t ∧ t.out = s.out ++ [.hostRead 4 offset.toNat (List.replicate n.val (0xFF : Byte))] ∧
      t.regs = s.regs ∧ t.dram = s.dram) ∧
  (∀ (s : State) (offset : BitVec 28) (data : Octets), s.on = true → s.pcie.linkUp = true → s.rd Ix.dlvDiagnosticWindowEnable 0 = 1 →
    s.rd Ix.lifLifeCycleState 0 = 2 →
    ∃ t, exec (.bar4Write offset data) s = .next t ∧ t = s.dramStore (s.rd Ix.dlvDiagnosticWindowBase 0 + offset.toNat) data) ∧
  (∀ (s : State) (offset : BitVec 28) (data : Octets), s.rd Ix.dlvDiagnosticWindowEnable 0 ≠ 1 ∨ s.rd Ix.lifLifeCycleState 0 ≠ 2 →
    exec (.bar4Write offset data) s = .next s) ∧
  (∀ (s : State), s.on = true →
    ∃ t, exec .functionLevelReset s = .next t ∧ (∀ c, (t.chan c).fetched = [] ∧ t.producer c = 0 ∧ t.rd Ix.dlvShadowArm (c.val + 1) = 0) ∧
      t.fn .dma = s.fn .dma ∧ t.fn .pcie = s.fn .pcie ∧ t.dram = s.dram) ∧
  (∀ (s : State), s.on = true →
    ∃ t, exec .functionLevelReset s = .next t ∧ t.sessions.all (fun y => decide (y.id < 64 ∨ 67 < y.id)) = true ∧
      (∀ m : Fin 4, (t.mailboxes[m]).ready = false ∧ (t.mailboxes[m]).overrun = false ∧ (t.mailboxes[m]).irq = (s.mailboxes[m]).irq)) ∧
  (∀ (s : State), s.on = true →
    ∃ t, exec .pcieLinkDown s = .next t ∧ t.sessions.all (fun y => decide (y.id < 64 ∨ 67 < y.id)) = true ∧
      (∀ m : Fin 4, (t.mailboxes[m]).ready = false ∧ (t.mailboxes[m]).overrun = false ∧ (t.mailboxes[m]).irq = (s.mailboxes[m]).irq)) ∧
  (∀ (s : State) (o : BitVec 16) (n : Fin 4097), s.on = true → s.pcie.linkUp = true →
    ∃ t, exec (.doorbell (.bar0 o) (.read n)) s = .next t ∧
      t.out = s.out ++ [.hostRead 0 o.toNat ((List.range n.val).map (fun i => s.bar0Octet (o.toNat + i)))] ∧ t.dma = s.dma ∧
      t.queues = s.queues ∧ t.dram = s.dram) ∧
  (∀ (s : State) (k : Nat), bar0Place k = .reserved → s.bar0Octet k = 0) ∧
  (∀ (s : State) (c : Fin 32) (v : BitVec 32), s.on = true → s.pcie.linkUp = true → c ≠ 31 →
    ∃ t u, exec (.doorbell (.doorbell c) (.word v)) s = .next t ∧ exec (.doorbell (.bar0 (BitVec.ofNat 16 (0x8000 + 8 * c.val))) (.read 4)) t = .next u ∧
      u.out = t.out ++ [.hostRead 0 (0x8000 + 8 * c.val) (leBytes 4 v.toNat)]) ∧
  (∀ (s : State) (c : Fin 32), s.on = true → s.pcie.linkUp = true →
    ∃ t, exec (.doorbell (.bar0 (BitVec.ofNat 16 (0xC000 + 16 * c.val))) (.read 8)) s = .next t ∧ t.regs = s.regs ∧
      t.out = s.out ++ [.hostRead 0 (0xC000 + 16 * c.val) (leBytes 4 (s.consumer c) ++ leBytes 4 (s.rd Ix.dlvTraySequence (c.val + 1)))]) ∧
  (∀ (s : State) (o : BitVec 16) (data : Octets),
    (List.range data.length).all (fun k => match bar0Place (o.toNat + k) with
      | .channel _ _ => true
      | .queue _ _ => true
      | .live _ => true
      | .reserved => true
      | _ => false) = true →
    exec (.doorbell (.bar0 o) (.write data)) s = .next s) ∧
  (∀ (s : State) (c : Fin 32) (k : Fin 13), s.on = true → s.pcie.linkUp = true → c ≠ 31 →
    ∃ t, exec (.doorbell (.bar0 (BitVec.ofNat 16 (0x8108 + 32 * c.val))) (.write (leBytes 4 (2 ^ (k.val + 4))))) s = .next t ∧
      t.rd Ix.dlvShadowRingEntries (c.val + 1) = 2 ^ (k.val + 4) ∧ t.octs = s.octs ∧ t.dma = s.dma ∧ t.out = s.out ∧
      ∀ ix sub, key ix sub ≠ key Ix.dlvShadowRingEntries (c.val + 1) → t.rd ix sub = s.rd ix sub) ∧
  (∀ (s : State) (q : Fin 3), s.on = true → s.pcie.linkUp = true →
    ∃ t, exec (.doorbell (.bar0 (BitVec.ofNat 16 (0xC208 + 16 * q.val))) (.read 4)) s = .next t ∧
      t.out = s.out ++ [.hostRead 0 (0xC208 + 16 * q.val) (leBytes 4 (s.rd Ix.dlvQueueFlags (q.val + 1)))] ∧
      (∀ b : Fin 5, b ≠ 2 → t.bit Ix.dlvQueueFlags (q.val + 1) b.val = false) ∧
      t.bit Ix.dlvQueueFlags (q.val + 1) qAboveHigh = s.bit Ix.dlvQueueFlags (q.val + 1) qAboveHigh) ∧
  (∀ (s : State) (o : BitVec 12) (n : Fin 4097), s.on = true → s.pcie.linkUp = true →
    ∃ t, exec (.doorbell (.bar2 o) (.read n)) s = .next t ∧ t.regs = s.regs ∧
      t.out = s.out ++ [.hostRead 2 o.toNat ((List.range n.val).map (fun i => s.counterWindow.getD (o.toNat + i) 0))])

/-- Accesses to the device DRAM (R385, R386, R389, R391 to R393, R402, R405): a channel answers a read with the unit's data and writes a
unit; a unit marked poisoned answers at once; a request to a channel that is not Running ends with an error response; an uncorrectable read
is retried once, and a failed retry marks the unit. Choices of the model it meets: log 16, 99, 100. -/
def Obligations.DramServes : Prop :=
  (∀ (s : State) (n : Fin 8) (r : DramRequest), s.clocked = true → s.dmc.waiting = [r] → s.dramChannel r.addr = some n →
    (s.dmc.channels[n]).retry = none → r.write = none → s.dmc.poison.contains (unitOf r.addr) = false → s.dmc.injected = [] →
    ∃ t, exec (.dramAccess [] n .good) s = .next t ∧ t.dmc.waiting = [] ∧ t.dram = s.dram ∧
      t.out = s.out ++ [.dramReply r.requester r.addr (s.unitData (unitOf r.addr)) false]) ∧
  (∀ (s : State) (n : Fin 8) (r : DramRequest) (d : Octets), s.clocked = true → s.dmc.waiting = [r] → s.dramChannel r.addr = some n →
    (s.dmc.channels[n]).retry = none → r.write = some d → d.length = 64 → s.inRegions (unitOf r.addr) = true →
    ∃ t, exec (.dramAccess [] n .good) s = .next t ∧ t.dmc.waiting = [] ∧ t.dram = putBytes s.dram r.addr d ∧
      t.dmc.poison = s.dmc.poison.filter (fun x => x != unitOf r.addr) ∧ t.out = s.out) ∧
  (∀ (s : State) (n : Fin 8) (r : DramRequest), s.clocked = true → s.dmc.waiting = [r] → s.dramChannel r.addr = some n →
    (s.dmc.channels[n]).retry = none → r.write = none → s.dmc.poison.contains (unitOf r.addr) = true →
    ∃ t, exec (.dramAccess [] n .good) s = .next t ∧ t.out = s.out ++ [.dramReply r.requester r.addr (zeros 64) true] ∧
      t.rd Ix.dmcPoisonReads (n.val + 1) = (s.rd Ix.dmcPoisonReads (n.val + 1) + 1) % 2 ^ 64 ∧ t.dmc.poison = s.dmc.poison) ∧
  (∀ (s : State) (n m : Fin 8) (r : DramRequest) (health : DramHealth), s.clocked = true → s.dmc.waiting = [] → r.write = none →
    s.dramChannel r.addr = some m → s.fn (.dmc m) ≠ .running →
    ∃ t, exec (.dramAccess [r] n health) s = .next t ∧ t.out = s.out ++ [.dramReply r.requester r.addr (zeros 64) true] ∧
      t.rd ((Fn.dmc m).base + 7) (Fn.dmc m).sub = (s.rd ((Fn.dmc m).base + 7) (Fn.dmc m).sub + 1) % 2 ^ 64 ∧ t.dram = s.dram ∧
      t.dmc = s.dmc) ∧
  (∀ (s : State) (n : Fin 8) (r : DramRequest), s.clocked = true → s.dmc.waiting = [r] → s.dramChannel r.addr = some n →
    (s.dmc.channels[n]).retry = none → r.write = none → s.dmc.poison.contains (unitOf r.addr) = false → s.dmc.injected = [] →
    ∃ t, exec (.dramAccess [] n .uncorrectable) s = .next t ∧ (t.dmc.channels[n]).retry = some r ∧ t.out = s.out ∧ t.dram = s.dram) ∧
  (∀ (s : State) (k : Nat) (r : DramRequest), s.clocked = true → s.dmc.waiting[k]? = some r →
    ∃ t, exec (.requestAging k) s = .next t ∧ t.dmc.waiting = s.dmc.waiting.set k { r with aged := true } ∧ t.dram = s.dram) ∧
  (∀ (s : State) (n : Fin 8) (r : DramRequest), s.clocked = true → (s.dmc.channels[n]).retry = some r → r.write = none → s.dmc.injected = [] →
    ∃ t, exec (.dramReadRetry n .good) s = .next t ∧ (t.dmc.channels[n]).retry = none ∧
      t.out = s.out ++ [.dramReply r.requester r.addr (s.unitData (unitOf r.addr)) false] ∧
      t.bit Ix.dmcChannelStatus (n.val + 1) dsUeTransient = true ∧
      t.rd Ix.dmcTransientUncorrectable (n.val + 1) = (s.rd Ix.dmcTransientUncorrectable (n.val + 1) + 1) % 2 ^ 64 ∧
      t.rd Ix.dmcLogEntries 0 = (s.rd Ix.dmcLogEntries 0 + 1) % 2 ^ 32) ∧
  (∀ (s : State) (n : Fin 8) (r : DramRequest), s.clocked = true → (s.dmc.channels[n]).retry = some r → r.write = none → s.dmc.injected = [] →
    ∃ t, exec (.dramReadRetry n .uncorrectable) s = .next t ∧ (t.dmc.channels[n]).retry = none ∧
      t.out = s.out ++ [.dramReply r.requester r.addr (zeros 64) true] ∧ t.bit Ix.dmcChannelStatus (n.val + 1) dsUeLasting = true ∧
      t.rd Ix.dmcLastingUncorrectable (n.val + 1) = (s.rd Ix.dmcLastingUncorrectable (n.val + 1) + 1) % 2 ^ 64 ∧
      t.dmc.poison.contains (unitOf r.addr) = true) ∧
  (∀ (s : State) (n : Fin 8) (r : DramRequest) (health : DramHealth), s.clocked = true → s.fn (.dmc n) = .running →
    (s.dmc.channels[n]).retry = none → s.dramChannel r.addr = some n → r.write = none →
    ∃ t, exec (.rdimmAlert n r health) s = .next t ∧ (t.dmc.channels[n]).retry = some r ∧
      t.bit Ix.dmcChannelStatus (n.val + 1) dsAlert = true ∧ t.dram = s.dram) ∧
  (∀ (s : State) (r : Req) (x : Session) (value : Octets), s.Grants r x Ix.dmcErrorInjection 0 value → 1 ≤ octAt value 8 → octAt value 8 ≤ 3 →
    ∃ t, exec (.errorInjection r value) s = .next t ∧ s.Answers t r 0x11 .ok [] ∧
      t.dmc.injected = s.dmc.injected ++ [(unitOf (leAt value 0 8), octAt value 8)]) ∧
  (∀ (s : State) (n : Fin 8) (health : DramHealth) (r : DramRequest), s.clocked = true → (s.dmc.channels[n]).retry = none →
    nextRequest (fun q => s.dramChannel q.addr == some n) [] s.dmc.waiting = some r →
    ∃ t, exec (.dramAccess [] n health) s = .next t ∧ t.dmc.waiting = s.dmc.waiting.erase r ∧ t.mre.queue = s.mre.queue) ∧
  (∀ (s : State) (n : Fin 8) (health : DramHealth) (r : DramRequest), s.clocked = true → (s.dmc.channels[n]).retry = some r →
    ∃ t, exec (.dramReadRetry n health) s = .next t ∧ (t.dmc.channels[n]).retry = none ∧ t.dmc.waiting = s.dmc.waiting) ∧
  (∀ (s : State) (n : Fin 8) (r : DramRequest) (d : Octets) (health : DramHealth), s.clocked = true → s.fn (.dmc n) = .running →
    (s.dmc.channels[n]).retry = none → s.dramChannel r.addr = some n → r.write = some d → requestOk r = true → health ≠ .uncorrectable →
    s.inRegions (unitOf r.addr) = true →
    ∃ t, exec (.rdimmAlert n r health) s = .next t ∧ (t.dmc.channels[n]).retry = none ∧ t.dram = putBytes s.dram r.addr d ∧
      t.bit Ix.dmcChannelStatus (n.val + 1) dsAlert = true ∧ t.dmc.waiting = s.dmc.waiting)

/-- A channel is kept working (R391, R395 to R398): scrubbing counts its passes and marks what fails; the temperature band rises at once and
falls after two polls; tracking shows the margin and starts a retraining below Eye minimum; a retraining puts a setting in force, is retried
once, and leaves the channel to retire when it fails again. Choices of the model it meets: log 104. -/
def Obligations.ChannelsAreKept : Prop :=
  (∀ (s : State), s.clocked = true → s.dmc.poison = [] → s.dmc.injected = [] →
    ∃ t, exec (.scrubPass [] [] []) s = .next t ∧ t.dram = s.dram ∧ (∀ n : Fin 8, t.rd Ix.dmcScrubPasses (n.val + 1) =
      if s.fn (.dmc n) = .running then (s.rd Ix.dmcScrubPasses (n.val + 1) + 1) % 2 ^ 32 else s.rd Ix.dmcScrubPasses (n.val + 1))) ∧
  (∀ (s : State) (n : Fin 8) (u : Nat), s.clocked = true → s.dmc.poison = [] → s.dmc.injected = [] → s.dramChannel u = some n →
    s.fn (.dmc n) = .running →
    ∃ t, exec (.scrubPass [] [] [u]) s = .next t ∧ t.dmc.poison = [unitOf u] ∧ t.bit Ix.dmcChannelStatus (n.val + 1) dsUeLasting = true ∧
      t.rd Ix.dmcLogEntries 0 = (s.rd Ix.dmcLogEntries 0 + 1) % 2 ^ 32) ∧
  (∀ (s : State) (n : Fin 8), s.clocked = true →
    ∃ t, exec (.refresh n) s = .next t ∧ t.dmc.channels[n] = { s.dmc.channels[n] with refreshing := s.rd Ix.dmcTemperatureBand (n.val + 1) } ∧
      t.regs = s.regs ∧ t.dram = s.dram) ∧
  (∀ (s : State) (n : Fin 8) (band : Fin 3), s.clocked = true → s.rd Ix.dmcTemperatureBand (n.val + 1) < band.val →
    ∃ t, exec (.temperaturePoll n band) s = .next t ∧ t.rd Ix.dmcTemperatureBand (n.val + 1) = band.val ∧
      t.bit Ix.dmcChannelStatus (n.val + 1) dsDoubleRefresh = true ∧
      (band = 2 → t.bit Ix.dmcChannelStatus (n.val + 1) dsHot = true) ∧ t.dram = s.dram) ∧
  (∀ (s : State) (n : Fin 8), s.clocked = true → s.rd Ix.dmcTemperatureBand (n.val + 1) = 1 → s.dmc.channels[n].coolPolls = 0 →
    ∃ t, exec (.temperaturePoll n 0) s = .next t ∧ t.rd Ix.dmcTemperatureBand (n.val + 1) = 1 ∧ t.dmc.channels[n].coolPolls = 1 ∧
      t.regs = s.regs) ∧
  (∀ (s : State) (n : Fin 8), s.clocked = true → s.rd Ix.dmcTemperatureBand (n.val + 1) = 1 → s.dmc.channels[n].coolPolls ≠ 0 →
    ∃ t, exec (.temperaturePoll n 0) s = .next t ∧ t.rd Ix.dmcTemperatureBand (n.val + 1) = 0 ∧
      t.bit Ix.dmcChannelStatus (n.val + 1) dsDoubleRefresh = false) ∧
  (∀ (s : State) (n : Fin 8) (margin : BitVec 16), s.clocked = true → s.fn (.dmc n) = .running → s.rd Ix.dmcEyeMinimum 0 ≤ margin.toNat →
    ∃ t, exec (.eyeTracking n margin []) s = .next t ∧ t.rd Ix.dmcEyeMargin (n.val + 1) = margin.toNat ∧ t.dmc = s.dmc ∧
      t.rdo Ix.dmcLaneDelays (n.val + 1) = s.rdo Ix.dmcLaneDelays (n.val + 1)) ∧
  (∀ (s : State) (n : Fin 8) (margin : BitVec 16), s.clocked = true → s.fn (.dmc n) = .running → margin.toNat < s.rd Ix.dmcEyeMinimum 0 →
    s.dmc.channels[n].retrain = .idle → s.bit Ix.dmcChannelStatus (n.val + 1) dsRetirePending = false →
    ∃ t, exec (.eyeTracking n margin []) s = .next t ∧ t.dmc.channels[n].retrain = .first ∧
      t.bit Ix.dmcChannelStatus (n.val + 1) dsRetraining = true ∧ t.rd Ix.dmcEyeMargin (n.val + 1) = margin.toNat) ∧
  (∀ (s : State) (n : Fin 8) (setting : Vector Byte 160), s.clocked = true → s.dmc.channels[n].retrain = .first →
    ∃ t, exec (.retrainComplete n (some setting)) s = .next t ∧ t.dmc.channels[n] = { s.dmc.channels[n] with retrain := .idle } ∧
      t.rdo Ix.dmcLaneDelays (n.val + 1) = setting.toList ∧ t.bit Ix.dmcChannelStatus (n.val + 1) dsRetraining = false ∧
      t.rd Ix.dmcRetrainings (n.val + 1) = min (s.rd Ix.dmcRetrainings (n.val + 1) + 1) (2 ^ 32 - 1)) ∧
  (∀ (s : State) (n : Fin 8), s.clocked = true → s.dmc.channels[n].retrain = .first →
    ∃ t, exec (.retrainComplete n none) s = .next t ∧ t.dmc.channels[n] = { s.dmc.channels[n] with retrain := .backOff } ∧ t.regs = s.regs) ∧
  (∀ (s : State) (n : Fin 8), s.clocked = true → s.dmc.channels[n].retrain = .retry →
    ∃ t, exec (.retrainComplete n none) s = .next t ∧ t.bit Ix.dmcChannelStatus (n.val + 1) dsRetirePending = true ∧
      t.bit Ix.dmcMemoryStatus 0 0 = true ∧ t.bit Ix.dmcChannelStatus (n.val + 1) dsTrainFail = true ∧ t.dmc.map = s.dmc.map ∧
      t.fn (.dmc n) = s.fn (.dmc n)) ∧
  (∀ (s : State) (n : Fin 8), s.clocked = true → s.dmc.channels[n].retrain = .backOff →
    ∃ t, exec (.retrainRetry n) s = .next t ∧ t.dmc.channels[n] = { s.dmc.channels[n] with retrain := .retry } ∧ t.regs = s.regs) ∧
  (∀ (s : State) (corrected : List (Nat × Nat)) (recovered failed : List Nat), s.clocked = true →
    ∃ t, exec (.scrubPass corrected recovered failed) s = .next t ∧ t.dmc.injected = [] ∧ t.dmc.waiting = s.dmc.waiting ∧ t.dram = s.dram ∧
      ∀ n : Fin 8, t.rd Ix.dmcScrubPasses (n.val + 1) =
        if s.fn (.dmc n) = .running then (s.rd Ix.dmcScrubPasses (n.val + 1) + 1) % 2 ^ 32 else s.rd Ix.dmcScrubPasses (n.val + 1))

/-- Events fire channels (R407, R409, R411, R412, R419): a Fire write fires an enabled channel and is discarded at a disabled one; an event
leaves its crossing slot and fires the channel that listens to it, or is discarded while EVF is not Running; a task's busy time ends; a
vector's µs ends. Choices of the model it meets: log 4. -/
def Obligations.EventsFireChannels : Prop :=
  (∀ (s : State) (r : Req) (x : Session) (c : Fin 256), s.Grants r x (chanIx c.val) Ix.evfSubFire (pathNum r.path 1 1) →
    s.chanReachable c.val x.secure = true → s.owns c.val x.id = true → s.fabricRuns = true → s.evf.inbox = [] → s.chanEnabled c.val = true →
    s.recentFirings c.val < 256 → s.rd (chanIx c.val) Ix.evfSubTasks = 2 ^ 32 - 1 → s.rd (chanIx c.val) Ix.evfSubRecord = 0 →
    s.rd (chanIx c.val) Ix.evfSubVector = 0 → s.outputsOf 2 c.val = [] →
    ∃ t, exec (.fire r c) s = .next t ∧ s.Answers t r 0x11 .ok [] ∧ t.evf.inbox = [] ∧
      t.rd (chanIx c.val) Ix.evfSubFireCount = (s.rd (chanIx c.val) Ix.evfSubFireCount + 1) % 2 ^ 64 ∧
      t.rdo (chanIx c.val) Ix.evfSubLastEvent = leBytes 8 s.lp ++ leBytes 8 s.stamp ++ zeros 8) ∧
  (∀ (s : State) (r : Req) (x : Session) (c : Fin 256), s.Grants r x (chanIx c.val) Ix.evfSubFire (pathNum r.path 1 1) →
    s.chanReachable c.val x.secure = true → s.owns c.val x.id = true → s.fabricRuns = true → s.evf.inbox = [] → s.chanEnabled c.val = false →
    ∃ t, exec (.fire r c) s = .next t ∧ s.Answers t r 0x11 .ok [] ∧ t.evf = s.evf ∧
      t.rd Ix.evfDiscardedAtDisabledChannels 0 = (s.rd Ix.evfDiscardedAtDisabledChannels 0 + 1) % 2 ^ 64 ∧
      t.rd (chanIx c.val) Ix.evfSubFireCount = s.rd (chanIx c.val) Ix.evfSubFireCount) ∧
  (∀ (s : State) (code : BitVec 16) (k : Crossing) (c : Fin 256), s.clocked = true → s.fn .evf = .running → s.evf.inbox = [] → s.evf.slots = [k] →
    k.code = code.toNat → code ≠ 0 → (∀ d : Fin 256, s.rd (chanIx d.val) Ix.evfSubSource = code.toNat → d = c) →
    s.rd (chanIx c.val) Ix.evfSubSource = code.toNat → s.chanEnabled c.val = true → s.recentFirings c.val < 256 →
    s.rd (chanIx c.val) Ix.evfSubTasks = 2 ^ 32 - 1 → s.rd (chanIx c.val) Ix.evfSubRecord = 0 → s.rd (chanIx c.val) Ix.evfSubVector = 0 →
    s.outputsOf 2 c.val = [] →
    ∃ t, exec (.crossingExit code) s = .next t ∧ t.evf.slots = [] ∧ t.evf.inbox = [] ∧
      t.rd (chanIx c.val) Ix.evfSubFireCount = (s.rd (chanIx c.val) Ix.evfSubFireCount + 1) % 2 ^ 64 ∧
      t.rdo (chanIx c.val) Ix.evfSubLastEvent = leBytes 8 (k.own.getD (s.lp, s.stamp)).1 ++ leBytes 8 (k.own.getD (s.lp, s.stamp)).2 ++
        leBytes 4 k.arg ++ leBytes 2 code.toNat ++ zeros 2) ∧
  (∀ (s : State) (code : BitVec 16) (k : Crossing), s.clocked = true → s.fn .evf ≠ .running → k.atStop = false → s.evf.slots = [k] →
    k.code = code.toNat →
    ∃ t, exec (.crossingExit code) s = .next t ∧ t.evf = { s.evf with slots := [] } ∧ t.rd 0x2807 0 = (s.rd 0x2807 0 + 1) % 2 ^ 64 ∧
      t.out = s.out) ∧
  (∀ (s : State) (task : Fin 73), s.clocked = true →
    ∃ t, exec (.taskBusyEnd task) s = .next t ∧ t.bit Ix.evfTaskStatus (task.val + 1) 1 = false ∧
      t.bit Ix.evfTaskStatus (task.val + 1) 0 = s.bit Ix.evfTaskStatus (task.val + 1) 0 ∧ t.evf = s.evf ∧ t.out = s.out) ∧
  (∀ (s : State) (v : Fin 128), s.clocked = true → s.pcie.linkUp = true → s.pcie.busMaster = true → s.evf.vectors.contains (v.val, true) = true →
    ∃ t, exec (.vectorHoldoff v) s = .next t ∧ t.out = s.out ++ [.msix v.val] ∧ t.evf.vectors.contains (v.val, true) = false ∧
      t.regs = s.regs) ∧
  (∀ (s : State) (v : Fin 128), s.clocked = true → s.evf.vectors.contains (v.val, true) = false →
    ∃ t, exec (.vectorHoldoff v) s = .next t ∧ t.out = s.out ∧ t.evf.vectors = s.evf.vectors.filter (fun y => y.1 != v.val) ∧ t.regs = s.regs) ∧
  (∀ (s : State) (r : Req) (x : Session) (c : Fin 256), s.Grants r x (chanIx c.val) Ix.evfSubFire (pathNum r.path 1 1) →
    s.chanReachable c.val x.secure = true → s.owns c.val x.id = true →
    ∃ t, exec (.fire r c) s = .next t ∧ s.Answers t r 0x11 .ok [] ∧ t.ns = s.ns) ∧
  (∀ (s : State) (r : Req) (x : Session) (c : Fin 256), s.Grants r x (chanIx c.val) Ix.evfSubFire (pathNum r.path 1 1) →
    s.chanReachable c.val x.secure = true → s.owns c.val x.id = true → s.fabricRuns = true → s.evf.inbox = [] → s.chanEnabled c.val = true →
    256 ≤ s.recentFirings c.val →
    ∃ t, exec (.fire r c) s = .next t ∧ s.Answers t r 0x11 .ok [] ∧ t.chanEnabled c.val = false ∧
      t.bit (chanIx c.val) Ix.evfSubChannelStatus 1 = true ∧ t.bit Ix.evfFabricStatus 0 0 = true ∧
      t.rd (chanIx c.val) Ix.evfSubFireCount = s.rd (chanIx c.val) Ix.evfSubFireCount) ∧
  (∀ (s : State) (code : BitVec 16) (k : Crossing), s.clocked = true → s.fn .evf = .running → s.evf.inbox = [] →
    s.evf.slots.find? (fun y => y.code == code.toNat) = some k → code ≠ 0 →
    (∀ d : Fin 256, s.rd (chanIx d.val) Ix.evfSubSource = code.toNat → s.rd (chanIx d.val) Ix.evfSubTasks = 2 ^ 32 - 1 ∧
      s.rd (chanIx d.val) Ix.evfSubRecord = 0 ∧ s.outputsOf 2 d.val = []) →
    ∃ t, exec (.crossingExit code) s = .next t ∧ t.evf.slots = s.evf.slots.filter (fun y => y.code != code.toNat) ∧ t.evf.inbox = [] ∧
      ∀ c : Fin 256, s.rd (chanIx c.val) Ix.evfSubSource = code.toNat → s.chanEnabled c.val = true → s.recentFirings c.val < 256 →
        t.rd (chanIx c.val) Ix.evfSubFireCount = (s.rd (chanIx c.val) Ix.evfSubFireCount + 1) % 2 ^ 64) ∧
  (∀ (s : State) (code : BitVec 16), s.clocked = true → s.evf.slots.find? (fun y => y.code == code.toNat) = none →
    exec (.crossingExit code) s = .next s) ∧
  (∀ (s : State) (code : BitVec 16) (k : Crossing), s.clocked = true → s.fn .evf ≠ .running → k.atStop = false →
    s.evf.slots.find? (fun y => y.code == code.toNat) = some k →
    ∃ t, exec (.crossingExit code) s = .next t ∧ t.evf = { s.evf with slots := s.evf.slots.filter (fun y => y.code != code.toNat) } ∧
      t.rd 0x2807 0 = (s.rd 0x2807 0 + 1) % 2 ^ 64 ∧ t.out = s.out)

/-- Owners (R414 to R416): an unowned disabled channel is claimed Open or Secure; an owned one is busy; its owner releases it, enables and
disables it; another session may not; an enable that closes a loop is refused. Choices of the model it meets: log 105. -/
def Obligations.OwnersHoldChannels : Prop :=
  (∀ (s : State) (r : Req) (x : Session) (c : Fin 256), s.Grants r x (chanIx c.val) Ix.evfSubClaim (pathNum r.path 1 1) →
    s.chanReachable c.val x.secure = true → s.rd (chanIx c.val) Ix.evfSubOwner = 0xFFFF → s.chanEnabled c.val = false →
    ∃ t, exec (.claimOpen r c) s = .next t ∧ s.Answers t r 0x11 .ok [] ∧ t.rd (chanIx c.val) Ix.evfSubOwner = x.id % 2 ^ 16 ∧
      t.rd (chanIx c.val) Ix.evfSubSecurity = 0 ∧ t.chanEnabled c.val = false ∧ t.evf = s.evf) ∧
  (∀ (s : State) (r : Req) (x : Session) (c : Fin 256), s.Grants r x (chanIx c.val) Ix.evfSubClaim (pathNum r.path 1 1) →
    s.chanReachable c.val x.secure = true → s.rd (chanIx c.val) Ix.evfSubOwner ≠ 0xFFFF →
    ∃ t, exec (.claimOpen r c) s = .next t ∧ s.Answers t r 0x11 .busy [] ∧
      t.rd (chanIx c.val) Ix.evfSubOwner = s.rd (chanIx c.val) Ix.evfSubOwner ∧ t.evf = s.evf) ∧
  (∀ (s : State) (r : Req) (x : Session) (c : Fin 256), s.Grants r x (chanIx c.val) Ix.evfSubClaim (pathNum r.path 1 2) → x.secure = true →
    s.rd (chanIx c.val) Ix.evfSubOwner = 0xFFFF → s.chanEnabled c.val = false →
    ∃ t, exec (.claimSecure r c) s = .next t ∧ s.Answers t r 0x11 .ok [] ∧ t.rd (chanIx c.val) Ix.evfSubOwner = x.id % 2 ^ 16 ∧
      t.rd (chanIx c.val) Ix.evfSubSecurity = 1 ∧ t.evf = s.evf) ∧
  (∀ (s : State) (r : Req) (x : Session) (c : Fin 256), s.Grants r x (chanIx c.val) Ix.evfSubClaim (pathNum r.path 1 2) → x.secure = false →
    ∃ t, exec (.claimSecure r c) s = .next t ∧ s.Answers t r 0x11 .noAccess [] ∧
      t.rd (chanIx c.val) Ix.evfSubOwner = s.rd (chanIx c.val) Ix.evfSubOwner) ∧
  (∀ (s : State) (r : Req) (x : Session) (c : Fin 256), s.Grants r x (chanIx c.val) Ix.evfSubClaim (pathNum r.path 1 3) →
    s.chanReachable c.val x.secure = true → s.owns c.val x.id = true →
    ∃ t, exec (.claimRelease r c) s = .next t ∧ s.Answers t r 0x11 .ok [] ∧ t.rd (chanIx c.val) Ix.evfSubOwner = 0xFFFF ∧
      t.rd (chanIx c.val) Ix.evfSubSecurity = 0 ∧ t.chanEnabled c.val = false ∧ t.rd (chanIx c.val) Ix.evfSubTasks = 2 ^ 32 - 1 ∧
      t.rd (chanIx c.val) Ix.evfSubSource = 0) ∧
  (∀ (s : State) (r : Req) (x : Session) (c : Fin 256), s.Grants r x (chanIx c.val) Ix.evfSubClaim (pathNum r.path 1 3) →
    s.owns c.val x.id = false →
    ∃ t, exec (.claimRelease r c) s = .next t ∧ s.Answers t r 0x11 .noAccess [] ∧ t.chanEnabled c.val = s.chanEnabled c.val ∧ t.evf = s.evf) ∧
  (∀ (s : State) (r : Req) (x : Session) (c : Fin 256), s.Grants r x (chanIx c.val) Ix.evfSubEnable (pathNum r.path 1 0) →
    s.chanReachable c.val x.secure = true → s.owns c.val x.id = true →
    ∃ t, exec (.channelEnable r c 0) s = .next t ∧ s.Answers t r 0x11 .ok [] ∧ t.chanEnabled c.val = false ∧ t.evf = s.evf ∧
      t.rd (chanIx c.val) Ix.evfSubOwner = s.rd (chanIx c.val) Ix.evfSubOwner) ∧
  (∀ (s : State) (r : Req) (x : Session) (c : Fin 256), s.Grants r x (chanIx c.val) Ix.evfSubEnable (pathNum r.path 1 1) →
    s.chanReachable c.val x.secure = true → s.owns c.val x.id = true → actKind (s.rd (chanIx c.val) Ix.evfSubScheduleAction) ≠ kindChannel →
    s.loops c.val = false →
    ∃ t, exec (.channelEnable r c 1) s = .next t ∧ s.Answers t r 0x11 .ok [] ∧ t.chanEnabled c.val = true ∧
      t.recentFirings c.val = 0 ∧ t.evf.slots = s.evf.slots) ∧
  (∀ (s : State) (r : Req) (x : Session) (c : Fin 256), s.Grants r x (chanIx c.val) Ix.evfSubEnable (pathNum r.path 1 1) →
    s.chanReachable c.val x.secure = true → s.owns c.val x.id = true → actKind (s.rd (chanIx c.val) Ix.evfSubScheduleAction) ≠ kindChannel →
    s.loops c.val = true →
    ∃ t, exec (.channelEnable r c 1) s = .next t ∧ s.Answers t r 0x11 .outOfRange [] ∧ t.chanEnabled c.val = s.chanEnabled c.val ∧
      t.bit (chanIx c.val) Ix.evfSubChannelStatus 2 = true ∧ t.evf = s.evf)

/-- OPEN (R432, R434, R435, R449): a mailbox, a plain network path and a DTLS association each get their session. A mailbox's OPEN ends the
session it held. Choices of the model it meets: log 106. -/
def Obligations.OpenOpensSession : Prop :=
  (∀ (s : State) (m : Fin 4) (seq : BitVec 16) (level : BitVec 8) (name : Octets),
    s.serves (.mailbox m) = true → nameOk name = true → levelAllowed (s.rd Ix.sesMailboxUnauthenticatedLevel 0) level.toNat = true →
    ∃ t x, exec (.openCmd (.mailbox m) seq level name) s = .next t ∧
      t.sessions = s.sessions.filter (fun y => y.id != 64 + m.val) ++ [x] ∧ x.id = 64 + m.val ∧ x.path = .mailbox m ∧
      x.level = level.toNat ∧ x.secure = false ∧ x.lastSeq = seq.toNat ∧ x.timeoutMs = s.rd Ix.sesSessionTimeout 0 ∧ x.transfer = none ∧
      (t.mailboxes[m]).ready = true) ∧
  (∀ (s : State) (port : Fin 2) (ip : BitVec 32) (udp seq : BitVec 16) (level : BitVec 8) (name : Octets),
    s.serves (.net port ip udp none) = true → nameOk name = true →
    levelAllowed (s.rd Ix.sesNetworkUnauthenticatedLevel 0) level.toNat = true →
    (s.sessions.filter (fun x => Path.bigEndian x.path)).length < 64 →
    ((s.sessions.filter (fun x => Path.bigEndian x.path)).filter (fun x => !x.secure)).length < 56 →
    ∃ t x, exec (.openCmd (.net port ip udp none) seq level name) s = .next t ∧
      t.sessions = s.sessions ++ [x] ∧ x.path = .net port ip udp none ∧ x.level = level.toNat ∧ x.secure = false ∧ x.lastSeq = seq.toNat ∧
      t.out = s.out ++ [.response (.net port ip udp none) 0xFFFF seq.toNat
        ⟨1, 0, openPayload (.net port ip udp none) x.id level.toNat (s.rd Ix.sesSessionTimeout 0)⟩
        (responseFrame (s.rd Ix.sysNodeID 0) (.net port ip udp none) 0xFFFF seq.toNat
          ⟨1, 0, openPayload (.net port ip udp none) x.id level.toNat (s.rd Ix.sesSessionTimeout 0)⟩)]) ∧
  (∀ (s : State) (port : Fin 2) (ip : BitVec 32) (udp seq : BitVec 16) (a : Assoc) (level : BitVec 8) (name : Octets),
    s.serves (.net port ip udp (some a.id)) = true → nameOk name = true → s.assocs.find? (fun y => y.id == a.id) = some a →
    (∀ x ∈ s.sessions, sessionFits (.net port ip udp (some a.id)) x = false) →
    (s.sessions.filter (fun x => Path.bigEndian x.path)).length < 64 → level.toNat ≤ 3 → level.toNat ≤ s.levelLimit a.anchorMax →
    ∃ t x, exec (.openCmd (.net port ip udp (some a.id)) seq level name) s = .next t ∧
      t.sessions = s.sessions ++ [x] ∧ x.path = .net port ip udp (some a.id) ∧ x.level = level.toNat ∧ x.secure = true ∧
      x.lastSeq = seq.toNat ∧ x.anchorMax = a.anchorMax)

/-- CLOSE, KEEPALIVE and the two steps of AUTH (R436, R439, R449). The challenge is a free value. Choices of the model it meets: log 6. -/
def Obligations.SessionRequestsAct : Prop :=
  (∀ (s : State) (r : Req) (x : Session), s.Asks r x →
    ∃ t, exec (.close r) s = .next t ∧ s.Answers t r 2 .ok [] ∧ ∀ y ∈ t.sessions, y.id ≠ r.session.toNat) ∧
  (∀ (s : State) (r : Req) (x : Session), s.Asks r x →
    ∃ t, exec (.keepalive r) s = .next t ∧ s.Answers t r 3 .ok (pathNum r.path 8 s.seenLp ++ pathNum r.path 8 s.stamp) ∧
      (∃ y ∈ t.sessions, y.id = r.session.toNat ∧ y.lastSeq = r.seq.toNat ∧ y.lastNs = s.ns) ∧
      ∀ ix sub, key ix sub ∉ pathCounters r.path → t.rd ix sub = s.rd ix sub) ∧
  (∀ (s : State) (r : Req) (x : Session), s.Asks r x → Path.bigEndian r.path = false →
    ∃ t c, exec (.authChallenge r) s = .next t ∧ c.length = 48 ∧ s.Answers t r 4 .ok c ∧
      ∃ y ∈ t.sessions, y.id = r.session.toNat ∧ y.challenge = some c ∧ y.level = x.level) ∧
  (∀ (s : State) (r : Req) (x : Session) (level : BitVec 8) (chain sig c : Octets),
    s.Asks r x → Path.bigEndian r.path = false → x.challenge = some c → level.toNat ≤ 3 → chain ≠ [] →
    ∃ t, exec (.authResponse r level chain sig) s = .next t ∧
      if (s.chainLevel chain).any (fun limit => decide (level.toNat ≤ s.levelLimit limit)) = true ∧
        Config.ecdsaVerify (Config.leafKey chain) (Config.sha384 (authMessage c x.id)) sig = true then
        s.Answers t r 4 .ok [] ∧ ∃ y ∈ t.sessions, y.id = r.session.toNat ∧ y.level = level.toNat ∧ y.secure = true ∧ y.challenge = none
      else
        s.Answers t r 4 .authFailed [] ∧ t.bit Ix.sesAccessStatus 0 acAuthFail = true ∧
          ∃ y ∈ t.sessions, y.id = r.session.toNat ∧ y.level = x.level ∧ y.challenge = none) ∧
  (∀ (s : State) (r : Req) (x : Session) (level : BitVec 8) (c : Octets),
    s.Asks r x → Path.bigEndian r.path = false → x.challenge = some c → level.toNat ≤ 3 → s.anchors = [] →
    ∃ t, exec (.authResponse r level [] []) s = .next t ∧ s.Answers t r 4 .ok [] ∧
      ∃ y ∈ t.sessions, y.id = r.session.toNat ∧ y.level = 2 ∧ y.secure = true ∧ y.provisioned = true)

/-- Which requests are performed (R430, R437): one that names no session, and one out of order, are refused and change no object of the
dictionary but the counts and SEQ_ERR; a repeat gets the stored response again and is not performed again. Choices of the model it meets:
log 108. -/
def Obligations.RequestSequenceKept : Prop :=
  (∀ (s : State) (r : Req), s.serves r.path = true →
    s.sessions.find? (fun y => y.id == r.session.toNat && sessionFits r.path y) = none →
    ∃ t, exec (.keepalive r) s = .next t ∧ s.Answers t r 3 .noSession [] ∧ t.sessions = s.sessions) ∧
  (∀ (s : State) (r : Req) (x : Session), s.serves r.path = true →
    s.sessions.find? (fun y => y.id == r.session.toNat && sessionFits r.path y) = some x → x.lastSeq ≠ r.seq.toNat →
    (x.lastSeq + 1) % 65536 ≠ r.seq.toNat →
    ∃ t, exec (.keepalive r) s = .next t ∧ s.Answers t r 3 .sequence [] ∧ t.sessions = s.sessions ∧
      t.bit Ix.sesAccessStatus 0 acSeqErr = true) ∧
  (∀ (s : State) (r : Req) (x : Session) (a : Response) (ix : BitVec 16) (sub : BitVec 8) (value : Octets), s.serves r.path = true →
    s.sessions.find? (fun y => y.id == r.session.toNat && sessionFits r.path y) = some x → x.lastSeq = r.seq.toNat → x.stored = some a →
    s.power.resetDue = false →
    ∃ t before after, exec (.write r ix sub value) s = .next t ∧
      t.out = s.out ++ before ++ Output.response r.path r.session.toNat r.seq.toNat a
        (responseFrame (s.rd Ix.sysNodeID 0) r.path r.session.toNat r.seq.toNat a) :: after ∧
      t.octs = s.octs ∧ t.mre = s.mre ∧ t.psc = s.psc ∧ t.dma = s.dma ∧ t.evf = s.evf ∧ t.dram = s.dram ∧
      t.rd Ix.sesRepeatedRequests 0 = (s.rd Ix.sesRepeatedRequests 0 + 1) % 2 ^ 64)

/-- The rows that read an object (R430, R431, R439): a granted read answers with the type code and the whole value as a read shows it, and
the object read is the only one of the dictionary that may change; a group READ waits for its delay (R446). Flags that a read clears read 0
afterwards (R429). -/
def Obligations.ReadsAnswer : Prop :=
  (∀ (s : State) (r : Req) (x : Session) (ix : BitVec 16) (sub : BitVec 8) (row : ObjRow),
    s.Asks r x → ((s.asked r x).readCheck (x.asking r s.ns) ix.toNat sub.toNat).2 = some row → row.ty ≠ .dom →
    s.badObject ix.toNat sub.toNat = false → ¬(ix.toNat = Ix.netCapture ∧ sub.toNat ≠ 0) →
    ∃ t v, exec (.read r 0 ix sub) s = .next t ∧
      v = writeOperand r.path row { num := (s.asked r x).shown (x.asking r s.ns) ix.toNat sub.toNat,
                                    octets := (s.asked r x).shownOctets (x.asking r s.ns) ix.toNat sub.toNat } ∧
      s.Answers t r 0x10 .ok (pathNum r.path 1 row.ty.code ++ pathNum r.path 1 0 ++ pathNum r.path 2 v.length ++ v) ∧
      ∀ jx jub, key jx jub ≠ key ix.toNat sub.toNat → t.rd jx jub = (s.asked r x).rd jx jub) ∧
  (∀ (s : State) (r : Req) (x : Session) (q : Fin 3),
    s.Asks r x → s.recovering = false → s.badObject Ix.dlvQueueFlags (q.val + 1) = false →
    ∃ t, exec (.queueFlagsRead r q) s = .next t ∧
      s.Answers t r 0x10 .ok (pathNum r.path 1 4 ++ pathNum r.path 1 0 ++ pathNum r.path 2 4 ++
        pathNum r.path 4 (s.rd Ix.dlvQueueFlags (q.val + 1))) ∧
      t.rd Ix.dlvQueueFlags (q.val + 1) = s.rd Ix.dlvQueueFlags (q.val + 1) &&& (0xFFFFFFFF - 0x1B)) ∧
  (∀ (s : State) (r : Req) (x : Session),
    s.Asks r x → s.recovering = false → s.badObject Ix.monWindow 0 = false →
    ∃ t, exec (.windowRead r) s = .next t ∧
      s.Answers t r 0x10 .ok (pathNum r.path 1 0x0B ++ pathNum r.path 1 0 ++ pathNum r.path 2 (s.bankWindow x.cursor).length ++
        s.bankWindow x.cursor) ∧
      ∃ y ∈ t.sessions, y.id = r.session.toNat ∧ y.cursor = (x.cursor + 1) % 128) ∧
  (∀ (s : State) (r : Req) (x : Session) (n : Fin 4) (c : Octets) (cs : List Octets),
    s.Asks r x → s.recovering = false → s.badObject Ix.netCapture (n.val + 1) = false → s.tbuUnit.captures[n] = c :: cs →
    ∃ t, exec (.captureRead r n) s = .next t ∧
      s.Answers t r 0x10 .ok (pathNum r.path 1 0x0B ++ pathNum r.path 1 0 ++ pathNum r.path 2 c.length ++ c) ∧
      t.tbuUnit.captures[n] = cs) ∧
  (∀ (s : State) (r : Req) (x : Session), s.Asks r x →
    ∃ t, exec (.discover r 0) s = .next t ∧ s.Answers t r 0x30 .ok (s.identity r.path)) ∧
  (∀ (s : State) (r : Req) (group : BitVec 8), s.serves r.path = true → Path.bigEndian r.path = true → group ≠ 0 →
    s.memberOf group.toNat = true →
    ∃ t, exec (.discover r group) s = .next t ∧ t.out = s.out ∧
      t.groupAnswers = s.groupAnswers ++ [⟨r.path, r.seq.toNat, ⟨0x30, 0, s.identity r.path⟩⟩]) ∧
  (∀ (s : State) (a : GroupAnswer) (rest : List GroupAnswer), s.mgtUp = true → s.groupAnswers = a :: rest →
    ∃ t after, exec .groupResponse s = .next t ∧ t.groupAnswers = rest ∧
      t.out = s.out ++ Output.response a.path 0xFFFF a.seq a.response
        (responseFrame (s.rd Ix.sysNodeID 0) a.path 0xFFFF a.seq a.response) :: after)

/-- The segmented transfers of domains (R440 to R444): a read snapshots the object and gives any part of it; a write takes its segments in
order and has its content checked with the last one; an abort or the timeout abandons it. Choices of the model it meets: log 110. -/
def Obligations.TransfersMove : Prop :=
  (∀ (s : State) (r : Req) (x : Session) (ix : BitVec 16) (sub : BitVec 8) (row : ObjRow) (data : Octets),
    s.Asks r x → ((s.asked r x).readCheck (x.asking r s.ns) ix.toNat sub.toNat).2 = some row → row.ty = .dom → x.transfer = none →
    s.badObject ix.toNat sub.toNat = false → ix.toNat ≠ Ix.calExport →
    data = (s.asked r x).shownOctets (x.asking r s.ns) ix.toNat sub.toNat →
    ∃ t, exec (.domRead r ix sub) s = .next t ∧
      s.Answers t r 0x20 .ok (pathNum r.path 4 data.length ++ pathNum r.path 2 (segmentSize r.path)) ∧
      ∃ y ∈ t.sessions, y.id = r.session.toNat ∧
        y.transfer = some { ix := ix.toNat, sub := sub.toNat, write := false, total := data.length, data := data }) ∧
  (∀ (s : State) (r : Req) (x : Session) (tr : Transfer) (offset : BitVec 32) (len : BitVec 16) (last : Bool),
    s.Asks r x → x.transfer = some tr → tr.write = false → 1 ≤ len.toNat → len.toNat ≤ segmentSize r.path → offset.toNat ≤ tr.total →
    ∃ t, exec (.segmentRead r offset len last) s = .next t ∧
      s.Answers t r 0x22 .ok ((tr.data.drop offset.toNat).take len.toNat) ∧
      ∃ y ∈ t.sessions, y.id = r.session.toNat ∧ y.transfer = if last then none else some tr) ∧
  (∀ (s : State) (r : Req) (x : Session) (ix : BitVec 16) (sub : BitVec 8) (total : BitVec 32) (row : ObjRow),
    s.Asks r x → ((s.asked r x).writeCheck (x.asking r s.ns) ix.toNat sub.toNat).2 = some row → row.ty = .dom →
    row.rng.admitsLen total.toNat = true → total ≠ 0 → (s.asked r x).transferring x.id ix.toNat sub.toNat = false →
    s.imageBusy ix.toNat = false → x.transfer = none → s.badObject ix.toNat sub.toNat = false →
    ∃ t, exec (.domWrite r ix sub total) s = .next t ∧ s.Answers t r 0x21 .ok (pathNum r.path 2 (segmentSize r.path)) ∧
      ∃ y ∈ t.sessions, y.id = r.session.toNat ∧
        y.transfer = some { ix := ix.toNat, sub := sub.toNat, write := true, total := total.toNat, data := [] }) ∧
  (∀ (s : State) (r : Req) (x : Session) (tr : Transfer) (offset : BitVec 32) (data : Octets),
    s.Asks r x → x.transfer = some tr → tr.write = true → offset.toNat = tr.data.length → 1 ≤ data.length →
    data.length ≤ segmentSize r.path → tr.data.length + data.length ≤ tr.total →
    ∃ t, exec (.segmentWrite r offset data false) s = .next t ∧
      s.Answers t r 0x22 .ok (pathNum r.path 4 (tr.data.length + data.length)) ∧
      ∃ y ∈ t.sessions, y.id = r.session.toNat ∧ y.transfer = some { tr with data := tr.data ++ data }) ∧
  (∀ (s : State) (r : Req) (x : Session) (tr : Transfer) (offset : BitVec 32) (data : Octets),
    s.Asks r x → x.transfer = some tr → tr.write = true → tr.ix = Ix.clsClassTable → offset.toNat = tr.data.length → 1 ≤ data.length →
    data.length ≤ segmentSize r.path → tr.data.length + data.length = tr.total → classTableOk (tr.data ++ data) = true →
    ∃ t, exec (.segmentWrite r offset data true) s = .next t ∧ s.Answers t r 0x22 .ok (pathNum r.path 4 tr.total) ∧
      t.rdo Ix.clsClassTable tr.sub = tr.data ++ data ∧ ∃ y ∈ t.sessions, y.id = r.session.toNat ∧ y.transfer = none) ∧
  (∀ (s : State) (r : Req) (x : Session) (tr : Transfer) (offset : BitVec 32) (data : Octets) (last : Bool),
    s.Asks r x → x.transfer = some tr → tr.write = true → offset.toNat ≠ tr.data.length →
    ∃ t, exec (.segmentWrite r offset data last) s = .next t ∧ s.Answers t r 0x22 .sequence [] ∧ t.sessions = s.sessions) ∧
  (∀ (s : State) (r : Req) (x : Session) (tr : Transfer), s.Asks r x → x.transfer = some tr →
    ∃ t, exec (.domAbort r) s = .next t ∧ s.Answers t r 0x23 .ok [] ∧ ∃ y ∈ t.sessions, y.id = r.session.toNat ∧ y.transfer = none) ∧
  (∀ (s : State) (id : Fin 68) (x : Session) (tr : Transfer), s.mgtUp = true → s.sessions.find? (fun y => y.id == id.val) = some x →
    x.transfer = some tr →
    ∃ t, exec (.segmentTimeout id) s = .next t ∧ t.bit Ix.sesAccessStatus 0 acSegmentTimeout = true ∧
      ∃ y ∈ t.sessions, y.id = id.val ∧ y.transfer = none)

/-- How sessions and associations end and handshakes go (R433, R434, R436), and the frames that are discarded (R439). -/
def Obligations.SessionsEnd : Prop :=
  (∀ (s : State) (id : Fin 68) (x : Session), s.mgtUp = true → x ∈ s.sessions → x.id = id.val →
    ∃ t, exec (.sessionTimeout id) s = .next t ∧ (∀ y ∈ t.sessions, y.id ≠ id.val) ∧
      t.bit Ix.sesAccessStatus 0 acExpired = true ∧
      t.rd Ix.sesSessionsExpired 0 = min (s.rd Ix.sesSessionsExpired 0 + 1) (2 ^ 32 - 1)) ∧
  (∀ (s : State) (r : Req) (x : Session) (id : BitVec 16), s.Grants r x Ix.sesSessionEnd 0 (pathNum r.path 2 id.toNat) →
    ∃ t, exec (.sessionEnd r id) s = .next t ∧ s.Answers t r 0x11 .ok [] ∧ ∀ y ∈ t.sessions, y.id ≠ id.toNat) ∧
  (∀ (s : State) (port : Fin 2) (ip : BitVec 32) (udp : BitVec 16), s.netServed port ip udp none = true →
    (s.assocs.filter (fun a => !a.done)).length < 8 →
    ∃ t, exec (.clientHello port ip udp) s = .next t ∧
      t.assocs = s.assocs ++ [{ id := s.nextAssoc, port := port.val, ip := ip, udp := udp, done := false, anchorMax := 0 }] ∧
      t.nextAssoc = s.nextAssoc + 1) ∧
  (∀ (s : State) (a : Assoc) (chain : Octets) (ok : Bool), s.mgtUp = true → a ∈ s.assocs → a.done = false →
    ∃ t, exec (.dtlsHandshake a.id chain ok) s = .next t ∧
      match (if ok = true then s.chainLevel chain else none) with
      | some limit => { a with done := true, anchorMax := limit } ∈ t.assocs
      | none => (∀ b ∈ t.assocs, b.id ≠ a.id) ∧ t.bit Ix.sesAccessStatus 0 acAuthFail = true) ∧
  (∀ (s : State) (a : Assoc), s.mgtUp = true → a ∈ s.assocs → a.done = false →
    ∃ t, exec (.handshakeTimeout a.id) s = .next t ∧ (∀ b ∈ t.assocs, b.id = a.id → b.done = true) ∧
      ∀ b ∈ s.assocs, b.id ≠ a.id → b ∈ t.assocs) ∧
  (∀ (s : State) (a : Assoc), s.mgtUp = true → a ∈ s.assocs → a.done = true →
    ∃ t, exec (.dtlsClose a.id) s = .next t ∧ (∀ b ∈ t.assocs, b.id ≠ a.id) ∧
      ∀ y ∈ t.sessions, ∀ port ip udp, y.path ≠ .net port ip udp (some a.id)) ∧
  (∀ (s : State) (port : Fin 2), s.mgtUp = true → s.clocked = true → s.runs (.fnp port) = true →
    ∃ t, exec (.vdpFrameDiscard port) s = .next t ∧ t.out = s.out ∧
      t.rd Ix.sesFramesDiscarded 0 = (s.rd Ix.sesFramesDiscarded 0 + 1) % 2 ^ 64)

/-- The mailboxes (R447, R448): a malformed frame is answered, a frame that asks for a session opens one, a post while a response waits is
ignored and shows MB_OVERRUN, and an acknowledgement clears RESP_READY. Choices of the model it meets: log 107, 112. -/
def Obligations.MailboxesAnswer : Prop :=
  (∀ (s : State) (m : Fin 4) (status : BitVec 32) (frame : Octets), s.serves (.mailbox m) = true → frameOk frame = false →
    ∃ t before after, exec (.mailboxPost m status frame) s = .next t ∧ (t.mailboxes[m]).ready = true ∧
      (t.mailboxes[m]).irq = status.getLsbD 3 ∧
      t.out = s.out ++ before ++ Output.response (.mailbox m) (leAt frame 0x0A 2) (leAt frame 0x0C 2)
        { opcode := octAt frame 3, status := 0x000E, payload := [] }
        (responseFrame (s.rd Ix.sysNodeID 0) (.mailbox m) (leAt frame 0x0A 2) (leAt frame 0x0C 2)
          { opcode := octAt frame 3, status := 0x000E, payload := [] }) :: after) ∧
  (∀ (s : State) (m : Fin 4) (status : BitVec 32) (frame : Octets), s.serves (.mailbox m) = true → frameOk frame = true →
    octAt frame 3 = 1 → frame.length = 22 → octAt frame 20 ≤ 1 → octAt frame 21 = 0 → s.rd Ix.sesMailboxUnauthenticatedLevel 0 = 1 →
    ∃ t x, exec (.mailboxPost m status frame) s = .next t ∧ (t.mailboxes[m]).ready = true ∧ x ∈ t.sessions ∧ x.id = 64 + m.val ∧
      x.level = octAt frame 20 ∧ x.lastSeq = leAt frame 0x0C 2) ∧
  (∀ (s : State) (m : Fin 4) (status : BitVec 32) (frame : Octets), s.on = true → s.pcie.linkUp = true → (s.mailboxes[m]).ready = true →
    frameOk frame = false →
    ∃ t, exec (.mailboxPost m status frame) s = .next t ∧ (t.mailboxes[m]).overrun = true ∧ t.out = s.out ∧ t.sessions = s.sessions) ∧
  (∀ (s : State) (m : Fin 4) (status : BitVec 32), s.on = true → s.pcie.linkUp = true → s.power.restarting = false →
    ∃ t, exec (.mailboxAck m status) s = .next t ∧ (t.mailboxes[m]).ready = false ∧
      (t.mailboxes[m]).overrun = ((s.mailboxes[m]).overrun && !status.getLsbD 2) ∧ t.regs = s.regs)

/-- Writes that only store (R427, R445, R453), and one that its object's rule refuses: the general WRITE on the objects of the blocks of HRB
and of the monitors, which no chapter gives another effect, the node ID, and the trust anchors. -/
def Obligations.WritesStore : Prop :=
  (∀ (s : State) (r : Req) (x : Session) (ix : BitVec 16) (sub : BitVec 8) (v : Nat) (row : ObjRow),
    (ix.toNat / 0x400 = 21 ∨ ix.toNat / 0x400 = 29) → 8 ≤ ix.toNat % 0x400 → rowOf ix.toNat sub.toNat = some row →
    row.ty.isOctets = false → v < 256 ^ row.ty.bytes → s.Grants r x ix.toNat sub.toNat (pathNum r.path row.ty.bytes v) →
    ∃ t, exec (.write r ix sub (pathNum r.path row.ty.bytes v)) s = .next t ∧ s.Answers t r 0x11 .ok [] ∧
      t.rd ix.toNat sub.toNat = row.rng.written (s.rd ix.toNat sub.toNat) v % 2 ^ row.ty.bits ∧
      (∀ jx jub, key jx jub ≠ key ix.toNat sub.toNat → key jx jub ∉ pathCounters r.path → t.rd jx jub = s.rd jx jub) ∧
      t.octs = s.octs ∧ t.forced = s.forced ∧ t.dram = s.dram ∧ t.evf = s.evf) ∧
  (∀ (s : State) (r : Req) (x : Session) (value : BitVec 16), s.Grants r x Ix.sysNodeID 0 (pathNum r.path 2 value.toNat) →
    ∃ t, exec (.nodeIdWrite r value) s = .next t ∧ s.Answers t r 0x11 .ok [] ∧ t.rd Ix.sysNodeID 0 = value.toNat ∧
      t.assocs = s.assocs ∧ t.octs = s.octs ∧ t.dram = s.dram) ∧
  (∀ (s : State) (r : Req) (x : Session) (k : Fin 16) (value : Octets), s.Grants r x Ix.sesTrustAnchor (k.val + 1) value →
    anchorOk x value = true →
    ∃ t, exec (.trustAnchorWrite r k value) s = .next t ∧ s.Answers t r 0x11 .ok [] ∧ t.rdo Ix.sesTrustAnchor (k.val + 1) = value ∧
      ∀ jx jub, key jx jub ≠ key Ix.sesTrustAnchor (k.val + 1) → t.rdo jx jub = s.rdo jx jub) ∧
  (∀ (s : State) (r : Req) (x : Session) (k : Fin 16) (value : Octets), s.Grants r x Ix.sesTrustAnchor (k.val + 1) value →
    anchorOk x value = false →
    ∃ t, exec (.trustAnchorWrite r k value) s = .next t ∧ s.Answers t r 0x11 .outOfRange [] ∧ t.octs = s.octs)

/-- The field ports (R455 to R457): a link comes up at the rate tried and is lost; automatic mode alternates; ARP and ICMP echo for the
port's address are answered, other frames counted. Choices of the model it meets: log 123, 128. -/
def Obligations.FieldPortsAct : Prop :=
  (∀ (s : State) (n : Fin 2) (negotiated : Bool), s.clocked = true → s.fn (.fnp n) = .running → s.rd Ix.netLinkMode (n.val + 1) ≠ 0 →
    s.fnpUp n = false → s.triesFast n = true →
    ∃ t, exec (.fnpLinkUp n negotiated) s = .next t ∧ t.rd Ix.netLinkState (n.val + 1) = 3 ∧ t.bit Ix.netPortStatus (n.val + 1) 0 = true ∧
      t.fnp = s.fnp ∧ t.out = s.out ++ (if s.ptpActs n = true ∧ s.rd Ix.netTransport 0 = 0 then
        [Output.igmpReport n.val 0xE0000181, Output.igmpReport n.val 0xE000006B] else [])) ∧
  (∀ (s : State) (n : Fin 2) (negotiated : Bool), s.clocked = true → s.fn (.fnp n) = .running → s.rd Ix.netLinkMode (n.val + 1) ≠ 0 →
    s.fnpUp n = false → s.triesFast n = false →
    ∃ t, exec (.fnpLinkUp n negotiated) s = .next t ∧
      t.rd Ix.netLinkState (n.val + 1) = (if s.rd Ix.netAutoNegotiation (n.val + 1) = 1 ∧ negotiated = false then s.rd Ix.netLinkState (n.val + 1) else 2) ∧
      (s.rd Ix.netAutoNegotiation (n.val + 1) = 1 ∧ negotiated = false → t.bit Ix.netPortStatus (n.val + 1) 2 = true)) ∧
  (∀ (s : State) (n : Fin 2), s.clocked = true → s.fnpUp n = true →
    ∃ t, exec (.fnpLinkLoss n) s = .next t ∧ t.fnpUp n = false ∧ t.bit Ix.netPortStatus (n.val + 1) 0 = false ∧
      t.bit Ix.netPortStatus (n.val + 1) 1 = true ∧ t.fn (.fnp n) = s.fn (.fnp n) ∧
      t.rd Ix.netLinkLossCount (n.val + 1) = min (s.rd Ix.netLinkLossCount (n.val + 1) + 1) (2 ^ 32 - 1)) ∧
  (∀ (s : State) (n : Fin 2), s.clocked = true → s.fn (.fnp n) = .running → s.rd Ix.netLinkMode (n.val + 1) = 3 → s.fnpUp n = false →
    ∃ t, exec (.modeAlternation n) s = .next t ∧ t.triesFast n = !s.triesFast n ∧ t.regs = s.regs) ∧
  (∀ (s : State) (n : Fin 2) (mac : BitVec 48) (ip target : BitVec 32), s.clocked = true → s.fnpUp n = true → s.fn (.fnp n) = .running →
    ∃ t, exec (.arp n mac ip target) s = .next t ∧
      t.rd Ix.netFramesReceived (n.val + 1) = (s.rd Ix.netFramesReceived (n.val + 1) + 1) % 2 ^ 64 ∧
      t.out = s.out ++ (if target.toNat = s.rd Ix.netIPv4Address (n.val + 1) then [Output.arpReply n.val mac ip] else [])) ∧
  (∀ (s : State) (n : Fin 2) (ip target : BitVec 32) (data : Octets), s.clocked = true → s.fnpUp n = true → s.fn (.fnp n) = .running →
    ∃ t, exec (.icmpEcho n ip target data) s = .next t ∧
      t.rd Ix.netFramesReceived (n.val + 1) = (s.rd Ix.netFramesReceived (n.val + 1) + 1) % 2 ^ 64 ∧
      t.out = s.out ++ (if target.toNat = s.rd Ix.netIPv4Address (n.val + 1) then [Output.echoReply n.val ip data] else [])) ∧
  (∀ (s : State) (n : Fin 2) (badFcs : Bool), s.clocked = true → s.fnpUp n = true → s.fn (.fnp n) = .running →
    ∃ t, exec (.fnpFrameDiscard n badFcs) s = .next t ∧
      t.rd Ix.netFramesInError (n.val + 1) = (s.rd Ix.netFramesInError (n.val + 1) + (if badFcs then 1 else 0)) % 2 ^ 64 ∧
      t.rd Ix.netFramesDiscarded (n.val + 1) = (s.rd Ix.netFramesDiscarded (n.val + 1) + (if badFcs then 0 else 1)) % 2 ^ 64 ∧
      (badFcs = true → t.bit Ix.netPortStatus (n.val + 1) 3 = true) ∧ t.out = s.out)

/-- PTP messages that arrive (R463 to R467): Sync, Follow_Up and Delay_Resp of the port's master fill the exchange; a MASTER answers a
Delay_Req, and a port that measures peer to peer a Pdelay_Req; the peer's answers complete its delay; an Announce is heard. Choices of the
model it meets: log 44, 120, 122. -/
def Obligations.PtpMessagesAct : Prop :=
  (∀ (s : State) (dt : Nat) (n : Fin 2) (q : Fin 4) (m : PtpMessage), s.clocked = true → (s.advance dt).fnpUp n = true → (s.advance dt).ptpActs n = true →
    m.domain = (s.advance dt).rd Ix.netDomainNumber 0 → 8 ≤ (s.advance dt).ptpState n → (s.advance dt).fnp[n].parent = some m.source → m.twoStep = true →
    ∃ t, exec (.ptpSync dt n q m) s = .next t ∧
      t.rd Ix.netFramesReceived (n.val + 1) = ((s.advance dt).rd Ix.netFramesReceived (n.val + 1) + 1) % 2 ^ 64 ∧
      (m.source / 65536 ≠ (s.advance dt).clockId → t.fnp[n].sync =
        some { seq := m.seq, t2 := (s.advance dt).rxStamp n q, epoch := (s.advance dt).tbuUnit.epoch, corr := m.correction, t1 := none })) ∧
  (∀ (s : State) (dt : Nat) (n : Fin 2) (m : PtpMessage) (y : SyncRecord), s.clocked = true → (s.advance dt).fnpUp n = true → (s.advance dt).ptpActs n = true →
    m.domain = (s.advance dt).rd Ix.netDomainNumber 0 → 8 ≤ (s.advance dt).ptpState n → (s.advance dt).fnp[n].parent = some m.source → (s.advance dt).fnp[n].sync = some y → y.seq = m.seq →
    y.t1 = none → (s.advance dt).rd Ix.netDelayMechanism 0 = 1 → (s.advance dt).fnp[n].delay = none →
    ∃ t, exec (.ptpFollowUp dt n m) s = .next t ∧
      t.rd Ix.netFramesReceived (n.val + 1) = ((s.advance dt).rd Ix.netFramesReceived (n.val + 1) + 1) % 2 ^ 64 ∧
      (m.source / 65536 ≠ (s.advance dt).clockId → t.fnp[n].sync = some { y with t1 := some m.time, corr := y.corr + m.correction })) ∧
  (∀ (s : State) (dt : Nat) (n : Fin 2) (q : Fin 4) (m : PtpMessage), s.clocked = true → (s.advance dt).fnpUp n = true → (s.advance dt).ptpActs n = true →
    m.domain = (s.advance dt).rd Ix.netDomainNumber 0 → (s.advance dt).ptpState n = 6 → (s.advance dt).rd Ix.netDelayMechanism 0 = 1 →
    ∃ t, exec (.ptpDelayReq dt n q m) s = .next t ∧
      t.rd Ix.netFramesReceived (n.val + 1) = ((s.advance dt).rd Ix.netFramesReceived (n.val + 1) + 1) % 2 ^ 64 ∧
      (m.source / 65536 ≠ (s.advance dt).clockId → ∃ a : PtpMessage, t.out = (s.advance dt).out ++ [.ptp n.val a] ∧ a.kind = .delayResp ∧ a.seq = m.seq % 65536 ∧
        a.requesting = m.source ∧ a.time = ((s.advance dt).rxStamp n q / 1000).toNat)) ∧
  (∀ (s : State) (dt : Nat) (n : Fin 2) (m : PtpMessage) (d : DelayRecord), s.clocked = true → (s.advance dt).fnpUp n = true → (s.advance dt).ptpActs n = true →
    m.domain = (s.advance dt).rd Ix.netDomainNumber 0 → 8 ≤ (s.advance dt).ptpState n → (s.advance dt).fnp[n].parent = some m.source → (s.advance dt).fnp[n].sync = none →
    (s.advance dt).fnp[n].delay = some d → d.seq = m.seq → d.answered = false → (s.advance dt).rd Ix.netDelayMechanism 0 = 1 →
    ∃ t, exec (.ptpDelayResp dt n m) s = .next t ∧
      t.rd Ix.netFramesReceived (n.val + 1) = ((s.advance dt).rd Ix.netFramesReceived (n.val + 1) + 1) % 2 ^ 64 ∧
      (m.source / 65536 ≠ (s.advance dt).clockId → m.requesting = (s.advance dt).portIdentity n →
        t.fnp[n].delay = some { d with remote := m.time, corr := m.correction, answered := true })) ∧
  (∀ (s : State) (dt : Nat) (n : Fin 2) (q : Fin 4) (m : PtpMessage), s.clocked = true → (s.advance dt).fnpUp n = true → (s.advance dt).ptpActs n = true →
    m.domain = (s.advance dt).rd Ix.netDomainNumber 0 → (s.advance dt).rd Ix.netDelayMechanism 0 = 2 → (s.advance dt).fnp[n].stamps.length < 16 →
    ∃ t, exec (.ptpPdelayReq dt n q m true) s = .next t ∧
      t.rd Ix.netFramesReceived (n.val + 1) = ((s.advance dt).rd Ix.netFramesReceived (n.val + 1) + 1) % 2 ^ 64 ∧
      (m.source / 65536 ≠ (s.advance dt).clockId → ∃ a b : PtpMessage, t.out = (s.advance dt).out ++ [.ptp n.val a, .ptp n.val b] ∧ a.kind = .pdelayResp ∧
        b.kind = .pdelayRespFollowUp ∧ a.requesting = m.source ∧ b.requesting = m.source ∧ a.time = ((s.advance dt).rxStamp n q / 1000).toNat ∧
        b.time = ((s.advance dt).txStamp n q / 1000).toNat)) ∧
  (∀ (s : State) (dt : Nat) (n : Fin 2) (q : Fin 4) (m : PtpMessage) (d : DelayRecord), s.clocked = true → (s.advance dt).fnpUp n = true → (s.advance dt).ptpActs n = true →
    m.domain = (s.advance dt).rd Ix.netDomainNumber 0 → (s.advance dt).rd Ix.netDelayMechanism 0 = 2 → (s.advance dt).fnp[n].delay = some d → d.seq = m.seq → d.answered = false →
    d.epoch = (s.advance dt).tbuUnit.epoch → m.twoStep = true →
    ∃ t, exec (.ptpPdelayResp dt n q m) s = .next t ∧
      t.rd Ix.netFramesReceived (n.val + 1) = ((s.advance dt).rd Ix.netFramesReceived (n.val + 1) + 1) % 2 ^ 64 ∧
      (m.source / 65536 ≠ (s.advance dt).clockId → m.requesting = (s.advance dt).portIdentity n →
        t.fnp[n].delay = some { d with remote := m.time, arrival := (s.advance dt).rxStamp n q, corr := m.correction, answered := true })) ∧
  (∀ (s : State) (dt : Nat) (n : Fin 2) (m : PtpMessage) (d : DelayRecord) (t1 : Int), s.clocked = true → (s.advance dt).fnpUp n = true → (s.advance dt).ptpActs n = true →
    m.domain = (s.advance dt).rd Ix.netDomainNumber 0 → (s.advance dt).rd Ix.netDelayMechanism 0 = 2 → (s.advance dt).fnp[n].delay = some d → d.seq = m.seq → d.answered = true →
    d.own = some t1 → (s.advance dt).fnp[n].sync = none →
    ∃ t, exec (.ptpPdelayRespFollowUp dt n m) s = .next t ∧
      t.rd Ix.netFramesReceived (n.val + 1) = ((s.advance dt).rd Ix.netFramesReceived (n.val + 1) + 1) % 2 ^ 64 ∧
      (m.source / 65536 ≠ (s.advance dt).clockId → m.requesting = (s.advance dt).portIdentity n → t.fnp[n].delay = none ∧
        t.fnp[n].path = some ((d.arrival - t1) * 8192 - ((m.time : Int) - d.remote) * 8192000 -
          125 * (d.corr + m.correction + (s.advance dt).rdI Ix.netAsymmetry (n.val + 1))))) ∧
  (∀ (s : State) (dt : Nat) (n : Fin 2) (m : PtpMessage) (a : PtpAnnounce), s.clocked = true → (s.advance dt).fnpUp n = true → (s.advance dt).ptpActs n = true →
    m.domain = (s.advance dt).rd Ix.netDomainNumber 0 → m.kind = .announce a → a.steps < 255 →
    ∃ t, exec (.ptpAnnounce dt n m) s = .next t ∧
      t.rd Ix.netFramesReceived (n.val + 1) = ((s.advance dt).rd Ix.netFramesReceived (n.val + 1) + 1) % 2 ^ 64 ∧
      (m.source / 65536 ≠ (s.advance dt).clockId → t.fnp[n].foreign = heardMaster m.source a (s.advance dt).fnp[n].foreign)) ∧
  (∀ (s : State) (dt : Nat) (n : Fin 2) (q : Fin 4) (m : PtpMessage) (taken : Bool), s.clocked = true →
    (s.advance dt).runs (.fnp n) = true → (s.advance dt).fnpUp n = true →
    (∃ t, exec (.ptpSync dt n q m) s = .next t ∧
      t.rd Ix.netFramesReceived (n.val + 1) = ((s.advance dt).rd Ix.netFramesReceived (n.val + 1) + 1) % 2 ^ 64 ∧ t.ns = (s.advance dt).ns) ∧
    (∃ t, exec (.ptpFollowUp dt n m) s = .next t ∧
      t.rd Ix.netFramesReceived (n.val + 1) = ((s.advance dt).rd Ix.netFramesReceived (n.val + 1) + 1) % 2 ^ 64 ∧ t.ns = (s.advance dt).ns) ∧
    (∃ t, exec (.ptpDelayReq dt n q m) s = .next t ∧
      t.rd Ix.netFramesReceived (n.val + 1) = ((s.advance dt).rd Ix.netFramesReceived (n.val + 1) + 1) % 2 ^ 64 ∧ t.ns = (s.advance dt).ns) ∧
    (∃ t, exec (.ptpDelayResp dt n m) s = .next t ∧
      t.rd Ix.netFramesReceived (n.val + 1) = ((s.advance dt).rd Ix.netFramesReceived (n.val + 1) + 1) % 2 ^ 64 ∧ t.ns = (s.advance dt).ns) ∧
    (∃ t, exec (.ptpPdelayReq dt n q m taken) s = .next t ∧
      t.rd Ix.netFramesReceived (n.val + 1) = ((s.advance dt).rd Ix.netFramesReceived (n.val + 1) + 1) % 2 ^ 64 ∧ t.ns = (s.advance dt).ns) ∧
    (∃ t, exec (.ptpPdelayResp dt n q m) s = .next t ∧
      t.rd Ix.netFramesReceived (n.val + 1) = ((s.advance dt).rd Ix.netFramesReceived (n.val + 1) + 1) % 2 ^ 64 ∧ t.ns = (s.advance dt).ns) ∧
    (∃ t, exec (.ptpPdelayRespFollowUp dt n m) s = .next t ∧
      t.rd Ix.netFramesReceived (n.val + 1) = ((s.advance dt).rd Ix.netFramesReceived (n.val + 1) + 1) % 2 ^ 64 ∧ t.ns = (s.advance dt).ns) ∧
    (∃ t, exec (.ptpAnnounce dt n m) s = .next t ∧
      t.rd Ix.netFramesReceived (n.val + 1) = ((s.advance dt).rd Ix.netFramesReceived (n.val + 1) + 1) % 2 ^ 64 ∧ t.ns = (s.advance dt).ns)) ∧
  (∀ (s : State) (dt : Nat) (n : Fin 2) (q : Fin 4) (m : PtpMessage) (taken : Bool), s.clocked = true →
    (s.advance dt).runs (.fnp n) = false →
    (∃ t, exec (.ptpSync dt n q m) s = .next t ∧
      t.rd ((Fn.fnp n).base + 7) (Fn.fnp n).sub = ((s.advance dt).rd ((Fn.fnp n).base + 7) (Fn.fnp n).sub + 1) % 2 ^ 64 ∧ t.fnp = (s.advance dt).fnp) ∧
    (∃ t, exec (.ptpFollowUp dt n m) s = .next t ∧
      t.rd ((Fn.fnp n).base + 7) (Fn.fnp n).sub = ((s.advance dt).rd ((Fn.fnp n).base + 7) (Fn.fnp n).sub + 1) % 2 ^ 64 ∧ t.fnp = (s.advance dt).fnp) ∧
    (∃ t, exec (.ptpDelayReq dt n q m) s = .next t ∧
      t.rd ((Fn.fnp n).base + 7) (Fn.fnp n).sub = ((s.advance dt).rd ((Fn.fnp n).base + 7) (Fn.fnp n).sub + 1) % 2 ^ 64 ∧ t.fnp = (s.advance dt).fnp) ∧
    (∃ t, exec (.ptpDelayResp dt n m) s = .next t ∧
      t.rd ((Fn.fnp n).base + 7) (Fn.fnp n).sub = ((s.advance dt).rd ((Fn.fnp n).base + 7) (Fn.fnp n).sub + 1) % 2 ^ 64 ∧ t.fnp = (s.advance dt).fnp) ∧
    (∃ t, exec (.ptpPdelayReq dt n q m taken) s = .next t ∧
      t.rd ((Fn.fnp n).base + 7) (Fn.fnp n).sub = ((s.advance dt).rd ((Fn.fnp n).base + 7) (Fn.fnp n).sub + 1) % 2 ^ 64 ∧ t.fnp = (s.advance dt).fnp) ∧
    (∃ t, exec (.ptpPdelayResp dt n q m) s = .next t ∧
      t.rd ((Fn.fnp n).base + 7) (Fn.fnp n).sub = ((s.advance dt).rd ((Fn.fnp n).base + 7) (Fn.fnp n).sub + 1) % 2 ^ 64 ∧ t.fnp = (s.advance dt).fnp) ∧
    (∃ t, exec (.ptpPdelayRespFollowUp dt n m) s = .next t ∧
      t.rd ((Fn.fnp n).base + 7) (Fn.fnp n).sub = ((s.advance dt).rd ((Fn.fnp n).base + 7) (Fn.fnp n).sub + 1) % 2 ^ 64 ∧ t.fnp = (s.advance dt).fnp) ∧
    (∃ t, exec (.ptpAnnounce dt n m) s = .next t ∧
      t.rd ((Fn.fnp n).base + 7) (Fn.fnp n).sub = ((s.advance dt).rd ((Fn.fnp n).base + 7) (Fn.fnp n).sub + 1) % 2 ^ 64 ∧ t.fnp = (s.advance dt).fnp))

/-- PTP's timers and synchronisation (R460, R462, R463, R467): a MASTER sends Sync with its Follow_Up and Announce, a slave its Delay_Req; a
stamp not taken, the announce and Sync receipt timeouts, the holdover limit and the step mark window end what they end. Choices of the model
it meets: log 120. -/
def Obligations.PtpTimersAct : Prop :=
  (∀ (s : State) (dt : Nat) (n : Fin 2) (q : Fin 4), s.clocked = true → (s.advance dt).fnpUp n = true → (s.advance dt).ptpActs n = true → (s.advance dt).ptpState n = 6 →
    (s.advance dt).fnp[n].stamps.length < 16 →
    ∃ t, exec (.syncInterval dt n q true) s = .next t ∧ t.fnp[n].syncSeq = ((s.advance dt).fnp[n].syncSeq + 1) % 65536 ∧
      ∃ a b : PtpMessage, t.out = (s.advance dt).out ++ [.ptp n.val a, .ptp n.val b] ∧ a.kind = .sync ∧ b.kind = .followUp ∧ a.twoStep = true ∧
        a.seq = (s.advance dt).fnp[n].syncSeq % 65536 ∧ b.seq = a.seq ∧ b.time = ((s.advance dt).txStamp n q / 1000).toNat) ∧
  (∀ (s : State) (dt : Nat) (n : Fin 2), s.clocked = true → (s.advance dt).fnpUp n = true → (s.advance dt).ptpActs n = true → (s.advance dt).ptpState n = 6 →
    ∃ t, exec (.announceInterval dt n) s = .next t ∧ t.fnp[n].announceSeq = ((s.advance dt).fnp[n].announceSeq + 1) % 65536 ∧
      ∃ a : PtpMessage, t.out = (s.advance dt).out ++ [.ptp n.val a] ∧ a.kind = .announce (s.advance dt).announced ∧ a.seq = (s.advance dt).fnp[n].announceSeq % 65536) ∧
  (∀ (s : State) (dt : Nat) (n : Fin 2) (q : Fin 4), s.clocked = true → (s.advance dt).fnpUp n = true → (s.advance dt).ptpActs n = true → 8 ≤ (s.advance dt).ptpState n →
    (s.advance dt).rd Ix.netDelayMechanism 0 = 1 → (s.advance dt).fnp[n].stamps.length < 16 →
    ∃ t, exec (.delayReqInterval dt n q true) s = .next t ∧
      t.fnp[n].delay = some { seq := (s.advance dt).fnp[n].delaySeq % 65536, own := some ((s.advance dt).txStamp n q), epoch := (s.advance dt).tbuUnit.epoch } ∧
      ∃ a : PtpMessage, t.out = (s.advance dt).out ++ [.ptp n.val a] ∧ a.kind = .delayReq ∧ a.seq = (s.advance dt).fnp[n].delaySeq % 65536) ∧
  (∀ (s : State) (n : Fin 2) (e : Nat × Int) (rest : List (Nat × Int)), s.clocked = true → s.fnp[n].stamps = e :: rest →
    ∃ t, exec (.txtsTimeout n) s = .next t ∧ t.fnp[n] = { s.fnp[n] with stamps := rest } ∧ t.bit Ix.netPortStatus (n.val + 1) 5 = true ∧
      t.out = s.out) ∧
  (∀ (s : State) (n : Fin 2), s.clocked = true → s.ptpActs n = true → s.ptpState n ≠ 6 →
    ∃ t, exec (.announceTimeout n) s = .next t ∧ t.fnp[n].foreign = [] ∧ t.bit Ix.netTimeStatus 0 8 = true ∧ t.tbu = s.tbu) ∧
  (∀ (s : State) (n : Fin 2), s.clocked = true → s.ptpState n = 9 → s.rd Ix.netTimeStatus 0 % 4 = 2 →
    ∃ t, exec (.syncReceiptTimeout n) s = .next t ∧ t.rd Ix.netTimeStatus 0 % 4 = 3 ∧ t.fnp[n].sync = none ∧
      t.rd Ix.netRateAdjustment 0 = s.rd Ix.netRateAdjustment 0 ∧ t.tbu = s.tbu) ∧
  (∀ (s : State), s.on = true → s.rd Ix.netTimeStatus 0 % 4 = 3 →
    ∃ t, exec .holdoverLimit s = .next t ∧ t.rd Ix.netTimeStatus 0 % 4 = 0 ∧ t.bit Ix.netTimeStatus 0 5 = true ∧
      t.rd Ix.netRateAdjustment 0 = s.rd Ix.netRateAdjustment 0 ∧ t.tbu = s.tbu) ∧
  (∀ (s : State), s.on = true →
    ∃ t, exec .stepMarkEnd s = .next t ∧ t.bit Ix.netTimeStatus 0 2 = false ∧ t.rd Ix.netTimeStatus 0 % 4 = s.rd Ix.netTimeStatus 0 % 4 ∧
      t.bit Ix.netTimeStatus 0 4 = s.bit Ix.netTimeStatus 0 4 ∧ t.tbu = s.tbu) ∧
  (∀ (s : State) (dt : Nat) (n : Fin 2) (q : Fin 4) (taken : Bool), s.clocked = true → (s.advance dt).ptpActs n = true →
    (s.advance dt).ptpState n = 6 →
    ∃ t, exec (.syncInterval dt n q taken) s = .next t ∧ t.fnp[n].syncSeq = ((s.advance dt).fnp[n].syncSeq + 1) % 65536 ∧
      t.fnp[n].announceSeq = (s.advance dt).fnp[n].announceSeq ∧ t.tbu = (s.advance dt).tbu) ∧
  (∀ (s : State) (dt : Nat) (n : Fin 2) (q : Fin 4) (taken : Bool), s.clocked = true → (s.advance dt).ptpActs n = true →
    ((s.advance dt).rd Ix.netDelayMechanism 0 = 2 ∧ (s.advance dt).ptpState n ≠ 3) ∨
      ((s.advance dt).rd Ix.netDelayMechanism 0 ≠ 2 ∧ 8 ≤ (s.advance dt).ptpState n) →
    ∃ t, exec (.delayReqInterval dt n q taken) s = .next t ∧ t.fnp[n].delaySeq = ((s.advance dt).fnp[n].delaySeq + 1) % 65536 ∧
      t.fnp[n].syncSeq = (s.advance dt).fnp[n].syncSeq ∧ t.tbu = (s.advance dt).tbu) ∧
  (∀ (s : State) (dt : Nat) (n : Fin 2) (q : Fin 4) (taken : Bool), s.clocked = true →
    (s.advance dt).ptpActs n = false ∨ (s.advance dt).ptpState n ≠ 6 →
    exec (.syncInterval dt n q taken) s = .next (s.advance dt) ∧ exec (.announceInterval dt n) s = .next (s.advance dt))

/-- The clock, its pulse outputs and its capture inputs (R459, R461, R468 to R471): a set, a step and a rate adjustment take effect; an
output is armed, reaches its edge and ends its pulse; mode 0 disarms it; an edge is captured. Choices of the model it meets: log 125, 126.
-/
def Obligations.TimeBaseActs : Prop :=
  (∀ (s : State) (r : Req) (x : Session) (value : Octets), s.Grants r x Ix.netTimeSet 0 value → leAt value 8 4 < 10 ^ 9 →
    leAt value 0 8 < 2 ^ 48 →
    ∃ t, exec (.timeSet r value) s = .next t ∧ s.Answers t r 0x11 .ok [] ∧ t.tbu = (leAt value 0 8 * 10 ^ 9 + leAt value 8 4) * 2 ^ 32 ∧
      t.rd Ix.netTimeStatus 0 % 4 = 1 ∧ t.bit Ix.netTimeStatus 0 4 = true ∧ t.rd Ix.wpuLP 0 = s.rd Ix.wpuLP 0) ∧
  (∀ (s : State) (r : Req) (x : Session) (value : Octets), s.Grants r x Ix.netTimeSet 0 value → 10 ^ 9 ≤ leAt value 8 4 →
    ∃ t, exec (.timeSet r value) s = .next t ∧ s.Answers t r 0x11 .outOfRange [] ∧ t.tbu = s.tbu) ∧
  (∀ (s : State) (r : Req) (x : Session) (v : BitVec 64), s.Grants r x Ix.netTimeStep 0 (pathNum r.path 8 v.toNat) →
    0 ≤ (s.tbu : Int) + v.toInt * 2 ^ 32 → (s.tbu : Int) + v.toInt * 2 ^ 32 < (clockEnd : Int) →
    ∃ t, exec (.timeStep r v) s = .next t ∧ s.Answers t r 0x11 .ok [] ∧ t.tbu = ((s.tbu : Int) + v.toInt * 2 ^ 32).toNat ∧
      t.bit Ix.netTimeStatus 0 4 = true ∧ t.rd Ix.netTimeStatus 0 % 4 = s.rd Ix.netTimeStatus 0 % 4 ∧ t.rd Ix.wpuLP 0 = s.rd Ix.wpuLP 0) ∧
  (∀ (s : State) (r : Req) (x : Session) (v : BitVec 32), s.Grants r x Ix.netRateAdjustment 0 (pathNum r.path 4 v.toNat) →
    ∃ t, exec (.rateAdjustment r v) s = .next t ∧ s.Answers t r 0x11 .ok [] ∧ t.rd Ix.netRateAdjustment 0 = v.toNat ∧
      t.rd Ix.netClockIncrement 0 = clockIncrement v.toInt % 2 ^ 64 ∧ t.tbu = s.tbu) ∧
  (∀ (s : State) (r : Req) (x : Session) (n : Fin 4), s.Grants r x Ix.netPulseArm (n.val + 1) (pathNum r.path 1 1) →
    s.rd Ix.netPulseMode (n.val + 1) ≠ 0 →
    s.tbu ≤ (leAt (s.rdo Ix.netPulseStart (n.val + 1)) 0 8 * 10 ^ 9 + leAt (s.rdo Ix.netPulseStart (n.val + 1)) 8 4) * 2 ^ 32 →
    ∃ t, exec (.pulseArm r n 1) s = .next t ∧ s.Answers t r 0x11 .ok [] ∧ t.bit Ix.netPulseStatus (n.val + 1) 0 = true ∧
      (t.tbuUnit.arms[n].map (fun a => (a.periodic, a.next, a.period))) =
        some (decide (s.rd Ix.netPulseMode (n.val + 1) = 2),
          leAt (s.rdo Ix.netPulseStart (n.val + 1)) 0 8 * 10 ^ 9 + leAt (s.rdo Ix.netPulseStart (n.val + 1)) 8 4,
          s.rd Ix.netPulsePeriod (n.val + 1))) ∧
  (∀ (s : State) (r : Req) (x : Session) (n : Fin 4), s.Grants r x Ix.netPulseArm (n.val + 1) (pathNum r.path 1 1) →
    s.rd Ix.netPulseMode (n.val + 1) = 1 →
    (leAt (s.rdo Ix.netPulseStart (n.val + 1)) 0 8 * 10 ^ 9 + leAt (s.rdo Ix.netPulseStart (n.val + 1)) 8 4) * 2 ^ 32 < s.tbu →
    ∃ t, exec (.pulseArm r n 1) s = .next t ∧ s.Answers t r 0x11 .ok [] ∧ t.tbuUnit.arms[n] = none ∧
      t.bit Ix.netPulseStatus (n.val + 1) 1 = true ∧
      t.rd Ix.netMissedPulses (n.val + 1) = (s.rd Ix.netMissedPulses (n.val + 1) + 1) % 2 ^ 64) ∧
  (∀ (s : State) (dt : Nat) (n : Fin 4) (a : ToutArm), s.clocked = true → (s.advance dt).fn .tbu = .running → (s.advance dt).tbuUnit.arms[n] = some a →
    a.next * 2 ^ 32 ≤ (s.advance dt).tbu →
    ∃ t, exec (.pulseEdge dt n) s = .next t ∧ t.bit Ix.netPulseStatus (n.val + 1) 3 = true ∧
      t.rd Ix.netPulses (n.val + 1) = ((s.advance dt).rd Ix.netPulses (n.val + 1) + 1) % 2 ^ 64 ∧
      t.tbuUnit.arms[n] = (if a.periodic then some { a with next := a.next + a.period } else none) ∧ t.tbu = (s.advance dt).tbu) ∧
  (∀ (s : State) (n : Fin 4), s.clocked = true →
    ∃ t, exec (.toutPulseEnd n) s = .next t ∧ t.bit Ix.netPulseStatus (n.val + 1) 3 = false ∧ t.tbuUnit = s.tbuUnit) ∧
  (∀ (s : State) (r : Req) (x : Session) (n : Fin 4) (v : BitVec 8), s.Grants r x Ix.netPulseMode (n.val + 1) (pathNum r.path 1 v.toNat) →
    ∃ t, exec (.pulseModeWrite r n v) s = .next t ∧ s.Answers t r 0x11 .ok [] ∧ t.rd Ix.netPulseMode (n.val + 1) = v.toNat ∧
      (v = 0 → t.tbuUnit.arms[n] = none ∧ t.bit Ix.netPulseStatus (n.val + 1) 3 = false) ∧ (v ≠ 0 → t.tbuUnit = s.tbuUnit)) ∧
  (∀ (s : State) (dt : Nat) (n : Fin 4) (rising : Bool) (q : Fin 4), s.clocked = true → (s.advance dt).fn .tbu = .running →
    (s.advance dt).rd Ix.netCaptureEdge (n.val + 1) = 3 → (s.advance dt).tbuUnit.last[n] = none → (s.advance dt).tbuUnit.captures[n].length < 16 →
    ∃ t, exec (.tinEdge dt n rising q) s = .next t ∧
      t.rd Ix.netCaptureCount (n.val + 1) = ((s.advance dt).rd Ix.netCaptureCount (n.val + 1) + 1) % 2 ^ 64 ∧
      t.rd Ix.netCapturesWaiting (n.val + 1) = (s.advance dt).tbuUnit.captures[n].length + 1 ∧
      t.tbuUnit.captures[n].length = (s.advance dt).tbuUnit.captures[n].length + 1) ∧
  (∀ (s : State) (dt : Nat) (n : Fin 4) (rising : Bool) (q : Fin 4), s.clocked = true → (s.advance dt).clocked = true → (s.advance dt).fn .tbu ≠ .running →
    (s.advance dt).rd Ix.netCaptureEdge (n.val + 1) = 3 →
    ∃ t, exec (.tinEdge dt n rising q) s = .next t ∧ t.tbuUnit = (s.advance dt).tbuUnit ∧ t.rd 0x6007 3 = ((s.advance dt).rd 0x6007 3 + 1) % 2 ^ 64)

/-- Calibration runs (R483 to R485, R488, R489, R494): a request starts a run or is turned away; cancel and the run timeout end it; the
checks reject a camera with its reason or hand its values on; the last write ends it. Choices of the model it meets: log 131. -/
def Obligations.RunsMeasure : Prop :=
  (∀ (s : State) (r : Req) (x : Session) (value : Octets), s.Grants r x Ix.calRunRequest 0 value → octAt value 0 = 1 ∨ octAt value 0 = 2 →
    octAt value 1 = 0 → leAt value 2 2 ≤ 64 → leAt value 12 4 = 0 →
    (maskCams (leAt value 4 4)).all (fun n => s.rd Ix.cptLaneCount (n + 1) != 0 && s.camRuns n) = true → s.fn .cal = .running → s.calBusy = false →
    ∃ t, exec (.runRequest r value) s = .next t ∧ s.Answers t r 0x11 .ok [] ∧ t.rd Ix.calRunState 0 = 1 ∧
      t.bit Ix.calCalibrationStatus 0 clRunActive = true ∧
      (t.cal.run.map (fun y => (y.kind, y.mask, y.tag, y.strips))) = some (octAt value 0, leAt value 4 4, leAt value 8 4,
        if leAt value 2 2 = 0 then s.rd Ix.calRunStrips 0 else leAt value 2 2)) ∧
  (∀ (s : State) (r : Req) (x : Session) (value : Octets), s.Grants r x Ix.calRunRequest 0 value → s.fn .cal = .running →
    (maskCams (leAt value 4 4)).all (fun n => s.camRuns n) = true → 3 < octAt value 0 →
    ∃ t, exec (.runRequest r value) s = .next t ∧ s.Answers t r 0x11 .outOfRange [] ∧ t.cal = s.cal) ∧
  (∀ (s : State) (r : Req) (x : Session) (q : CalRun), s.Grants r x Ix.calRunCancel 0 (pathNum r.path 1 1) → s.cal.run = some q →
    ∃ t, exec (.runCancel r) s = .next t ∧ s.Answers t r 0x11 .ok [] ∧ t.cal.run = none ∧ t.rd Ix.calRunState 0 = 0 ∧
      t.bit Ix.calCalibrationStatus 0 clRunRejected = true ∧ t.bit Ix.calCalibrationStatus 0 clRunActive = false) ∧
  (∀ (s : State) (q : CalRun) (c : CalCam), s.mgtUp = true → s.cal.run = some q → s.rd Ix.calRunState 0 = 3 → q.kind = 1 → q.cams = [c] →
    c.cam < 32 → c.markers ≠ 0 →
    ∃ t, exec .runCheckComplete s = .next t ∧ t.rd Ix.calRejectionReason (c.cam + 1) = 1 ∧ t.cal.run = none ∧ t.rd Ix.calRunState 0 = 0 ∧
      t.bit Ix.calCalibrationStatus 0 clRunRejected = true ∧ t.cal.image = s.cal.image ∧
      t.rd Ix.iplBlackLevelChannel0 (c.cam + 1) = s.rd Ix.iplBlackLevelChannel0 (c.cam + 1)) ∧
  (∀ (s : State) (q : CalRun) (c : CalCam), s.mgtUp = true → s.cal.run = some q → s.rd Ix.calRunState 0 = 3 → q.kind = 1 → q.cams = [c] →
    c.cam < 32 → (s.darkFinding (Fin.ofNat 32 c.cam) c).reason = 0 →
    ∃ t, exec .runCheckComplete s = .next t ∧ t.rd Ix.calRunState 0 = 4 ∧
      t.cal.image = s.cal.image ++ (s.darkFinding (Fin.ofNat 32 c.cam) c).writes ∧ t.cal.run.isSome = true) ∧
  (∀ (s : State) (q : CalRun) (w : CalWrite), s.mgtUp = true → s.cal.run = some q → s.rd Ix.calRunState 0 = 4 → q.kind = 1 →
    q.reasons.all (fun y => y.2 == 0) = true → s.cal.geo.any (fun y => y.source == 1) = false → s.cal.image = [w] → w.code = 1 → w.inst < 32 →
    q.reasons.all (fun y => decide (y.1 < 32)) = true →
    ∃ t, exec .runApplyComplete s = .next t ∧ t.cal.run = none ∧ t.cal.image = [] ∧ t.rd Ix.calRunState 0 = 0 ∧
      t.bit Ix.calCalibrationStatus 0 clRunDone = true ∧ t.rd Ix.iplBlackLevelChannel0 (w.inst + 1) = leAt w.data 0 2) ∧
  (∀ (s : State) (q : CalRun), s.on = true → s.cal.run = some q → s.cal.imp = none → s.rd Ix.calRunState 0 < 4 → q.kind ≠ 3 →
    ∃ t, exec .runTimeout s = .next t ∧ t.cal.run = none ∧ t.rd Ix.calRunState 0 = 0 ∧ t.bit Ix.calCalibrationStatus 0 clRunRejected = true ∧
      (∀ n : Fin 32, q.mask.testBit n.val = true → t.rd Ix.calRejectionReason (n.val + 1) = 11)) ∧
  (∀ (s : State) (q : CalRun), s.mgtUp = true → s.cal.run = some q → s.rd Ix.calRunState 0 = 3 →
    ∃ t, exec .runCheckComplete s = .next t ∧
      ((t.cal.run = none ∧ t.rd Ix.calRunState 0 = 0 ∧ (t.rdo Ix.calRunResult 0).take 5 = leBytes 4 q.tag ++ leBytes 1 q.kind) ∨
       (t.cal.run.isSome = true ∧ t.rd Ix.calRunState 0 = 4)) ∧ t.dram = s.dram) ∧
  (∀ (s : State) (q : CalRun), s.mgtUp = true → s.cal.run = some q → s.rd Ix.calRunState 0 = 4 →
    s.cal.geo.any (fun y => y.source == 1) = false →
    ∃ t, exec .runApplyComplete s = .next t ∧ t.cal.run = none ∧ t.cal.image = [] ∧ t.cal.geo = s.cal.geo ∧ t.rd Ix.calRunState 0 = 0 ∧
      (t.rdo Ix.calRunResult 0).take 5 = leBytes 4 q.tag ++ leBytes 1 q.kind ∧
      (t.bit Ix.calCalibrationStatus 0 clRunDone = true ∨ t.bit Ix.calCalibrationStatus 0 clRunRejected = true)) ∧
  (∀ (s : State), s.cal.run = none ∨ s.rd Ix.calRunState 0 ≠ 3 → exec .runCheckComplete s = .next s) ∧
  (∀ (s : State), s.cal.run = none ∨ s.rd Ix.calRunState 0 ≠ 4 ∨ s.cal.geo.any (fun y => y.source == 1) = true →
    exec .runApplyComplete s = .next s)

/-- Imports, item writes, the factory record, thresholds and due flags (R480 to R482, R491 to R493). Choices of the model it meets: log 133,
134, 135. -/
def Obligations.ItemsComeAndGo : Prop :=
  (∀ (s : State) (r : Req) (x : Session), s.Grants r x Ix.calImportCommand 0 (pathNum r.path 1 1) → s.fn .cal = .running → s.calBusy = false →
    s.slotStatus (s.rdo Ix.calImportSlot 1) = 0 → s.slotStatus (s.rdo Ix.calImportSlot 2) ≠ 0 →
    ∃ t, exec (.importCmd r) s = .next t ∧ s.Answers t r 0x11 .ok [] ∧ t.bit Ix.calCalibrationStatus 0 clImporting = true ∧
      (t.cal.imp.map (fun i => (i.slot, i.status1, i.status2))) = some (1, 0, s.slotStatus (s.rdo Ix.calImportSlot 2))) ∧
  (∀ (s : State) (r : Req) (x : Session), s.Grants r x Ix.calImportCommand 0 (pathNum r.path 1 1) → s.fn .cal = .running → s.calBusy = true →
    ∃ t, exec (.importCmd r) s = .next t ∧ s.Answers t r 0x11 .busy [] ∧ t.cal = s.cal) ∧
  (∀ (s : State) (r : Req) (x : Session), s.Grants r x Ix.calImportCommand 0 (pathNum r.path 1 2) → s.fn .cal = .running → s.calBusy = false →
    s.slotStatus s.cal.factory = 0 →
    ∃ t, exec (.applyFactory r) s = .next t ∧ s.Answers t r 0x11 .ok [] ∧ t.bit Ix.calCalibrationStatus 0 clFactoryUsed = true ∧
      (t.cal.imp.map (fun i => i.slot)) = some 3 ∧ t.rd Ix.calLastSequence 0 = s.rd Ix.calLastSequence 0) ∧
  (∀ (s : State) (r : Req) (x : Session), s.Grants r x Ix.calImportCommand 0 (pathNum r.path 1 2) → s.fn .cal = .running → s.calBusy = false →
    s.slotStatus s.cal.factory ≠ 0 →
    ∃ t, exec (.applyFactory r) s = .next t ∧ s.Answers t r 0x11 .ok [] ∧ t.bit Ix.calCalibrationStatus 0 clFactoryInvalid = true ∧
      (t.cal.imp.map (fun i => (i.slot, i.applied))) = some (0, 0) ∧ t.cal.image = s.cal.image ∧ t.cal.geo = s.cal.geo) ∧
  (∀ (s : State) (i : CalImport), s.mgtUp = true → s.cal.imp = some i → s.cal.geo = [] → s.cal.image = [] →
    ∃ t, exec .importComplete s = .next t ∧ t.cal.imp = none ∧ t.bit Ix.calCalibrationStatus 0 clImportDone = true ∧
      t.bit Ix.calCalibrationStatus 0 clImporting = false ∧
      t.rdo Ix.calImportResult 0 = leBytes 1 i.slot ++ leBytes 1 i.status1 ++ leBytes 1 i.status2 ++ leBytes 1 0 ++ leBytes 4 i.applied ++
        leBytes 4 i.skipped ++ leBytes 4 0 ++ leBytes 8 i.seq ++ leBytes 8 s.stamp) ∧
  (∀ (s : State) (r : Req) (x : Session) (value : Octets), s.Grants r x Ix.calItemWrite 0 value → octAt value 0 = 5 ∨ octAt value 0 = 6 →
    octAt value 1 = 0 → leAt value 2 2 < 32 → value.length = 8 → s.fn .cal = .running →
    ∃ t, exec (.itemWrite r value) s = .next t ∧ s.Answers t r 0x11 .ok [] ∧
      t.cal.geo = s.cal.geo ++ [{ code := octAt value 0, inst := leAt value 2 2, source := 3, data := value.drop 4 }]) ∧
  (∀ (s : State) (r : Req) (x : Session) (value : Octets), s.Grants r x Ix.calItemWrite 0 value → s.fn .cal = .running → octAt value 0 = 2 →
    ∃ t, exec (.itemWrite r value) s = .next t ∧ s.Answers t r 0x11 .outOfRange [] ∧ t.cal = s.cal) ∧
  (∀ (s : State) (r : Req) (x : Session), s.Grants r x Ix.calFactorySave 0 (pathNum r.path 1 1) → s.rd Ix.lifLifeCycleState 0 = 2 →
    ∃ t, exec (.factorySave r) s = .next t ∧ s.Answers t r 0x11 .ok [] ∧
      t.rd Ix.calLastSequence 0 = (s.rd Ix.calLastSequence 0 + 1) % 2 ^ 64 ∧
      t.cal.factory.take 8 = leBytes 4 0x4C414356 ++ leBytes 2 1 ++ leBytes 2 1) ∧
  (∀ (s : State) (r : Req) (x : Session), s.Grants r x Ix.calFactorySave 0 (pathNum r.path 1 1) → s.rd Ix.lifLifeCycleState 0 ≠ 2 →
    ∃ t, exec (.factorySave r) s = .next t ∧ s.Answers t r 0x11 .wrongState [] ∧ t.cal = s.cal) ∧
  (∀ (s : State) (i : Fin 64) (e : Int), s.on = true → s.fn .cal = .running → s.cal.targets = [] → s.cal.bases = [] →
    s.rd Ix.calCXPThreshold (i.val + 1) < 256 → -30 ≤ s.rdI Ix.calCXPThreshold (i.val + 1) → s.rdI Ix.calCXPThreshold (i.val + 1) ≤ 31 →
    (s.rdI Ix.calCXPThreshold (i.val + 1) - 1).natAbs ≤ s.rd Ix.calDriftLimit 0 → (s.rd Ix.calInterfaceDeadBand 0 : Int) < e →
    ∃ t, exec (.interfaceInterval [(i.val, e)] []) s = .next t ∧
      t.rdI Ix.calCXPThreshold (i.val + 1) = s.rdI Ix.calCXPThreshold (i.val + 1) - 1 ∧ t.cal.targets = []) ∧
  (∀ (s : State) (lanes : List (Nat × Int)) (encoders : List (Nat × List (Option Int))), s.fn .cal ≠ .running →
    exec (.interfaceInterval lanes encoders) s = .next s) ∧
  (∀ (s : State), s.on = true → s.rd Ix.calDueInterval 1 = 0 → s.rd Ix.calDueInterval 2 = 0 → s.rd Ix.calDueInterval 3 = 0 →
    ∃ t, exec .dueCheck s = .next t ∧ t.bit Ix.calCalibrationStatus 0 8 = false ∧ t.bit Ix.calCalibrationStatus 0 9 = false ∧
      t.bit Ix.calCalibrationStatus 0 10 = false ∧ t.cal = s.cal) ∧
  (∀ (s : State) (n : Fin 32), s.on = true → s.rd Ix.calDueInterval 1 ≠ 0 → s.itemIncluded 1 n.val = true →
    s.overdueItem (s.rd Ix.calDueInterval 1) 1 n.val = true →
    ∃ t, exec .dueCheck s = .next t ∧ t.bit Ix.calCalibrationStatus 0 8 = true ∧ t.cal = s.cal) ∧
  (∀ (s : State) (i : CalImport), s.mgtUp = true → s.cal.imp = some i → s.cal.geo.any (fun y => y.source == 2) = false →
    ∃ t, exec .importComplete s = .next t ∧ t.cal.imp = none ∧ t.cal.image = [] ∧ t.cal.geo = s.cal.geo ∧
      t.bit Ix.calCalibrationStatus 0 clImportDone = true ∧ t.bit Ix.calCalibrationStatus 0 clImporting = false) ∧
  (∀ (s : State), s.cal.imp = none ∨ s.cal.geo.any (fun y => y.source == 2) = true → exec .importComplete s = .next s)

/-- The life cycle and the fuses (R497 to R500, R515): the commands and their refusals, the service idle timeout, and fuse programming.
Whether programmed fuses verify is left open (log entry on `fuseVerifies`). Choices of the model it meets: log 141, 142. -/
def Obligations.LifeCycleAndFuses : Prop :=
  (∀ (s : State) (r : Req) (x : Session) (serial : BitVec 64) (hash : Vector Byte 48),
    s.Grants r x Ix.lifLifeCycleCommand 0 (lifeHead 1 serial ++ hash.toList) → x.secure = true → s.rd Ix.lifLifeCycleState 0 = 0 →
    serial.toNat = s.rd Ix.sysSerialNumber 0 → hash.toList.all (fun b => b == 0) = false → s.bit Ix.lifLifeCycleStatus 0 lcFuseBusy = false →
    ∃ t, exec (.provision r serial hash) s = .next t ∧
      ((s.Answers t r 0x11 .ok [] ∧ t.rd Ix.lifLifeCycleState 0 = 1 ∧ t.rdo Ix.lifRootKeyHash 0 = hash.toList ∧
          t.rd Ix.lifLifeCycleTransitions 0 = min (s.rd Ix.lifLifeCycleTransitions 0 + 1) (2 ^ 32 - 1)) ∨
        (s.Answers t r 0x11 .deviceError [] ∧ t.rd Ix.lifLifeCycleState 0 = 0 ∧ t.rdo Ix.lifRootKeyHash 0 = s.rdo Ix.lifRootKeyHash 0))) ∧
  (∀ (s : State) (r : Req) (x : Session) (serial : BitVec 64) (hash : Vector Byte 48),
    s.Grants r x Ix.lifLifeCycleCommand 0 (lifeHead 1 serial ++ hash.toList) → x.secure = true → s.rd Ix.lifLifeCycleState 0 = 0 →
    serial.toNat ≠ s.rd Ix.sysSerialNumber 0 →
    ∃ t, exec (.provision r serial hash) s = .next t ∧ s.Answers t r 0x11 .outOfRange [] ∧ t.bit Ix.lifLifeCycleStatus 0 lcCmdRefused = true ∧
      t.rd Ix.lifLifeCycleState 0 = 0 ∧ t.rdo Ix.lifRootKeyHash 0 = s.rdo Ix.lifRootKeyHash 0) ∧
  (∀ (s : State) (r : Req) (x : Session) (serial : BitVec 64) (hash : Vector Byte 48),
    s.Grants r x Ix.lifLifeCycleCommand 0 (lifeHead 1 serial ++ hash.toList) → x.secure = true → s.rd Ix.lifLifeCycleState 0 ≠ 0 →
    ∃ t, exec (.provision r serial hash) s = .next t ∧ s.Answers t r 0x11 .wrongState [] ∧ t.bit Ix.lifLifeCycleStatus 0 lcCmdRefused = true ∧
      t.rd Ix.lifLifeCycleState 0 = s.rd Ix.lifLifeCycleState 0 ∧ t.rdo Ix.lifRootKeyHash 0 = s.rdo Ix.lifRootKeyHash 0) ∧
  (∀ (s : State) (r : Req) (x : Session) (serial : BitVec 64), s.Grants r x Ix.lifLifeCycleCommand 0 (lifeHead 2 serial) → x.secure = true →
    x.anchorMax = 3 → s.rd Ix.lifLifeCycleState 0 = 1 → serial.toNat = s.rd Ix.sysSerialNumber 0 →
    ∃ t, exec (.enterService r serial) s = .next t ∧ s.Answers t r 0x11 .ok [] ∧ t.rd Ix.lifLifeCycleState 0 = 2 ∧
      t.rd Ix.lifServiceEntryTime 0 = s.stamp ∧ t.rd Ix.lifLifeCycleTransitions 0 = min (s.rd Ix.lifLifeCycleTransitions 0 + 1) (2 ^ 32 - 1)) ∧
  (∀ (s : State) (r : Req) (x : Session) (serial : BitVec 64), s.Grants r x Ix.lifLifeCycleCommand 0 (lifeHead 3 serial) →
    s.rd Ix.lifLifeCycleState 0 = 2 → serial.toNat = s.rd Ix.sysSerialNumber 0 → s.bit Ix.lifLifeCycleStatus 0 lcFuseBusy = false →
    ∃ t, exec (.leaveService r serial) s = .next t ∧ s.Answers t r 0x11 .ok [] ∧ t.rd Ix.lifLifeCycleState 0 = 1 ∧
      t.sessions.all (fun y => y.level != 3) = true ∧
      t.rd Ix.lifLifeCycleTransitions 0 = min (s.rd Ix.lifLifeCycleTransitions 0 + 1) (2 ^ 32 - 1)) ∧
  (∀ (s : State) (r : Req) (x : Session) (serial : BitVec 64), s.Grants r x Ix.lifLifeCycleCommand 0 (lifeHead 4 serial) → x.level = 3 →
    s.rd Ix.lifLifeCycleState 0 = 2 → serial.toNat = s.rd Ix.sysSerialNumber 0 → s.bit Ix.lifLifeCycleStatus 0 lcFuseBusy = false →
    allFns.all (fun f => runsRetired f || decide (s.fn f = .stopped)) = true →
    ∃ t, exec (.decommission r serial) s = .next t ∧ s.Answers t r 0x11 .ok [] ∧ t.rd Ix.lifLifeCycleState 0 = 3 ∧
      (∀ k : Fin 16, octAt (t.rdo Ix.sesTrustAnchor (k.val + 1)) 49 = 0) ∧ t.sessions.all (fun y => y.level != 3) = true) ∧
  (∀ (s : State) (r : Req) (x : Session) (serial : BitVec 64), s.Grants r x Ix.lifLifeCycleCommand 0 (lifeHead 4 serial) → x.level = 3 →
    s.fn .wpu ≠ .stopped →
    ∃ t, exec (.decommission r serial) s = .next t ∧ s.Answers t r 0x11 .wrongState [] ∧ t.bit Ix.lifLifeCycleStatus 0 lcCmdRefused = true ∧
      t.rd Ix.lifLifeCycleState 0 = s.rd Ix.lifLifeCycleState 0) ∧
  (∀ (s : State), s.mgtUp = true → s.rd Ix.lifLifeCycleState 0 = 2 → s.sessions.any (fun y => y.level == 3) = false →
    ∃ t, exec .serviceIdleTimeout s = .next t ∧ t.rd Ix.lifLifeCycleState 0 = 1 ∧ t.bit Ix.lifLifeCycleStatus 0 lcServiceTimeout = true) ∧
  (∀ (s : State), s.sessions.any (fun y => y.level == 3) = true → exec .serviceIdleTimeout s = .next s) ∧
  (∀ (s : State) (r : Req) (x : Session), s.Grants r x Ix.bstFuseCommand 0 (pathNum r.path 1 1) → s.rd Ix.lifLifeCycleState 0 = 2 →
    s.rd Ix.sysPowerState 0 = 2 → s.bit Ix.lifLifeCycleStatus 0 lcFuseBusy = false →
    ∃ t, exec (.fuseCommand r) s = .next t ∧ s.Answers t r 0x11 .ok [] ∧ t.bit Ix.lifLifeCycleStatus 0 lcFuseBusy = true ∧
      t.bst.burning = s.fuseEntries ∧ t.bst.fused = s.bst.fused) ∧
  (∀ (s : State) (r : Req) (x : Session), s.Grants r x Ix.bstFuseCommand 0 (pathNum r.path 1 1) →
    s.rd Ix.lifLifeCycleState 0 ≠ 2 ∨ s.rd Ix.sysPowerState 0 ≠ 2 →
    ∃ t, exec (.fuseCommand r) s = .next t ∧ s.Answers t r 0x11 .wrongState [] ∧ t.bst = s.bst) ∧
  (∀ (s : State) (e : Octets), s.mgtUp = true → s.bit Ix.lifLifeCycleStatus 0 lcFuseBusy = true → s.bst.burning = [e] →
    1 ≤ s.rd Ix.bstFuseEntriesFree 0 →
    ∃ t, exec (.fuseComplete []) s = .next t ∧ t.bst.fused = s.bst.fused ++ [leBytes 1 2 ++ e.drop 1] ∧
      t.bst.soft = s.bst.soft.filter (fun y => y != e) ∧ t.rd Ix.bstFuseEntriesFree 0 = s.rd Ix.bstFuseEntriesFree 0 - 1 ∧
      t.bit Ix.lifLifeCycleStatus 0 lcFuseBusy = false) ∧
  (∀ (s : State) (e : Octets), s.mgtUp = true → s.bit Ix.lifLifeCycleStatus 0 lcFuseBusy = true → s.bst.burning = [e] →
    2 ≤ s.rd Ix.bstFuseEntriesFree 0 →
    ∃ t, exec (.fuseComplete [true]) s = .next t ∧ t.bit Ix.bstSelfTestStatus 0 btFuseFail = true ∧
      t.bst.fused = s.bst.fused ++ [leBytes 1 2 ++ e.drop 1] ∧ t.rd Ix.bstFuseEntriesFree 0 = s.rd Ix.bstFuseEntriesFree 0 - 2) ∧
  (∀ (s : State) (e : Octets), s.mgtUp = true → s.bit Ix.lifLifeCycleStatus 0 lcFuseBusy = true → s.bst.burning = [e] →
    s.rd Ix.bstFuseEntriesFree 0 = 0 →
    ∃ t, exec (.fuseComplete []) s = .next t ∧ t.bit Ix.bstSelfTestStatus 0 btRepairFull = true ∧ t.bst.fused = s.bst.fused ∧
      t.bst.soft = s.bst.soft)

/-- Self-test (R507 to R514): a round starts its first unit, slices run, retry, repair and fail, and test requests start and clear. Choices
of the model it meets: log 136, 139. -/
def Obligations.SelfTestRuns : Prop :=
  (∀ (s : State), s.on = true → s.fn .bst = .running → s.rd Ix.bstBISTEnable 0 = 1 → s.bst.round = false → s.bst.test = none →
    ofLe (s.rdo Ix.bstOnlineUnitMask 0) = 2 ^ 16 → s.spareIdle 16 = true → s.substituted 16 = false →
    ∃ t, exec .bistRound s = .next t ∧ t.bit Ix.bstSelfTestStatus 0 btRound = true ∧ t.bit Ix.bstSelfTestStatus 0 btSpareHeld = true ∧
      t.rd Ix.bstRoundState 0 = 3 ∧ t.rd Ix.bstUnitUnderTest 0 = 16 ∧ t.bst.test = some { unit := 16, step := .running } ∧
      t.rd Ix.bstSlicesRun 0 = (s.rd Ix.bstSlicesRun 0 + 1) % 2 ^ 64) ∧
  (∀ (s : State), s.bst.round = true → exec .bistRound s = .next s) ∧
  (∀ (s : State) (q : BstTest) (n : Nat), s.on = true → s.bst.test = some q → s.rd Ix.bstRoundState 0 = 3 → q.step = .idle →
    unitSlices q.unit = some n → q.passed < n → s.bst.stopping = false →
    ∃ t, exec .sliceStart s = .next t ∧ t.bst.test = some { q with step := .running } ∧
      t.rd Ix.bstSlicesRun 0 = (s.rd Ix.bstSlicesRun 0 + 1) % 2 ^ 64) ∧
  (∀ (s : State) (q : BstTest) (n : Nat), s.on = true → s.bst.test = some q → q.step = .running → q.spare = none →
    unitSlices q.unit = some n → q.passed + 1 < n → s.bst.stopping = false →
    ∃ t, exec (.sliceComplete .passed) s = .next t ∧ t.bst.test = some { q with passed := q.passed + 1, step := .idle } ∧ t.regs = s.regs) ∧
  (∀ (s : State) (q : BstTest) (n : Nat), s.on = true → s.bst.test = some q → q.step = .running → q.spare = none → q.offline = true →
    q.repaired = false → unitSlices q.unit = some n → q.passed + 1 = n → s.bst.round = false →
    ∃ t, exec (.sliceComplete .passed) s = .next t ∧ t.bst.test = none ∧ (t.bstUnit q.unit).outcome = 1 ∧ (t.bstUnit q.unit).passed = n ∧
      (t.bstUnit q.unit).time = s.stamp ∧ t.bst.failed = s.bst.failed.filter (fun u => u != q.unit) ∧
      t.rd Ix.bstUnitUnderTest 0 = 0xFFFF ∧ t.rd Ix.bstRoundState 0 = 0 ∧ t.bit Ix.bstSelfTestStatus 0 btRound = false ∧
      t.rd Ix.bstUnitsTested 0 = (s.rd Ix.bstUnitsTested 0 + 1) % 2 ^ 64) ∧
  (∀ (s : State) (q : BstTest) (ram place : Nat) (isRow : Bool), s.on = true → s.bst.test = some q → q.step = .running → s.bst.stopping = false →
    ∃ t, exec (.sliceComplete (.march ram isRow place)) s = .next t ∧ t.bst.test = some { q with step := .backOff } ∧
      t.bst.failed = s.bst.failed ∧ t.bst.soft = s.bst.soft ∧ t.regs = s.regs) ∧
  (∀ (s : State) (q : BstTest), s.on = true → s.bst.test = some q → q.step = .backOff →
    ∃ t, exec .sliceRetry s = .next t ∧ t.bst.test = some { q with step := .retry } ∧
      t.rd Ix.bstSlicesRun 0 = (s.rd Ix.bstSlicesRun 0 + 1) % 2 ^ 64) ∧
  (∀ (s : State) (q : BstTest) (n : Nat), s.on = true → s.bst.test = some q → q.step = .retry → q.spare = none →
    unitSlices q.unit = some n → q.passed + 1 < n → s.bst.stopping = false → s.bst.window = [] → 1 ≤ s.rd Ix.bstTransientLimit 0 →
    ∃ t, exec (.sliceComplete .passed) s = .next t ∧ t.bst.test = some { q with passed := q.passed + 1, step := .idle } ∧
      t.bit Ix.bstSelfTestStatus 0 btTransient = true ∧ (t.bstUnit q.unit).transients = (s.bstUnit q.unit).transients + 1 ∧
      t.rd Ix.bstTransientByClass 5 = (s.rd Ix.bstTransientByClass 5 + 1) % 2 ^ 64) ∧
  (∀ (s : State) (q : BstTest) (ram place : Nat) (isRow : Bool), s.on = true → s.bst.test = some q → q.step = .retry → s.bst.stopping = false →
    s.repairsOf q.unit ram (if isRow then 1 else 2) < unitSpares q.unit isRow →
    ∃ t, exec (.sliceComplete (.march ram isRow place)) s = .next t ∧ t.bst.test = some { q with step := .check } ∧
      t.bst.soft = s.bst.soft ++ [leBytes 1 1 ++ leBytes 1 (if isRow then 1 else 2) ++ leBytes 2 q.unit ++ leBytes 2 ram ++ leBytes 2 place] ∧
      t.rd Ix.bstLastingByClass 5 = (s.rd Ix.bstLastingByClass 5 + 1) % 2 ^ 64 ∧
      t.rd Ix.bstSlicesRun 0 = (s.rd Ix.bstSlicesRun 0 + 1) % 2 ^ 64) ∧
  (∀ (s : State) (q : BstTest) (ram : Nat), s.on = true → s.bst.test = some q → q.step = .retry → s.bst.round = false →
    ∃ t, exec (.sliceComplete (.other ram)) s = .next t ∧ t.bst.test = none ∧ t.bst.failed.contains q.unit = true ∧
      t.bit Ix.bstSelfTestStatus 0 btUnitFailed = true ∧ (t.bstUnit q.unit).outcome = 3 ∧ (t.bstUnit q.unit).ram = ram ∧
      t.rd Ix.bstLastingByClass 5 = (s.rd Ix.bstLastingByClass 5 + 1) % 2 ^ 64) ∧
  (∀ (s : State) (q : BstTest) (n : Nat), s.on = true → s.bst.test = some q → q.step = .check → q.spare = none →
    unitSlices q.unit = some n → q.passed + 1 < n → s.bst.stopping = false →
    ∃ t, exec (.sliceComplete .passed) s = .next t ∧
      t.bst.test = some { q with repaired := true, passed := q.passed + 1, step := .idle } ∧ t.bit Ix.bstSelfTestStatus 0 btRepaired = true) ∧
  (∀ (s : State) (r : Req) (x : Session) (unit : BitVec 16), s.Grants r x Ix.bstTestRequest 0 (leBytes 2 unit.toNat ++ leBytes 1 1 ++ zeros 1) →
    s.fn .bst = .running → (unitSlices unit.toNat).isSome = true → s.unitAtRest unit.toNat 1 = true → s.bst.round = false → s.bst.test = none →
    ∃ t, exec (.testUnit r unit) s = .next t ∧ s.Answers t r 0x11 .ok [] ∧
      t.bst.test = some { unit := unit.toNat, offline := true, step := .running } ∧ t.rd Ix.bstUnitUnderTest 0 = unit.toNat ∧
      t.bit Ix.bstSelfTestStatus 0 btRound = true ∧ t.rd Ix.bstSlicesRun 0 = (s.rd Ix.bstSlicesRun 0 + 1) % 2 ^ 64) ∧
  (∀ (s : State) (r : Req) (x : Session) (unit : BitVec 16), s.Grants r x Ix.bstTestRequest 0 (leBytes 2 unit.toNat ++ leBytes 1 1 ++ zeros 1) →
    s.fn .bst ≠ .running →
    ∃ t, exec (.testUnit r unit) s = .next t ∧ s.Answers t r 0x11 .wrongState [] ∧ t.bst = s.bst) ∧
  (∀ (s : State) (r : Req) (x : Session) (unit : BitVec 16), s.Grants r x Ix.bstTestRequest 0 (leBytes 2 unit.toNat ++ leBytes 1 2 ++ zeros 1) →
    s.fn .bst = .running → (unitSlices unit.toNat).isSome = true → s.unitAtRest unit.toNat 2 = true → s.bst.round = false → s.bst.test = none →
    ∃ t, exec (.clearFailed r unit) s = .next t ∧ s.Answers t r 0x11 .ok [] ∧ t.bst.failed = s.bst.failed.filter (fun u => u != unit.toNat)) ∧
  (∀ (s : State), s.on = true → s.fn .bst = .running → s.rd Ix.bstBISTEnable 0 = 1 → s.bst.round = false → s.bst.test = none →
    ∃ t, exec .bistRound s = .next t ∧ ((t.bst.test.isSome = true ∧ t.bst.round = true) ∨
      (t.bst.test = none ∧ t.bst.round = false ∧ t.bit Ix.bstSelfTestStatus 0 btRound = false)))

/-- The event recorder and the performance counters (R524 to R530, R533 to R535): a sample accumulates in every enabled recorder of its
source and in no other, a snapshot fills the readout bank and restarts the accumulators that clear, one that meets another is refused or
skipped, enabling a recorder clears it, and the counters freeze, run on and clear by command and by BAR2. Snapshots and freezes are taken in
every function state (DEDUCED, see the log). Choices of the model it meets: log 143, 144. -/
def Obligations.MonitorsCount : Prop :=
  (∀ (s : State) (code inst : BitVec 16) (y : Sample) (ys : List Sample) (i : Fin 128), s.clocked = true →
    s.mon.fifos = [((code.toNat, inst.toNat), y :: ys)] → s.rd Ix.monEnable (i.val + 1) = 1 →
    s.rd Ix.monSource (i.val + 1) = code.toNat + 65536 * inst.toNat →
    ∃ t, exec (.recorderSample code inst) s = .next t ∧
      t.mon.fifos = (if ys = [] then [] else [((code.toNat, inst.toNat), ys)]) ∧
      (t.accum i.val).count = (s.accum i.val).count + 1 ∧
      (t.accum i.val).sum = max (-2 ^ 63) (min (2 ^ 63 - 1) ((s.accum i.val).sum + y.value)) ∧
      (t.accum i.val).low = (if y.value < (s.accum i.val).low.1 then (y.value, y.own.getD (s.seenLp, s.stamp)) else (s.accum i.val).low) ∧
      (t.accum i.val).high = (if (s.accum i.val).high.1 < y.value then (y.value, y.own.getD (s.seenLp, s.stamp)) else (s.accum i.val).high) ∧
      (t.accum i.val).under = (if y.value < s.rdI Ix.monHistogramBase (i.val + 1) then min ((s.accum i.val).under + 1) (2 ^ 32 - 1)
        else (s.accum i.val).under) ∧
      (∀ k : Fin 64, storeGet 0 (t.accum i.val).bins k.val =
        if s.rdI Ix.monHistogramBase (i.val + 1) ≤ y.value ∧
            (y.value - s.rdI Ix.monHistogramBase (i.val + 1)) / 2 ^ s.rd Ix.monHistogramShift (i.val + 1) = k.val then
          min (storeGet 0 (s.accum i.val).bins k.val + 1) (2 ^ 32 - 1)
        else storeGet 0 (s.accum i.val).bins k.val) ∧
      (t.accum i.val).dropped = (s.accum i.val).dropped ∧ t.regs = s.regs) ∧
  (∀ (s : State) (code inst : BitVec 16) (i : Fin 128), s.clocked = true → s.rd Ix.monEnable (i.val + 1) ≠ 1 ∨
      s.rd Ix.monSource (i.val + 1) ≠ code.toNat + 65536 * inst.toNat →
    ∃ t, exec (.recorderSample code inst) s = .next t ∧ t.accum i.val = s.accum i.val) ∧
  (∀ (s : State) (r : Req) (x : Session), s.Grants r x Ix.monSnapshotCommand 0 (pathNum r.path 1 1) → s.snapshotting = false →
    ∃ t, exec (.snapshotCommand r) s = .next t ∧ s.Answers t r 0x11 .ok [] ∧
      t.rd Ix.monSnapshotSequence 0 = (s.rd Ix.monSnapshotSequence 0 + 1) % 2 ^ 32 ∧ t.rd Ix.monSnapshotTime 0 = s.stamp ∧
      t.snapshotting = true ∧
      (∀ i : Fin 128, t.bankWindow i.val = s.windowOf ((s.rd Ix.monSnapshotSequence 0 + 1) % 2 ^ 32) i.val ∧
        t.accum i.val = if s.bit Ix.monRecorderMode (i.val + 1) 0 then {} else s.accum i.val)) ∧
  (∀ (s : State) (r : Req) (x : Session), s.Grants r x Ix.monSnapshotCommand 0 (pathNum r.path 1 1) → s.snapshotting = true →
    ∃ t, exec (.snapshotCommand r) s = .next t ∧ s.Answers t r 0x11 .busy [] ∧ t.mon = s.mon ∧
      t.rd Ix.monSnapshotSequence 0 = s.rd Ix.monSnapshotSequence 0) ∧
  (∀ (s : State), s.clocked = true → s.rd Ix.monSnapshotInterval 0 ≠ 0 → s.snapshotting = false →
    ∃ t, exec .snapshotInterval s = .next t ∧ t.rd Ix.monSnapshotSequence 0 = (s.rd Ix.monSnapshotSequence 0 + 1) % 2 ^ 32 ∧
      t.rd Ix.monSnapshotTime 0 = s.stamp ∧ t.snapshotting = true ∧
      (∀ i : Fin 128, t.bankWindow i.val = s.windowOf ((s.rd Ix.monSnapshotSequence 0 + 1) % 2 ^ 32) i.val)) ∧
  (∀ (s : State), s.clocked = true → s.rd Ix.monSnapshotInterval 0 ≠ 0 → s.snapshotting = true →
    ∃ t, exec .snapshotInterval s = .next t ∧ t.rd Ix.monSnapshotsSkipped 0 = min (s.rd Ix.monSnapshotsSkipped 0 + 1) (2 ^ 32 - 1) ∧
      t.bit Ix.monRecorderStatus 0 rcSkipped = true ∧ t.mon = s.mon ∧ t.rd Ix.monSnapshotSequence 0 = s.rd Ix.monSnapshotSequence 0) ∧
  (∀ (s : State), s.clocked = true → s.snapshotting = true →
    ∃ t, exec .snapshotComplete s = .next t ∧ t.snapshotting = false ∧ t.mon.exports = [] ∧ t.mon.bank = s.mon.bank) ∧
  (∀ (s : State) (r : Req) (x : Session) (i : Fin 128), s.Grants r x Ix.monEnable (i.val + 1) (pathNum r.path 1 1) →
    s.rd Ix.monEnable (i.val + 1) = 0 →
    ∃ t, exec (.recorderEnable r i 1) s = .next t ∧ s.Answers t r 0x11 .ok [] ∧ t.rd Ix.monEnable (i.val + 1) = 1 ∧ t.accum i.val = {}) ∧
  (∀ (s : State) (r : Req) (x : Session) (i : Fin 128), s.Grants r x Ix.monEnable (i.val + 1) (pathNum r.path 1 0) →
    ∃ t, exec (.recorderEnable r i 0) s = .next t ∧ s.Answers t r 0x11 .ok [] ∧ t.rd Ix.monEnable (i.val + 1) = 0 ∧
      t.mon.live = s.mon.live) ∧
  (∀ (s : State) (r : Req) (x : Session), s.Grants r x Ix.pmcFreezeCommand 0 (pathNum r.path 1 1) → s.rd Ix.pmcFreezeExport 0 = 0 →
    ∃ t, exec (.freezeCommand r) s = .next t ∧ s.Answers t r 0x11 .ok [] ∧ t.frozen = true ∧
      t.rd Ix.pmcFreezeGeneration 0 = (if s.frozen then s.rd Ix.pmcFreezeGeneration 0 else (s.rd Ix.pmcFreezeGeneration 0 + 1) % 2 ^ 32) ∧
      t.counterOctets = s.counterOctets) ∧
  (∀ (s : State) (r : Req) (x : Session), s.Grants r x Ix.pmcFreezeCommand 0 (pathNum r.path 1 2) →
    ∃ t, exec (.freezeRelease r) s = .next t ∧ s.Answers t r 0x11 .ok [] ∧ t.frozen = false ∧
      t.rd Ix.pmcFreezeGeneration 0 = s.rd Ix.pmcFreezeGeneration 0 ∧ t.counterOctets = s.counterOctets) ∧
  (∀ (s : State), s.on = true → s.pcie.linkUp = true → s.rd Ix.pmcUserControlEnable 0 = 1 → s.rd Ix.pmcFreezeExport 0 = 0 → s.frozen = false →
    ∃ t, exec .userFreeze s = .next t ∧ t.frozen = true ∧ t.rd Ix.pmcFreezeGeneration 0 = (s.rd Ix.pmcFreezeGeneration 0 + 1) % 2 ^ 32 ∧
      t.counterOctets = s.counterOctets ∧ t.out = s.out) ∧
  (∀ (s : State), s.on = true → s.pcie.linkUp = true → s.rd Ix.pmcUserControlEnable 0 = 1 →
    ∃ t, exec .userRelease s = .next t ∧ t.frozen = false ∧ t.rd Ix.pmcFreezeGeneration 0 = s.rd Ix.pmcFreezeGeneration 0 ∧
      t.counterOctets = s.counterOctets) ∧
  (∀ (s : State), s.on = true → s.pcie.linkUp = true → s.rd Ix.pmcUserControlEnable 0 = 1 →
    ∃ t, exec .userClear s = .next t ∧ t.rd Ix.pmcCycleCounter 0 = 0 ∧ (∀ k : Fin 8, t.rd Ix.pmcCounter (k.val + 1) = 0) ∧
      t.frozen = s.frozen) ∧
  (∀ (s : State), s.rd Ix.pmcUserControlEnable 0 = 0 →
    exec .userFreeze s = .next s ∧ exec .userRelease s = .next s ∧ exec .userClear s = .next s) ∧
  (∀ (s : State) (r : Req) (x : Session) (mask : BitVec 16), s.Grants r x Ix.pmcClear 0 (pathNum r.path 2 mask.toNat) → mask.toNat < 512 →
    ∃ t, exec (.counterClear r mask) s = .next t ∧ s.Answers t r 0x11 .ok [] ∧
      (∀ k : Fin 8, t.rd Ix.pmcCounter (k.val + 1) = if mask.toNat.testBit k.val then 0 else s.rd Ix.pmcCounter (k.val + 1)) ∧
      t.rd Ix.pmcCycleCounter 0 = if mask.toNat.testBit 8 then 0 else s.rd Ix.pmcCycleCounter 0)

/-- The power states (R541 to R544): each command from a state the table gives, its refusals, the end of a transition, and the thermal trip.
Choices of the model it meets: log 16, 145, 146. -/
def Obligations.PowerMoves : Prop :=
  (∀ (s : State) (r : Req) (x : Session) (levels : BitVec 8), s.Grants r x Ix.sysPowerCommand 0 (pathNum r.path 1 2) →
    s.rd Ix.sysPowerState 0 = 1 ∨ ((s.rd Ix.sysPowerState 0 = 3 ∨ s.rd Ix.sysPowerState 0 = 4) ∧ s.quiet = true) →
    s.bit Ix.sysPowerStatus 0 pwTransitioning = false →
    ∃ t, exec (.ready r levels) s = .next t ∧ s.Answers t r 0x11 .ok [] ∧ t.rd Ix.sysPowerState 0 = 2 ∧
      t.bit Ix.sysPowerStatus 0 pwTransitioning = true ∧ t.rd Ix.sysClockMargin 0 = 0 ∧ t.dram = [] ∧
      t.dmc.map = (dmcAll.filter (fun n => (s.dmc.sockets[n]).isSome)).map (fun n => n.val) ∧ t.power.sweepDue = true) ∧
  (∀ (s : State) (r : Req) (x : Session) (levels : BitVec 8), s.Grants r x Ix.sysPowerCommand 0 (pathNum r.path 1 2) →
    s.rd Ix.sysPowerState 0 = 2 ∨ s.quiet = false → s.rd Ix.sysPowerState 0 ≠ 1 →
    ∃ t, exec (.ready r levels) s = .next t ∧ s.Answers t r 0x11 .wrongState [] ∧ t.rd Ix.sysPowerState 0 = s.rd Ix.sysPowerState 0 ∧
      t.dram = s.dram ∧ t.power = s.power) ∧
  (∀ (s : State) (r : Req) (x : Session), s.Grants r x Ix.sysPowerCommand 0 (pathNum r.path 1 3) → s.rd Ix.sysPowerState 0 = 2 →
    s.bit Ix.sysPowerStatus 0 pwTransitioning = false →
    ∃ t, exec (.run r) s = .next t ∧ s.Answers t r 0x11 .ok [] ∧ t.rd Ix.sysPowerState 0 = 3 ∧
      t.bit Ix.sysPowerStatus 0 pwTransitioning = true) ∧
  (∀ (s : State) (r : Req) (x : Session), s.Grants r x Ix.sysPowerCommand 0 (pathNum r.path 1 4) → s.rd Ix.sysPowerState 0 = 2 →
    s.bit Ix.sysPowerStatus 0 pwTransitioning = false →
    ∃ t, exec (.service r) s = .next t ∧ s.Answers t r 0x11 .ok [] ∧ t.rd Ix.sysPowerState 0 = 4 ∧
      t.bit Ix.sysPowerStatus 0 pwTransitioning = true) ∧
  (∀ (s : State) (r : Req) (x : Session), s.Grants r x Ix.sysPowerCommand 0 (pathNum r.path 1 3) → s.rd Ix.sysPowerState 0 ≠ 2 →
    ∃ t, exec (.run r) s = .next t ∧ s.Answers t r 0x11 .wrongState [] ∧ t.rd Ix.sysPowerState 0 = s.rd Ix.sysPowerState 0 ∧
      t.power = s.power) ∧
  (∀ (s : State) (r : Req) (x : Session), s.Grants r x Ix.sysPowerCommand 0 (pathNum r.path 1 3) → s.rd Ix.sysPowerState 0 = 2 →
    s.bit Ix.sysPowerStatus 0 pwTransitioning = true →
    ∃ t, exec (.run r) s = .next t ∧ s.Answers t r 0x11 .busy [] ∧ t.rd Ix.sysPowerState 0 = 2 ∧ t.power = s.power) ∧
  (∀ (s : State) (r : Req) (x : Session), s.Grants r x Ix.sysPowerCommand 0 (pathNum r.path 1 1) → s.rd Ix.sysPowerState 0 = 2 → s.AtRest →
    s.bit Ix.sysPowerStatus 0 pwTransitioning = false →
    ∃ t, exec (.standby r) s = .next t ∧ s.Answers t r 0x11 .ok [] ∧ t.rd Ix.sysPowerState 0 = 1 ∧
      (∀ n : Fin 2, t.fn (.fnp n) = .stopped ∨ t.fn (.fnp n) = .faulted) ∧
      t.sessions.all (fun y => !Path.bigEndian y.path) = true) ∧
  (∀ (s : State) (r : Req) (x : Session), s.Grants r x Ix.sysPowerCommand 0 (pathNum r.path 1 5) → s.rd Ix.sysPowerState 0 = 1 →
    s.bit Ix.sysPowerStatus 0 pwTransitioning = false →
    ∃ t, exec (.off r) s = .next t ∧ s.Answers t r 0x11 .ok [] ∧ t.on = false ∧ t.power.offCommand = true) ∧
  (∀ (s : State) (r : Req) (x : Session), s.Grants r x Ix.sysPowerCommand 0 (pathNum r.path 1 6) →
    s.bit Ix.sysPowerStatus 0 pwTransitioning = false →
    ∃ t, exec (.reset r) s = .next t ∧ s.Answers t r 0x11 .ok [] ∧ t.rd Ix.sysLastResetCause 0 = 3 ∧ t.rd Ix.sysPowerState 0 = 1 ∧
      t.on = true ∧ t.sessions = [] ∧ t.dram = []) ∧
  (∀ (s : State) (micros : Nat), s.on = true → s.bit Ix.sysPowerStatus 0 pwTransitioning = true →
    ∃ t, exec (.transitionComplete micros) s = .next t ∧ t.bit Ix.sysPowerStatus 0 pwTransitioning = false ∧
      t.rd Ix.sysTransitionTime 0 = min micros (2 ^ 32 - 1) ∧ t.rd Ix.sysPowerState 0 = s.rd Ix.sysPowerState 0) ∧
  (∀ (s : State), s.on = true →
    ∃ t, exec .thermalTrip s = .next t ∧ t.on = false ∧ t.power.thermTrip = true ∧ t.power.fail = none ∧ t.out = s.out ∧
      t.queues = s.queues ∧ t.regs = s.regs)

/-- Resets, the boot and restarts of the management cores (R545, R546, R550, R552, R557). Choices of the model it meets: log 147, 148, 152.
-/
def Obligations.ResetsAndRestarts : Prop :=
  (∀ (s : State), ∃ t, exec .powerOn s = .next t ∧ t.rd Ix.sysLastResetCause 0 = 1 ∧ t.rd Ix.sysPowerState 0 = 1 ∧ t.on = true ∧
    t.sessions = [] ∧ t.dram = [] ∧ t.out = s.out ∧ t.bst.fused = s.bst.fused ∧ t.bst.soft = [] ∧ t.cal.factory = s.cal.factory ∧
    t.rd Ix.lifLifeCycleState 0 = (if s.rd Ix.lifLifeCycleState 0 = 2 then 1 else s.rd Ix.lifLifeCycleState 0)) ∧
  (∀ (s : State), ∃ t, exec .porstN s = .next t ∧
    t.rd Ix.sysLastResetCause 0 = (if s.power.thermTrip then 4 else if s.power.offCommand then 5 else 2) ∧ t.rd Ix.sysPowerState 0 = 1 ∧
    t.on = true ∧ t.sessions = [] ∧ t.power.thermTrip = false) ∧
  (∀ (s : State), s.flash.slotState s.flash.preferred = 2 →
    ∃ t, exec .porstN s = .next t ∧ t.bit Ix.sysPowerStatus 0 pwBootFallback = true ∧
      (t.rd Ix.updRunningSlot 0 = otherSlot s.flash.preferred ∨ t.bit Ix.sysPowerStatus 0 pwRecovery = true)) ∧
  (∀ (s : State), s.on = true → s.AtRest →
    ∃ t, exec .perstN s = .next t ∧ t.pcie.linkUp = false ∧ t.pcie.busMaster = false ∧ t.rd Ix.dlvLinkSpeed 0 = 0 ∧
      t.rd Ix.dlvLinkWidth 0 = 0 ∧ t.sessions.all (fun y => decide (y.id < 64 ∨ 67 < y.id)) = true ∧
      (s.fn .pcie = .running → t.fn .pcie = .faulted)) ∧
  (∀ (s : State) (levels : BitVec 8), s.mgtUp = true → s.power.bootDue = true → s.rd Ix.sysPowerState 0 = 1 → s.rd Ix.sysBootTarget 0 = 2 →
    s.bit Ix.sysPowerStatus 0 pwRecovery = false →
    ∃ t, exec (.bootTargetReady levels) s = .next t ∧ t.rd Ix.sysPowerState 0 = 2 ∧ t.bit Ix.sysPowerStatus 0 pwTransitioning = true ∧
      t.power.bootDue = false) ∧
  (∀ (s : State) (levels : BitVec 8), s.rd Ix.sysBootTarget 0 = 1 ∨ s.power.bootDue = false → exec (.bootTargetReady levels) s = .next s) ∧
  (∀ (s : State), s.mgtUp = true → s.rd Ix.updUpdateState 0 ≠ 4 →
    ∃ t, exec .watchdog s = .next t ∧ t.sessions = [] ∧ t.power.restarting = true ∧ t.rd Ix.sysLastRestartCause 0 = 1 ∧
      t.rd Ix.sysMGTRestarts 0 = min (s.rd Ix.sysMGTRestarts 0 + 1) (2 ^ 32 - 1) ∧
      allFns.all (fun f => decide (t.fn f = s.fn f)) = true) ∧
  (∀ (s : State), s.mgtUp = true → s.rd Ix.updUpdateState 0 = 4 → s.power.watchdogs = 0 →
    ∃ t, exec .watchdog s = .next t ∧ t.power.restarting = true ∧ t.power.restartKind = 0 ∧ t.power.watchdogs = 1 ∧
      t.rd Ix.updUpdateState 0 = 4 ∧ t.flash = s.flash ∧ t.rd Ix.sysLastRestartCause 0 = 1) ∧
  (∀ (s : State), s.mgtUp = true → s.rd Ix.updUpdateState 0 = 4 → s.power.watchdogs = 1 →
    ∃ t, exec .watchdog s = .next t ∧ t.sessions = [] ∧ t.power.restarting = true ∧ t.power.restartKind = 2 ∧
      t.rd Ix.sysLastRestartCause 0 = 3 ∧ t.bit Ix.sysPowerStatus 0 pwTrialReverted = true ∧
      t.flash = (s.flash.mark (s.rd Ix.updRunningSlot 0) 4).prefer (otherSlot (s.rd Ix.updRunningSlot 0))) ∧
  (∀ (s : State) (millis : Nat), s.on = true → s.power.restarting = true → s.power.restartKind = 0 →
    ∃ t, exec (.mgtRestartComplete millis) s = .next t ∧ t.mgtUp = true ∧ t.rd Ix.updActivationTime 0 = min millis (2 ^ 32 - 1) ∧
      t.rd Ix.updRunningSlot 0 = s.rd Ix.updRunningSlot 0 ∧ t.rd Ix.updUpdateState 0 = s.rd Ix.updUpdateState 0 ∧
      t.power.watchdogs = s.power.watchdogs ∧ t.flash = s.flash) ∧
  (∀ (s : State) (millis k : Nat), s.on = true → s.power.restarting = true → s.power.restartKind = k → k = 1 ∨ k = 2 →
    ∃ t, exec (.mgtRestartComplete millis) s = .next t ∧ t.mgtUp = true ∧ t.rd Ix.updActivationTime 0 = min millis (2 ^ 32 - 1) ∧
      t.rd Ix.updRunningSlot 0 = otherSlot (s.rd Ix.updRunningSlot 0) ∧ t.rd Ix.updUpdateState 0 = if k = 1 then 4 else 0)

/-- Updates (R554 to R556), the power-fail warning (R558, R559, R562), and the monitor poll (R590). Choices of the model it meets: log 149,
151. -/
def Obligations.UpdatesWarningsPolls : Prop :=
  (∀ (s : State) (r : Req) (x : Session), s.Grants r x Ix.updUpdateCommand 0 (pathNum r.path 1 1) → s.rd Ix.updUpdateState 0 = 2 →
    s.activationBusy = false → s.bit Ix.sysPowerStatus 0 pwRecovery = false →
    ∃ t, exec (.activate r) s = .next t ∧ s.Answers t r 0x11 .ok [] ∧ t.rd Ix.updUpdateState 0 = 3 ∧ t.power.restarting = true ∧
      t.power.restartKind = 1 ∧ t.rd Ix.sysLastRestartCause 0 = 2 ∧ t.sessions = [] ∧
      t.flash = (s.flash.mark (otherSlot (s.rd Ix.updRunningSlot 0)) 2).prefer (otherSlot (s.rd Ix.updRunningSlot 0))) ∧
  (∀ (s : State) (r : Req) (x : Session), s.Grants r x Ix.updUpdateCommand 0 (pathNum r.path 1 1) → s.rd Ix.updUpdateState 0 = 2 →
    s.activationBusy = true → s.bit Ix.sysPowerStatus 0 pwRecovery = false →
    ∃ t, exec (.activate r) s = .next t ∧ s.Answers t r 0x11 .busy [] ∧ t.flash = s.flash ∧ t.power = s.power) ∧
  (∀ (s : State) (r : Req) (x : Session), s.Grants r x Ix.updUpdateCommand 0 (pathNum r.path 1 1) → s.rd Ix.updUpdateState 0 ≠ 2 →
    s.bit Ix.sysPowerStatus 0 pwRecovery = false →
    ∃ t, exec (.activate r) s = .next t ∧ s.Answers t r 0x11 .wrongState [] ∧ t.flash = s.flash ∧ t.power = s.power) ∧
  (∀ (s : State) (r : Req) (x : Session), s.Grants r x Ix.updUpdateCommand 0 (pathNum r.path 1 2) → s.rd Ix.updUpdateState 0 = 4 →
    ∃ t, exec (.commit r) s = .next t ∧ s.Answers t r 0x11 .ok [] ∧ t.rd Ix.updUpdateState 0 = 0 ∧
      t.flash = s.flash.mark (s.rd Ix.updRunningSlot 0) 3) ∧
  (∀ (s : State) (r : Req) (x : Session), s.Grants r x Ix.updUpdateCommand 0 (pathNum r.path 1 2) → s.rd Ix.updUpdateState 0 ≠ 4 →
    ∃ t, exec (.commit r) s = .next t ∧ s.Answers t r 0x11 .wrongState [] ∧ t.flash = s.flash) ∧
  (∀ (s : State) (r : Req) (x : Session), s.Grants r x Ix.updUpdateCommand 0 (pathNum r.path 1 3) → s.rd Ix.updUpdateState 0 = 4 →
    ∃ t, exec (.revert r) s = .next t ∧ s.Answers t r 0x11 .ok [] ∧ t.power.restarting = true ∧ t.power.restartKind = 2 ∧
      t.rd Ix.sysLastRestartCause 0 = 3 ∧
      t.flash = (s.flash.mark (s.rd Ix.updRunningSlot 0) 4).prefer (otherSlot (s.rd Ix.updRunningSlot 0))) ∧
  (∀ (s : State) (r : Req) (x : Session), s.Grants r x Ix.updRaiseSecurityVersion 0 (pathNum r.path 1 1) → s.rd Ix.lifLifeCycleState 0 = 2 →
    s.rd Ix.sysPowerState 0 = 2 → s.flash.slotState (s.rd Ix.updRunningSlot 0) = 3 → s.bit Ix.lifLifeCycleStatus 0 lcFuseBusy = false →
    ∃ t, exec (.raiseSecurityVersion r 1) s = .next t ∧ s.Answers t r 0x11 .ok [] ∧
      t.rd Ix.updMinimumSecurityVersion 0 =
        max (s.rd Ix.updMinimumSecurityVersion 0) (octAt (s.flash.image (s.rd Ix.updRunningSlot 0)) 0x10)) ∧
  (∀ (s : State) (r : Req) (x : Session), s.Grants r x Ix.updRaiseSecurityVersion 0 (pathNum r.path 1 1) →
    s.rd Ix.lifLifeCycleState 0 ≠ 2 ∨ s.rd Ix.sysPowerState 0 ≠ 2 →
    ∃ t, exec (.raiseSecurityVersion r 1) s = .next t ∧ s.Answers t r 0x11 .wrongState [] ∧
      t.rd Ix.updMinimumSecurityVersion 0 = s.rd Ix.updMinimumSecurityVersion 0) ∧
  (∀ (s : State), s.operating = true → s.rd Ix.sysPowerFailEnable 0 = 1 → s.power.fail = none →
    ∃ t, exec .pwrfailWarning s = .next t ∧
      (t.power.fail.map (fun p => (p.lp, p.time, p.before))) = some (s.lastLabelled, s.stamp, s.cqDelivered)) ∧
  (∀ (s : State), s.clocked = true → s.operating = false ∨ s.rd Ix.sysPowerFailEnable 0 = 0 →
    ∃ t, exec .pwrfailWarning s = .next t ∧ t.bit Ix.sysPowerStatus 0 pwFailSeen = true ∧ t.bit Ix.sysPowerStatus 0 pwFailLive = true ∧
      t.power.fail = s.power.fail ∧ allFns.all (fun f => decide (t.fn f = s.fn f)) = true) ∧
  (∀ (s : State) (p : PowerFail) (duration : Nat), s.on = true → s.power.fail = some p →
    ∃ t, exec (.pwrfailComplete duration) s = .next t ∧ t.power.fail = none ∧
      (t.rdo Ix.sysPowerFailRecord 0).take 20 = leBytes 8 p.lp ++ leBytes 8 p.time ++ leBytes 4 p.crumbs ∧
      ((t.rdo Ix.sysPowerFailRecord 0).drop 24).take 4 = leBytes 4 (min duration (2 ^ 32 - 1))) ∧
  (∀ (s : State) (duration : Nat), s.power.fail = none → exec (.pwrfailComplete duration) s = .next s) ∧
  (∀ (s : State), ∃ t, exec .pwrfailRelease s = .next t ∧ t.bit Ix.sysPowerStatus 0 pwFailLive = false ∧
    t.bit Ix.sysPowerStatus 0 pwFailSeen = s.bit Ix.sysPowerStatus 0 pwFailSeen ∧ t.power.fail = s.power.fail) ∧
  (∀ (s : State) (temps : Vector (Option Int) 8) (supplies : Vector (BitVec 16) 8) (current : BitVec 16) (k : Fin 8), s.mgtUp = true →
    ∃ t, exec (.monitorPoll temps supplies current) s = .next t ∧ t.rd Ix.envSupplyVoltage (k.val + 1) = (supplies[k]).toNat ∧
      t.rd Ix.envCoreCurrent 0 = current.toNat ∧ t.rd Ix.sysPowerState 0 = s.rd Ix.sysPowerState 0 ∧
      (temps[k] = none → t.rd Ix.envDieTemperature (k.val + 1) = 0x7FFF ∧ t.bit Ix.envMonitorStatus 0 6 = true) ∧
      (∀ v, temps[k] = some v → s.rdI Ix.envTemperatureWarning 0 ≤ v →
        t.bit Ix.envMonitorStatus 0 0 = true ∧ t.bit Ix.envMonitorStatus 0 1 = true))

/-- Frames of the commands that keep house (calibration, life cycle, self-test, monitors, power): beside the parts named, nothing of the
state changes, and of the dictionary's scalars only the objects named. Choices of the model it meets: log 8. -/
def Obligations.HousekeepingFrames : Prop :=
  (∀ (s : State) (micros : Nat), s.on = true →
    ∃ t, exec (.transitionComplete micros) s = .next t ∧ t = { s with regs := t.regs } ∧
      ∀ ix sub, key ix sub ≠ key Ix.sysPowerStatus 0 → key ix sub ≠ key Ix.sysTransitionTime 0 → t.rd ix sub = s.rd ix sub) ∧
  (∀ (s : State), ∃ t, exec .pwrfailRelease s = .next t ∧ t = { s with regs := t.regs, power := { s.power with failPin := false } } ∧
    ∀ ix sub, key ix sub ≠ key Ix.sysPowerStatus 0 → t.rd ix sub = s.rd ix sub) ∧
  (∀ (s : State), ∃ t, exec .thermalTrip s = .next t ∧ t = { s with power := t.power }) ∧
  (∀ (s : State), s.sessions.any (fun y => y.level == 3) = false →
    ∃ t, exec .serviceIdleTimeout s = .next t ∧ t = { s with regs := t.regs } ∧
      ∀ ix sub, key ix sub ≠ key Ix.lifLifeCycleState 0 → key ix sub ≠ key Ix.lifLifeCycleStatus 0 → t.rd ix sub = s.rd ix sub) ∧
  (∀ (s : State), ∃ t, exec .sliceStart s = .next t ∧ t = { s with regs := t.regs, bst := { s.bst with test := t.bst.test } } ∧
    ∀ ix sub, key ix sub ≠ key Ix.bstSlicesRun 0 → t.rd ix sub = s.rd ix sub) ∧
  (∀ (s : State), ∃ t, exec .sliceRetry s = .next t ∧ t = { s with regs := t.regs, bst := { s.bst with test := t.bst.test } } ∧
    ∀ ix sub, key ix sub ≠ key Ix.bstSlicesRun 0 → t.rd ix sub = s.rd ix sub) ∧
  (∀ (s : State) (fails : List Bool),
    ∃ t, exec (.fuseComplete fails) s = .next t ∧
      t = { s with regs := t.regs, bst := { s.bst with burning := t.bst.burning, fused := t.bst.fused, soft := t.bst.soft } } ∧
      ∀ ix sub, key ix sub ≠ key Ix.bstFuseEntriesFree 0 → key ix sub ≠ key Ix.bstSelfTestStatus 0 → key ix sub ≠ key Ix.lifLifeCycleStatus 0 →
        t.rd ix sub = s.rd ix sub) ∧
  (∀ (s : State), ∃ t, exec .dueCheck s = .next t ∧ t = { s with regs := t.regs } ∧
    ∀ ix sub, key ix sub ≠ key Ix.calCalibrationStatus 0 → t.rd ix sub = s.rd ix sub) ∧
  (∀ (s : State) (lanes : List (Nat × Int)) (encoders : List (Nat × List (Option Int))),
    ∃ t, exec (.interfaceInterval lanes encoders) s = .next t ∧ t = { s with regs := t.regs, octs := t.octs, cal := t.cal } ∧
      t.cal.run = s.cal.run ∧ t.cal.imp = s.cal.imp ∧ t.cal.image = s.cal.image ∧ t.cal.geo = s.cal.geo ∧ t.cal.factory = s.cal.factory) ∧
  (∀ (s : State), s.rd Ix.pmcFreezeExport 0 = 0 →
    ∃ t, exec .userFreeze s = .next t ∧ t = { s with regs := t.regs } ∧
      ∀ ix sub, key ix sub ≠ key Ix.pmcPMCStatus 0 → key ix sub ≠ key Ix.pmcFreezeGeneration 0 → t.rd ix sub = s.rd ix sub) ∧
  (∀ (s : State), ∃ t, exec .userRelease s = .next t ∧ t = { s with regs := t.regs } ∧
    ∀ ix sub, key ix sub ≠ key Ix.pmcPMCStatus 0 → t.rd ix sub = s.rd ix sub) ∧
  (∀ (s : State), ∃ t, exec .userClear s = .next t ∧ t = { s with regs := t.regs } ∧
    ∀ ix sub, key ix sub ≠ key Ix.pmcCycleCounter 0 → (∀ k : Fin 8, key ix sub ≠ key Ix.pmcCounter (k.val + 1)) → t.rd ix sub = s.rd ix sub) ∧
  (∀ (s : State) (code inst : BitVec 16), ∃ t, exec (.recorderSample code inst) s = .next t ∧ t = { s with mon := t.mon } ∧
    t.mon.bank = s.mon.bank ∧ t.mon.exports = s.mon.exports) ∧
  (∀ (s : State), ∃ t, exec .snapshotInterval s = .next t ∧
    t = { s with regs := t.regs, mon := { s.mon with live := t.mon.live, bank := t.mon.bank, exports := t.mon.exports } } ∧
    ∀ ix sub, key ix sub ≠ key Ix.monSnapshotSequence 0 → key ix sub ≠ key Ix.monSnapshotTime 0 → key ix sub ≠ key Ix.monRecorderStatus 0 →
      key ix sub ≠ key Ix.monSnapshotsSkipped 0 → t.rd ix sub = s.rd ix sub) ∧
  (∀ (s : State) (temps : Vector (Option Int) 8) (supplies : Vector (BitVec 16) 8) (current : BitVec 16),
    ∃ t, exec (.monitorPoll temps supplies current) s = .next t ∧ t = { s with regs := t.regs, mon := t.mon } ∧ t.mon.bank = s.mon.bank ∧
      allFns.all (fun f => decide (t.fn f = s.fn f)) = true)

/-- What every step keeps, whatever the command: no command puts another into the queue, what has left the pins, the host and the network
stays said, entries of the fuse bank are only added, and free values are used once each. And every command answers a next state, whatever
the state, but for the five whose operands can be none that the state allows: the octets of a retried read, of a copy, of a master image,
and requests for DRAM. Choices of the model it meets: log 6. -/
def Obligations.StepsOnlyAdd : Prop :=
  (∀ s t : State, step s = .next t →
    t.pending = s.pending.tail ∧ s.out <+: t.out ∧ s.bst.fused <+: t.bst.fused ∧ s.free ≤ t.free) ∧
  (∀ (s : State) (c : Instr), (match c with
      | .fetchRetry n data ok => s.retryFits n data ok
      | .descriptorComplete n data ok => s.copyFits n data ok
      | .masterLoadComplete image dmaError => s.imageFits image dmaError
      | .dramAccess arrivals _ _ => arrivals.all requestOk
      | .rdimmAlert _ request _ => requestOk request
      | _ => true) = true →
    ∃ t, exec c s = .next t ∧ t.pending = s.pending ∧ s.out <+: t.out ∧ s.bst.fused <+: t.bst.fused ∧ s.free ≤ t.free)

/-- Every step keeps every store in its canonical form (R385, R423, R426): keys rise, no entry equals what an unlisted key reads as, every
scalar fits its object's width. -/
def Obligations.StoresStayCanonical : Prop :=
  ∀ s t : State, s.StoresOk → step s = .next t → t.StoresOk

/-- At reset every store is in its canonical form. -/
def Obligations.ResetStoresCanonical : Prop := State.reset.StoresOk

/-- What reset leaves, as the object tables say: the values of 52 objects, every function Stopped, Standby, no session, no queue, no fuse.
Choices of the model it meets: log 9. -/
def Obligations.ResetValues : Prop :=
  (∀ y ∈ [
    (Ix.wpuLinePitch, 0, 2), (Ix.wpuLinePitch, 1, 4294967296), (Ix.wpuLinePitch, 2, 42333333),
     (Ix.pscNextForwardTarget, 0, 18446744073709551615), (Ix.pscPulseWidth, 48, 200), (Ix.pscPulseLength, 48, 65536),
     (Ix.cptStripLength, 0, 4096), (Ix.cptLaneCount, 32, 2), (Ix.cptLinkRateLimit, 32, 7), (Ix.iplSpareTarget, 0, 255),
     (Ix.iplSpareServing, 0, 255), (Ix.iplStageEnable, 32, 255), (Ix.stxBlendWidth, 0, 16), (Ix.stxLineWait, 0, 8),
     (Ix.stxGeometricRampLength, 0, 4096), (Ix.mreMarkWindow, 0, 4194304), (Ix.mreFlywheelLimit, 0, 2),
     (Ix.mreFreeRunStartLP, 0, 281474976710656), (Ix.cdeHostSliceSize, 0, 65536), (Ix.cdeMatchCandidates, 0, 16),
     (Ix.segLowThreshold, 0, 512), (Ix.segHighThreshold, 0, 1024), (Ix.segPolarity, 0, 3), (Ix.clsStreakClass, 0, 15),
     (Ix.clsSummaryCrumbsEnable, 0, 31), (Ix.clsLedgerCellWidth, 0, 64), (Ix.pfcColumnExcludeMask, 0, 5), (Ix.pfcPhaseDelay, 32, 65535),
     (Ix.pfcOnThreshold, 0, 65536), (Ix.hrbHistoryRegionSize, 0, 8), (Ix.hrbGuardLines, 0, 1024), (Ix.hrbMaximumCropBytes, 0, 67108864),
     (Ix.dmcChannelsInMap, 0, 8), (Ix.dmcDataRateLimit, 8, 6400), (Ix.dmcNeighbourRefreshExponent, 0, 10), (Ix.sysDeviceType, 0, 30486),
     (Ix.sysDictionaryVersion, 0, 65536), (Ix.sesNetworkUnauthenticatedLevel, 0, 255), (Ix.netLinkMode, 2, 3),
     (Ix.netPriority1, 0, 128), (Ix.netPriority2, 0, 128), (Ix.calItemSelect, 0, 65536), (Ix.calDarkMeanLimit, 0, 4096),
     (Ix.calDarkVarianceLimit, 0, 262144), (Ix.lifServiceIdleTimeout, 0, 30), (Ix.bstRoundPeriod, 0, 60),
     (Ix.bstUnitUnderTest, 0, 65535), (Ix.monSnapshotInterval, 0, 1000), (Ix.pmcInstance, 8, 65535), (Ix.sysPowerFailFilter, 0, 20),
     (Ix.envMonitorPollInterval, 0, 10), (Ix.envTemperatureHysteresis, 0, 32)],
    State.reset.rd y.1 y.2.1 = y.2.2) ∧
  allFns.all (fun f => decide (State.reset.fn f = .stopped)) = true ∧ State.reset.rd Ix.sysPowerState 0 = 1 ∧
  State.reset.rd Ix.wpuLP 0 = 2 ^ 48 ∧ State.reset.rd Ix.wpuHighWaterLP 0 = 2 ^ 48 - 1 ∧ State.reset.tbu = 0 ∧ State.reset.sessions = [] ∧ State.reset.pending = [] ∧
  State.reset.bst.fused = [] ∧ (∀ n : Fin 32, State.reset.rd Ix.cptPipeline (n.val + 1) = n.val / 2) ∧
  (∀ n : Fin 32, State.reset.rd Ix.segEngineState (n.val + 1) = 1 ∧ State.reset.rd Ix.segLogicalSegment (n.val + 1) = n.val)
end

