-- ==== Sys2Proof/Laws/Closed.lean ====
section
/-! SUPPORT. What it takes for a property of states to survive every command: that it looks at a few fields only, and that the
primitive updates of those fields keep it. Every operation of the device is then shown, in the files beside this one, to keep it. -/

namespace Sys2Proof.Laws

open Sys2Proof.Machine

/-- Two states agree in the fields that a closed property may look at. -/
structure Alike (s t : State) : Prop where
  regs : t.regs = s.regs := by rfl
  octs : t.octs = s.octs := by rfl
  forced : t.forced = s.forced := by rfl
  forcedOcts : t.forcedOcts = s.forcedOcts := by rfl
  dram : t.dram = s.dram := by rfl
  fused : t.bst.fused = s.bst.fused := by rfl
  out : t.out = s.out := by rfl
  free : t.free = s.free := by rfl
  pending : t.pending = s.pending := by rfl

/-- A property of states that every primitive update keeps. -/
structure Closed (R : State → Prop) : Prop where
  alike : ∀ {s t : State}, R s → Alike s t → R t
  wr : ∀ {s : State} {ix sub v : Nat}, R s → R (s.wr ix sub v)
  wro : ∀ {s : State} {ix sub : Nat} {bs : Octets}, R s → R (s.wro ix sub bs)
  force : ∀ {s : State} {ix sub : Nat}, R s → R (s.force ix sub)
  forceo : ∀ {s : State} {ix sub : Nat}, R s → R (s.forceo ix sub)
  emit : ∀ {s : State} {o : Output}, R s → R (s.emit o)
  freeUp : ∀ {s : State} {n : Nat}, R s → R { s with free := s.free + n }
  putBytes : ∀ {s : State} {a : Nat} {bs : Octets}, R s → R { s with dram := putBytes s.dram a bs }
  dramClear : ∀ {s : State}, R s → R { s with dram := [] }
  fuse : ∀ {s : State} {e : Octets}, R s → R { s with bst := { s.bst with fused := s.bst.fused ++ [e] } }
  fresh : ∀ {s : State}, R s →
    R { State.reset with bst := { State.reset.bst with fused := s.bst.fused }, out := s.out, free := s.free, pending := s.pending }

variable {R : State → Prop} {α β γ : Type}

theorem Closed.same_ (C : Closed R) {s t : State} (h : R s)
    (h1 : t.regs = s.regs := by rfl) (h2 : t.octs = s.octs := by rfl) (h3 : t.forced = s.forced := by rfl)
    (h4 : t.forcedOcts = s.forcedOcts := by rfl) (h5 : t.dram = s.dram := by rfl) (h6 : t.bst.fused = s.bst.fused := by rfl)
    (h7 : t.out = s.out := by rfl) (h8 : t.free = s.free := by rfl) (h9 : t.pending = s.pending := by rfl) : R t :=
  C.alike h ⟨h1, h2, h3, h4, h5, h6, h7, h8, h9⟩

theorem Closed.free_ (C : Closed R) {s : State} {n : Nat} (h : R s) : R { s with free := s.free + n } := C.freeUp h

/-- Fields outside the closed ones change, and free values are taken. -/
theorem Closed.more_ (C : Closed R) {s t : State} (h : R s)
    (h8 : s.free ≤ t.free := by exact Nat.le_add_right _ _)
    (h1 : t.regs = s.regs := by rfl) (h2 : t.octs = s.octs := by rfl) (h3 : t.forced = s.forced := by rfl)
    (h4 : t.forcedOcts = s.forcedOcts := by rfl) (h5 : t.dram = s.dram := by rfl) (h6 : t.bst.fused = s.bst.fused := by rfl)
    (h7 : t.out = s.out := by rfl) (h9 : t.pending = s.pending := by rfl) : R t :=
  C.alike (C.freeUp (n := t.free - s.free) h) ⟨h1, h2, h3, h4, h5, h6, h7, (Nat.add_sub_of_le h8).symm, h9⟩

theorem R_ite {c : Prop} [Decidable c] {a b : State} (ha : R a) (hb : R b) : R (if c then a else b) := by
  split
  · exact ha
  · exact hb

theorem R_ite_1 {c : Prop} [Decidable c] {a b : State × β} (ha : R a.1) (hb : R b.1) : R (if c then a else b).1 := by
  split
  · exact ha
  · exact hb

theorem R_ite_2 {c : Prop} [Decidable c] {a b : β × State} (ha : R a.2) (hb : R b.2) : R (if c then a else b).2 := by
  split
  · exact ha
  · exact hb

theorem R_ite_state {c : Prop} [Decidable c] {a b : Reply} (ha : R a.state) (hb : R b.state) : R (if c then a else b).state := by
  split
  · exact ha
  · exact hb

theorem R_dite {c : Prop} [Decidable c] {a : c → State} {b : ¬c → State} (ha : ∀ h, R (a h)) (hb : ∀ h, R (b h)) : R (dite c a b) := by
  split
  · exact ha _
  · exact hb _

theorem R_dite_1 {c : Prop} [Decidable c] {a : c → State × β} {b : ¬c → State × β} (ha : ∀ h, R (a h).1) (hb : ∀ h, R (b h).1) :
    R (dite c a b).1 := by
  split
  · exact ha _
  · exact hb _

theorem R_dite_state {c : Prop} [Decidable c] {a : c → Reply} {b : ¬c → Reply} (ha : ∀ h, R (a h).state) (hb : ∀ h, R (b h).state) :
    R (dite c a b).state := by
  split
  · exact ha _
  · exact hb _

theorem R_foldl {f : State → α → State} {l : List α} {s : State} (hs : R s) (hf : ∀ s a, R s → R (f s a)) : R (l.foldl f s) := by
  induction l generalizing s with
  | nil => exact hs
  | cons a l ih => exact ih (hf s a hs)

theorem R_foldl_1 {f : State × β → α → State × β} {l : List α} {s : State × β} (hs : R s.1) (hf : ∀ s a, R s.1 → R (f s a).1) :
    R (l.foldl f s).1 := by
  induction l generalizing s with
  | nil => exact hs
  | cons a l ih => exact ih (hf s a hs)

theorem R_foldl_2 {f : β × State → α → β × State} {l : List α} {s : β × State} (hs : R s.2) (hf : ∀ s a, R s.2 → R (f s a).2) :
    R (l.foldl f s).2 := by
  induction l generalizing s with
  | nil => exact hs
  | cons a l ih => exact ih (hf s a hs)

theorem R_ite_2_2 {c : Prop} [Decidable c] {a b : β × γ × State} (ha : R a.2.2) (hb : R b.2.2) : R (if c then a else b).2.2 := by
  split
  · exact ha
  · exact hb

theorem R_getD {o : Option State} {d : State} (hd : R d) (ho : ∀ z, o = some z → R z) : R (o.getD d) := by
  cases o with
  | none => exact hd
  | some z => exact ho z rfl

end Sys2Proof.Laws
end

