-- ==== Sys2Proof/Laws/ClosedOps.lean ====
section
/-! SUPPORT. What a closed property of states keeps through the operations of Machine/Ops.lean. -/

namespace Sys2Proof.Laws

open Sys2Proof.Machine

set_option linter.unusedSectionVars false
set_option Elab.async false

variable {R : State → Prop} (C : Closed R)
include C

theorem closed_wr {p0} {p1} {p2} {p3} (hp0 : R p0) : R (State.wr p0 p1 p2 p3) := C.wr hp0

theorem closed_wrI {p0} {p1} {p2} {p3} (hp0 : R p0) : R (State.wrI p0 p1 p2 p3) := by
  unfold State.wrI
  exact closed_wr C hp0

theorem closed_wro {p0} {p1} {p2} {p3} (hp0 : R p0) : R (State.wro p0 p1 p2 p3) := C.wro hp0

theorem closed_force {p0} {p1} {p2} (hp0 : R p0) : R (State.force p0 p1 p2) := C.force hp0

theorem closed_forceo {p0} {p1} {p2} (hp0 : R p0) : R (State.forceo p0 p1 p2) := C.forceo hp0

theorem closed_forceAll {p0} {p1} {p2} (hp0 : R p0) : R (State.forceAll p0 p1 p2) := by
  induction p2 generalizing p0 with
  | nil => exact hp0
  | cons ix ixs ih => exact ih (closed_force C hp0)

theorem closed_bump {p0} {p1} {p2} {p3} (hp0 : R p0) : R (State.bump p0 p1 p2 p3) := by
  unfold State.bump
  exact closed_wr C hp0

theorem closed_bumpSat {p0} {p1} {p2} {p3} (hp0 : R p0) : R (State.bumpSat p0 p1 p2 p3) := by
  unfold State.bumpSat
  exact closed_wr C hp0

theorem closed_raiseTo {p0} {p1} {p2} {p3} (hp0 : R p0) : R (State.raiseTo p0 p1 p2 p3) := by
  unfold State.raiseTo
  exact closed_wr C hp0

theorem closed_putBit {p0} {p1} {p2} {p3} {p4} (hp0 : R p0) : R (State.putBit p0 p1 p2 p3 p4) := by
  unfold State.putBit
  exact closed_wr C hp0

theorem closed_setBit {p0} {p1} {p2} {p3} (hp0 : R p0) : R (State.setBit p0 p1 p2 p3) := by
  unfold State.setBit
  exact closed_putBit C hp0

theorem closed_clearBit {p0} {p1} {p2} {p3} (hp0 : R p0) : R (State.clearBit p0 p1 p2 p3) := by
  unfold State.clearBit
  exact closed_putBit C hp0

theorem closed_emit {p0} {p1} (hp0 : R p0) : R (State.emit p0 p1) := C.emit hp0

theorem closed_emits {p0} {p1} (hp0 : R p0) : R (State.emits p0 p1) := by
  induction p1 generalizing p0 with
  | nil => exact C.same_ hp0 (h7 := List.append_nil _)
  | cons o os ih =>
    refine C.same_ (ih (C.emit (o := o) hp0)) (h7 := ?_)
    exact (List.append_assoc _ [o] os).symm

theorem closed_takeFree {p0} (hp0 : R p0) : R (State.takeFree p0) := by
  unfold State.takeFree
  exact C.free_ hp0

theorem closed_pmcAdd {p0} {p1} {p2} {p3} (hp0 : R p0) : R (State.pmcAdd p0 p1 p2 p3) := by
  unfold State.pmcAdd
  extract_lets +onlyGivenNames -underBinder x0
  have hx0 : R x0 := closed_bump C hp0
  try clear_value x0
  exact R_ite (closed_setBit C hx0) hx0

theorem closed_tally {p0} {p1} {p2} {p3} (hp0 : R p0) : R (State.tally p0 p1 p2 p3) := by
  unfold State.tally
  refine R_ite ?_ hp0
  refine R_foldl hp0 (fun _ _ ht0 => ?_)
  extract_lets +onlyGivenNames -underBinder x1
  try clear_value x1
  exact R_ite (closed_pmcAdd C ht0) ht0

theorem closed_passCycles {p0} {p1} (hp0 : R p0) : R (State.passCycles p0 p1) := by
  unfold State.passCycles
  extract_lets +onlyGivenNames -underBinder x0
  have hx0 : R x0 := R_ite (closed_tally C hp0) hp0
  try clear_value x0
  extract_lets +onlyGivenNames -underBinder x1
  have hx1 : R x1 := closed_tally C hx0
  try clear_value x1
  exact R_ite (closed_pmcAdd C hx1) hx1

theorem closed_advance {p0} {p1} (hp0 : R p0) : R (State.advance p0 p1) := by
  unfold State.advance
  extract_lets +onlyGivenNames -underBinder x0
  try clear_value x0
  extract_lets +onlyGivenNames -underBinder x1
  try clear_value x1
  extract_lets +onlyGivenNames -underBinder x2
  have hx2 : R x2 := closed_passCycles C hp0
  try clear_value x2
  exact C.same_ hx2

theorem closed_sample {p0} {p1} {p2} {p3} {p4} (hp0 : R p0) : R (State.sample p0 p1 p2 p3 p4) := by
  unfold State.sample
  refine R_ite ?_ (closed_bump C hp0)
  extract_lets +onlyGivenNames -underBinder x0
  try clear_value x0
  refine R_ite (C.same_ hp0) ?_
  refine R_foldl hp0 (fun _ _ ht1 => ?_)
  refine R_ite ?_ ht1
  extract_lets +onlyGivenNames -underBinder x2
  try clear_value x2
  exact closed_setBit C (closed_bump C (C.same_ ht1))

theorem closed_publish {p0} (hp0 : R p0) : R (State.publish p0) := by
  unfold State.publish
  extract_lets +onlyGivenNames -underBinder x0
  try clear_value x0
  exact C.same_ hp0

theorem closed_msix {p0} {p1} (hp0 : R p0) : R (State.msix p0 p1) := by
  unfold State.msix
  exact R_ite (closed_emit C hp0) hp0

theorem closed_hostFetch {p0} {p1} {p2} {p3} (hp0 : R p0) : R (State.hostFetch p0 p1 p2 p3) := by
  unfold State.hostFetch
  extract_lets +onlyGivenNames -underBinder x0
  try clear_value x0
  exact closed_emits C hp0

theorem closed_reachFabric {p0} {p1} (hp0 : R p0) : R (State.reachFabric p0 p1) := by
  unfold State.reachFabric
  exact R_ite (C.same_ hp0) (closed_bump C hp0)

theorem closed_event {p0} {p1} {p2} {p3} {p4} (hp0 : R p0) : R (State.event p0 p1 p2 p3 p4) := by
  unfold State.event
  exact closed_reachFabric C hp0

theorem closed_eventHere {p0} {p1} {p2} (hp0 : R p0) : R (State.eventHere p0 p1 p2) := by
  unfold State.eventHere
  exact closed_event C hp0

theorem closed_cross {p0} {p1} {p2} {p3} (hp0 : R p0) : R (State.cross p0 p1 p2 p3) := by
  unfold State.cross
  exact R_ite (closed_setBit C (closed_bump C hp0)) (C.same_ hp0)

theorem closed_calCount {p0} {p1} {p2} {p3} (hp0 : R p0) : R (State.calCount p0 p1 p2 p3) := by
  unfold State.calCount
  extract_lets +onlyGivenNames -underBinder x0
  try clear_value x0
  extract_lets +onlyGivenNames -underBinder x1
  try clear_value x1
  exact C.same_ hp0

theorem closed_calBase {p0} {p1} {p2} {p3} (hp0 : R p0) : R (State.calBase p0 p1 p2 p3) := by
  unfold State.calBase
  exact C.same_ hp0

theorem closed_calAwait {p0} {p1} {p2} {p3} (hp0 : R p0) : R (State.calAwait p0 p1 p2 p3) := by
  unfold State.calAwait
  exact C.same_ hp0

theorem closed_calArrived {p0} {p1} {p2} (hp0 : R p0) : R (State.calArrived p0 p1 p2) := by
  unfold State.calArrived
  split
  · exact hp0
  · exact closed_calCount C (C.same_ hp0)

theorem closed_calSuperseded {p0} {p1} {p2} (hp0 : R p0) : R (State.calSuperseded p0 p1 p2) := by
  unfold State.calSuperseded
  exact R_ite (closed_setBit C (C.same_ hp0)) hp0

theorem closed_calMeasured {p0} (hp0 : R p0) : R (State.calMeasured p0) := by
  unfold State.calMeasured
  split
  · exact R_ite (closed_wr C hp0) hp0
  · exact hp0

theorem closed_calCam {p0} {p1} {p2} (hp0 : R p0) : R (State.calCam p0 p1 p2) := by
  unfold State.calCam
  split
  · exact C.same_ hp0
  · exact hp0

theorem closed_calLeft {p0} {p1} (hp0 : R p0) : R (State.calLeft p0 p1) := by
  unfold State.calLeft
  exact R_ite (closed_calMeasured C (R_foldl hp0 (fun _ _ ht0 => closed_calCam C ht0))) hp0

theorem closed_calLine {p0} {p1} (hp0 : R p0) : R (State.calLine p0 p1) := by
  unfold State.calLine
  split
  · extract_lets +onlyGivenNames -underBinder x0
    have hx0 : R x0 := R_ite (closed_wr C hp0) hp0
    try clear_value x0
    exact R_ite (closed_calMeasured C hx0) hx0
  · exact hp0

theorem closed_retryTransient {p0} {p1} {p2} (hp0 : R p0) : R (State.retryTransient p0 p1 p2) := by
  unfold State.retryTransient
  extract_lets +onlyGivenNames -underBinder x0
  try clear_value x0
  extract_lets +onlyGivenNames -underBinder x1
  try clear_value x1
  extract_lets +onlyGivenNames -underBinder x2
  extract_lets +onlyGivenNames -underBinder x3
  have hx3 : R x3 := closed_bump C (C.same_ hp0)
  try clear_value x3
  exact R_ite (closed_wr C (closed_setBit C hx3)) hx3

theorem closed_retryLasting {p0} {p1} (hp0 : R p0) : R (State.retryLasting p0 p1) := by
  unfold State.retryLasting
  exact closed_bump C hp0

theorem closed_discard {p0} {p1} {p2} (hp0 : R p0) : R (State.discard p0 p1 p2) := by
  unfold State.discard
  exact closed_bump C hp0

theorem closed_fnFlag {p0} {p1} {p2} (hp0 : R p0) : R (State.fnFlag p0 p1 p2) := by
  unfold State.fnFlag
  exact closed_setBit C hp0

theorem closed_depLost {p0} {p1} (hp0 : R p0) : R (State.depLost p0 p1) := by
  unfold State.depLost
  exact R_ite (closed_fnFlag C hp0) hp0

theorem closed_depLostPorts {p0} {p1} {p2} (hp0 : R p0) : R (State.depLostPorts p0 p1 p2) := by
  unfold State.depLostPorts
  split
  · exact hp0
  · exact closed_depLostPorts (R_ite hp0 (closed_depLost C hp0))

theorem closed_setSync {p0} {p1} (hp0 : R p0) : R (State.setSync p0 p1) := by
  unfold State.setSync
  exact closed_publish C (closed_wr C hp0)

theorem closed_loseLock {p0} (hp0 : R p0) : R (State.loseLock p0) := by
  unfold State.loseLock
  extract_lets +onlyGivenNames -underBinder x0
  try clear_value x0
  extract_lets +onlyGivenNames -underBinder x1
  have hx1 : R x1 := C.same_ hp0
  try clear_value x1
  exact R_ite (closed_setSync C hx1) hx1

theorem closed_disablePtp {p0} {p1} (hp0 : R p0) : R (State.disablePtp p0 p1) := by
  unfold State.disablePtp
  extract_lets +onlyGivenNames -underBinder x0
  try clear_value x0
  extract_lets +onlyGivenNames -underBinder x1
  try clear_value x1
  extract_lets +onlyGivenNames -underBinder x2
  have hx2 : R x2 := C.same_ hp0
  try clear_value x2
  extract_lets +onlyGivenNames -underBinder x3
  have hx3 : R x3 := closed_wr C hx2
  try clear_value x3
  exact R_ite (closed_loseLock C hx3) hx3

theorem closed_ptpForgets {p0} (hp0 : R p0) : R (State.ptpForgets p0) := by
  unfold State.ptpForgets
  extract_lets +onlyGivenNames -underBinder x0
  try clear_value x0
  extract_lets +onlyGivenNames -underBinder x1
  have hx1 : R x1 := R_ite hp0 (closed_clearBit C hp0)
  try clear_value x1
  extract_lets +onlyGivenNames -underBinder x2
  try clear_value x2
  exact closed_publish C (R_ite hx1 (closed_clearBit C hx1))

theorem closed_loadAbandoned {p0} (hp0 : R p0) : R (State.loadAbandoned p0) := by
  unfold State.loadAbandoned
  exact C.same_ hp0

theorem closed_leaveRunning {p0} {p1} (hp0 : R p0) : R (State.leaveRunning p0 p1) := by
  unfold State.leaveRunning
  split
  · exact closed_depLostPorts C hp0
  · exact closed_depLostPorts C hp0
  · exact closed_calLeft C hp0
  · exact closed_calLeft C hp0
  · exact closed_depLost C hp0
  · exact R_ite (closed_depLost C hp0) hp0
  · exact closed_depLost C (closed_loadAbandoned C hp0)
  · exact closed_depLost C (C.same_ hp0)
  · exact closed_depLost C (closed_depLost C (closed_depLost C hp0))
  · exact closed_depLost C (closed_loadAbandoned C hp0)
  · exact R_ite (closed_ptpForgets C (closed_disablePtp C (closed_depLost C hp0))) hp0
  · exact closed_ptpForgets C (closed_loseLock C (closed_disablePtp C (closed_disablePtp C hp0)))
  · exact hp0

theorem closed_enter {p0} {p1} {p2} (hp0 : R p0) : R (State.enter p0 p1 p2) := by
  unfold State.enter
  extract_lets +onlyGivenNames -underBinder x0
  have hx0 : R x0 := R_ite (closed_leaveRunning C hp0) hp0
  try clear_value x0
  extract_lets +onlyGivenNames -underBinder x1
  have hx1 : R x1 := C.same_ hx0
  try clear_value x1
  extract_lets +onlyGivenNames -underBinder x2
  have hx2 : R x2 := closed_wr C (closed_wr C (closed_wr C hx1))
  try clear_value x2
  exact R_ite (closed_publish C hx2) hx2

theorem closed_enterFaulted {p0} {p1} {p2} (hp0 : R p0) : R (State.enterFaulted p0 p1 p2) := by
  unfold State.enterFaulted
  refine R_ite hp0 ?_
  extract_lets +onlyGivenNames -underBinder x0
  have hx0 : R x0 := closed_clearBit C (closed_wr C (closed_enter C hp0))
  try clear_value x0
  exact closed_cross C (closed_msix C hx0)

end Sys2Proof.Laws
end

