-- ==== Sys2Proof/Laws/ClosedQueues.lean ====
section
/-! SUPPORT. What a closed property of states keeps through the operations of Machine/Queues.lean. -/

namespace Sys2Proof.Laws

open Sys2Proof.Machine

set_option linter.unusedSectionVars false
set_option Elab.async false

variable {R : State → Prop} (C : Closed R)
include C

theorem closed_depthChanged {p0} {p1} {p2} (hp0 : R p0) : R (State.depthChanged p0 p1 p2) := by
  unfold State.depthChanged
  extract_lets +onlyGivenNames -underBinder x0
  try clear_value x0
  extract_lets +onlyGivenNames -underBinder x1
  try clear_value x1
  extract_lets +onlyGivenNames -underBinder x2
  try clear_value x2
  extract_lets +onlyGivenNames -underBinder x3
  try clear_value x3
  extract_lets +onlyGivenNames -underBinder x4
  have hx4 : R x4 := closed_putBit C hp0
  try clear_value x4
  extract_lets +onlyGivenNames -underBinder x5
  have hx5 : R x5 := R_ite (closed_msix C (closed_cross C (closed_setBit C hx4))) hx4
  try clear_value x5
  extract_lets +onlyGivenNames -underBinder x6
  have hx6 : R x6 := R_ite (closed_cross C (closed_setBit C hx5)) hx5
  try clear_value x6
  exact closed_raiseTo C hx6

theorem closed_setQueue {p0} {p1} {p2} (hp0 : R p0) : R (State.setQueue p0 p1 p2) := by
  unfold State.setQueue
  exact C.same_ hp0

theorem closed_putPackets {p0} {p1} {p2} (hp0 : R p0) : R (State.putPackets p0 p1 p2) := by
  unfold State.putPackets
  exact closed_depthChanged C (closed_setQueue C hp0)

theorem closed_entered {p0} {p1} {p2} (hp0 : R p0) : R (State.entered p0 p1 p2) := by
  unfold State.entered
  extract_lets +onlyGivenNames -underBinder x0
  have hx0 : R x0 := closed_bump C (closed_putPackets C hp0)
  try clear_value x0
  exact closed_sample C (closed_cross C hx0)

theorem closed_enqueue {p0} {p1} {p2} (hp0 : R p0) : R (State.enqueue p0 p1 p2) := by
  unfold State.enqueue
  exact closed_entered C hp0

theorem closed_enqueueFrom {p0} {p1} {p2} {p3} (hp0 : R p0) : R (State.enqueueFrom p0 p1 p2 p3) := by
  unfold State.enqueueFrom
  extract_lets +onlyGivenNames -underBinder x0
  try clear_value x0
  split
  · extract_lets +onlyGivenNames -underBinder x1
    try clear_value x1
    extract_lets +onlyGivenNames -underBinder x2
    try clear_value x2
    extract_lets +onlyGivenNames -underBinder x3
    have hx3 : R x3 := closed_setQueue C hp0
    try clear_value x3
    exact closed_entered C hx3

theorem closed_losePackets {p0} {p1} {p2} {p3} (hp0 : R p0) : R (State.losePackets p0 p1 p2 p3) := by
  unfold State.losePackets
  extract_lets +onlyGivenNames -underBinder x0
  have hx0 : R x0 := closed_setBit C (closed_bump C hp0)
  try clear_value x0
  refine R_ite hx0 ?_
  extract_lets +onlyGivenNames -underBinder x1
  try clear_value x1
  exact closed_setQueue C hx0

theorem closed_pushLoss {p0} {p1} (hp0 : R p0) : R (State.pushLoss p0 p1) := by
  unfold State.pushLoss
  refine R_ite ?_ hp0
  extract_lets +onlyGivenNames -underBinder x0
  try clear_value x0
  extract_lets +onlyGivenNames -underBinder x1
  try clear_value x1
  extract_lets +onlyGivenNames -underBinder x2
  have hx2 : R x2 := closed_setQueue C hp0
  try clear_value x2
  exact closed_enqueue C hx2

theorem closed_push {p0} {p1} {p2} {p3} {p4} (hp0 : R p0) : R (State.push p0 p1 p2 p3 p4) := by
  unfold State.push
  extract_lets +onlyGivenNames -underBinder x0
  have hx0 : R x0 := closed_pushLoss C hp0
  try clear_value x0
  extract_lets +onlyGivenNames -underBinder x1
  try clear_value x1
  exact R_ite (closed_enqueueFrom C hx0) (closed_losePackets C (R_ite hx0 (closed_discard C hx0)))

theorem closed_leftLess {p0} {p1} {p2} (hp0 : R p0) : R (State.leftLess p0 p1 p2) := by
  unfold State.leftLess
  exact C.same_ hp0

theorem closed_pop {p0} {p1} {z} (hp0 : R p0) (hz : State.pop p0 p1 = some z) : R z.2 := by
  unfold State.pop at hz
  split at hz
  · cases hz
  · cases hz
    have h := closed_putPackets (p1 := p1) (p2 := ‹_›) C (closed_setQueue (p1 := p1) (p2 := p0.queues[p1].turnsEnd) C hp0)
    exact R_ite h (closed_setBit C (closed_bump C h))

end Sys2Proof.Laws
end

