-- ==== Sys2Proof/Laws/ClosedWpu.lean ====
section
/-! SUPPORT. What a closed property of states keeps through the operations of Machine/Wpu.lean. -/

namespace Sys2Proof.Laws

open Sys2Proof.Machine

set_option linter.unusedSectionVars false
set_option Elab.async false

variable {R : State → Prop} (C : Closed R)
include C

theorem closed_addCount {p0} {p1} {p2} (hp0 : R p0) : R (State.addCount p0 p1 p2) := by
  unfold State.addCount
  exact R_ite (closed_wrI C hp0) (R_ite (C.same_ hp0) (C.same_ hp0))

theorem closed_wpuFault {p0} {p1} (hp0 : R p0) : R (State.wpuFault p0 p1) := by
  unfold State.wpuFault
  exact closed_enterFaulted C hp0

theorem closed_speedUpdate {p0} (hp0 : R p0) : R (State.speedUpdate p0) := by
  unfold State.speedUpdate
  extract_lets +onlyGivenNames -underBinder x0
  try clear_value x0
  refine R_ite (closed_clearBit C (closed_wr C (closed_wr C hp0))) ?_
  extract_lets +onlyGivenNames -underBinder x1
  try clear_value x1
  extract_lets +onlyGivenNames -underBinder x2
  try clear_value x2
  extract_lets +onlyGivenNames -underBinder x3
  try clear_value x3
  extract_lets +onlyGivenNames -underBinder x4
  try clear_value x4
  extract_lets +onlyGivenNames -underBinder x5
  try clear_value x5
  extract_lets +onlyGivenNames -underBinder x6
  try clear_value x6
  extract_lets +onlyGivenNames -underBinder x7
  try clear_value x7
  extract_lets +onlyGivenNames -underBinder x8
  have hx8 : R x8 := closed_wrI C hp0
  try clear_value x8
  extract_lets +onlyGivenNames -underBinder x9
  have hx9 : R x9 := closed_wrI C hx8
  try clear_value x9
  exact closed_setBit C hx9

theorem closed_emptySpeed {p0} (hp0 : R p0) : R (State.emptySpeed p0) := by
  unfold State.emptySpeed
  exact closed_speedUpdate C (C.same_ hp0)

theorem closed_evalGcm {p0} {p1} (hp0 : R p0) : R (State.evalGcm p0 p1) := by
  unfold State.evalGcm
  extract_lets +onlyGivenNames -underBinder x0
  try clear_value x0
  extract_lets +onlyGivenNames -underBinder x1
  try clear_value x1
  extract_lets +onlyGivenNames -underBinder x2
  try clear_value x2
  extract_lets +onlyGivenNames -underBinder x3
  try clear_value x3
  exact R_ite hp0 (closed_eventHere C (closed_bump C (closed_wr C hp0)))

theorem closed_evalGcms {p0} {p1} (hp0 : R p0) : R (State.evalGcms p0 p1) := by
  unfold State.evalGcms
  split
  · exact hp0
  · exact closed_evalGcms (closed_evalGcm C hp0)

theorem closed_comparators {p0} (hp0 : R p0) : R (State.comparators p0) := by
  unfold State.comparators
  exact closed_evalGcms C hp0

theorem closed_spcHit {p0} {p1} {p2} (hp0 : R p0) : R (State.spcHit p0 p1 p2).1 := by
  unfold State.spcHit
  extract_lets +onlyGivenNames -underBinder x0
  try clear_value x0
  extract_lets +onlyGivenNames -underBinder x1
  try clear_value x1
  extract_lets +onlyGivenNames -underBinder x2
  try clear_value x2
  extract_lets +onlyGivenNames -underBinder x3
  try clear_value x3
  extract_lets +onlyGivenNames -underBinder x4
  try clear_value x4
  extract_lets +onlyGivenNames -underBinder x5
  try clear_value x5
  extract_lets +onlyGivenNames -underBinder x6
  have hx6 : R x6 := closed_wr C (closed_wr C (closed_bump C (closed_wr C hp0)))
  try clear_value x6
  extract_lets +onlyGivenNames -underBinder x7
  have hx7 : R x7 := R_dite (fun _ => C.same_ hx6) (fun _ => hx6)
  try clear_value x7
  extract_lets +onlyGivenNames -underBinder x8
  have hx8 : R x8 := closed_tally C (closed_event C hx7)
  try clear_value x8
  extract_lets +onlyGivenNames -underBinder x9
  have hx9 : R x9 := R_ite (closed_event C (closed_setBit C (closed_wr C (closed_bump C hx8)))) hx8
  try clear_value x9
  exact hx9

theorem closed_spcEval {p0} {p1} {p2} (hp0 : R p0) : R (State.spcEval p0 p1 p2).1 := by
  unfold State.spcEval
  extract_lets +onlyGivenNames -underBinder x0
  try clear_value x0
  extract_lets +onlyGivenNames -underBinder x1
  try clear_value x1
  refine R_ite_1 ?_ hp0
  dsimp only
  exact closed_spcHit C hp0

theorem closed_spcEvals {p0} {p1} {p2} (hp0 : R p0) : R (State.spcEvals p0 p1 p2).1 := by
  unfold State.spcEvals
  split
  · exact hp0
  · extract_lets +onlyGivenNames -underBinder x0
    have hx0 : R x0.1 := closed_spcEval C hp0
    try clear_value x0
    extract_lets +onlyGivenNames -underBinder x1
    have hx1 : R x1.1 := closed_spcEvals hx0
    try clear_value x1
    exact hx1

theorem closed_highWater {p0} (hp0 : R p0) : R (State.highWater p0) := by
  unfold State.highWater
  exact R_ite (closed_clearBit C (closed_wr C hp0)) (closed_raiseTo C hp0)

theorem closed_pChanged {p0} {p1} {p2} (hp0 : R p0) : R (State.pChanged p0 p1 p2) := by
  unfold State.pChanged
  extract_lets +onlyGivenNames -underBinder x0
  try clear_value x0
  extract_lets +onlyGivenNames -underBinder x1
  try clear_value x1
  extract_lets +onlyGivenNames -underBinder x2
  try clear_value x2
  extract_lets +onlyGivenNames -underBinder x3
  try clear_value x3
  extract_lets +onlyGivenNames -underBinder x4
  try clear_value x4
  extract_lets +onlyGivenNames -underBinder x5
  have hx5 : R x5 := C.same_ hp0
  try clear_value x5
  extract_lets +onlyGivenNames -underBinder x6
  have hx6 : R x6 := closed_putBit C hx5
  try clear_value x6
  extract_lets +onlyGivenNames -underBinder x7
  have hx7 : R x7 := R_ite (closed_eventHere C (closed_setBit C hx6)) hx6
  try clear_value x7
  extract_lets +onlyGivenNames -underBinder x8
  have hx8 : R x8 := R_ite (closed_eventHere C (closed_clearBit C hx7)) hx7
  try clear_value x8
  exact closed_speedUpdate C hx8

theorem closed_newLines {p0} {p1} {p2} (hp0 : R p0) : R (State.newLines p0 p1 p2) := by
  unfold State.newLines
  extract_lets +onlyGivenNames -underBinder x0
  try clear_value x0
  refine R_ite hp0 ?_
  extract_lets +onlyGivenNames -underBinder x1
  try clear_value x1
  extract_lets +onlyGivenNames -underBinder x2
  try clear_value x2
  extract_lets +onlyGivenNames -underBinder x3
  have hx3 : R x3 := by
    refine R_foldl hp0 (fun _ _ ht4 => ?_)
    extract_lets +onlyGivenNames -underBinder x5
    have hx5 : R x5 := closed_sample C ht4
    try clear_value x5
    split
    · exact closed_sample C hx5
    · exact hx5
  try clear_value x3
  exact closed_calLine C (C.same_ hx3)

theorem closed_follow {p0} (hp0 : R p0) : R (State.follow p0).1 := by
  unfold State.follow
  extract_lets +onlyGivenNames -underBinder x0
  try clear_value x0
  split
  · exact hp0
  · extract_lets +onlyGivenNames -underBinder x1
    try clear_value x1
    refine R_ite_1 ?_ ?_
    · split
      · dsimp only
        exact closed_wpuFault C (closed_setBit C hp0)
      · extract_lets +onlyGivenNames -underBinder x2
        have hx2 : R x2 := closed_wr C (closed_wr C (closed_wrI C hp0))
        try clear_value x2
        extract_lets +onlyGivenNames -underBinder x3
        have hx3 : R x3 := closed_publish C (R_ite (closed_highWater C hx2) hx2)
        try clear_value x3
        extract_lets +onlyGivenNames -underBinder x4
        have hx4 : R x4 := closed_pChanged C hx3
        try clear_value x4
        extract_lets +onlyGivenNames -underBinder x5
        have hx5 : R x5 := R_ite (closed_newLines C hx4) hx4
        try clear_value x5
        extract_lets +onlyGivenNames -underBinder x6
        have hx6 : R x6.1 := by
          refine R_ite_1 hx5 ?_
          exact closed_spcEvals C hx5
        try clear_value x6
        exact hx6
    · dsimp only
      exact closed_pChanged C (closed_wrI C hp0)

theorem closed_countMoved {p0} {p1} {p2} (hp0 : R p0) : R (State.countMoved p0 p1 p2).1 := by
  unfold State.countMoved
  refine R_ite_1 ?_ ?_
  · extract_lets +onlyGivenNames -underBinder x0
    try clear_value x0
    extract_lets +onlyGivenNames -underBinder x1
    have hx1 : R x1 := closed_addCount C hp0
    try clear_value x1
    extract_lets +onlyGivenNames -underBinder x2
    try clear_value x2
    extract_lets +onlyGivenNames -underBinder x3
    have hx3 : R x3 := R_ite hx1 (C.same_ hx1)
    try clear_value x3
    exact closed_follow C hx3
  · dsimp only
    exact closed_addCount C hp0

theorem closed_setP {p0} (hp0 : R p0) : R (State.setP p0) := by
  unfold State.setP
  exact closed_emptySpeed C (closed_wrI C hp0)

theorem closed_windowTakes {p0} {p1} {p2} (hp0 : R p0) : R (State.windowTakes p0 p1 p2) := by
  unfold State.windowTakes
  extract_lets +onlyGivenNames -underBinder x0
  try clear_value x0
  extract_lets +onlyGivenNames -underBinder x1
  try clear_value x1
  extract_lets +onlyGivenNames -underBinder x2
  try clear_value x2
  extract_lets +onlyGivenNames -underBinder x3
  try clear_value x3
  extract_lets +onlyGivenNames -underBinder x4
  try clear_value x4
  extract_lets +onlyGivenNames -underBinder x5
  have hx5 : R x5 := C.same_ hp0
  try clear_value x5
  refine R_ite ?_ hx5
  extract_lets +onlyGivenNames -underBinder x6
  have hx6 : R x6 := R_ite hx5 (closed_eventHere C (closed_setBit C hx5))
  try clear_value x6
  exact R_ite (closed_wpuFault C hx6) hx6

theorem closed_clearWindows {p0} (hp0 : R p0) : R (State.clearWindows p0) := by
  unfold State.clearWindows
  exact C.same_ hp0

theorem closed_encoderSample {p0} {p1} {p2} {p3} (hp0 : R p0) : R (State.encoderSample p0 p1 p2 p3).1 := by
  unfold State.encoderSample
  extract_lets +onlyGivenNames -underBinder x0
  try clear_value x0
  extract_lets +onlyGivenNames -underBinder x1
  try clear_value x1
  extract_lets +onlyGivenNames -underBinder x2
  have hx2 : R x2 := C.same_ hp0
  try clear_value x2
  extract_lets +onlyGivenNames -underBinder x3
  try clear_value x3
  refine R_ite_1 hp0 ?_
  refine R_ite_1 hx2 ?_
  refine R_ite_1 ?_ ?_
  · extract_lets +onlyGivenNames -underBinder x4
    have hx4 : R x4 := closed_setBit C (closed_bumpSat C hx2)
    try clear_value x4
    dsimp only
    exact closed_windowTakes C (closed_eventHere C hx4)
  · extract_lets +onlyGivenNames -underBinder x5
    have hx5 : R x5 := closed_windowTakes C hx2
    try clear_value x5
    extract_lets +onlyGivenNames -underBinder x6
    try clear_value x6
    refine R_ite_1 hx5 ?_
    exact closed_countMoved C hx5

theorem closed_lineFault {p0} {p1} {p2} (hp0 : R p0) : R (State.lineFault p0 p1 p2) := by
  unfold State.lineFault
  refine R_ite hp0 ?_
  extract_lets +onlyGivenNames -underBinder x0
  have hx0 : R x0 := closed_setBit C (closed_setBit C hp0)
  try clear_value x0
  exact R_ite (closed_wpuFault C hx0) hx0

theorem closed_encoderIndex {p0} {p1} (hp0 : R p0) : R (State.encoderIndex p0 p1) := by
  unfold State.encoderIndex
  refine R_ite hp0 ?_
  extract_lets +onlyGivenNames -underBinder x0
  try clear_value x0
  extract_lets +onlyGivenNames -underBinder x1
  try clear_value x1
  extract_lets +onlyGivenNames -underBinder x2
  try clear_value x2
  extract_lets +onlyGivenNames -underBinder x3
  have hx3 : R x3 := closed_bump C (closed_wr C (closed_wr C hp0))
  try clear_value x3
  exact closed_event C hx3

theorem closed_setSer {p0} {p1} {p2} (hp0 : R p0) : R (State.setSer p0 p1 p2) := by
  unfold State.setSer
  exact C.same_ hp0

theorem closed_serialBad {p0} {p1} (hp0 : R p0) : R (State.serialBad p0 p1) := by
  unfold State.serialBad
  extract_lets +onlyGivenNames -underBinder x0
  try clear_value x0
  extract_lets +onlyGivenNames -underBinder x1
  try clear_value x1
  extract_lets +onlyGivenNames -underBinder x2
  try clear_value x2
  extract_lets +onlyGivenNames -underBinder x3
  try clear_value x3
  extract_lets +onlyGivenNames -underBinder x4
  have hx4 : R x4 := closed_setBit C (closed_bumpSat C (closed_setSer C hp0))
  try clear_value x4
  extract_lets +onlyGivenNames -underBinder x5
  have hx5 : R x5 := closed_eventHere C hx4
  try clear_value x5
  refine R_ite ?_ hx5
  extract_lets +onlyGivenNames -underBinder x6
  have hx6 : R x6 := closed_setBit C hx5
  try clear_value x6
  exact R_ite (closed_wpuFault C hx6) hx6

theorem closed_serialGood {p0} {p1} {p2} {p3} (hp0 : R p0) : R (State.serialGood p0 p1 p2 p3).1 := by
  unfold State.serialGood
  extract_lets +onlyGivenNames -underBinder x0
  try clear_value x0
  extract_lets +onlyGivenNames -underBinder x1
  have hx1 : R x1 := closed_wr C (closed_setSer C hp0)
  try clear_value x1
  split
  · exact hx1
  · extract_lets +onlyGivenNames -underBinder x2
    try clear_value x2
    refine R_ite_1 hx1 ?_
    exact closed_countMoved C hx1

theorem closed_probeEdge {p0} {p1} {p2} (hp0 : R p0) : R (State.probeEdge p0 p1 p2).1 := by
  unfold State.probeEdge
  extract_lets +onlyGivenNames -underBinder x0
  try clear_value x0
  extract_lets +onlyGivenNames -underBinder x1
  try clear_value x1
  extract_lets +onlyGivenNames -underBinder x2
  try clear_value x2
  extract_lets +onlyGivenNames -underBinder x3
  try clear_value x3
  extract_lets +onlyGivenNames -underBinder x4
  try clear_value x4
  extract_lets +onlyGivenNames -underBinder x5
  try clear_value x5
  extract_lets +onlyGivenNames -underBinder x6
  try clear_value x6
  extract_lets +onlyGivenNames -underBinder x7
  try clear_value x7
  extract_lets +onlyGivenNames -underBinder x8
  try clear_value x8
  refine R_ite_1 hp0 ?_
  refine R_ite_1 ?_ ?_
  · dsimp only
    exact closed_bumpSat C hp0
  · extract_lets +onlyGivenNames -underBinder x9
    have hx9 : R x9 := closed_wr C (closed_wr C (closed_bump C hp0))
    try clear_value x9
    extract_lets +onlyGivenNames -underBinder x10
    try clear_value x10
    extract_lets +onlyGivenNames -underBinder x11
    try clear_value x11
    extract_lets +onlyGivenNames -underBinder x12
    have hx12 : R x12 := C.same_ hx9
    try clear_value x12
    extract_lets +onlyGivenNames -underBinder x13
    try clear_value x13
    extract_lets +onlyGivenNames -underBinder x14
    try clear_value x14
    extract_lets +onlyGivenNames -underBinder x15
    have hx15 : R x15 := R_ite (C.same_ hx12) (closed_wr C hx12)
    try clear_value x15
    dsimp only
    exact closed_event C hx15

theorem closed_probeOffer {p0} {p1} (hp0 : R p0) : R (State.probeOffer p0 p1) := by
  unfold State.probeOffer
  split
  · exact hp0
  · exact closed_push C (C.same_ hp0)

theorem closed_serialForget {p0} (hp0 : R p0) : R (State.serialForget p0) := by
  unfold State.serialForget
  exact C.same_ hp0

theorem closed_dropProbes {p0} (hp0 : R p0) : R (State.dropProbes p0) := by
  unfold State.dropProbes
  extract_lets +onlyGivenNames -underBinder x0
  try clear_value x0
  exact closed_discard C (C.same_ hp0)

theorem closed_wpuStarts {p0} (hp0 : R p0) : R (State.wpuStarts p0) := by
  unfold State.wpuStarts
  extract_lets +onlyGivenNames -underBinder x0
  have hx0 : R x0 := closed_discard C hp0
  try clear_value x0
  exact closed_comparators C (closed_emptySpeed C (C.same_ hx0))

theorem closed_wpuReady {p0} {p1} (hp0 : R p0) : R (State.wpuReady p0 p1) := by
  unfold State.wpuReady
  extract_lets +onlyGivenNames -underBinder x0
  try clear_value x0
  extract_lets +onlyGivenNames -underBinder x1
  try clear_value x1
  exact closed_comparators C (closed_setP C (C.same_ hp0))

end Sys2Proof.Laws
end

