-- ==== Sys2Proof/Laws/ClosedPsc.lean ====
section
/-! SUPPORT. What a closed property of states keeps through the operations of Machine/Psc.lean. -/

namespace Sys2Proof.Laws

open Sys2Proof.Machine

set_option linter.unusedSectionVars false
set_option Elab.async false

variable {R : State → Prop} (C : Closed R)
include C

theorem closed_pscReport {p0} {p1} {p2} {p3} {p4} (hp0 : R p0) : R (State.pscReport p0 p1 p2 p3 p4) := by
  unfold State.pscReport
  exact R_ite (closed_push C hp0) hp0

theorem closed_setOut {p0} {p1} {p2} (hp0 : R p0) : R (State.setOut p0 p1 p2) := by
  unfold State.setOut
  exact R_dite (fun _ => C.same_ hp0) (fun _ => hp0)

theorem closed_pulseFiring {p0} {p1} (hp0 : R p0) : R (State.pulseFiring p0 p1) := by
  unfold State.pulseFiring
  split
  · exact closed_bump C (closed_setOut C hp0)
  · extract_lets +onlyGivenNames -underBinder x0
    have hx0 : R x0 := closed_setBit C (closed_bumpSat C hp0)
    try clear_value x0
    exact R_ite (closed_setOut C hx0) hx0

theorem closed_outputsRest {p0} (hp0 : R p0) : R (State.outputsRest p0) := by
  unfold State.outputsRest
  exact C.same_ hp0

theorem closed_outputFires {p0} {p1} {p2} (hp0 : R p0) : R (State.outputFires p0 p1 p2) := by
  unfold State.outputFires
  extract_lets +onlyGivenNames -underBinder x0
  try clear_value x0
  extract_lets +onlyGivenNames -underBinder x1
  try clear_value x1
  extract_lets +onlyGivenNames -underBinder x2
  have hx2 : R x2 := R_ite hp0 (closed_bumpSat C hp0)
  try clear_value x2
  split
  · exact closed_pulseFiring C hx2
  · exact closed_setOut C hx2
  · exact closed_setOut C hx2
  · exact closed_setOut C hx2
  · exact hx2

theorem closed_outputsFire {p0} {p1} {p2} (hp0 : R p0) : R (State.outputsFire p0 p1 p2) := by
  unfold State.outputsFire
  split
  · exact hp0
  · extract_lets +onlyGivenNames -underBinder x0
    try clear_value x0
    exact closed_outputsFire (R_ite hp0 (closed_outputFires C hp0))

theorem closed_fireOutputs {p0} {p1} {p2} (hp0 : R p0) : R (State.fireOutputs p0 p1 p2) := by
  unfold State.fireOutputs
  exact R_ite (closed_outputsFire C hp0) (R_ite hp0 (closed_discard C hp0))

theorem closed_entriesFire {p0} {p1} (hp0 : R p0) : R (State.entriesFire p0 p1) := by
  unfold State.entriesFire
  split
  · exact hp0
  · extract_lets +onlyGivenNames -underBinder x0
    have hx0 : R x0 := closed_bump C hp0
    try clear_value x0
    extract_lets +onlyGivenNames -underBinder x1
    have hx1 : R x1 := R_ite (closed_reachFabric C hx0) hx0
    try clear_value x1
    exact closed_entriesFire (closed_pscReport C hx1)

theorem closed_fireEntries {p0} {p1} (hp0 : R p0) : R (State.fireEntries p0 p1) := by
  unfold State.fireEntries
  split
  · exact hp0
  · exact closed_entriesFire C (closed_eventHere C hp0)

theorem closed_pscTravel {p0} {p1} {p2} (hp0 : R p0) : R (State.pscTravel p0 p1 p2) := by
  unfold State.pscTravel
  extract_lets +onlyGivenNames -underBinder x0
  try clear_value x0
  extract_lets +onlyGivenNames -underBinder x1
  have hx1 : R x1 := C.same_ hp0
  try clear_value x1
  extract_lets +onlyGivenNames -underBinder x2
  try clear_value x2
  extract_lets +onlyGivenNames -underBinder x3
  try clear_value x3
  extract_lets +onlyGivenNames -underBinder x4
  try clear_value x4
  extract_lets +onlyGivenNames -underBinder x5
  try clear_value x5
  extract_lets +onlyGivenNames -underBinder x6
  try clear_value x6
  extract_lets +onlyGivenNames -underBinder x7
  have hx7 : R x7 := C.same_ hx1
  try clear_value x7
  extract_lets +onlyGivenNames -underBinder x8
  try clear_value x8
  exact closed_fireOutputs C (closed_fireEntries C hx7)

theorem closed_pscPreset {p0} {p1} (hp0 : R p0) : R (State.pscPreset p0 p1) := by
  unfold State.pscPreset
  exact C.same_ hp0

theorem closed_pscRequest {p0} {p1} {p2} {p3} {p4} (hp0 : R p0) : R (State.pscRequest p0 p1 p2 p3 p4).1 := by
  unfold State.pscRequest
  refine R_ite_1 hp0 ?_
  refine R_ite_1 ?_ ?_
  · dsimp only
    exact closed_discard C hp0
  · refine R_ite_1 hp0 ?_
    refine R_ite_1 ?_ ?_
    · dsimp only
      exact closed_eventHere C (closed_setBit C (closed_bump C hp0))
    · extract_lets +onlyGivenNames -underBinder x0
      try clear_value x0
      refine R_ite_1 ?_ ?_
      · extract_lets +onlyGivenNames -underBinder x1
        have hx1 : R x1 := closed_eventHere C (closed_setBit C (closed_bump C hp0))
        try clear_value x1
        refine R_ite_1 ?_ ?_
        · dsimp only
          exact closed_fireOutputs C (closed_fireEntries C hx1)
        · dsimp only
          exact closed_pscReport C hx1
      · dsimp only
        exact C.same_ hp0

theorem closed_cancelTag {p0} {p1} (hp0 : R p0) : R (State.cancelTag p0 p1) := by
  unfold State.cancelTag
  extract_lets +onlyGivenNames -underBinder x0
  try clear_value x0
  exact R_ite (closed_setBit C hp0) (closed_bump C (C.same_ hp0))

theorem closed_endPulse {p0} {p1} (hp0 : R p0) : R (State.endPulse p0 p1) := by
  unfold State.endPulse
  exact closed_setOut C hp0

theorem closed_pulseWidthEnd {p0} {p1} (hp0 : R p0) : R (State.pulseWidthEnd p0 p1) := by
  unfold State.pulseWidthEnd
  split
  · exact R_ite hp0 (closed_endPulse C hp0)
  · exact hp0

theorem closed_widthCap {p0} {p1} (hp0 : R p0) : R (State.widthCap p0 p1) := by
  unfold State.widthCap
  split
  · exact closed_setBit C (closed_endPulse C hp0)
  · exact hp0

theorem closed_reportDiscarded {p0} {p1} (hp0 : R p0) : R (State.reportDiscarded p0 p1) := by
  unfold State.reportDiscarded
  split
  · exact hp0
  · exact closed_reportDiscarded (closed_pscReport C hp0)

theorem closed_pscDiscard {p0} (hp0 : R p0) : R (State.pscDiscard p0) := by
  unfold State.pscDiscard
  extract_lets +onlyGivenNames -underBinder x0
  try clear_value x0
  extract_lets +onlyGivenNames -underBinder x1
  try clear_value x1
  extract_lets +onlyGivenNames -underBinder x2
  have hx2 : R x2 := closed_outputsRest C (C.same_ hp0)
  try clear_value x2
  exact closed_reportDiscarded C (R_ite hx2 (closed_bump C hx2))

end Sys2Proof.Laws
end

