-- ==== Sys2Proof/Laws/ClosedCpt.lean ====
section
/-! SUPPORT. What a closed property of states keeps through the operations of Machine/Cpt.lean. -/

namespace Sys2Proof.Laws

open Sys2Proof.Machine

set_option linter.unusedSectionVars false
set_option Elab.async false

variable {R : State → Prop} (C : Closed R)
include C

theorem closed_setPort {p0} {p1} {p2} (hp0 : R p0) : R (State.setPort p0 p1 p2) := by
  unfold State.setPort
  exact C.same_ hp0

theorem closed_portFlag {p0} {p1} {p2} (hp0 : R p0) : R (State.portFlag p0 p1 p2) := by
  unfold State.portFlag
  exact closed_setBit C hp0

theorem closed_portEvent {p0} {p1} {p2} {p3} {p4} (hp0 : R p0) : R (State.portEvent p0 p1 p2 p3 p4) := by
  unfold State.portEvent
  exact closed_cross C hp0

theorem closed_discover {p0} {p1} {p2} (hp0 : R p0) : R (State.discover p0 p1 p2) := by
  unfold State.discover
  extract_lets +onlyGivenNames -underBinder x0
  try clear_value x0
  extract_lets +onlyGivenNames -underBinder x1
  try clear_value x1
  extract_lets +onlyGivenNames -underBinder x2
  try clear_value x2
  extract_lets +onlyGivenNames -underBinder x3
  try clear_value x3
  refine R_ite hp0 ?_
  split
  · exact closed_wr C hp0
  · extract_lets +onlyGivenNames -underBinder x4
    try clear_value x4
    refine R_ite ?_ (closed_portFlag C (closed_wr C hp0))
    extract_lets +onlyGivenNames -underBinder x5
    try clear_value x5
    extract_lets +onlyGivenNames -underBinder x6
    try clear_value x6
    exact closed_emit C (closed_wr C (closed_setPort C hp0))

theorem closed_trainingFails {p0} {p1} (hp0 : R p0) : R (State.trainingFails p0 p1) := by
  unfold State.trainingFails
  extract_lets +onlyGivenNames -underBinder x0
  try clear_value x0
  split
  · exact closed_setPort C hp0
  · exact closed_wr C (closed_portFlag C (closed_bumpSat C (closed_setPort C (closed_retryLasting C hp0))))
  · exact hp0

theorem closed_linkComesUp {p0} {p1} {p2} (hp0 : R p0) : R (State.linkComesUp p0 p1 p2) := by
  unfold State.linkComesUp
  extract_lets +onlyGivenNames -underBinder x0
  try clear_value x0
  extract_lets +onlyGivenNames -underBinder x1
  try clear_value x1
  refine R_ite ?_ hp0
  refine R_ite (closed_trainingFails C hp0) ?_
  extract_lets +onlyGivenNames -underBinder x2
  have hx2 : R x2 := R_ite (closed_retryTransient C hp0) hp0
  try clear_value x2
  extract_lets +onlyGivenNames -underBinder x3
  have hx3 : R x3 := closed_wr C (closed_setPort C hx2)
  try clear_value x3
  extract_lets +onlyGivenNames -underBinder x4
  have hx4 : R x4 := closed_wr C (closed_wr C hx3)
  try clear_value x4
  exact closed_portEvent C hx4

theorem closed_toPipeline {p0} {p1} {p2} (hp0 : R p0) : R (State.toPipeline p0 p1 p2) := by
  unfold State.toPipeline
  extract_lets +onlyGivenNames -underBinder x0
  exact C.same_ hp0

theorem closed_closeStrip {p0} {p1} {p2} (hp0 : R p0) : R (State.closeStrip p0 p1 p2) := by
  unfold State.closeStrip
  extract_lets +onlyGivenNames -underBinder x0
  try clear_value x0
  split
  · exact hp0
  · extract_lets +onlyGivenNames -underBinder x1
    have hx1 : R x1 := closed_setPort C hp0
    try clear_value x1
    exact closed_sample C (closed_portEvent C (closed_toPipeline C hx1))

theorem closed_sendItem {p0} {p1} {p2} (hp0 : R p0) : R (State.sendItem p0 p1 p2) := by
  unfold State.sendItem
  extract_lets +onlyGivenNames -underBinder x0
  try clear_value x0
  extract_lets +onlyGivenNames -underBinder x1
  try clear_value x1
  extract_lets +onlyGivenNames -underBinder x2
  try clear_value x2
  extract_lets +onlyGivenNames -underBinder x3
  try clear_value x3
  extract_lets +onlyGivenNames -underBinder x4
  try clear_value x4
  extract_lets +onlyGivenNames -underBinder x5
  try clear_value x5
  extract_lets +onlyGivenNames -underBinder x6
  have hx6 : R x6 := closed_setPort C hp0
  try clear_value x6
  extract_lets +onlyGivenNames -underBinder x7
  have hx7 : R x7 := R_ite (closed_portEvent C hx6) hx6
  try clear_value x7
  extract_lets +onlyGivenNames -underBinder x8
  have hx8 : R x8 := by
    unfold x8
    split
    · exact closed_bump C (closed_toPipeline C hx7)
    · exact closed_tally C (closed_toPipeline C hx7)
  try clear_value x8
  exact R_ite (closed_closeStrip C hx8) hx8

theorem closed_sendResolved {p0} {p1} {p2} (hp0 : R p0) : R (State.sendResolved p0 p1 p2) := by
  unfold State.sendResolved
  split
  · exact hp0
  · extract_lets +onlyGivenNames -underBinder x0
    try clear_value x0
    split
    · exact hp0
    · exact R_ite (closed_sendResolved (closed_sendItem C (closed_setPort C hp0))) hp0

theorem closed_resolve {p0} {p1} {p2} {p3} {p4} {p5} {p6} {p7} (hp0 : R p0) : R (State.resolve p0 p1 p2 p3 p4 p5 p6 p7) := by
  unfold State.resolve
  extract_lets +onlyGivenNames -underBinder x0
  try clear_value x0
  extract_lets +onlyGivenNames -underBinder x1
  try clear_value x1
  extract_lets +onlyGivenNames -underBinder x2
  have hx2 : R x2 := closed_setPort C hp0
  try clear_value x2
  extract_lets +onlyGivenNames -underBinder x3
  have hx3 : R x3 := R_ite hx2 (closed_bump C (closed_bump C hx2))
  try clear_value x3
  exact closed_sendResolved C hx3

theorem closed_flagReason {p0} {p1} {p2} (hp0 : R p0) : R (State.flagReason p0 p1 p2) := by
  unfold State.flagReason
  split
  · exact closed_portFlag C hp0
  · exact hp0

theorem closed_retire {p0} {p1} {p2} {p3} (hp0 : R p0) : R (State.retire p0 p1 p2 p3) := by
  unfold State.retire
  exact closed_flagReason C (closed_resolve C hp0)

theorem closed_reject {p0} {p1} {p2} {p3} {p4} {p5} (hp0 : R p0) : R (State.reject p0 p1 p2 p3 p4 p5) := by
  unfold State.reject
  exact closed_flagReason C (closed_resolve C hp0)

theorem closed_retireAll {p0} {p1} {p2} {p3} (hp0 : R p0) : R (State.retireAll p0 p1 p2 p3) := by
  unfold State.retireAll
  split
  · exact hp0
  · exact closed_retireAll (closed_retire C hp0)

theorem closed_retirePending {p0} {p1} {p2} (hp0 : R p0) : R (State.retirePending p0 p1 p2) := by
  unfold State.retirePending
  extract_lets +onlyGivenNames -underBinder x0
  try clear_value x0
  exact closed_retireAll C (closed_setPort C hp0)

theorem closed_retireExpired {p0} {p1} (hp0 : R p0) : R (State.retireExpired p0 p1) := by
  unfold State.retireExpired
  extract_lets +onlyGivenNames -underBinder x0
  try clear_value x0
  extract_lets +onlyGivenNames -underBinder x1
  try clear_value x1
  exact closed_retireAll C (closed_setPort C hp0)

theorem closed_sendTrigger {p0} {p1} (hp0 : R p0) : R (State.sendTrigger p0 p1) := by
  unfold State.sendTrigger
  extract_lets +onlyGivenNames -underBinder x0
  try clear_value x0
  extract_lets +onlyGivenNames -underBinder x1
  have hx1 : R x1 := closed_setPort C hp0
  try clear_value x1
  exact R_ite hx1 (closed_takeFree C (closed_emit C hx1))

theorem closed_pushTag {p0} {p1} {p2} (hp0 : R p0) : R (State.pushTag p0 p1 p2) := by
  unfold State.pushTag
  extract_lets +onlyGivenNames -underBinder x0
  try clear_value x0
  extract_lets +onlyGivenNames -underBinder x1
  have hx1 : R x1 := by
    unfold x1
    split
    · exact R_ite (closed_portFlag C (closed_resolve C (closed_setPort C hp0))) hp0
    · exact hp0
  try clear_value x1
  extract_lets +onlyGivenNames -underBinder x2
  try clear_value x2
  exact closed_raiseTo C (closed_setPort C hx1)

theorem closed_skipLines {p0} {p1} {p2} {p3} {p4} (hp0 : R p0) : R (State.skipLines p0 p1 p2 p3 p4) := by
  unfold State.skipLines
  split
  · exact hp0
  · exact closed_skipLines (closed_retire C hp0)

theorem closed_portHit {p0} {p1} {p2} (hp0 : R p0) : R (State.portHit p0 p1 p2).1 := by
  unfold State.portHit
  extract_lets +onlyGivenNames -underBinder x0
  try clear_value x0
  extract_lets +onlyGivenNames -underBinder x1
  try clear_value x1
  extract_lets +onlyGivenNames -underBinder x2
  try clear_value x2
  extract_lets +onlyGivenNames -underBinder x3
  try clear_value x3
  extract_lets +onlyGivenNames -underBinder x4
  try clear_value x4
  extract_lets +onlyGivenNames -underBinder x5
  try clear_value x5
  extract_lets +onlyGivenNames -underBinder x6
  try clear_value x6
  extract_lets +onlyGivenNames -underBinder x7
  have hx7 : R x7 := closed_setPort C hp0
  try clear_value x7
  refine R_ite_1 hx7 ?_
  extract_lets +onlyGivenNames -underBinder x8
  try clear_value x8
  extract_lets +onlyGivenNames -underBinder x9
  try clear_value x9
  extract_lets +onlyGivenNames -underBinder x10
  try clear_value x10
  extract_lets +onlyGivenNames -underBinder x11
  try clear_value x11
  extract_lets +onlyGivenNames -underBinder x12
  try clear_value x12
  extract_lets +onlyGivenNames -underBinder x13
  try clear_value x13
  extract_lets +onlyGivenNames -underBinder x14
  have hx14 : R x14 := R_ite (closed_sendTrigger C hx7) hx7
  try clear_value x14
  extract_lets +onlyGivenNames -underBinder x15
  have hx15 : R x15 := by
    unfold x15
    split
    · exact R_ite (closed_skipLines C (closed_setPort C hx14)) hx14
    · exact hx14
  try clear_value x15
  refine R_ite_1 ?_ hx15
  extract_lets +onlyGivenNames -underBinder x16
  try clear_value x16
  extract_lets +onlyGivenNames -underBinder x17
  try clear_value x17
  extract_lets +onlyGivenNames -underBinder x18
  have hx18 : R x18 := closed_setPort C hx15
  try clear_value x18
  extract_lets +onlyGivenNames -underBinder x19
  try clear_value x19
  refine R_ite_1 ?_ ?_
  · dsimp only
    exact closed_retire C hx18
  · refine R_ite_1 ?_ ?_
    · dsimp only
      exact closed_retire C hx18
    · dsimp only
      exact closed_pushTag C hx18

theorem closed_portHits {p0} {p1} {p2} (hp0 : R p0) : R (State.portHits p0 p1 p2).1 := by
  unfold State.portHits
  split
  · exact hp0
  · extract_lets +onlyGivenNames -underBinder x0
    try clear_value x0
    split
    · extract_lets +onlyGivenNames -underBinder x1
      have hx1 : R x1.1 := closed_portHit C hp0
      try clear_value x1
      extract_lets +onlyGivenNames -underBinder x2
      try clear_value x2
      extract_lets +onlyGivenNames -underBinder x3
      have hx3 : R x3.1 := closed_portHits hx1
      try clear_value x3
      exact hx3
    · exact closed_portHits hp0

theorem closed_allHits {p0} {p1} (hp0 : R p0) : R (State.allHits p0 p1).1 := by
  unfold State.allHits
  exact closed_portHits C hp0

theorem closed_portResume {p0} {p1} (hp0 : R p0) : R (State.portResume p0 p1) := by
  unfold State.portResume
  exact R_ite (closed_setPort C hp0) hp0

theorem closed_measureLine {p0} {p1} {p2} {p3} (hp0 : R p0) : R (State.measureLine p0 p1 p2 p3) := by
  unfold State.measureLine
  extract_lets +onlyGivenNames -underBinder x0
  try clear_value x0
  exact closed_sample C (closed_wr C (closed_raiseTo C (closed_wr C hp0)))

theorem closed_frameStart {p0} {p1} (hp0 : R p0) : R (State.frameStart p0 p1) := by
  unfold State.frameStart
  extract_lets +onlyGivenNames -underBinder x0
  try clear_value x0
  extract_lets +onlyGivenNames -underBinder x1
  have hx1 : R x1 := closed_setPort C hp0
  try clear_value x1
  refine R_ite hx1 ?_
  extract_lets +onlyGivenNames -underBinder x2
  try clear_value x2
  extract_lets +onlyGivenNames -underBinder x3
  have hx3 : R x3 := closed_retireExpired C (closed_setPort C hx1)
  try clear_value x3
  extract_lets +onlyGivenNames -underBinder x4
  try clear_value x4
  split
  · exact R_ite (closed_setPort C hx3) (closed_retirePending C (closed_portEvent C (closed_portFlag C (closed_setPort C hx3))))
  · exact closed_portEvent C (closed_portFlag C (closed_setPort C hx3))

theorem closed_firstPacket {p0} {p1} (hp0 : R p0) : R (State.firstPacket p0 p1) := by
  unfold State.firstPacket
  extract_lets +onlyGivenNames -underBinder x0
  try clear_value x0
  exact R_ite (closed_raiseTo C (closed_setPort C hp0)) (closed_setPort C hp0)

theorem closed_freeSlotOf {p0} {p1} (hp0 : R p0) : R (State.freeSlotOf p0 p1) := by
  unfold State.freeSlotOf
  extract_lets +onlyGivenNames -underBinder x0
  try clear_value x0
  exact closed_setPort C hp0

theorem closed_pairLine {p0} {p1} {p2} {p3} {p4} {p5} {p6} {p7} {p8} (hp0 : R p0) : R (State.pairLine p0 p1 p2 p3 p4 p5 p6 p7 p8) := by
  unfold State.pairLine
  extract_lets +onlyGivenNames -underBinder x0
  try clear_value x0
  extract_lets +onlyGivenNames -underBinder x1
  have hx1 : ∀ a2, R a2 → R (x1 a2) := by
    intro a2 ha2
    exact R_ite (closed_freeSlotOf C ha2) ha2
  try clear_value x1
  extract_lets +onlyGivenNames -underBinder x3
  try clear_value x3
  extract_lets +onlyGivenNames -underBinder x4
  try clear_value x4
  refine R_ite (closed_portFlag C (closed_bump C (hx1 _ hp0))) ?_
  extract_lets +onlyGivenNames -underBinder x5
  try clear_value x5
  extract_lets +onlyGivenNames -underBinder x6
  try clear_value x6
  extract_lets +onlyGivenNames -underBinder x7
  have hx7 : R x7 := closed_setPort C hp0
  try clear_value x7
  refine R_ite (closed_discard C (hx1 _ hx7)) ?_
  extract_lets +onlyGivenNames -underBinder x8
  have hx8 : R x8 := closed_retireExpired C hx7
  try clear_value x8
  extract_lets +onlyGivenNames -underBinder x9
  try clear_value x9
  refine R_ite (closed_bump C (hx1 _ hx8)) ?_
  refine R_ite (closed_portFlag C (closed_bump C (hx1 _ (closed_setPort C hx8)))) ?_
  split
  · exact closed_portFlag C (closed_bump C (hx1 _ hx8))
  · refine R_ite (closed_portFlag C (closed_bump C (hx1 _ hx8))) ?_
    extract_lets +onlyGivenNames -underBinder x10
    try clear_value x10
    extract_lets +onlyGivenNames -underBinder x11
    have hx11 : R x11 := closed_measureLine C (closed_setPort C hx8)
    try clear_value x11
    extract_lets +onlyGivenNames -underBinder x12
    try clear_value x12
    exact R_ite (closed_reject C (hx1 _ hx11)) (R_ite (closed_reject C (hx1 _ hx11)) (R_ite (closed_reject C hx11) (closed_resolve C hx11)))

theorem closed_lineComplete {p0} {p1} {p2} {p3} {p4} {p5} {p6} {p7} (hp0 : R p0) : R (State.lineComplete p0 p1 p2 p3 p4 p5 p6 p7) := by
  unfold State.lineComplete
  extract_lets +onlyGivenNames -underBinder x0
  have hx0 : R x0 := R_ite (closed_firstPacket C hp0) hp0
  try clear_value x0
  extract_lets +onlyGivenNames -underBinder x1
  try clear_value x1
  extract_lets +onlyGivenNames -underBinder x2
  try clear_value x2
  exact closed_pairLine C (closed_setPort C hx0)

theorem closed_frameEnd {p0} {p1} (hp0 : R p0) : R (State.frameEnd p0 p1) := by
  unfold State.frameEnd
  extract_lets +onlyGivenNames -underBinder x0
  try clear_value x0
  refine R_ite hp0 ?_
  refine R_ite (closed_setPort C hp0) ?_
  split
  · exact hp0
  · refine R_ite hp0 ?_
    extract_lets +onlyGivenNames -underBinder x1
    try clear_value x1
    extract_lets +onlyGivenNames -underBinder x2
    have hx2 : R x2 := closed_setPort C hp0
    try clear_value x2
    exact closed_portFlag C (closed_bumpSat C (closed_retireAll C hx2))

theorem closed_linkLost {p0} {p1} (hp0 : R p0) : R (State.linkLost p0 p1) := by
  unfold State.linkLost
  extract_lets +onlyGivenNames -underBinder x0
  try clear_value x0
  refine R_ite hp0 ?_
  extract_lets +onlyGivenNames -underBinder x1
  have hx1 : R x1 := closed_portFlag C (closed_wr C (closed_wr C (closed_wr C hp0)))
  try clear_value x1
  extract_lets +onlyGivenNames -underBinder x2
  have hx2 : R x2 := closed_portEvent C (closed_bumpSat C hx1)
  try clear_value x2
  extract_lets +onlyGivenNames -underBinder x3
  try clear_value x3
  exact closed_retirePending C (closed_setPort C hx2)

theorem closed_portSearches {p0} {p1} (hp0 : R p0) : R (State.portSearches p0 p1) := by
  unfold State.portSearches
  extract_lets +onlyGivenNames -underBinder x0
  have hx0 : R x0 := closed_linkLost C hp0
  try clear_value x0
  extract_lets +onlyGivenNames -underBinder x1
  try clear_value x1
  extract_lets +onlyGivenNames -underBinder x2
  have hx2 : R x2 := closed_setPort C hx0
  try clear_value x2
  exact closed_wr C hx2

theorem closed_discoveryBegins {p0} (hp0 : R p0) : R (State.discoveryBegins p0) := by
  unfold State.discoveryBegins
  exact R_foldl hp0 (fun _ _ ht0 => closed_portSearches C ht0)

theorem closed_linksStop {p0} (hp0 : R p0) : R (State.linksStop p0) := by
  unfold State.linksStop
  exact R_foldl hp0 (fun _ _ ht0 => closed_linkLost C ht0)

theorem closed_laneCountWritten {p0} {p1} (hp0 : R p0) : R (State.laneCountWritten p0 p1) := by
  unfold State.laneCountWritten
  extract_lets +onlyGivenNames -underBinder x0
  try clear_value x0
  extract_lets +onlyGivenNames -underBinder x1
  try clear_value x1
  extract_lets +onlyGivenNames -underBinder x2
  have hx2 : R x2 := closed_setPort C hp0
  try clear_value x2
  exact R_ite (closed_wr C (closed_wr C (closed_wr C (closed_setPort C hx2)))) (R_ite (closed_wr C hx2) hx2)

theorem closed_portTruncate {p0} {p1} (hp0 : R p0) : R (State.portTruncate p0 p1) := by
  unfold State.portTruncate
  extract_lets +onlyGivenNames -underBinder x0
  try clear_value x0
  extract_lets +onlyGivenNames -underBinder x1
  have hx1 : R x1 := closed_setPort C hp0
  try clear_value x1
  extract_lets +onlyGivenNames -underBinder x2
  have hx2 : R x2 := closed_retirePending C hx1
  try clear_value x2
  extract_lets +onlyGivenNames -underBinder x3
  have hx3 : R x3 := closed_sendResolved C hx2
  try clear_value x3
  exact closed_closeStrip C hx3

theorem closed_portStarts {p0} {p1} {p2} (hp0 : R p0) : R (State.portStarts p0 p1 p2) := by
  unfold State.portStarts
  extract_lets +onlyGivenNames -underBinder x0
  try clear_value x0
  exact closed_setPort C hp0

theorem closed_portStops {p0} {p1} (hp0 : R p0) : R (State.portStops p0 p1) := by
  unfold State.portStops
  extract_lets +onlyGivenNames -underBinder x0
  try clear_value x0
  exact closed_setPort C hp0

theorem closed_controlSend {p0} {p1} {p2} (hp0 : R p0) : R (State.controlSend p0 p1 p2).1 := by
  unfold State.controlSend
  refine R_ite_1 hp0 ?_
  refine R_ite_1 hp0 ?_
  refine R_ite_1 hp0 ?_
  dsimp only
  exact closed_emit C (closed_wr C hp0)

theorem closed_controlAnswer {p0} {p1} {p2} {p3} (hp0 : R p0) : R (State.controlAnswer p0 p1 p2 p3) := by
  unfold State.controlAnswer
  refine R_ite hp0 ?_
  extract_lets +onlyGivenNames -underBinder x0
  try clear_value x0
  exact closed_wro C (closed_wr C hp0)

theorem closed_controlTimesOut {p0} {p1} (hp0 : R p0) : R (State.controlTimesOut p0 p1) := by
  unfold State.controlTimesOut
  exact R_ite (closed_portFlag C (closed_wr C hp0)) hp0

theorem closed_cameraEvent {p0} {p1} {p2} (hp0 : R p0) : R (State.cameraEvent p0 p1 p2) := by
  unfold State.cameraEvent
  exact closed_portEvent C (closed_portFlag C (closed_wro C (closed_bump C hp0)))

end Sys2Proof.Laws
end

