-- ==== Sys2Proof/Laws/ClosedStxStore.lean ====
section
/-! SUPPORT. What a closed property of states keeps through the operations of Machine/StxStore.lean. -/

namespace Sys2Proof.Laws

open Sys2Proof.Machine

set_option linter.unusedSectionVars false
set_option Elab.async false

variable {R : State → Prop} (C : Closed R)
include C

theorem closed_setStxCam {p0} {p1} {p2} (hp0 : R p0) : R (State.setStxCam p0 p1 p2) := by
  unfold State.setStxCam
  exact C.same_ hp0

theorem closed_stxTake {p0} {p1} {p2} (hp0 : R p0) : R (State.stxTake p0 p1 p2) := by
  unfold State.stxTake
  refine R_ite (closed_discard C hp0) ?_
  extract_lets +onlyGivenNames -underBinder x0
  try clear_value x0
  exact closed_setStxCam C hp0

theorem closed_stxClose {p0} {p1} {p2} (hp0 : R p0) : R (State.stxClose p0 p1 p2) := by
  unfold State.stxClose
  exact R_ite (closed_setStxCam C hp0) hp0

end Sys2Proof.Laws
end

