-- ==== Sys2Proof/Laws/ClosedPfc.lean ====
section
/-! SUPPORT. What a closed property of states keeps through the operations of Machine/Pfc.lean. -/

namespace Sys2Proof.Laws

open Sys2Proof.Machine

set_option linter.unusedSectionVars false
set_option Elab.async false

variable {R : State → Prop} (C : Closed R)
include C

theorem closed_pfcArms {p0} (hp0 : R p0) : R (State.pfcArms p0) := by
  unfold State.pfcArms
  extract_lets +onlyGivenNames -underBinder x0
  try clear_value x0
  extract_lets +onlyGivenNames -underBinder x1
  try clear_value x1
  extract_lets +onlyGivenNames -underBinder x2
  have hx2 : R x2 := C.same_ hp0
  try clear_value x2
  exact closed_wr C (closed_wr C hx2)

theorem closed_pfcStarts {p0} {p1} (hp0 : R p0) : R (State.pfcStarts p0 p1) := by
  unfold State.pfcStarts
  extract_lets +onlyGivenNames -underBinder x0
  try clear_value x0
  exact C.same_ hp0

theorem closed_pfcTake {p0} {p1} {p2} (hp0 : R p0) : R (State.pfcTake p0 p1 p2) := by
  unfold State.pfcTake
  refine R_ite ?_ hp0
  extract_lets +onlyGivenNames -underBinder x0
  try clear_value x0
  exact C.same_ hp0

theorem closed_pfcBoundary {p0} (hp0 : R p0) : R (State.pfcBoundary p0) := by
  unfold State.pfcBoundary
  exact closed_forceAll C hp0

theorem closed_pfcHeader {p0} {p1} {p2} {p3} (hp0 : R p0) : R (State.pfcHeader p0 p1 p2 p3) := by
  unfold State.pfcHeader
  extract_lets +onlyGivenNames -underBinder x0
  try clear_value x0
  refine R_ite (closed_discard C hp0) ?_
  extract_lets +onlyGivenNames -underBinder x1
  have hx1 : R x1 := R_ite (closed_pfcBoundary C hp0) hp0
  try clear_value x1
  extract_lets +onlyGivenNames -underBinder x2
  try clear_value x2
  extract_lets +onlyGivenNames -underBinder x3
  try clear_value x3
  exact C.same_ hx1

theorem closed_streakRun {p0} {p1} {p2} {p3} {p4} {p5} {p6} {p7} (hp0 : R p0) : R (State.streakRun p0 p1 p2 p3 p4 p5 p6 p7).1 := by
  unfold State.streakRun
  split
  · split
    · extract_lets +onlyGivenNames -underBinder x0
      try clear_value x0
      extract_lets +onlyGivenNames -underBinder x1
      try clear_value x1
      exact hp0
    · refine R_ite_1 ?_ ?_
      · extract_lets +onlyGivenNames -underBinder x2
        have hx2 : R x2 := closed_setBit C (closed_bump C hp0)
        try clear_value x2
        extract_lets +onlyGivenNames -underBinder x3
        try clear_value x3
        refine R_ite_1 hx2 ?_
        dsimp only
        exact closed_cross C (C.same_ hx2)
      · extract_lets +onlyGivenNames -underBinder x4
        try clear_value x4
        extract_lets +onlyGivenNames -underBinder x5
        try clear_value x5
        dsimp only
        exact closed_cross C hp0

theorem closed_streakRuns {p0} {p1} {p2} {p3} {p4} {p5} {p6} {p7} (hp0 : R p0) : R (State.streakRuns p0 p1 p2 p3 p4 p5 p6 p7).1 := by
  unfold State.streakRuns
  split
  · exact hp0
  · extract_lets +onlyGivenNames -underBinder x0
    have hx0 : R x0.1 := closed_streakRun C hp0
    try clear_value x0
    exact closed_streakRuns hx0

theorem closed_endStreak {p0} {p1} {p2} {p3} (hp0 : R p0) : R (State.endStreak p0 p1 p2 p3) := by
  unfold State.endStreak
  extract_lets +onlyGivenNames -underBinder x0
  try clear_value x0
  extract_lets +onlyGivenNames -underBinder x1
  try clear_value x1
  extract_lets +onlyGivenNames -underBinder x2
  have hx2 : R x2 := C.same_ hp0
  try clear_value x2
  extract_lets +onlyGivenNames -underBinder x3
  have hx3 : R x3 := closed_cross C (closed_bump C hx2)
  try clear_value x3
  exact R_ite (closed_push C hx3) hx3

theorem closed_endStreaks {p0} {p1} {p2} {p3} (hp0 : R p0) : R (State.endStreaks p0 p1 p2 p3) := by
  unfold State.endStreaks
  split
  · exact hp0
  · exact closed_endStreaks (closed_endStreak C hp0)

theorem closed_showStreaks {p0} (hp0 : R p0) : R (State.showStreaks p0) := by
  unfold State.showStreaks
  exact closed_wr C hp0

theorem closed_streaksOf {p0} {p1} {p2} {p3} {p4} {p5} (hp0 : R p0) : R (State.streaksOf p0 p1 p2 p3 p4 p5) := by
  unfold State.streaksOf
  extract_lets +onlyGivenNames -underBinder x0
  try clear_value x0
  extract_lets +onlyGivenNames -underBinder x1
  try clear_value x1
  extract_lets +onlyGivenNames -underBinder x2
  have hx2 : R x2.1 := closed_streakRuns C hp0
  try clear_value x2
  extract_lets +onlyGivenNames -underBinder x3
  try clear_value x3
  extract_lets +onlyGivenNames -underBinder x4
  try clear_value x4
  extract_lets +onlyGivenNames -underBinder x5
  try clear_value x5
  extract_lets +onlyGivenNames -underBinder x6
  try clear_value x6
  extract_lets +onlyGivenNames -underBinder x7
  have hx7 : R x7 := hx2
  try clear_value x7
  extract_lets +onlyGivenNames -underBinder x8
  try clear_value x8
  extract_lets +onlyGivenNames -underBinder x9
  have hx9 : R x9 := C.same_ hx7
  try clear_value x9
  exact closed_showStreaks C (closed_endStreaks C (closed_endStreaks C hx9))

theorem closed_swapEffect {p0} (hp0 : R p0) : R (State.swapEffect p0) := by
  unfold State.swapEffect
  extract_lets +onlyGivenNames -underBinder x0
  try clear_value x0
  refine R_ite ?_ hp0
  extract_lets +onlyGivenNames -underBinder x1
  try clear_value x1
  extract_lets +onlyGivenNames -underBinder x2
  try clear_value x2
  extract_lets +onlyGivenNames -underBinder x3
  have hx3 : R x3 := C.same_ hp0
  try clear_value x3
  extract_lets +onlyGivenNames -underBinder x4
  have hx4 : R x4 := closed_clearBit C (closed_bump C (closed_wr C hx3))
  try clear_value x4
  exact closed_cross C (closed_putBit C hx4)

theorem closed_fadeStep {p0} (hp0 : R p0) : R (State.fadeStep p0) := by
  unfold State.fadeStep
  split
  · exact hp0
  · refine R_ite (C.same_ hp0) ?_
    extract_lets +onlyGivenNames -underBinder x0
    try clear_value x0
    extract_lets +onlyGivenNames -underBinder x1
    have hx1 : R x1 := C.same_ hp0
    try clear_value x1
    exact closed_cross C (closed_clearBit C hx1)

theorem closed_settleBanks {p0} (hp0 : R p0) : R (State.settleBanks p0) := by
  unfold State.settleBanks
  extract_lets +onlyGivenNames -underBinder x0
  have hx0 : ∀ a1 a2, R a1 → R (x0 a1 a2) := by
    intro a1 a2 ha1
    exact closed_wr C ha1
  try clear_value x0
  exact hx0 _ _ (hx0 _ _ hp0)

theorem closed_pfcOutput {p0} (hp0 : R p0) : R (State.pfcOutput p0) := by
  unfold State.pfcOutput
  split
  · exact hp0
  · refine R_ite hp0 ?_
    extract_lets +onlyGivenNames -underBinder x0
    have hx0 : R x0 := closed_swapEffect C hp0
    try clear_value x0
    extract_lets +onlyGivenNames -underBinder x1
    try clear_value x1
    extract_lets +onlyGivenNames -underBinder x2
    try clear_value x2
    extract_lets +onlyGivenNames -underBinder x3
    try clear_value x3
    extract_lets +onlyGivenNames -underBinder x4
    try clear_value x4
    extract_lets +onlyGivenNames -underBinder x5
    try clear_value x5
    extract_lets +onlyGivenNames -underBinder x6
    try clear_value x6
    extract_lets +onlyGivenNames -underBinder x7
    try clear_value x7
    extract_lets +onlyGivenNames -underBinder x8
    try clear_value x8
    extract_lets +onlyGivenNames -underBinder x9
    try clear_value x9
    extract_lets +onlyGivenNames -underBinder x10
    have hx10 : R x10 := C.same_ hx0
    try clear_value x10
    extract_lets +onlyGivenNames -underBinder x11
    have hx11 : R x11 := closed_bump C (closed_bump C hx10)
    try clear_value x11
    extract_lets +onlyGivenNames -underBinder x12
    have hx12 : R x12 := closed_wro C hx11
    try clear_value x12
    extract_lets +onlyGivenNames -underBinder x13
    have hx13 : R x13 := R_ite (closed_setBit C hx12) hx12
    try clear_value x13
    extract_lets +onlyGivenNames -underBinder x14
    have hx14 : R x14 := closed_streaksOf C hx13
    try clear_value x14
    exact closed_settleBanks C (closed_fadeStep C hx14)

theorem closed_streakEnqueue {p0} (hp0 : R p0) : R (State.streakEnqueue p0) := by
  unfold State.streakEnqueue
  split
  · exact hp0
  · exact R_ite (closed_showStreaks C (C.same_ hp0)) hp0

theorem closed_pfcTruncate {p0} (hp0 : R p0) : R (State.pfcTruncate p0) := by
  unfold State.pfcTruncate
  extract_lets +onlyGivenNames -underBinder x0
  try clear_value x0
  extract_lets +onlyGivenNames -underBinder x1
  try clear_value x1
  extract_lets +onlyGivenNames -underBinder x2
  have hx2 : R x2 := C.same_ hp0
  try clear_value x2
  exact closed_showStreaks C (closed_endStreaks C hx2)

theorem closed_pfcDrain {p0} (hp0 : R p0) : R (State.pfcDrain p0) := by
  unfold State.pfcDrain
  exact R_ite (closed_pfcTruncate C hp0) hp0

theorem closed_pfcStops {p0} (hp0 : R p0) : R (State.pfcStops p0) := by
  unfold State.pfcStops
  exact C.same_ hp0

theorem closed_swapRequest {p0} (hp0 : R p0) : R (State.swapRequest p0).1 := by
  unfold State.swapRequest
  refine R_ite_1 ?_ ?_
  · dsimp only
    exact closed_bumpSat C (closed_setBit C hp0)
  · extract_lets +onlyGivenNames -underBinder x0
    try clear_value x0
    extract_lets +onlyGivenNames -underBinder x1
    try clear_value x1
    extract_lets +onlyGivenNames -underBinder x2
    have hx2 : R x2 := C.same_ hp0
    try clear_value x2
    dsimp only
    exact R_ite (closed_setBit C hx2) hx2

theorem closed_swapCancel {p0} (hp0 : R p0) : R (State.swapCancel p0) := by
  unfold State.swapCancel
  exact closed_clearBit C (C.same_ hp0)

theorem closed_bankUnsettled {p0} {p1} (hp0 : R p0) : R (State.bankUnsettled p0 p1) := by
  unfold State.bankUnsettled
  exact closed_wr C hp0

end Sys2Proof.Laws
end

