-- ==== Sys2Proof/Laws/ClosedIpl.lean ====
section
/-! SUPPORT. What a closed property of states keeps through the operations of Machine/Ipl.lean. -/

namespace Sys2Proof.Laws

open Sys2Proof.Machine

set_option linter.unusedSectionVars false
set_option Elab.async false

variable {R : State → Prop} (C : Closed R)
include C

theorem closed_setIplCam {p0} {p1} {p2} (hp0 : R p0) : R (State.setIplCam p0 p1 p2) := by
  unfold State.setIplCam
  exact C.same_ hp0

theorem closed_calTakes {p0} {p1} {p2} {p3} (hp0 : R p0) : R (State.calTakes p0 p1 p2 p3) := by
  unfold State.calTakes
  split
  · exact hp0
  · extract_lets +onlyGivenNames -underBinder x0
    try clear_value x0
    refine R_ite hp0 ?_
    split
    · exact closed_calCam C hp0
    · extract_lets +onlyGivenNames -underBinder x1
      try clear_value x1
      extract_lets +onlyGivenNames -underBinder x2
      try clear_value x2
      extract_lets +onlyGivenNames -underBinder x3
      try clear_value x3
      extract_lets +onlyGivenNames -underBinder x4
      try clear_value x4
      extract_lets +onlyGivenNames -underBinder x5
      try clear_value x5
      extract_lets +onlyGivenNames -underBinder x6
      try clear_value x6
      extract_lets +onlyGivenNames -underBinder x7
      try clear_value x7
      extract_lets +onlyGivenNames -underBinder x8
      try clear_value x8
      exact closed_calCam C hp0

theorem closed_calStripEnds {p0} {p1} {p2} (hp0 : R p0) : R (State.calStripEnds p0 p1 p2) := by
  unfold State.calStripEnds
  split
  · exact R_ite (closed_calMeasured C (closed_calCam C hp0)) hp0
  · exact hp0

theorem closed_pushStats {p0} {p1} {p2} {p3} {p4} (hp0 : R p0) : R (State.pushStats p0 p1 p2 p3 p4) := by
  unfold State.pushStats
  extract_lets +onlyGivenNames -underBinder x0
  try clear_value x0
  extract_lets +onlyGivenNames -underBinder x1
  try clear_value x1
  extract_lets +onlyGivenNames -underBinder x2
  try clear_value x2
  extract_lets +onlyGivenNames -underBinder x3
  try clear_value x3
  extract_lets +onlyGivenNames -underBinder x4
  try clear_value x4
  extract_lets +onlyGivenNames -underBinder x5
  try clear_value x5
  extract_lets +onlyGivenNames -underBinder x6
  try clear_value x6
  extract_lets +onlyGivenNames -underBinder x7
  have hx7 : R x7 := closed_setIplCam C hp0
  try clear_value x7
  refine R_ite hx7 ?_
  extract_lets +onlyGivenNames -underBinder x8
  have hx8 : R x8 := closed_bump C (closed_push C hx7)
  try clear_value x8
  exact closed_cross C hx8

theorem closed_remapStep {p0} {p1} (hp0 : R p0) : R (State.remapStep p0 p1) := by
  unfold State.remapStep
  extract_lets +onlyGivenNames -underBinder x0
  try clear_value x0
  split
  · exact hp0
  · extract_lets +onlyGivenNames -underBinder x1
    try clear_value x1
    extract_lets +onlyGivenNames -underBinder x2
    try clear_value x2
    extract_lets +onlyGivenNames -underBinder x3
    have hx3 : R x3 := closed_wro C hp0
    try clear_value x3
    extract_lets +onlyGivenNames -underBinder x4
    have hx4 : R x4 := closed_setIplCam C hx3
    try clear_value x4
    exact R_ite hx4 (closed_calArrived C hx4)

theorem closed_remapWrite {p0} {p1} {p2} (hp0 : R p0) : R (State.remapWrite p0 p1 p2) := by
  unfold State.remapWrite
  extract_lets +onlyGivenNames -underBinder x0
  try clear_value x0
  extract_lets +onlyGivenNames -underBinder x1
  try clear_value x1
  extract_lets +onlyGivenNames -underBinder x2
  try clear_value x2
  exact R_ite (closed_setIplCam C hp0) (closed_calArrived C (closed_wro C (closed_setIplCam C hp0)))

theorem closed_putLine {p0} {p1} {p2} {p3} {p4} (hp0 : R p0) : R (State.putLine p0 p1 p2 p3 p4) := by
  unfold State.putLine
  extract_lets +onlyGivenNames -underBinder x0
  try clear_value x0
  extract_lets +onlyGivenNames -underBinder x1
  try clear_value x1
  extract_lets +onlyGivenNames -underBinder x2
  try clear_value x2
  extract_lets +onlyGivenNames -underBinder x3
  try clear_value x3
  extract_lets +onlyGivenNames -underBinder x4
  try clear_value x4
  extract_lets +onlyGivenNames -underBinder x5
  try clear_value x5
  extract_lets +onlyGivenNames -underBinder x6
  have hx6 : R x6 := closed_setIplCam C hp0
  try clear_value x6
  extract_lets +onlyGivenNames -underBinder x7
  have hx7 : R x7 := R_ite (closed_bump C hx6) (closed_bump C hx6)
  try clear_value x7
  extract_lets +onlyGivenNames -underBinder x8
  have hx8 : R x8 := R_ite (closed_setBit C (closed_bump C hx7)) hx7
  try clear_value x8
  extract_lets +onlyGivenNames -underBinder x9
  try clear_value x9
  exact closed_pfcTake C (closed_stxTake C hx8)

theorem closed_colourBoundary {p0} {p1} {p2} (hp0 : R p0) : R (State.colourBoundary p0 p1 p2) := by
  unfold State.colourBoundary
  extract_lets +onlyGivenNames -underBinder x0
  try clear_value x0
  exact R_ite (closed_setIplCam C hp0) hp0

theorem closed_passCloses {p0} {p1} {p2} {p3} {p4} (hp0 : R p0) : R (State.passCloses p0 p1 p2 p3 p4) := by
  unfold State.passCloses
  split
  · exact hp0
  · extract_lets +onlyGivenNames -underBinder x0
    try clear_value x0
    split
    · exact hp0
    · refine R_ite ?_ hp0
      extract_lets +onlyGivenNames -underBinder x1
      have hx1 : R x1 := closed_setIplCam C hp0
      try clear_value x1
      extract_lets +onlyGivenNames -underBinder x2
      try clear_value x2
      extract_lets +onlyGivenNames -underBinder x3
      have hx3 : R x3 := R_ite (closed_pushStats C hx1) (closed_setIplCam C hx1)
      try clear_value x3
      exact closed_passCloses (closed_stxClose C hx3)

theorem closed_emitLines {p0} {p1} {p2} {p3} (hp0 : R p0) : R (State.emitLines p0 p1 p2 p3) := by
  induction p3 generalizing p0 with
  | zero => exact hp0
  | succ n ih =>
    unfold State.emitLines
    extract_lets +onlyGivenNames -underBinder x0
    split
    · refine R_ite ?_ hp0
      split
      · exact hp0
      · extract_lets +onlyGivenNames -underBinder x1
        have hx1 : R x1 := closed_remapStep C (closed_colourBoundary C hp0)
        clear_value x1
        split
        extract_lets +onlyGivenNames -underBinder x2
        have hx2 : R x2 := closed_putLine C hx1
        clear_value x2
        exact ih (closed_passCloses C hx2)
    · exact hp0

theorem closed_flushCam {p0} {p1} (hp0 : R p0) : R (State.flushCam p0 p1) := by
  unfold State.flushCam
  extract_lets +onlyGivenNames -underBinder x0
  try clear_value x0
  exact closed_passCloses C (closed_emitLines C hp0)

theorem closed_camBoundary {p0} {p1} (hp0 : R p0) : R (State.camBoundary p0 p1) := by
  unfold State.camBoundary
  extract_lets +onlyGivenNames -underBinder x0
  try clear_value x0
  extract_lets +onlyGivenNames -underBinder x1
  have hx1 : R x1 := closed_forceAll C hp0
  try clear_value x1
  extract_lets +onlyGivenNames -underBinder x2
  have hx2 : R x2 := R_foldl hx1 (fun _ _ ht3 => closed_forceo C ht3)
  try clear_value x2
  extract_lets +onlyGivenNames -underBinder x4
  have hx4 : R x4 := closed_wr C hx2
  try clear_value x4
  extract_lets +onlyGivenNames -underBinder x5
  have hx5 : R x5 := R_foldl hx4 (fun _ _ ht6 => closed_calArrived C ht6)
  try clear_value x5
  extract_lets +onlyGivenNames -underBinder x7
  have hx7 : R x7 := closed_wr C hx5
  try clear_value x7
  extract_lets +onlyGivenNames -underBinder x8
  try clear_value x8
  exact closed_setIplCam C hx7

theorem closed_setSpare {p0} {p1} {p2} (hp0 : R p0) : R (State.setSpare p0 p1 p2) := by
  unfold State.setSpare
  extract_lets +onlyGivenNames -underBinder x0
  have hx0 : R x0 := closed_wr C hp0
  try clear_value x0
  extract_lets +onlyGivenNames -underBinder x1
  have hx1 : R x1 := C.same_ hx0
  try clear_value x1
  refine R_ite ?_ (R_ite (closed_enter C hx1) hx1)
  extract_lets +onlyGivenNames -underBinder x2
  try clear_value x2
  extract_lets +onlyGivenNames -underBinder x3
  have hx3 : R x3 := R_ite (closed_clearBit C (closed_clearBit C hx1)) hx1
  try clear_value x3
  extract_lets +onlyGivenNames -underBinder x4
  have hx4 : R x4 := closed_clearBit C (closed_clearBit C (closed_wr C (closed_wr C hx3)))
  try clear_value x4
  exact R_ite (closed_enter C hx4) hx4

theorem closed_spareTarget {p0} {p1} (hp0 : R p0) : R (State.spareTarget p0 p1) := by
  unfold State.spareTarget
  exact closed_wr C (closed_wr C (closed_setSpare C (closed_wr C hp0)))

theorem closed_spareLoaded {p0} {p1} (hp0 : R p0) : R (State.spareLoaded p0 p1) := by
  unfold State.spareLoaded
  extract_lets +onlyGivenNames -underBinder x0
  try clear_value x0
  exact R_ite (closed_wr C (C.same_ hp0)) hp0

theorem closed_setPipe {p0} {p1} {p2} (hp0 : R p0) : R (State.setPipe p0 p1 p2) := by
  unfold State.setPipe
  exact C.same_ hp0

theorem closed_pipeBegins {p0} {p1} {p2} (hp0 : R p0) : R (State.pipeBegins p0 p1 p2) := by
  unfold State.pipeBegins
  exact R_foldl (closed_setPipe C hp0) (fun _ _ ht0 => closed_setIplCam C ht0)

theorem closed_spareTakes {p0} {p1} {p2} {p3} {p4} (hp0 : R p0) : R (State.spareTakes p0 p1 p2 p3 p4) := by
  unfold State.spareTakes
  extract_lets +onlyGivenNames -underBinder x0
  have hx0 : R x0 := closed_wr C (closed_bump C (closed_setSpare C hp0))
  try clear_value x0
  extract_lets +onlyGivenNames -underBinder x1
  have hx1 : R x1 := closed_setBit C (closed_setBit C (closed_clearBit C hx0))
  try clear_value x1
  exact closed_cross C hx1

theorem closed_spareBoundary {p0} {p1} {p2} {p3} {p4} (hp0 : R p0) : R (State.spareBoundary p0 p1 p2 p3 p4) := by
  unfold State.spareBoundary
  extract_lets +onlyGivenNames -underBinder x0
  try clear_value x0
  extract_lets +onlyGivenNames -underBinder x1
  try clear_value x1
  refine R_ite hp0 ?_
  refine R_ite ?_ ?_
  · refine R_ite ?_ (R_ite (closed_spareTakes C (closed_pipeBegins C hp0)) hp0)
    extract_lets +onlyGivenNames -underBinder x2
    have hx2 : R x2 := closed_wr C (closed_setSpare C hp0)
    try clear_value x2
    exact closed_cross C (closed_setBit C hx2)
  · refine R_ite (closed_spareTakes C (R_ite (closed_enter C hp0) hp0)) ?_
    refine R_ite ?_ hp0
    split
    · exact closed_cross C (closed_setBit C (closed_setSpare C hp0))
    · refine R_ite ?_ hp0
      extract_lets +onlyGivenNames -underBinder x3
      try clear_value x3
      extract_lets +onlyGivenNames -underBinder x4
      have hx4 : R x4 := closed_setPipe C hp0
      try clear_value x4
      extract_lets +onlyGivenNames -underBinder x5
      have hx5 : R x5 := closed_wr C (closed_setSpare C hx4)
      try clear_value x5
      exact closed_cross C hx5

theorem closed_pipeBoundary {p0} {p1} {p2} {p3} {p4} (hp0 : R p0) : R (State.pipeBoundary p0 p1 p2 p3 p4) := by
  unfold State.pipeBoundary
  exact R_ite (closed_spareBoundary C (closed_setPipe C hp0)) hp0

theorem closed_shadowDiffers {p0} {p1} {p2} {p3} {p4} (hp0 : R p0) : R (State.shadowDiffers p0 p1 p2 p3 p4) := by
  unfold State.shadowDiffers
  extract_lets +onlyGivenNames -underBinder x0
  try clear_value x0
  extract_lets +onlyGivenNames -underBinder x1
  try clear_value x1
  exact R_ite (closed_setBit C (closed_bump C hp0)) hp0

theorem closed_camLine {p0} {p1} {p2} {p3} (hp0 : R p0) : R (State.camLine p0 p1 p2 p3) := by
  unfold State.camLine
  extract_lets +onlyGivenNames -underBinder x0
  try clear_value x0
  extract_lets +onlyGivenNames -underBinder x1
  have hx1 : R x1 := closed_flushCam C hp0
  try clear_value x1
  extract_lets +onlyGivenNames -underBinder x2
  try clear_value x2
  extract_lets +onlyGivenNames -underBinder x3
  have hx3 : R x3 := R_ite (closed_setIplCam C hx1) hp0
  try clear_value x3
  extract_lets +onlyGivenNames -underBinder x4
  try clear_value x4
  extract_lets +onlyGivenNames -underBinder x5
  try clear_value x5
  extract_lets +onlyGivenNames -underBinder x6
  have hx6 : R x6 := R_ite (closed_setIplCam C hx3) hx3
  try clear_value x6
  extract_lets +onlyGivenNames -underBinder x7
  have hx7 : R x7 := closed_calTakes C (R_ite (closed_camBoundary C hx6) hx6)
  try clear_value x7
  extract_lets +onlyGivenNames -underBinder x8
  try clear_value x8
  extract_lets +onlyGivenNames -underBinder x9
  try clear_value x9
  extract_lets +onlyGivenNames -underBinder x10
  try clear_value x10
  extract_lets +onlyGivenNames -underBinder x11
  try clear_value x11
  extract_lets +onlyGivenNames -underBinder x12
  try clear_value x12
  extract_lets +onlyGivenNames -underBinder x13
  have hx13 : R x13 := closed_setIplCam C hx7
  try clear_value x13
  extract_lets +onlyGivenNames -underBinder x14
  try clear_value x14
  exact closed_emitLines C (closed_raiseTo C hx13)

theorem closed_camClose {p0} {p1} {p2} (hp0 : R p0) : R (State.camClose p0 p1 p2) := by
  unfold State.camClose
  extract_lets +onlyGivenNames -underBinder x0
  have hx0 : R x0 := closed_calStripEnds C hp0
  try clear_value x0
  extract_lets +onlyGivenNames -underBinder x1
  try clear_value x1
  extract_lets +onlyGivenNames -underBinder x2
  have hx2 : R x2 := closed_setIplCam C hx0
  try clear_value x2
  extract_lets +onlyGivenNames -underBinder x3
  try clear_value x3
  extract_lets +onlyGivenNames -underBinder x4
  have hx4 : R x4 := R_ite (closed_pushStats C hx2) (closed_setIplCam C hx2)
  try clear_value x4
  exact R_ite (closed_flushCam C hx4) (closed_passCloses C hx4)

theorem closed_iplInput {p0} {p1} {p2} (hp0 : R p0) : R (State.iplInput p0 p1 p2) := by
  unfold State.iplInput
  split
  · exact hp0
  · extract_lets +onlyGivenNames -underBinder x0
    have hx0 : R x0 := C.same_ hp0
    try clear_value x0
    split
    · extract_lets +onlyGivenNames -underBinder x1
      exact R_ite (closed_camClose C hx0) hx0
    · extract_lets +onlyGivenNames -underBinder x2
      extract_lets +onlyGivenNames -underBinder x3
      have hx3 : R x3 := closed_pipeBoundary C hx0
      try clear_value x3
      exact R_ite (closed_setPort C (closed_shadowDiffers C (closed_camLine C (closed_tally C hx3)))) (closed_setPort C (closed_discard C hx3))
    · extract_lets +onlyGivenNames -underBinder x4
      extract_lets +onlyGivenNames -underBinder x5
      have hx5 : R x5 := closed_pipeBoundary C hx0
      try clear_value x5
      exact R_ite (closed_camLine C hx5) (closed_discard C hx5)

theorem closed_iplArms {p0} {p1} (hp0 : R p0) : R (State.iplArms p0 p1) := by
  unfold State.iplArms
  exact closed_wr C hp0

theorem closed_iplStops {p0} {p1} (hp0 : R p0) : R (State.iplStops p0 p1) := by
  unfold State.iplStops
  refine R_ite hp0 ?_
  refine R_foldl hp0 (fun _ _ ht0 => ?_)
  extract_lets +onlyGivenNames -underBinder x1
  try clear_value x1
  extract_lets +onlyGivenNames -underBinder x2
  try clear_value x2
  extract_lets +onlyGivenNames -underBinder x3
  have hx3 : R x3 := closed_setIplCam C ht0
  try clear_value x3
  exact R_ite (closed_flushCam C hx3) hx3

theorem closed_markRest {p0} {p1} {p2} {p3} (hp0 : R p0) : R (State.markRest p0 p1 p2 p3) := by
  induction p3 generalizing p0 with
  | zero => exact hp0
  | succ n ih =>
    rw [State.markRest]
    split
    · exact hp0
    · split
      · exact hp0
      · exact ih (closed_passCloses C (closed_putLine C hp0))

theorem closed_truncateCam {p0} {p1} (hp0 : R p0) : R (State.truncateCam p0 p1) := by
  unfold State.truncateCam
  extract_lets +onlyGivenNames -underBinder x0
  try clear_value x0
  extract_lets +onlyGivenNames -underBinder x1
  have hx1 : R x1 := closed_passCloses C (closed_markRest C hp0)
  try clear_value x1
  extract_lets +onlyGivenNames -underBinder x2
  try clear_value x2
  extract_lets +onlyGivenNames -underBinder x3
  have hx3 : R x3 := by
    unfold x3
    split
    · exact hx1
    · exact closed_pushStats C hx1
  try clear_value x3
  exact closed_setIplCam C hx3

theorem closed_iplTruncate {p0} {p1} (hp0 : R p0) : R (State.iplTruncate p0 p1) := by
  unfold State.iplTruncate
  exact R_ite hp0 (R_foldl hp0 (fun _ _ ht0 => closed_truncateCam C ht0))

theorem closed_spareLost {p0} {p1} (hp0 : R p0) : R (State.spareLost p0 p1) := by
  unfold State.spareLost
  exact R_foldl hp0 (fun _ _ ht0 => closed_truncateCam C ht0)

theorem closed_iplFaults {p0} {p1} (hp0 : R p0) : R (State.iplFaults p0 p1) := by
  unfold State.iplFaults
  refine R_ite (closed_clearBit C (closed_setSpare C hp0)) ?_
  refine R_ite ?_ (closed_iplTruncate C hp0)
  extract_lets +onlyGivenNames -underBinder x0
  try clear_value x0
  extract_lets +onlyGivenNames -underBinder x1
  extract_lets +onlyGivenNames -underBinder x2
  have hx2 : R x2 := by
    refine R_foldl hp0 (fun _ _ ht3 => ?_)
    extract_lets +onlyGivenNames -underBinder x4
    try clear_value x4
    extract_lets +onlyGivenNames -underBinder x5
    try clear_value x5
    extract_lets +onlyGivenNames -underBinder x6
    have hx6 : R x6 := closed_markRest C ht3
    try clear_value x6
    extract_lets +onlyGivenNames -underBinder x7
    try clear_value x7
    exact closed_setIplCam C hx6
  try clear_value x2
  extract_lets +onlyGivenNames -underBinder x8
  try clear_value x8
  extract_lets +onlyGivenNames -underBinder x9
  try clear_value x9
  extract_lets +onlyGivenNames -underBinder x10
  try clear_value x10
  exact closed_spareTakes C hx2

theorem closed_takeOver {p0} (hp0 : R p0) : R (State.takeOver p0).1 := by
  unfold State.takeOver
  extract_lets +onlyGivenNames -underBinder x0
  try clear_value x0
  refine R_ite_1 ?_ hp0
  dsimp only
  exact C.same_ hp0

theorem closed_handBack {p0} (hp0 : R p0) : R (State.handBack p0).1 := by
  unfold State.handBack
  extract_lets +onlyGivenNames -underBinder x0
  refine R_ite_1 hp0 ?_
  refine R_ite_1 ?_ ?_
  · dsimp only
    exact closed_fnFlag C hp0
  · refine R_ite_1 ?_ ?_
    · dsimp only
      exact closed_fnFlag C hp0
    · dsimp only
      exact closed_setSpare C (closed_enter C (closed_iplArms C hp0))

theorem closed_releaseSpare {p0} (hp0 : R p0) : R (State.releaseSpare p0).1 := by
  unfold State.releaseSpare
  extract_lets +onlyGivenNames -underBinder x0
  try clear_value x0
  refine R_ite_1 ?_ hp0
  dsimp only
  exact closed_setSpare C hp0

theorem closed_cancelPending {p0} {p1} {p2} (hp0 : R p0) : R (State.cancelPending p0 p1 p2) := by
  unfold State.cancelPending
  split
  · refine R_ite ?_ hp0
    extract_lets +onlyGivenNames -underBinder x0
    try clear_value x0
    exact closed_setBit C (closed_clearBit C (closed_wro C hp0))
  · exact hp0

end Sys2Proof.Laws
end

