-- ==== Sys2Proof/Laws/ClosedBrd.lean ====
section
/-! SUPPORT. What a closed property of states keeps through the operations of Machine/Brd.lean. -/

namespace Sys2Proof.Laws

open Sys2Proof.Machine

set_option linter.unusedSectionVars false
set_option Elab.async false

variable {R : State → Prop} (C : Closed R)
include C

theorem closed_setBrdPort {p0} {p1} {p2} (hp0 : R p0) : R (State.setBrdPort p0 p1 p2) := by
  unfold State.setBrdPort
  exact C.same_ hp0

theorem closed_braidTrain {p0} {p1} {p2} (hp0 : R p0) : R (State.braidTrain p0 p1 p2) := by
  unfold State.braidTrain
  exact R_ite hp0 (closed_wr C (closed_setBrdPort C hp0))

theorem closed_braidDrop {p0} {p1} (hp0 : R p0) : R (State.braidDrop p0 p1) := by
  unfold State.braidDrop
  exact closed_setBrdPort C hp0

theorem closed_braidRetrain {p0} {p1} (hp0 : R p0) : R (State.braidRetrain p0 p1) := by
  unfold State.braidRetrain
  extract_lets +onlyGivenNames -underBinder x0
  have hx0 : R x0 := closed_braidTrain C (closed_braidDrop C hp0)
  try clear_value x0
  exact closed_cross C (closed_bumpSat C hx0)

theorem closed_braidFails {p0} {p1} (hp0 : R p0) : R (State.braidFails p0 p1) := by
  unfold State.braidFails
  extract_lets +onlyGivenNames -underBinder x0
  try clear_value x0
  extract_lets +onlyGivenNames -underBinder x1
  try clear_value x1
  split
  · exact closed_setBrdPort C hp0
  · extract_lets +onlyGivenNames -underBinder x2
    have hx2 : R x2 := closed_setBit C (closed_setBit C (closed_setBrdPort C (closed_retryLasting C hp0)))
    try clear_value x2
    exact closed_cross C (closed_bumpSat C (closed_wr C hx2))
  · exact hp0

theorem closed_braidRetry {p0} {p1} (hp0 : R p0) : R (State.braidRetry p0 p1) := by
  unfold State.braidRetry
  extract_lets +onlyGivenNames -underBinder x0
  try clear_value x0
  exact R_ite (closed_setBrdPort C hp0) hp0

theorem closed_braidAgain {p0} {p1} (hp0 : R p0) : R (State.braidAgain p0 p1) := by
  unfold State.braidAgain
  extract_lets +onlyGivenNames -underBinder x0
  try clear_value x0
  exact R_ite (closed_braidTrain C hp0) hp0

theorem closed_sendIdle {p0} {p1} {p2} (hp0 : R p0) : R (State.sendIdle p0 p1 p2) := by
  unfold State.sendIdle
  extract_lets +onlyGivenNames -underBinder x0
  try clear_value x0
  exact closed_emit C (closed_setBrdPort C hp0)

theorem closed_pumpFlits {p0} {p1} {p2} (hp0 : R p0) : R (State.pumpFlits p0 p1 p2) := by
  unfold State.pumpFlits
  split
  · exact hp0
  · extract_lets +onlyGivenNames -underBinder x0
    try clear_value x0
    split
    · exact hp0
    · refine R_ite hp0 ?_
      extract_lets +onlyGivenNames -underBinder x1
      try clear_value x1
      extract_lets +onlyGivenNames -underBinder x2
      have hx2 : R x2 := closed_setBrdPort C hp0
      try clear_value x2
      extract_lets +onlyGivenNames -underBinder x3
      have hx3 : R x3 := closed_bump C (closed_emit C hx2)
      try clear_value x3
      exact closed_pumpFlits (closed_raiseTo C hx3)

theorem closed_braidSend {p0} {p1} {p2} {p3} (hp0 : R p0) : R (State.braidSend p0 p1 p2 p3) := by
  unfold State.braidSend
  refine R_foldl hp0 (fun _ _ ht0 => ?_)
  refine R_ite ?_ ht0
  extract_lets +onlyGivenNames -underBinder x1
  try clear_value x1
  extract_lets +onlyGivenNames -underBinder x2
  try clear_value x2
  exact closed_pumpFlits C (closed_setBrdPort C ht0)

theorem closed_resendFlits {p0} {p1} (hp0 : R p0) : R (State.resendFlits p0 p1) := by
  unfold State.resendFlits
  extract_lets +onlyGivenNames -underBinder x0
  try clear_value x0
  exact R_foldl (closed_setBrdPort C hp0) (fun _ _ ht1 => closed_bump C (closed_emit C ht1))

theorem closed_flitLasting {p0} {p1} (hp0 : R p0) : R (State.flitLasting p0 p1) := by
  unfold State.flitLasting
  exact closed_braidRetrain C (closed_setBit C (closed_retryLasting C hp0))

theorem closed_flitsFail {p0} {p1} (hp0 : R p0) : R (State.flitsFail p0 p1) := by
  unfold State.flitsFail
  extract_lets +onlyGivenNames -underBinder x0
  try clear_value x0
  exact R_ite (closed_flitLasting C hp0) (closed_resendFlits C hp0)

theorem closed_flitAcked {p0} {p1} {p2} (hp0 : R p0) : R (State.flitAcked p0 p1 p2) := by
  unfold State.flitAcked
  extract_lets +onlyGivenNames -underBinder x0
  try clear_value x0
  split
  · extract_lets +onlyGivenNames -underBinder x1
    try clear_value x1
    exact closed_setBrdPort C hp0
  · exact hp0

theorem closed_flitNak {p0} {p1} {p2} (hp0 : R p0) : R (State.flitNak p0 p1 p2) := by
  unfold State.flitNak
  exact R_ite (closed_flitsFail C (closed_flitAcked C hp0)) hp0

theorem closed_flitBad {p0} {p1} {p2} (hp0 : R p0) : R (State.flitBad p0 p1 p2) := by
  unfold State.flitBad
  extract_lets +onlyGivenNames -underBinder x0
  try clear_value x0
  extract_lets +onlyGivenNames -underBinder x1
  try clear_value x1
  extract_lets +onlyGivenNames -underBinder x2
  have hx2 : R x2 := closed_setBit C (closed_bump C hp0)
  try clear_value x2
  exact R_ite (closed_flitLasting C hx2) (R_ite hx2 (closed_sendIdle C (closed_setBrdPort C hx2)))

theorem closed_flitGood {p0} {p1} {p2} (hp0 : R p0) : R (State.flitGood p0 p1 p2) := by
  unfold State.flitGood
  extract_lets +onlyGivenNames -underBinder x0
  try clear_value x0
  extract_lets +onlyGivenNames -underBinder x1
  try clear_value x1
  extract_lets +onlyGivenNames -underBinder x2
  try clear_value x2
  extract_lets +onlyGivenNames -underBinder x3
  try clear_value x3
  extract_lets +onlyGivenNames -underBinder x4
  try clear_value x4
  extract_lets +onlyGivenNames -underBinder x5
  try clear_value x5
  extract_lets +onlyGivenNames -underBinder x6
  have hx6 : R x6 := closed_bump C (closed_setBrdPort C hp0)
  try clear_value x6
  exact R_ite (closed_setBit C (closed_bump C (closed_retryTransient C hx6))) hx6

theorem closed_flitReceive {p0} {p1} {p2} (hp0 : R p0) : R (State.flitReceive p0 p1 p2) := by
  unfold State.flitReceive
  refine R_ite (closed_discard C hp0) ?_
  refine R_ite hp0 ?_
  extract_lets +onlyGivenNames -underBinder x0
  try clear_value x0
  refine R_ite (closed_flitBad C hp0) ?_
  extract_lets +onlyGivenNames -underBinder x1
  try clear_value x1
  extract_lets +onlyGivenNames -underBinder x2
  have hx2 : R x2 := R_ite (closed_flitNak C hp0) (closed_flitAcked C hp0)
  try clear_value x2
  extract_lets +onlyGivenNames -underBinder x3
  try clear_value x3
  extract_lets +onlyGivenNames -underBinder x4
  have hx4 : R x4 := closed_pumpFlits C (closed_setBrdPort C hx2)
  try clear_value x4
  exact R_ite hx4 (closed_flitGood C hx4)

theorem closed_takeMessage {p0} {p1} {p2} (hp0 : R p0) : R (State.takeMessage p0 p1 p2).1 := by
  unfold State.takeMessage
  extract_lets +onlyGivenNames -underBinder x0
  try clear_value x0
  split
  · dsimp only
    exact closed_setBrdPort C hp0
  · exact hp0

theorem closed_copyUsed {p0} {p1} {p2} {p3} (hp0 : R p0) : R (State.copyUsed p0 p1 p2 p3) := by
  unfold State.copyUsed
  exact C.same_ hp0

theorem closed_sendRejoin {p0} {p1} (hp0 : R p0) : R (State.sendRejoin p0 p1) := by
  unfold State.sendRejoin
  split
  · refine R_ite ?_ hp0
    extract_lets +onlyGivenNames -underBinder x0
    try clear_value x0
    extract_lets +onlyGivenNames -underBinder x1
    try clear_value x1
    extract_lets +onlyGivenNames -underBinder x2
    have hx2 : R x2 := C.same_ hp0
    try clear_value x2
    exact closed_braidSend C hx2
  · exact hp0

theorem closed_braidComplete {p0} {p1} {p2} {p3} {p4} {p5} {p6} {p7} {p8} (hp0 : R p0) : R (State.braidComplete p0 p1 p2 p3 p4 p5 p6 p7 p8) := by
  unfold State.braidComplete
  extract_lets +onlyGivenNames -underBinder x0
  try clear_value x0
  extract_lets +onlyGivenNames -underBinder x1
  try clear_value x1
  refine R_ite hp0 ?_
  refine R_ite (closed_setBit C (closed_wr C (closed_setBrdPort C hp0))) ?_
  extract_lets +onlyGivenNames -underBinder x2
  try clear_value x2
  extract_lets +onlyGivenNames -underBinder x3
  try clear_value x3
  refine R_ite (closed_braidFails C hp0) ?_
  extract_lets +onlyGivenNames -underBinder x4
  have hx4 : R x4 := R_ite (closed_retryTransient C hp0) hp0
  try clear_value x4
  extract_lets +onlyGivenNames -underBinder x5
  have hx5 : R x5 := closed_setBrdPort C hx4
  try clear_value x5
  extract_lets +onlyGivenNames -underBinder x6
  have hx6 : R x6 := closed_wr C (closed_wr C hx5)
  try clear_value x6
  extract_lets +onlyGivenNames -underBinder x7
  have hx7 : R x7 := closed_wro C (closed_wr C (closed_wr C hx6))
  try clear_value x7
  extract_lets +onlyGivenNames -underBinder x8
  have hx8 : R x8 := closed_calBase C (closed_calCount C (closed_wro C (closed_wro C (closed_wro C hx7))))
  try clear_value x8
  exact closed_sendRejoin C (closed_cross C hx8)

theorem closed_braidStops {p0} {p1} (hp0 : R p0) : R (State.braidStops p0 p1) := by
  unfold State.braidStops
  extract_lets +onlyGivenNames -underBinder x0
  have hx0 : R x0 := closed_setBrdPort C hp0
  try clear_value x0
  exact R_ite hx0 (closed_wr C hx0)

theorem closed_braidTap {p0} {p1} {p2} {p3} (hp0 : R p0) : R (State.braidTap p0 p1 p2 p3) := by
  unfold State.braidTap
  extract_lets +onlyGivenNames -underBinder x0
  try clear_value x0
  extract_lets +onlyGivenNames -underBinder x1
  try clear_value x1
  extract_lets +onlyGivenNames -underBinder x2
  try clear_value x2
  exact R_ite hp0 (R_ite (closed_setBit C hp0) (closed_calCount C (closed_wro C hp0)))

end Sys2Proof.Laws
end

