-- ==== Sys2Proof/Laws/ClosedStx.lean ====
section
/-! SUPPORT. What a closed property of states keeps through the operations of Machine/Stx.lean. -/

namespace Sys2Proof.Laws

open Sys2Proof.Machine

set_option linter.unusedSectionVars false
set_option Elab.async false

variable {R : State → Prop} (C : Closed R)
include C

theorem closed_stepRamps {p0} (hp0 : R p0) : R (State.stepRamps p0) := by
  unfold State.stepRamps
  refine R_foldl hp0 (fun _ _ ht0 => ?_)
  extract_lets +onlyGivenNames -underBinder x1
  have hx1 : R x1 := by
    unfold x1
    split
    · extract_lets +onlyGivenNames -underBinder x2
      have hx2 : R x2 := closed_wrI C ht0
      try clear_value x2
      extract_lets +onlyGivenNames -underBinder x3
      try clear_value x3
      extract_lets +onlyGivenNames -underBinder x4
      have hx4 : R x4 := C.same_ hx2
      try clear_value x4
      exact R_ite (closed_calArrived C hx4) hx4
    · exact ht0
  try clear_value x1
  split
  · extract_lets +onlyGivenNames -underBinder x5
    have hx5 : R x5 := closed_wrI C hx1
    try clear_value x5
    extract_lets +onlyGivenNames -underBinder x6
    try clear_value x6
    extract_lets +onlyGivenNames -underBinder x7
    have hx7 : R x7 := C.same_ hx5
    try clear_value x7
    exact R_ite (closed_calArrived C hx7) hx7
  · exact hx1

theorem closed_setDelay {p0} {p1} {p2} (hp0 : R p0) : R (State.setDelay p0 p1 p2) := by
  unfold State.setDelay
  extract_lets +onlyGivenNames -underBinder x0
  have hx0 : R x0 := closed_wrI C hp0
  try clear_value x0
  refine R_ite ?_ ?_
  · extract_lets +onlyGivenNames -underBinder x1
    try clear_value x1
    exact C.same_ hx0
  · refine closed_calArrived C ?_
    extract_lets +onlyGivenNames -underBinder x2
    have hx2 : R x2 := closed_wrI C hx0
    try clear_value x2
    exact C.same_ hx2

theorem closed_setShift {p0} {p1} {p2} (hp0 : R p0) : R (State.setShift p0 p1 p2) := by
  unfold State.setShift
  extract_lets +onlyGivenNames -underBinder x0
  have hx0 : R x0 := closed_wrI C hp0
  try clear_value x0
  refine R_ite ?_ ?_
  · extract_lets +onlyGivenNames -underBinder x1
    try clear_value x1
    exact C.same_ hx0
  · refine closed_calArrived C ?_
    extract_lets +onlyGivenNames -underBinder x2
    have hx2 : R x2 := closed_wrI C hx0
    try clear_value x2
    exact C.same_ hx2

theorem closed_delayWrite {p0} {p1} {p2} (hp0 : R p0) : R (State.delayWrite p0 p1 p2).1 := by
  unfold State.delayWrite
  refine R_ite_1 ?_ ?_
  · extract_lets +onlyGivenNames -underBinder x0
    have hx0 : R x0 := closed_setDelay C hp0
    try clear_value x0
    dsimp only
    exact C.same_ hx0
  · dsimp only
    exact closed_setBit C hp0

theorem closed_shiftWrite {p0} {p1} {p2} (hp0 : R p0) : R (State.shiftWrite p0 p1 p2).1 := by
  unfold State.shiftWrite
  extract_lets +onlyGivenNames -underBinder x0
  have hx0 : R x0 := closed_setShift C hp0
  try clear_value x0
  dsimp only
  exact C.same_ hx0

theorem closed_sendOverlaps {p0} {p1} {p2} (hp0 : R p0) : R (State.sendOverlaps p0 p1 p2) := by
  unfold State.sendOverlaps
  exact R_foldl hp0 (fun _ _ ht0 => R_ite (closed_braidSend C ht0) ht0)

theorem closed_overlapReceive {p0} {p1} (hp0 : R p0) : R (State.overlapReceive p0 p1) := by
  unfold State.overlapReceive
  split
  · rename_i v0 q1
    have hv0 : R v0 := by
      refine Eq.subst (motive := fun z => R z.1) q1 ?_
      exact closed_takeMessage C hp0
    exact hv0
  · rename_i v2 v3 q4
    have hv2 : R v2 := by
      refine Eq.subst (motive := fun z => R z.1) q4 ?_
      exact closed_takeMessage C hp0
    extract_lets +onlyGivenNames -underBinder x5
    try clear_value x5
    exact R_ite hv2 (R_ite hv2 (C.same_ hv2))

theorem closed_rejoinReceive {p0} {p1} (hp0 : R p0) : R (State.rejoinReceive p0 p1) := by
  unfold State.rejoinReceive
  split
  · rename_i v0 q1
    have hv0 : R v0 := by
      refine Eq.subst (motive := fun z => R z.1) q1 ?_
      exact closed_takeMessage C hp0
    exact hv0
  · rename_i v2 v3 q4
    have hv2 : R v2 := by
      refine Eq.subst (motive := fun z => R z.1) q4 ?_
      exact closed_takeMessage C hp0
    extract_lets +onlyGivenNames -underBinder x5
    try clear_value x5
    extract_lets +onlyGivenNames -underBinder x6
    try clear_value x6
    exact R_ite (closed_sendRejoin C hv2) (R_ite (closed_braidSend C hv2) (C.same_ hv2))

theorem closed_seamBoundary {p0} {p1} {p2} {p3} {p4} (hp0 : R p0) : R (State.seamBoundary p0 p1 p2 p3 p4) := by
  unfold State.seamBoundary
  extract_lets +onlyGivenNames -underBinder x0
  try clear_value x0
  extract_lets +onlyGivenNames -underBinder x1
  try clear_value x1
  exact R_ite (closed_clearBit C (closed_wr C hp0)) (R_ite (R_ite hp0 (closed_cross C (closed_setBit C (closed_wr C hp0)))) (R_ite (closed_wr C hp0) (R_ite (closed_cross C (closed_clearBit C (closed_wr C hp0))) hp0)))

theorem closed_stxBoundary {p0} {p1} {p2} {p3} (hp0 : R p0) : R (State.stxBoundary p0 p1 p2 p3) := by
  unfold State.stxBoundary
  extract_lets +onlyGivenNames -underBinder x0
  have hx0 : R x0 := closed_forceo C (closed_forceAll C hp0)
  try clear_value x0
  exact closed_seamBoundary C (closed_seamBoundary C hx0)

theorem closed_trackSeam {p0} {p1} {p2} {p3} {p4} (hp0 : R p0) : R (State.trackSeam p0 p1 p2 p3 p4).1 := by
  unfold State.trackSeam
  extract_lets +onlyGivenNames -underBinder x0
  try clear_value x0
  extract_lets +onlyGivenNames -underBinder x1
  try clear_value x1
  extract_lets +onlyGivenNames -underBinder x2
  try clear_value x2
  extract_lets +onlyGivenNames -underBinder x3
  try clear_value x3
  extract_lets +onlyGivenNames -underBinder x4
  try clear_value x4
  extract_lets +onlyGivenNames -underBinder x5
  try clear_value x5
  refine R_ite_1 hp0 ?_
  refine R_ite_1 hp0 ?_
  refine R_ite_1 ?_ ?_
  · dsimp only
    exact closed_setBit C hp0
  · extract_lets +onlyGivenNames -underBinder x6
    try clear_value x6
    extract_lets +onlyGivenNames -underBinder x7
    try clear_value x7
    extract_lets +onlyGivenNames -underBinder x8
    have hx8 : R x8 := by
      refine R_foldl hp0 (fun _ _ ht9 => ?_)
      extract_lets +onlyGivenNames -underBinder x10
      have hx10 : R x10 := R_ite ht9 (closed_setDelay C (closed_calAwait C ht9))
      try clear_value x10
      exact R_ite hx10 (closed_setShift C (closed_calAwait C hx10))
    try clear_value x8
    exact hx8

theorem closed_calSeam {p0} {p1} {p2} {p3} {p4} (hp0 : R p0) : R (State.calSeam p0 p1 p2 p3 p4) := by
  unfold State.calSeam
  split
  · exact R_ite (C.same_ hp0) hp0
  · exact hp0

theorem closed_calSeamsEnd {p0} {p1} (hp0 : R p0) : R (State.calSeamsEnd p0 p1) := by
  unfold State.calSeamsEnd
  split
  · exact R_ite (closed_wr C hp0) hp0
  · exact hp0

theorem closed_closeSeam {p0} {p1} {p2} {p3} {p4} {p5} (hp0 : R p0) : R (State.closeSeam p0 p1 p2 p3 p4 p5) := by
  unfold State.closeSeam
  extract_lets +onlyGivenNames -underBinder x0
  try clear_value x0
  extract_lets +onlyGivenNames -underBinder x1
  try clear_value x1
  split
  · extract_lets +onlyGivenNames -underBinder x2
    try clear_value x2
    split
    · rename_i v3 v4 v5 q6
      have hv3 : R v3 := by
        refine Eq.subst (motive := fun z => R z.1) q6 ?_
        exact closed_trackSeam C (closed_calSeam C (closed_takeFree C (closed_takeFree C hp0)))
      extract_lets +onlyGivenNames -underBinder x7
      try clear_value x7
      extract_lets +onlyGivenNames -underBinder x8
      have hx8 : R x8 := closed_wr C (closed_wrI C (closed_wrI C hv3))
      try clear_value x8
      extract_lets +onlyGivenNames -underBinder x9
      have hx9 : R x9 := closed_bump C (closed_wrI C hx8)
      try clear_value x9
      exact closed_cross C (closed_push C hx9)

theorem closed_closeSeams {p0} {p1} {p2} {p3} (hp0 : R p0) : R (State.closeSeams p0 p1 p2 p3) := by
  unfold State.closeSeams
  extract_lets +onlyGivenNames -underBinder x0
  try clear_value x0
  extract_lets +onlyGivenNames -underBinder x1
  have hx1 : R x1 := R_foldl hp0 (fun _ _ ht2 => closed_closeSeam C ht2)
  try clear_value x1
  exact closed_calSeamsEnd C (C.same_ hx1)

theorem closed_lineFormed {p0} {p1} {p2} (hp0 : R p0) : R (State.lineFormed p0 p1 p2) := by
  unfold State.lineFormed
  extract_lets +onlyGivenNames -underBinder x0
  try clear_value x0
  extract_lets +onlyGivenNames -underBinder x1
  try clear_value x1
  extract_lets +onlyGivenNames -underBinder x2
  try clear_value x2
  extract_lets +onlyGivenNames -underBinder x3
  try clear_value x3
  extract_lets +onlyGivenNames -underBinder x4
  have hx4 : R x4 := closed_tally C (closed_bump C hp0)
  try clear_value x4
  extract_lets +onlyGivenNames -underBinder x5
  have hx5 : R x5 := R_foldl hx4 (fun _ _ ht6 => R_ite (closed_bump C ht6) ht6)
  try clear_value x5
  extract_lets +onlyGivenNames -underBinder x7
  have hx7 : R x7 := R_foldl hx5 (fun _ _ ht8 => closed_bump C ht8)
  try clear_value x7
  extract_lets +onlyGivenNames -underBinder x9
  have hx9 : R x9 := by
    unfold x9
    split
    · exact closed_cross C (closed_setBit C hx7)
    · exact hx7
  try clear_value x9
  extract_lets +onlyGivenNames -underBinder x10
  try clear_value x10
  extract_lets +onlyGivenNames -underBinder x11
  have hx11 : R x11 := R_ite (closed_setBit C hx9) hx9
  try clear_value x11
  extract_lets +onlyGivenNames -underBinder x12
  try clear_value x12
  extract_lets +onlyGivenNames -underBinder x13
  have hx13 : R x13 := R_ite (closed_setBit C hx11) hx11
  try clear_value x13
  extract_lets +onlyGivenNames -underBinder x14
  try clear_value x14
  exact C.more_ hx13 (by dsimp only; split <;> omega)

theorem closed_openLine {p0} {p1} {p2} (hp0 : R p0) : R (State.openLine p0 p1 p2) := by
  unfold State.openLine
  extract_lets +onlyGivenNames -underBinder x0
  try clear_value x0
  extract_lets +onlyGivenNames -underBinder x1
  have hx1 : R x1 := R_ite (closed_stxBoundary C hp0) hp0
  try clear_value x1
  extract_lets +onlyGivenNames -underBinder x2
  have hx2 : R x2 := R_ite hx1 (closed_stepRamps C hx1)
  try clear_value x2
  exact closed_sendOverlaps C (C.same_ hx2)

theorem closed_formLine {p0} {p1} {p2} (hp0 : R p0) : R (State.formLine p0 p1 p2).1 := by
  unfold State.formLine
  extract_lets +onlyGivenNames -underBinder x0
  try clear_value x0
  extract_lets +onlyGivenNames -underBinder x1
  have hx1 : R x1 := closed_lineFormed C hp0
  try clear_value x1
  extract_lets +onlyGivenNames -underBinder x2
  have hx2 : R x2 := R_ite (closed_closeSeams C hx1) hx1
  try clear_value x2
  dsimp only
  exact C.same_ hx2

theorem closed_stxStarts {p0} {p1} (hp0 : R p0) : R (State.stxStarts p0 p1) := by
  unfold State.stxStarts
  extract_lets +onlyGivenNames -underBinder x0
  try clear_value x0
  extract_lets +onlyGivenNames -underBinder x1
  try clear_value x1
  extract_lets +onlyGivenNames -underBinder x2
  have hx2 : R x2 := C.same_ hp0
  try clear_value x2
  extract_lets +onlyGivenNames -underBinder x3
  try clear_value x3
  extract_lets +onlyGivenNames -underBinder x4
  have hx4 : R x4 := closed_wr C hx2
  try clear_value x4
  extract_lets +onlyGivenNames -underBinder x5
  have hx5 : R x5 := R_foldl hx4 (fun _ _ ht6 => closed_wrI C ht6)
  try clear_value x5
  exact R_ite hx5 (closed_sendRejoin C hx5)

theorem closed_stxStops {p0} (hp0 : R p0) : R (State.stxStops p0) := by
  unfold State.stxStops
  exact C.same_ hp0

end Sys2Proof.Laws
end

