-- ==== Sys2Proof/Laws/ClosedDmc.lean ====
section
/-! SUPPORT. What a closed property of states keeps through the operations of Machine/Dmc.lean. -/

namespace Sys2Proof.Laws

open Sys2Proof.Machine

set_option linter.unusedSectionVars false
set_option Elab.async false

variable {R : State → Prop} (C : Closed R)
include C

theorem closed_dmcFlag {p0} {p1} {p2} {p3} (hp0 : R p0) : R (State.dmcFlag p0 p1 p2 p3) := by
  unfold State.dmcFlag
  exact closed_putBit C hp0

theorem closed_setDmc {p0} {p1} {p2} (hp0 : R p0) : R (State.setDmc p0 p1 p2) := by
  unfold State.setDmc
  exact C.same_ hp0

theorem closed_showMap {p0} (hp0 : R p0) : R (State.showMap p0) := by
  unfold State.showMap
  exact closed_wr C (closed_wr C hp0)

theorem closed_dmcEnterReady {p0} (hp0 : R p0) : R (State.dmcEnterReady p0) := by
  unfold State.dmcEnterReady
  extract_lets +onlyGivenNames -underBinder x0
  extract_lets +onlyGivenNames -underBinder x1
  try clear_value x1
  extract_lets +onlyGivenNames -underBinder x2
  have hx2 : R x2 := C.same_ hp0
  try clear_value x2
  exact closed_showMap C (R_foldl hx2 (fun _ _ ht3 => closed_dmcFlag C ht3))

theorem closed_dmcArms {p0} {p1} (hp0 : R p0) : R (State.dmcArms p0 p1) := by
  unfold State.dmcArms
  split
  · exact hp0
  · extract_lets +onlyGivenNames -underBinder x0
    try clear_value x0
    exact closed_dmcFlag C (closed_wr C (closed_wr C (closed_wro C hp0)))

theorem closed_logError {p0} {p1} {p2} {p3} {p4} {p5} {p6} (hp0 : R p0) : R (State.logError p0 p1 p2 p3 p4 p5 p6) := by
  unfold State.logError
  extract_lets +onlyGivenNames -underBinder x0
  try clear_value x0
  exact closed_bump C (closed_wro C hp0)

theorem closed_startRetraining {p0} {p1} (hp0 : R p0) : R (State.startRetraining p0 p1) := by
  unfold State.startRetraining
  extract_lets +onlyGivenNames -underBinder x0
  try clear_value x0
  exact R_ite (closed_cross C (closed_dmcFlag C (closed_setDmc C hp0))) hp0

theorem closed_correctable {p0} {p1} {p2} {p3} {p4} {p5} (hp0 : R p0) : R (State.correctable p0 p1 p2 p3 p4 p5) := by
  unfold State.correctable
  extract_lets +onlyGivenNames -underBinder x0
  try clear_value x0
  extract_lets +onlyGivenNames -underBinder x1
  try clear_value x1
  extract_lets +onlyGivenNames -underBinder x2
  have hx2 : R x2 := closed_bump C hp0
  try clear_value x2
  extract_lets +onlyGivenNames -underBinder x3
  try clear_value x3
  extract_lets +onlyGivenNames -underBinder x4
  have hx4 : R x4 := R_ite (closed_logError C hx2) hx2
  try clear_value x4
  extract_lets +onlyGivenNames -underBinder x5
  have hx5 : R x5 := closed_setDmc C hx4
  try clear_value x5
  exact R_ite (closed_startRetraining C hx5) hx5

theorem closed_transient {p0} {p1} {p2} {p3} {p4} (hp0 : R p0) : R (State.transient p0 p1 p2 p3 p4) := by
  unfold State.transient
  exact closed_logError C (closed_dmcFlag C (closed_bump C (closed_retryTransient C hp0)))

theorem closed_lasting {p0} {p1} {p2} {p3} {p4} (hp0 : R p0) : R (State.lasting p0 p1 p2 p3 p4) := by
  unfold State.lasting
  extract_lets +onlyGivenNames -underBinder x0
  have hx0 : R x0 := closed_dmcFlag C (closed_bump C (closed_retryLasting C hp0))
  try clear_value x0
  extract_lets +onlyGivenNames -underBinder x1
  have hx1 : R x1 := closed_logError C (closed_cross C hx0)
  try clear_value x1
  exact R_ite hx1 (C.same_ hx1)

theorem closed_poisonRead {p0} {p1} {p2} {p3} {p4} (hp0 : R p0) : R (State.poisonRead p0 p1 p2 p3 p4) := by
  unfold State.poisonRead
  exact closed_logError C (closed_bump C hp0)

theorem closed_activate {p0} {p1} (hp0 : R p0) : R (State.activate p0 p1) := by
  unfold State.activate
  extract_lets +onlyGivenNames -underBinder x0
  try clear_value x0
  extract_lets +onlyGivenNames -underBinder x1
  have hx1 : R x1 := closed_takeFree C hp0
  try clear_value x1
  exact R_ite (closed_bump C hx1) hx1

theorem closed_countRead {p0} {p1} (hp0 : R p0) : R (State.countRead p0 p1) := by
  unfold State.countRead
  extract_lets +onlyGivenNames -underBinder x0
  try clear_value x0
  extract_lets +onlyGivenNames -underBinder x1
  have hx1 : R x1 := closed_tally C (closed_setDmc C hp0)
  try clear_value x1
  exact R_ite (closed_sample C (closed_takeFree C hx1)) hx1

theorem closed_readUnit {p0} {p1} {p2} (hp0 : R p0) : R (State.readUnit p0 p1 p2).2 := by
  unfold State.readUnit
  split
  · exact hp0
  · refine R_ite_2 ?_ ?_
    · dsimp only
      exact closed_discard C hp0
    · extract_lets +onlyGivenNames -underBinder x0
      have hx0 : R x0 := closed_countRead C (closed_activate C hp0)
      try clear_value x0
      refine R_ite_2 ?_ ?_
      · dsimp only
        exact closed_poisonRead C hx0
      · split
        · extract_lets +onlyGivenNames -underBinder x1
          try clear_value x1
          extract_lets +onlyGivenNames -underBinder x2
          have hx2 : R x2 := C.same_ hx0
          try clear_value x2
          split
          · dsimp only
            exact closed_correctable C hx2
          · dsimp only
            exact closed_transient C hx2
          · dsimp only
            exact closed_lasting C hx2
          · exact hx2

theorem closed_putUnit {p0} {p1} {p2} {p3} (hp0 : R p0) : R (State.putUnit p0 p1 p2 p3) := by
  unfold State.putUnit
  extract_lets +onlyGivenNames -underBinder x0
  try clear_value x0
  extract_lets +onlyGivenNames -underBinder x1
  have hx1 : R x1 := closed_tally C (closed_activate C hp0)
  try clear_value x1
  extract_lets +onlyGivenNames -underBinder x2
  try clear_value x2
  extract_lets +onlyGivenNames -underBinder x3
  have hx3 : R x3 := R_ite (C.same_ hx1) hx1
  try clear_value x3
  exact R_ite (C.same_ (C.putBytes hx3)) hx3

theorem closed_writeUnit {p0} {p1} {p2} (hp0 : R p0) : R (State.writeUnit p0 p1 p2) := by
  unfold State.writeUnit
  split
  · exact hp0
  · exact R_ite (closed_discard C hp0) (closed_putUnit C hp0)

theorem closed_readUnits {p0} {p1} {p2} {p3} (hp0 : R p0) : R (State.readUnits p0 p1 p2 p3).2 := by
  unfold State.readUnits
  split
  · exact hp0
  · split
    · rename_i v0 v1 q2
      have hv1 : R v1 := by
        refine Eq.subst (motive := fun z => R z.2) q2 ?_
        exact closed_readUnit C hp0
      split
      · rename_i v3 v4 q5
        have hv4 : R v4 := by
          refine Eq.subst (motive := fun z => R z.2) q5 ?_
          exact closed_readUnits hv1
        exact hv4

theorem closed_dramFetch {p0} {p1} {p2} {p3} (hp0 : R p0) : R (State.dramFetch p0 p1 p2 p3).2.2 := by
  unfold State.dramFetch
  refine R_ite_2_2 hp0 ?_
  extract_lets +onlyGivenNames -underBinder x0
  try clear_value x0
  split
  · rename_i v1 v2 q3
    have hv2 : R v2 := by
      refine Eq.subst (motive := fun z => R z.2) q3 ?_
      exact closed_readUnits C hp0
    extract_lets +onlyGivenNames -underBinder x4
    try clear_value x4
    exact hv2

theorem closed_storeUnits {p0} {p1} {p2} {p3} (hp0 : R p0) : R (State.storeUnits p0 p1 p2 p3) := by
  unfold State.storeUnits
  split
  · exact hp0
  · refine R_ite hp0 ?_
    extract_lets +onlyGivenNames -underBinder x0
    try clear_value x0
    exact closed_storeUnits (closed_writeUnit C hp0)

theorem closed_dramStore {p0} {p1} {p2} (hp0 : R p0) : R (State.dramStore p0 p1 p2) := by
  unfold State.dramStore
  exact closed_storeUnits C hp0

theorem closed_replyDram {p0} {p1} {p2} {p3} (hp0 : R p0) : R (State.replyDram p0 p1 p2 p3) := by
  unfold State.replyDram
  exact R_ite hp0 (closed_emit C hp0)

theorem closed_refuseDram {p0} {p1} (hp0 : R p0) : R (State.refuseDram p0 p1) := by
  unfold State.refuseDram
  extract_lets +onlyGivenNames -underBinder x0
  have hx0 : R x0 := by
    unfold x0
    split
    · exact closed_discard C hp0
    · exact hp0
  try clear_value x0
  exact closed_replyDram C hx0

theorem closed_acceptOne {p0} {p1} (hp0 : R p0) : R (State.acceptOne p0 p1) := by
  unfold State.acceptOne
  extract_lets +onlyGivenNames -underBinder x0
  try clear_value x0
  exact R_ite (C.same_ hp0) (closed_refuseDram C hp0)

theorem closed_acceptDram {p0} {p1} (hp0 : R p0) : R (State.acceptDram p0 p1) := by
  unfold State.acceptDram
  exact R_foldl hp0 (fun _ _ ht0 => closed_acceptOne C ht0)

theorem closed_goodRead {p0} {p1} {p2} {p3} (hp0 : R p0) : R (State.goodRead p0 p1 p2 p3) := by
  unfold State.goodRead
  extract_lets +onlyGivenNames -underBinder x0
  try clear_value x0
  extract_lets +onlyGivenNames -underBinder x1
  have hx1 : R x1 := by
    unfold x1
    split
    · exact closed_correctable C hp0
    · exact hp0
  try clear_value x1
  exact closed_replyDram C hx1

theorem closed_performDram {p0} {p1} {p2} {p3} (hp0 : R p0) : R (State.performDram p0 p1 p2 p3) := by
  unfold State.performDram
  extract_lets +onlyGivenNames -underBinder x0
  try clear_value x0
  split
  · refine R_ite (closed_putUnit C hp0) ?_
    split
    · extract_lets +onlyGivenNames -underBinder x1
      try clear_value x1
      extract_lets +onlyGivenNames -underBinder x2
      have hx2 : R x2 := closed_setDmc C hp0
      try clear_value x2
      split
      · exact hx2
      · exact hx2
      · exact closed_putUnit C (closed_correctable C (C.same_ hp0))
      · exact closed_putUnit C hp0
      · exact closed_putUnit C (closed_correctable C hp0)
      · exact hx2
  · extract_lets +onlyGivenNames -underBinder x3
    have hx3 : R x3 := closed_countRead C (closed_activate C hp0)
    try clear_value x3
    refine R_ite (closed_replyDram C (closed_poisonRead C hx3)) ?_
    split
    · extract_lets +onlyGivenNames -underBinder x4
      try clear_value x4
      extract_lets +onlyGivenNames -underBinder x5
      have hx5 : R x5 := closed_setDmc C hx3
      try clear_value x5
      split
      · exact hx5
      · exact hx5
      · exact closed_goodRead C (C.same_ hx3)
      · exact closed_goodRead C hx3
      · exact closed_goodRead C hx3
      · exact hx5

theorem closed_serveDram {p0} {p1} {p2} (hp0 : R p0) : R (State.serveDram p0 p1 p2) := by
  unfold State.serveDram
  refine R_ite hp0 ?_
  split
  · exact hp0
  · exact closed_performDram C (C.same_ hp0)

theorem closed_retryDram {p0} {p1} {p2} (hp0 : R p0) : R (State.retryDram p0 p1 p2) := by
  unfold State.retryDram
  split
  · exact hp0
  · extract_lets +onlyGivenNames -underBinder x0
    try clear_value x0
    extract_lets +onlyGivenNames -underBinder x1
    try clear_value x1
    extract_lets +onlyGivenNames -underBinder x2
    have hx2 : R x2 := closed_setDmc C hp0
    try clear_value x2
    split
    · extract_lets +onlyGivenNames -underBinder x3
      try clear_value x3
      extract_lets +onlyGivenNames -underBinder x4
      have hx4 : R x4 := C.same_ hx2
      try clear_value x4
      extract_lets +onlyGivenNames -underBinder x5
      try clear_value x5
      refine R_ite (closed_replyDram C (closed_lasting C hx4)) ?_
      split
      · exact closed_putUnit C (closed_transient C hx4)
      · exact closed_replyDram C (closed_transient C hx4)

theorem closed_alertDram {p0} {p1} {p2} {p3} (hp0 : R p0) : R (State.alertDram p0 p1 p2 p3) := by
  unfold State.alertDram
  extract_lets +onlyGivenNames -underBinder x0
  try clear_value x0
  refine R_ite hp0 ?_
  extract_lets +onlyGivenNames -underBinder x1
  have hx1 : R x1 := closed_logError C (closed_dmcFlag C hp0)
  try clear_value x1
  split
  · exact R_ite (closed_lasting C hx1) (closed_putUnit C (closed_transient C hx1))
  · exact closed_setDmc C hx1

theorem closed_ageDram {p0} {p1} (hp0 : R p0) : R (State.ageDram p0 p1) := by
  unfold State.ageDram
  extract_lets +onlyGivenNames -underBinder x0
  try clear_value x0
  extract_lets +onlyGivenNames -underBinder x1
  have hx1 : R x1 := by
    unfold x1
    split
    · exact closed_tally C hp0
    · exact hp0
  try clear_value x1
  exact C.same_ hx1

theorem closed_dmcTruncate {p0} {p1} (hp0 : R p0) : R (State.dmcTruncate p0 p1) := by
  unfold State.dmcTruncate
  extract_lets +onlyGivenNames -underBinder x0
  try clear_value x0
  extract_lets +onlyGivenNames -underBinder x1
  try clear_value x1
  extract_lets +onlyGivenNames -underBinder x2
  have hx2 : R x2 := C.same_ hp0
  try clear_value x2
  extract_lets +onlyGivenNames -underBinder x3
  have hx3 : R x3 := by
    unfold x3
    split
    · exact closed_refuseDram C (closed_setDmc C hx2)
    · exact hx2
  try clear_value x3
  exact R_foldl hx3 (fun _ _ ht4 => closed_refuseDram C ht4)

theorem closed_scrubPass {p0} {p1} {p2} {p3} (hp0 : R p0) : R (State.scrubPass p0 p1 p2 p3) := by
  unfold State.scrubPass
  extract_lets +onlyGivenNames -underBinder x0
  try clear_value x0
  extract_lets +onlyGivenNames -underBinder x1
  extract_lets +onlyGivenNames -underBinder x2
  have hx2 : R x2 := by
    refine R_foldl hp0 (fun _ _ ht3 => ?_)
    split
    · exact closed_correctable C ht3
    · exact ht3
  try clear_value x2
  extract_lets +onlyGivenNames -underBinder x4
  have hx4 : R x4 := by
    refine R_foldl hx2 (fun _ _ ht5 => ?_)
    split
    · exact closed_transient C ht5
    · exact ht5
  try clear_value x4
  extract_lets +onlyGivenNames -underBinder x6
  have hx6 : R x6 := by
    refine R_foldl hx4 (fun _ _ ht7 => ?_)
    split
    · exact closed_lasting C ht7
    · exact ht7
  try clear_value x6
  extract_lets +onlyGivenNames -underBinder x8
  have hx8 : R x8 := by
    refine R_foldl hx6 (fun _ _ ht9 => ?_)
    split
    · exact R_ite (closed_poisonRead C ht9) ht9
    · exact ht9
  try clear_value x8
  extract_lets +onlyGivenNames -underBinder x10
  try clear_value x10
  extract_lets +onlyGivenNames -underBinder x11
  try clear_value x11
  extract_lets +onlyGivenNames -underBinder x12
  have hx12 : R x12 := by
    refine R_foldl (C.same_ hx8) (fun _ _ ht13 => ?_)
    split
    · exact R_ite (closed_correctable C ht13) (R_ite (closed_transient C ht13) (closed_lasting C ht13))
    · exact ht13
  try clear_value x12
  exact R_foldl hx12 (fun _ _ ht14 => R_ite (closed_bump C ht14) ht14)

theorem closed_refreshDram {p0} {p1} (hp0 : R p0) : R (State.refreshDram p0 p1) := by
  unfold State.refreshDram
  exact closed_setDmc C hp0

theorem closed_setBand {p0} {p1} {p2} (hp0 : R p0) : R (State.setBand p0 p1 p2) := by
  unfold State.setBand
  extract_lets +onlyGivenNames -underBinder x0
  try clear_value x0
  refine R_ite hp0 ?_
  extract_lets +onlyGivenNames -underBinder x1
  have hx1 : R x1 := closed_dmcFlag C (closed_wr C hp0)
  try clear_value x1
  extract_lets +onlyGivenNames -underBinder x2
  have hx2 : R x2 := R_ite (closed_cross C (closed_dmcFlag C hx1)) hx1
  try clear_value x2
  exact closed_startRetraining C hx2

theorem closed_pollBand {p0} {p1} {p2} (hp0 : R p0) : R (State.pollBand p0 p1 p2) := by
  unfold State.pollBand
  extract_lets +onlyGivenNames -underBinder x0
  try clear_value x0
  extract_lets +onlyGivenNames -underBinder x1
  try clear_value x1
  exact R_ite (R_ite (closed_setDmc C hp0) (closed_setBand C (closed_setDmc C hp0))) (closed_setBand C (closed_setDmc C hp0))

theorem closed_trackEyes {p0} {p1} {p2} {p3} (hp0 : R p0) : R (State.trackEyes p0 p1 p2 p3) := by
  unfold State.trackEyes
  refine R_ite ?_ hp0
  extract_lets +onlyGivenNames -underBinder x0
  try clear_value x0
  extract_lets +onlyGivenNames -underBinder x1
  try clear_value x1
  extract_lets +onlyGivenNames -underBinder x2
  try clear_value x2
  extract_lets +onlyGivenNames -underBinder x3
  try clear_value x3
  extract_lets +onlyGivenNames -underBinder x4
  have hx4 : R x4 := R_ite hp0 (closed_calCount C hp0)
  try clear_value x4
  extract_lets +onlyGivenNames -underBinder x5
  have hx5 : R x5 := R_ite hx4 (closed_setBit C hx4)
  try clear_value x5
  extract_lets +onlyGivenNames -underBinder x6
  have hx6 : R x6 := closed_wro C (closed_wr C hx5)
  try clear_value x6
  exact R_ite (closed_startRetraining C hx6) hx6

theorem closed_retrained {p0} {p1} {p2} (hp0 : R p0) : R (State.retrained p0 p1 p2) := by
  unfold State.retrained
  extract_lets +onlyGivenNames -underBinder x0
  try clear_value x0
  split
  · exact hp0
  · exact hp0
  · extract_lets +onlyGivenNames -underBinder x1
    have hx1 : R x1 := R_ite (closed_retryTransient C hp0) hp0
    try clear_value x1
    extract_lets +onlyGivenNames -underBinder x2
    have hx2 : R x2 := closed_dmcFlag C (closed_setDmc C hx1)
    try clear_value x2
    exact closed_bumpSat C (closed_calBase C (closed_calCount C (closed_wro C hx2)))
  · exact closed_setDmc C hp0
  · extract_lets +onlyGivenNames -underBinder x3
    have hx3 : R x3 := closed_dmcFlag C (closed_setDmc C (closed_retryLasting C hp0))
    try clear_value x3
    extract_lets +onlyGivenNames -underBinder x4
    have hx4 : R x4 := closed_dmcFlag C (closed_dmcFlag C (closed_bumpSat C hx3))
    try clear_value x4
    extract_lets +onlyGivenNames -underBinder x5
    have hx5 : R x5 := closed_setBit C (closed_dmcFlag C hx4)
    try clear_value x5
    exact closed_cross C hx5

theorem closed_retrainAgain {p0} {p1} (hp0 : R p0) : R (State.retrainAgain p0 p1) := by
  unfold State.retrainAgain
  extract_lets +onlyGivenNames -underBinder x0
  try clear_value x0
  exact R_ite (closed_setDmc C hp0) hp0

theorem closed_retireChannel {p0} {p1} (hp0 : R p0) : R (State.retireChannel p0 p1) := by
  unfold State.retireChannel
  extract_lets +onlyGivenNames -underBinder x0
  try clear_value x0
  extract_lets +onlyGivenNames -underBinder x1
  have hx1 : R x1 := C.same_ hp0
  try clear_value x1
  extract_lets +onlyGivenNames -underBinder x2
  have hx2 : R x2 := closed_dmcFlag C (closed_enterFaulted C hx1)
  try clear_value x2
  exact closed_cross C (closed_dmcFlag C hx2)

theorem closed_dmcRetire {p0} (hp0 : R p0) : R (State.dmcRetire p0) := by
  unfold State.dmcRetire
  extract_lets +onlyGivenNames -underBinder x0
  extract_lets +onlyGivenNames -underBinder x1
  have hx1 : R x1 := R_foldl hp0 (fun _ _ ht2 => closed_retryDram C ht2)
  try clear_value x1
  extract_lets +onlyGivenNames -underBinder x3
  have hx3 : R x3 := by
    refine R_foldl hx1 (fun _ _ ht4 => ?_)
    split
    · exact closed_retryDram C (closed_performDram C (C.same_ ht4))
    · exact ht4
  try clear_value x3
  extract_lets +onlyGivenNames -underBinder x5
  have hx5 : R x5 := R_foldl hx3 (fun _ _ ht6 => closed_retireChannel C ht6)
  try clear_value x5
  extract_lets +onlyGivenNames -underBinder x7
  try clear_value x7
  split
  · extract_lets +onlyGivenNames -underBinder x8
    try clear_value x8
    extract_lets +onlyGivenNames -underBinder x9
    try clear_value x9
    extract_lets +onlyGivenNames -underBinder x10
    have hx10 : R x10 := R_ite hx5 (closed_setBit C (C.same_ hx5))
    try clear_value x10
    extract_lets +onlyGivenNames -underBinder x11
    try clear_value x11
    extract_lets +onlyGivenNames -underBinder x12
    have hx12 : R x12 := C.same_ (C.dramClear hx10)
    try clear_value x12
    exact closed_showMap C (closed_setBit C (closed_clearBit C hx12))

theorem closed_injectError {p0} {p1} {p2} (hp0 : R p0) : R (State.injectError p0 p1 p2) := by
  unfold State.injectError
  exact C.same_ hp0

end Sys2Proof.Laws
end

