-- ==== Sys2Proof/Laws/ClosedCde.lean ====
section
/-! SUPPORT. What a closed property of states keeps through the operations of Machine/Cde.lean. -/

namespace Sys2Proof.Laws

open Sys2Proof.Machine

set_option linter.unusedSectionVars false
set_option Elab.async false

variable {R : State → Prop} (C : Closed R)
include C

theorem closed_showCde {p0} (hp0 : R p0) : R (State.showCde p0) := by
  unfold State.showCde
  exact closed_putBit C (closed_wr C hp0)

theorem closed_setCde {p0} {p1} (hp0 : R p0) : R (State.setCde p0 p1) := by
  unfold State.setCde
  exact closed_showCde C (C.same_ hp0)

theorem closed_submitJob {p0} {p1} (hp0 : R p0) : R (State.submitJob p0 p1).1 := by
  unfold State.submitJob
  refine R_ite_1 hp0 ?_
  refine R_ite_1 hp0 ?_
  refine R_ite_1 ?_ ?_
  · dsimp only
    exact closed_setBit C hp0
  · dsimp only
    exact closed_setCde C hp0

theorem closed_endJob {p0} {p1} {p2} (hp0 : R p0) : R (State.endJob p0 p1 p2) := by
  unfold State.endJob
  extract_lets +onlyGivenNames -underBinder x0
  try clear_value x0
  extract_lets +onlyGivenNames -underBinder x1
  have hx1 : R x1 := closed_bump C (closed_wro C hp0)
  try clear_value x1
  extract_lets +onlyGivenNames -underBinder x2
  have hx2 : R x2 := R_ite (closed_bump C (closed_setBit C hx1)) (R_ite (closed_setBit C hx1) (R_ite (closed_setBit C hx1) hx1))
  try clear_value x2
  extract_lets +onlyGivenNames -underBinder x3
  have hx3 : R x3 := R_ite (closed_push C hx2) hx2
  try clear_value x3
  exact closed_cross C hx3

theorem closed_checkFailed {p0} {p1} (hp0 : R p0) : R (State.checkFailed p0 p1) := by
  unfold State.checkFailed
  exact closed_cross C (closed_setBit C (closed_bump C hp0))

theorem closed_readClean {p0} {p1} {p2} (hp0 : R p0) : R (State.readClean p0 p1 p2).2.2 := by
  unfold State.readClean
  refine R_ite_2_2 hp0 ?_
  extract_lets +onlyGivenNames -underBinder x0
  try clear_value x0
  split
  · rename_i v1 v2 q3
    have hv2 : R v2 := by
      refine Eq.subst (motive := fun z => R z.2) q3 ?_
      exact closed_readUnits C hp0
    extract_lets +onlyGivenNames -underBinder x4
    try clear_value x4
    exact hv2

theorem closed_laneDone {p0} {p1} {p2} (hp0 : R p0) : R (State.laneDone p0 p1 p2) := by
  unfold State.laneDone
  exact closed_tally C (closed_bump C (closed_bump C hp0))

theorem closed_countDecoded {p0} {p1} (hp0 : R p0) : R (State.countDecoded p0 p1) := by
  unfold State.countDecoded
  exact closed_bump C (closed_bump C hp0)

theorem closed_countEncoded {p0} {p1} {p2} {p3} (hp0 : R p0) : R (State.countEncoded p0 p1 p2 p3) := by
  unfold State.countEncoded
  extract_lets +onlyGivenNames -underBinder x0
  have hx0 : R x0 := closed_bump C (closed_bump C (closed_bump C hp0))
  try clear_value x0
  exact R_ite (closed_bump C hx0) hx0

theorem closed_tileRows {p0} {p1} {p2} {p3} {p4} {p5} (hp0 : R p0) : R (State.tileRows p0 p1 p2 p3 p4 p5).2.2 := by
  unfold State.tileRows
  split
  · exact hp0
  · split
    · rename_i v0 v1 v2 q3
      have hv2 : R v2 := by
        refine Eq.subst (motive := fun z => R z.2.2) q3 ?_
        exact closed_dramFetch C hp0
      split
      · rename_i v4 v5 v6 q7
        have hv6 : R v6 := by
          refine Eq.subst (motive := fun z => R z.2.2) q7 ?_
          exact closed_tileRows hv2
        exact hv6

theorem closed_compressBlock {p0} {p1} (hp0 : R p0) : R (State.compressBlock p0 p1).1 := by
  unfold State.compressBlock
  extract_lets +onlyGivenNames -underBinder x0
  try clear_value x0
  extract_lets +onlyGivenNames -underBinder x1
  try clear_value x1
  refine R_ite_1 hp0 ?_
  extract_lets +onlyGivenNames -underBinder x2
  try clear_value x2
  extract_lets +onlyGivenNames -underBinder x3
  try clear_value x3
  extract_lets +onlyGivenNames -underBinder x4
  try clear_value x4
  extract_lets +onlyGivenNames -underBinder x5
  try clear_value x5
  extract_lets +onlyGivenNames -underBinder x6
  try clear_value x6
  extract_lets +onlyGivenNames -underBinder x7
  try clear_value x7
  extract_lets +onlyGivenNames -underBinder x8
  try clear_value x8
  extract_lets +onlyGivenNames -underBinder x9
  try clear_value x9
  split
  · rename_i v10 v11 v12 q13
    have hv12 : R v12 := by
      refine Eq.subst (motive := fun z => R z.2.2) q13 ?_
      show R (Prod.snd (Prod.snd _))
      refine R_ite_2_2 ?_ ?_
      · exact closed_tileRows C hp0
      · exact closed_dramFetch C hp0
    refine R_ite_1 hv12 ?_
    split
    · extract_lets +onlyGivenNames -underBinder x14
      try clear_value x14
      refine R_ite_1 hv12 ?_
      extract_lets +onlyGivenNames -underBinder x15
      have hx15 : R x15 := closed_countEncoded C (closed_dramStore C hv12)
      try clear_value x15
      extract_lets +onlyGivenNames -underBinder x16
      try clear_value x16
      exact hx15

theorem closed_headRead {p0} {p1} {p2} (hp0 : R p0) : R (State.headRead p0 p1 p2).2.2 := by
  unfold State.headRead
  have h := closed_dramFetch (p1 := 6) (p2 := p1) (p3 := p2) C hp0
  generalize State.dramFetch p0 6 p1 p2 = q at h
  obtain ⟨bs, bad, t⟩ := q
  cases bad
  · exact h
  · exact closed_takeFree C h

theorem closed_decompressBlock {p0} {p1} (hp0 : R p0) : R (State.decompressBlock p0 p1).1 := by
  unfold State.decompressBlock
  extract_lets +onlyGivenNames -underBinder x0
  try clear_value x0
  extract_lets +onlyGivenNames -underBinder x1
  try clear_value x1
  extract_lets +onlyGivenNames -underBinder x2
  try clear_value x2
  refine R_ite_1 hp0 ?_
  split
  · rename_i v3 v4 v5 q6
    have hv5 : R v5 := by
      refine Eq.subst (motive := fun z => R z.2.2) q6 ?_
      exact closed_headRead C hp0
    extract_lets +onlyGivenNames -underBinder x7
    try clear_value x7
    split
    · rename_i v8 v9 v10 q11
      have hv10 : R v10 := by
        refine Eq.subst (motive := fun z => R z.2.2) q11 ?_
        exact closed_dramFetch C hv5
      extract_lets +onlyGivenNames -underBinder x12
      try clear_value x12
      extract_lets +onlyGivenNames -underBinder x13
      try clear_value x13
      extract_lets +onlyGivenNames -underBinder x14
      try clear_value x14
      refine R_ite_1 hv10 ?_
      extract_lets +onlyGivenNames -underBinder x15
      try clear_value x15
      extract_lets +onlyGivenNames -underBinder x16
      have hx16 : R x16 := closed_countDecoded C (closed_dramStore C hv10)
      try clear_value x16
      extract_lets +onlyGivenNames -underBinder x17
      have hx17 : R x17 := R_ite (closed_checkFailed C hx16) hx16
      try clear_value x17
      extract_lets +onlyGivenNames -underBinder x18
      try clear_value x18
      exact hx17

theorem closed_compressStream {p0} {p1} (hp0 : R p0) : R (State.compressStream p0 p1).1 := by
  unfold State.compressStream
  have h := closed_readClean (p1 := jobInput p1.desc + historyStart p1.consumed)
    (p2 := jobLength p1.desc - historyStart p1.consumed) C hp0
  generalize historyStart p1.consumed = w at h ⊢
  dsimp only
  generalize State.readClean p0 (jobInput p1.desc + w) (jobLength p1.desc - w) = q at h ⊢
  obtain ⟨data, clean, t⟩ := q
  exact closed_bump C (closed_bump C (closed_dramStore C h))

theorem closed_decompressStream {p0} {p1} (hp0 : R p0) : R (State.decompressStream p0 p1).1 := by
  unfold State.decompressStream
  have h := closed_readClean (p1 := jobInput p1.desc + historyStart p1.consumed)
    (p2 := jobLength p1.desc - historyStart p1.consumed) C hp0
  generalize historyStart p1.consumed = w at h ⊢
  dsimp only
  generalize State.readClean p0 (jobInput p1.desc + w) (jobLength p1.desc - w) = q at h ⊢
  obtain ⟨data, clean, t⟩ := q
  exact closed_bump C (closed_dramStore C h)

theorem closed_stepJob {p0} {p1} (hp0 : R p0) : R (State.stepJob p0 p1).1 := by
  unfold State.stepJob
  refine R_ite_1 ?_ ?_
  · exact closed_compressBlock C hp0
  · refine R_ite_1 ?_ ?_
    · exact closed_compressStream C hp0
    · refine R_ite_1 ?_ ?_
      · exact closed_decompressBlock C hp0
      · exact closed_decompressStream C hp0

theorem closed_dispatchLane {p0} {p1} (hp0 : R p0) : R (State.dispatchLane p0 p1) := by
  unfold State.dispatchLane
  refine R_ite hp0 ?_
  extract_lets +onlyGivenNames -underBinder x0
  try clear_value x0
  extract_lets +onlyGivenNames -underBinder x1
  have hx1 : ∀ a2, R (x1 a2) := by
    intro a2
    dsimp -zeta only [x1]
    split
    · exact closed_setCde C hp0
    · exact hp0
  try clear_value x1
  refine R_ite ?_ ?_
  · split
    · exact closed_setCde C hp0
    · exact hx1 _
  · split
    · exact closed_setCde C hp0
    · exact hx1 _

theorem closed_tileDone {p0} {p1} {p2} (hp0 : R p0) : R (State.tileDone p0 p1 p2) := by
  unfold State.tileDone
  extract_lets +onlyGivenNames -underBinder x0
  try clear_value x0
  extract_lets +onlyGivenNames -underBinder x1
  try clear_value x1
  extract_lets +onlyGivenNames -underBinder x2
  have hx2 : R x2 := C.same_ hp0
  try clear_value x2
  exact R_ite (closed_setBit C (closed_bump C hx2)) hx2

theorem closed_tileLost {p0} {p1} (hp0 : R p0) : R (State.tileLost p0 p1) := by
  unfold State.tileLost
  exact C.same_ hp0

theorem closed_finishLane {p0} {p1} (hp0 : R p0) : R (State.finishLane p0 p1) := by
  unfold State.finishLane
  split
  · exact hp0
  · extract_lets +onlyGivenNames -underBinder x0
    try clear_value x0
    extract_lets +onlyGivenNames -underBinder x1
    have hx1 : R x1 := closed_setCde C hp0
    try clear_value x1
    split
    · split
      · rename_i v2 v3 v4 q5
        have hv4 : R v4 := by
          refine Eq.subst (motive := fun z => R z.2.2) q5 ?_
          exact closed_dramFetch C hx1
        extract_lets +onlyGivenNames -underBinder x6
        try clear_value x6
        refine R_ite (closed_tileLost C hv4) ?_
        split
        · rename_i v7 v8 v9 q10
          have hv9 : R v9 := by
            refine Eq.subst (motive := fun z => R z.2.2) q10 ?_
            exact closed_dramFetch C hv4
          extract_lets +onlyGivenNames -underBinder x11
          try clear_value x11
          extract_lets +onlyGivenNames -underBinder x12
          try clear_value x12
          extract_lets +onlyGivenNames -underBinder x13
          have hx13 : R x13 := closed_tally C (closed_countDecoded C (closed_laneDone C hv9))
          try clear_value x13
          exact closed_tileDone C (R_ite (closed_checkFailed C hx13) hx13)
    · split
      · extract_lets +onlyGivenNames -underBinder x14
        have hx14 : R x14 := closed_countEncoded C (closed_laneDone C hx1)
        try clear_value x14
        exact closed_setCde C hx14
    · split
      · rename_i v15 v16 q17
        have hv15 : R v15 := by
          refine Eq.subst (motive := fun z => R z.1) q17 ?_
          exact closed_stepJob C hx1
        extract_lets +onlyGivenNames -underBinder x18
        have hx18 : R x18 := closed_laneDone C hv15
        try clear_value x18
        split
        · exact closed_showCde C (closed_endJob C hx18)
        · exact R_ite (closed_showCde C (closed_endJob C hx18)) (closed_setCde C hx18)

theorem closed_cancelJobs {p0} {p1} (hp0 : R p0) : R (State.cancelJobs p0 p1) := by
  unfold State.cancelJobs
  extract_lets +onlyGivenNames -underBinder x0
  try clear_value x0
  extract_lets +onlyGivenNames -underBinder x1
  try clear_value x1
  extract_lets +onlyGivenNames -underBinder x2
  try clear_value x2
  extract_lets +onlyGivenNames -underBinder x3
  have hx3 : R x3 := closed_setCde C hp0
  try clear_value x3
  exact R_foldl hx3 (fun _ _ ht4 => closed_endJob C ht4)

theorem closed_cdeTruncate {p0} (hp0 : R p0) : R (State.cdeTruncate p0) := by
  unfold State.cdeTruncate
  extract_lets +onlyGivenNames -underBinder x0
  try clear_value x0
  extract_lets +onlyGivenNames -underBinder x1
  try clear_value x1
  extract_lets +onlyGivenNames -underBinder x2
  have hx2 : R x2 := closed_setCde C hp0
  try clear_value x2
  exact R_foldl hx2 (fun _ _ ht3 => closed_endJob C ht3)

end Sys2Proof.Laws
end

