-- ==== Sys2Proof/Laws/ClosedMre.lean ====
section
/-! SUPPORT. What a closed property of states keeps through the operations of Machine/Mre.lean. -/

namespace Sys2Proof.Laws

open Sys2Proof.Machine

set_option linter.unusedSectionVars false
set_option Elab.async false

variable {R : State → Prop} (C : Closed R)
include C

theorem closed_inspFlag {p0} {p1} (hp0 : R p0) : R (State.inspFlag p0 p1) := by
  unfold State.inspFlag
  exact closed_setBit C hp0

theorem closed_setPages {p0} {p1} (hp0 : R p0) : R (State.setPages p0 p1) := by
  unfold State.setPages
  extract_lets +onlyGivenNames -underBinder x0
  try clear_value x0
  extract_lets +onlyGivenNames -underBinder x1
  try clear_value x1
  extract_lets +onlyGivenNames -underBinder x2
  try clear_value x2
  extract_lets +onlyGivenNames -underBinder x3
  have hx3 : R x3 := closed_wr C (closed_wr C (C.same_ hp0))
  try clear_value x3
  exact R_ite (closed_cross C (closed_inspFlag C hx3)) hx3

theorem closed_submitPage {p0} {p1} (hp0 : R p0) : R (State.submitPage p0 p1).1 := by
  unfold State.submitPage
  extract_lets +onlyGivenNames -underBinder x0
  try clear_value x0
  extract_lets +onlyGivenNames -underBinder x1
  try clear_value x1
  extract_lets +onlyGivenNames -underBinder x2
  try clear_value x2
  refine R_ite_1 hp0 ?_
  refine R_ite_1 hp0 ?_
  refine R_ite_1 hp0 ?_
  dsimp only
  exact closed_wr C (closed_setPages C hp0)

theorem closed_startLoad {p0} (hp0 : R p0) : R (State.startLoad p0) := by
  unfold State.startLoad
  split
  · exact hp0
  · refine R_ite hp0 ?_
    split
    · exact hp0
    · extract_lets +onlyGivenNames -underBinder x0
      try clear_value x0
      extract_lets +onlyGivenNames -underBinder x1
      have hx1 : R x1 := C.same_ hp0
      try clear_value x1
      exact closed_setPages C hx1

theorem closed_failLoad {p0} {p1} (hp0 : R p0) : R (State.failLoad p0 p1) := by
  unfold State.failLoad
  extract_lets +onlyGivenNames -underBinder x0
  have hx0 : R x0 := closed_setPages C hp0
  try clear_value x0
  exact closed_cross C (closed_inspFlag C hx0)

theorem closed_endLoad {p0} {p1} {p2} (hp0 : R p0) : R (State.endLoad p0 p1 p2) := by
  unfold State.endLoad
  split
  · exact hp0
  · refine R_ite (closed_failLoad C (closed_retryLasting C hp0)) ?_
    refine R_ite hp0 ?_
    split
    · exact hp0
    · extract_lets +onlyGivenNames -underBinder x0
      have hx0 : R x0 := closed_dramStore C (closed_hostFetch C hp0)
      try clear_value x0
      refine R_ite ?_ (closed_failLoad C hx0)
      extract_lets +onlyGivenNames -underBinder x1
      try clear_value x1
      extract_lets +onlyGivenNames -underBinder x2
      have hx2 : R x2 := C.same_ hx0
      try clear_value x2
      exact closed_setPages C hx2

theorem closed_loadTimesOut {p0} (hp0 : R p0) : R (State.loadTimesOut p0) := by
  unfold State.loadTimesOut
  split
  · exact closed_failLoad C hp0
  · exact hp0

theorem closed_flushPages {p0} (hp0 : R p0) : R (State.flushPages p0) := by
  unfold State.flushPages
  exact closed_setPages C (closed_bump C hp0)

theorem closed_setBinder {p0} {p1} (hp0 : R p0) : R (State.setBinder p0 p1) := by
  unfold State.setBinder
  exact closed_putBit C (closed_putBit C (closed_putBit C (closed_wr C hp0)))

theorem closed_relock {p0} (hp0 : R p0) : R (State.relock p0) := by
  unfold State.relock
  exact R_ite hp0 (closed_setBinder C (C.same_ hp0))

theorem closed_renumber {p0} (hp0 : R p0) : R (State.renumber p0).1 := by
  unfold State.renumber
  refine R_ite_1 ?_ hp0
  dsimp only
  exact closed_wr C (C.same_ hp0)

theorem closed_queueCommand {p0} {p1} (hp0 : R p0) : R (State.queueCommand p0 p1).1 := by
  unfold State.queueCommand
  refine R_ite_1 ?_ ?_
  · dsimp only
    exact closed_flushPages C hp0
  · refine R_ite_1 ?_ ?_
    · dsimp only
      exact C.same_ hp0
    · refine R_ite_1 ?_ ?_
      · dsimp only
        exact closed_relock C hp0
      · refine R_ite_1 ?_ hp0
        exact closed_renumber C hp0

theorem closed_bind {p0} {p1} {p2} {p3} {p4} {p5} (hp0 : R p0) : R (State.bind p0 p1 p2 p3 p4 p5) := by
  unfold State.bind
  extract_lets +onlyGivenNames -underBinder x0
  try clear_value x0
  extract_lets +onlyGivenNames -underBinder x1
  try clear_value x1
  extract_lets +onlyGivenNames -underBinder x2
  try clear_value x2
  extract_lets +onlyGivenNames -underBinder x3
  try clear_value x3
  extract_lets +onlyGivenNames -underBinder x4
  try clear_value x4
  extract_lets +onlyGivenNames -underBinder x5
  try clear_value x5
  extract_lets +onlyGivenNames -underBinder x6
  have hx6 : R x6 := closed_setPages C (closed_takeFree C hp0)
  try clear_value x6
  extract_lets +onlyGivenNames -underBinder x7
  try clear_value x7
  extract_lets +onlyGivenNames -underBinder x8
  try clear_value x8
  extract_lets +onlyGivenNames -underBinder x9
  have hx9 : R x9 := C.same_ hx6
  try clear_value x9
  extract_lets +onlyGivenNames -underBinder x10
  have hx10 : R x10 := R_ite (closed_inspFlag C hx9) hx9
  try clear_value x10
  exact closed_cross C (closed_bump C hx10)

theorem closed_acceptMark {p0} {p1} {p2} (hp0 : R p0) : R (State.acceptMark p0 p1 p2) := by
  unfold State.acceptMark
  extract_lets +onlyGivenNames -underBinder x0
  try clear_value x0
  extract_lets +onlyGivenNames -underBinder x1
  have hx1 : R x1 := closed_setBinder C (closed_bump C hp0)
  try clear_value x1
  extract_lets +onlyGivenNames -underBinder x2
  try clear_value x2
  extract_lets +onlyGivenNames -underBinder x3
  have hx3 : R x3 := closed_bind C (C.same_ hx1)
  try clear_value x3
  exact R_ite (closed_cross C hx3) hx3

theorem closed_classifyMark {p0} {p1} {p2} (hp0 : R p0) : R (State.classifyMark p0 p1 p2) := by
  unfold State.classifyMark
  extract_lets +onlyGivenNames -underBinder x0
  try clear_value x0
  exact R_ite (closed_bump C hp0) (R_ite (closed_acceptMark C hp0) (R_ite (closed_acceptMark C hp0) (closed_cross C (closed_inspFlag C (closed_bump C hp0)))))

theorem closed_markLatch {p0} {p1} {p2} {p3} (hp0 : R p0) : R (State.markLatch p0 p1 p2 p3) := by
  unfold State.markLatch
  exact R_ite hp0 (R_ite (closed_discard C hp0) (R_ite (closed_inspFlag C hp0) (C.same_ hp0)))

theorem closed_nextMark {p0} (hp0 : R p0) : R (State.nextMark p0) := by
  unfold State.nextMark
  split
  · exact hp0
  · exact R_ite (closed_classifyMark C (C.same_ hp0)) hp0

theorem closed_marksUpTo {p0} {p1} {p2} (hp0 : R p0) : R (State.marksUpTo p0 p1 p2) := by
  unfold State.marksUpTo
  split
  · exact hp0
  · split
    · exact hp0
    · exact R_ite (closed_marksUpTo (closed_nextMark C hp0)) hp0

theorem closed_expire {p0} (hp0 : R p0) : R (State.expire p0) := by
  unfold State.expire
  split
  · extract_lets +onlyGivenNames -underBinder x0
    try clear_value x0
    extract_lets +onlyGivenNames -underBinder x1
    try clear_value x1
    extract_lets +onlyGivenNames -underBinder x2
    try clear_value x2
    extract_lets +onlyGivenNames -underBinder x3
    have hx3 : R x3 := closed_cross C (closed_inspFlag C (closed_bump C hp0))
    try clear_value x3
    extract_lets +onlyGivenNames -underBinder x4
    have hx4 : R x4 := closed_setBinder C hx3
    try clear_value x4
    extract_lets +onlyGivenNames -underBinder x5
    have hx5 : R x5 := R_ite (closed_cross C (closed_inspFlag C hx4)) hx4
    try clear_value x5
    exact closed_bind C (C.same_ hx5)
  · exact hp0

theorem closed_noteExpiry {p0} {p1} {p2} (hp0 : R p0) : R (State.noteExpiry p0 p1 p2) := by
  unfold State.noteExpiry
  extract_lets +onlyGivenNames -underBinder x0
  try clear_value x0
  extract_lets +onlyGivenNames -underBinder x1
  try clear_value x1
  exact R_ite (C.same_ hp0) hp0

theorem closed_dueDrift {p0} (hp0 : R p0) : R (State.dueDrift p0) := by
  unfold State.dueDrift
  extract_lets +onlyGivenNames -underBinder x0
  try clear_value x0
  exact C.same_ hp0

theorem closed_dueMap {p0} (hp0 : R p0) : R (State.dueMap p0) := by
  unfold State.dueMap
  exact C.same_ hp0

theorem closed_setBound {p0} {p1} (hp0 : R p0) : R (State.setBound p0 p1) := by
  unfold State.setBound
  exact C.same_ hp0

theorem closed_openWindow {p0} {p1} {p2} (hp0 : R p0) : R (State.openWindow p0 p1 p2) := by
  unfold State.openWindow
  extract_lets +onlyGivenNames -underBinder x0
  try clear_value x0
  extract_lets +onlyGivenNames -underBinder x1
  have hx1 : R x1 := closed_dueDrift C (C.same_ hp0)
  try clear_value x1
  extract_lets +onlyGivenNames -underBinder x2
  try clear_value x2
  extract_lets +onlyGivenNames -underBinder x3
  try clear_value x3
  extract_lets +onlyGivenNames -underBinder x4
  try clear_value x4
  extract_lets +onlyGivenNames -underBinder x5
  try clear_value x5
  extract_lets +onlyGivenNames -underBinder x6
  try clear_value x6
  extract_lets +onlyGivenNames -underBinder x7
  try clear_value x7
  extract_lets +onlyGivenNames -underBinder x8
  try clear_value x8
  extract_lets +onlyGivenNames -underBinder x9
  try clear_value x9
  extract_lets +onlyGivenNames -underBinder x10
  try clear_value x10
  extract_lets +onlyGivenNames -underBinder x11
  try clear_value x11
  extract_lets +onlyGivenNames -underBinder x12
  have hx12 : R x12 := closed_setBound C (C.same_ hx1)
  try clear_value x12
  extract_lets +onlyGivenNames -underBinder x13
  have hx13 : R x13 := closed_sample C hx12
  try clear_value x13
  exact R_ite (closed_inspFlag C hx13) hx13

theorem closed_closeWindow {p0} {p1} (hp0 : R p0) : R (State.closeWindow p0 p1) := by
  unfold State.closeWindow
  split
  · exact hp0
  · extract_lets +onlyGivenNames -underBinder x0
    try clear_value x0
    extract_lets +onlyGivenNames -underBinder x1
    try clear_value x1
    extract_lets +onlyGivenNames -underBinder x2
    try clear_value x2
    extract_lets +onlyGivenNames -underBinder x3
    try clear_value x3
    extract_lets +onlyGivenNames -underBinder x4
    have hx4 : R x4 := C.more_ hp0
    try clear_value x4
    extract_lets +onlyGivenNames -underBinder x5
    have hx5 : R x5 := by
      unfold x5
      split
      · exact closed_setBound C hx4
      · exact hx4
    try clear_value x5
    refine R_ite ?_ ?_
    · extract_lets +onlyGivenNames -underBinder x6
      have hx6 : R x6 := by
        unfold x6
        split
        · exact closed_setBound C hx5
        · exact hx5
      try clear_value x6
      exact closed_cross C (closed_inspFlag C hx6)
    · extract_lets +onlyGivenNames -underBinder x7
      try clear_value x7
      extract_lets +onlyGivenNames -underBinder x8
      try clear_value x8
      extract_lets +onlyGivenNames -underBinder x9
      try clear_value x9
      extract_lets +onlyGivenNames -underBinder x10
      try clear_value x10
      extract_lets +onlyGivenNames -underBinder x11
      try clear_value x11
      extract_lets +onlyGivenNames -underBinder x12
      try clear_value x12
      extract_lets +onlyGivenNames -underBinder x13
      try clear_value x13
      extract_lets +onlyGivenNames -underBinder x14
      try clear_value x14
      extract_lets +onlyGivenNames -underBinder x15
      try clear_value x15
      extract_lets +onlyGivenNames -underBinder x16
      have hx16 : R x16 := C.same_ hx5
      try clear_value x16
      exact R_ite (closed_inspFlag C hx16) hx16

theorem closed_endPage {p0} {p1} {p2} {p3} {p4} (hp0 : R p0) : R (State.endPage p0 p1 p2 p3 p4) := by
  unfold State.endPage
  extract_lets +onlyGivenNames -underBinder x0
  have hx0 : R x0 := by
    unfold x0
    split
    · exact R_ite (closed_closeWindow C hp0) hp0
    · exact hp0
  try clear_value x0
  extract_lets +onlyGivenNames -underBinder x1
  try clear_value x1
  extract_lets +onlyGivenNames -underBinder x2
  have hx2 : R x2 := closed_dueMap C hx0
  try clear_value x2
  extract_lets +onlyGivenNames -underBinder x3
  try clear_value x3
  extract_lets +onlyGivenNames -underBinder x4
  have hx4 : R x4 := C.same_ hx2
  try clear_value x4
  extract_lets +onlyGivenNames -underBinder x5
  try clear_value x5
  extract_lets +onlyGivenNames -underBinder x6
  have hx6 : R x6 := closed_push C hx4
  try clear_value x6
  refine R_ite hx6 ?_
  extract_lets +onlyGivenNames -underBinder x7
  have hx7 : R x7 := closed_cross C (closed_inspFlag C (closed_bump C hx6))
  try clear_value x7
  exact C.same_ hx7

theorem closed_endPages {p0} {p1} {p2} (hp0 : R p0) : R (State.endPages p0 p1 p2) := by
  unfold State.endPages
  split
  · exact hp0
  · split
    · exact hp0
    · split
      · refine R_ite ?_ hp0
        extract_lets +onlyGivenNames -underBinder x0
        have hx0 : R x0 := closed_endPage C hp0
        try clear_value x0
        extract_lets +onlyGivenNames -underBinder x1
        have hx1 : R x1 := R_ite hx0 (closed_bind C hx0)
        try clear_value x1
        exact closed_endPages hx1

theorem closed_beginPage {p0} {p1} (hp0 : R p0) : R (State.beginPage p0 p1) := by
  unfold State.beginPage
  extract_lets +onlyGivenNames -underBinder x0
  try clear_value x0
  extract_lets +onlyGivenNames -underBinder x1
  have hx1 : R x1 := closed_setBound C hp0
  try clear_value x1
  extract_lets +onlyGivenNames -underBinder x2
  try clear_value x2
  extract_lets +onlyGivenNames -underBinder x3
  have hx3 : R x3 := C.same_ hx1
  try clear_value x3
  extract_lets +onlyGivenNames -underBinder x4
  have hx4 : R x4 := closed_wr C (closed_wr C hx3)
  try clear_value x4
  exact R_ite (closed_bind C hx4) hx4

theorem closed_askTile {p0} {p1} {p2} (hp0 : R p0) : R (State.askTile p0 p1 p2) := by
  unfold State.askTile
  split
  · exact hp0
  · split
    · rename_i v0 v1 v2 q3
      have hv2 : R v2 := by
        refine Eq.subst (motive := fun z => R z.2.2) q3 ?_
        exact closed_dramFetch C hp0
      extract_lets +onlyGivenNames -underBinder x4
      try clear_value x4
      extract_lets +onlyGivenNames -underBinder x5
      try clear_value x5
      extract_lets +onlyGivenNames -underBinder x6
      have hx6 : R x6 := C.same_ hv2
      try clear_value x6
      exact R_ite hv2 (R_ite (closed_tileDone C hx6) (closed_setCde C hx6))

theorem closed_fetchTiles {p0} {p1} (hp0 : R p0) : R (State.fetchTiles p0 p1) := by
  unfold State.fetchTiles
  exact R_ite (R_foldl hp0 (fun _ _ ht0 => R_foldl ht0 (fun _ _ ht1 => closed_askTile C ht1))) hp0

theorem closed_mreBoundary {p0} (hp0 : R p0) : R (State.mreBoundary p0) := by
  unfold State.mreBoundary
  exact closed_forceo C (closed_forceo C (closed_forceo C hp0))

theorem closed_comparedLine {p0} {p1} {p2} (hp0 : R p0) : R (State.comparedLine p0 p1 p2).1 := by
  unfold State.comparedLine
  extract_lets +onlyGivenNames -underBinder x0
  try clear_value x0
  extract_lets +onlyGivenNames -underBinder x1
  try clear_value x1
  extract_lets +onlyGivenNames -underBinder x2
  try clear_value x2
  extract_lets +onlyGivenNames -underBinder x3
  try clear_value x3
  extract_lets +onlyGivenNames -underBinder x4
  have hx4 : R x4 := by
    unfold x4
    split
    · exact R_ite hp0 (closed_openWindow C (closed_closeWindow C hp0))
    · exact closed_openWindow C hp0
  try clear_value x4
  split
  · extract_lets +onlyGivenNames -underBinder x5
    try clear_value x5
    extract_lets +onlyGivenNames -underBinder x6
    try clear_value x6
    extract_lets +onlyGivenNames -underBinder x7
    try clear_value x7
    extract_lets +onlyGivenNames -underBinder x8
    try clear_value x8
    extract_lets +onlyGivenNames -underBinder x9
    try clear_value x9
    extract_lets +onlyGivenNames -underBinder x10
    try clear_value x10
    extract_lets +onlyGivenNames -underBinder x11
    have hx11 : R x11 := closed_setBound C (C.same_ hx4)
    try clear_value x11
    extract_lets +onlyGivenNames -underBinder x12
    have hx12 : R x12 := closed_bump C hx11
    try clear_value x12
    extract_lets +onlyGivenNames -underBinder x13
    have hx13 : R x13 := R_ite (closed_inspFlag C (closed_bump C hx12)) hx12
    try clear_value x13
    exact hx13
  · exact hx4

theorem closed_mreLine {p0} {p1} (hp0 : R p0) : R (State.mreLine p0 p1).1 := by
  unfold State.mreLine
  extract_lets +onlyGivenNames -underBinder x0
  try clear_value x0
  refine R_ite_1 ?_ ?_
  · dsimp only
    exact closed_discard C hp0
  · extract_lets +onlyGivenNames -underBinder x1
    have hx1 : R x1 := R_ite (closed_mreBoundary C hp0) hp0
    try clear_value x1
    extract_lets +onlyGivenNames -underBinder x2
    have hx2 : R x2 := closed_marksUpTo C (closed_expire C hx1)
    try clear_value x2
    extract_lets +onlyGivenNames -underBinder x3
    have hx3 : R x3 := closed_endPages C hx2
    try clear_value x3
    extract_lets +onlyGivenNames -underBinder x4
    have hx4 : R x4 := by
      unfold x4
      split
      · exact R_ite hx3 (closed_beginPage C hx3)
      · exact hx3
    try clear_value x4
    split
    · rename_i v5 v6 q7
      have hv5 : R v5 := by
        refine Eq.subst (motive := fun z => R z.1) q7 ?_
        show R (Prod.fst _)
        split
        · refine R_ite_1 ?_ hx4
          exact closed_comparedLine C hx4
        · extract_lets +onlyGivenNames -underBinder x8
          try clear_value x8
          exact hx4
      extract_lets +onlyGivenNames -underBinder x9
      have hx9 : R x9 := closed_fetchTiles C (closed_noteExpiry C hv5)
      try clear_value x9
      dsimp only
      exact C.same_ hx9

theorem closed_mreStarts {p0} {p1} (hp0 : R p0) : R (State.mreStarts p0 p1) := by
  unfold State.mreStarts
  extract_lets +onlyGivenNames -underBinder x0
  try clear_value x0
  extract_lets +onlyGivenNames -underBinder x1
  have hx1 : R x1 := C.same_ hp0
  try clear_value x1
  refine R_ite ?_ (closed_setBinder C hx1)
  extract_lets +onlyGivenNames -underBinder x2
  try clear_value x2
  exact closed_bind C (closed_setBinder C hx1)

theorem closed_mreStops {p0} (hp0 : R p0) : R (State.mreStops p0) := by
  unfold State.mreStops
  exact C.same_ hp0

theorem closed_mreEnds {p0} (hp0 : R p0) : R (State.mreEnds p0) := by
  unfold State.mreEnds
  extract_lets +onlyGivenNames -underBinder x0
  have hx0 : R x0 := R_foldl hp0 (fun _ _ ht1 => closed_endPage C ht1)
  try clear_value x0
  exact C.more_ hx0

theorem closed_mreInvalidated {p0} (hp0 : R p0) : R (State.mreInvalidated p0) := by
  unfold State.mreInvalidated
  extract_lets +onlyGivenNames -underBinder x0
  have hx0 : R x0 := closed_setPages C hp0
  try clear_value x0
  exact C.same_ hx0

end Sys2Proof.Laws
end

