-- ==== Sys2Proof/Laws/ClosedSeg.lean ====
section
/-! SUPPORT. What a closed property of states keeps through the operations of Machine/Seg.lean. -/

namespace Sys2Proof.Laws

open Sys2Proof.Machine

set_option linter.unusedSectionVars false
set_option Elab.async false

variable {R : State → Prop} (C : Closed R)
include C

theorem closed_segForce {p0} (hp0 : R p0) : R (State.segForce p0) := by
  unfold State.segForce
  exact closed_forceo C (closed_forceo C (closed_forceAll C hp0))

theorem closed_contextPeak {p0} {p1} (hp0 : R p0) : R (State.contextPeak p0 p1) := by
  unfold State.contextPeak
  extract_lets +onlyGivenNames -underBinder x0
  have hx0 : R x0 := closed_raiseTo C hp0
  try clear_value x0
  exact C.same_ hx0

theorem closed_showContexts {p0} (hp0 : R p0) : R (State.showContexts p0) := by
  unfold State.showContexts
  exact closed_contextPeak C (closed_wr C hp0)

theorem closed_segRecord {p0} {p1} {p2} (hp0 : R p0) : R (State.segRecord p0 p1 p2) := by
  unfold State.segRecord
  exact C.same_ hp0

theorem closed_report {p0} {p1} {p2} {p3} {p4} (hp0 : R p0) : R (State.report p0 p1 p2 p3 p4) := by
  unfold State.report
  refine R_ite ?_ (closed_bump C hp0)
  extract_lets +onlyGivenNames -underBinder x0
  have hx0 : R x0 := closed_tally C (closed_bump C (closed_segRecord C hp0))
  try clear_value x0
  extract_lets +onlyGivenNames -underBinder x1
  have hx1 : R x1 := R_ite (closed_setBit C (closed_bump C hx0)) hx0
  try clear_value x1
  exact R_ite (closed_bump C hx1) hx1

theorem closed_completeJoined {p0} {p1} (hp0 : R p0) : R (State.completeJoined p0 p1) := by
  unfold State.completeJoined
  extract_lets +onlyGivenNames -underBinder x0
  try clear_value x0
  extract_lets +onlyGivenNames -underBinder x1
  have hx1 : R x1 := C.same_ hp0
  try clear_value x1
  refine R_ite ?_ (closed_report C hx1)
  extract_lets +onlyGivenNames -underBinder x2
  try clear_value x2
  exact C.same_ hx1

theorem closed_completeAll {p0} {p1} (hp0 : R p0) : R (State.completeAll p0 p1) := by
  unfold State.completeAll
  exact R_foldl hp0 (fun _ _ ht0 => closed_completeJoined C ht0)

theorem closed_closeBlobs {p0} {p1} {p2} {p3} (hp0 : R p0) : R (State.closeBlobs p0 p1 p2 p3) := by
  unfold State.closeBlobs
  extract_lets +onlyGivenNames -underBinder x0
  try clear_value x0
  extract_lets +onlyGivenNames -underBinder x1
  have hx1 : R x1 := C.same_ hp0
  try clear_value x1
  exact closed_completeAll C hx1

theorem closed_dropWaits {p0} {p1} (hp0 : R p0) : R (State.dropWaits p0 p1) := by
  unfold State.dropWaits
  exact C.same_ hp0

theorem closed_mapBlob {p0} {p1} {p2} (hp0 : R p0) : R (State.mapBlob p0 p1 p2) := by
  unfold State.mapBlob
  exact C.same_ hp0

theorem closed_joinContacts {p0} {p1} {p2} {p3} (hp0 : R p0) : R (State.joinContacts p0 p1 p2 p3) := by
  unfold State.joinContacts
  refine R_ite hp0 ?_
  split
  · exact hp0
  · refine R_ite hp0 ?_
    extract_lets +onlyGivenNames -underBinder x0
    try clear_value x0
    exact R_foldl hp0 (fun _ _ ht1 => R_ite (closed_mapBlob C ht1) (R_ite ht1 (closed_mapBlob C ht1)))

theorem closed_giveJoinId {p0} {p1} (hp0 : R p0) : R (State.giveJoinId p0 p1) := by
  unfold State.giveJoinId
  split
  · refine R_ite hp0 ?_
    extract_lets +onlyGivenNames -underBinder x0
    have hx0 : R x0 := closed_mapBlob C hp0
    try clear_value x0
    exact C.same_ hx0
  · exact hp0

theorem closed_sendSummary {p0} {p1} {p2} {p3} {p4} (hp0 : R p0) : R (State.sendSummary p0 p1 p2 p3 p4) := by
  unfold State.sendSummary
  refine R_ite hp0 ?_
  extract_lets +onlyGivenNames -underBinder x0
  try clear_value x0
  extract_lets +onlyGivenNames -underBinder x1
  try clear_value x1
  extract_lets +onlyGivenNames -underBinder x2
  try clear_value x2
  extract_lets +onlyGivenNames -underBinder x3
  try clear_value x3
  extract_lets +onlyGivenNames -underBinder x4
  try clear_value x4
  extract_lets +onlyGivenNames -underBinder x5
  have hx5 : R x5 := C.same_ hp0
  try clear_value x5
  exact closed_braidSend C hx5

theorem closed_reclaimPartials {p0} (hp0 : R p0) : R (State.reclaimPartials p0) := by
  unfold State.reclaimPartials
  refine R_ite hp0 ?_
  refine R_ite (C.same_ hp0) ?_
  extract_lets +onlyGivenNames -underBinder x0
  try clear_value x0
  extract_lets +onlyGivenNames -underBinder x1
  have hx1 : R x1 := C.same_ hp0
  try clear_value x1
  exact closed_setBit C (R_foldl hx1 (fun _ _ ht2 => closed_report C ht2))

theorem closed_takePartial {p0} {p1} (hp0 : R p0) : R (State.takePartial p0 p1) := by
  unfold State.takePartial
  extract_lets +onlyGivenNames -underBinder x0
  try clear_value x0
  extract_lets +onlyGivenNames -underBinder x1
  try clear_value x1
  extract_lets +onlyGivenNames -underBinder x2
  try clear_value x2
  exact R_ite (C.same_ hp0) (closed_report C (C.same_ hp0))

theorem closed_summaryEvents {p0} {p1} {p2} (hp0 : R p0) : R (State.summaryEvents p0 p1 p2) := by
  unfold State.summaryEvents
  split
  · exact hp0
  · refine R_ite (closed_summaryEvents (closed_takePartial C hp0)) ?_
    extract_lets +onlyGivenNames -underBinder x0
    try clear_value x0
    extract_lets +onlyGivenNames -underBinder x1
    try clear_value x1
    extract_lets +onlyGivenNames -underBinder x2
    try clear_value x2
    extract_lets +onlyGivenNames -underBinder x3
    try clear_value x3
    extract_lets +onlyGivenNames -underBinder x4
    have hx4 : R x4 := R_ite (C.same_ hp0) hp0
    try clear_value x4
    exact closed_summaryEvents hx4

theorem closed_summaryUse {p0} {p1} {p2} (hp0 : R p0) : R (State.summaryUse p0 p1 p2) := by
  unfold State.summaryUse
  extract_lets +onlyGivenNames -underBinder x0
  try clear_value x0
  extract_lets +onlyGivenNames -underBinder x1
  try clear_value x1
  extract_lets +onlyGivenNames -underBinder x2
  have hx2 : R x2 := C.same_ hp0
  try clear_value x2
  exact closed_summaryEvents C hx2

theorem closed_summaryArrives {p0} {p1} {p2} (hp0 : R p0) : R (State.summaryArrives p0 p1 p2) := by
  unfold State.summaryArrives
  extract_lets +onlyGivenNames -underBinder x0
  try clear_value x0
  split
  · exact R_ite (closed_summaryUse C hp0) (closed_setBit C hp0)
  · exact R_ite hp0 (R_ite (closed_summaryUse C hp0) (C.same_ hp0))

theorem closed_matchEarly {p0} {p1} (hp0 : R p0) : R (State.matchEarly p0 p1) := by
  unfold State.matchEarly
  extract_lets +onlyGivenNames -underBinder x0
  try clear_value x0
  exact R_foldl (C.same_ hp0) (fun _ _ ht1 => closed_summaryArrives C ht1)

theorem closed_sendClosings {p0} {p1} {p2} {p3} (hp0 : R p0) : R (State.sendClosings p0 p1 p2 p3) := by
  unfold State.sendClosings
  split
  · exact hp0
  · refine R_ite hp0 ?_
    extract_lets +onlyGivenNames -underBinder x0
    try clear_value x0
    extract_lets +onlyGivenNames -underBinder x1
    have hx1 : R x1 := C.same_ hp0
    try clear_value x1
    exact closed_sendClosings (closed_sendSummary C hx1)

theorem closed_drainJoins {p0} (hp0 : R p0) : R (State.drainJoins p0) := by
  unfold State.drainJoins
  split
  · exact hp0
  · refine R_ite hp0 ?_
    extract_lets +onlyGivenNames -underBinder x0
    try clear_value x0
    extract_lets +onlyGivenNames -underBinder x1
    have hx1 : R x1 := closed_joinContacts C (closed_joinContacts C hp0)
    try clear_value x1
    extract_lets +onlyGivenNames -underBinder x2
    try clear_value x2
    extract_lets +onlyGivenNames -underBinder x3
    have hx3 : R x3 := closed_completeAll C (closed_dropWaits C hx1)
    try clear_value x3
    extract_lets +onlyGivenNames -underBinder x4
    try clear_value x4
    exact closed_showContexts C (closed_sendClosings C (closed_sendClosings C hx3))

theorem closed_summaryReceive {p0} {p1} (hp0 : R p0) : R (State.summaryReceive p0 p1) := by
  unfold State.summaryReceive
  split
  · rename_i v0 v1 q2
    have hv0 : R v0 := by
      refine Eq.subst (motive := fun z => R z.1) q2 ?_
      exact closed_takeMessage C hp0
    split
    · exact hv0
    · extract_lets +onlyGivenNames -underBinder x3
      try clear_value x3
      extract_lets +onlyGivenNames -underBinder x4
      try clear_value x4
      exact R_ite hv0 (closed_drainJoins C (closed_summaryArrives C (closed_copyUsed C hv0)))

theorem closed_partialsLate {p0} (hp0 : R p0) : R (State.partialsLate p0) := by
  unfold State.partialsLate
  split
  · exact hp0
  · extract_lets +onlyGivenNames -underBinder x0
    try clear_value x0
    exact R_ite hp0 (closed_showContexts C (closed_setBit C (closed_completeAll C (closed_dropWaits C hp0))))

theorem closed_compareShadow {p0} {p1} {p2} {p3} (hp0 : R p0) : R (State.compareShadow p0 p1 p2 p3) := by
  unfold State.compareShadow
  split
  · extract_lets +onlyGivenNames -underBinder x0
    try clear_value x0
    exact R_ite (closed_setBit C (closed_bump C hp0)) hp0
  · exact hp0

theorem closed_countRuns {p0} {p1} (hp0 : R p0) : R (State.countRuns p0 p1) := by
  unfold State.countRuns
  refine R_foldl hp0 (fun _ _ ht0 => ?_)
  split
  · exact closed_tally C (closed_bump C ht0)
  · exact ht0

theorem closed_countDrops {p0} {p1} (hp0 : R p0) : R (State.countDrops p0 p1) := by
  unfold State.countDrops
  refine R_ite hp0 ?_
  extract_lets +onlyGivenNames -underBinder x0
  try clear_value x0
  extract_lets +onlyGivenNames -underBinder x1
  try clear_value x1
  extract_lets +onlyGivenNames -underBinder x2
  have hx2 : R x2 := closed_setBit C (closed_bump C (closed_tally C hp0))
  try clear_value x2
  extract_lets +onlyGivenNames -underBinder x3
  have hx3 : R x3 := R_ite hx2 (closed_cross C hx2)
  try clear_value x3
  exact C.same_ hx3

theorem closed_endSegStrip {p0} {p1} {p2} (hp0 : R p0) : R (State.endSegStrip p0 p1 p2) := by
  unfold State.endSegStrip
  extract_lets +onlyGivenNames -underBinder x0
  try clear_value x0
  extract_lets +onlyGivenNames -underBinder x1
  have hx1 : R x1 := closed_sample C (closed_segRecord C hp0)
  try clear_value x1
  exact C.same_ hx1

theorem closed_setSegSpare {p0} {p1} {p2} {p3} (hp0 : R p0) : R (State.setSegSpare p0 p1 p2 p3) := by
  unfold State.setSegSpare
  extract_lets +onlyGivenNames -underBinder x0
  have hx0 : R x0 := closed_wr C hp0
  try clear_value x0
  extract_lets +onlyGivenNames -underBinder x1
  try clear_value x1
  extract_lets +onlyGivenNames -underBinder x2
  have hx2 : R x2 := C.same_ hx0
  try clear_value x2
  exact C.same_ hx2

theorem closed_setEngine {p0} {p1} {p2} {p3} (hp0 : R p0) : R (State.setEngine p0 p1 p2 p3) := by
  unfold State.setEngine
  exact closed_wr C (closed_wr C hp0)

theorem closed_segSpareTarget {p0} {p1} {p2} (hp0 : R p0) : R (State.segSpareTarget p0 p1 p2).1 := by
  unfold State.segSpareTarget
  refine R_ite_1 hp0 ?_
  refine R_ite_1 ?_ ?_
  · dsimp only
    exact closed_wr C hp0
  · refine R_ite_1 hp0 ?_
    dsimp only
    exact closed_setEngine C (closed_setSegSpare C (closed_wr C hp0))

theorem closed_segSpareLoaded {p0} {p1} (hp0 : R p0) : R (State.segSpareLoaded p0 p1) := by
  unfold State.segSpareLoaded
  extract_lets +onlyGivenNames -underBinder x0
  try clear_value x0
  exact R_ite (closed_setSegSpare C hp0) hp0

theorem closed_segTakeOver {p0} {p1} (hp0 : R p0) : R (State.segTakeOver p0 p1).1 := by
  unfold State.segTakeOver
  extract_lets +onlyGivenNames -underBinder x0
  try clear_value x0
  refine R_ite_1 ?_ hp0
  dsimp only
  exact closed_setSegSpare C hp0

theorem closed_segHandBack {p0} {p1} (hp0 : R p0) : R (State.segHandBack p0 p1).1 := by
  unfold State.segHandBack
  extract_lets +onlyGivenNames -underBinder x0
  try clear_value x0
  split
  · refine R_ite_1 ?_ hp0
    dsimp only
    exact closed_setEngine C (closed_setSegSpare C hp0)
  · exact hp0

theorem closed_segRelease {p0} {p1} (hp0 : R p0) : R (State.segRelease p0 p1).1 := by
  unfold State.segRelease
  extract_lets +onlyGivenNames -underBinder x0
  try clear_value x0
  refine R_ite_1 ?_ hp0
  dsimp only
  exact closed_setEngine C (closed_setSegSpare C hp0)

theorem closed_segServes {p0} {p1} {p2} {p3} {p4} (hp0 : R p0) : R (State.segServes p0 p1 p2 p3 p4) := by
  unfold State.segServes
  extract_lets +onlyGivenNames -underBinder x0
  try clear_value x0
  extract_lets +onlyGivenNames -underBinder x1
  have hx1 : R x1 := by
    unfold x1
    split
    · exact R_ite (closed_setEngine C hp0) hp0
    · exact hp0
  try clear_value x1
  extract_lets +onlyGivenNames -underBinder x2
  try clear_value x2
  extract_lets +onlyGivenNames -underBinder x3
  have hx3 : R x3 := closed_setEngine C (closed_setSegSpare C hx1)
  try clear_value x3
  exact closed_cross C (closed_bump C (closed_wr C hx3))

theorem closed_segSpareBoundary {p0} {p1} {p2} (hp0 : R p0) : R (State.segSpareBoundary p0 p1 p2) := by
  unfold State.segSpareBoundary
  extract_lets +onlyGivenNames -underBinder x0
  try clear_value x0
  extract_lets +onlyGivenNames -underBinder x1
  try clear_value x1
  extract_lets +onlyGivenNames -underBinder x2
  try clear_value x2
  extract_lets +onlyGivenNames -underBinder x3
  try clear_value x3
  extract_lets +onlyGivenNames -underBinder x4
  try clear_value x4
  extract_lets +onlyGivenNames -underBinder x5
  have hx5 : ∀ a6, R a6 → R (x5 a6) := by
    intro a6 ha6
    exact closed_wr C ha6
  try clear_value x5
  refine R_ite ?_ ?_
  · split
    · exact hx5 _ (closed_setEngine C (closed_setSegSpare C hp0))
    · exact closed_segServes C hp0
  · refine R_ite (closed_segServes C hp0) ?_
    refine R_ite ?_ hp0
    split
    · exact hx5 _ (closed_setEngine C (closed_setSegSpare C hp0))
    · refine R_ite ?_ hp0
      extract_lets +onlyGivenNames -underBinder x7
      have hx7 : R x7 := closed_setSegSpare C hp0
      try clear_value x7
      extract_lets +onlyGivenNames -underBinder x8
      have hx8 : R x8 := closed_setEngine C (R_ite hx7 (closed_setEngine C hx7))
      try clear_value x8
      exact closed_cross C (closed_wr C hx8)
    · exact hp0

theorem closed_engineFaults {p0} {p1} {p2} (hp0 : R p0) : R (State.engineFaults p0 p1 p2) := by
  unfold State.engineFaults
  extract_lets +onlyGivenNames -underBinder x0
  try clear_value x0
  extract_lets +onlyGivenNames -underBinder x1
  try clear_value x1
  extract_lets +onlyGivenNames -underBinder x2
  have hx2 : R x2 := closed_setBit C (closed_wr C (closed_wr C hp0))
  try clear_value x2
  extract_lets +onlyGivenNames -underBinder x3
  have hx3 : R x3 := closed_cross C hx2
  try clear_value x3
  extract_lets +onlyGivenNames -underBinder x4
  extract_lets +onlyGivenNames -underBinder x5
  split
  · exact closed_setSegSpare C hx3
  · split
    · exact R_ite (closed_segServes C hx3) hx3
    · exact hx3

theorem closed_engineClear {p0} {p1} (hp0 : R p0) : R (State.engineClear p0 p1).1 := by
  unfold State.engineClear
  refine R_ite_1 ?_ hp0
  extract_lets +onlyGivenNames -underBinder x0
  try clear_value x0
  extract_lets +onlyGivenNames -underBinder x1
  have hx1 : R x1 := closed_wr C (closed_setEngine C hp0)
  try clear_value x1
  split
  · extract_lets +onlyGivenNames -underBinder x2
    have hx2 : R x2 := closed_setSegSpare C hx1
    try clear_value x2
    dsimp only
    split
    · exact closed_setEngine C hx2
    · exact hx2
  · dsimp only
    exact C.same_ hx1

theorem closed_segReturns {p0} (hp0 : R p0) : R (State.segReturns p0) := by
  unfold State.segReturns
  exact R_foldl (C.same_ hp0) (fun _ _ ht0 => closed_setEngine C ht0)

theorem closed_segBoundary {p0} {p1} (hp0 : R p0) : R (State.segBoundary p0 p1) := by
  unfold State.segBoundary
  exact R_ite (R_foldl (closed_segReturns C hp0) (fun _ _ ht0 => closed_segSpareBoundary C ht0)) hp0

theorem closed_labelLine {p0} {p1} {p2} (hp0 : R p0) : R (State.labelLine p0 p1 p2) := by
  unfold State.labelLine
  extract_lets +onlyGivenNames -underBinder x0
  try clear_value x0
  extract_lets +onlyGivenNames -underBinder x1
  try clear_value x1
  extract_lets +onlyGivenNames -underBinder x2
  try clear_value x2
  extract_lets +onlyGivenNames -underBinder x3
  try clear_value x3
  extract_lets +onlyGivenNames -underBinder x4
  try clear_value x4
  extract_lets +onlyGivenNames -underBinder x5
  try clear_value x5
  extract_lets +onlyGivenNames -underBinder x6
  have hx6 : R x6 := R_foldl hp0 (fun _ _ ht7 => closed_compareShadow C ht7)
  try clear_value x6
  split
  · extract_lets +onlyGivenNames -underBinder x8
    try clear_value x8
    extract_lets +onlyGivenNames -underBinder x9
    try clear_value x9
    extract_lets +onlyGivenNames -underBinder x10
    try clear_value x10
    extract_lets +onlyGivenNames -underBinder x11
    try clear_value x11
    extract_lets +onlyGivenNames -underBinder x12
    try clear_value x12
    extract_lets +onlyGivenNames -underBinder x13
    try clear_value x13
    extract_lets +onlyGivenNames -underBinder x14
    try clear_value x14
    extract_lets +onlyGivenNames -underBinder x15
    try clear_value x15
    extract_lets +onlyGivenNames -underBinder x16
    try clear_value x16
    extract_lets +onlyGivenNames -underBinder x17
    try clear_value x17
    extract_lets +onlyGivenNames -underBinder x18
    try clear_value x18
    extract_lets +onlyGivenNames -underBinder x19
    try clear_value x19
    extract_lets +onlyGivenNames -underBinder x20
    try clear_value x20
    extract_lets +onlyGivenNames -underBinder x21
    try clear_value x21
    extract_lets +onlyGivenNames -underBinder x22
    try clear_value x22
    extract_lets +onlyGivenNames -underBinder x23
    try clear_value x23
    extract_lets +onlyGivenNames -underBinder x24
    have hx24 : R x24 := C.same_ hx6
    try clear_value x24
    extract_lets +onlyGivenNames -underBinder x25
    have hx25 : R x25 := closed_contextPeak C (closed_countDrops C (closed_countRuns C hx24))
    try clear_value x25
    extract_lets +onlyGivenNames -underBinder x26
    have hx26 : R x26 := by
      unfold x26
      split
      · exact R_ite (closed_giveJoinId C hx25) hx25
      · exact hx25
    try clear_value x26
    extract_lets +onlyGivenNames -underBinder x27
    have hx27 : R x27 := by
      unfold x27
      split
      · exact R_ite (closed_joinContacts C (closed_joinContacts C hx26)) hx26
      · exact hx26
    try clear_value x27
    extract_lets +onlyGivenNames -underBinder x28
    have hx28 : R x28 := closed_sendSummary C (closed_sendSummary C hx27)
    try clear_value x28
    extract_lets +onlyGivenNames -underBinder x29
    try clear_value x29
    extract_lets +onlyGivenNames -underBinder x30
    try clear_value x30
    extract_lets +onlyGivenNames -underBinder x31
    try clear_value x31
    extract_lets +onlyGivenNames -underBinder x32
    have hx32 : R x32 := C.same_ hx28
    try clear_value x32
    extract_lets +onlyGivenNames -underBinder x33
    try clear_value x33
    extract_lets +onlyGivenNames -underBinder x34
    have hx34 : R x34 := closed_closeBlobs C (closed_dropWaits C hx32)
    try clear_value x34
    extract_lets +onlyGivenNames -underBinder x35
    have hx35 : R x35 := closed_reclaimPartials C (closed_bump C hx34)
    try clear_value x35
    extract_lets +onlyGivenNames -underBinder x36
    have hx36 : R x36 := closed_showContexts C hx35
    try clear_value x36
    exact R_ite (closed_endSegStrip C hx36) hx36

theorem closed_labelAt {p0} {p1} (hp0 : R p0) : R (State.labelAt p0 p1) := by
  unfold State.labelAt
  split
  · exact hp0
  · exact closed_labelLine C (closed_segBoundary C hp0)

theorem closed_segAdvance {p0} {p1} {p2} (hp0 : R p0) : R (State.segAdvance p0 p1 p2) := by
  unfold State.segAdvance
  split
  · exact hp0
  · extract_lets +onlyGivenNames -underBinder x0
    try clear_value x0
    refine R_ite ?_ hp0
    extract_lets +onlyGivenNames -underBinder x1
    have hx1 : R x1 := closed_labelAt C hp0
    try clear_value x1
    split
    · exact closed_segAdvance (C.same_ hx1)

theorem closed_segFinish {p0} (hp0 : R p0) : R (State.segFinish p0) := by
  unfold State.segFinish
  extract_lets +onlyGivenNames -underBinder x0
  have hx0 : R x0 := closed_segAdvance C hp0
  try clear_value x0
  extract_lets +onlyGivenNames -underBinder x1
  try clear_value x1
  extract_lets +onlyGivenNames -underBinder x2
  have hx2 : R x2 := C.same_ hx0
  try clear_value x2
  extract_lets +onlyGivenNames -underBinder x3
  have hx3 : R x3 := closed_closeBlobs C hx2
  try clear_value x3
  exact closed_drainJoins C (closed_clearBit C (closed_showContexts C hx3))

theorem closed_segTake {p0} {p1} {p2} {p3} {p4} {p5} {p6} (hp0 : R p0) : R (State.segTake p0 p1 p2 p3 p4 p5 p6) := by
  unfold State.segTake
  extract_lets +onlyGivenNames -underBinder x0
  try clear_value x0
  refine R_ite (closed_discard C hp0) ?_
  extract_lets +onlyGivenNames -underBinder x1
  have hx1 : R x1 := R_ite (closed_segForce C hp0) hp0
  try clear_value x1
  extract_lets +onlyGivenNames -underBinder x2
  try clear_value x2
  extract_lets +onlyGivenNames -underBinder x3
  try clear_value x3
  extract_lets +onlyGivenNames -underBinder x4
  try clear_value x4
  extract_lets +onlyGivenNames -underBinder x5
  try clear_value x5
  extract_lets +onlyGivenNames -underBinder x6
  try clear_value x6
  extract_lets +onlyGivenNames -underBinder x7
  try clear_value x7
  extract_lets +onlyGivenNames -underBinder x8
  try clear_value x8
  extract_lets +onlyGivenNames -underBinder x9
  try clear_value x9
  extract_lets +onlyGivenNames -underBinder x10
  try clear_value x10
  extract_lets +onlyGivenNames -underBinder x11
  try clear_value x11
  extract_lets +onlyGivenNames -underBinder x12
  have hx12 : R x12 := C.same_ hx1
  try clear_value x12
  extract_lets +onlyGivenNames -underBinder x13
  have hx13 : R x13 := closed_putBit C (closed_bump C hx12)
  try clear_value x13
  extract_lets +onlyGivenNames -underBinder x14
  have hx14 : R x14 := closed_matchEarly C hx13
  try clear_value x14
  exact R_ite (closed_segFinish C hx14) (closed_segAdvance C hx14)

theorem closed_segDeviation {p0} {p1} (hp0 : R p0) : R (State.segDeviation p0 p1) := by
  unfold State.segDeviation
  exact R_ite (closed_segTake C hp0) hp0

theorem closed_segStitched {p0} {p1} (hp0 : R p0) : R (State.segStitched p0 p1) := by
  unfold State.segStitched
  exact R_ite (closed_segTake C hp0) hp0

theorem closed_idleClose {p0} (hp0 : R p0) : R (State.idleClose p0) := by
  unfold State.idleClose
  refine R_ite ?_ hp0
  extract_lets +onlyGivenNames -underBinder x0
  try clear_value x0
  extract_lets +onlyGivenNames -underBinder x1
  try clear_value x1
  extract_lets +onlyGivenNames -underBinder x2
  have hx2 : R x2 := C.same_ hp0
  try clear_value x2
  extract_lets +onlyGivenNames -underBinder x3
  have hx3 : R x3 := closed_closeBlobs C hx2
  try clear_value x3
  extract_lets +onlyGivenNames -underBinder x4
  have hx4 : R x4 := closed_setBit C (closed_bump C hx3)
  try clear_value x4
  exact closed_showContexts C (closed_cross C hx4)

theorem closed_enqueueRecord {p0} (hp0 : R p0) : R (State.enqueueRecord p0) := by
  unfold State.enqueueRecord
  split
  · exact hp0
  · refine R_ite hp0 ?_
    extract_lets +onlyGivenNames -underBinder x0
    try clear_value x0
    extract_lets +onlyGivenNames -underBinder x1
    have hx1 : R x1 := C.same_ hp0
    try clear_value x1
    exact closed_showContexts C (closed_raiseTo C hx1)

theorem closed_segStarts {p0} {p1} (hp0 : R p0) : R (State.segStarts p0 p1) := by
  unfold State.segStarts
  extract_lets +onlyGivenNames -underBinder x0
  have hx0 : R x0 := C.same_ hp0
  try clear_value x0
  exact closed_showContexts C (closed_putBit C (closed_wr C (C.same_ hx0)))

theorem closed_segStops {p0} (hp0 : R p0) : R (State.segStops p0) := by
  unfold State.segStops
  extract_lets +onlyGivenNames -underBinder x0
  try clear_value x0
  extract_lets +onlyGivenNames -underBinder x1
  try clear_value x1
  extract_lets +onlyGivenNames -underBinder x2
  have hx2 : R x2 := C.same_ hp0
  try clear_value x2
  exact R_ite (closed_segFinish C hx2) hx2

theorem closed_segTruncate {p0} (hp0 : R p0) : R (State.segTruncate p0) := by
  unfold State.segTruncate
  extract_lets +onlyGivenNames -underBinder x0
  try clear_value x0
  extract_lets +onlyGivenNames -underBinder x1
  try clear_value x1
  extract_lets +onlyGivenNames -underBinder x2
  have hx2 : R x2 := C.same_ hp0
  try clear_value x2
  extract_lets +onlyGivenNames -underBinder x3
  have hx3 : R x3 := closed_clearBit C (closed_completeAll C hx2)
  try clear_value x3
  exact closed_showContexts C (closed_endSegStrip C hx3)

end Sys2Proof.Laws
end

