-- ==== Sys2Proof/Laws/ClosedHrb.lean ====
section
/-! SUPPORT. What a closed property of states keeps through the operations of Machine/Hrb.lean. -/

namespace Sys2Proof.Laws

open Sys2Proof.Machine

set_option linter.unusedSectionVars false
set_option Elab.async false

variable {R : State → Prop} (C : Closed R)
include C

theorem closed_setHrb {p0} {p1} (hp0 : R p0) : R (State.setHrb p0 p1) := by
  unfold State.setHrb
  exact closed_wr C (C.same_ hp0)

theorem closed_exportBegins {p0} {p1} (hp0 : R p0) : R (State.exportBegins p0 p1) := by
  unfold State.exportBegins
  extract_lets +onlyGivenNames -underBinder x0
  try clear_value x0
  extract_lets +onlyGivenNames -underBinder x1
  try clear_value x1
  refine R_ite (closed_setHrb C hp0) ?_
  extract_lets +onlyGivenNames -underBinder x2
  try clear_value x2
  extract_lets +onlyGivenNames -underBinder x3
  try clear_value x3
  extract_lets +onlyGivenNames -underBinder x4
  try clear_value x4
  extract_lets +onlyGivenNames -underBinder x5
  try clear_value x5
  exact closed_setHrb C hp0

theorem closed_exportsLost {p0} {p1} (hp0 : R p0) : R (State.exportsLost p0 p1) := by
  unfold State.exportsLost
  extract_lets +onlyGivenNames -underBinder x0
  try clear_value x0
  exact R_ite hp0 (closed_leftLess C (closed_setBit C (closed_bump C (closed_setHrb C hp0))))

theorem closed_hrbLine {p0} {p1} {p2} (hp0 : R p0) : R (State.hrbLine p0 p1 p2) := by
  unfold State.hrbLine
  extract_lets +onlyGivenNames -underBinder x0
  try clear_value x0
  refine R_ite (closed_discard C hp0) ?_
  refine R_ite hp0 ?_
  extract_lets +onlyGivenNames -underBinder x1
  have hx1 : R x1 := R_ite (closed_exportBegins C (closed_forceAll C hp0)) hp0
  try clear_value x1
  extract_lets +onlyGivenNames -underBinder x2
  try clear_value x2
  extract_lets +onlyGivenNames -underBinder x3
  have hx3 : R x3 := closed_dramStore C hx1
  try clear_value x3
  extract_lets +onlyGivenNames -underBinder x4
  try clear_value x4
  extract_lets +onlyGivenNames -underBinder x5
  try clear_value x5
  extract_lets +onlyGivenNames -underBinder x6
  try clear_value x6
  extract_lets +onlyGivenNames -underBinder x7
  try clear_value x7
  extract_lets +onlyGivenNames -underBinder x8
  try clear_value x8
  extract_lets +onlyGivenNames -underBinder x9
  have hx9 : R x9 := closed_setHrb C hx3
  try clear_value x9
  extract_lets +onlyGivenNames -underBinder x10
  have hx10 : R x10 := R_ite hx9 (closed_setBit C (closed_exportsLost C hx9))
  try clear_value x10
  extract_lets +onlyGivenNames -underBinder x11
  have hx11 : R x11 := closed_wr C (closed_wr C hx10)
  try clear_value x11
  exact R_ite (closed_bump C (closed_setHrb C hx11)) hx11

theorem closed_cropRequest {p0} {p1} {p2} {p3} {p4} {p5} (hp0 : R p0) : R (State.cropRequest p0 p1 p2 p3 p4 p5).1 := by
  unfold State.cropRequest
  extract_lets +onlyGivenNames -underBinder x0
  try clear_value x0
  split
  · dsimp only
    exact closed_cross C (closed_setBit C (closed_bump C hp0))
  · extract_lets +onlyGivenNames -underBinder x1
    try clear_value x1
    dsimp only
    exact closed_bump C (closed_setHrb C hp0)

theorem closed_setCrop {p0} {p1} (hp0 : R p0) : R (State.setCrop p0 p1) := by
  unfold State.setCrop
  exact closed_setHrb C hp0

theorem closed_abandonCrop {p0} {p1} (hp0 : R p0) : R (State.abandonCrop p0 p1) := by
  unfold State.abandonCrop
  extract_lets +onlyGivenNames -underBinder x0
  have hx0 : R x0 := closed_setCrop C hp0
  try clear_value x0
  exact closed_cross C (closed_setBit C (closed_bump C hx0))

theorem closed_cropRows {p0} {p1} {p2} (hp0 : R p0) : R (State.cropRows p0 p1 p2).2.2 := by
  unfold State.cropRows
  split
  · exact hp0
  · extract_lets +onlyGivenNames -underBinder x0
    try clear_value x0
    split
    · rename_i v1 v2 v3 q4
      have hv3 : R v3 := by
        refine Eq.subst (motive := fun z => R z.2.2) q4 ?_
        exact closed_dramFetch C hp0
      extract_lets +onlyGivenNames -underBinder x5
      try clear_value x5
      split
      · rename_i v6 v7 v8 q9
        have hv8 : R v8 := by
          refine Eq.subst (motive := fun z => R z.2.2) q9 ?_
          exact closed_cropRows hv3
        exact hv8

theorem closed_cutCrop {p0} (hp0 : R p0) : R (State.cutCrop p0) := by
  unfold State.cutCrop
  split
  · exact hp0
  · refine R_ite (closed_abandonCrop C hp0) ?_
    extract_lets +onlyGivenNames -underBinder x0
    try clear_value x0
    split
    · rename_i v1 v2 v3 q4
      have hv3 : R v3 := by
        refine Eq.subst (motive := fun z => R z.2.2) q4 ?_
        exact closed_cropRows C hp0
      extract_lets +onlyGivenNames -underBinder x5
      try clear_value x5
      extract_lets +onlyGivenNames -underBinder x6
      try clear_value x6
      extract_lets +onlyGivenNames -underBinder x7
      try clear_value x7
      extract_lets +onlyGivenNames -underBinder x8
      have hx8 : R x8 := closed_setCrop C hv3
      try clear_value x8
      refine R_ite ?_ hx8
      extract_lets +onlyGivenNames -underBinder x9
      try clear_value x9
      extract_lets +onlyGivenNames -underBinder x10
      try clear_value x10
      exact closed_setCde C hx8

theorem closed_takeEncoded {p0} (hp0 : R p0) : R (State.takeEncoded p0) := by
  unfold State.takeEncoded
  split
  · exact hp0
  · extract_lets +onlyGivenNames -underBinder x0
    try clear_value x0
    extract_lets +onlyGivenNames -underBinder x1
    have hx1 : R x1 := closed_setCde C hp0
    try clear_value x1
    split
    · exact closed_setCrop C hx1
    · exact hx1

theorem closed_crumbLeft {p0} {p1} (hp0 : R p0) : R (State.crumbLeft p0 p1) := by
  unfold State.crumbLeft
  exact R_ite hp0 (closed_setHrb C hp0)

theorem closed_cropsUnpacked {p0} (hp0 : R p0) : R (State.cropsUnpacked p0) := by
  unfold State.cropsUnpacked
  exact closed_setHrb C hp0

theorem closed_deliverCrop {p0} (hp0 : R p0) : R (State.deliverCrop p0) := by
  unfold State.deliverCrop
  split
  · exact hp0
  · extract_lets +onlyGivenNames -underBinder x0
    have hx0 : R x0 := R_ite (closed_abandonCrop C hp0) hp0
    try clear_value x0
    extract_lets +onlyGivenNames -underBinder x1
    try clear_value x1
    exact closed_setHrb C hx0

theorem closed_nextExport {p0} (hp0 : R p0) : R (State.nextExport p0).2 := by
  unfold State.nextExport
  split
  · exact hp0
  · dsimp only
    exact closed_setHrb C hp0
  · extract_lets +onlyGivenNames -underBinder x0
    try clear_value x0
    extract_lets +onlyGivenNames -underBinder x1
    have hx1 : R x1 := closed_setHrb C hp0
    try clear_value x1
    refine R_ite_2 ?_ ?_
    · extract_lets +onlyGivenNames -underBinder x2
      try clear_value x2
      split
      · rename_i v3 v4 v5 q6
        have hv5 : R v5 := by
          refine Eq.subst (motive := fun z => R z.2.2) q6 ?_
          exact closed_dramFetch C hx1
        split
        · rename_i v7 v8 v9 q10
          have hv9 : R v9 := by
            refine Eq.subst (motive := fun z => R z.2.2) q10 ?_
            exact closed_dramFetch C hv5
          extract_lets +onlyGivenNames -underBinder x11
          try clear_value x11
          exact hv9
    · dsimp only
      exact closed_exportsLost C hp0

theorem closed_hrbStarts {p0} {p1} (hp0 : R p0) : R (State.hrbStarts p0 p1) := by
  unfold State.hrbStarts
  extract_lets +onlyGivenNames -underBinder x0
  have hx0 : R x0 := closed_exportsLost C hp0
  try clear_value x0
  exact closed_clearBit C (closed_setHrb C hx0)

theorem closed_hrbStops {p0} (hp0 : R p0) : R (State.hrbStops p0) := by
  unfold State.hrbStops
  extract_lets +onlyGivenNames -underBinder x0
  try clear_value x0
  extract_lets +onlyGivenNames -underBinder x1
  try clear_value x1
  exact closed_setHrb C hp0

theorem closed_hrbTruncate {p0} (hp0 : R p0) : R (State.hrbTruncate p0) := by
  unfold State.hrbTruncate
  extract_lets +onlyGivenNames -underBinder x0
  have hx0 : R x0 := R_foldl hp0 (fun _ _ ht1 => R_ite ht1 (closed_abandonCrop C ht1))
  try clear_value x0
  exact closed_setHrb C hx0

theorem closed_hrbInvalidated {p0} (hp0 : R p0) : R (State.hrbInvalidated p0) := by
  unfold State.hrbInvalidated
  extract_lets +onlyGivenNames -underBinder x0
  have hx0 : R x0 := R_foldl hp0 (fun _ _ ht1 => R_ite ht1 (closed_abandonCrop C ht1))
  try clear_value x0
  exact closed_clearBit C (closed_setBit C (closed_leftLess C (closed_setHrb C hx0)))

end Sys2Proof.Laws
end

