-- ==== Sys2Proof/Laws/ClosedCls.lean ====
section
/-! SUPPORT. What a closed property of states keeps through the operations of Machine/Cls.lean. -/

namespace Sys2Proof.Laws

open Sys2Proof.Machine

set_option linter.unusedSectionVars false
set_option Elab.async false

variable {R : State → Prop} (C : Closed R)
include C

theorem closed_showCqWait {p0} (hp0 : R p0) : R (State.showCqWait p0) := by
  unfold State.showCqWait
  extract_lets +onlyGivenNames -underBinder x0
  try clear_value x0
  exact closed_putBit C (closed_putBit C hp0)

theorem closed_formCrumb {p0} {p1} (hp0 : R p0) : R (State.formCrumb p0 p1) := by
  unfold State.formCrumb
  exact closed_showCqWait C (C.same_ hp0)

theorem closed_pushCrumb {p0} (hp0 : R p0) : R (State.pushCrumb p0) := by
  unfold State.pushCrumb
  split
  · exact hp0
  · refine R_ite ?_ (closed_showCqWait C hp0)
    extract_lets +onlyGivenNames -underBinder x0
    try clear_value x0
    extract_lets +onlyGivenNames -underBinder x1
    have hx1 : R x1 := closed_bump C (closed_bump C (C.same_ hp0))
    try clear_value x1
    extract_lets +onlyGivenNames -underBinder x2
    have hx2 : R x2 := closed_tally C (closed_showCqWait C (closed_push C hx1))
    try clear_value x2
    exact R_ite (closed_sample C (closed_takeFree C hx2)) hx2

theorem closed_ledgerUpdate {p0} {p1} {p2} {p3} {p4} (hp0 : R p0) : R (State.ledgerUpdate p0 p1 p2 p3 p4).1 := by
  unfold State.ledgerUpdate
  extract_lets +onlyGivenNames -underBinder x0
  try clear_value x0
  refine R_ite_1 ?_ ?_
  · dsimp only
    exact closed_cross C (closed_setBit C hp0)
  · refine R_ite_1 hp0 ?_
    extract_lets +onlyGivenNames -underBinder x1
    try clear_value x1
    split
    · rename_i v2 v3 v4 q5
      have hv4 : R v4 := by
        refine Eq.subst (motive := fun z => R z.2.2) q5 ?_
        exact closed_dramFetch C hp0
      refine R_ite_1 ?_ ?_
      · dsimp only
        exact closed_cross C (closed_setBit C (closed_bump C hv4))
      · extract_lets +onlyGivenNames -underBinder x6
        try clear_value x6
        split
        · extract_lets +onlyGivenNames -underBinder x7
          try clear_value x7
          extract_lets +onlyGivenNames -underBinder x8
          try clear_value x8
          extract_lets +onlyGivenNames -underBinder x9
          try clear_value x9
          extract_lets +onlyGivenNames -underBinder x10
          try clear_value x10
          extract_lets +onlyGivenNames -underBinder x11
          try clear_value x11
          extract_lets +onlyGivenNames -underBinder x12
          try clear_value x12
          extract_lets +onlyGivenNames -underBinder x13
          try clear_value x13
          extract_lets +onlyGivenNames -underBinder x14
          try clear_value x14
          extract_lets +onlyGivenNames -underBinder x15
          try clear_value x15
          extract_lets +onlyGivenNames -underBinder x16
          try clear_value x16
          extract_lets +onlyGivenNames -underBinder x17
          try clear_value x17
          extract_lets +onlyGivenNames -underBinder x18
          try clear_value x18
          extract_lets +onlyGivenNames -underBinder x19
          try clear_value x19
          extract_lets +onlyGivenNames -underBinder x20
          have hx20 : R x20 := closed_bump C (closed_dramStore C hv4)
          try clear_value x20
          extract_lets +onlyGivenNames -underBinder x21
          have hx21 : R x21 := R_ite (closed_bump C hx20) hx20
          try clear_value x21
          extract_lets +onlyGivenNames -underBinder x22
          have hx22 : R x22 := R_ite (closed_bump C (R_ite (closed_setBit C hx21) hx21)) hx21
          try clear_value x22
          extract_lets +onlyGivenNames -underBinder x23
          try clear_value x23
          extract_lets +onlyGivenNames -underBinder x24
          have hx24 : R x24 := closed_raiseTo C hx22
          try clear_value x24
          extract_lets +onlyGivenNames -underBinder x25
          try clear_value x25
          extract_lets +onlyGivenNames -underBinder x26
          have hx26 : R x26 := R_ite (closed_cross C (closed_setBit C (closed_bump C hx24))) hx24
          try clear_value x26
          exact hx26

theorem closed_startSweep {p0} (hp0 : R p0) : R (State.startSweep p0) := by
  unfold State.startSweep
  exact closed_wr C (closed_setBit C hp0)

theorem closed_ledgerClear {p0} {p1} (hp0 : R p0) : R (State.ledgerClear p0 p1).1 := by
  unfold State.ledgerClear
  refine R_ite_1 hp0 ?_
  refine R_ite_1 hp0 ?_
  dsimp only
  exact closed_startSweep C hp0

theorem closed_sweepStep {p0} (hp0 : R p0) : R (State.sweepStep p0) := by
  unfold State.sweepStep
  refine R_ite ?_ hp0
  extract_lets +onlyGivenNames -underBinder x0
  try clear_value x0
  extract_lets +onlyGivenNames -underBinder x1
  have hx1 : R x1 := closed_wr C (closed_dramStore C hp0)
  try clear_value x1
  exact R_ite (closed_clearBit C hx1) hx1

theorem closed_ledgerInvalidated {p0} (hp0 : R p0) : R (State.ledgerInvalidated p0) := by
  unfold State.ledgerInvalidated
  exact closed_setBit C (closed_startSweep C hp0)

theorem closed_requestCrop {p0} {p1} {p2} (hp0 : R p0) : R (State.requestCrop p0 p1 p2).1 := by
  unfold State.requestCrop
  extract_lets +onlyGivenNames -underBinder x0
  try clear_value x0
  extract_lets +onlyGivenNames -underBinder x1
  try clear_value x1
  extract_lets +onlyGivenNames -underBinder x2
  try clear_value x2
  extract_lets +onlyGivenNames -underBinder x3
  try clear_value x3
  extract_lets +onlyGivenNames -underBinder x4
  try clear_value x4
  extract_lets +onlyGivenNames -underBinder x5
  try clear_value x5
  extract_lets +onlyGivenNames -underBinder x6
  try clear_value x6
  extract_lets +onlyGivenNames -underBinder x7
  have hx7 : R x7 := closed_bump C (closed_wr C hp0)
  try clear_value x7
  split
  · rename_i v8 v9 q10
    have hv8 : R v8 := by
      refine Eq.subst (motive := fun z => R z.1) q10 ?_
      exact closed_cropRequest C hx7
    extract_lets +onlyGivenNames -underBinder x11
    try clear_value x11
    refine R_ite_1 hv8 ?_
    dsimp only
    exact closed_setBit C (closed_bump C hv8)

theorem closed_requestMark {p0} {p1} {p2} (hp0 : R p0) : R (State.requestMark p0 p1 p2).1 := by
  unfold State.requestMark
  extract_lets +onlyGivenNames -underBinder x0
  try clear_value x0
  extract_lets +onlyGivenNames -underBinder x1
  try clear_value x1
  refine R_ite_1 ?_ ?_
  · dsimp only
    exact closed_bump C hp0
  · extract_lets +onlyGivenNames -underBinder x2
    try clear_value x2
    extract_lets +onlyGivenNames -underBinder x3
    try clear_value x3
    extract_lets +onlyGivenNames -underBinder x4
    try clear_value x4
    extract_lets +onlyGivenNames -underBinder x5
    have hx5 : R x5 := closed_bump C (C.same_ hp0)
    try clear_value x5
    split
    · rename_i v6 v7 q8
      have hv6 : R v6 := by
        refine Eq.subst (motive := fun z => R z.1) q8 ?_
        exact closed_pscRequest C hx5
      extract_lets +onlyGivenNames -underBinder x9
      try clear_value x9
      extract_lets +onlyGivenNames -underBinder x10
      try clear_value x10
      extract_lets +onlyGivenNames -underBinder x11
      have hx11 : R x11 := R_ite (closed_setBit C hv6) hv6
      try clear_value x11
      extract_lets +onlyGivenNames -underBinder x12
      have hx12 : R x12 := R_ite (closed_cross C (closed_setBit C (closed_bump C hx11))) hx11
      try clear_value x12
      exact hx12

theorem closed_finishBlob {p0} {p1} {p2} {p3} (hp0 : R p0) : R (State.finishBlob p0 p1 p2 p3) := by
  unfold State.finishBlob
  extract_lets +onlyGivenNames -underBinder x0
  try clear_value x0
  extract_lets +onlyGivenNames -underBinder x1
  try clear_value x1
  extract_lets +onlyGivenNames -underBinder x2
  have hx2 : R x2 := R_ite (closed_formCrumb C hp0) hp0
  try clear_value x2
  extract_lets +onlyGivenNames -underBinder x3
  try clear_value x3
  extract_lets +onlyGivenNames -underBinder x4
  try clear_value x4
  extract_lets +onlyGivenNames -underBinder x5
  try clear_value x5
  refine R_ite (closed_bump C hx2) ?_
  extract_lets +onlyGivenNames -underBinder x6
  try clear_value x6
  extract_lets +onlyGivenNames -underBinder x7
  try clear_value x7
  split
  · rename_i v8 v9 q10
    have hv8 : R v8 := by
      refine Eq.subst (motive := fun z => R z.1) q10 ?_
      show R (Prod.fst _)
      refine R_ite_1 ?_ hx2
      exact closed_requestCrop C hx2
    split
    · rename_i v11 v12 q13
      have hv11 : R v11 := by
        refine Eq.subst (motive := fun z => R z.1) q13 ?_
        show R (Prod.fst _)
        refine R_ite_1 ?_ hv8
        exact closed_requestMark C hv8
      split
      · rename_i v14 v15 q16
        have hv14 : R v14 := by
          refine Eq.subst (motive := fun z => R z.1) q16 ?_
          show R (Prod.fst _)
          refine R_ite_1 ?_ hv11
          dsimp only
          exact closed_cross C hv11
        exact closed_formCrumb C (R_ite hv14 (closed_bump C hv14))

theorem closed_classify {p0} {p1} (hp0 : R p0) : R (State.classify p0 p1) := by
  unfold State.classify
  extract_lets +onlyGivenNames -underBinder x0
  try clear_value x0
  extract_lets +onlyGivenNames -underBinder x1
  try clear_value x1
  extract_lets +onlyGivenNames -underBinder x2
  try clear_value x2
  extract_lets +onlyGivenNames -underBinder x3
  try clear_value x3
  extract_lets +onlyGivenNames -underBinder x4
  try clear_value x4
  extract_lets +onlyGivenNames -underBinder x5
  try clear_value x5
  extract_lets +onlyGivenNames -underBinder x6
  try clear_value x6
  extract_lets +onlyGivenNames -underBinder x7
  try clear_value x7
  extract_lets +onlyGivenNames -underBinder x8
  try clear_value x8
  refine R_ite ?_ (closed_finishBlob C hp0)
  extract_lets +onlyGivenNames -underBinder x9
  try clear_value x9
  exact C.same_ hp0

theorem closed_lookUp {p0} (hp0 : R p0) : R (State.lookUp p0) := by
  unfold State.lookUp
  split
  · exact hp0
  · extract_lets +onlyGivenNames -underBinder x0
    try clear_value x0
    extract_lets +onlyGivenNames -underBinder x1
    try clear_value x1
    split
    · rename_i v2 v3 q4
      have hv2 : R v2 := by
        refine Eq.subst (motive := fun z => R z.1) q4 ?_
        exact closed_ledgerUpdate C (closed_tally C (C.same_ hp0))
      exact closed_finishBlob C hv2

theorem closed_summaryCrumbs {p0} {p1} (hp0 : R p0) : R (State.summaryCrumbs p0 p1) := by
  unfold State.summaryCrumbs
  extract_lets +onlyGivenNames -underBinder x0
  try clear_value x0
  extract_lets +onlyGivenNames -underBinder x1
  try clear_value x1
  extract_lets +onlyGivenNames -underBinder x2
  try clear_value x2
  extract_lets +onlyGivenNames -underBinder x3
  try clear_value x3
  extract_lets +onlyGivenNames -underBinder x4
  try clear_value x4
  extract_lets +onlyGivenNames -underBinder x5
  try clear_value x5
  extract_lets +onlyGivenNames -underBinder x6
  try clear_value x6
  extract_lets +onlyGivenNames -underBinder x7
  try clear_value x7
  extract_lets +onlyGivenNames -underBinder x8
  have hx8 : R x8 := R_ite (closed_formCrumb C hp0) hp0
  try clear_value x8
  extract_lets +onlyGivenNames -underBinder x9
  have hx9 : R x9 := R_ite (closed_formCrumb C hx8) hx8
  try clear_value x9
  extract_lets +onlyGivenNames -underBinder x10
  have hx10 : R x10 := R_ite (closed_formCrumb C hx9) hx9
  try clear_value x10
  exact R_ite (closed_formCrumb C hx10) hx10

theorem closed_pageCrumb {p0} {p1} (hp0 : R p0) : R (State.pageCrumb p0 p1) := by
  unfold State.pageCrumb
  exact R_ite (closed_formCrumb C hp0) hp0

theorem closed_clsBoundary {p0} (hp0 : R p0) : R (State.clsBoundary p0) := by
  unfold State.clsBoundary
  exact closed_forceo C (closed_forceo C (closed_forceAll C hp0))

theorem closed_clsNext {p0} {z} (hp0 : R p0) (hz : State.clsNext p0 = some z) : R z.2 := by
  unfold State.clsNext at hz
  split at hz
  · cases hz; exact C.same_ hp0
  · cases hz; exact C.same_ hp0
  · cases hz; exact C.same_ hp0
  · cases hz

theorem closed_clsInput {p0} (hp0 : R p0) : R (State.clsInput p0) := by
  unfold State.clsInput
  refine R_ite hp0 ?_
  split
  · exact hp0
  · rename_i v0 v1 q2
    have hv1 : R v1 := closed_clsNext C hp0 q2
    exact R_ite (closed_discard C hv1) (R_ite (R_ite (closed_clsBoundary C (closed_summaryCrumbs C hv1)) (closed_clsBoundary C (C.same_ hv1))) (R_ite (closed_discard C hv1) (R_ite (closed_pageCrumb C hv1) (closed_classify C hv1))))

theorem closed_clsStarts {p0} (hp0 : R p0) : R (State.clsStarts p0) := by
  unfold State.clsStarts
  exact closed_wr C (C.same_ hp0)

theorem closed_clsTruncate {p0} (hp0 : R p0) : R (State.clsTruncate p0) := by
  unfold State.clsTruncate
  extract_lets +onlyGivenNames -underBinder x0
  try clear_value x0
  extract_lets +onlyGivenNames -underBinder x1
  have hx1 : R x1 := by
    unfold x1
    split
    · exact closed_ledgerUpdate C (C.same_ hp0)
    · exact hp0
  try clear_value x1
  extract_lets +onlyGivenNames -underBinder x2
  try clear_value x2
  extract_lets +onlyGivenNames -underBinder x3
  try clear_value x3
  extract_lets +onlyGivenNames -underBinder x4
  try clear_value x4
  extract_lets +onlyGivenNames -underBinder x5
  have hx5 : R x5 := C.same_ hx1
  try clear_value x5
  extract_lets +onlyGivenNames -underBinder x6
  try clear_value x6
  exact R_ite hx5 (closed_formCrumb C hx5)

end Sys2Proof.Laws
end

