-- ==== Sys2Proof/Laws/ClosedDma.lean ====
section
/-! SUPPORT. What a closed property of states keeps through the operations of Machine/Dma.lean. -/

namespace Sys2Proof.Laws

open Sys2Proof.Machine

set_option linter.unusedSectionVars false
set_option Elab.async false

variable {R : State → Prop} (C : Closed R)
include C

theorem closed_setChan {p0} {p1} {p2} (hp0 : R p0) : R (State.setChan p0 p1 p2) := by
  unfold State.setChan
  exact C.same_ hp0

theorem closed_chanFlag {p0} {p1} {p2} (hp0 : R p0) : R (State.chanFlag p0 p1 p2) := by
  unfold State.chanFlag
  extract_lets +onlyGivenNames -underBinder x0
  have hx0 : R x0 := closed_setBit C hp0
  try clear_value x0
  exact R_ite (closed_msix C hx0) hx0

theorem closed_hostWrite {p0} {p1} {p2} {p3} {p4} (hp0 : R p0) : R (State.hostWrite p0 p1 p2 p3 p4) := by
  unfold State.hostWrite
  exact R_ite hp0 (closed_tally C (closed_bump C (closed_emits C hp0)))

theorem closed_doorbell {p0} {p1} {p2} (hp0 : R p0) : R (State.doorbell p0 p1 p2) := by
  unfold State.doorbell
  refine R_ite hp0 ?_
  extract_lets +onlyGivenNames -underBinder x0
  try clear_value x0
  extract_lets +onlyGivenNames -underBinder x1
  have hx1 : R x1 := closed_setChan C hp0
  try clear_value x1
  exact R_ite (closed_chanFlag C hx1) (closed_wr C hx1)

theorem closed_writeStatus {p0} {p1} {p2} {p3} {p4} (hp0 : R p0) : R (State.writeStatus p0 p1 p2 p3 p4) := by
  unfold State.writeStatus
  exact R_ite (closed_emit C hp0) hp0

theorem closed_handOver {p0} {p1} {p2} (hp0 : R p0) : R (State.handOver p0 p1 p2) := by
  unfold State.handOver
  extract_lets +onlyGivenNames -underBinder x0
  try clear_value x0
  refine R_ite hp0 ?_
  extract_lets +onlyGivenNames -underBinder x1
  try clear_value x1
  extract_lets +onlyGivenNames -underBinder x2
  have hx2 : R x2 := closed_setChan C hp0
  try clear_value x2
  extract_lets +onlyGivenNames -underBinder x3
  have hx3 : R x3 := closed_wr C (closed_wr C (closed_wr C (closed_wr C hx2)))
  try clear_value x3
  exact closed_cross C hx3

theorem closed_copyHandOver {p0} {p1} {p2} (hp0 : R p0) : R (State.copyHandOver p0 p1 p2) := by
  unfold State.copyHandOver
  exact R_ite (closed_handOver C hp0) hp0

theorem closed_markBad {p0} {p1} {p2} (hp0 : R p0) : R (State.markBad p0 p1 p2) := by
  unfold State.markBad
  exact closed_cross C (closed_bump C (closed_chanFlag C hp0))

theorem closed_fetched {p0} {p1} {p2} {p3} (hp0 : R p0) : R (State.fetched p0 p1 p2 p3) := by
  unfold State.fetched
  split
  · exact hp0
  · extract_lets +onlyGivenNames -underBinder x0
    try clear_value x0
    extract_lets +onlyGivenNames -underBinder x1
    have hx1 : R x1 := closed_hostFetch C hp0
    try clear_value x1
    exact R_ite (closed_setChan C hx1) (closed_setChan C hx1)

theorem closed_skipUnusable {p0} {p1} {p2} (hp0 : R p0) : R (State.skipUnusable p0 p1 p2) := by
  induction p2 generalizing p0 with
  | zero => exact hp0
  | succ n ih =>
    rw [State.skipUnusable]
    split
    · exact hp0
    · rename_i i d rest _
      have h1 : R ((p0.setChan p1 { p0.chan p1 with fetched := rest }).wr Ix.dlvConsumerIndex (p1.val + 1) (i + 1)) :=
        closed_wr C (closed_setChan C hp0)
      split
      · exact ih (closed_copyHandOver C h1)
      · split
        · exact hp0
        · have h2 := closed_writeStatus C (p1 := State.descriptorAt p0 p1 i) (p2 := dsInvalid) (p3 := 0) (p4 := 0) h1
          exact ih (closed_copyHandOver C (closed_tally C (closed_cross C (R_ite (closed_msix C h2) h2))))

theorem closed_takeDescriptor {p0} {p1} (hp0 : R p0) : R (State.takeDescriptor p0 p1).2 := by
  unfold State.takeDescriptor
  extract_lets +onlyGivenNames -underBinder x0
  have hx0 : R x0 := closed_skipUnusable C hp0
  try clear_value x0
  extract_lets +onlyGivenNames -underBinder x1
  try clear_value x1
  split
  · exact hx0
  · dsimp only
    exact closed_wr C (closed_setChan C hx0)

theorem closed_openTray {p0} {p1} {p2} {p3} (hp0 : R p0) : R (State.openTray p0 p1 p2 p3) := by
  unfold State.openTray
  extract_lets +onlyGivenNames -underBinder x0
  try clear_value x0
  extract_lets +onlyGivenNames -underBinder x1
  try clear_value x1
  extract_lets +onlyGivenNames -underBinder x2
  try clear_value x2
  exact closed_hostWrite C (closed_wr C (closed_setChan C hp0))

theorem closed_finishDescriptor {p0} {p1} (hp0 : R p0) : R (State.finishDescriptor p0 p1) := by
  unfold State.finishDescriptor
  extract_lets +onlyGivenNames -underBinder x0
  try clear_value x0
  split
  · exact hp0
  · extract_lets +onlyGivenNames -underBinder x1
    have hx1 : R x1 := closed_writeStatus C hp0
    try clear_value x1
    extract_lets +onlyGivenNames -underBinder x2
    have hx2 : R x2 := R_ite (closed_msix C hx1) hx1
    try clear_value x2
    extract_lets +onlyGivenNames -underBinder x3
    have hx3 : R x3 := R_ite (closed_bump C hx2) hx2
    try clear_value x3
    extract_lets +onlyGivenNames -underBinder x4
    have hx4 : R x4 := closed_tally C (R_ite hx3 (closed_cross C hx3))
    try clear_value x4
    exact closed_copyHandOver C (closed_setChan C hx4)

theorem closed_writeFails {p0} {p1} (hp0 : R p0) : R (State.writeFails p0 p1) := by
  unfold State.writeFails
  extract_lets +onlyGivenNames -underBinder x0
  try clear_value x0
  split
  · exact hp0
  · extract_lets +onlyGivenNames -underBinder x1
    try clear_value x1
    extract_lets +onlyGivenNames -underBinder x2
    try clear_value x2
    extract_lets +onlyGivenNames -underBinder x3
    have hx3 : R x3 := closed_markBad C (closed_setChan C hp0)
    try clear_value x3
    extract_lets +onlyGivenNames -underBinder x4
    have hx4 : R x4 := R_ite hx3 (closed_setBit C (closed_bump C hx3))
    try clear_value x4
    extract_lets +onlyGivenNames -underBinder x5
    have hx5 : R x5 := closed_finishDescriptor C hx4
    try clear_value x5
    exact R_ite (closed_handOver C hx5) hx5

theorem closed_closeTray {p0} {p1} {p2} {p3} (hp0 : R p0) : R (State.closeTray p0 p1 p2 p3) := by
  unfold State.closeTray
  extract_lets +onlyGivenNames -underBinder x0
  try clear_value x0
  split
  · refine R_ite (closed_writeFails C hp0) ?_
    extract_lets +onlyGivenNames -underBinder x1
    try clear_value x1
    extract_lets +onlyGivenNames -underBinder x2
    try clear_value x2
    extract_lets +onlyGivenNames -underBinder x3
    have hx3 : R x3 := closed_sample C (closed_hostWrite C hp0)
    try clear_value x3
    exact closed_handOver C (closed_setChan C hx3)
  · exact hp0

theorem closed_popPacket {p0} {p1} (hp0 : R p0) : R (State.popPacket p0 p1).2 := by
  unfold State.popPacket
  split
  · exact hp0
  · rename_i v0 v1 q2
    have hv1 : R v1 := closed_pop C hp0 q2
    exact hv1

theorem closed_takeRecord {p0} {p1} (hp0 : R p0) : R (State.takeRecord p0 p1).2 := by
  unfold State.takeRecord
  split
  · exact closed_popPacket C hp0
  · exact closed_popPacket C hp0
  · exact closed_popPacket C hp0
  · split
    · dsimp only
      exact closed_setHrb C hp0
    · exact hp0
  · exact closed_nextExport C hp0
  · exact hp0

theorem closed_writeRecord {p0} {p1} {p2} {p3} {p4} (hp0 : R p0) : R (State.writeRecord p0 p1 p2 p3 p4) := by
  unfold State.writeRecord
  extract_lets +onlyGivenNames -underBinder x0
  try clear_value x0
  split
  · extract_lets +onlyGivenNames -underBinder x1
    try clear_value x1
    extract_lets +onlyGivenNames -underBinder x2
    try clear_value x2
    extract_lets +onlyGivenNames -underBinder x3
    try clear_value x3
    extract_lets +onlyGivenNames -underBinder x4
    try clear_value x4
    extract_lets +onlyGivenNames -underBinder x5
    have hx5 : R x5 := closed_setChan C (closed_hostWrite C hp0)
    try clear_value x5
    exact R_ite (closed_crumbLeft C hx5) hx5
  · exact hp0

theorem closed_packetInto {p0} {p1} (hp0 : R p0) : R (State.packetInto p0 p1) := by
  unfold State.packetInto
  extract_lets +onlyGivenNames -underBinder x0
  try clear_value x0
  split
  · refine R_ite (closed_closeTray C hp0) ?_
    extract_lets +onlyGivenNames -underBinder x1
    try clear_value x1
    split
    · rename_i v2 v3 v4 q5
      have hv4 : R v4 := by
        refine Eq.subst (motive := fun z => R z.2) q5 ?_
        exact closed_takeRecord C hp0
      extract_lets +onlyGivenNames -underBinder x6
      try clear_value x6
      exact closed_writeRecord C (closed_setChan C hv4)
    · rename_i v7 q8
      have hv7 : R v7 := by
        refine Eq.subst (motive := fun z => R z.2) q8 ?_
        exact closed_takeRecord C hp0
      exact hv7
  · exact hp0

theorem closed_dmaPacket {p0} {p1} (hp0 : R p0) : R (State.dmaPacket p0 p1) := by
  unfold State.dmaPacket
  extract_lets +onlyGivenNames -underBinder x0
  try clear_value x0
  extract_lets +onlyGivenNames -underBinder x1
  try clear_value x1
  refine R_ite hp0 ?_
  refine R_ite (closed_closeTray C hp0) ?_
  refine R_ite hp0 ?_
  refine R_ite (closed_packetInto C hp0) ?_
  split
  · rename_i v2 q3
    have hv2 : R v2 := by
      refine Eq.subst (motive := fun z => R z.2) q3 ?_
      exact closed_takeDescriptor C hp0
    exact hv2
  · rename_i v4 v5 v6 q7
    have hv6 : R v6 := by
      refine Eq.subst (motive := fun z => R z.2) q7 ?_
      exact closed_takeDescriptor C hp0
    exact closed_packetInto C (closed_openTray C hv6)

theorem closed_closeTimesOut {p0} {p1} (hp0 : R p0) : R (State.closeTimesOut p0 p1) := by
  unfold State.closeTimesOut
  exact R_ite (closed_closeTray C hp0) hp0

theorem closed_flushChan {p0} {p1} (hp0 : R p0) : R (State.flushChan p0 p1) := by
  unfold State.flushChan
  exact R_ite (closed_closeTray C hp0) hp0

theorem closed_copyData {p0} {p1} {p2} {p3} (hp0 : R p0) : R (State.copyData p0 p1 p2 p3) := by
  unfold State.copyData
  extract_lets +onlyGivenNames -underBinder x0
  try clear_value x0
  split
  · rename_i v1 v2 q3
    have hv1 : R v1 := by
      refine Eq.subst (motive := fun z => R z.1) q3 ?_
      show R (Prod.fst _)
      refine R_ite_1 ?_ ?_
      · split
        · rename_i v4 v5 v6 q7
          have hv6 : R v6 := by
            refine Eq.subst (motive := fun z => R z.2.2) q7 ?_
            exact closed_dramFetch C hp0
          refine R_ite_1 hv6 ?_
          dsimp only
          exact closed_hostWrite C hv6
      · dsimp only
        exact closed_dramStore C hp0
    extract_lets +onlyGivenNames -underBinder x8
    try clear_value x8
    extract_lets +onlyGivenNames -underBinder x9
    try clear_value x9
    extract_lets +onlyGivenNames -underBinder x10
    have hx10 : R x10 := closed_setChan C hv1
    try clear_value x10
    exact R_ite hx10 (closed_markBad C hx10)

theorem closed_nextCopy {p0} {p1} (hp0 : R p0) : R (State.nextCopy p0 p1) := by
  unfold State.nextCopy
  exact R_ite hp0 (closed_takeDescriptor C hp0)

theorem closed_completeDescriptor {p0} {p1} {p2} {p3} (hp0 : R p0) : R (State.completeDescriptor p0 p1 p2 p3) := by
  unfold State.completeDescriptor
  extract_lets +onlyGivenNames -underBinder x0
  try clear_value x0
  refine R_ite hp0 ?_
  refine R_ite ?_ ?_
  · split
    · exact R_ite hp0 (closed_finishDescriptor C hp0)
    · exact hp0
  · refine R_ite ?_ hp0
    extract_lets +onlyGivenNames -underBinder x1
    have hx1 : R x1 := closed_nextCopy C hp0
    try clear_value x1
    split
    · exact hx1
    · extract_lets +onlyGivenNames -underBinder x2
      have hx2 : R x2 := R_ite hx1 (closed_hostFetch C hx1)
      try clear_value x2
      refine R_ite (closed_setChan C hx2) ?_
      extract_lets +onlyGivenNames -underBinder x3
      have hx3 : R x3 := closed_copyData C hx2
      try clear_value x3
      exact R_ite hx3 (closed_finishDescriptor C hx3)

theorem closed_fenceRead {p0} {p1} {p2} (hp0 : R p0) : R (State.fenceRead p0 p1 p2) := by
  unfold State.fenceRead
  extract_lets +onlyGivenNames -underBinder x0
  try clear_value x0
  split
  · refine R_ite ?_ hp0
    extract_lets +onlyGivenNames -underBinder x1
    have hx1 : R x1 := closed_hostFetch C hp0
    try clear_value x1
    exact R_ite (closed_setChan C hx1) (closed_setChan C hx1)
  · exact hp0

theorem closed_masterReadFails {p0} (hp0 : R p0) : R (State.masterReadFails p0) := by
  unfold State.masterReadFails
  exact R_ite (closed_setChan C hp0) hp0

theorem closed_masterReadRetried {p0} {p1} (hp0 : R p0) : R (State.masterReadRetried p0 p1) := by
  unfold State.masterReadRetried
  extract_lets +onlyGivenNames -underBinder x0
  try clear_value x0
  extract_lets +onlyGivenNames -underBinder x1
  have hx1 : R x1 := closed_setChan C hp0
  try clear_value x1
  refine R_ite hp0 ?_
  refine R_ite (closed_bump C (closed_retryTransient C hx1)) ?_
  split
  · exact closed_failLoad C (closed_retryLasting C hx1)
  · exact hx1

theorem closed_readAgain {p0} {p1} {p2} (hp0 : R p0) : R (State.readAgain p0 p1 p2) := by
  unfold State.readAgain
  extract_lets +onlyGivenNames -underBinder x0
  try clear_value x0
  split
  · exact closed_hostFetch C hp0
  · split
    · exact closed_hostFetch C hp0
    · exact hp0
  · split
    · exact closed_hostFetch C hp0
    · exact hp0

theorem closed_retryRead {p0} {p1} {p2} {p3} (hp0 : R p0) : R (State.retryRead p0 p1 p2 p3) := by
  unfold State.retryRead
  refine R_ite (closed_masterReadRetried C hp0) ?_
  extract_lets +onlyGivenNames -underBinder x0
  try clear_value x0
  extract_lets +onlyGivenNames -underBinder x1
  have hx1 : R x1 := closed_setChan C hp0
  try clear_value x1
  split
  · exact hp0
  · refine R_ite hp0 ?_
    refine R_ite ?_ ?_
    · extract_lets +onlyGivenNames -underBinder x2
      have hx2 : R x2 := closed_bump C (closed_retryTransient C hx1)
      try clear_value x2
      split
      · exact closed_fetched C hx2
      · exact closed_setChan C (closed_readAgain C hx2)
      · exact closed_completeDescriptor C hx2
    · extract_lets +onlyGivenNames -underBinder x3
      have hx3 : R x3 := closed_retryLasting C (closed_readAgain C hx1)
      try clear_value x3
      split
      · extract_lets +onlyGivenNames -underBinder x4
        try clear_value x4
        extract_lets +onlyGivenNames -underBinder x5
        have hx5 : R x5 := closed_chanFlag C (closed_writeStatus C (closed_setChan C hx3))
        try clear_value x5
        exact closed_skipUnusable C (closed_markBad C hx5)
      · extract_lets +onlyGivenNames -underBinder x6
        try clear_value x6
        extract_lets +onlyGivenNames -underBinder x7
        have hx7 : R x7 := closed_markBad C (closed_setChan C hx3)
        try clear_value x7
        exact R_ite hx7 (closed_setBit C (closed_bump C hx7))
      · extract_lets +onlyGivenNames -underBinder x8
        try clear_value x8
        exact closed_finishDescriptor C (closed_markBad C (closed_setChan C hx3))

theorem closed_readTimesOut {p0} {p1} {p2} (hp0 : R p0) : R (State.readTimesOut p0 p1 p2) := by
  unfold State.readTimesOut
  refine R_ite hp0 ?_
  refine R_ite (closed_retryRead C hp0) ?_
  refine R_ite (closed_masterReadFails C hp0) ?_
  split
  · exact closed_fetched C hp0
  · exact closed_completeDescriptor C hp0
  · exact closed_fenceRead C hp0

theorem closed_pauseChan {p0} {p1} (hp0 : R p0) : R (State.pauseChan p0 p1) := by
  unfold State.pauseChan
  exact closed_setChan C hp0

theorem closed_resumeChan {p0} {p1} (hp0 : R p0) : R (State.resumeChan p0 p1) := by
  unfold State.resumeChan
  exact closed_setChan C hp0

theorem closed_channelCommand {p0} {p1} {p2} (hp0 : R p0) : R (State.channelCommand p0 p1 p2).1 := by
  unfold State.channelCommand
  refine R_ite_1 hp0 ?_
  refine R_ite_1 ?_ ?_
  · dsimp only
    exact closed_pauseChan C hp0
  · refine R_ite_1 ?_ ?_
    · dsimp only
      exact closed_resumeChan C hp0
    · refine R_ite_1 ?_ hp0
      dsimp only
      exact closed_flushChan C hp0

theorem closed_shadowLate {p0} {p1} {p2} {p3} (hp0 : R p0) : R (State.shadowLate p0 p1 p2 p3) := by
  unfold State.shadowLate
  exact R_ite (closed_setBit C (closed_wr C hp0)) hp0

theorem closed_shadowArm {p0} {p1} {p2} {p3} (hp0 : R p0) : R (State.shadowArm p0 p1 p2 p3) := by
  unfold State.shadowArm
  exact closed_shadowLate C (closed_wr C hp0)

theorem closed_dmaStops {p0} (hp0 : R p0) : R (State.dmaStops p0) := by
  unfold State.dmaStops
  exact R_foldl hp0 (fun _ _ ht0 => closed_setChan C ht0)

theorem closed_chanTruncate {p0} {p1} (hp0 : R p0) : R (State.chanTruncate p0 p1) := by
  unfold State.chanTruncate
  extract_lets +onlyGivenNames -underBinder x0
  try clear_value x0
  extract_lets +onlyGivenNames -underBinder x1
  have hx1 : R x1 := R_ite (closed_closeTray C hp0) (R_ite (closed_setChan C hp0) hp0)
  try clear_value x1
  extract_lets +onlyGivenNames -underBinder x2
  try clear_value x2
  extract_lets +onlyGivenNames -underBinder x3
  try clear_value x3
  extract_lets +onlyGivenNames -underBinder x4
  have hx4 : R x4 := R_ite hx1 (closed_finishDescriptor C hx1)
  try clear_value x4
  extract_lets +onlyGivenNames -underBinder x5
  try clear_value x5
  exact closed_setChan C hx4

theorem closed_dmaTruncate {p0} (hp0 : R p0) : R (State.dmaTruncate p0) := by
  unfold State.dmaTruncate
  exact R_foldl hp0 (fun _ _ ht0 => closed_chanTruncate C ht0)

theorem closed_clearRings {p0} (hp0 : R p0) : R (State.clearRings p0) := by
  unfold State.clearRings
  refine R_foldl hp0 (fun _ _ ht0 => ?_)
  extract_lets +onlyGivenNames -underBinder x1
  try clear_value x1
  exact closed_setChan C (closed_wr C (closed_wr C (closed_wr C (closed_wr C (closed_wr C ht0)))))

theorem closed_linkUp {p0} {p1} {p2} {p3} (hp0 : R p0) : R (State.linkUp p0 p1 p2 p3) := by
  unfold State.linkUp
  exact closed_wr C (closed_wr C (C.same_ hp0))

theorem closed_linkDown {p0} (hp0 : R p0) : R (State.linkDown p0) := by
  unfold State.linkDown
  extract_lets +onlyGivenNames -underBinder x0
  try clear_value x0
  extract_lets +onlyGivenNames -underBinder x1
  have hx1 : R x1 := closed_wr C (closed_wr C (C.same_ hp0))
  try clear_value x1
  exact R_ite (closed_enterFaulted C hx1) hx1

theorem closed_setBusMaster {p0} {p1} (hp0 : R p0) : R (State.setBusMaster p0 p1) := by
  unfold State.setBusMaster
  exact C.same_ hp0

theorem closed_aerError {p0} {p1} (hp0 : R p0) : R (State.aerError p0 p1) := by
  unfold State.aerError
  exact closed_msix C (closed_bump C hp0)

theorem closed_windowRead {p0} {p1} {p2} (hp0 : R p0) : R (State.windowRead p0 p1 p2) := by
  unfold State.windowRead
  extract_lets +onlyGivenNames -underBinder x0
  try clear_value x0
  refine R_ite (closed_emit C hp0) ?_
  split
  · rename_i v1 v2 v3 q4
    have hv3 : R v3 := by
      refine Eq.subst (motive := fun z => R z.2.2) q4 ?_
      exact closed_dramFetch C hp0
    exact R_ite (closed_emit C (closed_setBit C hv3)) (closed_emit C hv3)

theorem closed_windowWrite {p0} {p1} {p2} {p3} (hp0 : R p0) : R (State.windowWrite p0 p1 p2 p3) := by
  unfold State.windowWrite
  exact R_ite (closed_dramStore C hp0) hp0

end Sys2Proof.Laws
end

