-- ==== Sys2Proof/Laws/ClosedTbu.lean ====
section
/-! SUPPORT. What a closed property of states keeps through the operations of Machine/Tbu.lean. -/

namespace Sys2Proof.Laws

open Sys2Proof.Machine

set_option linter.unusedSectionVars false
set_option Elab.async false

variable {R : State → Prop} (C : Closed R)
include C

theorem closed_advanceTb {p0} {p1} (hp0 : R p0) : R (State.advanceTb p0 p1) := by
  unfold State.advanceTb
  exact closed_advance C hp0

theorem closed_putTraceable {p0} {p1} (hp0 : R p0) : R (State.putTraceable p0 p1) := by
  unfold State.putTraceable
  extract_lets +onlyGivenNames -underBinder x0
  try clear_value x0
  exact closed_putBit C hp0

theorem closed_setArm {p0} {p1} {p2} (hp0 : R p0) : R (State.setArm p0 p1 p2) := by
  unfold State.setArm
  exact closed_putBit C (C.same_ hp0)

theorem closed_passEdges {p0} {p1} {p2} (hp0 : R p0) : R (State.passEdges p0 p1 p2) := by
  unfold State.passEdges
  extract_lets +onlyGivenNames -underBinder x0
  have hx0 : R x0 := closed_setBit C hp0
  try clear_value x0
  extract_lets +onlyGivenNames -underBinder x1
  try clear_value x1
  refine R_ite ?_ (closed_setArm C (closed_bump C hx0))
  extract_lets +onlyGivenNames -underBinder x2
  try clear_value x2
  exact closed_setArm C (closed_bump C hx0)

theorem closed_pulseArm {p0} {p1} (hp0 : R p0) : R (State.pulseArm p0 p1) := by
  unfold State.pulseArm
  extract_lets +onlyGivenNames -underBinder x0
  try clear_value x0
  extract_lets +onlyGivenNames -underBinder x1
  try clear_value x1
  extract_lets +onlyGivenNames -underBinder x2
  try clear_value x2
  extract_lets +onlyGivenNames -underBinder x3
  try clear_value x3
  extract_lets +onlyGivenNames -underBinder x4
  try clear_value x4
  exact R_ite hp0 (R_ite (closed_passEdges C hp0) (closed_setArm C hp0))

theorem closed_pulseEdge {p0} {p1} (hp0 : R p0) : R (State.pulseEdge p0 p1) := by
  unfold State.pulseEdge
  split
  · refine R_ite ?_ hp0
    extract_lets +onlyGivenNames -underBinder x0
    have hx0 : R x0 := closed_setBit C (closed_bump C hp0)
    try clear_value x0
    extract_lets +onlyGivenNames -underBinder x1
    have hx1 : R x1 := closed_setArm C hx0
    try clear_value x1
    exact closed_cross C hx1
  · exact hp0

theorem closed_toutEnds {p0} {p1} (hp0 : R p0) : R (State.toutEnds p0 p1) := by
  unfold State.toutEnds
  exact closed_clearBit C hp0

theorem closed_pulseMode {p0} {p1} {p2} (hp0 : R p0) : R (State.pulseMode p0 p1 p2) := by
  unfold State.pulseMode
  extract_lets +onlyGivenNames -underBinder x0
  have hx0 : R x0 := closed_wr C hp0
  try clear_value x0
  exact R_ite (closed_toutEnds C (closed_setArm C hx0)) hx0

theorem closed_steppedOutput {p0} {p1} {p2} (hp0 : R p0) : R (State.steppedOutput p0 p1 p2) := by
  unfold State.steppedOutput
  split
  · exact hp0
  · refine R_ite (R_ite (closed_setBit C (closed_passEdges C hp0)) hp0) ?_
    refine R_ite ?_ hp0
    extract_lets +onlyGivenNames -underBinder x0
    try clear_value x0
    extract_lets +onlyGivenNames -underBinder x1
    try clear_value x1
    exact closed_setArm C hp0

theorem closed_moveClock {p0} {p1} (hp0 : R p0) : R (State.moveClock p0 p1) := by
  unfold State.moveClock
  extract_lets +onlyGivenNames -underBinder x0
  try clear_value x0
  extract_lets +onlyGivenNames -underBinder x1
  have hx1 : R x1 := C.same_ hp0
  try clear_value x1
  extract_lets +onlyGivenNames -underBinder x2
  have hx2 : R x2 := closed_setBit C hx1
  try clear_value x2
  extract_lets +onlyGivenNames -underBinder x3
  have hx3 : R x3 := R_ite hx2 (closed_setBit C hx2)
  try clear_value x3
  exact closed_publish C (R_ite (R_foldl hx3 (fun _ _ ht4 => closed_steppedOutput C ht4)) hx3)

theorem closed_timeSet {p0} {p1} (hp0 : R p0) : R (State.timeSet p0 p1).1 := by
  unfold State.timeSet
  extract_lets +onlyGivenNames -underBinder x0
  try clear_value x0
  extract_lets +onlyGivenNames -underBinder x1
  try clear_value x1
  refine R_ite_1 hp0 ?_
  refine R_ite_1 hp0 ?_
  extract_lets +onlyGivenNames -underBinder x2
  have hx2 : R x2 := closed_setSync C (closed_moveClock C hp0)
  try clear_value x2
  extract_lets +onlyGivenNames -underBinder x3
  try clear_value x3
  extract_lets +onlyGivenNames -underBinder x4
  have hx4 : R x4 := C.same_ hx2
  try clear_value x4
  dsimp only
  exact closed_publish C (R_ite (closed_putTraceable C hx4) hx4)

theorem closed_stepClock {p0} {p1} {z} (hp0 : R p0) (hz : State.stepClock p0 p1 = some z) : R z := by
  unfold State.stepClock at hz
  extract_lets x0 at hz
  split at hz
  · cases hz; exact closed_moveClock C hp0
  · cases hz

theorem closed_timeStep {p0} {p1} (hp0 : R p0) : R (State.timeStep p0 p1).1 := by
  unfold State.timeStep
  refine R_ite_1 hp0 ?_
  split
  · rename_i v0 q1
    have hv0 : R v0 := closed_stepClock C hp0 q1
    exact hv0
  · exact hp0

theorem closed_setRate {p0} {p1} (hp0 : R p0) : R (State.setRate p0 p1) := by
  unfold State.setRate
  exact closed_publish C (closed_wr C (closed_wrI C hp0))

theorem closed_rateAdjustment {p0} {p1} (hp0 : R p0) : R (State.rateAdjustment p0 p1).1 := by
  unfold State.rateAdjustment
  refine R_ite_1 hp0 ?_
  dsimp only
  exact closed_setRate C hp0

theorem closed_stepMarkEnds {p0} (hp0 : R p0) : R (State.stepMarkEnds p0) := by
  unfold State.stepMarkEnds
  exact closed_publish C (closed_clearBit C hp0)

theorem closed_holdoverEnds {p0} (hp0 : R p0) : R (State.holdoverEnds p0) := by
  unfold State.holdoverEnds
  exact R_ite (closed_publish C (closed_setBit C (closed_setSync C hp0))) hp0

theorem closed_mergeCapture {p0} {p1} {p2} (hp0 : R p0) : R (State.mergeCapture p0 p1 p2) := by
  unfold State.mergeCapture
  split
  · exact hp0
  · extract_lets +onlyGivenNames -underBinder x0
    try clear_value x0
    exact C.same_ hp0

theorem closed_latch {p0} {p1} {p2} {p3} {p4} {p5} (hp0 : R p0) : R (State.latch p0 p1 p2 p3 p4 p5) := by
  unfold State.latch
  extract_lets +onlyGivenNames -underBinder x0
  try clear_value x0
  extract_lets +onlyGivenNames -underBinder x1
  try clear_value x1
  extract_lets +onlyGivenNames -underBinder x2
  try clear_value x2
  extract_lets +onlyGivenNames -underBinder x3
  try clear_value x3
  split
  · exact R_ite (closed_mergeCapture C hp0) hp0
  · extract_lets +onlyGivenNames -underBinder x4
    have hx4 : R x4 := closed_bump C hp0
    try clear_value x4
    extract_lets +onlyGivenNames -underBinder x5
    try clear_value x5
    extract_lets +onlyGivenNames -underBinder x6
    try clear_value x6
    extract_lets +onlyGivenNames -underBinder x7
    try clear_value x7
    extract_lets +onlyGivenNames -underBinder x8
    try clear_value x8
    extract_lets +onlyGivenNames -underBinder x9
    have hx9 : R x9 := C.same_ hx4
    try clear_value x9
    extract_lets +onlyGivenNames -underBinder x10
    try clear_value x10
    extract_lets +onlyGivenNames -underBinder x11
    have hx11 : R x11 := R_ite (closed_setBit C hx9) (closed_wr C (C.same_ hx9))
    try clear_value x11
    exact closed_cross C hx11

theorem closed_tinEdge {p0} {p1} {p2} {p3} (hp0 : R p0) : R (State.tinEdge p0 p1 p2 p3) := by
  unfold State.tinEdge
  extract_lets +onlyGivenNames -underBinder x0
  try clear_value x0
  extract_lets +onlyGivenNames -underBinder x1
  try clear_value x1
  exact R_ite hp0 (R_ite (closed_discard C hp0) (closed_latch C hp0))

theorem closed_tbuStamp {p0} {p1} (hp0 : R p0) : R (State.tbuStamp p0 p1) := by
  unfold State.tbuStamp
  exact R_ite (closed_latch C hp0) (closed_discard C hp0)

theorem closed_captureRead {p0} {p1} (hp0 : R p0) : R (State.captureRead p0 p1).1 := by
  unfold State.captureRead
  split
  · dsimp only
    exact closed_setBit C hp0
  · extract_lets +onlyGivenNames -underBinder x0
    try clear_value x0
    dsimp only
    exact closed_wr C (C.same_ hp0)

theorem closed_endPulses {p0} (hp0 : R p0) : R (State.endPulses p0) := by
  unfold State.endPulses
  exact R_foldl hp0 (fun _ _ ht0 => closed_toutEnds C ht0)

theorem closed_tbuStops {p0} (hp0 : R p0) : R (State.tbuStops p0) := by
  unfold State.tbuStops
  exact R_foldl hp0 (fun _ _ ht0 => closed_setArm C ht0)

end Sys2Proof.Laws
end

