-- ==== Sys2Proof/Laws/ClosedPtp.lean ====
section
/-! SUPPORT. What a closed property of states keeps through the operations of Machine/Ptp.lean. -/

namespace Sys2Proof.Laws

open Sys2Proof.Machine

set_option linter.unusedSectionVars false
set_option Elab.async false

variable {R : State → Prop} (C : Closed R)
include C

theorem closed_setFnp {p0} {p1} {p2} (hp0 : R p0) : R (State.setFnp p0 p1 p2) := by
  unfold State.setFnp
  exact C.same_ hp0

theorem closed_frameIn {p0} {p1} (hp0 : R p0) : R (State.frameIn p0 p1).1 := by
  unfold State.frameIn
  refine R_ite_1 ?_ ?_
  · dsimp only
    exact closed_discard C hp0
  · refine R_ite_1 hp0 ?_
    dsimp only
    exact closed_bump C hp0

theorem closed_frameOut {p0} {p1} {p2} (hp0 : R p0) : R (State.frameOut p0 p1 p2) := by
  unfold State.frameOut
  exact R_ite (closed_bump C (closed_emit C hp0)) hp0

theorem closed_joinGroups {p0} {p1} (hp0 : R p0) : R (State.joinGroups p0 p1) := by
  unfold State.joinGroups
  exact R_ite (closed_frameOut C (closed_frameOut C hp0)) hp0

theorem closed_fnpLinkUp {p0} {p1} {p2} (hp0 : R p0) : R (State.fnpLinkUp p0 p1 p2) := by
  unfold State.fnpLinkUp
  extract_lets +onlyGivenNames -underBinder x0
  try clear_value x0
  exact R_ite hp0 (R_ite (closed_joinGroups C (closed_setBit C (closed_wr C hp0))) (R_ite (closed_setBit C hp0) (closed_joinGroups C (closed_setBit C (closed_wr C hp0)))))

theorem closed_fnpLinkLoss {p0} {p1} (hp0 : R p0) : R (State.fnpLinkLoss p0 p1) := by
  unfold State.fnpLinkLoss
  extract_lets +onlyGivenNames -underBinder x0
  try clear_value x0
  refine R_ite ?_ hp0
  extract_lets +onlyGivenNames -underBinder x1
  have hx1 : R x1 := closed_setBit C (closed_clearBit C (closed_wr C hp0))
  try clear_value x1
  exact closed_setFnp C (closed_bumpSat C hx1)

theorem closed_modeAlternates {p0} {p1} (hp0 : R p0) : R (State.modeAlternates p0 p1) := by
  unfold State.modeAlternates
  exact R_ite (closed_setFnp C hp0) hp0

theorem closed_linkMode {p0} {p1} {p2} (hp0 : R p0) : R (State.linkMode p0 p1 p2) := by
  unfold State.linkMode
  extract_lets +onlyGivenNames -underBinder x0
  try clear_value x0
  extract_lets +onlyGivenNames -underBinder x1
  have hx1 : R x1 := closed_wr C hp0
  try clear_value x1
  exact R_ite (closed_wr C (closed_wr C hx1)) (R_ite hx1 (closed_wr C (closed_wr C hx1)))

theorem closed_fnpStarts {p0} {p1} (hp0 : R p0) : R (State.fnpStarts p0 p1) := by
  unfold State.fnpStarts
  extract_lets +onlyGivenNames -underBinder x0
  try clear_value x0
  extract_lets +onlyGivenNames -underBinder x1
  have hx1 : R x1 := closed_setFnp C hp0
  try clear_value x1
  exact R_ite hx1 (closed_wr C hx1)

theorem closed_fnpEnds {p0} {p1} (hp0 : R p0) : R (State.fnpEnds p0 p1) := by
  unfold State.fnpEnds
  exact closed_setFnp C (closed_clearBit C (closed_wr C hp0))

theorem closed_arp {p0} {p1} {p2} {p3} {p4} (hp0 : R p0) : R (State.arp p0 p1 p2 p3 p4) := by
  unfold State.arp
  split
  · rename_i v0 v1 q2
    have hv0 : R v0 := by
      refine Eq.subst (motive := fun z => R z.1) q2 ?_
      exact closed_frameIn C hp0
    exact R_ite hv0 (R_ite (closed_frameOut C hv0) (closed_bump C hv0))

theorem closed_icmpEcho {p0} {p1} {p2} {p3} {p4} (hp0 : R p0) : R (State.icmpEcho p0 p1 p2 p3 p4) := by
  unfold State.icmpEcho
  split
  · rename_i v0 v1 q2
    have hv0 : R v0 := by
      refine Eq.subst (motive := fun z => R z.1) q2 ?_
      exact closed_frameIn C hp0
    exact R_ite hv0 (R_ite (closed_frameOut C hv0) (closed_bump C hv0))

theorem closed_frameDiscard {p0} {p1} {p2} (hp0 : R p0) : R (State.frameDiscard p0 p1 p2) := by
  unfold State.frameDiscard
  refine R_ite (R_ite (closed_discard C hp0) (R_ite (closed_setBit C (closed_bump C hp0)) hp0)) ?_
  split
  · rename_i v0 v1 q2
    have hv0 : R v0 := by
      refine Eq.subst (motive := fun z => R z.1) q2 ?_
      exact closed_frameIn C hp0
    exact R_ite (closed_bump C hv0) hv0

theorem closed_putStamp {p0} {p1} {p2} {p3} (hp0 : R p0) : R (State.putStamp p0 p1 p2 p3).1 := by
  unfold State.putStamp
  extract_lets +onlyGivenNames -underBinder x0
  try clear_value x0
  refine R_ite_1 ?_ ?_
  · dsimp only
    exact closed_bumpSat C (closed_setBit C hp0)
  · extract_lets +onlyGivenNames -underBinder x1
    try clear_value x1
    dsimp only
    exact closed_raiseTo C (closed_setFnp C hp0)

theorem closed_takeStamp {p0} {p1} {p2} (hp0 : R p0) : R (State.takeStamp p0 p1 p2) := by
  unfold State.takeStamp
  exact closed_setFnp C hp0

theorem closed_sendEvent {p0} {p1} {p2} {p3} {p4} {p5} (hp0 : R p0) : R (State.sendEvent p0 p1 p2 p3 p4 p5).1 := by
  unfold State.sendEvent
  extract_lets +onlyGivenNames -underBinder x0
  try clear_value x0
  extract_lets +onlyGivenNames -underBinder x1
  try clear_value x1
  refine R_ite_1 hp0 ?_
  split
  · rename_i v2 v3 q4
    have hv2 : R v2 := by
      refine Eq.subst (motive := fun z => R z.1) q4 ?_
      exact closed_putStamp C (closed_frameOut C hp0)
    refine R_ite_1 ?_ hv2
    dsimp only
    exact closed_takeStamp C hv2

theorem closed_stampTimesOut {p0} {p1} (hp0 : R p0) : R (State.stampTimesOut p0 p1) := by
  unfold State.stampTimesOut
  split
  · exact hp0
  · exact closed_setBit C (closed_setFnp C hp0)

theorem closed_ptpMoves {p0} {p1} {p2} {p3} (hp0 : R p0) : R (State.ptpMoves p0 p1 p2 p3) := by
  unfold State.ptpMoves
  extract_lets +onlyGivenNames -underBinder x0
  try clear_value x0
  refine R_ite hp0 ?_
  extract_lets +onlyGivenNames -underBinder x1
  try clear_value x1
  extract_lets +onlyGivenNames -underBinder x2
  have hx2 : R x2 := closed_wr C (closed_setFnp C hp0)
  try clear_value x2
  exact R_ite (closed_loseLock C hx2) hx2

theorem closed_ptpDecides {p0} {p1} {p2} (hp0 : R p0) : R (State.ptpDecides p0 p1 p2) := by
  unfold State.ptpDecides
  refine R_ite ?_ hp0
  extract_lets +onlyGivenNames -underBinder x0
  try clear_value x0
  exact closed_ptpMoves C hp0

theorem closed_ptpSettles {p0} (hp0 : R p0) : R (State.ptpSettles p0) := by
  unfold State.ptpSettles
  split
  · exact closed_putTraceable C (closed_wrI C (closed_wro C (closed_clearBit C hp0)))
  · exact R_ite (closed_putTraceable C (closed_wro C (closed_setBit C hp0))) (closed_putTraceable C (closed_clearBit C hp0))

theorem closed_bmca {p0} {p1} (hp0 : R p0) : R (State.bmca p0 p1) := by
  unfold State.bmca
  exact closed_publish C (closed_ptpSettles C (closed_ptpDecides C (closed_ptpDecides C hp0)))

theorem closed_ptpStarts {p0} {p1} (hp0 : R p0) : R (State.ptpStarts p0 p1) := by
  unfold State.ptpStarts
  exact R_ite (closed_joinGroups C (closed_wr C hp0)) hp0

theorem closed_servo {p0} {p1} {p2} (hp0 : R p0) : R (State.servo p0 p1 p2) := by
  unfold State.servo
  extract_lets +onlyGivenNames -underBinder x0
  try clear_value x0
  extract_lets +onlyGivenNames -underBinder x1
  have hx1 : R x1 := closed_sample C (closed_wr C (closed_wrI C (closed_takeFree C hp0)))
  try clear_value x1
  extract_lets +onlyGivenNames -underBinder x2
  try clear_value x2
  extract_lets +onlyGivenNames -underBinder x3
  try clear_value x3
  extract_lets +onlyGivenNames -underBinder x4
  try clear_value x4
  extract_lets +onlyGivenNames -underBinder x5
  have hx5 : R x5 := closed_setRate C (closed_takeFree C hx1)
  try clear_value x5
  extract_lets +onlyGivenNames -underBinder x6
  have hx6 : R x6 := R_ite hx1 (R_ite (R_getD hx1 (fun _ hz => closed_stepClock C hx1 hz)) (R_ite hx5 (closed_setBit C hx5)))
  try clear_value x6
  extract_lets +onlyGivenNames -underBinder x7
  try clear_value x7
  extract_lets +onlyGivenNames -underBinder x8
  try clear_value x8
  extract_lets +onlyGivenNames -underBinder x9
  try clear_value x9
  extract_lets +onlyGivenNames -underBinder x10
  have hx10 : R x10 := C.same_ hx6
  try clear_value x10
  exact closed_publish C (R_ite (closed_setSync C hx10) hx10)

theorem closed_showPath {p0} {p1} {p2} (hp0 : R p0) : R (State.showPath p0 p1 p2) := by
  unfold State.showPath
  exact closed_setFnp C (closed_wrI C (closed_takeFree C hp0))

theorem closed_exchange {p0} {p1} (hp0 : R p0) : R (State.exchange p0 p1) := by
  unfold State.exchange
  extract_lets +onlyGivenNames -underBinder x0
  try clear_value x0
  refine R_ite hp0 ?_
  split
  · split
    · exact hp0
    · extract_lets +onlyGivenNames -underBinder x1
      try clear_value x1
      refine R_ite ?_ ?_
      · split
        · split
          · refine R_ite hp0 ?_
            extract_lets +onlyGivenNames -underBinder x2
            have hx2 : R x2 := closed_setFnp C hp0
            try clear_value x2
            refine R_ite ?_ hx2
            extract_lets +onlyGivenNames -underBinder x3
            try clear_value x3
            exact closed_servo C (closed_showPath C hx2)
          · exact hp0
        · exact hp0
      · split
        · exact closed_servo C (closed_setFnp C hp0)
        · exact hp0
  · exact hp0

theorem closed_ptpIn {p0} {p1} {p2} (hp0 : R p0) : R (State.ptpIn p0 p1 p2).1 := by
  unfold State.ptpIn
  split
  · rename_i v0 v1 q2
    have hv0 : R v0 := by
      refine Eq.subst (motive := fun z => R z.1) q2 ?_
      exact closed_frameIn C hp0
    refine R_ite_1 hv0 ?_
    refine R_ite_1 ?_ hv0
    dsimp only
    exact closed_bump C hv0

theorem closed_ptpSync {p0} {p1} {p2} {p3} (hp0 : R p0) : R (State.ptpSync p0 p1 p2 p3) := by
  unfold State.ptpSync
  split
  · rename_i v0 v1 q2
    have hv0 : R v0 := by
      refine Eq.subst (motive := fun z => R z.1) q2 ?_
      exact closed_ptpIn C hp0
    refine R_ite ?_ hv0
    extract_lets +onlyGivenNames -underBinder x3
    try clear_value x3
    exact closed_exchange C (closed_setFnp C hv0)

theorem closed_ptpFollowUp {p0} {p1} {p2} (hp0 : R p0) : R (State.ptpFollowUp p0 p1 p2) := by
  unfold State.ptpFollowUp
  split
  · rename_i v0 v1 q2
    have hv0 : R v0 := by
      refine Eq.subst (motive := fun z => R z.1) q2 ?_
      exact closed_ptpIn C hp0
    refine R_ite ?_ hv0
    split
    · exact R_ite (closed_exchange C (closed_setFnp C hv0)) hv0
    · exact hv0

theorem closed_ptpDelayReq {p0} {p1} {p2} {p3} (hp0 : R p0) : R (State.ptpDelayReq p0 p1 p2 p3) := by
  unfold State.ptpDelayReq
  split
  · rename_i v0 v1 q2
    have hv0 : R v0 := by
      refine Eq.subst (motive := fun z => R z.1) q2 ?_
      exact closed_ptpIn C hp0
    refine R_ite ?_ hv0
    extract_lets +onlyGivenNames -underBinder x3
    try clear_value x3
    exact closed_frameOut C (closed_takeFree C hv0)

theorem closed_ptpDelayResp {p0} {p1} {p2} (hp0 : R p0) : R (State.ptpDelayResp p0 p1 p2) := by
  unfold State.ptpDelayResp
  split
  · rename_i v0 v1 q2
    have hv0 : R v0 := by
      refine Eq.subst (motive := fun z => R z.1) q2 ?_
      exact closed_ptpIn C hp0
    refine R_ite ?_ hv0
    split
    · exact R_ite (closed_exchange C (closed_setFnp C hv0)) hv0
    · exact hv0

theorem closed_ptpPdelayReq {p0} {p1} {p2} {p3} {p4} (hp0 : R p0) : R (State.ptpPdelayReq p0 p1 p2 p3 p4) := by
  unfold State.ptpPdelayReq
  split
  · rename_i v0 v1 q2
    have hv0 : R v0 := by
      refine Eq.subst (motive := fun z => R z.1) q2 ?_
      exact closed_ptpIn C hp0
    refine R_ite ?_ hv0
    extract_lets +onlyGivenNames -underBinder x3
    try clear_value x3
    split
    · rename_i v4 v5 q6
      have hv4 : R v4 := by
        refine Eq.subst (motive := fun z => R z.1) q6 ?_
        exact closed_sendEvent C (closed_takeFree C hv0)
      split
      · extract_lets +onlyGivenNames -underBinder x7
        try clear_value x7
        exact closed_frameOut C (closed_takeFree C hv4)
      · exact hv4

theorem closed_peerDelay {p0} {p1} {p2} {p3} {p4} (hp0 : R p0) : R (State.peerDelay p0 p1 p2 p3 p4) := by
  unfold State.peerDelay
  extract_lets +onlyGivenNames -underBinder x0
  try clear_value x0
  extract_lets +onlyGivenNames -underBinder x1
  have hx1 : R x1 := closed_setFnp C hp0
  try clear_value x1
  split
  · exact closed_exchange C (closed_showPath C hx1)
  · exact hx1

theorem closed_ptpPdelayResp {p0} {p1} {p2} {p3} (hp0 : R p0) : R (State.ptpPdelayResp p0 p1 p2 p3) := by
  unfold State.ptpPdelayResp
  split
  · rename_i v0 v1 q2
    have hv0 : R v0 := by
      refine Eq.subst (motive := fun z => R z.1) q2 ?_
      exact closed_ptpIn C hp0
    refine R_ite ?_ hv0
    split
    · refine R_ite ?_ hv0
      extract_lets +onlyGivenNames -underBinder x3
      try clear_value x3
      exact R_ite (closed_setFnp C hv0) (R_ite (closed_setFnp C hv0) (closed_peerDelay C hv0))
    · exact hv0

theorem closed_ptpPdelayFollowUp {p0} {p1} {p2} (hp0 : R p0) : R (State.ptpPdelayFollowUp p0 p1 p2) := by
  unfold State.ptpPdelayFollowUp
  split
  · rename_i v0 v1 q2
    have hv0 : R v0 := by
      refine Eq.subst (motive := fun z => R z.1) q2 ?_
      exact closed_ptpIn C hp0
    refine R_ite ?_ hv0
    split
    · exact R_ite (closed_peerDelay C hv0) hv0
    · exact hv0

theorem closed_ptpAnnounce {p0} {p1} {p2} (hp0 : R p0) : R (State.ptpAnnounce p0 p1 p2) := by
  unfold State.ptpAnnounce
  split
  · rename_i v0 v1 q2
    have hv0 : R v0 := by
      refine Eq.subst (motive := fun z => R z.1) q2 ?_
      exact closed_ptpIn C hp0
    split
    · exact R_ite (closed_bmca C (closed_setFnp C hv0)) hv0
    · exact hv0

theorem closed_syncInterval {p0} {p1} {p2} {p3} (hp0 : R p0) : R (State.syncInterval p0 p1 p2 p3) := by
  unfold State.syncInterval
  refine R_ite ?_ hp0
  extract_lets +onlyGivenNames -underBinder x0
  try clear_value x0
  extract_lets +onlyGivenNames -underBinder x1
  try clear_value x1
  extract_lets +onlyGivenNames -underBinder x2
  have hx2 : R x2 := closed_setFnp C hp0
  try clear_value x2
  split
  · rename_i v3 v4 q5
    have hv3 : R v3 := by
      refine Eq.subst (motive := fun z => R z.1) q5 ?_
      exact closed_sendEvent C hx2
    split
    · extract_lets +onlyGivenNames -underBinder x6
      try clear_value x6
      exact closed_frameOut C (closed_takeFree C hv3)
    · exact hv3

theorem closed_announceInterval {p0} {p1} (hp0 : R p0) : R (State.announceInterval p0 p1) := by
  unfold State.announceInterval
  refine R_ite ?_ hp0
  extract_lets +onlyGivenNames -underBinder x0
  try clear_value x0
  extract_lets +onlyGivenNames -underBinder x1
  try clear_value x1
  extract_lets +onlyGivenNames -underBinder x2
  have hx2 : R x2 := closed_setFnp C hp0
  try clear_value x2
  exact closed_frameOut C hx2

theorem closed_delayInterval {p0} {p1} {p2} {p3} (hp0 : R p0) : R (State.delayInterval p0 p1 p2 p3) := by
  unfold State.delayInterval
  extract_lets +onlyGivenNames -underBinder x0
  try clear_value x0
  refine R_ite ?_ hp0
  extract_lets +onlyGivenNames -underBinder x1
  try clear_value x1
  extract_lets +onlyGivenNames -underBinder x2
  try clear_value x2
  extract_lets +onlyGivenNames -underBinder x3
  have hx3 : R x3 := closed_setFnp C hp0
  try clear_value x3
  split
  · rename_i v4 v5 q6
    have hv4 : R v4 := by
      refine Eq.subst (motive := fun z => R z.1) q6 ?_
      exact closed_sendEvent C hx3
    extract_lets +onlyGivenNames -underBinder x7
    try clear_value x7
    exact closed_setFnp C hv4

theorem closed_announceTimesOut {p0} {p1} (hp0 : R p0) : R (State.announceTimesOut p0 p1) := by
  unfold State.announceTimesOut
  exact R_ite (closed_bmca C (closed_setBit C (closed_setFnp C hp0))) hp0

theorem closed_syncTimesOut {p0} {p1} (hp0 : R p0) : R (State.syncTimesOut p0 p1) := by
  unfold State.syncTimesOut
  exact R_ite (closed_publish C (closed_loseLock C (closed_setFnp C hp0))) hp0

theorem closed_tbuStarts {p0} (hp0 : R p0) : R (State.tbuStarts p0) := by
  unfold State.tbuStarts
  refine R_foldl (closed_ptpStarts C (closed_ptpStarts C hp0)) (fun _ _ ht0 => ?_)
  split
  · exact R_ite (closed_passEdges C ht0) ht0
  · exact ht0

end Sys2Proof.Laws
end

