-- ==== Sys2Proof/Laws/ClosedMon.lean ====
section
/-! SUPPORT. What a closed property of states keeps through the operations of Machine/Mon.lean. -/

namespace Sys2Proof.Laws

open Sys2Proof.Machine

set_option linter.unusedSectionVars false
set_option Elab.async false

variable {R : State → Prop} (C : Closed R)
include C

theorem closed_setAccum {p0} {p1} {p2} (hp0 : R p0) : R (State.setAccum p0 p1 p2) := by
  unfold State.setAccum
  exact C.same_ hp0

theorem closed_recorderSample {p0} {p1} {p2} (hp0 : R p0) : R (State.recorderSample p0 p1 p2) := by
  unfold State.recorderSample
  split
  · extract_lets +onlyGivenNames -underBinder x0
    try clear_value x0
    extract_lets +onlyGivenNames -underBinder x1
    try clear_value x1
    extract_lets +onlyGivenNames -underBinder x2
    have hx2 : R x2 := C.same_ hp0
    try clear_value x2
    extract_lets +onlyGivenNames -underBinder x3
    try clear_value x3
    exact R_foldl hx2 (fun _ _ ht4 => R_ite (closed_setAccum C ht4) ht4)
  · exact hp0

theorem closed_recorderEnable {p0} {p1} {p2} (hp0 : R p0) : R (State.recorderEnable p0 p1 p2) := by
  unfold State.recorderEnable
  extract_lets +onlyGivenNames -underBinder x0
  have hx0 : R x0 := closed_wr C hp0
  try clear_value x0
  exact R_ite (closed_setAccum C hx0) hx0

theorem closed_snapshot {p0} (hp0 : R p0) : R (State.snapshot p0) := by
  unfold State.snapshot
  extract_lets +onlyGivenNames -underBinder x0
  try clear_value x0
  extract_lets +onlyGivenNames -underBinder x1
  have hx1 : R x1 := closed_setBit C (closed_wr C (closed_wr C hp0))
  try clear_value x1
  extract_lets +onlyGivenNames -underBinder x2
  try clear_value x2
  extract_lets +onlyGivenNames -underBinder x3
  try clear_value x3
  extract_lets +onlyGivenNames -underBinder x4
  try clear_value x4
  exact C.same_ hx1

theorem closed_snapshotCommand {p0} {p1} (hp0 : R p0) : R (State.snapshotCommand p0 p1).1 := by
  unfold State.snapshotCommand
  refine R_ite_1 hp0 ?_
  refine R_ite_1 hp0 ?_
  dsimp only
  exact closed_snapshot C hp0

theorem closed_snapshotInterval {p0} (hp0 : R p0) : R (State.snapshotInterval p0) := by
  unfold State.snapshotInterval
  exact R_ite hp0 (R_ite (closed_setBit C (closed_bumpSat C hp0)) (closed_snapshot C hp0))

theorem closed_snapshotComplete {p0} (hp0 : R p0) : R (State.snapshotComplete p0) := by
  unfold State.snapshotComplete
  refine R_ite ?_ hp0
  extract_lets +onlyGivenNames -underBinder x0
  have hx0 : R x0 := R_foldl hp0 (fun _ _ ht1 => closed_push C ht1)
  try clear_value x0
  exact closed_clearBit C (C.same_ hx0)

theorem closed_monTruncate {p0} (hp0 : R p0) : R (State.monTruncate p0) := by
  unfold State.monTruncate
  extract_lets +onlyGivenNames -underBinder x0
  have hx0 : R x0 := by
    refine R_foldl hp0 (fun _ _ ht1 => ?_)
    refine R_foldl ht1 (fun _ _ ht2 => ?_)
    refine R_ite ?_ ht2
    extract_lets +onlyGivenNames -underBinder x3
    try clear_value x3
    exact closed_setBit C (closed_bump C (closed_setAccum C ht2))
  try clear_value x0
  exact C.same_ hx0

theorem closed_freeze {p0} (hp0 : R p0) : R (State.freeze p0) := by
  unfold State.freeze
  refine R_ite hp0 ?_
  extract_lets +onlyGivenNames -underBinder x0
  have hx0 : R x0 := closed_bump C (closed_setBit C hp0)
  try clear_value x0
  exact R_ite (closed_push C hx0) hx0

theorem closed_unfreeze {p0} (hp0 : R p0) : R (State.unfreeze p0) := by
  unfold State.unfreeze
  exact closed_clearBit C hp0

theorem closed_clearCounters {p0} {p1} (hp0 : R p0) : R (State.clearCounters p0 p1) := by
  unfold State.clearCounters
  extract_lets +onlyGivenNames -underBinder x0
  have hx0 : R x0 := R_foldl hp0 (fun _ _ ht1 => R_ite (closed_wr C ht1) ht1)
  try clear_value x0
  exact R_ite (closed_wr C hx0) hx0

theorem closed_freezeCommand {p0} {p1} (hp0 : R p0) : R (State.freezeCommand p0 p1).1 := by
  unfold State.freezeCommand
  refine R_ite_1 ?_ ?_
  · dsimp only
    exact closed_freeze C hp0
  · refine R_ite_1 ?_ hp0
    dsimp only
    exact closed_unfreeze C hp0

theorem closed_counterClear {p0} {p1} (hp0 : R p0) : R (State.counterClear p0 p1).1 := by
  unfold State.counterClear
  refine R_ite_1 hp0 ?_
  dsimp only
  exact closed_clearCounters C hp0

theorem closed_userControl {p0} {p1} (hp0 : R p0) : R (State.userControl p0 p1) := by
  unfold State.userControl
  exact R_ite hp0 (R_ite (closed_freeze C hp0) (R_ite (closed_unfreeze C hp0) (R_ite (closed_clearCounters C hp0) hp0)))

end Sys2Proof.Laws
end

