-- ==== Sys2Proof/Laws/ClosedEvf.lean ====
section
/-! SUPPORT. What a closed property of states keeps through the operations of Machine/Evf.lean. -/

namespace Sys2Proof.Laws

open Sys2Proof.Machine

set_option linter.unusedSectionVars false
set_option Elab.async false

variable {R : State → Prop} (C : Closed R)
include C

theorem closed_putEnable {p0} {p1} {p2} (hp0 : R p0) : R (State.putEnable p0 p1 p2) := by
  unfold State.putEnable
  extract_lets +onlyGivenNames -underBinder x0
  try clear_value x0
  extract_lets +onlyGivenNames -underBinder x1
  try clear_value x1
  exact closed_wr C (closed_wr C hp0)

theorem closed_raiseVector {p0} {p1} (hp0 : R p0) : R (State.raiseVector p0 p1) := by
  unfold State.raiseVector
  exact R_ite (C.same_ hp0) (closed_msix C (C.same_ hp0))

theorem closed_vectorHoldoff {p0} {p1} (hp0 : R p0) : R (State.vectorHoldoff p0 p1) := by
  unfold State.vectorHoldoff
  exact R_ite (closed_msix C (C.same_ hp0)) (C.same_ hp0)

theorem closed_fireChannel {p0} {p1} {p2} {p3} (hp0 : R p0) : R (State.fireChannel p0 p1 p2 p3).1 := by
  unfold State.fireChannel
  refine R_ite_1 ?_ ?_
  · extract_lets +onlyGivenNames -underBinder x0
    have hx0 : R x0 := closed_setBit C (closed_setBit C (closed_putEnable C hp0))
    try clear_value x0
    dsimp only
    exact closed_push C hx0
  · extract_lets +onlyGivenNames -underBinder x1
    try clear_value x1
    extract_lets +onlyGivenNames -underBinder x2
    try clear_value x2
    extract_lets +onlyGivenNames -underBinder x3
    have hx3 : R x3 := C.same_ hp0
    try clear_value x3
    extract_lets +onlyGivenNames -underBinder x4
    have hx4 : R x4 := closed_wro C (closed_tally C (closed_bump C hx3))
    try clear_value x4
    extract_lets +onlyGivenNames -underBinder x5
    have hx5 : R x5 := R_ite hx4 (closed_bumpSat C hx4)
    try clear_value x5
    extract_lets +onlyGivenNames -underBinder x6
    have hx6 : R x6 := R_ite (closed_push C hx5) hx5
    try clear_value x6
    extract_lets +onlyGivenNames -underBinder x7
    try clear_value x7
    dsimp only
    exact R_ite hx6 (closed_raiseVector C hx6)

theorem closed_fireChannels {p0} {p1} {p2} (hp0 : R p0) : R (State.fireChannels p0 p1 p2).1 := by
  unfold State.fireChannels
  split
  · exact hp0
  · extract_lets +onlyGivenNames -underBinder x0
    try clear_value x0
    split
    · exact closed_fireChannels hp0
    · refine R_ite_1 ?_ ?_
      · extract_lets +onlyGivenNames -underBinder x1
        have hx1 : R x1.1 := closed_fireChannel C hp0
        try clear_value x1
        extract_lets +onlyGivenNames -underBinder x2
        have hx2 : R x2.1 := closed_fireChannels hx1
        try clear_value x2
        exact hx2
      · exact closed_fireChannels (closed_bump C hp0)

theorem closed_performTask {p0} {p1} {p2} {p3} (hp0 : R p0) : R (State.performTask p0 p1 p2 p3) := by
  unfold State.performTask
  refine R_ite ?_ (R_ite (closed_swapRequest C hp0) (R_ite (closed_freeze C hp0) (R_ite (closed_unfreeze C hp0) (R_ite (closed_snapshot C hp0) (R_ite (closed_tbuStamp C hp0) (R_ite (closed_portResume C hp0) (closed_flushChan C hp0)))))))
  extract_lets +onlyGivenNames -underBinder x0
  try clear_value x0
  exact closed_pscRequest C hp0

theorem closed_activateTask {p0} {p1} {p2} (hp0 : R p0) : R (State.activateTask p0 p1 p2) := by
  unfold State.activateTask
  split
  · exact hp0
  · extract_lets +onlyGivenNames -underBinder x0
    have hx0 : R x0 := R_ite hp0 (closed_bumpSat C hp0)
    try clear_value x0
    refine R_ite (closed_setBit C (closed_bumpSat C hx0)) ?_
    extract_lets +onlyGivenNames -underBinder x1
    have hx1 : R x1 := closed_bump C hx0
    try clear_value x1
    exact closed_performTask C (R_ite hx1 (closed_setBit C hx1))

theorem closed_taskBusyEnds {p0} {p1} (hp0 : R p0) : R (State.taskBusyEnds p0 p1) := by
  unfold State.taskBusyEnds
  exact closed_clearBit C hp0

theorem closed_fabricCycle {p0} (hp0 : R p0) : R (State.fabricCycle p0) := by
  unfold State.fabricCycle
  extract_lets +onlyGivenNames -underBinder x0
  try clear_value x0
  extract_lets +onlyGivenNames -underBinder x1
  try clear_value x1
  extract_lets +onlyGivenNames -underBinder x2
  have hx2 : R x2 := C.same_ hp0
  try clear_value x2
  extract_lets +onlyGivenNames -underBinder x3
  have hx3 : R x3.1 := closed_fireChannels C hx2
  try clear_value x3
  extract_lets +onlyGivenNames -underBinder x4
  have hx4 : R x4 := closed_fireOutputs C hx3
  try clear_value x4
  exact R_foldl hx4 (fun _ _ ht5 => closed_activateTask C ht5)

theorem closed_settleFor {p0} {p1} (hp0 : R p0) : R (State.settleFor p0 p1) := by
  unfold State.settleFor
  split
  · exact hp0
  · exact R_ite hp0 (closed_settleFor (closed_fabricCycle C hp0))

theorem closed_settle {p0} (hp0 : R p0) : R (State.settle p0) := by
  unfold State.settle
  exact closed_settleFor C hp0

theorem closed_crossingExit {p0} {p1} (hp0 : R p0) : R (State.crossingExit p0 p1) := by
  unfold State.crossingExit
  split
  · exact hp0
  · extract_lets +onlyGivenNames -underBinder x0
    try clear_value x0
    extract_lets +onlyGivenNames -underBinder x1
    have hx1 : R x1 := C.same_ hp0
    try clear_value x1
    extract_lets +onlyGivenNames -underBinder x2
    try clear_value x2
    extract_lets +onlyGivenNames -underBinder x3
    try clear_value x3
    exact R_ite (closed_settle C (C.same_ hx1)) (closed_discard C hx1)

theorem closed_travelled {p0} (hp0 : R p0.1) : R (State.travelled p0) := by
  unfold State.travelled
  split
  · exact closed_settle C (closed_comparators C hp0)
  · extract_lets +onlyGivenNames -underBinder x0
    have hx0 : R x0.1 := closed_allHits C hp0
    try clear_value x0
    exact closed_settle C (closed_comparators C (closed_pscTravel C hx0))

theorem closed_evfStops {p0} (hp0 : R p0) : R (State.evfStops p0) := by
  unfold State.evfStops
  exact C.same_ hp0

theorem closed_evfTruncate {p0} (hp0 : R p0) : R (State.evfTruncate p0) := by
  unfold State.evfTruncate
  extract_lets +onlyGivenNames -underBinder x0
  try clear_value x0
  exact closed_discard C (C.same_ hp0)

theorem closed_resetRecord {p0} {p1} (hp0 : R p0) : R (State.resetRecord p0 p1) := by
  unfold State.resetRecord
  extract_lets +onlyGivenNames -underBinder x0
  have hx0 : R x0 := R_foldl (closed_putEnable C hp0) (fun _ _ ht1 => closed_wr C ht1)
  try clear_value x0
  extract_lets +onlyGivenNames -underBinder x2
  have hx2 : R x2 := closed_wro C hx0
  try clear_value x2
  exact C.same_ hx2

theorem closed_claim {p0} {p1} {p2} {p3} {p4} {p5} (hp0 : R p0) : R (State.claim p0 p1 p2 p3 p4 p5).1 := by
  unfold State.claim
  extract_lets +onlyGivenNames -underBinder x0
  try clear_value x0
  refine R_ite_1 hp0 ?_
  refine R_ite_1 hp0 ?_
  refine R_ite_1 hp0 ?_
  refine R_ite_1 hp0 ?_
  extract_lets +onlyGivenNames -underBinder x1
  have hx1 : R x1 := closed_wr C hp0
  try clear_value x1
  dsimp only
  exact R_ite hx1 (closed_wr C hx1)

theorem closed_release {p0} {p1} {p2} {p3} (hp0 : R p0) : R (State.release p0 p1 p2 p3).1 := by
  unfold State.release
  refine R_ite_1 hp0 ?_
  dsimp only
  exact closed_resetRecord C hp0

theorem closed_channelEnable {p0} {p1} {p2} {p3} {p4} (hp0 : R p0) : R (State.channelEnable p0 p1 p2 p3 p4).1 := by
  unfold State.channelEnable
  extract_lets +onlyGivenNames -underBinder x0
  try clear_value x0
  refine R_ite_1 hp0 ?_
  refine R_ite_1 ?_ ?_
  · dsimp only
    exact closed_putEnable C hp0
  · refine R_ite_1 hp0 ?_
    refine R_ite_1 ?_ ?_
    · dsimp only
      exact closed_setBit C hp0
    · extract_lets +onlyGivenNames -underBinder x1
      have hx1 : R x1 := closed_putEnable C hp0
      try clear_value x1
      dsimp only
      exact C.same_ hx1

theorem closed_fireWrite {p0} {p1} {p2} {p3} (hp0 : R p0) : R (State.fireWrite p0 p1 p2 p3).1 := by
  unfold State.fireWrite
  refine R_ite_1 hp0 ?_
  dsimp only
  exact closed_settle C (closed_reachFabric C hp0)

theorem closed_orphan {p0} {p1} (hp0 : R p0) : R (State.orphan p0 p1) := by
  unfold State.orphan
  exact R_foldl hp0 (fun _ _ ht0 => R_ite (closed_wr C ht0) ht0)

end Sys2Proof.Laws
end

