-- ==== Sys2Proof/Laws/ClosedCal.lean ====
section
/-! SUPPORT. What a closed property of states keeps through the operations of Machine/Cal.lean. -/

namespace Sys2Proof.Laws

open Sys2Proof.Machine

set_option linter.unusedSectionVars false
set_option Elab.async false

variable {R : State → Prop} (C : Closed R)
include C

theorem closed_setCal {p0} {p1} (hp0 : R p0) : R (State.setCal p0 p1) := by
  unfold State.setCal
  exact C.same_ hp0

theorem closed_calFlag {p0} {p1} (hp0 : R p0) : R (State.calFlag p0 p1) := by
  unfold State.calFlag
  exact closed_setBit C hp0

theorem closed_runState {p0} {p1} (hp0 : R p0) : R (State.runState p0 p1) := by
  unfold State.runState
  exact closed_putBit C (closed_wr C hp0)

theorem closed_iplPend {p0} {p1} {p2} (hp0 : R p0) : R (State.iplPend p0 p1 p2) := by
  unfold State.iplPend
  split
  · exact closed_setBit C hp0
  · exact hp0

theorem closed_writeImage {p0} {p1} (hp0 : R p0) : R (State.writeImage p0 p1) := by
  unfold State.writeImage
  extract_lets +onlyGivenNames -underBinder x0
  try clear_value x0
  extract_lets +onlyGivenNames -underBinder x1
  extract_lets +onlyGivenNames -underBinder x2
  have hx2 : R x2 := closed_calAwait C hp0
  try clear_value x2
  exact R_ite (R_foldl hx2 (fun _ _ ht3 => closed_iplPend C (closed_wr C ht3))) (R_ite (closed_iplPend C (closed_wro C hx2)) (closed_iplPend C (closed_wro C hx2)))

theorem closed_writeImages {p0} (hp0 : R p0) : R (State.writeImages p0) := by
  unfold State.writeImages
  extract_lets +onlyGivenNames -underBinder x0
  have hx0 : R x0 := R_foldl hp0 (fun _ _ ht1 => closed_writeImage C ht1)
  try clear_value x0
  exact closed_setCal C hx0

theorem closed_writeGeometric {p0} {p1} (hp0 : R p0) : R (State.writeGeometric p0 p1).1 := by
  unfold State.writeGeometric
  extract_lets +onlyGivenNames -underBinder x0
  extract_lets +onlyGivenNames -underBinder x1
  try clear_value x1
  extract_lets +onlyGivenNames -underBinder x2
  have hx2 : R x2 := closed_calAwait C hp0
  try clear_value x2
  extract_lets +onlyGivenNames -underBinder x3
  try clear_value x3
  extract_lets +onlyGivenNames -underBinder x4
  have hx4 : R x4.1 := by
    refine R_ite_1 ?_ ?_
    · exact closed_delayWrite C hx2
    · refine R_ite_1 ?_ ?_
      · exact closed_shiftWrite C hx2
      · dsimp only
        exact closed_remapWrite C (closed_wro C hx2)
  try clear_value x4
  exact R_ite_1 hx4 hp0

theorem closed_skipRecords {p0} {p1} (hp0 : R p0) : R (State.skipRecords p0 p1) := by
  unfold State.skipRecords
  split
  · exact closed_setCal C hp0
  · exact hp0

theorem closed_geoBoundary {p0} (hp0 : R p0) : R (State.geoBoundary p0) := by
  unfold State.geoBoundary
  extract_lets +onlyGivenNames -underBinder x0
  have hx0 : R x0.1 := by
    refine R_foldl_1 hp0 (fun _ _ ht1 => ?_)
    extract_lets +onlyGivenNames -underBinder x2
    have hx2 : R x2.1 := closed_writeGeometric C ht1
    try clear_value x2
    exact hx2
  try clear_value x0
  exact closed_skipRecords C (closed_setCal C hx0)

theorem closed_runRequest {p0} {p1} (hp0 : R p0) : R (State.runRequest p0 p1).1 := by
  unfold State.runRequest
  extract_lets +onlyGivenNames -underBinder x0
  try clear_value x0
  extract_lets +onlyGivenNames -underBinder x1
  try clear_value x1
  extract_lets +onlyGivenNames -underBinder x2
  try clear_value x2
  extract_lets +onlyGivenNames -underBinder x3
  try clear_value x3
  refine R_ite_1 hp0 ?_
  refine R_ite_1 hp0 ?_
  refine R_ite_1 hp0 ?_
  extract_lets +onlyGivenNames -underBinder x4
  try clear_value x4
  dsimp only
  exact closed_runState C (closed_setCal C hp0)

theorem closed_endRun {p0} {p1} {p2} (hp0 : R p0) : R (State.endRun p0 p1 p2) := by
  unfold State.endRun
  extract_lets +onlyGivenNames -underBinder x0
  try clear_value x0
  extract_lets +onlyGivenNames -underBinder x1
  try clear_value x1
  extract_lets +onlyGivenNames -underBinder x2
  try clear_value x2
  extract_lets +onlyGivenNames -underBinder x3
  try clear_value x3
  extract_lets +onlyGivenNames -underBinder x4
  try clear_value x4
  extract_lets +onlyGivenNames -underBinder x5
  try clear_value x5
  extract_lets +onlyGivenNames -underBinder x6
  have hx6 : R x6 := R_foldl hp0 (fun _ _ ht7 => closed_wr C ht7)
  try clear_value x6
  exact closed_calFlag C (closed_runState C (closed_setCal C (closed_wro C hx6)))

theorem closed_failRun {p0} {p1} (hp0 : R p0) : R (State.failRun p0 p1) := by
  unfold State.failRun
  split
  · exact hp0
  · exact closed_endRun C (closed_setCal C hp0)

theorem closed_runChecked {p0} (hp0 : R p0) : R (State.runChecked p0) := by
  unfold State.runChecked
  split
  · exact hp0
  · refine R_ite hp0 ?_
    refine R_ite ?_ ?_
    · extract_lets +onlyGivenNames -underBinder x0
      try clear_value x0
      extract_lets +onlyGivenNames -underBinder x1
      try clear_value x1
      extract_lets +onlyGivenNames -underBinder x2
      try clear_value x2
      extract_lets +onlyGivenNames -underBinder x3
      try clear_value x3
      exact R_ite (closed_endRun C (closed_takeFree C hp0)) (closed_runState C (closed_setCal C (closed_takeFree C hp0)))
    · extract_lets +onlyGivenNames -underBinder x4
      try clear_value x4
      extract_lets +onlyGivenNames -underBinder x5
      have hx5 : R x5 := R_foldl hp0 (fun _ _ ht6 => closed_wro C ht6)
      try clear_value x5
      extract_lets +onlyGivenNames -underBinder x7
      try clear_value x7
      extract_lets +onlyGivenNames -underBinder x8
      try clear_value x8
      exact R_ite (closed_endRun C hx5) (closed_runState C (closed_setCal C hx5))

theorem closed_runApplied {p0} (hp0 : R p0) : R (State.runApplied p0) := by
  unfold State.runApplied
  split
  · exact hp0
  · exact R_ite hp0 (closed_endRun C (closed_writeImages C hp0))

theorem closed_takeExport {p0} {p1} (hp0 : R p0) : R (State.takeExport p0 p1).1 := by
  unfold State.takeExport
  extract_lets +onlyGivenNames -underBinder x0
  try clear_value x0
  extract_lets +onlyGivenNames -underBinder x1
  have hx1 : R x1 := closed_wr C hp0
  try clear_value x1
  exact hx1

theorem closed_setInterface {p0} {p1} (hp0 : R p0) : R (State.setInterface p0 p1) := by
  unfold State.setInterface
  extract_lets +onlyGivenNames -underBinder x0
  try clear_value x0
  refine R_ite (closed_calBase C (closed_calCount C (closed_wro C hp0))) ?_
  refine R_ite (closed_calBase C (closed_calCount C (closed_wro C hp0))) ?_
  extract_lets +onlyGivenNames -underBinder x1
  try clear_value x1
  exact closed_setCal C hp0

theorem closed_applyExport {p0} {p1} {p2} {p3} {p4} {p5} (hp0 : R p0) : R (State.applyExport p0 p1 p2 p3 p4 p5) := by
  unfold State.applyExport
  extract_lets +onlyGivenNames -underBinder x0
  try clear_value x0
  extract_lets +onlyGivenNames -underBinder x1
  try clear_value x1
  extract_lets +onlyGivenNames -underBinder x2
  try clear_value x2
  extract_lets +onlyGivenNames -underBinder x3
  try clear_value x3
  extract_lets +onlyGivenNames -underBinder x4
  have hx4 : R x4 := R_ite (closed_raiseTo C hp0) hp0
  try clear_value x4
  extract_lets +onlyGivenNames -underBinder x5
  try clear_value x5
  extract_lets +onlyGivenNames -underBinder x6
  have hx6 : R x6 := closed_setCal C hx4
  try clear_value x6
  exact closed_calFlag C (R_foldl hx6 (fun _ _ ht7 => closed_setInterface C ht7))

theorem closed_applyNothing {p0} {p1} {p2} (hp0 : R p0) : R (State.applyNothing p0 p1 p2) := by
  unfold State.applyNothing
  exact closed_calFlag C (closed_setCal C hp0)

theorem closed_applyFactory {p0} {p1} {p2} (hp0 : R p0) : R (State.applyFactory p0 p1 p2) := by
  unfold State.applyFactory
  exact R_ite (closed_applyExport C (closed_calFlag C hp0)) (closed_applyNothing C (closed_calFlag C hp0))

theorem closed_importSlots {p0} (hp0 : R p0) : R (State.importSlots p0).1 := by
  unfold State.importSlots
  refine R_ite_1 hp0 ?_
  refine R_ite_1 hp0 ?_
  extract_lets +onlyGivenNames -underBinder x0
  try clear_value x0
  extract_lets +onlyGivenNames -underBinder x1
  try clear_value x1
  extract_lets +onlyGivenNames -underBinder x2
  try clear_value x2
  extract_lets +onlyGivenNames -underBinder x3
  try clear_value x3
  extract_lets +onlyGivenNames -underBinder x4
  try clear_value x4
  dsimp only
  exact R_ite (closed_applyExport C hp0) (R_ite (closed_applyExport C hp0) (closed_applyFactory C hp0))

theorem closed_importFactory {p0} (hp0 : R p0) : R (State.importFactory p0).1 := by
  unfold State.importFactory
  refine R_ite_1 hp0 ?_
  refine R_ite_1 hp0 ?_
  dsimp only
  exact closed_applyFactory C hp0

theorem closed_endImport {p0} (hp0 : R p0) : R (State.endImport p0) := by
  unfold State.endImport
  split
  · exact hp0
  · extract_lets +onlyGivenNames -underBinder x0
    try clear_value x0
    exact closed_calFlag C (closed_clearBit C (closed_setCal C (closed_wro C hp0)))

theorem closed_importComplete {p0} (hp0 : R p0) : R (State.importComplete p0) := by
  unfold State.importComplete
  exact R_ite hp0 (closed_endImport C (closed_writeImages C hp0))

theorem closed_dropImport {p0} {p1} (hp0 : R p0) : R (State.dropImport p0 p1) := by
  unfold State.dropImport
  extract_lets +onlyGivenNames -underBinder x0
  try clear_value x0
  extract_lets +onlyGivenNames -underBinder x1
  try clear_value x1
  extract_lets +onlyGivenNames -underBinder x2
  try clear_value x2
  extract_lets +onlyGivenNames -underBinder x3
  have hx3 : R x3 := closed_setCal C hp0
  try clear_value x3
  exact closed_endImport C (closed_writeImages C (closed_skipRecords C hx3))

theorem closed_runTimesOut {p0} (hp0 : R p0) : R (State.runTimesOut p0) := by
  unfold State.runTimesOut
  exact R_ite (closed_dropImport C hp0) (R_ite (closed_failRun C hp0) (R_ite (closed_failRun C hp0) hp0))

theorem closed_runCancel {p0} {p1} (hp0 : R p0) : R (State.runCancel p0 p1).1 := by
  unfold State.runCancel
  refine R_ite_1 hp0 ?_
  dsimp only
  exact closed_failRun C hp0

theorem closed_itemWrite {p0} {p1} (hp0 : R p0) : R (State.itemWrite p0 p1).1 := by
  unfold State.itemWrite
  extract_lets +onlyGivenNames -underBinder x0
  try clear_value x0
  extract_lets +onlyGivenNames -underBinder x1
  try clear_value x1
  extract_lets +onlyGivenNames -underBinder x2
  try clear_value x2
  extract_lets +onlyGivenNames -underBinder x3
  try clear_value x3
  refine R_ite_1 hp0 ?_
  refine R_ite_1 hp0 ?_
  refine R_ite_1 ?_ ?_
  · dsimp only
    exact closed_writeImage C hp0
  · refine R_ite_1 ?_ ?_
    · dsimp only
      exact closed_setCal C hp0
    · dsimp only
      exact closed_setInterface C hp0

theorem closed_factorySave {p0} {p1} {p2} (hp0 : R p0) : R (State.factorySave p0 p1 p2).1 := by
  unfold State.factorySave
  refine R_ite_1 hp0 ?_
  refine R_ite_1 hp0 ?_
  extract_lets +onlyGivenNames -underBinder x0
  have hx0 : R x0.1 := closed_takeExport C hp0
  try clear_value x0
  dsimp only
  exact closed_setCal C hx0

theorem closed_stepThreshold {p0} {p1} {p2} {p3} (hp0 : R p0) : R (State.stepThreshold p0 p1 p2 p3) := by
  unfold State.stepThreshold
  extract_lets +onlyGivenNames -underBinder x0
  try clear_value x0
  extract_lets +onlyGivenNames -underBinder x1
  try clear_value x1
  extract_lets +onlyGivenNames -underBinder x2
  try clear_value x2
  extract_lets +onlyGivenNames -underBinder x3
  try clear_value x3
  extract_lets +onlyGivenNames -underBinder x4
  try clear_value x4
  extract_lets +onlyGivenNames -underBinder x5
  try clear_value x5
  extract_lets +onlyGivenNames -underBinder x6
  have hx6 : R x6 := R_ite (closed_wr C hp0) (closed_wro C hp0)
  try clear_value x6
  extract_lets +onlyGivenNames -underBinder x7
  have hx7 : R x7 := R_ite (closed_calFlag C hx6) hx6
  try clear_value x7
  split
  · extract_lets +onlyGivenNames -underBinder x8
    try clear_value x8
    extract_lets +onlyGivenNames -underBinder x9
    have hx9 : R x9 := closed_setCal C hx7
    try clear_value x9
    exact R_ite (closed_calCount C hx9) (R_ite hx7 hx9)
  · exact R_ite (closed_calCount C hx7) hx7

theorem closed_interfaceInterval {p0} {p1} {p2} (hp0 : R p0) : R (State.interfaceInterval p0 p1 p2) := by
  unfold State.interfaceInterval
  refine R_ite hp0 ?_
  extract_lets +onlyGivenNames -underBinder x0
  try clear_value x0
  extract_lets +onlyGivenNames -underBinder x1
  try clear_value x1
  extract_lets +onlyGivenNames -underBinder x2
  have hx2 : R x2 := R_foldl hp0 (fun _ _ ht3 => closed_stepThreshold C ht3)
  try clear_value x2
  exact R_foldl hx2 (fun _ _ ht4 => closed_stepThreshold C ht4)

theorem closed_dueCheck {p0} (hp0 : R p0) : R (State.dueCheck p0) := by
  unfold State.dueCheck
  refine R_foldl hp0 (fun _ _ ht0 => ?_)
  extract_lets +onlyGivenNames -underBinder x1
  try clear_value x1
  extract_lets +onlyGivenNames -underBinder x2
  try clear_value x2
  exact closed_putBit C ht0

theorem closed_calStops {p0} (hp0 : R p0) : R (State.calStops p0) := by
  unfold State.calStops
  exact R_ite (closed_failRun C hp0) hp0

theorem closed_calTruncate {p0} (hp0 : R p0) : R (State.calTruncate p0) := by
  unfold State.calTruncate
  extract_lets +onlyGivenNames -underBinder x0
  have hx0 : R x0 := closed_failRun C hp0
  try clear_value x0
  extract_lets +onlyGivenNames -underBinder x1
  have hx1 : R x1 := R_ite (closed_dropImport C hx0) hx0
  try clear_value x1
  exact closed_setCal C hx1

end Sys2Proof.Laws
end

