-- ==== Sys2Proof/Laws/ClosedBst.lean ====
section
/-! SUPPORT. What a closed property of states keeps through the operations of Machine/Bst.lean. -/

namespace Sys2Proof.Laws

open Sys2Proof.Machine

set_option linter.unusedSectionVars false
set_option Elab.async false

variable {R : State → Prop} (C : Closed R)
include C

theorem closed_setUnit {p0} {p1} {p2} (hp0 : R p0) : R (State.setUnit p0 p1 p2) := by
  unfold State.setUnit
  exact C.same_ hp0

theorem closed_setTest {p0} {p1} (hp0 : R p0) : R (State.setTest p0 p1) := by
  unfold State.setTest
  exact C.same_ hp0

theorem closed_outcome {p0} {p1} {p2} {p3} (hp0 : R p0) : R (State.outcome p0 p1 p2 p3) := by
  unfold State.outcome
  exact closed_bump C (closed_setUnit C hp0)

theorem closed_bstTarget {p0} {p1} {p2} (hp0 : R p0) : R (State.bstTarget p0 p1 p2) := by
  unfold State.bstTarget
  exact R_ite (closed_spareTarget C hp0) (closed_segSpareTarget C hp0)

theorem closed_bstTakeOver {p0} {p1} (hp0 : R p0) : R (State.bstTakeOver p0 p1) := by
  unfold State.bstTakeOver
  exact R_ite (closed_takeOver C hp0) (closed_segTakeOver C hp0)

theorem closed_bstHandBack {p0} {p1} (hp0 : R p0) : R (State.bstHandBack p0 p1).1 := by
  unfold State.bstHandBack
  refine R_ite_1 ?_ ?_
  · exact closed_handBack C hp0
  · exact closed_segHandBack C hp0

theorem closed_showUnderTest {p0} {p1} {p2} (hp0 : R p0) : R (State.showUnderTest p0 p1 p2) := by
  unfold State.showUnderTest
  refine R_ite ?_ hp0
  extract_lets +onlyGivenNames -underBinder x0
  try clear_value x0
  exact R_ite (closed_wr C hp0) (R_ite (closed_wr C hp0) hp0)

theorem closed_clearUnit {p0} {p1} (hp0 : R p0) : R (State.clearUnit p0 p1) := by
  unfold State.clearUnit
  exact R_ite (closed_enter C hp0) (closed_engineClear C hp0)

theorem closed_beginTest {p0} {p1} {p2} (hp0 : R p0) : R (State.beginTest p0 p1 p2) := by
  unfold State.beginTest
  extract_lets +onlyGivenNames -underBinder x0
  try clear_value x0
  exact closed_setBit C (closed_putBit C (closed_wr C (closed_wr C (closed_setTest C hp0))))

theorem closed_beginSlices {p0} {p1} (hp0 : R p0) : R (State.beginSlices p0 p1) := by
  unfold State.beginSlices
  exact closed_bump C (closed_showUnderTest C (closed_beginTest C hp0))

theorem closed_testGone {p0} (hp0 : R p0) : R (State.testGone p0) := by
  unfold State.testGone
  extract_lets +onlyGivenNames -underBinder x0
  have hx0 : R x0 := by
    unfold x0
    split
    · exact closed_showUnderTest C hp0
    · exact hp0
  try clear_value x0
  exact closed_clearBit C (closed_wr C (closed_wr C (closed_setTest C hx0)))

theorem closed_roundOver {p0} (hp0 : R p0) : R (State.roundOver p0) := by
  unfold State.roundOver
  exact closed_clearBit C (C.same_ hp0)

theorem closed_testEnds {p0} {p1} {p2} (hp0 : R p0) : R (State.testEnds p0 p1 p2) := by
  unfold State.testEnds
  extract_lets +onlyGivenNames -underBinder x0
  have hx0 : R x0 := closed_testGone C (closed_outcome C hp0)
  try clear_value x0
  extract_lets +onlyGivenNames -underBinder x1
  extract_lets +onlyGivenNames -underBinder x2
  have hx2 : R x2 := R_ite (C.same_ hx0) hx0
  try clear_value x2
  exact R_ite hx2 (closed_roundOver C hx2)

theorem closed_testAborted {p0} {p1} (hp0 : R p0) : R (State.testAborted p0 p1) := by
  unfold State.testAborted
  exact closed_setBit C (closed_testEnds C hp0)

theorem closed_unitFails {p0} {p1} {p2} (hp0 : R p0) : R (State.unitFails p0 p1 p2) := by
  unfold State.unitFails
  extract_lets +onlyGivenNames -underBinder x0
  try clear_value x0
  extract_lets +onlyGivenNames -underBinder x1
  have hx1 : R x1 := closed_testEnds C (closed_setUnit C hp0)
  try clear_value x1
  extract_lets +onlyGivenNames -underBinder x2
  extract_lets +onlyGivenNames -underBinder x3
  have hx3 : R x3 := R_ite hx1 (C.same_ hx1)
  try clear_value x3
  exact closed_setBit C hx3

theorem closed_skipUnit {p0} {p1} (hp0 : R p0) : R (State.skipUnit p0 p1) := by
  unfold State.skipUnit
  exact closed_setBit C (closed_outcome C hp0)

theorem closed_startUnit {p0} {p1} (hp0 : R p0) : R (State.startUnit p0 p1) := by
  unfold State.startUnit
  split
  · exact R_ite (closed_beginSlices C (closed_clearUnit C hp0)) (closed_skipUnit C hp0)
  · refine R_ite (R_ite (closed_beginSlices C hp0) (closed_skipUnit C hp0)) ?_
    refine R_ite (R_ite (closed_beginTest C (closed_bstTarget C hp0)) (closed_skipUnit C hp0)) ?_
    refine R_ite (R_ite (closed_beginSlices C hp0) (closed_skipUnit C hp0)) ?_
    refine R_ite (closed_skipUnit C hp0) ?_
    split
    · exact closed_beginTest C (closed_bstTarget C hp0)
    · exact closed_skipUnit C hp0

theorem closed_nextUnit {p0} {p1} (hp0 : R p0) : R (State.nextUnit p0 p1) := by
  unfold State.nextUnit
  split
  · exact hp0
  · refine R_ite hp0 ?_
    split
    · exact closed_roundOver C hp0
    · extract_lets +onlyGivenNames -underBinder x0
      extract_lets +onlyGivenNames -underBinder x1
      have hx1 : R x1 := C.same_ hp0
      try clear_value x1
      exact R_ite (closed_nextUnit hx1) (closed_nextUnit (closed_startUnit C hx1))

theorem closed_unitReturns {p0} {p1} {p2} (hp0 : R p0) : R (State.unitReturns p0 p1 p2) := by
  unfold State.unitReturns
  refine R_ite ?_ ?_
  · extract_lets +onlyGivenNames -underBinder x0
    extract_lets +onlyGivenNames -underBinder x1
    have hx1 : R x1 := closed_clearBit C (closed_setSpare C hp0)
    try clear_value x1
    exact closed_fnFlag C (closed_enter C hx1)
  · extract_lets +onlyGivenNames -underBinder x2
    extract_lets +onlyGivenNames -underBinder x3
    try clear_value x3
    extract_lets +onlyGivenNames -underBinder x4
    have hx4 : R x4 := closed_setEngine C (closed_setSegSpare C hp0)
    try clear_value x4
    exact C.same_ hx4

theorem closed_bstFollow {p0} (hp0 : R p0) : R (State.bstFollow p0) := by
  unfold State.bstFollow
  split
  · exact hp0
  · split
    · exact hp0
    · extract_lets +onlyGivenNames -underBinder x0
      try clear_value x0
      extract_lets +onlyGivenNames -underBinder x1
      try clear_value x1
      refine R_ite ?_ ?_
      · extract_lets +onlyGivenNames -underBinder x2
        have hx2 : R x2 := closed_testAborted C hp0
        try clear_value x2
        exact R_ite (closed_unitReturns C hx2) hx2
      · refine R_ite (R_ite (closed_testAborted C hp0) (R_ite (closed_beginSlices C (R_ite (closed_clearUnit C hp0) hp0)) (R_ite (closed_wr C (closed_bstTakeOver C hp0)) hp0))) ?_
        refine R_ite ?_ (R_ite (R_ite (closed_testAborted C hp0) (closed_testEnds C hp0)) hp0)
        refine R_ite ?_ hp0
        extract_lets +onlyGivenNames -underBinder x3
        have hx3 : R x3.1 := closed_bstHandBack C (closed_showUnderTest C hp0)
        try clear_value x3
        exact R_ite (closed_wr C hx3) hp0

theorem closed_bstStep {p0} (hp0 : R p0) : R (State.bstStep p0) := by
  unfold State.bstStep
  exact closed_nextUnit C (closed_bstFollow C hp0)

theorem closed_bistRound {p0} (hp0 : R p0) : R (State.bistRound p0) := by
  unfold State.bistRound
  refine R_ite ?_ hp0
  extract_lets +onlyGivenNames -underBinder x0
  try clear_value x0
  exact closed_bstStep C (closed_setBit C (C.same_ hp0))

theorem closed_autoRepair {p0} {p1} (hp0 : R p0) : R (State.autoRepair p0 p1) := by
  unfold State.autoRepair
  refine R_ite ?_ hp0
  extract_lets +onlyGivenNames -underBinder x0
  try clear_value x0
  extract_lets +onlyGivenNames -underBinder x1
  try clear_value x1
  exact closed_bstStep C (closed_setBit C (C.same_ hp0))

theorem closed_sliceStarts {p0} (hp0 : R p0) : R (State.sliceStarts p0) := by
  unfold State.sliceStarts
  split
  · exact R_ite (closed_bump C (closed_setTest C hp0)) hp0
  · exact hp0

theorem closed_slicePasses {p0} {p1} (hp0 : R p0) : R (State.slicePasses p0 p1) := by
  unfold State.slicePasses
  extract_lets +onlyGivenNames -underBinder x0
  try clear_value x0
  extract_lets +onlyGivenNames -underBinder x1
  have hx1 : R x1 := closed_setTest C hp0
  try clear_value x1
  split
  · exact closed_bstStep C hx1
  · exact R_ite (closed_bstStep C (closed_testEnds C hx1)) (R_ite (closed_testAborted C hx1) hx1)

theorem closed_softRepair {p0} {p1} {p2} {p3} {p4} (hp0 : R p0) : R (State.softRepair p0 p1 p2 p3 p4) := by
  unfold State.softRepair
  extract_lets +onlyGivenNames -underBinder x0
  try clear_value x0
  extract_lets +onlyGivenNames -underBinder x1
  try clear_value x1
  refine R_ite ?_ (closed_bstStep C (closed_unitFails C (closed_setBit C hp0)))
  extract_lets +onlyGivenNames -underBinder x2
  extract_lets +onlyGivenNames -underBinder x3
  have hx3 : R x3 := C.same_ hp0
  try clear_value x3
  exact closed_bump C (closed_setTest C (closed_setUnit C hx3))

theorem closed_sliceEnds {p0} {p1} (hp0 : R p0) : R (State.sliceEnds p0 p1) := by
  unfold State.sliceEnds
  split
  · exact hp0
  · split
    · exact hp0
    · exact hp0
    · exact closed_slicePasses C hp0
    · extract_lets +onlyGivenNames -underBinder x0
      try clear_value x0
      extract_lets +onlyGivenNames -underBinder x1
      have hx1 : R x1 := closed_setUnit C hp0
      try clear_value x1
      exact R_ite (closed_testAborted C hx1) (closed_setTest C hx1)
    · extract_lets +onlyGivenNames -underBinder x2
      try clear_value x2
      extract_lets +onlyGivenNames -underBinder x3
      have hx3 : R x3 := closed_setBit C (closed_setUnit C (closed_retryTransient C hp0))
      try clear_value x3
      exact R_ite (closed_bstStep C (closed_unitFails C hx3)) (closed_slicePasses C hx3)
    · exact R_ite (closed_testAborted C (closed_setUnit C (closed_retryLasting C hp0))) (closed_softRepair C (closed_retryLasting C hp0))
    · exact closed_bstStep C (closed_unitFails C (closed_retryLasting C hp0))
    · exact closed_slicePasses C (closed_setBit C hp0)
    · exact closed_bstStep C (closed_unitFails C hp0)
    · exact closed_bstStep C (closed_unitFails C hp0)

theorem closed_sliceRetries {p0} (hp0 : R p0) : R (State.sliceRetries p0) := by
  unfold State.sliceRetries
  split
  · exact R_ite (closed_bump C (closed_setTest C hp0)) hp0
  · exact hp0

theorem closed_testRequest {p0} {p1} (hp0 : R p0) : R (State.testRequest p0 p1).1 := by
  unfold State.testRequest
  extract_lets +onlyGivenNames -underBinder x0
  try clear_value x0
  extract_lets +onlyGivenNames -underBinder x1
  try clear_value x1
  refine R_ite_1 hp0 ?_
  refine R_ite_1 hp0 ?_
  refine R_ite_1 hp0 ?_
  refine R_ite_1 ?_ ?_
  · dsimp only
    exact C.same_ hp0
  · dsimp only
    exact closed_beginSlices C hp0

theorem closed_fuseCommand {p0} (hp0 : R p0) : R (State.fuseCommand p0).1 := by
  unfold State.fuseCommand
  refine R_ite_1 hp0 ?_
  refine R_ite_1 hp0 ?_
  dsimp only
  exact closed_setBit C (C.same_ hp0)

theorem closed_burn {p0} {p1} {p2} (hp0 : R p0) : R (State.burn p0 p1 p2) := by
  unfold State.burn
  split
  · exact hp0
  · extract_lets +onlyGivenNames -underBinder x0
    try clear_value x0
    extract_lets +onlyGivenNames -underBinder x1
    try clear_value x1
    extract_lets +onlyGivenNames -underBinder x2
    have hx2 : R x2 := R_ite hp0 (closed_setBit C hp0)
    try clear_value x2
    refine R_ite (closed_burn (closed_setBit C (closed_wr C hx2))) ?_
    extract_lets +onlyGivenNames -underBinder x3
    extract_lets +onlyGivenNames -underBinder x4
    have hx4 : R x4 := C.same_ (C.fuse hx2)
    try clear_value x4
    exact closed_burn (closed_wr C hx4)

theorem closed_fuseComplete {p0} {p1} (hp0 : R p0) : R (State.fuseComplete p0 p1) := by
  unfold State.fuseComplete
  exact R_ite (closed_clearBit C (closed_burn C (C.same_ hp0))) hp0

theorem closed_applyFuses {p0} (hp0 : R p0) : R (State.applyFuses p0) := by
  unfold State.applyFuses
  refine R_foldl hp0 (fun _ _ ht0 => ?_)
  refine R_ite ?_ ht0
  extract_lets +onlyGivenNames -underBinder x1
  try clear_value x1
  extract_lets +onlyGivenNames -underBinder x2
  try clear_value x2
  refine R_ite ?_ ?_
  · extract_lets +onlyGivenNames -underBinder x3
    have hx3 : R x3 := closed_wr C (closed_wr C (closed_wr C (closed_wr C ht0)))
    try clear_value x3
    extract_lets +onlyGivenNames -underBinder x4
    have hx4 : R x4 := C.same_ hx3
    try clear_value x4
    exact closed_setBit C (closed_wr C (closed_wr C hx4))
  · extract_lets +onlyGivenNames -underBinder x5
    extract_lets +onlyGivenNames -underBinder x6
    try clear_value x6
    extract_lets +onlyGivenNames -underBinder x7
    have hx7 : R x7 := closed_setEngine C (closed_setSegSpare C (closed_wr C ht0))
    try clear_value x7
    exact closed_wr C (closed_setEngine C hx7)

theorem closed_bstStops {p0} (hp0 : R p0) : R (State.bstStops p0) := by
  unfold State.bstStops
  extract_lets +onlyGivenNames -underBinder x0
  extract_lets +onlyGivenNames -underBinder x1
  have hx1 : R x1 := C.same_ hp0
  try clear_value x1
  split
  · exact closed_roundOver C hx1
  · extract_lets +onlyGivenNames -underBinder x2
    try clear_value x2
    refine R_ite ?_ ?_
    · extract_lets +onlyGivenNames -underBinder x3
      have hx3 : R x3 := by
        unfold x3
        split
        · exact R_ite (closed_releaseSpare C hx1) (closed_segRelease C hx1)
        · exact hx1
      try clear_value x3
      exact closed_testAborted C hx3
    · refine R_ite ?_ hx1
      split
      · exact closed_bstFollow C hx1
      · exact closed_testAborted C hx1
      · exact closed_testAborted C hx1
      · exact hx1

theorem closed_bstTruncate {p0} (hp0 : R p0) : R (State.bstTruncate p0) := by
  unfold State.bstTruncate
  extract_lets +onlyGivenNames -underBinder x0
  extract_lets +onlyGivenNames -underBinder x1
  have hx1 : R x1 := C.same_ hp0
  try clear_value x1
  split
  · exact closed_testAborted C hx1
  · exact closed_roundOver C hx1

theorem closed_bstStarts {p0} (hp0 : R p0) : R (State.bstStarts p0) := by
  unfold State.bstStarts
  exact C.same_ hp0

end Sys2Proof.Laws
end

