-- ==== Sys2Proof/Laws/ClosedFlash.lean ====
section
/-! SUPPORT. What a closed property of states keeps through the operations of Machine/Flash.lean. -/

namespace Sys2Proof.Laws

open Sys2Proof.Machine

set_option linter.unusedSectionVars false
set_option Elab.async false

variable {R : State → Prop} (C : Closed R)
include C

theorem closed_rootSkipped {p0} {p1} (hp0 : R p0) : R (State.rootSkipped p0 p1) := by
  unfold State.rootSkipped
  exact R_ite (closed_setBit C hp0) hp0

theorem closed_imageSegment {p0} {p1} {p2} (hp0 : R p0) : R (State.imageSegment p0 p1 p2) := by
  unfold State.imageSegment
  extract_lets +onlyGivenNames -underBinder x0
  try clear_value x0
  extract_lets +onlyGivenNames -underBinder x1
  try clear_value x1
  exact closed_wr C (C.same_ hp0)

theorem closed_imageEnds {p0} (hp0 : R p0) : R (State.imageEnds p0).1 := by
  unfold State.imageEnds
  extract_lets +onlyGivenNames -underBinder x0
  try clear_value x0
  extract_lets +onlyGivenNames -underBinder x1
  have hx1 : R x1 := closed_rootSkipped C hp0
  try clear_value x1
  refine R_ite_1 ?_ ?_
  · dsimp only
    exact closed_wr C (C.same_ hx1)
  · dsimp only
    exact closed_wr C hx1

theorem closed_imageAbandoned {p0} (hp0 : R p0) : R (State.imageAbandoned p0) := by
  unfold State.imageAbandoned
  exact R_ite (closed_wr C hp0) hp0

end Sys2Proof.Laws
end

