-- ==== Sys2Proof/Laws/ClosedSes.lean ====
section
/-! SUPPORT. What a closed property of states keeps through the operations of Machine/Ses.lean. -/

namespace Sys2Proof.Laws

open Sys2Proof.Machine

set_option linter.unusedSectionVars false
set_option Elab.async false

variable {R : State → Prop} (C : Closed R)
include C

theorem closed_access {p0} {p1} (hp0 : R p0) : R (State.access p0 p1) := by
  unfold State.access
  exact closed_setBit C hp0

theorem closed_fnpUnheard {p0} {p1} (hp0 : R p0) : R (State.fnpUnheard p0 p1) := by
  unfold State.fnpUnheard
  exact R_ite (closed_discard C hp0) hp0

theorem closed_countPort {p0} {p1} {p2} (hp0 : R p0) : R (State.countPort p0 p1 p2) := by
  cases p2 with
  | net port _ _ _ => exact closed_bump (p2 := port.val + 1) (p3 := 1) C hp0
  | mailbox _ => exact hp0

theorem closed_netHeard {p0} {p1} (hp0 : R p0) : R (State.netHeard p0 p1) := by
  unfold State.netHeard
  exact closed_bump C hp0

theorem closed_frameHeard {p0} {p1} (hp0 : R p0) : R (State.frameHeard p0 p1) := by
  unfold State.frameHeard
  exact closed_countPort C (closed_bump C hp0)

theorem closed_respond {p0} {p1} {p2} {p3} {p4} (hp0 : R p0) : R (State.respond p0 p1 p2 p3 p4) := by
  unfold State.respond
  extract_lets +onlyGivenNames -underBinder x0
  try clear_value x0
  extract_lets +onlyGivenNames -underBinder x1
  have hx1 : R x1 := closed_countPort C (closed_emit C hp0)
  try clear_value x1
  split
  · exact hx1
  · extract_lets +onlyGivenNames -underBinder x2
    try clear_value x2
    extract_lets +onlyGivenNames -underBinder x3
    have hx3 : R x3 := C.same_ hx1
    try clear_value x3
    exact R_ite (closed_msix C hx3) hx3

theorem closed_deliver {p0} {p1} {p2} (hp0 : R p0) (hp2 : ∀ z0, R z0 → R (p2 z0)) : R (State.deliver p0 p1 p2) := by
  unfold State.deliver
  split
  · exact R_ite (hp2 _ (closed_frameHeard C hp0)) (closed_fnpUnheard C hp0)
  · exact R_ite hp0 (R_ite (C.same_ hp0) (hp2 _ (closed_frameHeard C hp0)))

theorem closed_abandon {p0} {p1} (hp0 : R p0) : R (State.abandon p0 p1) := by
  unfold State.abandon
  exact R_ite (closed_imageAbandoned C hp0) hp0

theorem closed_endSession {p0} {p1} (hp0 : R p0) : R (State.endSession p0 p1) := by
  unfold State.endSession
  split
  · exact hp0
  · extract_lets +onlyGivenNames -underBinder x0
    have hx0 : R x0 := by
      unfold x0
      split
      · exact closed_abandon C hp0
      · exact hp0
    try clear_value x0
    extract_lets +onlyGivenNames -underBinder x1
    try clear_value x1
    exact closed_orphan C (C.same_ hx0)

theorem closed_endSessions {p0} {p1} (hp0 : R p0) : R (State.endSessions p0 p1) := by
  unfold State.endSessions
  exact R_foldl hp0 (fun _ _ ht0 => closed_endSession C ht0)

theorem closed_sessionExpires {p0} {p1} (hp0 : R p0) : R (State.sessionExpires p0 p1) := by
  unfold State.sessionExpires
  exact R_ite (closed_access C (closed_bumpSat C (closed_endSession C hp0))) hp0

theorem closed_putSession {p0} {p1} (hp0 : R p0) : R (State.putSession p0 p1) := by
  unfold State.putSession
  exact C.same_ hp0

theorem closed_segmentExpires {p0} {p1} (hp0 : R p0) : R (State.segmentExpires p0 p1) := by
  unfold State.segmentExpires
  split
  · split
    · exact R_ite (closed_access C (closed_putSession C (closed_abandon C hp0))) hp0
    · exact hp0
  · exact hp0

theorem closed_request {p0} {p1} {p2} {p3} (hp0 : R p0) (hp3 : ∀ z0 z1, R z0 → R (p3 z0 z1).state) : R (State.request p0 p1 p2 p3) := by
  unfold State.request
  refine closed_deliver C hp0 (fun _ hy0 => ?_)
  extract_lets +onlyGivenNames -underBinder x1
  try clear_value x1
  extract_lets +onlyGivenNames -underBinder x2
  try clear_value x2
  split
  · exact closed_respond C hy0
  · refine R_ite ?_ ?_
    · extract_lets +onlyGivenNames -underBinder x3
      have hx3 : R x3 := closed_putSession C (closed_retryTransient C (closed_bump C hy0))
      try clear_value x3
      split
      · exact closed_respond C hx3
      · exact hx3
    · refine R_ite ?_ (closed_respond C (closed_access C hy0))
      extract_lets +onlyGivenNames -underBinder x4
      have hx4 : R x4.state := hp3 _ _ (closed_putSession C hy0)
      try clear_value x4
      refine R_ite (closed_respond C (closed_access C hy0)) ?_
      extract_lets +onlyGivenNames -underBinder x5
      try clear_value x5
      extract_lets +onlyGivenNames -underBinder x6
      have hx6 : R x6 := hx4
      try clear_value x6
      extract_lets +onlyGivenNames -underBinder x7
      have hx7 : R x7 := C.same_ hx6
      try clear_value x7
      exact closed_respond C hx7

theorem closed_openSession {p0} {p1} {p2} {p3} {p4} {p5} {p6} {p7} (hp0 : R p0) : R (State.openSession p0 p1 p2 p3 p4 p5 p6 p7) := by
  unfold State.openSession
  extract_lets +onlyGivenNames -underBinder x0
  try clear_value x0
  exact C.same_ hp0

theorem closed_openRequest {p0} {p1} {p2} {p3} {p4} (hp0 : R p0) : R (State.openRequest p0 p1 p2 p3 p4) := by
  unfold State.openRequest
  refine closed_deliver C hp0 (fun _ hy0 => ?_)
  extract_lets +onlyGivenNames -underBinder x1
  have hx1 : R x1 := by
    unfold x1
    split
    · exact closed_endSession C hy0
    · exact hy0
  try clear_value x1
  extract_lets +onlyGivenNames -underBinder x2
  try clear_value x2
  extract_lets +onlyGivenNames -underBinder x3
  try clear_value x3
  extract_lets +onlyGivenNames -underBinder x4
  try clear_value x4
  extract_lets +onlyGivenNames -underBinder x5
  have hx5 : R x5 := R_ite (closed_access C hx1) hx1
  try clear_value x5
  extract_lets +onlyGivenNames -underBinder x6
  try clear_value x6
  extract_lets +onlyGivenNames -underBinder x7
  have hx7 : R x7 := R_ite (closed_openSession C hx5) hx5
  try clear_value x7
  exact closed_respond C hx7

theorem closed_noTime {p0} (hp0 : R p0) : R (State.noTime p0) := by
  unfold State.noTime
  exact R_ite hp0 (closed_access C hp0)

theorem closed_authFails {p0} (hp0 : R p0) : R (State.authFails p0) := by
  unfold State.authFails
  exact closed_access C (closed_bumpSat C hp0)

theorem closed_authChallenge {p0} {p1} (hp0 : R p0) : R (State.authChallenge p0 p1).state := by
  unfold State.authChallenge
  extract_lets +onlyGivenNames -underBinder x0
  try clear_value x0
  extract_lets +onlyGivenNames -underBinder x1
  have hx1 : R x1 := C.free_ hp0
  try clear_value x1
  dsimp only
  exact closed_putSession C hx1

theorem closed_authResponse {p0} {p1} {p2} {p3} {p4} (hp0 : R p0) : R (State.authResponse p0 p1 p2 p3 p4).state := by
  unfold State.authResponse
  extract_lets +onlyGivenNames -underBinder x0
  have hx0 : R x0 := closed_putSession C hp0
  try clear_value x0
  refine R_ite_state hp0 ?_
  refine R_ite_state ?_ ?_
  · dsimp only
    exact closed_putSession C hp0
  · extract_lets +onlyGivenNames -underBinder x1
    have hx1 : R x1 := closed_noTime C hx0
    try clear_value x1
    split
    · refine R_ite_state ?_ ?_
      · dsimp only
        exact closed_putSession C hx1
      · dsimp only
        exact closed_authFails C hx1
    · dsimp only
      exact closed_authFails C hx1

theorem closed_clientHello {p0} {p1} {p2} {p3} (hp0 : R p0) : R (State.clientHello p0 p1 p2 p3) := by
  unfold State.clientHello
  refine R_ite ?_ (R_ite (closed_netHeard C hp0) (closed_fnpUnheard C hp0))
  extract_lets +onlyGivenNames -underBinder x0
  have hx0 : R x0 := closed_netHeard C hp0
  try clear_value x0
  exact C.same_ hx0

theorem closed_handshake {p0} {p1} {p2} {p3} (hp0 : R p0) : R (State.handshake p0 p1 p2 p3) := by
  unfold State.handshake
  refine R_ite hp0 ?_
  extract_lets +onlyGivenNames -underBinder x0
  have hx0 : R x0 := closed_noTime C hp0
  try clear_value x0
  split
  · exact C.same_ hx0
  · exact closed_authFails C (C.same_ hx0)

theorem closed_handshakeTimesOut {p0} {p1} (hp0 : R p0) : R (State.handshakeTimesOut p0 p1) := by
  unfold State.handshakeTimesOut
  exact C.same_ hp0

theorem closed_dtlsClose {p0} {p1} (hp0 : R p0) : R (State.dtlsClose p0 p1) := by
  unfold State.dtlsClose
  refine R_ite ?_ hp0
  extract_lets +onlyGivenNames -underBinder x0
  have hx0 : R x0 := closed_endSessions C hp0
  try clear_value x0
  exact C.same_ hx0

theorem closed_frameDiscarded {p0} (hp0 : R p0) : R (State.frameDiscarded p0) := by
  unfold State.frameDiscarded
  exact closed_bump C hp0

theorem closed_groupRequest {p0} {p1} {p2} {p3} (hp0 : R p0) (hp3 : ∀ z0, R z0 → R (p3 z0).1) : R (State.groupRequest p0 p1 p2 p3) := by
  unfold State.groupRequest
  refine R_ite ?_ ?_
  · refine closed_deliver C hp0 (fun _ hy0 => ?_)
    extract_lets +onlyGivenNames -underBinder x1
    have hx1 : R x1.1 := hp3 _ hy0
    try clear_value x1
    extract_lets +onlyGivenNames -underBinder x2
    have hx2 : R x2 := hx1
    try clear_value x2
    exact C.same_ hx2
  · split
    · exact R_ite (closed_frameDiscarded C (closed_netHeard C hp0)) (closed_fnpUnheard C hp0)
    · exact hp0

theorem closed_groupAnswer {p0} (hp0 : R p0) : R (State.groupAnswer p0) := by
  unfold State.groupAnswer
  split
  · exact hp0
  · exact R_ite (closed_respond C (C.same_ hp0)) hp0

theorem closed_mailboxAck {p0} {p1} (hp0 : R p0) : R (State.mailboxAck p0 p1) := by
  unfold State.mailboxAck
  exact R_ite (C.same_ hp0) hp0

theorem closed_mailboxStatus {p0} {p1} {p2} (hp0 : R p0) : R (State.mailboxStatus p0 p1 p2) := by
  unfold State.mailboxStatus
  refine R_ite ?_ hp0
  extract_lets +onlyGivenNames -underBinder x0
  try clear_value x0
  exact C.same_ hp0

theorem closed_mailboxesEnd {p0} (hp0 : R p0) : R (State.mailboxesEnd p0) := by
  unfold State.mailboxesEnd
  extract_lets +onlyGivenNames -underBinder x0
  have hx0 : R x0 := closed_endSessions C hp0
  try clear_value x0
  exact C.same_ hx0

end Sys2Proof.Laws
end

