-- ==== Sys2Proof/Laws/ClosedFsm.lean ====
section
/-! SUPPORT. What a closed property of states keeps through the operations of Machine/Fsm.lean. -/

namespace Sys2Proof.Laws

open Sys2Proof.Machine

set_option linter.unusedSectionVars false
set_option Elab.async false

variable {R : State → Prop} (C : Closed R)
include C

theorem closed_retireNow {p0} (hp0 : R p0) : R (State.retireNow p0) := by
  unfold State.retireNow
  exact closed_mreInvalidated C (closed_ledgerInvalidated C (closed_hrbInvalidated C (closed_dmcRetire C hp0)))

theorem closed_downstream {p0} {p1} {p2} (hp0 : R p0) : R (State.downstream p0 p1 p2) := by
  unfold State.downstream
  extract_lets +onlyGivenNames -underBinder x0
  have hx0 : R x0 := R_ite (closed_retireNow C hp0) hp0
  try clear_value x0
  extract_lets +onlyGivenNames -underBinder x1
  have hx1 : R x1.1 := closed_mreLine C hx0
  try clear_value x1
  extract_lets +onlyGivenNames -underBinder x2
  have hx2 : R x2 := by
    unfold x2
    split
    · exact closed_segDeviation C hx1
    · exact hx1
  try clear_value x2
  extract_lets +onlyGivenNames -underBinder x3
  have hx3 : R x3 := closed_hrbLine C (closed_segStitched C hx2)
  try clear_value x3
  exact closed_bstStep C (closed_pfcDrain C (closed_pfcHeader C hx3))

theorem closed_beginLine {p0} {p1} {p2} (hp0 : R p0) : R (State.beginLine p0 p1 p2) := by
  unfold State.beginLine
  exact R_ite hp0 (closed_openLine C (R_ite (closed_geoBoundary C hp0) hp0))

theorem closed_formAndPass {p0} {p1} {p2} (hp0 : R p0) : R (State.formAndPass p0 p1 p2) := by
  unfold State.formAndPass
  extract_lets +onlyGivenNames -underBinder x0
  have hx0 : R x0.1 := closed_formLine C (closed_beginLine C hp0)
  try clear_value x0
  exact closed_downstream C hx0

theorem closed_stitchReady {p0} (hp0 : R p0) : R (State.stitchReady p0) := by
  unfold State.stitchReady
  split
  · refine R_ite ?_ hp0
    extract_lets +onlyGivenNames -underBinder x0
    have hx0 : R x0 := closed_beginLine C hp0
    try clear_value x0
    exact R_ite (closed_formAndPass C hx0) hx0
  · exact hp0

theorem closed_stitchWaited {p0} (hp0 : R p0) : R (State.stitchWaited p0) := by
  unfold State.stitchWaited
  split
  · exact R_ite (closed_formAndPass C hp0) hp0
  · exact hp0

theorem closed_stxCut {p0} {p1} (hp0 : R p0) : R (State.stxCut p0 p1) := by
  induction p1 generalizing p0 with
  | zero => exact hp0
  | succ n ih =>
    unfold State.stxCut
    split
    · exact ih (closed_formAndPass C hp0)
    · exact hp0

theorem closed_mreCut {p0} (hp0 : R p0) : R (State.mreCut p0) := by
  unfold State.mreCut
  exact R_foldl hp0 (fun _ _ ht0 => closed_segDeviation C ht0)

theorem closed_queueTruncate {p0} {p1} (hp0 : R p0) : R (State.queueTruncate p0 p1) := by
  unfold State.queueTruncate
  extract_lets +onlyGivenNames -underBinder x0
  try clear_value x0
  exact R_ite hp0 (closed_leftLess C (closed_losePackets C (closed_putPackets C (closed_setQueue C hp0))))

theorem closed_stops {p0} {p1} (hp0 : R p0) : R (State.stops p0 p1) := by
  unfold State.stops
  split
  · exact closed_portStops C hp0
  · exact R_ite (closed_iplStops C hp0) hp0
  · exact closed_stxStops C hp0
  · exact closed_reclaimPartials C (closed_braidStops C hp0)
  · exact closed_mreStops C hp0
  · exact closed_segStops C hp0
  · exact closed_pfcDrain C (closed_pfcStops C hp0)
  · exact closed_hrbStops C hp0
  · exact closed_dmaStops C hp0
  · exact closed_evfStops C hp0
  · exact closed_tbuStops C hp0
  · exact closed_calStops C hp0
  · exact closed_bstStops C hp0
  iterate 12 exact hp0

theorem closed_truncate {p0} {p1} (hp0 : R p0) : R (State.truncate p0 p1) := by
  unfold State.truncate
  split
  · exact closed_dropProbes C hp0
  · exact closed_pscDiscard C hp0
  · exact closed_evfTruncate C hp0
  · exact closed_portTruncate C hp0
  · exact R_ite (closed_iplTruncate C hp0) hp0
  · exact closed_stxCut C hp0
  · exact closed_reclaimPartials C (closed_braidStops C hp0)
  · exact closed_mreCut C hp0
  · exact closed_cropsUnpacked C (closed_cdeTruncate C hp0)
  · exact closed_segTruncate C hp0
  · exact closed_clsTruncate C hp0
  · exact closed_pfcTruncate C hp0
  · exact closed_hrbTruncate C hp0
  · exact closed_queueTruncate C hp0
  · exact closed_queueTruncate C hp0
  · exact closed_queueTruncate C hp0
  · exact closed_dmaTruncate C hp0
  · exact hp0
  · exact closed_dmcTruncate C hp0
  · exact closed_fnpEnds C hp0
  · exact closed_endPulses C (closed_tbuStops C hp0)
  · exact closed_calTruncate C hp0
  · exact closed_bstTruncate C hp0
  · exact closed_monTruncate C hp0
  · exact hp0

theorem closed_ends {p0} {p1} (hp0 : R p0) : R (State.ends p0 p1) := by
  unfold State.ends
  split
  · exact closed_mreEnds C hp0
  · exact closed_fnpEnds C hp0
  · exact closed_outputsRest C hp0
  iterate 22 exact hp0

theorem closed_arms {p0} {p1} (hp0 : R p0) : R (State.arms p0 p1) := by
  unfold State.arms
  split
  · exact R_ite (closed_iplArms C hp0) hp0
  · exact closed_pfcArms C hp0
  · exact closed_dmcArms C hp0
  · exact R_ite (closed_startSweep C (C.same_ hp0)) hp0
  · exact hp0

theorem closed_refuse {p0} {p1} {p2} (hp0 : R p0) : R (State.refuse p0 p1 p2).1 := by
  unfold State.refuse
  dsimp only
  exact closed_fnFlag C hp0

theorem closed_armCommand {p0} {p1} {p2} (hp0 : R p0) : R (State.armCommand p0 p1 p2).1 := by
  unfold State.armCommand
  refine R_ite_1 ?_ ?_
  · exact closed_refuse C hp0
  · refine R_ite_1 ?_ ?_
    · exact closed_refuse C hp0
    · split
      · refine R_ite_1 ?_ ?_
        · dsimp only
          exact closed_enter C (closed_arms C hp0)
        · exact closed_refuse C (closed_retryLasting C (closed_dmcFlag C (closed_bumpSat C hp0)))
      · dsimp only
        exact closed_enter C (closed_arms C hp0)

theorem closed_startCommand {p0} {p1} (hp0 : R p0) : R (State.startCommand p0 p1).1 := by
  unfold State.startCommand
  refine R_ite_1 ?_ ?_
  · dsimp only
    exact closed_fnFlag C hp0
  · exact closed_refuse C hp0

theorem closed_starts {p0} {p1} {p2} (hp0 : R p0) : R (State.starts p0 p1 p2) := by
  unfold State.starts
  split
  · exact closed_wpuStarts C hp0
  · exact closed_portStarts C hp0
  · exact R_ite (closed_pipeBegins C hp0) hp0
  · exact closed_stxStarts C hp0
  · exact closed_braidTrain C hp0
  · exact closed_mreStarts C hp0
  · exact closed_segStarts C hp0
  · exact closed_clsStarts C hp0
  · exact closed_pfcStarts C hp0
  · exact closed_hrbStarts C hp0
  · exact closed_fnpStarts C hp0
  · exact closed_tbuStarts C hp0
  · exact closed_bstStarts C hp0
  iterate 12 exact hp0

theorem closed_startPoint {p0} {p1} {p2} (hp0 : R p0) : R (State.startPoint p0 p1 p2) := by
  unfold State.startPoint
  exact R_ite (closed_bstStep C (closed_starts C (closed_enter C (closed_clearBit C hp0)))) hp0

theorem closed_enterStopped {p0} {p1} (hp0 : R p0) : R (State.enterStopped p0 p1) := by
  unfold State.enterStopped
  exact closed_bstStep C (closed_enter C (closed_ends C hp0))

theorem closed_disarm {p0} {p1} (hp0 : R p0) : R (State.disarm p0 p1) := by
  unfold State.disarm
  exact closed_bstStep C (closed_enter C (closed_clearBit C hp0))

theorem closed_disarmCommand {p0} {p1} (hp0 : R p0) : R (State.disarmCommand p0 p1).1 := by
  unfold State.disarmCommand
  refine R_ite_1 ?_ ?_
  · dsimp only
    exact closed_disarm C hp0
  · exact closed_refuse C hp0

theorem closed_stopCommand {p0} {p1} (hp0 : R p0) : R (State.stopCommand p0 p1).1 := by
  unfold State.stopCommand
  split
  · dsimp only
    exact closed_disarm C hp0
  · dsimp only
    exact closed_bstStep C (closed_stops C (closed_enter C hp0))
  · exact hp0
  · exact closed_refuse C hp0
  · exact closed_refuse C hp0

theorem closed_cutOff {p0} {p1} (hp0 : R p0) : R (State.cutOff p0 p1) := by
  unfold State.cutOff
  extract_lets +onlyGivenNames -underBinder x0
  have hx0 : R x0 := closed_truncate C hp0
  try clear_value x0
  exact closed_fnFlag C (C.same_ hx0)

theorem closed_abortCommand {p0} {p1} (hp0 : R p0) : R (State.abortCommand p0 p1).1 := by
  unfold State.abortCommand
  split
  · dsimp only
    exact closed_bstStep C (closed_cutOff C (closed_stops C (closed_enter C hp0)))
  · dsimp only
    exact R_ite (closed_fnFlag C hp0) (closed_bstStep C (closed_cutOff C hp0))
  · exact closed_refuse C hp0
  · exact closed_refuse C hp0
  · exact closed_refuse C hp0

theorem closed_drainComplete {p0} {p1} (hp0 : R p0) : R (State.drainComplete p0 p1) := by
  unfold State.drainComplete
  extract_lets +onlyGivenNames -underBinder x0
  have hx0 : R x0 := R_ite (closed_drainJoins C hp0) hp0
  try clear_value x0
  exact R_ite (closed_enterStopped C hx0) hx0

theorem closed_drainTimesOut {p0} {p1} (hp0 : R p0) : R (State.drainTimesOut p0 p1) := by
  unfold State.drainTimesOut
  exact R_ite (closed_enterStopped C (R_ite hp0 (closed_cutOff C hp0))) hp0

theorem closed_clearCommand {p0} {p1} (hp0 : R p0) : R (State.clearCommand p0 p1).1 := by
  unfold State.clearCommand
  extract_lets +onlyGivenNames -underBinder x0
  try clear_value x0
  refine R_ite_1 ?_ ?_
  · exact closed_refuse C hp0
  · extract_lets +onlyGivenNames -underBinder x1
    have hx1 : R x1 := closed_enter C hp0
    try clear_value x1
    split
    · dsimp only
      exact closed_clearWindows C hx1
    · dsimp only
      exact R_ite (closed_bstStep C (closed_setSpare C hx1)) (closed_bstStep C hx1)
    · exact hx1

theorem closed_spareControl {p0} {p1} (hp0 : R p0) : R (State.spareControl p0 p1).1 := by
  unfold State.spareControl
  refine R_ite_1 ?_ ?_
  · exact closed_clearCommand C hp0
  · refine R_ite_1 ?_ ?_
    · refine R_ite_1 hp0 ?_
      extract_lets +onlyGivenNames -underBinder x0
      have hx0 : R x0.1 := closed_releaseSpare C hp0
      try clear_value x0
      refine R_ite_1 hx0 ?_
      exact closed_refuse C hp0
    · exact closed_refuse C hp0

theorem closed_control {p0} {p1} {p2} {p3} {p4} (hp0 : R p0) : R (State.control p0 p1 p2 p3 p4).1 := by
  unfold State.control
  refine R_ite_1 hp0 ?_
  refine R_ite_1 ?_ ?_
  · exact closed_refuse C hp0
  · refine R_ite_1 ?_ ?_
    · exact closed_spareControl C hp0
    · refine R_ite_1 ?_ ?_
      · exact closed_armCommand C hp0
      · refine R_ite_1 ?_ ?_
        · exact closed_startCommand C hp0
        · refine R_ite_1 ?_ ?_
          · exact closed_stopCommand C hp0
          · refine R_ite_1 ?_ ?_
            · exact closed_abortCommand C hp0
            · refine R_ite_1 ?_ ?_
              · exact closed_disarmCommand C hp0
              · exact closed_clearCommand C hp0

theorem closed_faults {p0} {p1} {p2} (hp0 : R p0) : R (State.faults p0 p1 p2) := by
  unfold State.faults
  refine R_ite hp0 ?_
  extract_lets +onlyGivenNames -underBinder x0
  try clear_value x0
  extract_lets +onlyGivenNames -underBinder x1
  have hx1 : R x1 := by
    refine R_ite hp0 ?_
    split
    · refine R_ite ?_ (R_ite (closed_spareLost C hp0) hp0)
      extract_lets +onlyGivenNames -underBinder x2
      exact R_ite (closed_iplFaults C hp0) hp0
    · exact closed_portTruncate C hp0
    · exact R_ite (closed_truncate C hp0) hp0
  try clear_value x1
  extract_lets +onlyGivenNames -underBinder x3
  have hx3 : R x3 := R_ite (closed_ends C hx1) hx1
  try clear_value x3
  extract_lets +onlyGivenNames -underBinder x4
  have hx4 : R x4 := closed_enterFaulted C hx3
  try clear_value x4
  extract_lets +onlyGivenNames -underBinder x5
  have hx5 : R x5 := R_ite (closed_setSync C hx4) hx4
  try clear_value x5
  exact closed_bstStep C hx5

theorem closed_faultsAt {p0} {p1} {p2} {p3} {p4} {p5} (hp0 : R p0) : R (State.faultsAt p0 p1 p2 p3 p4 p5) := by
  unfold State.faultsAt
  exact R_ite hp0 (closed_wr C (closed_faults C hp0))

theorem closed_loseBlobs {p0} {p1} (hp0 : R p0) : R (State.loseBlobs p0 p1) := by
  unfold State.loseBlobs
  extract_lets +onlyGivenNames -underBinder x0
  try clear_value x0
  extract_lets +onlyGivenNames -underBinder x1
  try clear_value x1
  extract_lets +onlyGivenNames -underBinder x2
  have hx2 : R x2 := C.same_ hp0
  try clear_value x2
  exact closed_bump C hx2

theorem closed_hitWord {p0} {p1} {p2} {p3} (hp0 : R p0) : R (State.hitWord p0 p1 p2 p3) := by
  unfold State.hitWord
  exact closed_setQueue C hp0

theorem closed_uncorrectable {p0} {p1} {p2} (hp0 : R p0) : R (State.uncorrectable p0 p1 p2) := by
  unfold State.uncorrectable
  split
  · exact R_ite hp0 (closed_setBit C (closed_faults C hp0))
  · exact closed_faults C hp0
  · exact closed_autoRepair C (closed_faultsAt C hp0)
  · exact closed_autoRepair C (closed_faultsAt C hp0)
  · exact closed_faultsAt C hp0
  · exact closed_faults C hp0
  · exact closed_faultsAt C hp0
  · exact closed_faultsAt C hp0
  · exact closed_faultsAt C hp0
  · exact R_ite hp0 (closed_bstStep C (closed_autoRepair C (closed_engineFaults C hp0)))
  · exact R_ite hp0 (closed_faultsAt C (closed_loseBlobs C hp0))
  iterate 4 exact closed_faultsAt C hp0
  · exact closed_hitWord C hp0
  · exact closed_faultsAt C hp0
  · exact closed_faultsAt C hp0
  · exact closed_faultsAt C hp0
  · exact R_ite hp0 (closed_setBit C (closed_faultsAt C hp0))
  · exact closed_faults C hp0
  · exact closed_faults C hp0
  · exact closed_faults C hp0
  · exact closed_faultsAt C hp0
  · exact closed_faultsAt C hp0
  · exact R_ite hp0 (closed_setBit C (closed_faults C hp0))
  · exact C.same_ hp0

theorem closed_corrected {p0} {p1} (hp0 : R p0) : R (State.corrected p0 p1) := by
  unfold State.corrected
  split
  · exact closed_setBit C (closed_bumpSat C hp0)
  · exact closed_setBit C (closed_bumpSat C hp0)
  · exact closed_setBit C (closed_bumpSat C hp0)
  · exact closed_setBit C hp0
  iterate 9 exact closed_setBit C (closed_bumpSat C hp0)
  · exact closed_bumpSat C hp0
  · exact closed_setBit C (closed_bumpSat C hp0)
  · exact closed_dmcFlag C (closed_bumpSat C hp0)
  · exact closed_setBit C (closed_bumpSat C hp0)
  · exact closed_setBit C (closed_bumpSat C hp0)
  · exact closed_setBit C (closed_bumpSat C hp0)
  iterate 8 exact hp0

end Sys2Proof.Laws
end

