-- ==== Sys2Proof/Laws/ClosedLife.lean ====
section
/-! SUPPORT. What a closed property of states keeps through the operations of Machine/Life.lean. -/

namespace Sys2Proof.Laws

open Sys2Proof.Machine

set_option linter.unusedSectionVars false
set_option Elab.async false

variable {R : State → Prop} (C : Closed R)
include C

theorem closed_leaveService {p0} {p1} (hp0 : R p0) : R (State.leaveService p0 p1) := by
  unfold State.leaveService
  exact closed_endSessions C (closed_wr C hp0)

theorem closed_lifeRefused {p0} {p1} (hp0 : R p0) : R (State.lifeRefused p0 p1).1 := by
  unfold State.lifeRefused
  dsimp only
  exact closed_setBit C hp0

theorem closed_lifeMoved {p0} (hp0 : R p0) : R (State.lifeMoved p0) := by
  unfold State.lifeMoved
  exact closed_bumpSat C hp0

theorem closed_dropAnchors {p0} (hp0 : R p0) : R (State.dropAnchors p0) := by
  unfold State.dropAnchors
  exact R_foldl hp0 (fun _ _ ht0 => closed_wro C ht0)

theorem closed_provision {p0} {p1} {p2} (hp0 : R p0) : R (State.provision p0 p1 p2).1 := by
  unfold State.provision
  extract_lets +onlyGivenNames -underBinder x0
  try clear_value x0
  refine R_ite_1 ?_ ?_
  · exact closed_lifeRefused C hp0
  · refine R_ite_1 ?_ ?_
    · exact closed_lifeRefused C hp0
    · refine R_ite_1 ?_ ?_
      · exact closed_lifeRefused C hp0
      · refine R_ite_1 ?_ ?_
        · exact closed_lifeRefused C hp0
        · refine R_ite_1 ?_ ?_
          · dsimp only
            exact closed_lifeMoved C (closed_wr C (closed_wro C (closed_takeFree C hp0)))
          · dsimp only
            exact closed_takeFree C hp0

theorem closed_enterService {p0} {p1} {p2} (hp0 : R p0) : R (State.enterService p0 p1 p2).1 := by
  unfold State.enterService
  refine R_ite_1 ?_ ?_
  · exact closed_lifeRefused C hp0
  · refine R_ite_1 ?_ ?_
    · exact closed_lifeRefused C hp0
    · refine R_ite_1 ?_ ?_
      · exact closed_lifeRefused C hp0
      · dsimp only
        exact closed_lifeMoved C (closed_wr C (closed_wr C hp0))

theorem closed_leaveServiceCommand {p0} {p1} (hp0 : R p0) : R (State.leaveServiceCommand p0 p1).1 := by
  unfold State.leaveServiceCommand
  refine R_ite_1 ?_ ?_
  · exact closed_lifeRefused C hp0
  · refine R_ite_1 ?_ ?_
    · exact closed_lifeRefused C hp0
    · refine R_ite_1 ?_ ?_
      · exact closed_lifeRefused C hp0
      · dsimp only
        exact closed_lifeMoved C (closed_leaveService C hp0)

theorem closed_decommission {p0} {p1} {p2} (hp0 : R p0) : R (State.decommission p0 p1 p2).1 := by
  unfold State.decommission
  refine R_ite_1 ?_ ?_
  · exact closed_lifeRefused C hp0
  · refine R_ite_1 ?_ ?_
    · exact closed_lifeRefused C hp0
    · refine R_ite_1 ?_ ?_
      · exact closed_lifeRefused C hp0
      · refine R_ite_1 ?_ ?_
        · exact closed_lifeRefused C hp0
        · dsimp only
          exact closed_lifeMoved C (closed_leaveService C (closed_dropAnchors C hp0))

theorem closed_lifeCommand {p0} {p1} {p2} (hp0 : R p0) : R (State.lifeCommand p0 p1 p2).1 := by
  unfold State.lifeCommand
  refine R_ite_1 ?_ ?_
  · exact closed_provision C hp0
  · refine R_ite_1 ?_ ?_
    · exact closed_enterService C hp0
    · refine R_ite_1 ?_ ?_
      · exact closed_leaveServiceCommand C hp0
      · refine R_ite_1 ?_ ?_
        · exact closed_decommission C hp0
        · exact closed_lifeRefused C hp0

theorem closed_serviceIdle {p0} (hp0 : R p0) : R (State.serviceIdle p0) := by
  unfold State.serviceIdle
  exact R_ite (closed_setBit C (closed_leaveService C hp0)) hp0

theorem closed_raiseSecurity {p0} {p1} (hp0 : R p0) : R (State.raiseSecurity p0 p1).1 := by
  unfold State.raiseSecurity
  extract_lets +onlyGivenNames -underBinder x0
  try clear_value x0
  refine R_ite_1 hp0 ?_
  refine R_ite_1 hp0 ?_
  refine R_ite_1 hp0 ?_
  dsimp only
  exact closed_wr C hp0

end Sys2Proof.Laws
end

