-- ==== Sys2Proof/Laws/ClosedPwr.lean ====
section
/-! SUPPORT. What a closed property of states keeps through the operations of Machine/Pwr.lean. -/

namespace Sys2Proof.Laws

open Sys2Proof.Machine

set_option linter.unusedSectionVars false
set_option Elab.async false

variable {R : State → Prop} (C : Closed R)
include C

theorem closed_powerState {p0} {p1} (hp0 : R p0) : R (State.powerState p0 p1) := by
  unfold State.powerState
  exact closed_setBit C (closed_wr C (closed_serialForget C hp0))

theorem closed_startFieldPort {p0} {p1} (hp0 : R p0) : R (State.startFieldPort p0 p1) := by
  unfold State.startFieldPort
  exact R_ite (closed_starts C (closed_enter C hp0)) hp0

theorem closed_reloadPages {p0} (hp0 : R p0) : R (State.reloadPages p0) := by
  unfold State.reloadPages
  extract_lets +onlyGivenNames -underBinder x0
  try clear_value x0
  exact closed_setPages C (C.same_ hp0)

theorem closed_loseMemory {p0} (hp0 : R p0) : R (State.loseMemory p0) := by
  unfold State.loseMemory
  exact C.same_ (C.dramClear hp0)

theorem closed_sweepIsDue {p0} (hp0 : R p0) : R (State.sweepIsDue p0) := by
  unfold State.sweepIsDue
  exact C.same_ hp0

theorem closed_enterReady {p0} {p1} (hp0 : R p0) : R (State.enterReady p0 p1) := by
  unfold State.enterReady
  extract_lets +onlyGivenNames -underBinder x0
  have hx0 : R x0 := closed_wr C (closed_putBit C (closed_powerState C hp0))
  try clear_value x0
  extract_lets +onlyGivenNames -underBinder x1
  have hx1 : R x1 := closed_wpuReady C (closed_outputsRest C (closed_reloadPages C (closed_dmcEnterReady C (closed_loseMemory C hx0))))
  try clear_value x1
  exact closed_startFieldPort C (closed_startFieldPort C (closed_sweepIsDue C (closed_discoveryBegins C hx1)))

theorem closed_stopFieldPort {p0} {p1} (hp0 : R p0) : R (State.stopFieldPort p0 p1) := by
  unfold State.stopFieldPort
  exact R_ite hp0 (closed_enterStopped C hp0)

theorem closed_enterStandby {p0} (hp0 : R p0) : R (State.enterStandby p0) := by
  unfold State.enterStandby
  extract_lets +onlyGivenNames -underBinder x0
  have hx0 : R x0 := closed_stopFieldPort C (closed_stopFieldPort C (closed_powerState C (closed_linksStop C hp0)))
  try clear_value x0
  extract_lets +onlyGivenNames -underBinder x1
  have hx1 : R x1 := closed_endSessions C hx0
  try clear_value x1
  exact C.same_ hx1

theorem closed_powerCommand {p0} {p1} {p2} (hp0 : R p0) : R (State.powerCommand p0 p1 p2).1 := by
  unfold State.powerCommand
  extract_lets +onlyGivenNames -underBinder x0
  try clear_value x0
  extract_lets +onlyGivenNames -underBinder x1
  try clear_value x1
  refine R_ite_1 hp0 ?_
  refine R_ite_1 hp0 ?_
  refine R_ite_1 hp0 ?_
  extract_lets +onlyGivenNames -underBinder x2
  try clear_value x2
  extract_lets +onlyGivenNames -underBinder x3
  have hx3 : R x3 := C.same_ hp0
  try clear_value x3
  refine R_ite_1 ?_ ?_
  · dsimp only
    exact closed_enterStandby C hx3
  · refine R_ite_1 ?_ ?_
    · dsimp only
      exact closed_enterReady C (closed_wr C hx3)
    · refine R_ite_1 ?_ ?_
      · dsimp only
        exact closed_powerState C hx3
      · refine R_ite_1 ?_ ?_
        · dsimp only
          exact closed_powerState C hx3
        · refine R_ite_1 ?_ ?_
          · dsimp only
            exact C.same_ hx3
          · dsimp only
            exact C.same_ hx3

theorem closed_transitionComplete {p0} {p1} (hp0 : R p0) : R (State.transitionComplete p0 p1) := by
  unfold State.transitionComplete
  exact R_ite (closed_wr C (closed_clearBit C hp0)) hp0

theorem closed_cleared {p0} (hp0 : R p0) : R (State.cleared p0) := by
  unfold State.cleared
  extract_lets +onlyGivenNames -underBinder x0 x1 x2 x3 x4 x5
  have hx5 : R x5 := C.same_ (C.fresh hp0)
  try clear_value x5
  extract_lets +onlyGivenNames -underBinder x6
  have hx6 : R x6 := R_foldl (closed_clearBit C hx5) (fun _ _ ht7 => closed_wr C ht7)
  try clear_value x6
  extract_lets +onlyGivenNames -underBinder x8
  have hx8 : R x8 := R_foldl hx6 (fun _ _ ht9 => closed_wro C ht9)
  try clear_value x8
  exact R_ite (closed_wr C hx8) hx8

theorem closed_tryBoot {p0} {p1} (hp0 : R p0) : R (State.tryBoot p0 p1).1 := by
  unfold State.tryBoot
  split
  · exact hp0
  · refine R_ite_1 ?_ ?_
    · exact closed_tryBoot hp0
    · refine R_ite_1 ?_ ?_
      · dsimp only
        exact closed_rootSkipped C hp0
      · refine closed_tryBoot ?_
        refine closed_setBit C ?_
        extract_lets +onlyGivenNames -underBinder x0
        have hx0 : R x0 := closed_rootSkipped C hp0
        try clear_value x0
        exact C.same_ hx0

theorem closed_bootSlot {p0} (hp0 : R p0) : R (State.bootSlot p0) := by
  unfold State.bootSlot
  extract_lets +onlyGivenNames -underBinder x0
  try clear_value x0
  extract_lets +onlyGivenNames -underBinder x1
  have hx1 : R x1.1 := by
    refine R_ite_1 ?_ ?_
    · exact closed_tryBoot C (closed_setBit C (C.same_ hp0))
    · exact closed_tryBoot C hp0
  try clear_value x1
  split
  · exact closed_wro C (closed_wr C hx1)
  · exact closed_setBit C hx1

theorem closed_boot {p0} {p1} (hp0 : R p0) : R (State.boot p0 p1) := by
  unfold State.boot
  exact closed_applyFuses C (closed_bootSlot C (closed_wr C (closed_cleared C hp0)))

theorem closed_afterRequest {p0} (hp0 : R p0) : R (State.afterRequest p0) := by
  unfold State.afterRequest
  exact R_ite (closed_boot C hp0) hp0

theorem closed_pinReset {p0} (hp0 : R p0) : R (State.pinReset p0) := by
  unfold State.pinReset
  exact closed_boot C hp0

theorem closed_bootTarget {p0} {p1} (hp0 : R p0) : R (State.bootTarget p0 p1) := by
  unfold State.bootTarget
  exact R_ite (closed_enterReady C (C.same_ hp0)) hp0

theorem closed_thermalTrip {p0} (hp0 : R p0) : R (State.thermalTrip p0) := by
  unfold State.thermalTrip
  exact C.same_ hp0

theorem closed_pcieDown {p0} (hp0 : R p0) : R (State.pcieDown p0) := by
  unfold State.pcieDown
  exact closed_mailboxesEnd C (closed_linkDown C hp0)

theorem closed_pcieReset {p0} (hp0 : R p0) : R (State.pcieReset p0) := by
  unfold State.pcieReset
  extract_lets +onlyGivenNames -underBinder x0
  have hx0 : R x0 := closed_setBusMaster C (closed_pcieDown C hp0)
  try clear_value x0
  exact C.same_ hx0

theorem closed_functionReset {p0} (hp0 : R p0) : R (State.functionReset p0) := by
  unfold State.functionReset
  exact closed_mailboxesEnd C (closed_clearRings C (closed_dmaTruncate C hp0))

theorem closed_restart {p0} {p1} {p2} (hp0 : R p0) : R (State.restart p0 p1 p2) := by
  unfold State.restart
  extract_lets +onlyGivenNames -underBinder x0
  have hx0 : R x0 := closed_endSessions C hp0
  try clear_value x0
  extract_lets +onlyGivenNames -underBinder x1
  try clear_value x1
  extract_lets +onlyGivenNames -underBinder x2
  have hx2 : R x2 := C.same_ hx0
  try clear_value x2
  exact closed_wr C (closed_bumpSat C hx2)

theorem closed_revert {p0} (hp0 : R p0) : R (State.revert p0) := by
  unfold State.revert
  extract_lets +onlyGivenNames -underBinder x0
  try clear_value x0
  exact closed_restart C (C.same_ hp0)

theorem closed_watchdog {p0} (hp0 : R p0) : R (State.watchdog p0) := by
  unfold State.watchdog
  refine R_ite hp0 ?_
  extract_lets +onlyGivenNames -underBinder x0
  have hx0 : R x0 := closed_restart C hp0
  try clear_value x0
  refine R_ite ?_ hx0
  extract_lets +onlyGivenNames -underBinder x1
  try clear_value x1
  exact R_ite (closed_setBit C (closed_revert C hx0)) (C.same_ hx0)

theorem closed_runSlot {p0} {p1} {p2} (hp0 : R p0) : R (State.runSlot p0 p1 p2) := by
  unfold State.runSlot
  exact closed_wro C (closed_wr C (closed_wr C hp0))

theorem closed_restarted {p0} {p1} (hp0 : R p0) : R (State.restarted p0 p1) := by
  unfold State.restarted
  refine R_ite hp0 ?_
  extract_lets +onlyGivenNames -underBinder x0
  try clear_value x0
  extract_lets +onlyGivenNames -underBinder x1
  have hx1 : R x1 := closed_wr C (C.same_ hp0)
  try clear_value x1
  extract_lets +onlyGivenNames -underBinder x2
  try clear_value x2
  exact R_ite (closed_runSlot C (C.same_ hx1)) (R_ite (closed_runSlot C hx1) hx1)

theorem closed_activateImage {p0} (hp0 : R p0) : R (State.activateImage p0).1 := by
  unfold State.activateImage
  refine R_ite_1 ?_ ?_
  · dsimp only
    exact C.same_ hp0
  · refine R_ite_1 hp0 ?_
    refine R_ite_1 hp0 ?_
    extract_lets +onlyGivenNames -underBinder x0
    try clear_value x0
    dsimp only
    exact closed_restart C (closed_wr C (C.same_ hp0))

theorem closed_commit {p0} (hp0 : R p0) : R (State.commit p0).1 := by
  unfold State.commit
  refine R_ite_1 hp0 ?_
  dsimp only
  exact closed_wr C (C.same_ hp0)

theorem closed_revertCommand {p0} (hp0 : R p0) : R (State.revertCommand p0).1 := by
  unfold State.revertCommand
  refine R_ite_1 hp0 ?_
  dsimp only
  exact closed_revert C hp0

theorem closed_updateCommand {p0} {p1} (hp0 : R p0) : R (State.updateCommand p0 p1).1 := by
  unfold State.updateCommand
  refine R_ite_1 ?_ ?_
  · exact closed_activateImage C hp0
  · refine R_ite_1 ?_ ?_
    · exact closed_commit C hp0
    · refine R_ite_1 ?_ hp0
      exact closed_revertCommand C hp0

theorem closed_failCut {p0} {p1} (hp0 : R p0) : R (State.failCut p0 p1) := by
  unfold State.failCut
  exact R_ite hp0 (R_ite (closed_cutOff C (closed_stops C (closed_enter C hp0))) (R_ite (closed_cutOff C hp0) hp0))

theorem closed_finalBlob {p0} {p1} (hp0 : R p0) : R (State.finalBlob p0 p1) := by
  unfold State.finalBlob
  extract_lets +onlyGivenNames -underBinder x0
  try clear_value x0
  refine R_ite hp0 ?_
  extract_lets +onlyGivenNames -underBinder x1
  try clear_value x1
  extract_lets +onlyGivenNames -underBinder x2
  try clear_value x2
  exact R_ite (closed_formCrumb C (R_ite hp0 (closed_bump C hp0))) (closed_bump C hp0)

theorem closed_pushCrumbs {p0} {p1} (hp0 : R p0) : R (State.pushCrumbs p0 p1) := by
  unfold State.pushCrumbs
  split
  · exact hp0
  · exact R_ite hp0 (closed_pushCrumbs (closed_pushCrumb C hp0))

theorem closed_finalCrumbs {p0} {p1} (hp0 : R p0) : R (State.finalCrumbs p0 p1) := by
  unfold State.finalCrumbs
  refine R_ite ?_ hp0
  extract_lets +onlyGivenNames -underBinder x0
  try clear_value x0
  extract_lets +onlyGivenNames -underBinder x1
  try clear_value x1
  extract_lets +onlyGivenNames -underBinder x2
  try clear_value x2
  extract_lets +onlyGivenNames -underBinder x3
  try clear_value x3
  extract_lets +onlyGivenNames -underBinder x4
  try clear_value x4
  extract_lets +onlyGivenNames -underBinder x5
  have hx5 : R x5 := C.same_ hp0
  try clear_value x5
  extract_lets +onlyGivenNames -underBinder x6
  have hx6 : R x6 := R_foldl hx5 (fun _ _ ht7 => closed_finalBlob C ht7)
  try clear_value x6
  extract_lets +onlyGivenNames -underBinder x8
  try clear_value x8
  extract_lets +onlyGivenNames -underBinder x9
  have hx9 : R x9 := closed_formCrumb C hx6
  try clear_value x9
  exact closed_pushCrumbs C hx9

theorem closed_failWarning {p0} (hp0 : R p0) : R (State.failWarning p0) := by
  unfold State.failWarning
  extract_lets +onlyGivenNames -underBinder x0
  try clear_value x0
  extract_lets +onlyGivenNames -underBinder x1
  have hx1 : R x1 := C.same_ hp0
  try clear_value x1
  refine R_ite hx1 ?_
  extract_lets +onlyGivenNames -underBinder x2
  have hx2 : R x2 := closed_setBit C (closed_setBit C hx1)
  try clear_value x2
  refine R_ite ?_ hx2
  extract_lets +onlyGivenNames -underBinder x3
  try clear_value x3
  extract_lets +onlyGivenNames -underBinder x4
  have hx4 : R x4 := closed_bstStep C (R_foldl hx2 (fun _ _ ht5 => closed_failCut C ht5))
  try clear_value x4
  extract_lets +onlyGivenNames -underBinder x6
  try clear_value x6
  extract_lets +onlyGivenNames -underBinder x7
  have hx7 : R x7 := closed_finalCrumbs C hx4
  try clear_value x7
  extract_lets +onlyGivenNames -underBinder x8
  try clear_value x8
  exact C.same_ hx7

theorem closed_flushCq {p0} {p1} {p2} (hp0 : R p0) : R (State.flushCq p0 p1 p2) := by
  unfold State.flushCq
  split
  · exact hp0
  · extract_lets +onlyGivenNames -underBinder x0
    have hx0 : R x0 := closed_dmaPacket C (closed_pushCrumbs C hp0)
    try clear_value x0
    exact R_ite hx0 (closed_flushCq hx0)

theorem closed_failClose {p0} {p1} (hp0 : R p0) : R (State.failClose p0 p1) := by
  unfold State.failClose
  exact R_ite (closed_finishDescriptor C (closed_closeTray C hp0)) hp0

theorem closed_failStop {p0} {p1} (hp0 : R p0) : R (State.failStop p0 p1) := by
  unfold State.failStop
  exact R_ite (closed_enterStopped C (R_ite hp0 (closed_cutOff C hp0))) hp0

theorem closed_failComplete {p0} {p1} (hp0 : R p0) : R (State.failComplete p0 p1) := by
  unfold State.failComplete
  split
  · exact hp0
  · extract_lets +onlyGivenNames -underBinder x0
    have hx0 : R x0 := by
      unfold x0
      split
      · exact closed_flushCq C (closed_resumeChan C hp0)
      · exact hp0
    try clear_value x0
    extract_lets +onlyGivenNames -underBinder x1
    try clear_value x1
    extract_lets +onlyGivenNames -underBinder x2
    try clear_value x2
    extract_lets +onlyGivenNames -underBinder x3
    have hx3 : R x3 := R_foldl hx0 (fun _ _ ht4 => closed_failClose C ht4)
    try clear_value x3
    extract_lets +onlyGivenNames -underBinder x5
    try clear_value x5
    extract_lets +onlyGivenNames -underBinder x6
    have hx6 : R x6 := C.same_ hx3
    try clear_value x6
    extract_lets +onlyGivenNames -underBinder x7
    have hx7 : R x7 := R_foldl hx6 (fun _ _ ht8 => closed_failStop C ht8)
    try clear_value x7
    extract_lets +onlyGivenNames -underBinder x9
    try clear_value x9
    exact closed_wro C (C.same_ hx7)

theorem closed_failRelease {p0} (hp0 : R p0) : R (State.failRelease p0) := by
  unfold State.failRelease
  exact closed_clearBit C (C.same_ hp0)

theorem closed_readSensor {p0} {p1} {p2} (hp0 : R p0) : R (State.readSensor p0 p1 p2) := by
  unfold State.readSensor
  split
  · exact closed_setBit C (closed_wr C hp0)
  · extract_lets +onlyGivenNames -underBinder x0
    have hx0 : R x0 := closed_sample C (closed_wrI C hp0)
    try clear_value x0
    exact R_ite (closed_wrI C hx0) hx0

theorem closed_heatFlag {p0} {p1} {p2} {p3} (hp0 : R p0) : R (State.heatFlag p0 p1 p2 p3) := by
  unfold State.heatFlag
  exact R_ite (closed_setBit C (closed_setBit C hp0)) (R_ite (closed_clearBit C hp0) hp0)

theorem closed_readSupply {p0} {p1} {p2} (hp0 : R p0) : R (State.readSupply p0 p1 p2) := by
  unfold State.readSupply
  extract_lets +onlyGivenNames -underBinder x0
  try clear_value x0
  extract_lets +onlyGivenNames -underBinder x1
  have hx1 : R x1 := closed_wr C hp0
  try clear_value x1
  extract_lets +onlyGivenNames -underBinder x2
  have hx2 : R x2 := R_ite (closed_wr C (closed_setBit C hx1)) hx1
  try clear_value x2
  exact R_ite (closed_wr C (closed_setBit C hx2)) hx2

theorem closed_monitorPoll {p0} {p1} {p2} {p3} (hp0 : R p0) : R (State.monitorPoll p0 p1 p2 p3) := by
  unfold State.monitorPoll
  refine R_ite hp0 ?_
  extract_lets +onlyGivenNames -underBinder x0
  try clear_value x0
  extract_lets +onlyGivenNames -underBinder x1
  have hx1 : R x1 := R_foldl hp0 (fun _ _ ht2 => closed_readSensor C ht2)
  try clear_value x1
  extract_lets +onlyGivenNames -underBinder x3
  have hx3 : R x3 := by
    unfold x3
    split
    · exact hx1
    · exact closed_wrI C hx1
  try clear_value x3
  extract_lets +onlyGivenNames -underBinder x4
  have hx4 : R x4 := closed_heatFlag C (closed_heatFlag C hx3)
  try clear_value x4
  extract_lets +onlyGivenNames -underBinder x5
  have hx5 : R x5 := R_foldl hx4 (fun _ _ ht6 => closed_readSupply C ht6)
  try clear_value x5
  extract_lets +onlyGivenNames -underBinder x7
  try clear_value x7
  exact closed_wr C (closed_putBit C hx5)

end Sys2Proof.Laws
end

