-- ==== Sys2Proof/Laws/ClosedWrites.lean ====
section
/-! SUPPORT. What a closed property of states keeps through the operations of Machine/Writes.lean. -/

namespace Sys2Proof.Laws

open Sys2Proof.Machine

set_option linter.unusedSectionVars false
set_option Elab.async false

variable {R : State → Prop} (C : Closed R)
include C

theorem closed_keep {p0} {p1} (hp0 : R p0) : R (State.keep p0 p1) := by
  unfold State.keep
  exact R_ite (closed_wro C hp0) (closed_wr C hp0)

theorem closed_keepIf {p0} {p1} {p2} (hp1 : R p1) (hp2 : R p2) : R (keepIf p0 p1 p2).1 := by
  unfold keepIf
  exact R_ite_1 hp2 hp1

theorem closed_lpPreset {p0} (hp0 : R p0) : R (State.lpPreset p0) := by
  unfold State.lpPreset
  extract_lets +onlyGivenNames -underBinder x0
  try clear_value x0
  extract_lets +onlyGivenNames -underBinder x1
  have hx1 : R x1 := closed_pscPreset C (closed_wr C (closed_wr C hp0))
  try clear_value x1
  extract_lets +onlyGivenNames -underBinder x2
  have hx2 : R x2 := R_ite (closed_setBit C (closed_wr C hx1)) (closed_clearBit C (closed_wr C hx1))
  try clear_value x2
  exact closed_comparators C (closed_publish C hx2)

theorem closed_moveEnds {p0} (hp0 : R p0.1) : R (State.moveEnds p0) := by
  unfold State.moveEnds
  extract_lets +onlyGivenNames -underBinder x0
  have hx0 : R x0 := closed_travelled C hp0
  try clear_value x0
  split
  · exact R_ite (closed_settle C (closed_retireNow C hx0)) hx0
  · exact hx0

theorem closed_spacingWritten {p0} {p1} (hp0 : R p0) : R (State.spacingWritten p0 p1) := by
  unfold State.spacingWritten
  extract_lets +onlyGivenNames -underBinder x0
  have hx0 : R x0 := R_dite (fun _ => C.same_ hp0) (fun _ => hp0)
  try clear_value x0
  extract_lets +onlyGivenNames -underBinder x1
  have hx1 : R x1.1 := closed_spcEval C hx0
  try clear_value x1
  exact closed_travelled C hx1

theorem closed_modeWritten {p0} {p1} (hp0 : R p0) : R (State.modeWritten p0 p1) := by
  unfold State.modeWritten
  extract_lets +onlyGivenNames -underBinder x0
  extract_lets +onlyGivenNames -underBinder x1
  try clear_value x1
  extract_lets +onlyGivenNames -underBinder x2
  try clear_value x2
  extract_lets +onlyGivenNames -underBinder x3
  extract_lets +onlyGivenNames -underBinder x4
  try clear_value x4
  extract_lets +onlyGivenNames -underBinder x5
  have hx5 : R x5 := R_ite (C.same_ hp0) (closed_setSer C hp0)
  try clear_value x5
  exact R_ite (closed_setP C hx5) hx5

theorem closed_writeWpu {p0} {p1} (hp0 : R p0) : R (State.writeWpu p0 p1).1 := by
  unfold State.writeWpu
  extract_lets +onlyGivenNames -underBinder x0
  have hx0 : R x0 := closed_keep C hp0
  try clear_value x0
  refine R_ite_1 ?_ ?_
  · dsimp only
    exact closed_settle C (closed_comparators C (closed_emptySpeed C (closed_wr C hx0)))
  · refine R_ite_1 ?_ ?_
    · dsimp only
      exact closed_settle C (closed_comparators C (closed_setP C hx0))
    · refine R_ite_1 ?_ ?_
      · dsimp only
        exact closed_settle C (closed_lpPreset C hp0)
      · refine R_ite_1 ?_ ?_
        · dsimp only
          exact closed_settle C (closed_comparators C (closed_modeWritten C hx0))
        · refine R_ite_1 ?_ ?_
          · dsimp only
            exact closed_settle C (closed_comparators C (closed_modeWritten C hx0))
          · refine R_ite_1 ?_ ?_
            · dsimp only
              exact closed_spacingWritten C hx0
            · refine R_ite_1 ?_ hx0
              dsimp only
              exact closed_settle C (closed_comparators C hx0)

theorem closed_writePsc {p0} {p1} (hp0 : R p0) : R (State.writePsc p0 p1).1 := by
  unfold State.writePsc
  extract_lets +onlyGivenNames -underBinder x0
  have hx0 : R x0 := closed_keep C hp0
  try clear_value x0
  refine R_ite_1 ?_ ?_
  · extract_lets +onlyGivenNames -underBinder x1
    try clear_value x1
    extract_lets +onlyGivenNames -underBinder x2
    have hx2 : R x2.1 := closed_pscRequest C hp0
    try clear_value x2
    dsimp only
    exact closed_settle C hx2
  · refine R_ite_1 ?_ ?_
    · dsimp only
      exact closed_cancelTag C hp0
    · refine R_ite_1 ?_ hx0
      exact closed_keepIf C hp0 hx0

theorem closed_writeCpt {p0} {p1} (hp0 : R p0) : R (State.writeCpt p0 p1).1 := by
  unfold State.writeCpt
  extract_lets +onlyGivenNames -underBinder x0
  extract_lets +onlyGivenNames -underBinder x1
  have hx1 : R x1 := closed_keep C hp0
  try clear_value x1
  refine R_ite_1 ?_ ?_
  · dsimp only
    exact closed_laneCountWritten C hx1
  · refine R_ite_1 ?_ ?_
    · dsimp only
      exact closed_portResume C hp0
    · refine R_ite_1 ?_ hx1
      exact closed_controlSend C hp0

theorem closed_spareTargetWrite {p0} {p1} (hp0 : R p0) : R (State.spareTargetWrite p0 p1).1 := by
  unfold State.spareTargetWrite
  refine R_ite_1 hp0 ?_
  refine R_ite_1 ?_ ?_
  · dsimp only
    exact closed_wr C hp0
  · dsimp only
    exact closed_bstStep C (closed_spareTarget C hp0)

theorem closed_spareCommandWrite {p0} {p1} (hp0 : R p0) : R (State.spareCommandWrite p0 p1).1 := by
  unfold State.spareCommandWrite
  refine R_ite_1 hp0 ?_
  refine R_ite_1 hp0 ?_
  extract_lets +onlyGivenNames -underBinder x0
  have hx0 : R x0.1 := by
    refine R_ite_1 ?_ ?_
    · exact closed_takeOver C hp0
    · refine R_ite_1 ?_ ?_
      · exact closed_handBack C hp0
      · exact closed_releaseSpare C hp0
  try clear_value x0
  dsimp only
  exact closed_bstStep C hx0

theorem closed_writeIpl {p0} {p1} (hp0 : R p0) : R (State.writeIpl p0 p1).1 := by
  unfold State.writeIpl
  extract_lets +onlyGivenNames -underBinder x0
  extract_lets +onlyGivenNames -underBinder x1
  have hx1 : R x1 := closed_keep C hp0
  try clear_value x1
  refine R_ite_1 ?_ ?_
  · exact closed_spareTargetWrite C hp0
  · refine R_ite_1 ?_ ?_
    · exact closed_spareCommandWrite C hp0
    · refine R_ite_1 ?_ ?_
      · dsimp only
        exact closed_calSuperseded C (closed_iplPend C hx1)
      · refine R_ite_1 ?_ ?_
        · dsimp only
          exact closed_iplPend C hx1
        · refine R_ite_1 ?_ ?_
          · dsimp only
            exact closed_calSuperseded C (closed_iplPend C hx1)
          · refine R_ite_1 ?_ hx1
            dsimp only
            exact closed_calSuperseded C (closed_remapWrite C hx1)

theorem closed_writeStx {p0} {p1} (hp0 : R p0) : R (State.writeStx p0 p1).1 := by
  unfold State.writeStx
  extract_lets +onlyGivenNames -underBinder x0
  refine R_ite_1 ?_ ?_
  · extract_lets +onlyGivenNames -underBinder x1
    have hx1 : R x1.1 := closed_delayWrite C hp0
    try clear_value x1
    refine R_ite_1 ?_ hx1
    dsimp only
    exact closed_calSuperseded C hx1
  · refine R_ite_1 ?_ ?_
    · extract_lets +onlyGivenNames -underBinder x2
      have hx2 : R x2.1 := closed_shiftWrite C hp0
      try clear_value x2
      refine R_ite_1 ?_ hx2
      dsimp only
      exact closed_calSuperseded C hx2
    · dsimp only
      exact closed_keep C hp0

theorem closed_writeBrd {p0} {p1} (hp0 : R p0) : R (State.writeBrd p0 p1).1 := by
  unfold State.writeBrd
  extract_lets +onlyGivenNames -underBinder x0
  have hx0 : R x0 := closed_keep C hp0
  try clear_value x0
  refine R_ite_1 ?_ ?_
  · dsimp only
    exact closed_wr C hx0
  · refine R_ite_1 ?_ hx0
    exact closed_keepIf C hp0 hx0

theorem closed_writeMre {p0} {p1} (hp0 : R p0) : R (State.writeMre p0 p1).1 := by
  unfold State.writeMre
  extract_lets +onlyGivenNames -underBinder x0
  have hx0 : R x0 := closed_keep C hp0
  try clear_value x0
  refine R_ite_1 ?_ ?_
  · exact closed_submitPage C hp0
  · refine R_ite_1 ?_ ?_
    · exact closed_queueCommand C hp0
    · refine R_ite_1 ?_ hx0
      extract_lets +onlyGivenNames -underBinder x1
      try clear_value x1
      refine R_ite_1 ?_ hx0
      dsimp only
      exact closed_cross C (closed_inspFlag C hx0)

theorem closed_writeCde {p0} {p1} (hp0 : R p0) : R (State.writeCde p0 p1).1 := by
  unfold State.writeCde
  refine R_ite_1 ?_ ?_
  · exact closed_submitJob C hp0
  · refine R_ite_1 ?_ ?_
    · dsimp only
      exact closed_cancelJobs C hp0
    · dsimp only
      exact closed_keep C hp0

theorem closed_segSpareCommandWrite {p0} {p1} {p2} (hp0 : R p0) : R (State.segSpareCommandWrite p0 p1 p2).1 := by
  unfold State.segSpareCommandWrite
  extract_lets +onlyGivenNames -underBinder x0
  try clear_value x0
  refine R_ite_1 hp0 ?_
  refine R_ite_1 hp0 ?_
  extract_lets +onlyGivenNames -underBinder x1
  have hx1 : R x1.1 := by
    refine R_ite_1 ?_ ?_
    · exact closed_segTakeOver C hp0
    · refine R_ite_1 ?_ ?_
      · exact closed_segHandBack C hp0
      · exact closed_segRelease C hp0
  try clear_value x1
  dsimp only
  exact closed_bstStep C hx1

theorem closed_writeSeg {p0} {p1} (hp0 : R p0) : R (State.writeSeg p0 p1).1 := by
  unfold State.writeSeg
  extract_lets +onlyGivenNames -underBinder x0
  have hx0 : R x0 := closed_keep C hp0
  try clear_value x0
  refine R_ite_1 ?_ ?_
  · exact closed_keepIf C hp0 hx0
  · refine R_ite_1 ?_ ?_
    · exact closed_keepIf C hp0 hx0
    · refine R_ite_1 ?_ ?_
      · dsimp only
        exact closed_setBit C hx0
      · refine R_ite_1 ?_ ?_
        · refine R_ite_1 hp0 ?_
          extract_lets +onlyGivenNames -underBinder x1
          have hx1 : R x1.1 := closed_engineClear C hp0
          try clear_value x1
          dsimp only
          exact closed_bstStep C hx1
        · refine R_ite_1 ?_ ?_
          · extract_lets +onlyGivenNames -underBinder x2
            refine R_ite_1 hp0 ?_
            extract_lets +onlyGivenNames -underBinder x3
            have hx3 : R x3.1 := closed_segSpareTarget C hp0
            try clear_value x3
            dsimp only
            exact closed_bstStep C hx3
          · refine R_ite_1 ?_ hx0
            exact closed_segSpareCommandWrite C hp0

theorem closed_writeCls {p0} {p1} (hp0 : R p0) : R (State.writeCls p0 p1).1 := by
  unfold State.writeCls
  refine R_ite_1 ?_ ?_
  · exact closed_ledgerClear C hp0
  · dsimp only
    exact closed_keep C hp0

theorem closed_bankWrite {p0} {p1} {p2} (hp0 : R p0) : R (State.bankWrite p0 p1 p2).1 := by
  unfold State.bankWrite
  extract_lets +onlyGivenNames -underBinder x0
  try clear_value x0
  extract_lets +onlyGivenNames -underBinder x1
  try clear_value x1
  refine R_ite_1 ?_ hp0
  dsimp only
  exact closed_bankUnsettled C (closed_keep C hp0)

theorem closed_writePfc {p0} {p1} (hp0 : R p0) : R (State.writePfc p0 p1).1 := by
  unfold State.writePfc
  extract_lets +onlyGivenNames -underBinder x0
  have hx0 : R x0 := closed_keep C hp0
  try clear_value x0
  refine R_ite_1 ?_ ?_
  · exact closed_keepIf C hp0 hx0
  · refine R_ite_1 ?_ ?_
    · exact closed_keepIf C hp0 hx0
    · refine R_ite_1 ?_ ?_
      · refine R_ite_1 ?_ ?_
        · exact closed_swapRequest C hp0
        · dsimp only
          exact closed_swapCancel C hp0
      · refine R_ite_1 ?_ ?_
        · split
          · rename_i v1 v2 q3
            have hv1 : R v1 := by
              refine Eq.subst (motive := fun z => R z.1) q3 ?_
              exact closed_bankWrite C hp0
            dsimp only
            exact R_ite (C.same_ hv1) hv1
        · refine R_ite_1 ?_ ?_
          · dsimp only
            exact R_foldl hx0 (fun _ _ ht4 => closed_wro C ht4)
          · refine R_ite_1 ?_ hx0
            exact closed_bankWrite C hp0

theorem closed_writeDlv {p0} {p1} (hp0 : R p0) : R (State.writeDlv p0 p1).1 := by
  unfold State.writeDlv
  extract_lets +onlyGivenNames -underBinder x0
  have hx0 : R x0 := closed_keep C hp0
  try clear_value x0
  extract_lets +onlyGivenNames -underBinder x1
  extract_lets +onlyGivenNames -underBinder x2
  refine R_ite_1 ?_ ?_
  · exact closed_keepIf C hp0 (closed_depthChanged C hx0)
  · refine R_ite_1 ?_ ?_
    · exact closed_keepIf C hp0 hx0
    · refine R_ite_1 ?_ ?_
      · dsimp only
        exact closed_doorbell C hp0
      · refine R_ite_1 ?_ ?_
        · exact closed_channelCommand C hp0
        · refine R_ite_1 ?_ ?_
          · dsimp only
            exact closed_shadowArm C hp0
          · refine R_ite_1 ?_ hx0
            dsimp only
            exact closed_shadowLate C hx0

theorem closed_writeDmc {p0} {p1} (hp0 : R p0) : R (State.writeDmc p0 p1).1 := by
  unfold State.writeDmc
  refine R_ite_1 ?_ ?_
  · extract_lets +onlyGivenNames -underBinder x0
    try clear_value x0
    refine R_ite_1 ?_ hp0
    dsimp only
    exact closed_injectError C hp0
  · dsimp only
    exact closed_keep C hp0

theorem closed_writeEvf {p0} {p1} (hp0 : R p0) : R (State.writeEvf p0 p1).1 := by
  unfold State.writeEvf
  extract_lets +onlyGivenNames -underBinder x0
  try clear_value x0
  split
  · dsimp only
    exact closed_keep C hp0
  · refine R_ite_1 ?_ ?_
    · refine R_ite_1 ?_ ?_
      · exact closed_release C hp0
      · exact closed_claim C hp0
    · refine R_ite_1 ?_ ?_
      · exact closed_channelEnable C hp0
      · refine R_ite_1 ?_ ?_
        · exact closed_fireWrite C hp0
        · refine R_ite_1 ?_ ?_
          · exact closed_keepIf C hp0 (closed_keep C hp0)
          · dsimp only
            exact closed_keep C hp0

theorem closed_writeSys {p0} {p1} (hp0 : R p0) : R (State.writeSys p0 p1).1 := by
  unfold State.writeSys
  refine R_ite_1 ?_ ?_
  · exact closed_powerCommand C hp0
  · dsimp only
    exact closed_keep C hp0

theorem closed_writeSes {p0} {p1} (hp0 : R p0) : R (State.writeSes p0 p1).1 := by
  unfold State.writeSes
  refine R_ite_1 ?_ ?_
  · dsimp only
    exact closed_endSession C hp0
  · refine R_ite_1 ?_ ?_
    · exact closed_keepIf C hp0 (closed_keep C hp0)
    · dsimp only
      exact closed_keep C hp0

theorem closed_writeLif {p0} {p1} (hp0 : R p0) : R (State.writeLif p0 p1).1 := by
  unfold State.writeLif
  refine R_ite_1 ?_ ?_
  · exact closed_lifeCommand C hp0
  · dsimp only
    exact closed_keep C hp0

theorem closed_writeNet {p0} {p1} (hp0 : R p0) : R (State.writeNet p0 p1).1 := by
  unfold State.writeNet
  refine R_ite_1 ?_ ?_
  · dsimp only
    exact closed_linkMode C hp0
  · refine R_ite_1 ?_ ?_
    · exact closed_timeSet C hp0
    · refine R_ite_1 ?_ ?_
      · exact closed_timeStep C hp0
      · refine R_ite_1 ?_ ?_
        · exact closed_rateAdjustment C hp0
        · refine R_ite_1 ?_ ?_
          · dsimp only
            exact closed_pulseMode C hp0
          · refine R_ite_1 ?_ ?_
            · dsimp only
              exact closed_pulseArm C hp0
            · dsimp only
              exact closed_keep C hp0

theorem closed_writeCal {p0} {p1} (hp0 : R p0) : R (State.writeCal p0 p1).1 := by
  unfold State.writeCal
  refine R_ite_1 ?_ ?_
  · exact closed_runRequest C hp0
  · refine R_ite_1 ?_ ?_
    · exact closed_runCancel C hp0
    · refine R_ite_1 ?_ ?_
      · refine R_ite_1 ?_ ?_
        · exact closed_importSlots C hp0
        · exact closed_importFactory C hp0
      · refine R_ite_1 ?_ ?_
        · exact closed_itemWrite C hp0
        · refine R_ite_1 ?_ ?_
          · exact closed_factorySave C hp0
          · dsimp only
            exact closed_keep C hp0

theorem closed_writeBst {p0} {p1} (hp0 : R p0) : R (State.writeBst p0 p1).1 := by
  unfold State.writeBst
  refine R_ite_1 ?_ ?_
  · exact closed_testRequest C hp0
  · refine R_ite_1 ?_ ?_
    · exact closed_fuseCommand C hp0
    · refine R_ite_1 ?_ ?_
      · exact closed_keepIf C hp0 (closed_keep C hp0)
      · dsimp only
        exact closed_keep C hp0

theorem closed_writeMon {p0} {p1} (hp0 : R p0) : R (State.writeMon p0 p1).1 := by
  unfold State.writeMon
  refine R_ite_1 ?_ ?_
  · exact closed_snapshotCommand C hp0
  · refine R_ite_1 ?_ ?_
    · dsimp only
      exact closed_putSession C hp0
    · refine R_ite_1 ?_ ?_
      · exact closed_keepIf C hp0 (closed_keep C hp0)
      · refine R_ite_1 ?_ ?_
        · dsimp only
          exact closed_recorderEnable C hp0
        · dsimp only
          exact closed_keep C hp0

theorem closed_writePmc {p0} {p1} (hp0 : R p0) : R (State.writePmc p0 p1).1 := by
  unfold State.writePmc
  refine R_ite_1 ?_ ?_
  · exact closed_freezeCommand C hp0
  · refine R_ite_1 ?_ ?_
    · exact closed_counterClear C hp0
    · refine R_ite_1 ?_ ?_
      · exact closed_keepIf C hp0 (closed_keep C hp0)
      · dsimp only
        exact closed_keep C hp0

theorem closed_writeUpd {p0} {p1} (hp0 : R p0) : R (State.writeUpd p0 p1).1 := by
  unfold State.writeUpd
  refine R_ite_1 ?_ ?_
  · exact closed_updateCommand C hp0
  · refine R_ite_1 ?_ ?_
    · exact closed_raiseSecurity C hp0
    · dsimp only
      exact closed_keep C hp0

theorem closed_writeCommon {p0} {p1} (hp0 : R p0) : R (State.writeCommon p0 p1).1 := by
  unfold State.writeCommon
  split
  · refine R_ite_1 ?_ ?_
    · extract_lets +onlyGivenNames -underBinder x0
      have hx0 : R x0.1 := closed_control C hp0
      try clear_value x0
      dsimp only
      exact closed_settle C hx0
    · dsimp only
      exact closed_keep C hp0
  · exact hp0

theorem closed_writeEffect {p0} {p1} (hp0 : R p0) : R (State.writeEffect p0 p1).1 := by
  unfold State.writeEffect
  extract_lets +onlyGivenNames -underBinder x0
  try clear_value x0
  refine R_ite_1 ?_ ?_
  · exact closed_writeCommon C hp0
  · refine R_ite_1 ?_ ?_
    · exact closed_writeSys C hp0
    · refine R_ite_1 ?_ ?_
      · exact closed_writeSes C hp0
      · refine R_ite_1 ?_ ?_
        · exact closed_writeLif C hp0
        · refine R_ite_1 ?_ ?_
          · exact closed_writeWpu C hp0
          · refine R_ite_1 ?_ ?_
            · exact closed_writePsc C hp0
            · refine R_ite_1 ?_ ?_
              · exact closed_writeEvf C hp0
              · refine R_ite_1 ?_ ?_
                · exact closed_writeCpt C hp0
                · refine R_ite_1 ?_ ?_
                  · exact closed_writeIpl C hp0
                  · refine R_ite_1 ?_ ?_
                    · exact closed_writeStx C hp0
                    · refine R_ite_1 ?_ ?_
                      · exact closed_writeBrd C hp0
                      · refine R_ite_1 ?_ ?_
                        · exact closed_writeMre C hp0
                        · refine R_ite_1 ?_ ?_
                          · exact closed_writeCde C hp0
                          · refine R_ite_1 ?_ ?_
                            · exact closed_writeSeg C hp0
                            · refine R_ite_1 ?_ ?_
                              · exact closed_writeCls C hp0
                              · refine R_ite_1 ?_ ?_
                                · exact closed_writePfc C hp0
                                · refine R_ite_1 ?_ ?_
                                  · exact closed_writeDlv C hp0
                                  · refine R_ite_1 ?_ ?_
                                    · exact closed_writeDmc C hp0
                                    · refine R_ite_1 ?_ ?_
                                      · exact closed_writeNet C hp0
                                      · refine R_ite_1 ?_ ?_
                                        · exact closed_writeCal C hp0
                                        · refine R_ite_1 ?_ ?_
                                          · exact closed_writeBst C hp0
                                          · refine R_ite_1 ?_ ?_
                                            · exact closed_writeMon C hp0
                                            · refine R_ite_1 ?_ ?_
                                              · exact closed_writePmc C hp0
                                              · refine R_ite_1 ?_ ?_
                                                · exact closed_writeUpd C hp0
                                                · dsimp only
                                                  exact closed_keep C hp0

end Sys2Proof.Laws
end

