-- ==== Sys2Proof/Laws/ClosedDict.lean ====
section
/-! SUPPORT. What a closed property of states keeps through the operations of Machine/Dict.lean. -/

namespace Sys2Proof.Laws

open Sys2Proof.Machine

set_option linter.unusedSectionVars false
set_option Elab.async false

variable {R : State → Prop} (C : Closed R)
include C

theorem closed_response {p0} {p1} (hp0 : R p0.state) : R (Reply.response p0 p1).1 := hp0

theorem closed_refuseWith {p0} {p1} (hp0 : R p0) : R (refuseWith p0 p1).state := by
  unfold refuseWith
  exact hp0

theorem closed_afterRead {p0} {p1} {p2} {p3} {p4} (hp0 : R p0) : R (State.afterRead p0 p1 p2 p3 p4) := by
  unfold State.afterRead
  split
  · exact R_ite hp0 (closed_wr C hp0)
  · exact R_ite (closed_putSession C hp0) hp0

theorem closed_readObject {p0} {p1} {p2} {p3} {p4} (hp0 : R p0) : R (State.readObject p0 p1 p2 p3 p4).1 := by
  unfold State.readObject
  refine R_ite_1 ?_ ?_
  · extract_lets +onlyGivenNames -underBinder x0
    have hx0 : R x0.1 := closed_captureRead C hp0
    try clear_value x0
    exact hx0
  · refine R_ite_1 ?_ ?_
    · dsimp only
      exact closed_afterRead C hp0
    · dsimp only
      exact closed_afterRead C hp0

theorem closed_readReply {p0} {p1} {p2} {p3} {p4} (hp0 : R p0) : R (State.readReply p0 p1 p2 p3 p4).state := by
  unfold State.readReply
  split
  · exact hp0
  · refine R_ite_state hp0 ?_
    refine R_ite_state hp0 ?_
    extract_lets +onlyGivenNames -underBinder x0
    have hx0 : R x0.1 := closed_readObject C hp0
    try clear_value x0
    extract_lets +onlyGivenNames -underBinder x1
    try clear_value x1
    exact hx0

theorem closed_writeReply {p0} {p1} {p2} {p3} {p4} {p5} {p6} (hp0 : R p0) : R (State.writeReply p0 p1 p2 p3 p4 p5 p6).state := by
  unfold State.writeReply
  split
  · exact hp0
  · split
    · exact hp0
    · refine R_ite_state hp0 ?_
      refine R_ite_state hp0 ?_
      refine R_ite_state hp0 ?_
      extract_lets +onlyGivenNames -underBinder x0
      have hx0 : R x0.1 := closed_writeEffect C hp0
      try clear_value x0
      exact R_ite_state hp0 hx0

theorem closed_domEnds {p0} {p1} {p2} {p3} (hp0 : R p0) : R (State.domEnds p0 p1 p2 p3).1 := by
  unfold State.domEnds
  extract_lets +onlyGivenNames -underBinder x0
  refine R_ite_1 ?_ ?_
  · refine R_ite_1 ?_ hp0
    extract_lets +onlyGivenNames -underBinder x1
    have hx1 : R x1 := closed_iplPend C (closed_wro C hp0)
    try clear_value x1
    dsimp only
    exact R_ite (closed_calSuperseded C (closed_calSuperseded C hx1)) hx1
  · refine R_ite_1 ?_ ?_
    · exact closed_keepIf C hp0 (closed_wro C hp0)
    · refine R_ite_1 ?_ ?_
      · exact closed_keepIf C hp0 (closed_wro C hp0)
      · refine R_ite_1 ?_ ?_
        · exact closed_keepIf C hp0 (closed_wro C hp0)
        · refine R_ite_1 ?_ ?_
          · exact closed_imageEnds C hp0
          · dsimp only
            exact closed_wro C hp0

theorem closed_domReadReply {p0} {p1} {p2} {p3} {p4} (hp0 : R p0) : R (State.domReadReply p0 p1 p2 p3 p4).state := by
  unfold State.domReadReply
  split
  · exact hp0
  · refine R_ite_state hp0 ?_
    refine R_ite_state hp0 ?_
    refine R_ite_state hp0 ?_
    extract_lets +onlyGivenNames -underBinder x0
    have hx0 : R x0.1 := by
      refine R_ite_1 ?_ hp0
      exact closed_takeExport C hp0
    try clear_value x0
    dsimp only
    exact closed_putSession C hx0

theorem closed_domWriteReply {p0} {p1} {p2} {p3} {p4} {p5} (hp0 : R p0) : R (State.domWriteReply p0 p1 p2 p3 p4 p5).state := by
  unfold State.domWriteReply
  split
  · exact hp0
  · refine R_ite_state hp0 ?_
    refine R_ite_state hp0 ?_
    refine R_ite_state hp0 ?_
    refine R_ite_state hp0 ?_
    refine R_ite_state hp0 ?_
    extract_lets +onlyGivenNames -underBinder x0
    have hx0 : R x0 := closed_cancelPending C hp0
    try clear_value x0
    refine R_ite_state ?_ ?_
    · extract_lets +onlyGivenNames -underBinder x1
      have hx1 : R x1.1 := closed_domEnds C hx0
      try clear_value x1
      exact hx1
    · dsimp only
      exact closed_putSession C hx0

theorem closed_segmentRead {p0} {p1} {p2} {p3} {p4} {p5} {p6} (hp0 : R p0) : R (State.segmentRead p0 p1 p2 p3 p4 p5 p6).state := by
  unfold State.segmentRead
  refine R_ite_state hp0 ?_
  dsimp only
  exact R_ite (closed_putSession C hp0) hp0

theorem closed_segmentWrite {p0} {p1} {p2} {p3} {p4} {p5} {p6} (hp0 : R p0) : R (State.segmentWrite p0 p1 p2 p3 p4 p5 p6).state := by
  unfold State.segmentWrite
  extract_lets +onlyGivenNames -underBinder x0
  try clear_value x0
  refine R_ite_state hp0 ?_
  refine R_ite_state hp0 ?_
  extract_lets +onlyGivenNames -underBinder x1
  have hx1 : R x1 := R_ite (closed_imageSegment C hp0) hp0
  try clear_value x1
  refine R_ite_state ?_ ?_
  · extract_lets +onlyGivenNames -underBinder x2
    have hx2 : R x2.1 := closed_domEnds C (closed_putSession C hx1)
    try clear_value x2
    exact hx2
  · dsimp only
    exact closed_putSession C hx1

theorem closed_segmentReply {p0} {p1} {p2} {p3} {p4} (hp0 : R p0) : R (State.segmentReply p0 p1 p2 p3 p4).state := by
  unfold State.segmentReply
  split
  · exact hp0
  · extract_lets +onlyGivenNames -underBinder x0
    try clear_value x0
    extract_lets +onlyGivenNames -underBinder x1
    try clear_value x1
    refine R_ite_state hp0 ?_
    refine R_ite_state ?_ ?_
    · exact closed_segmentWrite C hp0
    · exact closed_segmentRead C hp0

theorem closed_domAbort {p0} {p1} (hp0 : R p0) : R (State.domAbort p0 p1).state := by
  unfold State.domAbort
  split
  · dsimp only
    exact closed_putSession C (closed_abandon C hp0)
  · exact hp0

theorem closed_keepAlive {p0} {p1} (hp0 : R p0) : R (State.keepAlive p0 p1).state := by
  unfold State.keepAlive
  exact hp0

theorem closed_readRequest {p0} {p1} {p2} {p3} {p4} (hp0 : R p0) : R (State.readRequest p0 p1 p2 p3 p4) := by
  unfold State.readRequest
  exact R_ite (closed_groupRequest C hp0 (fun _ hy0 => closed_response C (closed_readReply C hy0))) (closed_request C hp0 (fun _ _ hy1 => closed_readReply C hy1))

theorem closed_writeRequest {p0} {p1} {p2} {p3} {p4} {p5} (hp0 : R p0) : R (State.writeRequest p0 p1 p2 p3 p4 p5) := by
  unfold State.writeRequest
  exact closed_afterRequest C (closed_request C hp0 (fun _ _ hy0 => closed_writeReply C hy0))

theorem closed_writeFree {p0} {p1} {p2} {p3} {p4} (hp0 : R p0) : R (State.writeFree p0 p1 p2 p3 p4) := by
  unfold State.writeFree
  exact closed_writeRequest C (closed_takeFree C hp0)

theorem closed_writeNumber {p0} {p1} {p2} {p3} {p4} {p5} (hp0 : R p0) : R (State.writeNumber p0 p1 p2 p3 p4 p5) := by
  unfold State.writeNumber
  exact closed_writeFree C hp0

theorem closed_discoverRequest {p0} {p1} {p2} (hp0 : R p0) : R (State.discoverRequest p0 p1 p2) := by
  unfold State.discoverRequest
  extract_lets +onlyGivenNames -underBinder x0
  have hx0 : ∀ a1, R a1 → R (x0 a1).state := by
    intro a1 ha1
    exact ha1
  try clear_value x0
  exact R_ite (closed_groupRequest C hp0 (fun _ hy2 => closed_response C (hx0 _ hy2))) (closed_request C hp0 (fun _ _ hy3 => hx0 _ hy3))

theorem closed_authOne {p0} {p1} (hp0 : R p0) : R (State.authOne p0 p1) := by
  unfold State.authOne
  refine closed_request C hp0 (fun _ _ hy0 => ?_)
  refine R_ite_state hy0 ?_
  exact closed_authChallenge C hy0

theorem closed_authTwo {p0} {p1} {p2} {p3} {p4} (hp0 : R p0) : R (State.authTwo p0 p1 p2 p3 p4) := by
  unfold State.authTwo
  refine closed_request C hp0 (fun _ _ hy0 => ?_)
  refine R_ite_state hy0 ?_
  exact closed_authResponse C hy0

theorem closed_closeRequest {p0} {p1} (hp0 : R p0) : R (State.closeRequest p0 p1) := by
  unfold State.closeRequest
  refine closed_request C hp0 (fun _ _ hy0 => ?_)
  dsimp only
  exact closed_endSession C hy0

theorem closed_payloadBad {p0} {p1} {p2} (hp0 : R p0) : R (State.payloadBad p0 p1 p2) := by
  unfold State.payloadBad
  exact closed_request C hp0 (fun _ _ hy0 => hy0)

theorem closed_authFrame {p0} {p1} {p2} (hp0 : R p0) : R (State.authFrame p0 p1 p2) := by
  unfold State.authFrame
  refine R_ite (closed_authOne C hp0) ?_
  extract_lets +onlyGivenNames -underBinder x0
  try clear_value x0
  exact R_ite (closed_authTwo C hp0) (closed_payloadBad C hp0)

theorem closed_frameRequest {p0} {p1} {p2} (hp0 : R p0) : R (State.frameRequest p0 p1 p2) := by
  unfold State.frameRequest
  extract_lets +onlyGivenNames -underBinder x0
  try clear_value x0
  extract_lets +onlyGivenNames -underBinder x1
  try clear_value x1
  extract_lets +onlyGivenNames -underBinder x2
  try clear_value x2
  extract_lets +onlyGivenNames -underBinder x3
  try clear_value x3
  extract_lets +onlyGivenNames -underBinder x4
  try clear_value x4
  extract_lets +onlyGivenNames -underBinder x5
  try clear_value x5
  exact R_ite (R_ite (closed_openRequest C hp0) (closed_deliver C hp0 (fun _ hy6 => closed_respond C hy6))) (R_ite (closed_closeRequest C hp0) (R_ite (closed_request C hp0 (fun _ _ hy7 => closed_keepAlive C hy7)) (R_ite (closed_authFrame C hp0) (R_ite (R_ite (closed_readRequest C hp0) (closed_payloadBad C hp0)) (R_ite (R_ite (closed_writeFree C hp0) (closed_payloadBad C hp0)) (R_ite (R_ite (closed_request C hp0 (fun _ _ hy9 => closed_domReadReply C hy9)) (closed_payloadBad C hp0)) (R_ite (R_ite (closed_request C hp0 (fun _ _ hy11 => closed_domWriteReply C hy11)) (closed_payloadBad C hp0)) (R_ite (closed_request C hp0 (fun _ _ hy13 => closed_segmentReply C hy13)) (R_ite (closed_request C hp0 (fun _ _ hy15 => closed_domAbort C hy15)) (R_ite (closed_discoverRequest C hp0) (closed_request C hp0 (fun _ _ hy17 => hy17))))))))))))

theorem closed_mailboxFill {p0} {p1} {p2} (hp0 : R p0) : R (State.mailboxFill p0 p1 p2) := by
  unfold State.mailboxFill
  refine R_ite ?_ hp0
  extract_lets +onlyGivenNames -underBinder x0
  try clear_value x0
  exact C.same_ hp0

theorem closed_mailboxPost {p0} {p1} {p2} (hp0 : R p0) : R (State.mailboxPost p0 p1 p2) := by
  unfold State.mailboxPost
  exact R_ite (closed_frameRequest C hp0) (closed_deliver C hp0 (fun _ hy0 => closed_respond C hy0))

end Sys2Proof.Laws
end

