-- ==== Sys2Proof/Laws/ClosedEvents.lean ====
section
/-! SUPPORT. What a closed property of states keeps through the operations of Machine/Events.lean. -/

namespace Sys2Proof.Laws

open Sys2Proof.Machine

set_option linter.unusedSectionVars false
set_option Elab.async false

variable {R : State → Prop} (C : Closed R)
include C

theorem closed_whileClocked {p0} {p1} (hp0 : R p0) (hp1 : ∀ z0, R z0 → R (p1 z0)) : R (State.whileClocked p0 p1) := by
  unfold State.whileClocked
  exact R_ite (hp1 _ hp0) hp0

theorem closed_whileOn {p0} {p1} (hp0 : R p0) (hp1 : ∀ z0, R z0 → R (p1 z0)) : R (State.whileOn p0 p1) := by
  unfold State.whileOn
  exact R_ite (hp1 _ hp0) hp0

theorem closed_whileManaged {p0} {p1} (hp0 : R p0) (hp1 : ∀ z0, R z0 → R (p1 z0)) : R (State.whileManaged p0 p1) := by
  unfold State.whileManaged
  exact R_ite (hp1 _ hp0) hp0

theorem closed_overLink {p0} {p1} (hp0 : R p0) (hp1 : ∀ z0, R z0 → R (p1 z0)) : R (State.overLink p0 p1) := by
  unfold State.overLink
  exact R_ite (hp1 _ hp0) hp0

theorem closed_posCycles {p0} {p1} (hp0 : R p0) : R (State.posCycles p0 p1) := by
  unfold State.posCycles
  exact closed_advance C hp0

theorem closed_idle {p0} (hp0 : R p0) : R (State.idle p0) := by
  unfold State.idle
  exact closed_whileOn C hp0 (fun _ hy0 => closed_settle C (closed_advance C hy0))

theorem closed_functionControl {p0} {p1} {p2} {p3} {p4} {p5} (hp0 : R p0) : R (State.functionControl p0 p1 p2 p3 p4 p5) := by
  unfold State.functionControl
  exact closed_writeRequest C (closed_takeFree C hp0)

theorem closed_powerWrite {p0} {p1} {p2} {p3} (hp0 : R p0) : R (State.powerWrite p0 p1 p2 p3) := by
  unfold State.powerWrite
  exact closed_writeRequest C (closed_takeFree C hp0)

theorem closed_shadowWrite {p0} {p1} {p2} {p3} {p4} (hp0 : R p0) : R (State.shadowWrite p0 p1 p2 p3 p4) := by
  unfold State.shadowWrite
  exact closed_writeRequest C (closed_takeFree C hp0)

theorem closed_channelWrite {p0} {p1} {p2} {p3} {p4} (hp0 : R p0) : R (State.channelWrite p0 p1 p2 p3 p4) := by
  unfold State.channelWrite
  exact closed_writeNumber C hp0

theorem closed_netDiscard {p0} {p1} (hp0 : R p0) : R (State.netDiscard p0 p1) := by
  unfold State.netDiscard
  exact R_ite (closed_frameDiscarded C (closed_netHeard C hp0)) (closed_fnpUnheard C hp0)

theorem closed_lineFaultEnds {p0} {p1} {p2} (hp0 : R p0) : R (State.lineFaultEnds p0 p1 p2) := by
  unfold State.lineFaultEnds
  exact closed_clearBit C hp0

theorem closed_serialPoll {p0} {p1} (hp0 : R p0) : R (State.serialPoll p0 p1) := by
  unfold State.serialPoll
  exact R_ite hp0 (closed_setSer C hp0)

theorem closed_serialFrame {p0} {p1} {p2} {p3} {p4} {p5} (hp0 : R p0) : R (State.serialFrame p0 p1 p2 p3 p4 p5) := by
  unfold State.serialFrame
  refine R_ite hp0 ?_
  extract_lets +onlyGivenNames -underBinder x0
  try clear_value x0
  extract_lets +onlyGivenNames -underBinder x1
  try clear_value x1
  extract_lets +onlyGivenNames -underBinder x2
  try clear_value x2
  extract_lets +onlyGivenNames -underBinder x3
  try clear_value x3
  extract_lets +onlyGivenNames -underBinder x4
  have hx4 : R x4 := closed_setSer C hp0
  try clear_value x4
  extract_lets +onlyGivenNames -underBinder x5
  try clear_value x5
  refine R_ite ?_ (closed_settle C (closed_comparators C (closed_serialBad C hx4)))
  extract_lets +onlyGivenNames -underBinder x6
  have hx6 : R x6 := R_ite (closed_putBit C hx4) hx4
  try clear_value x6
  exact closed_moveEnds C (closed_serialGood C hx6)

theorem closed_serialTimesOut {p0} {p1} (hp0 : R p0) : R (State.serialTimesOut p0 p1) := by
  unfold State.serialTimesOut
  exact R_ite hp0 (closed_settle C (closed_comparators C (closed_serialBad C (closed_setSer C hp0))))

theorem closed_speedDecays {p0} (hp0 : R p0) : R (State.speedDecays p0) := by
  unfold State.speedDecays
  exact closed_settle C (closed_comparators C (closed_speedUpdate C hp0))

theorem closed_standsStill {p0} (hp0 : R p0) : R (State.standsStill p0) := by
  unfold State.standsStill
  refine R_ite hp0 ?_
  extract_lets +onlyGivenNames -underBinder x0
  have hx0 : R x0 := closed_emptySpeed C (closed_setBit C (closed_setBit C hp0))
  try clear_value x0
  exact closed_settle C (closed_comparators C (closed_eventHere C (C.same_ hx0)))

theorem closed_probeTakes {p0} {p1} {p2} (hp0 : R p0) : R (State.probeTakes p0 p1 p2) := by
  unfold State.probeTakes
  extract_lets +onlyGivenNames -underBinder x0
  have hx0 : R x0.1 := closed_probeEdge C hp0
  try clear_value x0
  split
  · exact closed_settle C (R_ite (closed_markLatch C hx0) hx0)
  · exact hx0

theorem closed_trainingRetries {p0} {p1} (hp0 : R p0) : R (State.trainingRetries p0 p1) := by
  unfold State.trainingRetries
  exact R_ite (closed_setPort C hp0) hp0

theorem closed_heartbeat {p0} {p1} (hp0 : R p0) : R (State.heartbeat p0 p1) := by
  unfold State.heartbeat
  exact R_ite (closed_setPort C hp0) hp0

theorem closed_triggerFalls {p0} {p1} (hp0 : R p0) : R (State.triggerFalls p0 p1) := by
  unfold State.triggerFalls
  extract_lets +onlyGivenNames -underBinder x0
  try clear_value x0
  exact R_ite hp0 (closed_takeFree C (closed_emit C (closed_setPort C hp0)))

theorem closed_reconnectTimesOut {p0} {p1} (hp0 : R p0) : R (State.reconnectTimesOut p0 p1) := by
  unfold State.reconnectTimesOut
  extract_lets +onlyGivenNames -underBinder x0
  try clear_value x0
  exact R_ite (closed_settle C (closed_faults C hp0)) hp0

theorem closed_clockLost {p0} {p1} (hp0 : R p0) : R (State.clockLost p0 p1) := by
  unfold State.clockLost
  exact R_ite (closed_braidRetrain C (closed_setBit C hp0)) hp0

theorem closed_ackTimesOut {p0} {p1} (hp0 : R p0) : R (State.ackTimesOut p0 p1) := by
  unfold State.ackTimesOut
  exact R_ite (closed_flitsFail C hp0) hp0

theorem closed_bankRowWrite {p0} {p1} {p2} {p3} {p4} (hp0 : R p0) : R (State.bankRowWrite p0 p1 p2 p3 p4) := by
  unfold State.bankRowWrite
  exact closed_writeFree C hp0

theorem closed_bar4Write {p0} {p1} {p2} (hp0 : R p0) : R (State.bar4Write p0 p1 p2) := by
  unfold State.bar4Write
  exact closed_windowWrite C hp0

end Sys2Proof.Laws
end

