-- ==== Sys2Proof/Laws/ClosedBar0.lean ====
section
/-! SUPPORT. What a closed property of states keeps through the operations of Machine/Bar0.lean. -/

namespace Sys2Proof.Laws

open Sys2Proof.Machine

set_option linter.unusedSectionVars false
set_option Elab.async false

variable {R : State → Prop} (C : Closed R)
include C

theorem closed_queueFlagsShown {p0} {p1} {p2} {p3} (hp0 : R p0) : R (State.queueFlagsShown p0 p1 p2 p3) := by
  unfold State.queueFlagsShown
  refine R_ite ?_ hp0
  dsimp only
  generalize rowOf Ix.dlvQueueFlags (p3.val + 1) = r
  cases r with
  | none => exact hp0
  | some r => exact closed_wr C hp0

theorem closed_bar0Read {p0} {p1} {p2} (hp0 : R p0) : R (State.bar0Read p0 p1 p2) := by
  unfold State.bar0Read
  extract_lets +onlyGivenNames -underBinder x0
  have hx0 : R x0 := closed_emit C hp0
  try clear_value x0
  exact closed_queueFlagsShown C (closed_queueFlagsShown C (closed_queueFlagsShown C hx0))

theorem closed_bar2Read {p0} {p1} {p2} (hp0 : R p0) : R (State.bar2Read p0 p1 p2) := by
  unfold State.bar2Read
  exact closed_emit C hp0

theorem closed_shadowWord {p0} {p1} {p2} {p3} (hp0 : R p0) : R (State.shadowWord p0 p1 p2 p3) := by
  unfold State.shadowWord
  extract_lets +onlyGivenNames -underBinder x0
  try clear_value x0
  extract_lets +onlyGivenNames -underBinder x1
  have hx1 : ∀ a2 a3, R (x1 a2 a3) := by
    intro a2 a3
    exact R_ite (closed_wr C hp0) hp0
  try clear_value x1
  exact R_ite hp0 (R_ite (hx1 _ _) (R_ite (hx1 _ _) (R_ite (hx1 _ _) (R_ite (hx1 _ _) (R_ite (hx1 _ _) hp0)))))

theorem closed_mailboxWord {p0} {p1} {p2} {p3} (hp0 : R p0) : R (State.mailboxWord p0 p1 p2 p3) := by
  unfold State.mailboxWord
  extract_lets +onlyGivenNames -underBinder x0
  try clear_value x0
  exact R_ite (R_ite (closed_mailboxPost C hp0) (R_ite (closed_mailboxAck C hp0) hp0)) (R_ite (closed_mailboxStatus C hp0) (R_ite (C.same_ hp0) hp0))

theorem closed_bar0Word {p0} {p1} {p2} (hp0 : R p0) : R (State.bar0Word p0 p1 p2) := by
  unfold State.bar0Word
  split
  · exact closed_mailboxWord C hp0
  · exact R_ite (closed_doorbell C hp0) hp0
  · exact closed_shadowWord C hp0
  iterate 4 exact hp0

theorem closed_bar0Put {p0} {p1} {p2} {p3} (hp0 : R p0) : R (State.bar0Put p0 p1 p2 p3) := by
  unfold State.bar0Put
  extract_lets +onlyGivenNames -underBinder x0
  try clear_value x0
  extract_lets +onlyGivenNames -underBinder x1
  have hx1 : R x1 := R_ite (closed_bar0Word C hp0) hp0
  try clear_value x1
  split
  · exact R_ite (C.same_ hp0) hx1
  iterate 6 exact hx1

theorem closed_bar0Write {p0} {p1} {p2} (hp0 : R p0) : R (State.bar0Write p0 p1 p2) := by
  unfold State.bar0Write
  exact R_foldl hp0 (fun _ _ ht0 => closed_bar0Put C ht0)

theorem closed_bar2Write {p0} {p1} {p2} (hp0 : R p0) : R (State.bar2Write p0 p1 p2) := by
  unfold State.bar2Write
  exact R_ite (closed_userControl C hp0) hp0

theorem closed_barAccess {p0} {p1} {p2} (hp0 : R p0) : R (State.barAccess p0 p1 p2) := by
  unfold State.barAccess
  split
  · exact closed_doorbell C hp0
  · exact closed_bar0Write C hp0
  · exact closed_bar0Read C hp0
  · exact closed_bar0Write C hp0
  · exact closed_bar0Write C hp0
  · exact closed_bar0Read C hp0
  · exact closed_bar2Write C hp0
  · exact closed_bar2Write C hp0
  · exact closed_bar2Read C hp0

end Sys2Proof.Laws
end

