-- ==== Sys2Proof/Laws/ClosedExecFunction.lean ====
section
/-! SUPPORT. What a closed property of states keeps through the operations of Machine/ExecFunction.lean. -/

namespace Sys2Proof.Laws

open Sys2Proof.Machine

set_option linter.unusedSectionVars false
set_option Elab.async false

variable {R : State → Prop} (C : Closed R)
include C

theorem closed_execArm {p0} {p1} {p2} {p3} (hp3 : R p3) : nextHas (execArm p0 p1 p2 p3) R := by
  unfold execArm
  exact closed_functionControl C hp3

theorem closed_execStart {p0} {p1} {p2} (hp2 : R p2) : nextHas (execStart p0 p1 p2) R := by
  unfold execStart
  exact closed_functionControl C hp2

theorem closed_execStop {p0} {p1} {p2} (hp2 : R p2) : nextHas (execStop p0 p1 p2) R := by
  unfold execStop
  exact closed_functionControl C hp2

theorem closed_execAbort {p0} {p1} {p2} (hp2 : R p2) : nextHas (execAbort p0 p1 p2) R := by
  unfold execAbort
  exact closed_functionControl C hp2

theorem closed_execDisarm {p0} {p1} {p2} (hp2 : R p2) : nextHas (execDisarm p0 p1 p2) R := by
  unfold execDisarm
  exact closed_functionControl C hp2

theorem closed_execClear {p0} {p1} {p2} (hp2 : R p2) : nextHas (execClear p0 p1 p2) R := by
  unfold execClear
  exact closed_functionControl C hp2

theorem closed_execDrainComplete {p0} {p1} (hp1 : R p1) : nextHas (execDrainComplete p0 p1) R := by
  unfold execDrainComplete
  exact closed_whileOn C hp1 (fun _ hy0 => closed_settle C (closed_drainComplete C hy0))

theorem closed_execDrainTimeout {p0} {p1} (hp1 : R p1) : nextHas (execDrainTimeout p0 p1) R := by
  unfold execDrainTimeout
  exact closed_whileOn C hp1 (fun _ hy0 => closed_settle C (closed_drainTimesOut C hy0))

theorem closed_execStartPointReached {p0} {p1} {p2} (hp2 : R p2) : nextHas (execStartPointReached p0 p1 p2) R := by
  unfold execStartPointReached
  exact closed_whileOn C hp2 (fun _ hy0 => closed_settle C (closed_startPoint C hy0))

theorem closed_execWrite {p0} {p1} {p2} {p3} {p4} (hp4 : R p4) : nextHas (execWrite p0 p1 p2 p3 p4) R := by
  unfold execWrite
  exact closed_writeFree C hp4

theorem closed_execUncorrectableError {p0} {p1} {p2} (hp2 : R p2) : nextHas (execUncorrectableError p0 p1 p2) R := by
  unfold execUncorrectableError
  exact closed_whileOn C hp2 (fun _ hy0 => closed_settle C (closed_uncorrectable C hy0))

theorem closed_execCorrectedError {p0} {p1} (hp1 : R p1) : nextHas (execCorrectedError p0 p1) R := by
  unfold execCorrectedError
  exact closed_whileOn C hp1 (fun _ hy0 => closed_corrected C hy0)

end Sys2Proof.Laws
end

