-- ==== Sys2Proof/Laws/ClosedExecPosition.lean ====
section
/-! SUPPORT. What a closed property of states keeps through the operations of Machine/ExecPosition.lean. -/

namespace Sys2Proof.Laws

open Sys2Proof.Machine

set_option linter.unusedSectionVars false
set_option Elab.async false

variable {R : State → Prop} (C : Closed R)
include C

theorem closed_execEncoderTransition {p0} {p1} {p2} {p3} {p4} (hp4 : R p4) : nextHas (execEncoderTransition p0 p1 p2 p3 p4) R := by
  unfold execEncoderTransition
  exact closed_whileClocked C hp4 (fun _ hy0 => closed_moveEnds C (closed_encoderSample C (closed_posCycles C hy0)))

theorem closed_execLineFault {p0} {p1} {p2} (hp2 : R p2) : nextHas (execLineFault p0 p1 p2) R := by
  unfold execLineFault
  exact closed_whileClocked C hp2 (fun _ hy0 => closed_settle C (closed_lineFault C hy0))

theorem closed_execLineFaultEnd {p0} {p1} {p2} (hp2 : R p2) : nextHas (execLineFaultEnd p0 p1 p2) R := by
  unfold execLineFaultEnd
  exact closed_whileClocked C hp2 (fun _ hy0 => closed_lineFaultEnds C hy0)

theorem closed_execEncoderIndex {p0} {p1} {p2} (hp2 : R p2) : nextHas (execEncoderIndex p0 p1 p2) R := by
  unfold execEncoderIndex
  exact closed_whileClocked C hp2 (fun _ hy0 => closed_settle C (closed_encoderIndex C (closed_posCycles C hy0)))

theorem closed_execSerialPoll {p0} {p1} (hp1 : R p1) : nextHas (execSerialPoll p0 p1) R := by
  unfold execSerialPoll
  exact closed_whileClocked C hp1 (fun _ hy0 => closed_serialPoll C hy0)

theorem closed_execSerialFrame {p0} {p1} {p2} {p3} {p4} {p5} {p6} (hp6 : R p6) : nextHas (execSerialFrame p0 p1 p2 p3 p4 p5 p6) R := by
  unfold execSerialFrame
  exact closed_whileClocked C hp6 (fun _ hy0 => closed_serialFrame C (closed_posCycles C hy0))

theorem closed_execSerialFrameTimeout {p0} {p1} (hp1 : R p1) : nextHas (execSerialFrameTimeout p0 p1) R := by
  unfold execSerialFrameTimeout
  exact closed_whileClocked C hp1 (fun _ hy0 => closed_serialTimesOut C hy0)

theorem closed_execSpeedDecay {p0} {p1} (hp1 : R p1) : nextHas (execSpeedDecay p0 p1) R := by
  unfold execSpeedDecay
  exact closed_whileClocked C hp1 (fun _ hy0 => closed_speedDecays C (closed_posCycles C hy0))

theorem closed_execStandstill {p0} {p1} (hp1 : R p1) : nextHas (execStandstill p0 p1) R := by
  unfold execStandstill
  exact closed_whileClocked C hp1 (fun _ hy0 => closed_standsStill C (closed_posCycles C hy0))

theorem closed_execLpPreset {p0} {p1} {p2} (hp2 : R p2) : nextHas (execLpPreset p0 p1 p2) R := by
  unfold execLpPreset
  exact closed_writeNumber C hp2

theorem closed_execCountsPerLineWrite {p0} {p1} {p2} (hp2 : R p2) : nextHas (execCountsPerLineWrite p0 p1 p2) R := by
  unfold execCountsPerLineWrite
  exact closed_writeNumber C hp2

theorem closed_execPositionSourceWrite {p0} {p1} {p2} (hp2 : R p2) : nextHas (execPositionSourceWrite p0 p1 p2) R := by
  unfold execPositionSourceWrite
  exact closed_writeNumber C hp2

theorem closed_execEncoderModeWrite {p0} {p1} {p2} {p3} (hp3 : R p3) : nextHas (execEncoderModeWrite p0 p1 p2 p3) R := by
  unfold execEncoderModeWrite
  exact R_ite (closed_writeNumber C hp3) (closed_writeNumber C hp3)

theorem closed_execSpacingCompareWrite {p0} {p1} {p2} {p3} (hp3 : R p3) : nextHas (execSpacingCompareWrite p0 p1 p2 p3) R := by
  unfold execSpacingCompareWrite
  exact closed_writeNumber C hp3

theorem closed_execProbeEdge {p0} {p1} {p2} {p3} (hp3 : R p3) : nextHas (execProbeEdge p0 p1 p2 p3) R := by
  unfold execProbeEdge
  exact closed_whileClocked C hp3 (fun _ hy0 => closed_probeTakes C (closed_posCycles C hy0))

theorem closed_execProbeRecordOffer {p0} {p1} (hp1 : R p1) : nextHas (execProbeRecordOffer p0 p1) R := by
  unfold execProbeRecordOffer
  exact closed_whileClocked C hp1 (fun _ hy0 => closed_probeOffer C hy0)

end Sys2Proof.Laws
end

