-- ==== Sys2Proof/Laws/ClosedExecScheduler.lean ====
section
/-! SUPPORT. What a closed property of states keeps through the operations of Machine/ExecScheduler.lean. -/

namespace Sys2Proof.Laws

open Sys2Proof.Machine

set_option linter.unusedSectionVars false
set_option Elab.async false

variable {R : State → Prop} (C : Closed R)
include C

theorem closed_execScheduleRequest {p0} {p1} {p2} {p3} {p4} (hp4 : R p4) : nextHas (execScheduleRequest p0 p1 p2 p3 p4) R := by
  unfold execScheduleRequest
  exact closed_writeFree C hp4

theorem closed_execCancelTag {p0} {p1} {p2} (hp2 : R p2) : nextHas (execCancelTag p0 p1 p2) R := by
  unfold execCancelTag
  exact closed_writeNumber C hp2

theorem closed_execPulseWidthEnd {p0} {p1} (hp1 : R p1) : nextHas (execPulseWidthEnd p0 p1) R := by
  unfold execPulseWidthEnd
  exact closed_whileClocked C hp1 (fun _ hy0 => closed_pulseWidthEnd C hy0)

theorem closed_execWidthCap {p0} {p1} (hp1 : R p1) : nextHas (execWidthCap p0 p1) R := by
  unfold execWidthCap
  exact closed_whileClocked C hp1 (fun _ hy0 => closed_widthCap C hy0)

theorem closed_execForce {p0} {p1} {p2} {p3} (hp3 : R p3) : nextHas (execForce p0 p1 p2 p3) R := by
  unfold execForce
  exact closed_writeNumber C hp3

end Sys2Proof.Laws
end

