-- ==== Sys2Proof/Laws/ClosedExecCamera.lean ====
section
/-! SUPPORT. What a closed property of states keeps through the operations of Machine/ExecCamera.lean. -/

namespace Sys2Proof.Laws

open Sys2Proof.Machine

set_option linter.unusedSectionVars false
set_option Elab.async false

variable {R : State → Prop} (C : Closed R)
include C

theorem closed_execDiscoveryAttempt {p0} {p1} {p2} (hp2 : R p2) : nextHas (execDiscoveryAttempt p0 p1 p2) R := by
  unfold execDiscoveryAttempt
  exact closed_whileClocked C hp2 (fun _ hy0 => closed_discover C hy0)

theorem closed_execLinkUp {p0} {p1} {p2} (hp2 : R p2) : nextHas (execLinkUp p0 p1 p2) R := by
  unfold execLinkUp
  exact closed_whileClocked C hp2 (fun _ hy0 => closed_linkComesUp C hy0)

theorem closed_execTrainingFail {p0} {p1} (hp1 : R p1) : nextHas (execTrainingFail p0 p1) R := by
  unfold execTrainingFail
  exact closed_whileClocked C hp1 (fun _ hy0 => closed_trainingFails C hy0)

theorem closed_execTrainingRetry {p0} {p1} (hp1 : R p1) : nextHas (execTrainingRetry p0 p1) R := by
  unfold execTrainingRetry
  exact closed_whileClocked C hp1 (fun _ hy0 => closed_trainingRetries C hy0)

theorem closed_execLaneLockLoss {p0} {p1} (hp1 : R p1) : nextHas (execLaneLockLoss p0 p1) R := by
  unfold execLaneLockLoss
  exact closed_whileClocked C hp1 (fun _ hy0 => closed_linkLost C hy0)

theorem closed_execHeartbeat {p0} {p1} (hp1 : R p1) : nextHas (execHeartbeat p0 p1) R := by
  unfold execHeartbeat
  exact closed_whileClocked C hp1 (fun _ hy0 => closed_heartbeat C hy0)

theorem closed_execHeartbeatTimeout {p0} {p1} (hp1 : R p1) : nextHas (execHeartbeatTimeout p0 p1) R := by
  unfold execHeartbeatTimeout
  exact closed_whileClocked C hp1 (fun _ hy0 => closed_linkLost C hy0)

theorem closed_execTagExpired {p0} {p1} {p2} (hp2 : R p2) : nextHas (execTagExpired p0 p1 p2) R := by
  unfold execTagExpired
  exact closed_whileClocked C hp2 (fun _ hy0 => closed_retireExpired C (closed_posCycles C hy0))

theorem closed_execTriggerPacketFall {p0} {p1} (hp1 : R p1) : nextHas (execTriggerPacketFall p0 p1) R := by
  unfold execTriggerPacketFall
  exact closed_whileClocked C hp1 (fun _ hy0 => closed_triggerFalls C hy0)

theorem closed_execFrameStart {p0} {p1} {p2} (hp2 : R p2) : nextHas (execFrameStart p0 p1 p2) R := by
  unfold execFrameStart
  exact closed_whileClocked C hp2 (fun _ hy0 => closed_frameStart C (closed_posCycles C hy0))

theorem closed_execLineFirstPacket {p0} {p1} {p2} (hp2 : R p2) : nextHas (execLineFirstPacket p0 p1 p2) R := by
  unfold execLineFirstPacket
  exact closed_whileClocked C hp2 (fun _ hy0 => closed_firstPacket C (closed_posCycles C hy0))

theorem closed_execLineComplete {p0} {p1} {p2} {p3} {p4} {p5} {p6} {p7} {p8} (hp8 : R p8) : nextHas (execLineComplete p0 p1 p2 p3 p4 p5 p6 p7 p8) R := by
  unfold execLineComplete
  exact closed_whileClocked C hp8 (fun _ hy0 => closed_lineComplete C (closed_posCycles C hy0))

theorem closed_execFrameEnd {p0} {p1} {p2} (hp2 : R p2) : nextHas (execFrameEnd p0 p1 p2) R := by
  unfold execFrameEnd
  exact closed_whileClocked C hp2 (fun _ hy0 => closed_frameEnd C (closed_posCycles C hy0))

theorem closed_execControlRequest {p0} {p1} {p2} {p3} (hp3 : R p3) : nextHas (execControlRequest p0 p1 p2 p3) R := by
  unfold execControlRequest
  exact closed_writeFree C hp3

theorem closed_execControlResponse {p0} {p1} {p2} {p3} (hp3 : R p3) : nextHas (execControlResponse p0 p1 p2 p3) R := by
  unfold execControlResponse
  exact closed_whileClocked C hp3 (fun _ hy0 => closed_controlAnswer C hy0)

theorem closed_execControlTimeout {p0} {p1} (hp1 : R p1) : nextHas (execControlTimeout p0 p1) R := by
  unfold execControlTimeout
  exact closed_whileClocked C hp1 (fun _ hy0 => closed_controlTimesOut C hy0)

theorem closed_execCameraEvent {p0} {p1} {p2} (hp2 : R p2) : nextHas (execCameraEvent p0 p1 p2) R := by
  unfold execCameraEvent
  exact closed_whileClocked C hp2 (fun _ hy0 => closed_cameraEvent C hy0)

theorem closed_execReconnectTimeout {p0} {p1} (hp1 : R p1) : nextHas (execReconnectTimeout p0 p1) R := by
  unfold execReconnectTimeout
  exact closed_whileClocked C hp1 (fun _ hy0 => closed_reconnectTimesOut C hy0)

theorem closed_execResume {p0} {p1} {p2} {p3} (hp3 : R p3) : nextHas (execResume p0 p1 p2 p3) R := by
  unfold execResume
  exact closed_writeNumber C hp3

theorem closed_execStripLengthWrite {p0} {p1} {p2} (hp2 : R p2) : nextHas (execStripLengthWrite p0 p1 p2) R := by
  unfold execStripLengthWrite
  exact closed_writeNumber C hp2

end Sys2Proof.Laws
end

