-- ==== Sys2Proof/Laws/ClosedExecPipeline.lean ====
section
/-! SUPPORT. What a closed property of states keeps through the operations of Machine/ExecPipeline.lean. -/

namespace Sys2Proof.Laws

open Sys2Proof.Machine

set_option linter.unusedSectionVars false
set_option Elab.async false

variable {R : State → Prop} (C : Closed R)
include C

theorem closed_execIplInput {p0} {p1} {p2} (hp2 : R p2) : nextHas (execIplInput p0 p1 p2) R := by
  unfold execIplInput
  exact closed_whileClocked C hp2 (fun _ hy0 => closed_bstStep C (closed_iplInput C hy0))

theorem closed_execSpareTarget {p0} {p1} {p2} (hp2 : R p2) : nextHas (execSpareTarget p0 p1 p2) R := by
  unfold execSpareTarget
  exact closed_writeNumber C hp2

theorem closed_execSpareLoaded {p0} {p1} (hp1 : R p1) : nextHas (execSpareLoaded p0 p1) R := by
  unfold execSpareLoaded
  exact closed_whileClocked C hp1 (fun _ hy0 => closed_bstStep C (closed_spareLoaded C hy0))

theorem closed_execTakeOver {p0} {p1} (hp1 : R p1) : nextHas (execTakeOver p0 p1) R := by
  unfold execTakeOver
  exact closed_writeNumber C hp1

theorem closed_execHandBack {p0} {p1} (hp1 : R p1) : nextHas (execHandBack p0 p1) R := by
  unfold execHandBack
  exact closed_writeNumber C hp1

theorem closed_execRelease {p0} {p1} (hp1 : R p1) : nextHas (execRelease p0 p1) R := by
  unfold execRelease
  exact closed_writeNumber C hp1

theorem closed_execStitchedLine {p0} (hp0 : R p0) : nextHas (execStitchedLine p0) R := by
  unfold execStitchedLine
  exact closed_whileClocked C hp0 (fun _ hy0 => closed_stitchReady C hy0)

theorem closed_execLineWait {p0} (hp0 : R p0) : nextHas (execLineWait p0) R := by
  unfold execLineWait
  exact closed_whileClocked C hp0 (fun _ hy0 => closed_stitchWaited C hy0)

end Sys2Proof.Laws
end

