-- ==== Sys2Proof/Laws/ClosedExecBraid.lean ====
section
/-! SUPPORT. What a closed property of states keeps through the operations of Machine/ExecBraid.lean. -/

namespace Sys2Proof.Laws

open Sys2Proof.Machine

set_option linter.unusedSectionVars false
set_option Elab.async false

variable {R : State → Prop} (C : Closed R)
include C

theorem closed_execBraidTrainingComplete {p0} {p1} {p2} {p3} {p4} {p5} {p6} {p7} {p8} (hp8 : R p8) : nextHas (execBraidTrainingComplete p0 p1 p2 p3 p4 p5 p6 p7 p8) R := by
  unfold execBraidTrainingComplete
  exact closed_whileClocked C hp8 (fun _ hy0 => closed_braidComplete C hy0)

theorem closed_execBraidTrainingTimeout {p0} {p1} (hp1 : R p1) : nextHas (execBraidTrainingTimeout p0 p1) R := by
  unfold execBraidTrainingTimeout
  exact closed_whileClocked C hp1 (fun _ hy0 => closed_braidFails C hy0)

theorem closed_execBraidTrainingRetry {p0} {p1} (hp1 : R p1) : nextHas (execBraidTrainingRetry p0 p1) R := by
  unfold execBraidTrainingRetry
  exact closed_whileClocked C hp1 (fun _ hy0 => closed_braidRetry C hy0)

theorem closed_execRetrainInterval {p0} {p1} (hp1 : R p1) : nextHas (execRetrainInterval p0 p1) R := by
  unfold execRetrainInterval
  exact closed_whileClocked C hp1 (fun _ hy0 => closed_braidAgain C hy0)

theorem closed_execBraidClockLoss {p0} {p1} (hp1 : R p1) : nextHas (execBraidClockLoss p0 p1) R := by
  unfold execBraidClockLoss
  exact closed_whileClocked C hp1 (fun _ hy0 => closed_reclaimPartials C (closed_clockLost C hy0))

theorem closed_execBraidEyeTracking {p0} {p1} {p2} {p3} (hp3 : R p3) : nextHas (execBraidEyeTracking p0 p1 p2 p3) R := by
  unfold execBraidEyeTracking
  exact closed_whileClocked C hp3 (fun _ hy0 => closed_braidTap C hy0)

theorem closed_execFlitReceive {p0} {p1} {p2} (hp2 : R p2) : nextHas (execFlitReceive p0 p1 p2) R := by
  unfold execFlitReceive
  exact closed_whileClocked C hp2 (fun _ hy0 => closed_reclaimPartials C (closed_flitReceive C hy0))

theorem closed_execNak {p0} {p1} {p2} (hp2 : R p2) : nextHas (execNak p0 p1 p2) R := by
  unfold execNak
  exact closed_whileClocked C hp2 (fun _ hy0 => closed_reclaimPartials C (closed_flitNak C hy0))

theorem closed_execAckTimeout {p0} {p1} (hp1 : R p1) : nextHas (execAckTimeout p0 p1) R := by
  unfold execAckTimeout
  exact closed_whileClocked C hp1 (fun _ hy0 => closed_reclaimPartials C (closed_ackTimesOut C hy0))

theorem closed_execOverlapMessage {p0} {p1} (hp1 : R p1) : nextHas (execOverlapMessage p0 p1) R := by
  unfold execOverlapMessage
  exact closed_whileClocked C hp1 (fun _ hy0 => closed_overlapReceive C hy0)

theorem closed_execRejoin {p0} {p1} (hp1 : R p1) : nextHas (execRejoin p0 p1) R := by
  unfold execRejoin
  exact closed_whileClocked C hp1 (fun _ hy0 => closed_rejoinReceive C hy0)

theorem closed_execBlobEdgeSummary {p0} {p1} (hp1 : R p1) : nextHas (execBlobEdgeSummary p0 p1) R := by
  unfold execBlobEdgeSummary
  exact closed_whileClocked C hp1 (fun _ hy0 => closed_summaryReceive C hy0)

end Sys2Proof.Laws
end

