-- ==== Sys2Proof/Laws/ClosedExecMaster.lean ====
section
/-! SUPPORT. What a closed property of states keeps through the operations of Machine/ExecMaster.lean. -/

namespace Sys2Proof.Laws

open Sys2Proof.Machine

set_option linter.unusedSectionVars false
set_option Elab.async false

variable {R : State → Prop} (C : Closed R)
include C

theorem closed_execPageSubmit {p0} {p1} {p2} (hp2 : R p2) : nextHas (execPageSubmit p0 p1 p2) R := by
  unfold execPageSubmit
  exact closed_writeFree C hp2

theorem closed_execMasterLoadStart {p0} (hp0 : R p0) : nextHas (execMasterLoadStart p0) R := by
  unfold execMasterLoadStart
  exact closed_whileClocked C hp0 (fun _ hy0 => closed_startLoad C hy0)

theorem closed_execMasterLoadComplete {p0} {p1} {p2} (hp2 : R p2) : nextHas (execMasterLoadComplete p0 p1 p2) R := by
  unfold execMasterLoadComplete
  split
  · exact closed_whileClocked C hp2 (fun _ hy0 => closed_endLoad C hy0)
  · trivial

theorem closed_execLoadTimeout {p0} (hp0 : R p0) : nextHas (execLoadTimeout p0) R := by
  unfold execLoadTimeout
  exact closed_whileClocked C hp0 (fun _ hy0 => closed_loadTimesOut C hy0)

theorem closed_execQueueFlush {p0} {p1} (hp1 : R p1) : nextHas (execQueueFlush p0 p1) R := by
  unfold execQueueFlush
  exact closed_writeNumber C hp1

theorem closed_execMapReset {p0} {p1} (hp1 : R p1) : nextHas (execMapReset p0 p1) R := by
  unfold execMapReset
  exact closed_writeNumber C hp1

theorem closed_execRelock {p0} {p1} (hp1 : R p1) : nextHas (execRelock p0 p1) R := by
  unfold execRelock
  exact closed_writeNumber C hp1

theorem closed_execRenumber {p0} {p1} (hp1 : R p1) : nextHas (execRenumber p0 p1) R := by
  unfold execRenumber
  exact closed_writeNumber C hp1

theorem closed_execPageMark {p0} (hp0 : R p0) : nextHas (execPageMark p0) R := by
  unfold execPageMark
  exact closed_whileClocked C hp0 (fun _ hy0 => closed_nextMark C hy0)

theorem closed_execMarkExpiry {p0} (hp0 : R p0) : nextHas (execMarkExpiry p0) R := by
  unfold execMarkExpiry
  exact closed_whileClocked C hp0 (fun _ hy0 => closed_expire C hy0)

theorem closed_execJobSubmit {p0} {p1} {p2} (hp2 : R p2) : nextHas (execJobSubmit p0 p1 p2) R := by
  unfold execJobSubmit
  exact closed_writeFree C hp2

theorem closed_execLaneDispatch {p0} {p1} (hp1 : R p1) : nextHas (execLaneDispatch p0 p1) R := by
  unfold execLaneDispatch
  exact closed_whileClocked C hp1 (fun _ hy0 => closed_dispatchLane C hy0)

theorem closed_execBlockComplete {p0} {p1} (hp1 : R p1) : nextHas (execBlockComplete p0 p1) R := by
  unfold execBlockComplete
  exact closed_whileClocked C hp1 (fun _ hy0 => closed_finishLane C hy0)

theorem closed_execJobCancel {p0} {p1} {p2} (hp2 : R p2) : nextHas (execJobCancel p0 p1 p2) R := by
  unfold execJobCancel
  exact closed_writeNumber C hp2

end Sys2Proof.Laws
end

