-- ==== Sys2Proof/Laws/ClosedExecDetect.lean ====
section
/-! SUPPORT. What a closed property of states keeps through the operations of Machine/ExecDetect.lean. -/

namespace Sys2Proof.Laws

open Sys2Proof.Machine

set_option linter.unusedSectionVars false
set_option Elab.async false

variable {R : State → Prop} (C : Closed R)
include C

theorem closed_execBlobRecordEnqueue {p0} (hp0 : R p0) : nextHas (execBlobRecordEnqueue p0) R := by
  unfold execBlobRecordEnqueue
  exact closed_whileClocked C hp0 (fun _ hy0 => closed_enqueueRecord C hy0)

theorem closed_execIdleClose {p0} (hp0 : R p0) : nextHas (execIdleClose p0) R := by
  unfold execIdleClose
  exact closed_whileClocked C hp0 (fun _ hy0 => closed_idleClose C hy0)

theorem closed_execPartialWait {p0} (hp0 : R p0) : nextHas (execPartialWait p0) R := by
  unfold execPartialWait
  exact closed_whileClocked C hp0 (fun _ hy0 => closed_partialsLate C hy0)

theorem closed_execSegSpareTarget {p0} {p1} {p2} {p3} (hp3 : R p3) : nextHas (execSegSpareTarget p0 p1 p2 p3) R := by
  unfold execSegSpareTarget
  exact closed_writeNumber C hp3

theorem closed_execSegSpareLoaded {p0} {p1} (hp1 : R p1) : nextHas (execSegSpareLoaded p0 p1) R := by
  unfold execSegSpareLoaded
  exact closed_whileClocked C hp1 (fun _ hy0 => closed_bstStep C (closed_segSpareLoaded C hy0))

theorem closed_execSegSpareTakeOver {p0} {p1} {p2} (hp2 : R p2) : nextHas (execSegSpareTakeOver p0 p1 p2) R := by
  unfold execSegSpareTakeOver
  exact closed_writeNumber C hp2

theorem closed_execSegSpareHandBack {p0} {p1} {p2} (hp2 : R p2) : nextHas (execSegSpareHandBack p0 p1 p2) R := by
  unfold execSegSpareHandBack
  exact closed_writeNumber C hp2

theorem closed_execSegSpareRelease {p0} {p1} {p2} (hp2 : R p2) : nextHas (execSegSpareRelease p0 p1 p2) R := by
  unfold execSegSpareRelease
  exact closed_writeNumber C hp2

theorem closed_execEngineClear {p0} {p1} {p2} (hp2 : R p2) : nextHas (execEngineClear p0 p1 p2) R := by
  unfold execEngineClear
  exact closed_writeNumber C hp2

theorem closed_execClsInput {p0} (hp0 : R p0) : nextHas (execClsInput p0) R := by
  unfold execClsInput
  exact closed_whileClocked C hp0 (fun _ hy0 => closed_settle C (closed_clsInput C hy0))

theorem closed_execLedgerLookup {p0} (hp0 : R p0) : nextHas (execLedgerLookup p0) R := by
  unfold execLedgerLookup
  exact closed_whileClocked C hp0 (fun _ hy0 => closed_settle C (closed_lookUp C hy0))

theorem closed_execCrumbPush {p0} (hp0 : R p0) : nextHas (execCrumbPush p0) R := by
  unfold execCrumbPush
  exact closed_whileClocked C hp0 (fun _ hy0 => closed_pushCrumb C hy0)

theorem closed_execLedgerClear {p0} {p1} {p2} (hp2 : R p2) : nextHas (execLedgerClear p0 p1 p2) R := by
  unfold execLedgerClear
  exact closed_writeNumber C hp2

theorem closed_execLedgerSweepStep {p0} (hp0 : R p0) : nextHas (execLedgerSweepStep p0) R := by
  unfold execLedgerSweepStep
  exact closed_whileClocked C hp0 (fun _ hy0 => closed_sweepStep C hy0)

theorem closed_execPfcOutput {p0} (hp0 : R p0) : nextHas (execPfcOutput p0) R := by
  unfold execPfcOutput
  exact closed_whileClocked C hp0 (fun _ hy0 => closed_pfcDrain C (closed_pfcOutput C hy0))

theorem closed_execStreakEventEnqueue {p0} (hp0 : R p0) : nextHas (execStreakEventEnqueue p0) R := by
  unfold execStreakEventEnqueue
  exact closed_whileClocked C hp0 (fun _ hy0 => closed_streakEnqueue C hy0)

theorem closed_execSwapRequest {p0} {p1} (hp1 : R p1) : nextHas (execSwapRequest p0 p1) R := by
  unfold execSwapRequest
  exact closed_writeNumber C hp1

theorem closed_execSwapCancel {p0} {p1} (hp1 : R p1) : nextHas (execSwapCancel p0 p1) R := by
  unfold execSwapCancel
  exact closed_writeNumber C hp1

theorem closed_execBankWrite {p0} {p1} {p2} {p3} {p4} (hp4 : R p4) : nextHas (execBankWrite p0 p1 p2 p3 p4) R := by
  unfold execBankWrite
  exact closed_bankRowWrite C hp4

end Sys2Proof.Laws
end

