-- ==== Sys2Proof/Laws/ClosedExecDelivery.lean ====
section
/-! SUPPORT. What a closed property of states keeps through the operations of Machine/ExecDelivery.lean. -/

namespace Sys2Proof.Laws

open Sys2Proof.Machine

set_option linter.unusedSectionVars false
set_option Elab.async false

variable {R : State → Prop} (C : Closed R)
include C

theorem closed_execLossRecord {p0} {p1} (hp1 : R p1) : nextHas (execLossRecord p0 p1) R := by
  unfold execLossRecord
  exact closed_whileClocked C hp1 (fun _ hy0 => closed_pushLoss C hy0)

theorem closed_execQueueFlagsRead {p0} {p1} {p2} (hp2 : R p2) : nextHas (execQueueFlagsRead p0 p1 p2) R := by
  unfold execQueueFlagsRead
  exact closed_readRequest C hp2

theorem closed_execDoorbell {p0} {p1} {p2} (hp2 : R p2) : nextHas (execDoorbell p0 p1 p2) R := by
  unfold execDoorbell
  exact closed_overLink C hp2 (fun _ hy0 => closed_barAccess C hy0)

theorem closed_execDescriptorFetch {p0} {p1} {p2} {p3} (hp3 : R p3) : nextHas (execDescriptorFetch p0 p1 p2 p3) R := by
  unfold execDescriptorFetch
  exact closed_whileClocked C hp3 (fun _ hy0 => closed_fetched C hy0)

theorem closed_execFetchRetry {p0} {p1} {p2} {p3} (hp3 : R p3) : nextHas (execFetchRetry p0 p1 p2 p3) R := by
  unfold execFetchRetry
  split
  · exact closed_whileClocked C hp3 (fun _ hy0 => closed_retryRead C hy0)
  · trivial

theorem closed_execDmaPacket {p0} {p1} (hp1 : R p1) : nextHas (execDmaPacket p0 p1) R := by
  unfold execDmaPacket
  exact closed_whileClocked C hp1 (fun _ hy0 => closed_dmaPacket C hy0)

theorem closed_execCloseTimeout {p0} {p1} (hp1 : R p1) : nextHas (execCloseTimeout p0 p1) R := by
  unfold execCloseTimeout
  exact closed_whileClocked C hp1 (fun _ hy0 => closed_closeTimesOut C hy0)

theorem closed_execDescriptorComplete {p0} {p1} {p2} {p3} (hp3 : R p3) : nextHas (execDescriptorComplete p0 p1 p2 p3) R := by
  unfold execDescriptorComplete
  split
  · exact closed_whileClocked C hp3 (fun _ hy0 => closed_completeDescriptor C hy0)
  · trivial

theorem closed_execFenceRead {p0} {p1} {p2} (hp2 : R p2) : nextHas (execFenceRead p0 p1 p2) R := by
  unfold execFenceRead
  exact closed_whileClocked C hp2 (fun _ hy0 => closed_fenceRead C hy0)

theorem closed_execPause {p0} {p1} {p2} (hp2 : R p2) : nextHas (execPause p0 p1 p2) R := by
  unfold execPause
  exact closed_writeNumber C hp2

theorem closed_execChannelResume {p0} {p1} {p2} (hp2 : R p2) : nextHas (execChannelResume p0 p1 p2) R := by
  unfold execChannelResume
  exact closed_writeNumber C hp2

theorem closed_execFlush {p0} {p1} {p2} (hp2 : R p2) : nextHas (execFlush p0 p1 p2) R := by
  unfold execFlush
  exact closed_writeNumber C hp2

theorem closed_execWriteFail {p0} {p1} (hp1 : R p1) : nextHas (execWriteFail p0 p1) R := by
  unfold execWriteFail
  exact closed_whileClocked C hp1 (fun _ hy0 => closed_writeFails C hy0)

theorem closed_execCompletionTimeout {p0} {p1} {p2} (hp2 : R p2) : nextHas (execCompletionTimeout p0 p1 p2) R := by
  unfold execCompletionTimeout
  exact closed_whileClocked C hp2 (fun _ hy0 => closed_readTimesOut C hy0)

theorem closed_execShadowArm {p0} {p1} {p2} {p3} {p4} (hp4 : R p4) : nextHas (execShadowArm p0 p1 p2 p3 p4) R := by
  unfold execShadowArm
  exact closed_shadowWrite C hp4

theorem closed_execCropCut {p0} (hp0 : R p0) : nextHas (execCropCut p0) R := by
  unfold execCropCut
  exact closed_whileClocked C hp0 (fun _ hy0 => closed_cutCrop C hy0)

theorem closed_execCropBlockEncoded {p0} (hp0 : R p0) : nextHas (execCropBlockEncoded p0) R := by
  unfold execCropBlockEncoded
  exact closed_whileClocked C hp0 (fun _ hy0 => closed_takeEncoded C hy0)

theorem closed_execCropDeliver {p0} (hp0 : R p0) : nextHas (execCropDeliver p0) R := by
  unfold execCropDeliver
  exact closed_whileClocked C hp0 (fun _ hy0 => closed_deliverCrop C hy0)

theorem closed_execFunctionLevelReset {p0} (hp0 : R p0) : nextHas (execFunctionLevelReset p0) R := by
  unfold execFunctionLevelReset
  exact closed_whileOn C hp0 (fun _ hy0 => closed_functionReset C hy0)

theorem closed_execPcieLinkDown {p0} (hp0 : R p0) : nextHas (execPcieLinkDown p0) R := by
  unfold execPcieLinkDown
  exact closed_whileOn C hp0 (fun _ hy0 => closed_pcieDown C hy0)

theorem closed_execPcieLinkUp {p0} {p1} {p2} (hp2 : R p2) : nextHas (execPcieLinkUp p0 p1 p2) R := by
  unfold execPcieLinkUp
  exact closed_whileOn C hp2 (fun _ hy0 => closed_linkUp C hy0)

theorem closed_execBusMasterDisable {p0} (hp0 : R p0) : nextHas (execBusMasterDisable p0) R := by
  unfold execBusMasterDisable
  exact closed_overLink C hp0 (fun _ hy0 => closed_setBusMaster C hy0)

theorem closed_execBusMasterEnable {p0} (hp0 : R p0) : nextHas (execBusMasterEnable p0) R := by
  unfold execBusMasterEnable
  exact closed_overLink C hp0 (fun _ hy0 => closed_setBusMaster C hy0)

theorem closed_execAerError {p0} {p1} (hp1 : R p1) : nextHas (execAerError p0 p1) R := by
  unfold execAerError
  exact closed_overLink C hp1 (fun _ hy0 => closed_aerError C hy0)

theorem closed_execBar4Read {p0} {p1} {p2} (hp2 : R p2) : nextHas (execBar4Read p0 p1 p2) R := by
  unfold execBar4Read
  exact closed_overLink C hp2 (fun _ hy0 => closed_windowRead C hy0)

theorem closed_execBar4Write {p0} {p1} {p2} (hp2 : R p2) : nextHas (execBar4Write p0 p1 p2) R := by
  unfold execBar4Write
  exact closed_overLink C hp2 (fun _ hy0 => closed_bar4Write C hy0)

end Sys2Proof.Laws
end

