-- ==== Sys2Proof/Laws/ClosedExecMemory.lean ====
section
/-! SUPPORT. What a closed property of states keeps through the operations of Machine/ExecMemory.lean. -/

namespace Sys2Proof.Laws

open Sys2Proof.Machine

set_option linter.unusedSectionVars false
set_option Elab.async false

variable {R : State → Prop} (C : Closed R)
include C

theorem closed_execDramAccess {p0} {p1} {p2} {p3} (hp3 : R p3) : nextHas (execDramAccess p0 p1 p2 p3) R := by
  unfold execDramAccess
  split
  · exact closed_whileClocked C hp3 (fun _ hy0 => closed_serveDram C (closed_acceptDram C hy0))
  · trivial

theorem closed_execRequestAging {p0} {p1} (hp1 : R p1) : nextHas (execRequestAging p0 p1) R := by
  unfold execRequestAging
  exact closed_whileClocked C hp1 (fun _ hy0 => closed_ageDram C hy0)

theorem closed_execDramReadRetry {p0} {p1} {p2} (hp2 : R p2) : nextHas (execDramReadRetry p0 p1 p2) R := by
  unfold execDramReadRetry
  exact closed_whileClocked C hp2 (fun _ hy0 => closed_retryDram C hy0)

theorem closed_execRdimmAlert {p0} {p1} {p2} {p3} (hp3 : R p3) : nextHas (execRdimmAlert p0 p1 p2 p3) R := by
  unfold execRdimmAlert
  split
  · exact closed_whileClocked C hp3 (fun _ hy0 => closed_alertDram C hy0)
  · trivial

theorem closed_execScrubPass {p0} {p1} {p2} {p3} (hp3 : R p3) : nextHas (execScrubPass p0 p1 p2 p3) R := by
  unfold execScrubPass
  exact closed_whileClocked C hp3 (fun _ hy0 => closed_scrubPass C hy0)

theorem closed_execRefresh {p0} {p1} (hp1 : R p1) : nextHas (execRefresh p0 p1) R := by
  unfold execRefresh
  exact closed_whileClocked C hp1 (fun _ hy0 => closed_refreshDram C hy0)

theorem closed_execTemperaturePoll {p0} {p1} {p2} (hp2 : R p2) : nextHas (execTemperaturePoll p0 p1 p2) R := by
  unfold execTemperaturePoll
  exact closed_whileClocked C hp2 (fun _ hy0 => closed_pollBand C hy0)

theorem closed_execEyeTracking {p0} {p1} {p2} {p3} (hp3 : R p3) : nextHas (execEyeTracking p0 p1 p2 p3) R := by
  unfold execEyeTracking
  exact closed_whileClocked C hp3 (fun _ hy0 => closed_trackEyes C hy0)

theorem closed_execRetrainComplete {p0} {p1} {p2} (hp2 : R p2) : nextHas (execRetrainComplete p0 p1 p2) R := by
  unfold execRetrainComplete
  exact closed_whileClocked C hp2 (fun _ hy0 => closed_retrained C hy0)

theorem closed_execRetrainRetry {p0} {p1} (hp1 : R p1) : nextHas (execRetrainRetry p0 p1) R := by
  unfold execRetrainRetry
  exact closed_whileClocked C hp1 (fun _ hy0 => closed_retrainAgain C hy0)

theorem closed_execErrorInjection {p0} {p1} {p2} (hp2 : R p2) : nextHas (execErrorInjection p0 p1 p2) R := by
  unfold execErrorInjection
  exact closed_writeFree C hp2

end Sys2Proof.Laws
end

