-- ==== Sys2Proof/Laws/ClosedExecEvents.lean ====
section
/-! SUPPORT. What a closed property of states keeps through the operations of Machine/ExecEvents.lean. -/

namespace Sys2Proof.Laws

open Sys2Proof.Machine

set_option linter.unusedSectionVars false
set_option Elab.async false

variable {R : State → Prop} (C : Closed R)
include C

theorem closed_execFire {p0} {p1} {p2} (hp2 : R p2) : nextHas (execFire p0 p1 p2) R := by
  unfold execFire
  exact closed_channelWrite C hp2

theorem closed_execTaskBusyEnd {p0} {p1} (hp1 : R p1) : nextHas (execTaskBusyEnd p0 p1) R := by
  unfold execTaskBusyEnd
  exact closed_whileClocked C hp1 (fun _ hy0 => closed_taskBusyEnds C hy0)

theorem closed_execCrossingExit {p0} {p1} (hp1 : R p1) : nextHas (execCrossingExit p0 p1) R := by
  unfold execCrossingExit
  exact closed_whileClocked C hp1 (fun _ hy0 => closed_crossingExit C hy0)

theorem closed_execVectorHoldoff {p0} {p1} (hp1 : R p1) : nextHas (execVectorHoldoff p0 p1) R := by
  unfold execVectorHoldoff
  exact closed_whileClocked C hp1 (fun _ hy0 => closed_vectorHoldoff C hy0)

theorem closed_execClaimOpen {p0} {p1} {p2} (hp2 : R p2) : nextHas (execClaimOpen p0 p1 p2) R := by
  unfold execClaimOpen
  exact closed_channelWrite C hp2

theorem closed_execClaimSecure {p0} {p1} {p2} (hp2 : R p2) : nextHas (execClaimSecure p0 p1 p2) R := by
  unfold execClaimSecure
  exact closed_channelWrite C hp2

theorem closed_execClaimRelease {p0} {p1} {p2} (hp2 : R p2) : nextHas (execClaimRelease p0 p1 p2) R := by
  unfold execClaimRelease
  exact closed_channelWrite C hp2

theorem closed_execChannelEnable {p0} {p1} {p2} {p3} (hp3 : R p3) : nextHas (execChannelEnable p0 p1 p2 p3) R := by
  unfold execChannelEnable
  exact closed_channelWrite C hp3

end Sys2Proof.Laws
end

