-- ==== Sys2Proof/Laws/ClosedExecSession.lean ====
section
/-! SUPPORT. What a closed property of states keeps through the operations of Machine/ExecSession.lean. -/

namespace Sys2Proof.Laws

open Sys2Proof.Machine

set_option linter.unusedSectionVars false
set_option Elab.async false

variable {R : State → Prop} (C : Closed R)
include C

theorem closed_execOpenCmd {p0} {p1} {p2} {p3} {p4} (hp4 : R p4) : nextHas (execOpenCmd p0 p1 p2 p3 p4) R := by
  unfold execOpenCmd
  exact closed_openRequest C hp4

theorem closed_execClose {p0} {p1} (hp1 : R p1) : nextHas (execClose p0 p1) R := by
  unfold execClose
  exact closed_closeRequest C hp1

theorem closed_execKeepalive {p0} {p1} (hp1 : R p1) : nextHas (execKeepalive p0 p1) R := by
  unfold execKeepalive
  exact closed_request C hp1 (fun _ _ hy0 => closed_keepAlive C hy0)

theorem closed_execAuthChallenge {p0} {p1} (hp1 : R p1) : nextHas (execAuthChallenge p0 p1) R := by
  unfold execAuthChallenge
  exact closed_authOne C hp1

theorem closed_execAuthResponse {p0} {p1} {p2} {p3} {p4} (hp4 : R p4) : nextHas (execAuthResponse p0 p1 p2 p3 p4) R := by
  unfold execAuthResponse
  exact closed_authTwo C hp4

theorem closed_execRead {p0} {p1} {p2} {p3} {p4} (hp4 : R p4) : nextHas (execRead p0 p1 p2 p3 p4) R := by
  unfold execRead
  exact closed_readRequest C hp4

theorem closed_execDomRead {p0} {p1} {p2} {p3} (hp3 : R p3) : nextHas (execDomRead p0 p1 p2 p3) R := by
  unfold execDomRead
  exact closed_request C hp3 (fun _ _ hy0 => closed_domReadReply C hy0)

theorem closed_execDomWrite {p0} {p1} {p2} {p3} {p4} (hp4 : R p4) : nextHas (execDomWrite p0 p1 p2 p3 p4) R := by
  unfold execDomWrite
  exact closed_request C hp4 (fun _ _ hy0 => closed_domWriteReply C hy0)

theorem closed_execSegmentRead {p0} {p1} {p2} {p3} {p4} (hp4 : R p4) : nextHas (execSegmentRead p0 p1 p2 p3 p4) R := by
  unfold execSegmentRead
  exact closed_request C hp4 (fun _ _ hy0 => closed_segmentReply C hy0)

theorem closed_execSegmentWrite {p0} {p1} {p2} {p3} {p4} (hp4 : R p4) : nextHas (execSegmentWrite p0 p1 p2 p3 p4) R := by
  unfold execSegmentWrite
  exact closed_request C hp4 (fun _ _ hy0 => closed_segmentReply C hy0)

theorem closed_execDomAbort {p0} {p1} (hp1 : R p1) : nextHas (execDomAbort p0 p1) R := by
  unfold execDomAbort
  exact closed_request C hp1 (fun _ _ hy0 => closed_domAbort C hy0)

theorem closed_execDiscover {p0} {p1} {p2} (hp2 : R p2) : nextHas (execDiscover p0 p1 p2) R := by
  unfold execDiscover
  exact closed_discoverRequest C hp2

theorem closed_execVdpFrameDiscard {p0} {p1} (hp1 : R p1) : nextHas (execVdpFrameDiscard p0 p1) R := by
  unfold execVdpFrameDiscard
  exact closed_whileManaged C hp1 (fun _ hy0 => closed_netDiscard C hy0)

theorem closed_execSessionTimeout {p0} {p1} (hp1 : R p1) : nextHas (execSessionTimeout p0 p1) R := by
  unfold execSessionTimeout
  exact closed_sessionExpires C hp1

theorem closed_execSessionEnd {p0} {p1} {p2} (hp2 : R p2) : nextHas (execSessionEnd p0 p1 p2) R := by
  unfold execSessionEnd
  exact closed_writeNumber C hp2

theorem closed_execSegmentTimeout {p0} {p1} (hp1 : R p1) : nextHas (execSegmentTimeout p0 p1) R := by
  unfold execSegmentTimeout
  exact closed_segmentExpires C hp1

theorem closed_execClientHello {p0} {p1} {p2} {p3} (hp3 : R p3) : nextHas (execClientHello p0 p1 p2 p3) R := by
  unfold execClientHello
  exact closed_clientHello C hp3

theorem closed_execDtlsHandshake {p0} {p1} {p2} {p3} (hp3 : R p3) : nextHas (execDtlsHandshake p0 p1 p2 p3) R := by
  unfold execDtlsHandshake
  exact closed_handshake C hp3

theorem closed_execHandshakeTimeout {p0} {p1} (hp1 : R p1) : nextHas (execHandshakeTimeout p0 p1) R := by
  unfold execHandshakeTimeout
  exact closed_whileManaged C hp1 (fun _ hy0 => closed_handshakeTimesOut C hy0)

theorem closed_execDtlsClose {p0} {p1} (hp1 : R p1) : nextHas (execDtlsClose p0 p1) R := by
  unfold execDtlsClose
  exact closed_dtlsClose C hp1

theorem closed_execGroupResponse {p0} (hp0 : R p0) : nextHas (execGroupResponse p0) R := by
  unfold execGroupResponse
  exact closed_groupAnswer C hp0

theorem closed_execMailboxPost {p0} {p1} {p2} {p3} (hp3 : R p3) : nextHas (execMailboxPost p0 p1 p2 p3) R := by
  unfold execMailboxPost
  exact closed_mailboxPost C (closed_mailboxFill C (closed_mailboxStatus C hp3))

theorem closed_execMailboxAck {p0} {p1} {p2} (hp2 : R p2) : nextHas (execMailboxAck p0 p1 p2) R := by
  unfold execMailboxAck
  exact closed_mailboxAck C (closed_mailboxStatus C hp2)

theorem closed_execNodeIdWrite {p0} {p1} {p2} (hp2 : R p2) : nextHas (execNodeIdWrite p0 p1 p2) R := by
  unfold execNodeIdWrite
  exact closed_writeNumber C hp2

theorem closed_execTrustAnchorWrite {p0} {p1} {p2} {p3} (hp3 : R p3) : nextHas (execTrustAnchorWrite p0 p1 p2 p3) R := by
  unfold execTrustAnchorWrite
  exact closed_writeFree C hp3

end Sys2Proof.Laws
end

