-- ==== Sys2Proof/Laws/ClosedExecNetwork.lean ====
section
/-! SUPPORT. What a closed property of states keeps through the operations of Machine/ExecNetwork.lean. -/

namespace Sys2Proof.Laws

open Sys2Proof.Machine

set_option linter.unusedSectionVars false
set_option Elab.async false

variable {R : State → Prop} (C : Closed R)
include C

theorem closed_execFnpLinkUp {p0} {p1} {p2} (hp2 : R p2) : nextHas (execFnpLinkUp p0 p1 p2) R := by
  unfold execFnpLinkUp
  exact closed_whileClocked C hp2 (fun _ hy0 => closed_fnpLinkUp C hy0)

theorem closed_execFnpLinkLoss {p0} {p1} (hp1 : R p1) : nextHas (execFnpLinkLoss p0 p1) R := by
  unfold execFnpLinkLoss
  exact closed_whileClocked C hp1 (fun _ hy0 => closed_fnpLinkLoss C hy0)

theorem closed_execModeAlternation {p0} {p1} (hp1 : R p1) : nextHas (execModeAlternation p0 p1) R := by
  unfold execModeAlternation
  exact closed_whileClocked C hp1 (fun _ hy0 => closed_modeAlternates C hy0)

theorem closed_execArp {p0} {p1} {p2} {p3} {p4} (hp4 : R p4) : nextHas (execArp p0 p1 p2 p3 p4) R := by
  unfold execArp
  exact closed_whileClocked C hp4 (fun _ hy0 => closed_arp C hy0)

theorem closed_execIcmpEcho {p0} {p1} {p2} {p3} {p4} (hp4 : R p4) : nextHas (execIcmpEcho p0 p1 p2 p3 p4) R := by
  unfold execIcmpEcho
  exact closed_whileClocked C hp4 (fun _ hy0 => closed_icmpEcho C hy0)

theorem closed_execFnpFrameDiscard {p0} {p1} {p2} (hp2 : R p2) : nextHas (execFnpFrameDiscard p0 p1 p2) R := by
  unfold execFnpFrameDiscard
  exact closed_whileClocked C hp2 (fun _ hy0 => closed_frameDiscard C hy0)

theorem closed_execPtpSync {p0} {p1} {p2} {p3} {p4} (hp4 : R p4) : nextHas (execPtpSync p0 p1 p2 p3 p4) R := by
  unfold execPtpSync
  exact closed_whileClocked C hp4 (fun _ hy0 => closed_ptpSync C (closed_advance C hy0))

theorem closed_execPtpFollowUp {p0} {p1} {p2} {p3} (hp3 : R p3) : nextHas (execPtpFollowUp p0 p1 p2 p3) R := by
  unfold execPtpFollowUp
  exact closed_whileClocked C hp3 (fun _ hy0 => closed_ptpFollowUp C (closed_advance C hy0))

theorem closed_execPtpDelayReq {p0} {p1} {p2} {p3} {p4} (hp4 : R p4) : nextHas (execPtpDelayReq p0 p1 p2 p3 p4) R := by
  unfold execPtpDelayReq
  exact closed_whileClocked C hp4 (fun _ hy0 => closed_ptpDelayReq C (closed_advance C hy0))

theorem closed_execPtpDelayResp {p0} {p1} {p2} {p3} (hp3 : R p3) : nextHas (execPtpDelayResp p0 p1 p2 p3) R := by
  unfold execPtpDelayResp
  exact closed_whileClocked C hp3 (fun _ hy0 => closed_ptpDelayResp C (closed_advance C hy0))

theorem closed_execPtpPdelayReq {p0} {p1} {p2} {p3} {p4} {p5} (hp5 : R p5) : nextHas (execPtpPdelayReq p0 p1 p2 p3 p4 p5) R := by
  unfold execPtpPdelayReq
  exact closed_whileClocked C hp5 (fun _ hy0 => closed_ptpPdelayReq C (closed_advance C hy0))

theorem closed_execPtpPdelayResp {p0} {p1} {p2} {p3} {p4} (hp4 : R p4) : nextHas (execPtpPdelayResp p0 p1 p2 p3 p4) R := by
  unfold execPtpPdelayResp
  exact closed_whileClocked C hp4 (fun _ hy0 => closed_ptpPdelayResp C (closed_advance C hy0))

theorem closed_execPtpPdelayRespFollowUp {p0} {p1} {p2} {p3} (hp3 : R p3) : nextHas (execPtpPdelayRespFollowUp p0 p1 p2 p3) R := by
  unfold execPtpPdelayRespFollowUp
  exact closed_whileClocked C hp3 (fun _ hy0 => closed_ptpPdelayFollowUp C (closed_advance C hy0))

theorem closed_execPtpAnnounce {p0} {p1} {p2} {p3} (hp3 : R p3) : nextHas (execPtpAnnounce p0 p1 p2 p3) R := by
  unfold execPtpAnnounce
  exact closed_whileClocked C hp3 (fun _ hy0 => closed_ptpAnnounce C (closed_advance C hy0))

theorem closed_execSyncInterval {p0} {p1} {p2} {p3} {p4} (hp4 : R p4) : nextHas (execSyncInterval p0 p1 p2 p3 p4) R := by
  unfold execSyncInterval
  exact closed_whileClocked C hp4 (fun _ hy0 => closed_syncInterval C (closed_advance C hy0))

theorem closed_execAnnounceInterval {p0} {p1} {p2} (hp2 : R p2) : nextHas (execAnnounceInterval p0 p1 p2) R := by
  unfold execAnnounceInterval
  exact closed_whileClocked C hp2 (fun _ hy0 => closed_announceInterval C (closed_advance C hy0))

theorem closed_execDelayReqInterval {p0} {p1} {p2} {p3} {p4} (hp4 : R p4) : nextHas (execDelayReqInterval p0 p1 p2 p3 p4) R := by
  unfold execDelayReqInterval
  exact closed_whileClocked C hp4 (fun _ hy0 => closed_delayInterval C (closed_advance C hy0))

theorem closed_execTxtsTimeout {p0} {p1} (hp1 : R p1) : nextHas (execTxtsTimeout p0 p1) R := by
  unfold execTxtsTimeout
  exact closed_whileClocked C hp1 (fun _ hy0 => closed_stampTimesOut C hy0)

theorem closed_execAnnounceTimeout {p0} {p1} (hp1 : R p1) : nextHas (execAnnounceTimeout p0 p1) R := by
  unfold execAnnounceTimeout
  exact closed_whileClocked C hp1 (fun _ hy0 => closed_announceTimesOut C hy0)

theorem closed_execSyncReceiptTimeout {p0} {p1} (hp1 : R p1) : nextHas (execSyncReceiptTimeout p0 p1) R := by
  unfold execSyncReceiptTimeout
  exact closed_whileClocked C hp1 (fun _ hy0 => closed_syncTimesOut C hy0)

theorem closed_execHoldoverLimit {p0} (hp0 : R p0) : nextHas (execHoldoverLimit p0) R := by
  unfold execHoldoverLimit
  exact closed_whileOn C hp0 (fun _ hy0 => closed_holdoverEnds C hy0)

theorem closed_execStepMarkEnd {p0} (hp0 : R p0) : nextHas (execStepMarkEnd p0) R := by
  unfold execStepMarkEnd
  exact closed_whileOn C hp0 (fun _ hy0 => closed_stepMarkEnds C hy0)

theorem closed_execTimeSet {p0} {p1} {p2} (hp2 : R p2) : nextHas (execTimeSet p0 p1 p2) R := by
  unfold execTimeSet
  exact closed_writeFree C hp2

theorem closed_execTimeStep {p0} {p1} {p2} (hp2 : R p2) : nextHas (execTimeStep p0 p1 p2) R := by
  unfold execTimeStep
  exact closed_writeNumber C hp2

theorem closed_execRateAdjustment {p0} {p1} {p2} (hp2 : R p2) : nextHas (execRateAdjustment p0 p1 p2) R := by
  unfold execRateAdjustment
  exact closed_writeNumber C hp2

theorem closed_execPulseArm {p0} {p1} {p2} {p3} (hp3 : R p3) : nextHas (execPulseArm p0 p1 p2 p3) R := by
  unfold execPulseArm
  exact closed_writeNumber C hp3

theorem closed_execPulseEdge {p0} {p1} {p2} (hp2 : R p2) : nextHas (execPulseEdge p0 p1 p2) R := by
  unfold execPulseEdge
  exact closed_whileClocked C hp2 (fun _ hy0 => closed_pulseEdge C (closed_advance C hy0))

theorem closed_execToutPulseEnd {p0} {p1} (hp1 : R p1) : nextHas (execToutPulseEnd p0 p1) R := by
  unfold execToutPulseEnd
  exact closed_whileClocked C hp1 (fun _ hy0 => closed_toutEnds C hy0)

theorem closed_execPulseModeWrite {p0} {p1} {p2} {p3} (hp3 : R p3) : nextHas (execPulseModeWrite p0 p1 p2 p3) R := by
  unfold execPulseModeWrite
  exact closed_writeNumber C hp3

theorem closed_execTinEdge {p0} {p1} {p2} {p3} {p4} (hp4 : R p4) : nextHas (execTinEdge p0 p1 p2 p3 p4) R := by
  unfold execTinEdge
  exact closed_whileClocked C hp4 (fun _ hy0 => closed_tinEdge C (closed_advance C hy0))

theorem closed_execCaptureRead {p0} {p1} {p2} (hp2 : R p2) : nextHas (execCaptureRead p0 p1 p2) R := by
  unfold execCaptureRead
  exact closed_readRequest C hp2

end Sys2Proof.Laws
end

