-- ==== Sys2Proof/Laws/ClosedExecCalibration.lean ====
section
/-! SUPPORT. What a closed property of states keeps through the operations of Machine/ExecCalibration.lean. -/

namespace Sys2Proof.Laws

open Sys2Proof.Machine

set_option linter.unusedSectionVars false
set_option Elab.async false

variable {R : State → Prop} (C : Closed R)
include C

theorem closed_execRunRequest {p0} {p1} {p2} (hp2 : R p2) : nextHas (execRunRequest p0 p1 p2) R := by
  unfold execRunRequest
  exact closed_writeFree C hp2

theorem closed_execRunCancel {p0} {p1} (hp1 : R p1) : nextHas (execRunCancel p0 p1) R := by
  unfold execRunCancel
  exact closed_writeNumber C hp1

theorem closed_execRunCheckComplete {p0} (hp0 : R p0) : nextHas (execRunCheckComplete p0) R := by
  unfold execRunCheckComplete
  exact closed_whileManaged C hp0 (fun _ hy0 => closed_runChecked C hy0)

theorem closed_execRunApplyComplete {p0} (hp0 : R p0) : nextHas (execRunApplyComplete p0) R := by
  unfold execRunApplyComplete
  exact closed_whileManaged C hp0 (fun _ hy0 => closed_runApplied C hy0)

theorem closed_execRunTimeout {p0} (hp0 : R p0) : nextHas (execRunTimeout p0) R := by
  unfold execRunTimeout
  exact closed_whileOn C hp0 (fun _ hy0 => closed_runTimesOut C hy0)

theorem closed_execImportCmd {p0} {p1} (hp1 : R p1) : nextHas (execImportCmd p0 p1) R := by
  unfold execImportCmd
  exact closed_writeNumber C hp1

theorem closed_execApplyFactory {p0} {p1} (hp1 : R p1) : nextHas (execApplyFactory p0 p1) R := by
  unfold execApplyFactory
  exact closed_writeNumber C hp1

theorem closed_execImportComplete {p0} (hp0 : R p0) : nextHas (execImportComplete p0) R := by
  unfold execImportComplete
  exact closed_whileManaged C hp0 (fun _ hy0 => closed_importComplete C hy0)

theorem closed_execItemWrite {p0} {p1} {p2} (hp2 : R p2) : nextHas (execItemWrite p0 p1 p2) R := by
  unfold execItemWrite
  exact closed_writeFree C hp2

theorem closed_execFactorySave {p0} {p1} (hp1 : R p1) : nextHas (execFactorySave p0 p1) R := by
  unfold execFactorySave
  exact closed_writeNumber C hp1

theorem closed_execInterfaceInterval {p0} {p1} {p2} (hp2 : R p2) : nextHas (execInterfaceInterval p0 p1 p2) R := by
  unfold execInterfaceInterval
  exact closed_whileOn C hp2 (fun _ hy0 => closed_interfaceInterval C hy0)

theorem closed_execDueCheck {p0} (hp0 : R p0) : nextHas (execDueCheck p0) R := by
  unfold execDueCheck
  exact closed_whileOn C hp0 (fun _ hy0 => closed_dueCheck C hy0)

end Sys2Proof.Laws
end

