-- ==== Sys2Proof/Laws/ClosedExecTest.lean ====
section
/-! SUPPORT. What a closed property of states keeps through the operations of Machine/ExecTest.lean. -/

namespace Sys2Proof.Laws

open Sys2Proof.Machine

set_option linter.unusedSectionVars false
set_option Elab.async false

variable {R : State → Prop} (C : Closed R)
include C

theorem closed_execProvision {p0} {p1} {p2} {p3} (hp3 : R p3) : nextHas (execProvision p0 p1 p2 p3) R := by
  unfold execProvision
  exact closed_writeFree C hp3

theorem closed_execEnterService {p0} {p1} {p2} (hp2 : R p2) : nextHas (execEnterService p0 p1 p2) R := by
  unfold execEnterService
  exact closed_writeFree C hp2

theorem closed_execLeaveService {p0} {p1} {p2} (hp2 : R p2) : nextHas (execLeaveService p0 p1 p2) R := by
  unfold execLeaveService
  exact closed_writeFree C hp2

theorem closed_execDecommission {p0} {p1} {p2} (hp2 : R p2) : nextHas (execDecommission p0 p1 p2) R := by
  unfold execDecommission
  exact closed_writeFree C hp2

theorem closed_execServiceIdleTimeout {p0} (hp0 : R p0) : nextHas (execServiceIdleTimeout p0) R := by
  unfold execServiceIdleTimeout
  exact closed_whileManaged C hp0 (fun _ hy0 => closed_serviceIdle C hy0)

theorem closed_execBistRound {p0} (hp0 : R p0) : nextHas (execBistRound p0) R := by
  unfold execBistRound
  exact closed_whileOn C hp0 (fun _ hy0 => closed_bistRound C hy0)

theorem closed_execSliceStart {p0} (hp0 : R p0) : nextHas (execSliceStart p0) R := by
  unfold execSliceStart
  exact closed_whileOn C hp0 (fun _ hy0 => closed_sliceStarts C hy0)

theorem closed_execSliceComplete {p0} {p1} (hp1 : R p1) : nextHas (execSliceComplete p0 p1) R := by
  unfold execSliceComplete
  exact closed_whileOn C hp1 (fun _ hy0 => closed_sliceEnds C hy0)

theorem closed_execSliceRetry {p0} (hp0 : R p0) : nextHas (execSliceRetry p0) R := by
  unfold execSliceRetry
  exact closed_whileOn C hp0 (fun _ hy0 => closed_sliceRetries C hy0)

theorem closed_execTestUnit {p0} {p1} {p2} (hp2 : R p2) : nextHas (execTestUnit p0 p1 p2) R := by
  unfold execTestUnit
  exact closed_writeFree C hp2

theorem closed_execClearFailed {p0} {p1} {p2} (hp2 : R p2) : nextHas (execClearFailed p0 p1 p2) R := by
  unfold execClearFailed
  exact closed_writeFree C hp2

theorem closed_execFuseCommand {p0} {p1} (hp1 : R p1) : nextHas (execFuseCommand p0 p1) R := by
  unfold execFuseCommand
  exact closed_writeNumber C hp1

theorem closed_execFuseComplete {p0} {p1} (hp1 : R p1) : nextHas (execFuseComplete p0 p1) R := by
  unfold execFuseComplete
  exact closed_whileManaged C hp1 (fun _ hy0 => closed_fuseComplete C hy0)

end Sys2Proof.Laws
end

