-- ==== Sys2Proof/Laws/ClosedExecMonitor.lean ====
section
/-! SUPPORT. What a closed property of states keeps through the operations of Machine/ExecMonitor.lean. -/

namespace Sys2Proof.Laws

open Sys2Proof.Machine

set_option linter.unusedSectionVars false
set_option Elab.async false

variable {R : State → Prop} (C : Closed R)
include C

theorem closed_execRecorderSample {p0} {p1} {p2} (hp2 : R p2) : nextHas (execRecorderSample p0 p1 p2) R := by
  unfold execRecorderSample
  exact closed_whileClocked C hp2 (fun _ hy0 => closed_recorderSample C hy0)

theorem closed_execSnapshotCommand {p0} {p1} (hp1 : R p1) : nextHas (execSnapshotCommand p0 p1) R := by
  unfold execSnapshotCommand
  exact closed_writeNumber C hp1

theorem closed_execSnapshotInterval {p0} (hp0 : R p0) : nextHas (execSnapshotInterval p0) R := by
  unfold execSnapshotInterval
  exact closed_whileClocked C hp0 (fun _ hy0 => closed_snapshotInterval C hy0)

theorem closed_execSnapshotComplete {p0} (hp0 : R p0) : nextHas (execSnapshotComplete p0) R := by
  unfold execSnapshotComplete
  exact closed_whileClocked C hp0 (fun _ hy0 => closed_snapshotComplete C hy0)

theorem closed_execWindowRead {p0} {p1} (hp1 : R p1) : nextHas (execWindowRead p0 p1) R := by
  unfold execWindowRead
  exact closed_readRequest C hp1

theorem closed_execRecorderEnable {p0} {p1} {p2} {p3} (hp3 : R p3) : nextHas (execRecorderEnable p0 p1 p2 p3) R := by
  unfold execRecorderEnable
  exact closed_writeNumber C hp3

theorem closed_execFreezeCommand {p0} {p1} (hp1 : R p1) : nextHas (execFreezeCommand p0 p1) R := by
  unfold execFreezeCommand
  exact closed_writeNumber C hp1

theorem closed_execFreezeRelease {p0} {p1} (hp1 : R p1) : nextHas (execFreezeRelease p0 p1) R := by
  unfold execFreezeRelease
  exact closed_writeNumber C hp1

theorem closed_execUserFreeze {p0} (hp0 : R p0) : nextHas (execUserFreeze p0) R := by
  unfold execUserFreeze
  exact closed_overLink C hp0 (fun _ hy0 => closed_userControl C hy0)

theorem closed_execUserRelease {p0} (hp0 : R p0) : nextHas (execUserRelease p0) R := by
  unfold execUserRelease
  exact closed_overLink C hp0 (fun _ hy0 => closed_userControl C hy0)

theorem closed_execUserClear {p0} (hp0 : R p0) : nextHas (execUserClear p0) R := by
  unfold execUserClear
  exact closed_overLink C hp0 (fun _ hy0 => closed_userControl C hy0)

theorem closed_execCounterClear {p0} {p1} {p2} (hp2 : R p2) : nextHas (execCounterClear p0 p1 p2) R := by
  unfold execCounterClear
  exact closed_writeNumber C hp2

end Sys2Proof.Laws
end

