-- ==== Sys2Proof/Laws/ClosedExecPower.lean ====
section
/-! SUPPORT. What a closed property of states keeps through the operations of Machine/ExecPower.lean. -/

namespace Sys2Proof.Laws

open Sys2Proof.Machine

set_option linter.unusedSectionVars false
set_option Elab.async false

variable {R : State → Prop} (C : Closed R)
include C

theorem closed_execReady {p0} {p1} {p2} (hp2 : R p2) : nextHas (execReady p0 p1 p2) R := by
  unfold execReady
  exact closed_powerWrite C hp2

theorem closed_execRun {p0} {p1} (hp1 : R p1) : nextHas (execRun p0 p1) R := by
  unfold execRun
  exact closed_writeNumber C hp1

theorem closed_execService {p0} {p1} (hp1 : R p1) : nextHas (execService p0 p1) R := by
  unfold execService
  exact closed_writeNumber C hp1

theorem closed_execStandby {p0} {p1} (hp1 : R p1) : nextHas (execStandby p0 p1) R := by
  unfold execStandby
  exact closed_writeNumber C hp1

theorem closed_execOff {p0} {p1} (hp1 : R p1) : nextHas (execOff p0 p1) R := by
  unfold execOff
  exact closed_writeNumber C hp1

theorem closed_execReset {p0} {p1} (hp1 : R p1) : nextHas (execReset p0 p1) R := by
  unfold execReset
  exact closed_writeNumber C hp1

theorem closed_execTransitionComplete {p0} {p1} (hp1 : R p1) : nextHas (execTransitionComplete p0 p1) R := by
  unfold execTransitionComplete
  exact closed_whileOn C hp1 (fun _ hy0 => closed_transitionComplete C hy0)

theorem closed_execThermalTrip {p0} (hp0 : R p0) : nextHas (execThermalTrip p0) R := by
  unfold execThermalTrip
  exact closed_whileOn C hp0 (fun _ hy0 => closed_thermalTrip C hy0)

theorem closed_execPowerOn {p0} (hp0 : R p0) : nextHas (execPowerOn p0) R := by
  unfold execPowerOn
  exact closed_boot C hp0

theorem closed_execPorstN {p0} (hp0 : R p0) : nextHas (execPorstN p0) R := by
  unfold execPorstN
  exact closed_pinReset C hp0

theorem closed_execPerstN {p0} (hp0 : R p0) : nextHas (execPerstN p0) R := by
  unfold execPerstN
  exact closed_whileOn C hp0 (fun _ hy0 => closed_pcieReset C hy0)

theorem closed_execBootTargetReady {p0} {p1} (hp1 : R p1) : nextHas (execBootTargetReady p0 p1) R := by
  unfold execBootTargetReady
  exact closed_bootTarget C hp1

theorem closed_execWatchdog {p0} (hp0 : R p0) : nextHas (execWatchdog p0) R := by
  unfold execWatchdog
  exact closed_watchdog C hp0

theorem closed_execMgtRestartComplete {p0} {p1} (hp1 : R p1) : nextHas (execMgtRestartComplete p0 p1) R := by
  unfold execMgtRestartComplete
  exact closed_restarted C hp1

theorem closed_execActivate {p0} {p1} (hp1 : R p1) : nextHas (execActivate p0 p1) R := by
  unfold execActivate
  exact closed_writeNumber C hp1

theorem closed_execCommit {p0} {p1} (hp1 : R p1) : nextHas (execCommit p0 p1) R := by
  unfold execCommit
  exact closed_writeNumber C hp1

theorem closed_execRevert {p0} {p1} (hp1 : R p1) : nextHas (execRevert p0 p1) R := by
  unfold execRevert
  exact closed_writeNumber C hp1

theorem closed_execRaiseSecurityVersion {p0} {p1} {p2} (hp2 : R p2) : nextHas (execRaiseSecurityVersion p0 p1 p2) R := by
  unfold execRaiseSecurityVersion
  exact closed_writeNumber C hp2

theorem closed_execPwrfailWarning {p0} (hp0 : R p0) : nextHas (execPwrfailWarning p0) R := by
  unfold execPwrfailWarning
  exact closed_failWarning C hp0

theorem closed_execPwrfailComplete {p0} {p1} (hp1 : R p1) : nextHas (execPwrfailComplete p0 p1) R := by
  unfold execPwrfailComplete
  exact closed_whileOn C hp1 (fun _ hy0 => closed_failComplete C hy0)

theorem closed_execPwrfailRelease {p0} (hp0 : R p0) : nextHas (execPwrfailRelease p0) R := by
  unfold execPwrfailRelease
  exact closed_failRelease C hp0

theorem closed_execMonitorPoll {p0} {p1} {p2} {p3} (hp3 : R p3) : nextHas (execMonitorPoll p0 p1 p2 p3) R := by
  unfold execMonitorPoll
  exact closed_monitorPoll C hp3

end Sys2Proof.Laws
end

