-- ==== Sys2Proof/Laws/ClosedDispatch.lean ====
section
/-! SUPPORT. Every command keeps a closed property of states. -/

namespace Sys2Proof.Laws

open Sys2Proof.Machine

set_option linter.unusedSectionVars false
set_option Elab.async false

variable {R : State → Prop} (C : Closed R)
include C

/-- Whatever the command, a closed property of the state it runs on holds of the state it leaves. -/
theorem closed_exec (i : Instr) {s : State} (h : R s) : nextHas (exec i s) R := by
  cases i with
  | arm r f trains => exact closed_execArm C h
  | start r f => exact closed_execStart C h
  | stop r f => exact closed_execStop C h
  | abort r f => exact closed_execAbort C h
  | disarm r f => exact closed_execDisarm C h
  | clear r f => exact closed_execClear C h
  | drainComplete f => exact closed_execDrainComplete C h
  | drainTimeout f => exact closed_execDrainTimeout C h
  | startPointReached f line => exact closed_execStartPointReached C h
  | write r ix sub value => exact closed_execWrite C h
  | uncorrectableError part address => exact closed_execUncorrectableError C h
  | correctedError part => exact closed_execCorrectedError C h
  | encoderTransition dt n a b => exact closed_execEncoderTransition C h
  | lineFault n line => exact closed_execLineFault C h
  | encoderIndex dt n => exact closed_execEncoderIndex C h
  | serialPoll n => exact closed_execSerialPoll C h
  | serialFrame dt n word crc errBit warnBit => exact closed_execSerialFrame C h
  | serialFrameTimeout n => exact closed_execSerialFrameTimeout C h
  | speedDecay dt => exact closed_execSpeedDecay C h
  | standstill dt => exact closed_execStandstill C h
  | lpPreset r value => exact closed_execLpPreset C h
  | countsPerLineWrite r value => exact closed_execCountsPerLineWrite C h
  | positionSourceWrite r value => exact closed_execPositionSourceWrite C h
  | encoderModeWrite r source value => exact closed_execEncoderModeWrite C h
  | spacingCompareWrite r n value => exact closed_execSpacingCompareWrite C h
  | probeEdge dt n rising => exact closed_execProbeEdge C h
  | probeRecordOffer n => exact closed_execProbeRecordOffer C h
  | scheduleRequest r target action tag => exact closed_execScheduleRequest C h
  | cancelTag r tag => exact closed_execCancelTag C h
  | pulseWidthEnd n => exact closed_execPulseWidthEnd C h
  | widthCap n => exact closed_execWidthCap C h
  | force r n value => exact closed_execForce C h
  | discoveryAttempt n conns => exact closed_execDiscoveryAttempt C h
  | linkUp n skew => exact closed_execLinkUp C h
  | trainingFail n => exact closed_execTrainingFail C h
  | trainingRetry n => exact closed_execTrainingRetry C h
  | laneLockLoss n => exact closed_execLaneLockLoss C h
  | heartbeat n => exact closed_execHeartbeat C h
  | heartbeatTimeout n => exact closed_execHeartbeatTimeout C h
  | tagExpired dt n => exact closed_execTagExpired C h
  | triggerPacketFall n => exact closed_execTriggerPacketFall C h
  | frameStart dt n => exact closed_execFrameStart C h
  | lineFirstPacket dt n => exact closed_execLineFirstPacket C h
  | lineComplete dt n extra crcError frameEnd header xSize samples => exact closed_execLineComplete C h
  | frameEnd dt n => exact closed_execFrameEnd C h
  | controlRequest r n value => exact closed_execControlRequest C h
  | controlResponse n ack data => exact closed_execControlResponse C h
  | controlTimeout n => exact closed_execControlTimeout C h
  | cameraEvent n packet => exact closed_execCameraEvent C h
  | reconnectTimeout n => exact closed_execReconnectTimeout C h
  | resume r n value => exact closed_execResume C h
  | stripLengthWrite r value => exact closed_execStripLengthWrite C h
  | iplInput m differs => exact closed_execIplInput C h
  | spareTarget r value => exact closed_execSpareTarget C h
  | spareLoaded micros => exact closed_execSpareLoaded C h
  | takeOver r => exact closed_execTakeOver C h
  | handBack r => exact closed_execHandBack C h
  | release r => exact closed_execRelease C h
  | stitchedLine => exact closed_execStitchedLine C h
  | lineWait => exact closed_execLineWait C h
  | braidTrainingComplete n partner reports eye laneMap taps skew micros => exact closed_execBraidTrainingComplete C h
  | braidTrainingTimeout n => exact closed_execBraidTrainingTimeout C h
  | braidTrainingRetry n => exact closed_execBraidTrainingRetry C h
  | retrainInterval n => exact closed_execRetrainInterval C h
  | braidClockLoss n => exact closed_execBraidClockLoss C h
  | braidEyeTracking n lane up => exact closed_execBraidEyeTracking C h
  | flitReceive n flit => exact closed_execFlitReceive C h
  | nak n ack => exact closed_execNak C h
  | ackTimeout n => exact closed_execAckTimeout C h
  | overlapMessage n => exact closed_execOverlapMessage C h
  | rejoin n => exact closed_execRejoin C h
  | blobEdgeSummary n => exact closed_execBlobEdgeSummary C h
  | pageSubmit r value => exact closed_execPageSubmit C h
  | masterLoadStart => exact closed_execMasterLoadStart C h
  | masterLoadComplete image dmaError => exact closed_execMasterLoadComplete C h
  | loadTimeout => exact closed_execLoadTimeout C h
  | queueFlush r => exact closed_execQueueFlush C h
  | mapReset r => exact closed_execMapReset C h
  | relock r => exact closed_execRelock C h
  | renumber r => exact closed_execRenumber C h
  | pageMark => exact closed_execPageMark C h
  | markExpiry => exact closed_execMarkExpiry C h
  | jobSubmit r value => exact closed_execJobSubmit C h
  | laneDispatch lane => exact closed_execLaneDispatch C h
  | blockComplete lane => exact closed_execBlockComplete C h
  | jobCancel r tag => exact closed_execJobCancel C h
  | blobRecordEnqueue => exact closed_execBlobRecordEnqueue C h
  | idleClose => exact closed_execIdleClose C h
  | partialWait => exact closed_execPartialWait C h
  | segSpareTarget r k value => exact closed_execSegSpareTarget C h
  | segSpareLoaded k => exact closed_execSegSpareLoaded C h
  | segSpareTakeOver r k => exact closed_execSegSpareTakeOver C h
  | segSpareHandBack r k => exact closed_execSegSpareHandBack C h
  | segSpareRelease r k => exact closed_execSegSpareRelease C h
  | engineClear r e => exact closed_execEngineClear C h
  | clsInput => exact closed_execClsInput C h
  | ledgerLookup => exact closed_execLedgerLookup C h
  | crumbPush => exact closed_execCrumbPush C h
  | ledgerClear r value => exact closed_execLedgerClear C h
  | ledgerSweepStep => exact closed_execLedgerSweepStep C h
  | pfcOutput => exact closed_execPfcOutput C h
  | streakEventEnqueue => exact closed_execStreakEventEnqueue C h
  | swapRequest r => exact closed_execSwapRequest C h
  | swapCancel r => exact closed_execSwapCancel C h
  | bankWrite r object bank value => exact closed_execBankWrite C h
  | lossRecord q => exact closed_execLossRecord C h
  | queueFlagsRead r q => exact closed_execQueueFlagsRead C h
  | doorbell place access => exact closed_execDoorbell C h
  | descriptorFetch c desc ok => exact closed_execDescriptorFetch C h
  | fetchRetry c data ok => exact closed_execFetchRetry C h
  | dmaPacket c => exact closed_execDmaPacket C h
  | closeTimeout c => exact closed_execCloseTimeout C h
  | descriptorComplete c data ok => exact closed_execDescriptorComplete C h
  | fenceRead c ok => exact closed_execFenceRead C h
  | pause r c => exact closed_execPause C h
  | channelResume r c => exact closed_execChannelResume C h
  | flush r c => exact closed_execFlush C h
  | writeFail c => exact closed_execWriteFail C h
  | shadowArm r c value inHandOver => exact closed_execShadowArm C h
  | cropCut => exact closed_execCropCut C h
  | cropBlockEncoded => exact closed_execCropBlockEncoded C h
  | cropDeliver => exact closed_execCropDeliver C h
  | functionLevelReset => exact closed_execFunctionLevelReset C h
  | pcieLinkDown => exact closed_execPcieLinkDown C h
  | busMasterDisable => exact closed_execBusMasterDisable C h
  | bar4Read offset length => exact closed_execBar4Read C h
  | bar4Write offset data => exact closed_execBar4Write C h
  | dramAccess arrivals n health => exact closed_execDramAccess C h
  | requestAging k => exact closed_execRequestAging C h
  | dramReadRetry n health => exact closed_execDramReadRetry C h
  | rdimmAlert n request health => exact closed_execRdimmAlert C h
  | scrubPass corrected recovered failed => exact closed_execScrubPass C h
  | refresh n => exact closed_execRefresh C h
  | temperaturePoll n band => exact closed_execTemperaturePoll C h
  | eyeTracking n margin moves => exact closed_execEyeTracking C h
  | retrainComplete n setting => exact closed_execRetrainComplete C h
  | retrainRetry n => exact closed_execRetrainRetry C h
  | errorInjection r value => exact closed_execErrorInjection C h
  | fire r c => exact closed_execFire C h
  | taskBusyEnd task => exact closed_execTaskBusyEnd C h
  | crossingExit code => exact closed_execCrossingExit C h
  | vectorHoldoff vector => exact closed_execVectorHoldoff C h
  | claimOpen r c => exact closed_execClaimOpen C h
  | claimSecure r c => exact closed_execClaimSecure C h
  | claimRelease r c => exact closed_execClaimRelease C h
  | channelEnable r c value => exact closed_execChannelEnable C h
  | openCmd path seq level name => exact closed_execOpenCmd C h
  | close r => exact closed_execClose C h
  | keepalive r => exact closed_execKeepalive C h
  | authChallenge r => exact closed_execAuthChallenge C h
  | authResponse r level chain signature => exact closed_execAuthResponse C h
  | read r group ix sub => exact closed_execRead C h
  | domRead r ix sub => exact closed_execDomRead C h
  | domWrite r ix sub total => exact closed_execDomWrite C h
  | segmentRead r offset length last => exact closed_execSegmentRead C h
  | segmentWrite r offset data last => exact closed_execSegmentWrite C h
  | domAbort r => exact closed_execDomAbort C h
  | discover r group => exact closed_execDiscover C h
  | vdpFrameDiscard port => exact closed_execVdpFrameDiscard C h
  | sessionTimeout id => exact closed_execSessionTimeout C h
  | sessionEnd r id => exact closed_execSessionEnd C h
  | segmentTimeout id => exact closed_execSegmentTimeout C h
  | clientHello port ip udp => exact closed_execClientHello C h
  | dtlsHandshake association chain ok => exact closed_execDtlsHandshake C h
  | handshakeTimeout association => exact closed_execHandshakeTimeout C h
  | groupResponse => exact closed_execGroupResponse C h
  | mailboxPost m status frame => exact closed_execMailboxPost C h
  | mailboxAck m status => exact closed_execMailboxAck C h
  | nodeIdWrite r value => exact closed_execNodeIdWrite C h
  | trustAnchorWrite r k value => exact closed_execTrustAnchorWrite C h
  | fnpLinkUp n negotiated => exact closed_execFnpLinkUp C h
  | fnpLinkLoss n => exact closed_execFnpLinkLoss C h
  | modeAlternation n => exact closed_execModeAlternation C h
  | arp n mac ip target => exact closed_execArp C h
  | icmpEcho n ip target data => exact closed_execIcmpEcho C h
  | fnpFrameDiscard n badFcs => exact closed_execFnpFrameDiscard C h
  | ptpSync dt n quarter m => exact closed_execPtpSync C h
  | ptpFollowUp dt n m => exact closed_execPtpFollowUp C h
  | ptpDelayReq dt n quarter m => exact closed_execPtpDelayReq C h
  | ptpDelayResp dt n m => exact closed_execPtpDelayResp C h
  | ptpPdelayReq dt n quarter m taken => exact closed_execPtpPdelayReq C h
  | ptpPdelayResp dt n quarter m => exact closed_execPtpPdelayResp C h
  | ptpPdelayRespFollowUp dt n m => exact closed_execPtpPdelayRespFollowUp C h
  | ptpAnnounce dt n m => exact closed_execPtpAnnounce C h
  | syncInterval dt n quarter taken => exact closed_execSyncInterval C h
  | announceInterval dt n => exact closed_execAnnounceInterval C h
  | delayReqInterval dt n quarter taken => exact closed_execDelayReqInterval C h
  | txtsTimeout n => exact closed_execTxtsTimeout C h
  | announceTimeout n => exact closed_execAnnounceTimeout C h
  | syncReceiptTimeout n => exact closed_execSyncReceiptTimeout C h
  | holdoverLimit => exact closed_execHoldoverLimit C h
  | stepMarkEnd => exact closed_execStepMarkEnd C h
  | timeSet r value => exact closed_execTimeSet C h
  | timeStep r value => exact closed_execTimeStep C h
  | rateAdjustment r value => exact closed_execRateAdjustment C h
  | pulseArm r n value => exact closed_execPulseArm C h
  | pulseEdge dt n => exact closed_execPulseEdge C h
  | toutPulseEnd n => exact closed_execToutPulseEnd C h
  | pulseModeWrite r n value => exact closed_execPulseModeWrite C h
  | tinEdge dt n rising quarter => exact closed_execTinEdge C h
  | captureRead r n => exact closed_execCaptureRead C h
  | runRequest r value => exact closed_execRunRequest C h
  | runCancel r => exact closed_execRunCancel C h
  | runCheckComplete => exact closed_execRunCheckComplete C h
  | runApplyComplete => exact closed_execRunApplyComplete C h
  | runTimeout => exact closed_execRunTimeout C h
  | importCmd r => exact closed_execImportCmd C h
  | applyFactory r => exact closed_execApplyFactory C h
  | importComplete => exact closed_execImportComplete C h
  | itemWrite r value => exact closed_execItemWrite C h
  | factorySave r => exact closed_execFactorySave C h
  | interfaceInterval lanes encoders => exact closed_execInterfaceInterval C h
  | dueCheck => exact closed_execDueCheck C h
  | provision r serial hash => exact closed_execProvision C h
  | enterService r serial => exact closed_execEnterService C h
  | leaveService r serial => exact closed_execLeaveService C h
  | decommission r serial => exact closed_execDecommission C h
  | serviceIdleTimeout => exact closed_execServiceIdleTimeout C h
  | bistRound => exact closed_execBistRound C h
  | sliceStart => exact closed_execSliceStart C h
  | sliceComplete result => exact closed_execSliceComplete C h
  | sliceRetry => exact closed_execSliceRetry C h
  | testUnit r unit => exact closed_execTestUnit C h
  | clearFailed r unit => exact closed_execClearFailed C h
  | fuseCommand r => exact closed_execFuseCommand C h
  | fuseComplete fails => exact closed_execFuseComplete C h
  | recorderSample code instanceNo => exact closed_execRecorderSample C h
  | snapshotCommand r => exact closed_execSnapshotCommand C h
  | snapshotInterval => exact closed_execSnapshotInterval C h
  | snapshotComplete => exact closed_execSnapshotComplete C h
  | windowRead r => exact closed_execWindowRead C h
  | recorderEnable r recorder value => exact closed_execRecorderEnable C h
  | freezeCommand r => exact closed_execFreezeCommand C h
  | freezeRelease r => exact closed_execFreezeRelease C h
  | userFreeze => exact closed_execUserFreeze C h
  | userRelease => exact closed_execUserRelease C h
  | userClear => exact closed_execUserClear C h
  | counterClear r mask => exact closed_execCounterClear C h
  | ready r levels => exact closed_execReady C h
  | run r => exact closed_execRun C h
  | service r => exact closed_execService C h
  | standby r => exact closed_execStandby C h
  | off r => exact closed_execOff C h
  | reset r => exact closed_execReset C h
  | transitionComplete micros => exact closed_execTransitionComplete C h
  | thermalTrip => exact closed_execThermalTrip C h
  | powerOn => exact closed_execPowerOn C h
  | porstN => exact closed_execPorstN C h
  | perstN => exact closed_execPerstN C h
  | bootTargetReady levels => exact closed_execBootTargetReady C h
  | watchdog => exact closed_execWatchdog C h
  | mgtRestartComplete millis => exact closed_execMgtRestartComplete C h
  | activate r => exact closed_execActivate C h
  | commit r => exact closed_execCommit C h
  | revert r => exact closed_execRevert C h
  | raiseSecurityVersion r value => exact closed_execRaiseSecurityVersion C h
  | pwrfailWarning => exact closed_execPwrfailWarning C h
  | pwrfailComplete duration => exact closed_execPwrfailComplete C h
  | monitorPoll temps supplies current => exact closed_execMonitorPoll C h
  | lineFaultEnd n line => exact closed_execLineFaultEnd C h
  | completionTimeout c kind => exact closed_execCompletionTimeout C h
  | pcieLinkUp link setup => exact closed_execPcieLinkUp C h
  | busMasterEnable => exact closed_execBusMasterEnable C h
  | aerError correctable => exact closed_execAerError C h
  | dtlsClose association => exact closed_execDtlsClose C h
  | pwrfailRelease => exact closed_execPwrfailRelease C h

end Sys2Proof.Laws
end

