-- ==== Sys2Proof/Laws/Octets.lean ====
section
/-! SUPPORT. Numbers as octets and back, in both byte orders. -/

namespace Sys2Proof.Laws

open Sys2Proof Sys2Proof.Machine

@[simp] theorem leBytes_length (n v : Nat) : (leBytes n v).length = n := by
  induction n generalizing v with
  | zero => rfl
  | succ n ih => simp [leBytes, ih]

@[simp] theorem beBytes_length (n v : Nat) : (beBytes n v).length = n := by simp [beBytes]

@[simp] theorem pathNum_length (p : Path) (n v : Nat) : (pathNum p n v).length = n := by
  unfold pathNum
  split <;> simp

theorem ofLe_leBytes (n v : Nat) : ofLe (leBytes n v) = v % 256 ^ n := by
  induction n generalizing v with
  | zero => simp [leBytes, ofLe, Nat.mod_one]
  | succ n ih =>
    have hp : 256 ^ (n + 1) = 256 * 256 ^ n := by rw [Nat.pow_succ, Nat.mul_comm]
    simp only [leBytes, ofLe, ih, BitVec.toNat_ofNat]
    rw [hp, Nat.mod_mul]

/-- A number that a path carries is read back, cut to its octets. -/
theorem pathNat_pathNum (p : Path) (n v : Nat) : pathNat p (pathNum p n v) = v % 256 ^ n := by
  unfold pathNat pathNum
  split
  · simp [ofBe, beBytes, ofLe_leBytes]
  · exact ofLe_leBytes n v

/-- The head of a string that begins with a number of `n` octets. -/
theorem take_pathNum (p : Path) (n v : Nat) (bs : Octets) : (pathNum p n v ++ bs).take n = pathNum p n v := by
  rw [List.take_append_of_le_length (by simp)]
  exact List.take_of_length_le (by simp)

/-- The rest of a string that begins with a number of `n` octets. -/
theorem drop_pathNum (p : Path) (n v : Nat) (bs : Octets) : (pathNum p n v ++ bs).drop n = bs := by
  rw [List.drop_append_of_le_length (by simp), List.drop_of_length_le (by simp)]
  rfl

end Sys2Proof.Laws
end

