-- ==== Sys2Proof/Laws/Store.lean ====
section
/-! SUPPORT. The laws of the keyed stores, of the dictionary's reads and writes, and of the device DRAM's bytes: what was written is read
back, every other key reads as before, and the canonical form is kept. -/

namespace Sys2Proof.Laws

open Sys2Proof Sys2Proof.Machine

variable {α : Type}

/-! ### Reads after writes -/

theorem storeGet_insert_same (d : α) (m : List (Nat × α)) (i : Nat) (x : α) : storeGet d (storeInsert i x m) i = x := by
  induction m with
  | nil => simp [storeInsert, storeGet]
  | cons p m ih =>
    obtain ⟨k, v⟩ := p
    unfold storeInsert
    split
    · simp [storeGet]
    · split
      · simp [storeGet]
      · simp [storeGet, *]

theorem storeGet_insert_ne (d : α) (m : List (Nat × α)) {i j : Nat} (x : α) (h : j ≠ i) :
    storeGet d (storeInsert i x m) j = storeGet d m j := by
  induction m with
  | nil => simp [storeInsert, storeGet, h]
  | cons p m ih =>
    obtain ⟨k, v⟩ := p
    unfold storeInsert
    split
    · simp [storeGet, h]
    · split
      · subst_vars; simp [storeGet, h]
      · simp [storeGet, ih]

theorem storeGet_erase_same (d : α) (m : List (Nat × α)) (i : Nat) : storeGet d (storeErase i m) i = d := by
  induction m with
  | nil => rfl
  | cons p m ih =>
    obtain ⟨k, v⟩ := p
    unfold storeErase
    split
    · exact ih
    · simp [storeGet, *]

theorem storeGet_erase_ne (d : α) (m : List (Nat × α)) {i j : Nat} (h : j ≠ i) : storeGet d (storeErase i m) j = storeGet d m j := by
  induction m with
  | nil => rfl
  | cons p m ih =>
    obtain ⟨k, v⟩ := p
    unfold storeErase
    split
    · subst_vars; simp [storeGet, h, ih]
    · simp [storeGet, ih]

/-- What was written is read back. -/
theorem storeGet_set_same [DecidableEq α] (d : α) (m : List (Nat × α)) (i : Nat) (x : α) : storeGet d (storeSet d m i x) i = x := by
  unfold storeSet
  split
  · subst_vars; exact storeGet_erase_same _ m i
  · exact storeGet_insert_same d m i x

/-- Every other key reads as before. -/
theorem storeGet_set_ne [DecidableEq α] (d e : α) (m : List (Nat × α)) {i j : Nat} (x : α) (h : j ≠ i) :
    storeGet d (storeSet e m i x) j = storeGet d m j := by
  unfold storeSet
  split
  · exact storeGet_erase_ne d m h
  · exact storeGet_insert_ne d m x h

/-! ### The canonical form -/

theorem storeOk_weaken {ok : Nat → α → Bool} {lo lo' : Nat} {m : List (Nat × α)} (hlo : lo' ≤ lo) (h : storeOk ok lo m = true) :
    storeOk ok lo' m = true := by
  cases m with
  | nil => rfl
  | cons p m =>
    obtain ⟨k, v⟩ := p
    simp only [storeOk, Bool.and_eq_true, decide_eq_true_eq] at h ⊢
    exact ⟨⟨by omega, h.1.2⟩, h.2⟩

theorem storeOk_erase {ok : Nat → α → Bool} {lo : Nat} {m : List (Nat × α)} (i : Nat) (h : storeOk ok lo m = true) :
    storeOk ok lo (storeErase i m) = true := by
  induction m generalizing lo with
  | nil => rfl
  | cons p m ih =>
    obtain ⟨k, v⟩ := p
    simp only [storeOk, Bool.and_eq_true, decide_eq_true_eq] at h
    unfold storeErase
    split
    · exact ih (storeOk_weaken (by omega) h.2)
    · simp only [storeOk, Bool.and_eq_true, decide_eq_true_eq]
      exact ⟨h.1, ih h.2⟩

theorem storeOk_insert {ok : Nat → α → Bool} {lo : Nat} {m : List (Nat × α)} {i : Nat} {x : α} (hi : lo ≤ i) (hx : ok i x = true)
    (h : storeOk ok lo m = true) : storeOk ok lo (storeInsert i x m) = true := by
  induction m generalizing lo with
  | nil => simp [storeInsert, storeOk, hi, hx]
  | cons p m ih =>
    obtain ⟨k, v⟩ := p
    simp only [storeOk, Bool.and_eq_true, decide_eq_true_eq] at h
    unfold storeInsert
    split
    · simp only [storeOk, Bool.and_eq_true, decide_eq_true_eq]
      exact ⟨⟨hi, hx⟩, ⟨by omega, h.1.2⟩, h.2⟩
    · split
      · subst_vars
        simp only [storeOk, Bool.and_eq_true, decide_eq_true_eq]
        exact ⟨⟨hi, hx⟩, h.2⟩
      · simp only [storeOk, Bool.and_eq_true, decide_eq_true_eq]
        exact ⟨h.1, ih (by omega) h.2⟩

/-- A write keeps a store's canonical form. -/
theorem storeOk_set [DecidableEq α] {ok : Nat → α → Bool} {d : α} {m : List (Nat × α)} {i : Nat} {x : α} (hx : x ≠ d → ok i x = true)
    (h : storeOk ok 0 m = true) : storeOk ok 0 (storeSet d m i x) = true := by
  unfold storeSet
  split
  · exact storeOk_erase i h
  · exact storeOk_insert (Nat.zero_le i) (hx ‹_›) h

/-! ### The dictionary -/

/-- An object reads after a write as the value cut to its width, where it is the one written, and else as before. -/
theorem rd_wr (s : State) (ix sub v jx jub : Nat) :
    (s.wr ix sub v).rd jx jub = if key jx jub = key ix sub then v % 2 ^ bitsAt (key ix sub) else s.rd jx jub := by
  unfold State.wr State.rd
  split
  · rename_i h
    rw [h]
    exact storeGet_set_same _ _ _ _
  · rename_i h
    exact storeGet_set_ne _ _ _ _ h

/-- An octet string reads after a write as the octets written, where it is the one written, and else as before. -/
theorem rdo_wro (s : State) (ix sub : Nat) (bs : Octets) (jx jub : Nat) :
    (s.wro ix sub bs).rdo jx jub = if key jx jub = key ix sub then bs else s.rdo jx jub := by
  unfold State.wro State.rdo
  split
  · rename_i h
    rw [h]
    exact storeGet_set_same _ _ _ _
  · rename_i h
    exact storeGet_set_ne _ _ _ _ h

/-- What a store in canonical form gives for a key is what an unlisted key reads as, or an entry that passed the test. -/
theorem storeOk_get {ok : Nat → α → Bool} (d : α) {lo : Nat} {m : List (Nat × α)} (h : storeOk ok lo m = true) (i : Nat) :
    storeGet d m i = d ∨ ok i (storeGet d m i) = true := by
  induction m generalizing lo with
  | nil => exact .inl rfl
  | cons p m ih =>
    obtain ⟨k, v⟩ := p
    simp only [storeOk, Bool.and_eq_true, decide_eq_true_eq] at h
    unfold storeGet
    split
    · subst_vars; exact .inr h.1.2
    · exact ih h.2

theorem regsOk_wr {s : State} (ix sub v : Nat) (h : regsOk s.regs = true) : regsOk (s.wr ix sub v).regs = true := by
  refine storeOk_set (fun hx => ?_) h
  simp only [Bool.and_eq_true, bne_iff_ne, ne_eq, decide_eq_true_eq]
  exact ⟨hx, Nat.mod_lt _ (Nat.two_pow_pos _)⟩

theorem octsOk_wro {s : State} (ix sub : Nat) (bs : Octets) (h : octsOk s.octs = true) : octsOk (s.wro ix sub bs).octs = true :=
  storeOk_set (fun hx => by simpa using hx) h

theorem regsOk_force {s : State} (ix sub : Nat) (hr : regsOk s.regs = true) (h : regsOk s.forced = true) :
    regsOk (s.force ix sub).forced = true := by
  refine storeOk_set (fun hx => ?_) h
  rcases storeOk_get (resetReg (key ix sub)) hr (key ix sub) with h1 | h1
  · exact absurd h1 hx
  · exact h1

theorem octsOk_forceo {s : State} (ix sub : Nat) (h : octsOk s.forcedOcts = true) : octsOk (s.forceo ix sub).forcedOcts = true :=
  storeOk_set (fun hx => by simpa using hx) h

/-- Every write into the device DRAM keeps the memory's canonical form. -/
theorem memory_putBytes {m : List Host.Cell} (a : Nat) (bs : Octets) (h : Memory.wf m = true) : Memory.wf (putBytes m a bs) = true := by
  induction bs generalizing m a with
  | nil => exact h
  | cons b bs ih => exact ih (a + 1) (storeOk_set (fun hx => by simpa using hx) h)

/-- The byte at an address after a write into the device DRAM. -/
theorem storeGet_putBytes_outside (m : List Host.Cell) (a i : Nat) (bs : Octets) (h : i < a ∨ a + bs.length ≤ i) :
    storeGet 0 (putBytes m a bs) i = storeGet 0 m i := by
  induction bs generalizing m a with
  | nil => rfl
  | cons b bs ih =>
    unfold putBytes
    have hl : (b :: bs).length = bs.length + 1 := rfl
    rw [ih _ (a + 1) (by omega)]
    exact storeGet_set_ne 0 0 m b (by omega)

/-- The canonical form of the stores is a property that every primitive update keeps. -/
theorem storesOk_closed : Closed State.StoresOk where
  alike := by
    rintro s t ⟨h1, h2, h3, h4, h5⟩ e
    exact ⟨e.regs ▸ h1, e.octs ▸ h2, e.forced ▸ h3, e.forcedOcts ▸ h4, e.dram ▸ h5⟩
  wr := fun ⟨h1, h2, h3, h4, h5⟩ => ⟨regsOk_wr _ _ _ h1, h2, h3, h4, h5⟩
  wro := fun ⟨h1, h2, h3, h4, h5⟩ => ⟨h1, octsOk_wro _ _ _ h2, h3, h4, h5⟩
  force := fun ⟨h1, h2, h3, h4, h5⟩ => ⟨h1, h2, regsOk_force _ _ h1 h3, h4, h5⟩
  forceo := fun ⟨h1, h2, h3, h4, h5⟩ => ⟨h1, h2, h3, octsOk_forceo _ _ h4, h5⟩
  emit := fun h => h
  freeUp := fun h => h
  putBytes := fun ⟨h1, h2, h3, h4, h5⟩ => ⟨h1, h2, h3, h4, memory_putBytes _ _ h5⟩
  dramClear := fun ⟨h1, h2, h3, h4, _⟩ => ⟨h1, h2, h3, h4, rfl⟩
  fuse := fun h => h
  fresh := fun _ => by
    refine ⟨?_, rfl, rfl, rfl, rfl⟩
    show regsOk [(key Ix.sysPowerStatus 0, 0x20)] = true
    decide +kernel

end Sys2Proof.Laws
end

