-- ==== Sys2Proof/Laws/State.lean ====
section
/-! SUPPORT. What each primitive update leaves of each field of the state. -/

namespace Sys2Proof.Laws

open Sys2Proof Sys2Proof.Machine

variable (s : State)

/-! ### `wr` -/

@[simp] theorem wr_octs (ix sub v : Nat) : (s.wr ix sub v).octs = s.octs := rfl
@[simp] theorem wr_forced (ix sub v : Nat) : (s.wr ix sub v).forced = s.forced := rfl
@[simp] theorem wr_forcedOcts (ix sub v : Nat) : (s.wr ix sub v).forcedOcts = s.forcedOcts := rfl
@[simp] theorem wr_ns (ix sub v : Nat) : (s.wr ix sub v).ns = s.ns := rfl
@[simp] theorem wr_tbu (ix sub v : Nat) : (s.wr ix sub v).tbu = s.tbu := rfl
@[simp] theorem wr_wpu (ix sub v : Nat) : (s.wr ix sub v).wpu = s.wpu := rfl
@[simp] theorem wr_psc (ix sub v : Nat) : (s.wr ix sub v).psc = s.psc := rfl
@[simp] theorem wr_cpt (ix sub v : Nat) : (s.wr ix sub v).cpt = s.cpt := rfl
@[simp] theorem wr_iplIn (ix sub v : Nat) : (s.wr ix sub v).iplIn = s.iplIn := rfl
@[simp] theorem wr_ipl (ix sub v : Nat) : (s.wr ix sub v).ipl = s.ipl := rfl
@[simp] theorem wr_pipes (ix sub v : Nat) : (s.wr ix sub v).pipes = s.pipes := rfl
@[simp] theorem wr_spare (ix sub v : Nat) : (s.wr ix sub v).spare = s.spare := rfl
@[simp] theorem wr_stx (ix sub v : Nat) : (s.wr ix sub v).stx = s.stx := rfl
@[simp] theorem wr_brd (ix sub v : Nat) : (s.wr ix sub v).brd = s.brd := rfl
@[simp] theorem wr_dmc (ix sub v : Nat) : (s.wr ix sub v).dmc = s.dmc := rfl
@[simp] theorem wr_dram (ix sub v : Nat) : (s.wr ix sub v).dram = s.dram := rfl
@[simp] theorem wr_cde (ix sub v : Nat) : (s.wr ix sub v).cde = s.cde := rfl
@[simp] theorem wr_mre (ix sub v : Nat) : (s.wr ix sub v).mre = s.mre := rfl
@[simp] theorem wr_seg (ix sub v : Nat) : (s.wr ix sub v).seg = s.seg := rfl
@[simp] theorem wr_cls (ix sub v : Nat) : (s.wr ix sub v).cls = s.cls := rfl
@[simp] theorem wr_hrb (ix sub v : Nat) : (s.wr ix sub v).hrb = s.hrb := rfl
@[simp] theorem wr_dma (ix sub v : Nat) : (s.wr ix sub v).dma = s.dma := rfl
@[simp] theorem wr_pfc (ix sub v : Nat) : (s.wr ix sub v).pfc = s.pfc := rfl
@[simp] theorem wr_tbuUnit (ix sub v : Nat) : (s.wr ix sub v).tbuUnit = s.tbuUnit := rfl
@[simp] theorem wr_fnp (ix sub v : Nat) : (s.wr ix sub v).fnp = s.fnp := rfl
@[simp] theorem wr_cal (ix sub v : Nat) : (s.wr ix sub v).cal = s.cal := rfl
@[simp] theorem wr_mon (ix sub v : Nat) : (s.wr ix sub v).mon = s.mon := rfl
@[simp] theorem wr_bst (ix sub v : Nat) : (s.wr ix sub v).bst = s.bst := rfl
@[simp] theorem wr_evf (ix sub v : Nat) : (s.wr ix sub v).evf = s.evf := rfl
@[simp] theorem wr_queues (ix sub v : Nat) : (s.wr ix sub v).queues = s.queues := rfl
@[simp] theorem wr_pcie (ix sub v : Nat) : (s.wr ix sub v).pcie = s.pcie := rfl
@[simp] theorem wr_power (ix sub v : Nat) : (s.wr ix sub v).power = s.power := rfl
@[simp] theorem wr_flash (ix sub v : Nat) : (s.wr ix sub v).flash = s.flash := rfl
@[simp] theorem wr_sessions (ix sub v : Nat) : (s.wr ix sub v).sessions = s.sessions := rfl
@[simp] theorem wr_assocs (ix sub v : Nat) : (s.wr ix sub v).assocs = s.assocs := rfl
@[simp] theorem wr_nextAssoc (ix sub v : Nat) : (s.wr ix sub v).nextAssoc = s.nextAssoc := rfl
@[simp] theorem wr_mailboxes (ix sub v : Nat) : (s.wr ix sub v).mailboxes = s.mailboxes := rfl
@[simp] theorem wr_groupAnswers (ix sub v : Nat) : (s.wr ix sub v).groupAnswers = s.groupAnswers := rfl
@[simp] theorem wr_badObjects (ix sub v : Nat) : (s.wr ix sub v).badObjects = s.badObjects := rfl
@[simp] theorem wr_cut (ix sub v : Nat) : (s.wr ix sub v).cut = s.cut := rfl
@[simp] theorem wr_out (ix sub v : Nat) : (s.wr ix sub v).out = s.out := rfl
@[simp] theorem wr_free (ix sub v : Nat) : (s.wr ix sub v).free = s.free := rfl
@[simp] theorem wr_pending (ix sub v : Nat) : (s.wr ix sub v).pending = s.pending := rfl

/-! ### `wro` -/

@[simp] theorem wro_regs (ix sub : Nat) (bs : Octets) : (s.wro ix sub bs).regs = s.regs := rfl
@[simp] theorem wro_forced (ix sub : Nat) (bs : Octets) : (s.wro ix sub bs).forced = s.forced := rfl
@[simp] theorem wro_forcedOcts (ix sub : Nat) (bs : Octets) : (s.wro ix sub bs).forcedOcts = s.forcedOcts := rfl
@[simp] theorem wro_ns (ix sub : Nat) (bs : Octets) : (s.wro ix sub bs).ns = s.ns := rfl
@[simp] theorem wro_tbu (ix sub : Nat) (bs : Octets) : (s.wro ix sub bs).tbu = s.tbu := rfl
@[simp] theorem wro_wpu (ix sub : Nat) (bs : Octets) : (s.wro ix sub bs).wpu = s.wpu := rfl
@[simp] theorem wro_psc (ix sub : Nat) (bs : Octets) : (s.wro ix sub bs).psc = s.psc := rfl
@[simp] theorem wro_cpt (ix sub : Nat) (bs : Octets) : (s.wro ix sub bs).cpt = s.cpt := rfl
@[simp] theorem wro_iplIn (ix sub : Nat) (bs : Octets) : (s.wro ix sub bs).iplIn = s.iplIn := rfl
@[simp] theorem wro_ipl (ix sub : Nat) (bs : Octets) : (s.wro ix sub bs).ipl = s.ipl := rfl
@[simp] theorem wro_pipes (ix sub : Nat) (bs : Octets) : (s.wro ix sub bs).pipes = s.pipes := rfl
@[simp] theorem wro_spare (ix sub : Nat) (bs : Octets) : (s.wro ix sub bs).spare = s.spare := rfl
@[simp] theorem wro_stx (ix sub : Nat) (bs : Octets) : (s.wro ix sub bs).stx = s.stx := rfl
@[simp] theorem wro_brd (ix sub : Nat) (bs : Octets) : (s.wro ix sub bs).brd = s.brd := rfl
@[simp] theorem wro_dmc (ix sub : Nat) (bs : Octets) : (s.wro ix sub bs).dmc = s.dmc := rfl
@[simp] theorem wro_dram (ix sub : Nat) (bs : Octets) : (s.wro ix sub bs).dram = s.dram := rfl
@[simp] theorem wro_cde (ix sub : Nat) (bs : Octets) : (s.wro ix sub bs).cde = s.cde := rfl
@[simp] theorem wro_mre (ix sub : Nat) (bs : Octets) : (s.wro ix sub bs).mre = s.mre := rfl
@[simp] theorem wro_seg (ix sub : Nat) (bs : Octets) : (s.wro ix sub bs).seg = s.seg := rfl
@[simp] theorem wro_cls (ix sub : Nat) (bs : Octets) : (s.wro ix sub bs).cls = s.cls := rfl
@[simp] theorem wro_hrb (ix sub : Nat) (bs : Octets) : (s.wro ix sub bs).hrb = s.hrb := rfl
@[simp] theorem wro_dma (ix sub : Nat) (bs : Octets) : (s.wro ix sub bs).dma = s.dma := rfl
@[simp] theorem wro_pfc (ix sub : Nat) (bs : Octets) : (s.wro ix sub bs).pfc = s.pfc := rfl
@[simp] theorem wro_tbuUnit (ix sub : Nat) (bs : Octets) : (s.wro ix sub bs).tbuUnit = s.tbuUnit := rfl
@[simp] theorem wro_fnp (ix sub : Nat) (bs : Octets) : (s.wro ix sub bs).fnp = s.fnp := rfl
@[simp] theorem wro_cal (ix sub : Nat) (bs : Octets) : (s.wro ix sub bs).cal = s.cal := rfl
@[simp] theorem wro_mon (ix sub : Nat) (bs : Octets) : (s.wro ix sub bs).mon = s.mon := rfl
@[simp] theorem wro_bst (ix sub : Nat) (bs : Octets) : (s.wro ix sub bs).bst = s.bst := rfl
@[simp] theorem wro_evf (ix sub : Nat) (bs : Octets) : (s.wro ix sub bs).evf = s.evf := rfl
@[simp] theorem wro_queues (ix sub : Nat) (bs : Octets) : (s.wro ix sub bs).queues = s.queues := rfl
@[simp] theorem wro_pcie (ix sub : Nat) (bs : Octets) : (s.wro ix sub bs).pcie = s.pcie := rfl
@[simp] theorem wro_power (ix sub : Nat) (bs : Octets) : (s.wro ix sub bs).power = s.power := rfl
@[simp] theorem wro_flash (ix sub : Nat) (bs : Octets) : (s.wro ix sub bs).flash = s.flash := rfl
@[simp] theorem wro_sessions (ix sub : Nat) (bs : Octets) : (s.wro ix sub bs).sessions = s.sessions := rfl
@[simp] theorem wro_assocs (ix sub : Nat) (bs : Octets) : (s.wro ix sub bs).assocs = s.assocs := rfl
@[simp] theorem wro_nextAssoc (ix sub : Nat) (bs : Octets) : (s.wro ix sub bs).nextAssoc = s.nextAssoc := rfl
@[simp] theorem wro_mailboxes (ix sub : Nat) (bs : Octets) : (s.wro ix sub bs).mailboxes = s.mailboxes := rfl
@[simp] theorem wro_groupAnswers (ix sub : Nat) (bs : Octets) : (s.wro ix sub bs).groupAnswers = s.groupAnswers := rfl
@[simp] theorem wro_badObjects (ix sub : Nat) (bs : Octets) : (s.wro ix sub bs).badObjects = s.badObjects := rfl
@[simp] theorem wro_cut (ix sub : Nat) (bs : Octets) : (s.wro ix sub bs).cut = s.cut := rfl
@[simp] theorem wro_out (ix sub : Nat) (bs : Octets) : (s.wro ix sub bs).out = s.out := rfl
@[simp] theorem wro_free (ix sub : Nat) (bs : Octets) : (s.wro ix sub bs).free = s.free := rfl
@[simp] theorem wro_pending (ix sub : Nat) (bs : Octets) : (s.wro ix sub bs).pending = s.pending := rfl

/-! ### `force` -/

@[simp] theorem force_regs (ix sub : Nat) : (s.force ix sub).regs = s.regs := rfl
@[simp] theorem force_octs (ix sub : Nat) : (s.force ix sub).octs = s.octs := rfl
@[simp] theorem force_forcedOcts (ix sub : Nat) : (s.force ix sub).forcedOcts = s.forcedOcts := rfl
@[simp] theorem force_ns (ix sub : Nat) : (s.force ix sub).ns = s.ns := rfl
@[simp] theorem force_tbu (ix sub : Nat) : (s.force ix sub).tbu = s.tbu := rfl
@[simp] theorem force_wpu (ix sub : Nat) : (s.force ix sub).wpu = s.wpu := rfl
@[simp] theorem force_psc (ix sub : Nat) : (s.force ix sub).psc = s.psc := rfl
@[simp] theorem force_cpt (ix sub : Nat) : (s.force ix sub).cpt = s.cpt := rfl
@[simp] theorem force_iplIn (ix sub : Nat) : (s.force ix sub).iplIn = s.iplIn := rfl
@[simp] theorem force_ipl (ix sub : Nat) : (s.force ix sub).ipl = s.ipl := rfl
@[simp] theorem force_pipes (ix sub : Nat) : (s.force ix sub).pipes = s.pipes := rfl
@[simp] theorem force_spare (ix sub : Nat) : (s.force ix sub).spare = s.spare := rfl
@[simp] theorem force_stx (ix sub : Nat) : (s.force ix sub).stx = s.stx := rfl
@[simp] theorem force_brd (ix sub : Nat) : (s.force ix sub).brd = s.brd := rfl
@[simp] theorem force_dmc (ix sub : Nat) : (s.force ix sub).dmc = s.dmc := rfl
@[simp] theorem force_dram (ix sub : Nat) : (s.force ix sub).dram = s.dram := rfl
@[simp] theorem force_cde (ix sub : Nat) : (s.force ix sub).cde = s.cde := rfl
@[simp] theorem force_mre (ix sub : Nat) : (s.force ix sub).mre = s.mre := rfl
@[simp] theorem force_seg (ix sub : Nat) : (s.force ix sub).seg = s.seg := rfl
@[simp] theorem force_cls (ix sub : Nat) : (s.force ix sub).cls = s.cls := rfl
@[simp] theorem force_hrb (ix sub : Nat) : (s.force ix sub).hrb = s.hrb := rfl
@[simp] theorem force_dma (ix sub : Nat) : (s.force ix sub).dma = s.dma := rfl
@[simp] theorem force_pfc (ix sub : Nat) : (s.force ix sub).pfc = s.pfc := rfl
@[simp] theorem force_tbuUnit (ix sub : Nat) : (s.force ix sub).tbuUnit = s.tbuUnit := rfl
@[simp] theorem force_fnp (ix sub : Nat) : (s.force ix sub).fnp = s.fnp := rfl
@[simp] theorem force_cal (ix sub : Nat) : (s.force ix sub).cal = s.cal := rfl
@[simp] theorem force_mon (ix sub : Nat) : (s.force ix sub).mon = s.mon := rfl
@[simp] theorem force_bst (ix sub : Nat) : (s.force ix sub).bst = s.bst := rfl
@[simp] theorem force_evf (ix sub : Nat) : (s.force ix sub).evf = s.evf := rfl
@[simp] theorem force_queues (ix sub : Nat) : (s.force ix sub).queues = s.queues := rfl
@[simp] theorem force_pcie (ix sub : Nat) : (s.force ix sub).pcie = s.pcie := rfl
@[simp] theorem force_power (ix sub : Nat) : (s.force ix sub).power = s.power := rfl
@[simp] theorem force_flash (ix sub : Nat) : (s.force ix sub).flash = s.flash := rfl
@[simp] theorem force_sessions (ix sub : Nat) : (s.force ix sub).sessions = s.sessions := rfl
@[simp] theorem force_assocs (ix sub : Nat) : (s.force ix sub).assocs = s.assocs := rfl
@[simp] theorem force_nextAssoc (ix sub : Nat) : (s.force ix sub).nextAssoc = s.nextAssoc := rfl
@[simp] theorem force_mailboxes (ix sub : Nat) : (s.force ix sub).mailboxes = s.mailboxes := rfl
@[simp] theorem force_groupAnswers (ix sub : Nat) : (s.force ix sub).groupAnswers = s.groupAnswers := rfl
@[simp] theorem force_badObjects (ix sub : Nat) : (s.force ix sub).badObjects = s.badObjects := rfl
@[simp] theorem force_cut (ix sub : Nat) : (s.force ix sub).cut = s.cut := rfl
@[simp] theorem force_out (ix sub : Nat) : (s.force ix sub).out = s.out := rfl
@[simp] theorem force_free (ix sub : Nat) : (s.force ix sub).free = s.free := rfl
@[simp] theorem force_pending (ix sub : Nat) : (s.force ix sub).pending = s.pending := rfl

/-! ### `forceo` -/

@[simp] theorem forceo_regs (ix sub : Nat) : (s.forceo ix sub).regs = s.regs := rfl
@[simp] theorem forceo_octs (ix sub : Nat) : (s.forceo ix sub).octs = s.octs := rfl
@[simp] theorem forceo_forced (ix sub : Nat) : (s.forceo ix sub).forced = s.forced := rfl
@[simp] theorem forceo_ns (ix sub : Nat) : (s.forceo ix sub).ns = s.ns := rfl
@[simp] theorem forceo_tbu (ix sub : Nat) : (s.forceo ix sub).tbu = s.tbu := rfl
@[simp] theorem forceo_wpu (ix sub : Nat) : (s.forceo ix sub).wpu = s.wpu := rfl
@[simp] theorem forceo_psc (ix sub : Nat) : (s.forceo ix sub).psc = s.psc := rfl
@[simp] theorem forceo_cpt (ix sub : Nat) : (s.forceo ix sub).cpt = s.cpt := rfl
@[simp] theorem forceo_iplIn (ix sub : Nat) : (s.forceo ix sub).iplIn = s.iplIn := rfl
@[simp] theorem forceo_ipl (ix sub : Nat) : (s.forceo ix sub).ipl = s.ipl := rfl
@[simp] theorem forceo_pipes (ix sub : Nat) : (s.forceo ix sub).pipes = s.pipes := rfl
@[simp] theorem forceo_spare (ix sub : Nat) : (s.forceo ix sub).spare = s.spare := rfl
@[simp] theorem forceo_stx (ix sub : Nat) : (s.forceo ix sub).stx = s.stx := rfl
@[simp] theorem forceo_brd (ix sub : Nat) : (s.forceo ix sub).brd = s.brd := rfl
@[simp] theorem forceo_dmc (ix sub : Nat) : (s.forceo ix sub).dmc = s.dmc := rfl
@[simp] theorem forceo_dram (ix sub : Nat) : (s.forceo ix sub).dram = s.dram := rfl
@[simp] theorem forceo_cde (ix sub : Nat) : (s.forceo ix sub).cde = s.cde := rfl
@[simp] theorem forceo_mre (ix sub : Nat) : (s.forceo ix sub).mre = s.mre := rfl
@[simp] theorem forceo_seg (ix sub : Nat) : (s.forceo ix sub).seg = s.seg := rfl
@[simp] theorem forceo_cls (ix sub : Nat) : (s.forceo ix sub).cls = s.cls := rfl
@[simp] theorem forceo_hrb (ix sub : Nat) : (s.forceo ix sub).hrb = s.hrb := rfl
@[simp] theorem forceo_dma (ix sub : Nat) : (s.forceo ix sub).dma = s.dma := rfl
@[simp] theorem forceo_pfc (ix sub : Nat) : (s.forceo ix sub).pfc = s.pfc := rfl
@[simp] theorem forceo_tbuUnit (ix sub : Nat) : (s.forceo ix sub).tbuUnit = s.tbuUnit := rfl
@[simp] theorem forceo_fnp (ix sub : Nat) : (s.forceo ix sub).fnp = s.fnp := rfl
@[simp] theorem forceo_cal (ix sub : Nat) : (s.forceo ix sub).cal = s.cal := rfl
@[simp] theorem forceo_mon (ix sub : Nat) : (s.forceo ix sub).mon = s.mon := rfl
@[simp] theorem forceo_bst (ix sub : Nat) : (s.forceo ix sub).bst = s.bst := rfl
@[simp] theorem forceo_evf (ix sub : Nat) : (s.forceo ix sub).evf = s.evf := rfl
@[simp] theorem forceo_queues (ix sub : Nat) : (s.forceo ix sub).queues = s.queues := rfl
@[simp] theorem forceo_pcie (ix sub : Nat) : (s.forceo ix sub).pcie = s.pcie := rfl
@[simp] theorem forceo_power (ix sub : Nat) : (s.forceo ix sub).power = s.power := rfl
@[simp] theorem forceo_flash (ix sub : Nat) : (s.forceo ix sub).flash = s.flash := rfl
@[simp] theorem forceo_sessions (ix sub : Nat) : (s.forceo ix sub).sessions = s.sessions := rfl
@[simp] theorem forceo_assocs (ix sub : Nat) : (s.forceo ix sub).assocs = s.assocs := rfl
@[simp] theorem forceo_nextAssoc (ix sub : Nat) : (s.forceo ix sub).nextAssoc = s.nextAssoc := rfl
@[simp] theorem forceo_mailboxes (ix sub : Nat) : (s.forceo ix sub).mailboxes = s.mailboxes := rfl
@[simp] theorem forceo_groupAnswers (ix sub : Nat) : (s.forceo ix sub).groupAnswers = s.groupAnswers := rfl
@[simp] theorem forceo_badObjects (ix sub : Nat) : (s.forceo ix sub).badObjects = s.badObjects := rfl
@[simp] theorem forceo_cut (ix sub : Nat) : (s.forceo ix sub).cut = s.cut := rfl
@[simp] theorem forceo_out (ix sub : Nat) : (s.forceo ix sub).out = s.out := rfl
@[simp] theorem forceo_free (ix sub : Nat) : (s.forceo ix sub).free = s.free := rfl
@[simp] theorem forceo_pending (ix sub : Nat) : (s.forceo ix sub).pending = s.pending := rfl

/-! ### `emit` -/

@[simp] theorem emit_regs (o : Output) : (s.emit o).regs = s.regs := rfl
@[simp] theorem emit_octs (o : Output) : (s.emit o).octs = s.octs := rfl
@[simp] theorem emit_forced (o : Output) : (s.emit o).forced = s.forced := rfl
@[simp] theorem emit_forcedOcts (o : Output) : (s.emit o).forcedOcts = s.forcedOcts := rfl
@[simp] theorem emit_ns (o : Output) : (s.emit o).ns = s.ns := rfl
@[simp] theorem emit_tbu (o : Output) : (s.emit o).tbu = s.tbu := rfl
@[simp] theorem emit_wpu (o : Output) : (s.emit o).wpu = s.wpu := rfl
@[simp] theorem emit_psc (o : Output) : (s.emit o).psc = s.psc := rfl
@[simp] theorem emit_cpt (o : Output) : (s.emit o).cpt = s.cpt := rfl
@[simp] theorem emit_iplIn (o : Output) : (s.emit o).iplIn = s.iplIn := rfl
@[simp] theorem emit_ipl (o : Output) : (s.emit o).ipl = s.ipl := rfl
@[simp] theorem emit_pipes (o : Output) : (s.emit o).pipes = s.pipes := rfl
@[simp] theorem emit_spare (o : Output) : (s.emit o).spare = s.spare := rfl
@[simp] theorem emit_stx (o : Output) : (s.emit o).stx = s.stx := rfl
@[simp] theorem emit_brd (o : Output) : (s.emit o).brd = s.brd := rfl
@[simp] theorem emit_dmc (o : Output) : (s.emit o).dmc = s.dmc := rfl
@[simp] theorem emit_dram (o : Output) : (s.emit o).dram = s.dram := rfl
@[simp] theorem emit_cde (o : Output) : (s.emit o).cde = s.cde := rfl
@[simp] theorem emit_mre (o : Output) : (s.emit o).mre = s.mre := rfl
@[simp] theorem emit_seg (o : Output) : (s.emit o).seg = s.seg := rfl
@[simp] theorem emit_cls (o : Output) : (s.emit o).cls = s.cls := rfl
@[simp] theorem emit_hrb (o : Output) : (s.emit o).hrb = s.hrb := rfl
@[simp] theorem emit_dma (o : Output) : (s.emit o).dma = s.dma := rfl
@[simp] theorem emit_pfc (o : Output) : (s.emit o).pfc = s.pfc := rfl
@[simp] theorem emit_tbuUnit (o : Output) : (s.emit o).tbuUnit = s.tbuUnit := rfl
@[simp] theorem emit_fnp (o : Output) : (s.emit o).fnp = s.fnp := rfl
@[simp] theorem emit_cal (o : Output) : (s.emit o).cal = s.cal := rfl
@[simp] theorem emit_mon (o : Output) : (s.emit o).mon = s.mon := rfl
@[simp] theorem emit_bst (o : Output) : (s.emit o).bst = s.bst := rfl
@[simp] theorem emit_evf (o : Output) : (s.emit o).evf = s.evf := rfl
@[simp] theorem emit_queues (o : Output) : (s.emit o).queues = s.queues := rfl
@[simp] theorem emit_pcie (o : Output) : (s.emit o).pcie = s.pcie := rfl
@[simp] theorem emit_power (o : Output) : (s.emit o).power = s.power := rfl
@[simp] theorem emit_flash (o : Output) : (s.emit o).flash = s.flash := rfl
@[simp] theorem emit_sessions (o : Output) : (s.emit o).sessions = s.sessions := rfl
@[simp] theorem emit_assocs (o : Output) : (s.emit o).assocs = s.assocs := rfl
@[simp] theorem emit_nextAssoc (o : Output) : (s.emit o).nextAssoc = s.nextAssoc := rfl
@[simp] theorem emit_mailboxes (o : Output) : (s.emit o).mailboxes = s.mailboxes := rfl
@[simp] theorem emit_groupAnswers (o : Output) : (s.emit o).groupAnswers = s.groupAnswers := rfl
@[simp] theorem emit_badObjects (o : Output) : (s.emit o).badObjects = s.badObjects := rfl
@[simp] theorem emit_cut (o : Output) : (s.emit o).cut = s.cut := rfl
@[simp] theorem emit_free (o : Output) : (s.emit o).free = s.free := rfl
@[simp] theorem emit_pending (o : Output) : (s.emit o).pending = s.pending := rfl

/-! ### `takeFree` -/

@[simp] theorem takeFree_regs : (s.takeFree).regs = s.regs := rfl
@[simp] theorem takeFree_octs : (s.takeFree).octs = s.octs := rfl
@[simp] theorem takeFree_forced : (s.takeFree).forced = s.forced := rfl
@[simp] theorem takeFree_forcedOcts : (s.takeFree).forcedOcts = s.forcedOcts := rfl
@[simp] theorem takeFree_ns : (s.takeFree).ns = s.ns := rfl
@[simp] theorem takeFree_tbu : (s.takeFree).tbu = s.tbu := rfl
@[simp] theorem takeFree_wpu : (s.takeFree).wpu = s.wpu := rfl
@[simp] theorem takeFree_psc : (s.takeFree).psc = s.psc := rfl
@[simp] theorem takeFree_cpt : (s.takeFree).cpt = s.cpt := rfl
@[simp] theorem takeFree_iplIn : (s.takeFree).iplIn = s.iplIn := rfl
@[simp] theorem takeFree_ipl : (s.takeFree).ipl = s.ipl := rfl
@[simp] theorem takeFree_pipes : (s.takeFree).pipes = s.pipes := rfl
@[simp] theorem takeFree_spare : (s.takeFree).spare = s.spare := rfl
@[simp] theorem takeFree_stx : (s.takeFree).stx = s.stx := rfl
@[simp] theorem takeFree_brd : (s.takeFree).brd = s.brd := rfl
@[simp] theorem takeFree_dmc : (s.takeFree).dmc = s.dmc := rfl
@[simp] theorem takeFree_dram : (s.takeFree).dram = s.dram := rfl
@[simp] theorem takeFree_cde : (s.takeFree).cde = s.cde := rfl
@[simp] theorem takeFree_mre : (s.takeFree).mre = s.mre := rfl
@[simp] theorem takeFree_seg : (s.takeFree).seg = s.seg := rfl
@[simp] theorem takeFree_cls : (s.takeFree).cls = s.cls := rfl
@[simp] theorem takeFree_hrb : (s.takeFree).hrb = s.hrb := rfl
@[simp] theorem takeFree_dma : (s.takeFree).dma = s.dma := rfl
@[simp] theorem takeFree_pfc : (s.takeFree).pfc = s.pfc := rfl
@[simp] theorem takeFree_tbuUnit : (s.takeFree).tbuUnit = s.tbuUnit := rfl
@[simp] theorem takeFree_fnp : (s.takeFree).fnp = s.fnp := rfl
@[simp] theorem takeFree_cal : (s.takeFree).cal = s.cal := rfl
@[simp] theorem takeFree_mon : (s.takeFree).mon = s.mon := rfl
@[simp] theorem takeFree_bst : (s.takeFree).bst = s.bst := rfl
@[simp] theorem takeFree_evf : (s.takeFree).evf = s.evf := rfl
@[simp] theorem takeFree_queues : (s.takeFree).queues = s.queues := rfl
@[simp] theorem takeFree_pcie : (s.takeFree).pcie = s.pcie := rfl
@[simp] theorem takeFree_power : (s.takeFree).power = s.power := rfl
@[simp] theorem takeFree_flash : (s.takeFree).flash = s.flash := rfl
@[simp] theorem takeFree_sessions : (s.takeFree).sessions = s.sessions := rfl
@[simp] theorem takeFree_assocs : (s.takeFree).assocs = s.assocs := rfl
@[simp] theorem takeFree_nextAssoc : (s.takeFree).nextAssoc = s.nextAssoc := rfl
@[simp] theorem takeFree_mailboxes : (s.takeFree).mailboxes = s.mailboxes := rfl
@[simp] theorem takeFree_groupAnswers : (s.takeFree).groupAnswers = s.groupAnswers := rfl
@[simp] theorem takeFree_badObjects : (s.takeFree).badObjects = s.badObjects := rfl
@[simp] theorem takeFree_cut : (s.takeFree).cut = s.cut := rfl
@[simp] theorem takeFree_out : (s.takeFree).out = s.out := rfl
@[simp] theorem takeFree_pending : (s.takeFree).pending = s.pending := rfl

/-! ### `bump` -/

@[simp] theorem bump_octs (ix sub n : Nat) : (s.bump ix sub n).octs = s.octs := rfl
@[simp] theorem bump_forced (ix sub n : Nat) : (s.bump ix sub n).forced = s.forced := rfl
@[simp] theorem bump_forcedOcts (ix sub n : Nat) : (s.bump ix sub n).forcedOcts = s.forcedOcts := rfl
@[simp] theorem bump_ns (ix sub n : Nat) : (s.bump ix sub n).ns = s.ns := rfl
@[simp] theorem bump_tbu (ix sub n : Nat) : (s.bump ix sub n).tbu = s.tbu := rfl
@[simp] theorem bump_wpu (ix sub n : Nat) : (s.bump ix sub n).wpu = s.wpu := rfl
@[simp] theorem bump_psc (ix sub n : Nat) : (s.bump ix sub n).psc = s.psc := rfl
@[simp] theorem bump_cpt (ix sub n : Nat) : (s.bump ix sub n).cpt = s.cpt := rfl
@[simp] theorem bump_iplIn (ix sub n : Nat) : (s.bump ix sub n).iplIn = s.iplIn := rfl
@[simp] theorem bump_ipl (ix sub n : Nat) : (s.bump ix sub n).ipl = s.ipl := rfl
@[simp] theorem bump_pipes (ix sub n : Nat) : (s.bump ix sub n).pipes = s.pipes := rfl
@[simp] theorem bump_spare (ix sub n : Nat) : (s.bump ix sub n).spare = s.spare := rfl
@[simp] theorem bump_stx (ix sub n : Nat) : (s.bump ix sub n).stx = s.stx := rfl
@[simp] theorem bump_brd (ix sub n : Nat) : (s.bump ix sub n).brd = s.brd := rfl
@[simp] theorem bump_dmc (ix sub n : Nat) : (s.bump ix sub n).dmc = s.dmc := rfl
@[simp] theorem bump_dram (ix sub n : Nat) : (s.bump ix sub n).dram = s.dram := rfl
@[simp] theorem bump_cde (ix sub n : Nat) : (s.bump ix sub n).cde = s.cde := rfl
@[simp] theorem bump_mre (ix sub n : Nat) : (s.bump ix sub n).mre = s.mre := rfl
@[simp] theorem bump_seg (ix sub n : Nat) : (s.bump ix sub n).seg = s.seg := rfl
@[simp] theorem bump_cls (ix sub n : Nat) : (s.bump ix sub n).cls = s.cls := rfl
@[simp] theorem bump_hrb (ix sub n : Nat) : (s.bump ix sub n).hrb = s.hrb := rfl
@[simp] theorem bump_dma (ix sub n : Nat) : (s.bump ix sub n).dma = s.dma := rfl
@[simp] theorem bump_pfc (ix sub n : Nat) : (s.bump ix sub n).pfc = s.pfc := rfl
@[simp] theorem bump_tbuUnit (ix sub n : Nat) : (s.bump ix sub n).tbuUnit = s.tbuUnit := rfl
@[simp] theorem bump_fnp (ix sub n : Nat) : (s.bump ix sub n).fnp = s.fnp := rfl
@[simp] theorem bump_cal (ix sub n : Nat) : (s.bump ix sub n).cal = s.cal := rfl
@[simp] theorem bump_mon (ix sub n : Nat) : (s.bump ix sub n).mon = s.mon := rfl
@[simp] theorem bump_bst (ix sub n : Nat) : (s.bump ix sub n).bst = s.bst := rfl
@[simp] theorem bump_evf (ix sub n : Nat) : (s.bump ix sub n).evf = s.evf := rfl
@[simp] theorem bump_queues (ix sub n : Nat) : (s.bump ix sub n).queues = s.queues := rfl
@[simp] theorem bump_pcie (ix sub n : Nat) : (s.bump ix sub n).pcie = s.pcie := rfl
@[simp] theorem bump_power (ix sub n : Nat) : (s.bump ix sub n).power = s.power := rfl
@[simp] theorem bump_flash (ix sub n : Nat) : (s.bump ix sub n).flash = s.flash := rfl
@[simp] theorem bump_sessions (ix sub n : Nat) : (s.bump ix sub n).sessions = s.sessions := rfl
@[simp] theorem bump_assocs (ix sub n : Nat) : (s.bump ix sub n).assocs = s.assocs := rfl
@[simp] theorem bump_nextAssoc (ix sub n : Nat) : (s.bump ix sub n).nextAssoc = s.nextAssoc := rfl
@[simp] theorem bump_mailboxes (ix sub n : Nat) : (s.bump ix sub n).mailboxes = s.mailboxes := rfl
@[simp] theorem bump_groupAnswers (ix sub n : Nat) : (s.bump ix sub n).groupAnswers = s.groupAnswers := rfl
@[simp] theorem bump_badObjects (ix sub n : Nat) : (s.bump ix sub n).badObjects = s.badObjects := rfl
@[simp] theorem bump_cut (ix sub n : Nat) : (s.bump ix sub n).cut = s.cut := rfl
@[simp] theorem bump_out (ix sub n : Nat) : (s.bump ix sub n).out = s.out := rfl
@[simp] theorem bump_free (ix sub n : Nat) : (s.bump ix sub n).free = s.free := rfl
@[simp] theorem bump_pending (ix sub n : Nat) : (s.bump ix sub n).pending = s.pending := rfl

/-! ### `bumpSat` -/

@[simp] theorem bumpSat_octs (ix sub n : Nat) : (s.bumpSat ix sub n).octs = s.octs := rfl
@[simp] theorem bumpSat_forced (ix sub n : Nat) : (s.bumpSat ix sub n).forced = s.forced := rfl
@[simp] theorem bumpSat_forcedOcts (ix sub n : Nat) : (s.bumpSat ix sub n).forcedOcts = s.forcedOcts := rfl
@[simp] theorem bumpSat_ns (ix sub n : Nat) : (s.bumpSat ix sub n).ns = s.ns := rfl
@[simp] theorem bumpSat_tbu (ix sub n : Nat) : (s.bumpSat ix sub n).tbu = s.tbu := rfl
@[simp] theorem bumpSat_wpu (ix sub n : Nat) : (s.bumpSat ix sub n).wpu = s.wpu := rfl
@[simp] theorem bumpSat_psc (ix sub n : Nat) : (s.bumpSat ix sub n).psc = s.psc := rfl
@[simp] theorem bumpSat_cpt (ix sub n : Nat) : (s.bumpSat ix sub n).cpt = s.cpt := rfl
@[simp] theorem bumpSat_iplIn (ix sub n : Nat) : (s.bumpSat ix sub n).iplIn = s.iplIn := rfl
@[simp] theorem bumpSat_ipl (ix sub n : Nat) : (s.bumpSat ix sub n).ipl = s.ipl := rfl
@[simp] theorem bumpSat_pipes (ix sub n : Nat) : (s.bumpSat ix sub n).pipes = s.pipes := rfl
@[simp] theorem bumpSat_spare (ix sub n : Nat) : (s.bumpSat ix sub n).spare = s.spare := rfl
@[simp] theorem bumpSat_stx (ix sub n : Nat) : (s.bumpSat ix sub n).stx = s.stx := rfl
@[simp] theorem bumpSat_brd (ix sub n : Nat) : (s.bumpSat ix sub n).brd = s.brd := rfl
@[simp] theorem bumpSat_dmc (ix sub n : Nat) : (s.bumpSat ix sub n).dmc = s.dmc := rfl
@[simp] theorem bumpSat_dram (ix sub n : Nat) : (s.bumpSat ix sub n).dram = s.dram := rfl
@[simp] theorem bumpSat_cde (ix sub n : Nat) : (s.bumpSat ix sub n).cde = s.cde := rfl
@[simp] theorem bumpSat_mre (ix sub n : Nat) : (s.bumpSat ix sub n).mre = s.mre := rfl
@[simp] theorem bumpSat_seg (ix sub n : Nat) : (s.bumpSat ix sub n).seg = s.seg := rfl
@[simp] theorem bumpSat_cls (ix sub n : Nat) : (s.bumpSat ix sub n).cls = s.cls := rfl
@[simp] theorem bumpSat_hrb (ix sub n : Nat) : (s.bumpSat ix sub n).hrb = s.hrb := rfl
@[simp] theorem bumpSat_dma (ix sub n : Nat) : (s.bumpSat ix sub n).dma = s.dma := rfl
@[simp] theorem bumpSat_pfc (ix sub n : Nat) : (s.bumpSat ix sub n).pfc = s.pfc := rfl
@[simp] theorem bumpSat_tbuUnit (ix sub n : Nat) : (s.bumpSat ix sub n).tbuUnit = s.tbuUnit := rfl
@[simp] theorem bumpSat_fnp (ix sub n : Nat) : (s.bumpSat ix sub n).fnp = s.fnp := rfl
@[simp] theorem bumpSat_cal (ix sub n : Nat) : (s.bumpSat ix sub n).cal = s.cal := rfl
@[simp] theorem bumpSat_mon (ix sub n : Nat) : (s.bumpSat ix sub n).mon = s.mon := rfl
@[simp] theorem bumpSat_bst (ix sub n : Nat) : (s.bumpSat ix sub n).bst = s.bst := rfl
@[simp] theorem bumpSat_evf (ix sub n : Nat) : (s.bumpSat ix sub n).evf = s.evf := rfl
@[simp] theorem bumpSat_queues (ix sub n : Nat) : (s.bumpSat ix sub n).queues = s.queues := rfl
@[simp] theorem bumpSat_pcie (ix sub n : Nat) : (s.bumpSat ix sub n).pcie = s.pcie := rfl
@[simp] theorem bumpSat_power (ix sub n : Nat) : (s.bumpSat ix sub n).power = s.power := rfl
@[simp] theorem bumpSat_flash (ix sub n : Nat) : (s.bumpSat ix sub n).flash = s.flash := rfl
@[simp] theorem bumpSat_sessions (ix sub n : Nat) : (s.bumpSat ix sub n).sessions = s.sessions := rfl
@[simp] theorem bumpSat_assocs (ix sub n : Nat) : (s.bumpSat ix sub n).assocs = s.assocs := rfl
@[simp] theorem bumpSat_nextAssoc (ix sub n : Nat) : (s.bumpSat ix sub n).nextAssoc = s.nextAssoc := rfl
@[simp] theorem bumpSat_mailboxes (ix sub n : Nat) : (s.bumpSat ix sub n).mailboxes = s.mailboxes := rfl
@[simp] theorem bumpSat_groupAnswers (ix sub n : Nat) : (s.bumpSat ix sub n).groupAnswers = s.groupAnswers := rfl
@[simp] theorem bumpSat_badObjects (ix sub n : Nat) : (s.bumpSat ix sub n).badObjects = s.badObjects := rfl
@[simp] theorem bumpSat_cut (ix sub n : Nat) : (s.bumpSat ix sub n).cut = s.cut := rfl
@[simp] theorem bumpSat_out (ix sub n : Nat) : (s.bumpSat ix sub n).out = s.out := rfl
@[simp] theorem bumpSat_free (ix sub n : Nat) : (s.bumpSat ix sub n).free = s.free := rfl
@[simp] theorem bumpSat_pending (ix sub n : Nat) : (s.bumpSat ix sub n).pending = s.pending := rfl

/-! ### `putBit` -/

@[simp] theorem putBit_octs (ix sub b : Nat) (v : Bool) : (s.putBit ix sub b v).octs = s.octs := rfl
@[simp] theorem putBit_forced (ix sub b : Nat) (v : Bool) : (s.putBit ix sub b v).forced = s.forced := rfl
@[simp] theorem putBit_forcedOcts (ix sub b : Nat) (v : Bool) : (s.putBit ix sub b v).forcedOcts = s.forcedOcts := rfl
@[simp] theorem putBit_ns (ix sub b : Nat) (v : Bool) : (s.putBit ix sub b v).ns = s.ns := rfl
@[simp] theorem putBit_tbu (ix sub b : Nat) (v : Bool) : (s.putBit ix sub b v).tbu = s.tbu := rfl
@[simp] theorem putBit_wpu (ix sub b : Nat) (v : Bool) : (s.putBit ix sub b v).wpu = s.wpu := rfl
@[simp] theorem putBit_psc (ix sub b : Nat) (v : Bool) : (s.putBit ix sub b v).psc = s.psc := rfl
@[simp] theorem putBit_cpt (ix sub b : Nat) (v : Bool) : (s.putBit ix sub b v).cpt = s.cpt := rfl
@[simp] theorem putBit_iplIn (ix sub b : Nat) (v : Bool) : (s.putBit ix sub b v).iplIn = s.iplIn := rfl
@[simp] theorem putBit_ipl (ix sub b : Nat) (v : Bool) : (s.putBit ix sub b v).ipl = s.ipl := rfl
@[simp] theorem putBit_pipes (ix sub b : Nat) (v : Bool) : (s.putBit ix sub b v).pipes = s.pipes := rfl
@[simp] theorem putBit_spare (ix sub b : Nat) (v : Bool) : (s.putBit ix sub b v).spare = s.spare := rfl
@[simp] theorem putBit_stx (ix sub b : Nat) (v : Bool) : (s.putBit ix sub b v).stx = s.stx := rfl
@[simp] theorem putBit_brd (ix sub b : Nat) (v : Bool) : (s.putBit ix sub b v).brd = s.brd := rfl
@[simp] theorem putBit_dmc (ix sub b : Nat) (v : Bool) : (s.putBit ix sub b v).dmc = s.dmc := rfl
@[simp] theorem putBit_dram (ix sub b : Nat) (v : Bool) : (s.putBit ix sub b v).dram = s.dram := rfl
@[simp] theorem putBit_cde (ix sub b : Nat) (v : Bool) : (s.putBit ix sub b v).cde = s.cde := rfl
@[simp] theorem putBit_mre (ix sub b : Nat) (v : Bool) : (s.putBit ix sub b v).mre = s.mre := rfl
@[simp] theorem putBit_seg (ix sub b : Nat) (v : Bool) : (s.putBit ix sub b v).seg = s.seg := rfl
@[simp] theorem putBit_cls (ix sub b : Nat) (v : Bool) : (s.putBit ix sub b v).cls = s.cls := rfl
@[simp] theorem putBit_hrb (ix sub b : Nat) (v : Bool) : (s.putBit ix sub b v).hrb = s.hrb := rfl
@[simp] theorem putBit_dma (ix sub b : Nat) (v : Bool) : (s.putBit ix sub b v).dma = s.dma := rfl
@[simp] theorem putBit_pfc (ix sub b : Nat) (v : Bool) : (s.putBit ix sub b v).pfc = s.pfc := rfl
@[simp] theorem putBit_tbuUnit (ix sub b : Nat) (v : Bool) : (s.putBit ix sub b v).tbuUnit = s.tbuUnit := rfl
@[simp] theorem putBit_fnp (ix sub b : Nat) (v : Bool) : (s.putBit ix sub b v).fnp = s.fnp := rfl
@[simp] theorem putBit_cal (ix sub b : Nat) (v : Bool) : (s.putBit ix sub b v).cal = s.cal := rfl
@[simp] theorem putBit_mon (ix sub b : Nat) (v : Bool) : (s.putBit ix sub b v).mon = s.mon := rfl
@[simp] theorem putBit_bst (ix sub b : Nat) (v : Bool) : (s.putBit ix sub b v).bst = s.bst := rfl
@[simp] theorem putBit_evf (ix sub b : Nat) (v : Bool) : (s.putBit ix sub b v).evf = s.evf := rfl
@[simp] theorem putBit_queues (ix sub b : Nat) (v : Bool) : (s.putBit ix sub b v).queues = s.queues := rfl
@[simp] theorem putBit_pcie (ix sub b : Nat) (v : Bool) : (s.putBit ix sub b v).pcie = s.pcie := rfl
@[simp] theorem putBit_power (ix sub b : Nat) (v : Bool) : (s.putBit ix sub b v).power = s.power := rfl
@[simp] theorem putBit_flash (ix sub b : Nat) (v : Bool) : (s.putBit ix sub b v).flash = s.flash := rfl
@[simp] theorem putBit_sessions (ix sub b : Nat) (v : Bool) : (s.putBit ix sub b v).sessions = s.sessions := rfl
@[simp] theorem putBit_assocs (ix sub b : Nat) (v : Bool) : (s.putBit ix sub b v).assocs = s.assocs := rfl
@[simp] theorem putBit_nextAssoc (ix sub b : Nat) (v : Bool) : (s.putBit ix sub b v).nextAssoc = s.nextAssoc := rfl
@[simp] theorem putBit_mailboxes (ix sub b : Nat) (v : Bool) : (s.putBit ix sub b v).mailboxes = s.mailboxes := rfl
@[simp] theorem putBit_groupAnswers (ix sub b : Nat) (v : Bool) : (s.putBit ix sub b v).groupAnswers = s.groupAnswers := rfl
@[simp] theorem putBit_badObjects (ix sub b : Nat) (v : Bool) : (s.putBit ix sub b v).badObjects = s.badObjects := rfl
@[simp] theorem putBit_cut (ix sub b : Nat) (v : Bool) : (s.putBit ix sub b v).cut = s.cut := rfl
@[simp] theorem putBit_out (ix sub b : Nat) (v : Bool) : (s.putBit ix sub b v).out = s.out := rfl
@[simp] theorem putBit_free (ix sub b : Nat) (v : Bool) : (s.putBit ix sub b v).free = s.free := rfl
@[simp] theorem putBit_pending (ix sub b : Nat) (v : Bool) : (s.putBit ix sub b v).pending = s.pending := rfl

/-! ### `setBit` -/

@[simp] theorem setBit_octs (ix sub b : Nat) : (s.setBit ix sub b).octs = s.octs := rfl
@[simp] theorem setBit_forced (ix sub b : Nat) : (s.setBit ix sub b).forced = s.forced := rfl
@[simp] theorem setBit_forcedOcts (ix sub b : Nat) : (s.setBit ix sub b).forcedOcts = s.forcedOcts := rfl
@[simp] theorem setBit_ns (ix sub b : Nat) : (s.setBit ix sub b).ns = s.ns := rfl
@[simp] theorem setBit_tbu (ix sub b : Nat) : (s.setBit ix sub b).tbu = s.tbu := rfl
@[simp] theorem setBit_wpu (ix sub b : Nat) : (s.setBit ix sub b).wpu = s.wpu := rfl
@[simp] theorem setBit_psc (ix sub b : Nat) : (s.setBit ix sub b).psc = s.psc := rfl
@[simp] theorem setBit_cpt (ix sub b : Nat) : (s.setBit ix sub b).cpt = s.cpt := rfl
@[simp] theorem setBit_iplIn (ix sub b : Nat) : (s.setBit ix sub b).iplIn = s.iplIn := rfl
@[simp] theorem setBit_ipl (ix sub b : Nat) : (s.setBit ix sub b).ipl = s.ipl := rfl
@[simp] theorem setBit_pipes (ix sub b : Nat) : (s.setBit ix sub b).pipes = s.pipes := rfl
@[simp] theorem setBit_spare (ix sub b : Nat) : (s.setBit ix sub b).spare = s.spare := rfl
@[simp] theorem setBit_stx (ix sub b : Nat) : (s.setBit ix sub b).stx = s.stx := rfl
@[simp] theorem setBit_brd (ix sub b : Nat) : (s.setBit ix sub b).brd = s.brd := rfl
@[simp] theorem setBit_dmc (ix sub b : Nat) : (s.setBit ix sub b).dmc = s.dmc := rfl
@[simp] theorem setBit_dram (ix sub b : Nat) : (s.setBit ix sub b).dram = s.dram := rfl
@[simp] theorem setBit_cde (ix sub b : Nat) : (s.setBit ix sub b).cde = s.cde := rfl
@[simp] theorem setBit_mre (ix sub b : Nat) : (s.setBit ix sub b).mre = s.mre := rfl
@[simp] theorem setBit_seg (ix sub b : Nat) : (s.setBit ix sub b).seg = s.seg := rfl
@[simp] theorem setBit_cls (ix sub b : Nat) : (s.setBit ix sub b).cls = s.cls := rfl
@[simp] theorem setBit_hrb (ix sub b : Nat) : (s.setBit ix sub b).hrb = s.hrb := rfl
@[simp] theorem setBit_dma (ix sub b : Nat) : (s.setBit ix sub b).dma = s.dma := rfl
@[simp] theorem setBit_pfc (ix sub b : Nat) : (s.setBit ix sub b).pfc = s.pfc := rfl
@[simp] theorem setBit_tbuUnit (ix sub b : Nat) : (s.setBit ix sub b).tbuUnit = s.tbuUnit := rfl
@[simp] theorem setBit_fnp (ix sub b : Nat) : (s.setBit ix sub b).fnp = s.fnp := rfl
@[simp] theorem setBit_cal (ix sub b : Nat) : (s.setBit ix sub b).cal = s.cal := rfl
@[simp] theorem setBit_mon (ix sub b : Nat) : (s.setBit ix sub b).mon = s.mon := rfl
@[simp] theorem setBit_bst (ix sub b : Nat) : (s.setBit ix sub b).bst = s.bst := rfl
@[simp] theorem setBit_evf (ix sub b : Nat) : (s.setBit ix sub b).evf = s.evf := rfl
@[simp] theorem setBit_queues (ix sub b : Nat) : (s.setBit ix sub b).queues = s.queues := rfl
@[simp] theorem setBit_pcie (ix sub b : Nat) : (s.setBit ix sub b).pcie = s.pcie := rfl
@[simp] theorem setBit_power (ix sub b : Nat) : (s.setBit ix sub b).power = s.power := rfl
@[simp] theorem setBit_flash (ix sub b : Nat) : (s.setBit ix sub b).flash = s.flash := rfl
@[simp] theorem setBit_sessions (ix sub b : Nat) : (s.setBit ix sub b).sessions = s.sessions := rfl
@[simp] theorem setBit_assocs (ix sub b : Nat) : (s.setBit ix sub b).assocs = s.assocs := rfl
@[simp] theorem setBit_nextAssoc (ix sub b : Nat) : (s.setBit ix sub b).nextAssoc = s.nextAssoc := rfl
@[simp] theorem setBit_mailboxes (ix sub b : Nat) : (s.setBit ix sub b).mailboxes = s.mailboxes := rfl
@[simp] theorem setBit_groupAnswers (ix sub b : Nat) : (s.setBit ix sub b).groupAnswers = s.groupAnswers := rfl
@[simp] theorem setBit_badObjects (ix sub b : Nat) : (s.setBit ix sub b).badObjects = s.badObjects := rfl
@[simp] theorem setBit_cut (ix sub b : Nat) : (s.setBit ix sub b).cut = s.cut := rfl
@[simp] theorem setBit_out (ix sub b : Nat) : (s.setBit ix sub b).out = s.out := rfl
@[simp] theorem setBit_free (ix sub b : Nat) : (s.setBit ix sub b).free = s.free := rfl
@[simp] theorem setBit_pending (ix sub b : Nat) : (s.setBit ix sub b).pending = s.pending := rfl

/-! ### `clearBit` -/

@[simp] theorem clearBit_octs (ix sub b : Nat) : (s.clearBit ix sub b).octs = s.octs := rfl
@[simp] theorem clearBit_forced (ix sub b : Nat) : (s.clearBit ix sub b).forced = s.forced := rfl
@[simp] theorem clearBit_forcedOcts (ix sub b : Nat) : (s.clearBit ix sub b).forcedOcts = s.forcedOcts := rfl
@[simp] theorem clearBit_ns (ix sub b : Nat) : (s.clearBit ix sub b).ns = s.ns := rfl
@[simp] theorem clearBit_tbu (ix sub b : Nat) : (s.clearBit ix sub b).tbu = s.tbu := rfl
@[simp] theorem clearBit_wpu (ix sub b : Nat) : (s.clearBit ix sub b).wpu = s.wpu := rfl
@[simp] theorem clearBit_psc (ix sub b : Nat) : (s.clearBit ix sub b).psc = s.psc := rfl
@[simp] theorem clearBit_cpt (ix sub b : Nat) : (s.clearBit ix sub b).cpt = s.cpt := rfl
@[simp] theorem clearBit_iplIn (ix sub b : Nat) : (s.clearBit ix sub b).iplIn = s.iplIn := rfl
@[simp] theorem clearBit_ipl (ix sub b : Nat) : (s.clearBit ix sub b).ipl = s.ipl := rfl
@[simp] theorem clearBit_pipes (ix sub b : Nat) : (s.clearBit ix sub b).pipes = s.pipes := rfl
@[simp] theorem clearBit_spare (ix sub b : Nat) : (s.clearBit ix sub b).spare = s.spare := rfl
@[simp] theorem clearBit_stx (ix sub b : Nat) : (s.clearBit ix sub b).stx = s.stx := rfl
@[simp] theorem clearBit_brd (ix sub b : Nat) : (s.clearBit ix sub b).brd = s.brd := rfl
@[simp] theorem clearBit_dmc (ix sub b : Nat) : (s.clearBit ix sub b).dmc = s.dmc := rfl
@[simp] theorem clearBit_dram (ix sub b : Nat) : (s.clearBit ix sub b).dram = s.dram := rfl
@[simp] theorem clearBit_cde (ix sub b : Nat) : (s.clearBit ix sub b).cde = s.cde := rfl
@[simp] theorem clearBit_mre (ix sub b : Nat) : (s.clearBit ix sub b).mre = s.mre := rfl
@[simp] theorem clearBit_seg (ix sub b : Nat) : (s.clearBit ix sub b).seg = s.seg := rfl
@[simp] theorem clearBit_cls (ix sub b : Nat) : (s.clearBit ix sub b).cls = s.cls := rfl
@[simp] theorem clearBit_hrb (ix sub b : Nat) : (s.clearBit ix sub b).hrb = s.hrb := rfl
@[simp] theorem clearBit_dma (ix sub b : Nat) : (s.clearBit ix sub b).dma = s.dma := rfl
@[simp] theorem clearBit_pfc (ix sub b : Nat) : (s.clearBit ix sub b).pfc = s.pfc := rfl
@[simp] theorem clearBit_tbuUnit (ix sub b : Nat) : (s.clearBit ix sub b).tbuUnit = s.tbuUnit := rfl
@[simp] theorem clearBit_fnp (ix sub b : Nat) : (s.clearBit ix sub b).fnp = s.fnp := rfl
@[simp] theorem clearBit_cal (ix sub b : Nat) : (s.clearBit ix sub b).cal = s.cal := rfl
@[simp] theorem clearBit_mon (ix sub b : Nat) : (s.clearBit ix sub b).mon = s.mon := rfl
@[simp] theorem clearBit_bst (ix sub b : Nat) : (s.clearBit ix sub b).bst = s.bst := rfl
@[simp] theorem clearBit_evf (ix sub b : Nat) : (s.clearBit ix sub b).evf = s.evf := rfl
@[simp] theorem clearBit_queues (ix sub b : Nat) : (s.clearBit ix sub b).queues = s.queues := rfl
@[simp] theorem clearBit_pcie (ix sub b : Nat) : (s.clearBit ix sub b).pcie = s.pcie := rfl
@[simp] theorem clearBit_power (ix sub b : Nat) : (s.clearBit ix sub b).power = s.power := rfl
@[simp] theorem clearBit_flash (ix sub b : Nat) : (s.clearBit ix sub b).flash = s.flash := rfl
@[simp] theorem clearBit_sessions (ix sub b : Nat) : (s.clearBit ix sub b).sessions = s.sessions := rfl
@[simp] theorem clearBit_assocs (ix sub b : Nat) : (s.clearBit ix sub b).assocs = s.assocs := rfl
@[simp] theorem clearBit_nextAssoc (ix sub b : Nat) : (s.clearBit ix sub b).nextAssoc = s.nextAssoc := rfl
@[simp] theorem clearBit_mailboxes (ix sub b : Nat) : (s.clearBit ix sub b).mailboxes = s.mailboxes := rfl
@[simp] theorem clearBit_groupAnswers (ix sub b : Nat) : (s.clearBit ix sub b).groupAnswers = s.groupAnswers := rfl
@[simp] theorem clearBit_badObjects (ix sub b : Nat) : (s.clearBit ix sub b).badObjects = s.badObjects := rfl
@[simp] theorem clearBit_cut (ix sub b : Nat) : (s.clearBit ix sub b).cut = s.cut := rfl
@[simp] theorem clearBit_out (ix sub b : Nat) : (s.clearBit ix sub b).out = s.out := rfl
@[simp] theorem clearBit_free (ix sub b : Nat) : (s.clearBit ix sub b).free = s.free := rfl
@[simp] theorem clearBit_pending (ix sub b : Nat) : (s.clearBit ix sub b).pending = s.pending := rfl

/-! ### `putSession` -/

@[simp] theorem putSession_regs (x : Session) : (s.putSession x).regs = s.regs := rfl
@[simp] theorem putSession_octs (x : Session) : (s.putSession x).octs = s.octs := rfl
@[simp] theorem putSession_forced (x : Session) : (s.putSession x).forced = s.forced := rfl
@[simp] theorem putSession_forcedOcts (x : Session) : (s.putSession x).forcedOcts = s.forcedOcts := rfl
@[simp] theorem putSession_ns (x : Session) : (s.putSession x).ns = s.ns := rfl
@[simp] theorem putSession_tbu (x : Session) : (s.putSession x).tbu = s.tbu := rfl
@[simp] theorem putSession_wpu (x : Session) : (s.putSession x).wpu = s.wpu := rfl
@[simp] theorem putSession_psc (x : Session) : (s.putSession x).psc = s.psc := rfl
@[simp] theorem putSession_cpt (x : Session) : (s.putSession x).cpt = s.cpt := rfl
@[simp] theorem putSession_iplIn (x : Session) : (s.putSession x).iplIn = s.iplIn := rfl
@[simp] theorem putSession_ipl (x : Session) : (s.putSession x).ipl = s.ipl := rfl
@[simp] theorem putSession_pipes (x : Session) : (s.putSession x).pipes = s.pipes := rfl
@[simp] theorem putSession_spare (x : Session) : (s.putSession x).spare = s.spare := rfl
@[simp] theorem putSession_stx (x : Session) : (s.putSession x).stx = s.stx := rfl
@[simp] theorem putSession_brd (x : Session) : (s.putSession x).brd = s.brd := rfl
@[simp] theorem putSession_dmc (x : Session) : (s.putSession x).dmc = s.dmc := rfl
@[simp] theorem putSession_dram (x : Session) : (s.putSession x).dram = s.dram := rfl
@[simp] theorem putSession_cde (x : Session) : (s.putSession x).cde = s.cde := rfl
@[simp] theorem putSession_mre (x : Session) : (s.putSession x).mre = s.mre := rfl
@[simp] theorem putSession_seg (x : Session) : (s.putSession x).seg = s.seg := rfl
@[simp] theorem putSession_cls (x : Session) : (s.putSession x).cls = s.cls := rfl
@[simp] theorem putSession_hrb (x : Session) : (s.putSession x).hrb = s.hrb := rfl
@[simp] theorem putSession_dma (x : Session) : (s.putSession x).dma = s.dma := rfl
@[simp] theorem putSession_pfc (x : Session) : (s.putSession x).pfc = s.pfc := rfl
@[simp] theorem putSession_tbuUnit (x : Session) : (s.putSession x).tbuUnit = s.tbuUnit := rfl
@[simp] theorem putSession_fnp (x : Session) : (s.putSession x).fnp = s.fnp := rfl
@[simp] theorem putSession_cal (x : Session) : (s.putSession x).cal = s.cal := rfl
@[simp] theorem putSession_mon (x : Session) : (s.putSession x).mon = s.mon := rfl
@[simp] theorem putSession_bst (x : Session) : (s.putSession x).bst = s.bst := rfl
@[simp] theorem putSession_evf (x : Session) : (s.putSession x).evf = s.evf := rfl
@[simp] theorem putSession_queues (x : Session) : (s.putSession x).queues = s.queues := rfl
@[simp] theorem putSession_pcie (x : Session) : (s.putSession x).pcie = s.pcie := rfl
@[simp] theorem putSession_power (x : Session) : (s.putSession x).power = s.power := rfl
@[simp] theorem putSession_flash (x : Session) : (s.putSession x).flash = s.flash := rfl
@[simp] theorem putSession_assocs (x : Session) : (s.putSession x).assocs = s.assocs := rfl
@[simp] theorem putSession_nextAssoc (x : Session) : (s.putSession x).nextAssoc = s.nextAssoc := rfl
@[simp] theorem putSession_mailboxes (x : Session) : (s.putSession x).mailboxes = s.mailboxes := rfl
@[simp] theorem putSession_groupAnswers (x : Session) : (s.putSession x).groupAnswers = s.groupAnswers := rfl
@[simp] theorem putSession_badObjects (x : Session) : (s.putSession x).badObjects = s.badObjects := rfl
@[simp] theorem putSession_cut (x : Session) : (s.putSession x).cut = s.cut := rfl
@[simp] theorem putSession_out (x : Session) : (s.putSession x).out = s.out := rfl
@[simp] theorem putSession_free (x : Session) : (s.putSession x).free = s.free := rfl
@[simp] theorem putSession_pending (x : Session) : (s.putSession x).pending = s.pending := rfl

/-! ### `discard` -/

@[simp] theorem discard_octs (f : Fn) (n : Nat) : (s.discard f n).octs = s.octs := rfl
@[simp] theorem discard_forced (f : Fn) (n : Nat) : (s.discard f n).forced = s.forced := rfl
@[simp] theorem discard_forcedOcts (f : Fn) (n : Nat) : (s.discard f n).forcedOcts = s.forcedOcts := rfl
@[simp] theorem discard_ns (f : Fn) (n : Nat) : (s.discard f n).ns = s.ns := rfl
@[simp] theorem discard_tbu (f : Fn) (n : Nat) : (s.discard f n).tbu = s.tbu := rfl
@[simp] theorem discard_wpu (f : Fn) (n : Nat) : (s.discard f n).wpu = s.wpu := rfl
@[simp] theorem discard_psc (f : Fn) (n : Nat) : (s.discard f n).psc = s.psc := rfl
@[simp] theorem discard_cpt (f : Fn) (n : Nat) : (s.discard f n).cpt = s.cpt := rfl
@[simp] theorem discard_iplIn (f : Fn) (n : Nat) : (s.discard f n).iplIn = s.iplIn := rfl
@[simp] theorem discard_ipl (f : Fn) (n : Nat) : (s.discard f n).ipl = s.ipl := rfl
@[simp] theorem discard_pipes (f : Fn) (n : Nat) : (s.discard f n).pipes = s.pipes := rfl
@[simp] theorem discard_spare (f : Fn) (n : Nat) : (s.discard f n).spare = s.spare := rfl
@[simp] theorem discard_stx (f : Fn) (n : Nat) : (s.discard f n).stx = s.stx := rfl
@[simp] theorem discard_brd (f : Fn) (n : Nat) : (s.discard f n).brd = s.brd := rfl
@[simp] theorem discard_dmc (f : Fn) (n : Nat) : (s.discard f n).dmc = s.dmc := rfl
@[simp] theorem discard_dram (f : Fn) (n : Nat) : (s.discard f n).dram = s.dram := rfl
@[simp] theorem discard_cde (f : Fn) (n : Nat) : (s.discard f n).cde = s.cde := rfl
@[simp] theorem discard_mre (f : Fn) (n : Nat) : (s.discard f n).mre = s.mre := rfl
@[simp] theorem discard_seg (f : Fn) (n : Nat) : (s.discard f n).seg = s.seg := rfl
@[simp] theorem discard_cls (f : Fn) (n : Nat) : (s.discard f n).cls = s.cls := rfl
@[simp] theorem discard_hrb (f : Fn) (n : Nat) : (s.discard f n).hrb = s.hrb := rfl
@[simp] theorem discard_dma (f : Fn) (n : Nat) : (s.discard f n).dma = s.dma := rfl
@[simp] theorem discard_pfc (f : Fn) (n : Nat) : (s.discard f n).pfc = s.pfc := rfl
@[simp] theorem discard_tbuUnit (f : Fn) (n : Nat) : (s.discard f n).tbuUnit = s.tbuUnit := rfl
@[simp] theorem discard_fnp (f : Fn) (n : Nat) : (s.discard f n).fnp = s.fnp := rfl
@[simp] theorem discard_cal (f : Fn) (n : Nat) : (s.discard f n).cal = s.cal := rfl
@[simp] theorem discard_mon (f : Fn) (n : Nat) : (s.discard f n).mon = s.mon := rfl
@[simp] theorem discard_bst (f : Fn) (n : Nat) : (s.discard f n).bst = s.bst := rfl
@[simp] theorem discard_evf (f : Fn) (n : Nat) : (s.discard f n).evf = s.evf := rfl
@[simp] theorem discard_queues (f : Fn) (n : Nat) : (s.discard f n).queues = s.queues := rfl
@[simp] theorem discard_pcie (f : Fn) (n : Nat) : (s.discard f n).pcie = s.pcie := rfl
@[simp] theorem discard_power (f : Fn) (n : Nat) : (s.discard f n).power = s.power := rfl
@[simp] theorem discard_flash (f : Fn) (n : Nat) : (s.discard f n).flash = s.flash := rfl
@[simp] theorem discard_sessions (f : Fn) (n : Nat) : (s.discard f n).sessions = s.sessions := rfl
@[simp] theorem discard_assocs (f : Fn) (n : Nat) : (s.discard f n).assocs = s.assocs := rfl
@[simp] theorem discard_nextAssoc (f : Fn) (n : Nat) : (s.discard f n).nextAssoc = s.nextAssoc := rfl
@[simp] theorem discard_mailboxes (f : Fn) (n : Nat) : (s.discard f n).mailboxes = s.mailboxes := rfl
@[simp] theorem discard_groupAnswers (f : Fn) (n : Nat) : (s.discard f n).groupAnswers = s.groupAnswers := rfl
@[simp] theorem discard_badObjects (f : Fn) (n : Nat) : (s.discard f n).badObjects = s.badObjects := rfl
@[simp] theorem discard_cut (f : Fn) (n : Nat) : (s.discard f n).cut = s.cut := rfl
@[simp] theorem discard_out (f : Fn) (n : Nat) : (s.discard f n).out = s.out := rfl
@[simp] theorem discard_free (f : Fn) (n : Nat) : (s.discard f n).free = s.free := rfl
@[simp] theorem discard_pending (f : Fn) (n : Nat) : (s.discard f n).pending = s.pending := rfl

/-! ### `fnFlag` -/

@[simp] theorem fnFlag_octs (f : Fn) (b : Nat) : (s.fnFlag f b).octs = s.octs := rfl
@[simp] theorem fnFlag_forced (f : Fn) (b : Nat) : (s.fnFlag f b).forced = s.forced := rfl
@[simp] theorem fnFlag_forcedOcts (f : Fn) (b : Nat) : (s.fnFlag f b).forcedOcts = s.forcedOcts := rfl
@[simp] theorem fnFlag_ns (f : Fn) (b : Nat) : (s.fnFlag f b).ns = s.ns := rfl
@[simp] theorem fnFlag_tbu (f : Fn) (b : Nat) : (s.fnFlag f b).tbu = s.tbu := rfl
@[simp] theorem fnFlag_wpu (f : Fn) (b : Nat) : (s.fnFlag f b).wpu = s.wpu := rfl
@[simp] theorem fnFlag_psc (f : Fn) (b : Nat) : (s.fnFlag f b).psc = s.psc := rfl
@[simp] theorem fnFlag_cpt (f : Fn) (b : Nat) : (s.fnFlag f b).cpt = s.cpt := rfl
@[simp] theorem fnFlag_iplIn (f : Fn) (b : Nat) : (s.fnFlag f b).iplIn = s.iplIn := rfl
@[simp] theorem fnFlag_ipl (f : Fn) (b : Nat) : (s.fnFlag f b).ipl = s.ipl := rfl
@[simp] theorem fnFlag_pipes (f : Fn) (b : Nat) : (s.fnFlag f b).pipes = s.pipes := rfl
@[simp] theorem fnFlag_spare (f : Fn) (b : Nat) : (s.fnFlag f b).spare = s.spare := rfl
@[simp] theorem fnFlag_stx (f : Fn) (b : Nat) : (s.fnFlag f b).stx = s.stx := rfl
@[simp] theorem fnFlag_brd (f : Fn) (b : Nat) : (s.fnFlag f b).brd = s.brd := rfl
@[simp] theorem fnFlag_dmc (f : Fn) (b : Nat) : (s.fnFlag f b).dmc = s.dmc := rfl
@[simp] theorem fnFlag_dram (f : Fn) (b : Nat) : (s.fnFlag f b).dram = s.dram := rfl
@[simp] theorem fnFlag_cde (f : Fn) (b : Nat) : (s.fnFlag f b).cde = s.cde := rfl
@[simp] theorem fnFlag_mre (f : Fn) (b : Nat) : (s.fnFlag f b).mre = s.mre := rfl
@[simp] theorem fnFlag_seg (f : Fn) (b : Nat) : (s.fnFlag f b).seg = s.seg := rfl
@[simp] theorem fnFlag_cls (f : Fn) (b : Nat) : (s.fnFlag f b).cls = s.cls := rfl
@[simp] theorem fnFlag_hrb (f : Fn) (b : Nat) : (s.fnFlag f b).hrb = s.hrb := rfl
@[simp] theorem fnFlag_dma (f : Fn) (b : Nat) : (s.fnFlag f b).dma = s.dma := rfl
@[simp] theorem fnFlag_pfc (f : Fn) (b : Nat) : (s.fnFlag f b).pfc = s.pfc := rfl
@[simp] theorem fnFlag_tbuUnit (f : Fn) (b : Nat) : (s.fnFlag f b).tbuUnit = s.tbuUnit := rfl
@[simp] theorem fnFlag_fnp (f : Fn) (b : Nat) : (s.fnFlag f b).fnp = s.fnp := rfl
@[simp] theorem fnFlag_cal (f : Fn) (b : Nat) : (s.fnFlag f b).cal = s.cal := rfl
@[simp] theorem fnFlag_mon (f : Fn) (b : Nat) : (s.fnFlag f b).mon = s.mon := rfl
@[simp] theorem fnFlag_bst (f : Fn) (b : Nat) : (s.fnFlag f b).bst = s.bst := rfl
@[simp] theorem fnFlag_evf (f : Fn) (b : Nat) : (s.fnFlag f b).evf = s.evf := rfl
@[simp] theorem fnFlag_queues (f : Fn) (b : Nat) : (s.fnFlag f b).queues = s.queues := rfl
@[simp] theorem fnFlag_pcie (f : Fn) (b : Nat) : (s.fnFlag f b).pcie = s.pcie := rfl
@[simp] theorem fnFlag_power (f : Fn) (b : Nat) : (s.fnFlag f b).power = s.power := rfl
@[simp] theorem fnFlag_flash (f : Fn) (b : Nat) : (s.fnFlag f b).flash = s.flash := rfl
@[simp] theorem fnFlag_sessions (f : Fn) (b : Nat) : (s.fnFlag f b).sessions = s.sessions := rfl
@[simp] theorem fnFlag_assocs (f : Fn) (b : Nat) : (s.fnFlag f b).assocs = s.assocs := rfl
@[simp] theorem fnFlag_nextAssoc (f : Fn) (b : Nat) : (s.fnFlag f b).nextAssoc = s.nextAssoc := rfl
@[simp] theorem fnFlag_mailboxes (f : Fn) (b : Nat) : (s.fnFlag f b).mailboxes = s.mailboxes := rfl
@[simp] theorem fnFlag_groupAnswers (f : Fn) (b : Nat) : (s.fnFlag f b).groupAnswers = s.groupAnswers := rfl
@[simp] theorem fnFlag_badObjects (f : Fn) (b : Nat) : (s.fnFlag f b).badObjects = s.badObjects := rfl
@[simp] theorem fnFlag_cut (f : Fn) (b : Nat) : (s.fnFlag f b).cut = s.cut := rfl
@[simp] theorem fnFlag_out (f : Fn) (b : Nat) : (s.fnFlag f b).out = s.out := rfl
@[simp] theorem fnFlag_free (f : Fn) (b : Nat) : (s.fnFlag f b).free = s.free := rfl
@[simp] theorem fnFlag_pending (f : Fn) (b : Nat) : (s.fnFlag f b).pending = s.pending := rfl

/-! ### The values of objects -/

@[simp] theorem wr_rdo (ix sub v : Nat) (jx jub : Nat) : (s.wr ix sub v).rdo jx jub = s.rdo jx jub := rfl
@[simp] theorem wro_rd (ix sub : Nat) (bs : Octets) (jx jub : Nat) : (s.wro ix sub bs).rd jx jub = s.rd jx jub := rfl
@[simp] theorem force_rd (ix sub : Nat) (jx jub : Nat) : (s.force ix sub).rd jx jub = s.rd jx jub := rfl
@[simp] theorem force_rdo (ix sub : Nat) (jx jub : Nat) : (s.force ix sub).rdo jx jub = s.rdo jx jub := rfl
@[simp] theorem forceo_rd (ix sub : Nat) (jx jub : Nat) : (s.forceo ix sub).rd jx jub = s.rd jx jub := rfl
@[simp] theorem forceo_rdo (ix sub : Nat) (jx jub : Nat) : (s.forceo ix sub).rdo jx jub = s.rdo jx jub := rfl
@[simp] theorem emit_rd (o : Output) (jx jub : Nat) : (s.emit o).rd jx jub = s.rd jx jub := rfl
@[simp] theorem emit_rdo (o : Output) (jx jub : Nat) : (s.emit o).rdo jx jub = s.rdo jx jub := rfl
@[simp] theorem takeFree_rd (jx jub : Nat) : (s.takeFree).rd jx jub = s.rd jx jub := rfl
@[simp] theorem takeFree_rdo (jx jub : Nat) : (s.takeFree).rdo jx jub = s.rdo jx jub := rfl
@[simp] theorem bump_rdo (ix sub n : Nat) (jx jub : Nat) : (s.bump ix sub n).rdo jx jub = s.rdo jx jub := rfl
@[simp] theorem bumpSat_rdo (ix sub n : Nat) (jx jub : Nat) : (s.bumpSat ix sub n).rdo jx jub = s.rdo jx jub := rfl
@[simp] theorem putBit_rdo (ix sub b : Nat) (v : Bool) (jx jub : Nat) : (s.putBit ix sub b v).rdo jx jub = s.rdo jx jub := rfl
@[simp] theorem setBit_rdo (ix sub b : Nat) (jx jub : Nat) : (s.setBit ix sub b).rdo jx jub = s.rdo jx jub := rfl
@[simp] theorem clearBit_rdo (ix sub b : Nat) (jx jub : Nat) : (s.clearBit ix sub b).rdo jx jub = s.rdo jx jub := rfl
@[simp] theorem putSession_rd (x : Session) (jx jub : Nat) : (s.putSession x).rd jx jub = s.rd jx jub := rfl
@[simp] theorem putSession_rdo (x : Session) (jx jub : Nat) : (s.putSession x).rdo jx jub = s.rdo jx jub := rfl
@[simp] theorem discard_rdo (f : Fn) (n : Nat) (jx jub : Nat) : (s.discard f n).rdo jx jub = s.rdo jx jub := rfl
@[simp] theorem fnFlag_rdo (f : Fn) (b : Nat) (jx jub : Nat) : (s.fnFlag f b).rdo jx jub = s.rdo jx jub := rfl

@[simp] theorem emit_out (o : Output) : (s.emit o).out = s.out ++ [o] := rfl
@[simp] theorem takeFree_free : s.takeFree.free = s.free + 1 := rfl
@[simp] theorem putSession_sessions (x : Session) :
    (s.putSession x).sessions = s.sessions.map (fun y => if y.id = x.id then x else y) := rfl

/-- A bit that is set reads 1, and the others read as before. -/
theorem rd_setBit (ix sub b jx jub : Nat) :
    (s.setBit ix sub b).rd jx jub =
      if key jx jub = key ix sub then (s.rd ix sub ||| 2 ^ b) % 2 ^ bitsAt (key ix sub) else s.rd jx jub := by
  unfold State.setBit State.putBit
  rw [rd_wr]
  simp

/-- A counter that has grown, and the objects beside it. -/
theorem rd_bump (ix sub n jx jub : Nat) :
    (s.bump ix sub n).rd jx jub = if key jx jub = key ix sub then (s.rd ix sub + n) % 2 ^ bitsAt (key ix sub) else s.rd jx jub := rd_wr s ix sub _ jx jub

end Sys2Proof.Laws
end

