-- ==== Sys2Proof/Laws/Requests.lean ====
section
/-! SUPPORT. What a dictionary request does, said once: a new request of an open session is performed on the state it finds, its answer is
stored and sent; and what sending an answer leaves alone. -/

namespace Sys2Proof.Laws

open Sys2Proof Sys2Proof.Machine

/-! ### Sending an answer -/

/-- Nothing but the output, the mailboxes and the frames counted changes when an answer is sent. -/
structure OnlySent (s t : State) : Prop where
  same : t = { s with regs := t.regs, out := t.out, mailboxes := t.mailboxes }

theorem respond_only (s : State) (p : Path) (i q : Nat) (r : Response) : OnlySent s (s.respond p i q r) := by
  unfold State.respond
  cases p with
  | net _ _ _ _ => exact ⟨rfl⟩
  | mailbox m =>
    dsimp only
    split
    · unfold State.msix
      split <;> exact ⟨rfl⟩
    · exact ⟨rfl⟩

/-- The answer stands in the output, after what was there before. -/
theorem respond_out (s : State) (p : Path) (i q : Nat) (r : Response) :
    ∃ after : List Output,
      (s.respond p i q r).out = s.out ++ Output.response p i q r (responseFrame (s.rd Ix.sysNodeID 0) p i q r) :: after := by
  unfold State.respond
  cases p with
  | net _ _ _ _ => exact ⟨[], rfl⟩
  | mailbox m =>
    dsimp only
    split
    · unfold State.msix
      split
      · refine ⟨[.msix 35], ?_⟩
        show (s.out ++ [Output.response (.mailbox m) i q r (responseFrame (s.rd Ix.sysNodeID 0) (.mailbox m) i q r)]) ++ [Output.msix 35] = _
        simp
      · exact ⟨[], rfl⟩
    · exact ⟨[], rfl⟩

section
variable (s : State) (p : Path) (i q : Nat) (r : Response)
@[simp] theorem respond_octs : (s.respond p i q r).octs = s.octs := by rw [(respond_only s p i q r).same]
@[simp] theorem respond_forced : (s.respond p i q r).forced = s.forced := by rw [(respond_only s p i q r).same]
@[simp] theorem respond_forcedOcts : (s.respond p i q r).forcedOcts = s.forcedOcts := by rw [(respond_only s p i q r).same]
@[simp] theorem respond_ns : (s.respond p i q r).ns = s.ns := by rw [(respond_only s p i q r).same]
@[simp] theorem respond_tbu : (s.respond p i q r).tbu = s.tbu := by rw [(respond_only s p i q r).same]
@[simp] theorem respond_wpu : (s.respond p i q r).wpu = s.wpu := by rw [(respond_only s p i q r).same]
@[simp] theorem respond_psc : (s.respond p i q r).psc = s.psc := by rw [(respond_only s p i q r).same]
@[simp] theorem respond_cpt : (s.respond p i q r).cpt = s.cpt := by rw [(respond_only s p i q r).same]
@[simp] theorem respond_iplIn : (s.respond p i q r).iplIn = s.iplIn := by rw [(respond_only s p i q r).same]
@[simp] theorem respond_ipl : (s.respond p i q r).ipl = s.ipl := by rw [(respond_only s p i q r).same]
@[simp] theorem respond_pipes : (s.respond p i q r).pipes = s.pipes := by rw [(respond_only s p i q r).same]
@[simp] theorem respond_spare : (s.respond p i q r).spare = s.spare := by rw [(respond_only s p i q r).same]
@[simp] theorem respond_stx : (s.respond p i q r).stx = s.stx := by rw [(respond_only s p i q r).same]
@[simp] theorem respond_brd : (s.respond p i q r).brd = s.brd := by rw [(respond_only s p i q r).same]
@[simp] theorem respond_dmc : (s.respond p i q r).dmc = s.dmc := by rw [(respond_only s p i q r).same]
@[simp] theorem respond_dram : (s.respond p i q r).dram = s.dram := by rw [(respond_only s p i q r).same]
@[simp] theorem respond_cde : (s.respond p i q r).cde = s.cde := by rw [(respond_only s p i q r).same]
@[simp] theorem respond_mre : (s.respond p i q r).mre = s.mre := by rw [(respond_only s p i q r).same]
@[simp] theorem respond_seg : (s.respond p i q r).seg = s.seg := by rw [(respond_only s p i q r).same]
@[simp] theorem respond_cls : (s.respond p i q r).cls = s.cls := by rw [(respond_only s p i q r).same]
@[simp] theorem respond_hrb : (s.respond p i q r).hrb = s.hrb := by rw [(respond_only s p i q r).same]
@[simp] theorem respond_dma : (s.respond p i q r).dma = s.dma := by rw [(respond_only s p i q r).same]
@[simp] theorem respond_pfc : (s.respond p i q r).pfc = s.pfc := by rw [(respond_only s p i q r).same]
@[simp] theorem respond_tbuUnit : (s.respond p i q r).tbuUnit = s.tbuUnit := by rw [(respond_only s p i q r).same]
@[simp] theorem respond_fnp : (s.respond p i q r).fnp = s.fnp := by rw [(respond_only s p i q r).same]
@[simp] theorem respond_cal : (s.respond p i q r).cal = s.cal := by rw [(respond_only s p i q r).same]
@[simp] theorem respond_mon : (s.respond p i q r).mon = s.mon := by rw [(respond_only s p i q r).same]
@[simp] theorem respond_bst : (s.respond p i q r).bst = s.bst := by rw [(respond_only s p i q r).same]
@[simp] theorem respond_evf : (s.respond p i q r).evf = s.evf := by rw [(respond_only s p i q r).same]
@[simp] theorem respond_queues : (s.respond p i q r).queues = s.queues := by rw [(respond_only s p i q r).same]
@[simp] theorem respond_pcie : (s.respond p i q r).pcie = s.pcie := by rw [(respond_only s p i q r).same]
@[simp] theorem respond_power : (s.respond p i q r).power = s.power := by rw [(respond_only s p i q r).same]
@[simp] theorem respond_flash : (s.respond p i q r).flash = s.flash := by rw [(respond_only s p i q r).same]
@[simp] theorem respond_sessions : (s.respond p i q r).sessions = s.sessions := by rw [(respond_only s p i q r).same]
@[simp] theorem respond_assocs : (s.respond p i q r).assocs = s.assocs := by rw [(respond_only s p i q r).same]
@[simp] theorem respond_nextAssoc : (s.respond p i q r).nextAssoc = s.nextAssoc := by rw [(respond_only s p i q r).same]
@[simp] theorem respond_groupAnswers : (s.respond p i q r).groupAnswers = s.groupAnswers := by rw [(respond_only s p i q r).same]
@[simp] theorem respond_badObjects : (s.respond p i q r).badObjects = s.badObjects := by rw [(respond_only s p i q r).same]
@[simp] theorem respond_cut : (s.respond p i q r).cut = s.cut := by rw [(respond_only s p i q r).same]
@[simp] theorem respond_free : (s.respond p i q r).free = s.free := by rw [(respond_only s p i q r).same]
@[simp] theorem respond_pending : (s.respond p i q r).pending = s.pending := by rw [(respond_only s p i q r).same]
/-- Of the numbers, only the count of frames sent changes when an answer is sent over the network. -/
theorem respond_rd {ix sub : Nat} (h : key ix sub ∉ pathCounters p) : (s.respond p i q r).rd ix sub = s.rd ix sub := by
  unfold State.respond
  cases p with
  | net port _ _ _ =>
    show (s.bump Ix.netFramesSent (port.val + 1) 1).rd ix sub = s.rd ix sub
    rw [rd_bump, if_neg (fun e => h (by simp [pathCounters, e]))]
  | mailbox m =>
    dsimp only
    split
    · unfold State.msix
      split <;> rfl
    · rfl

/-- The node ID is none of the counters of a path. -/
theorem nodeID_uncounted (p : Path) : key Ix.sysNodeID 0 ∉ pathCounters p := by
  cases p with
  | net port _ _ _ =>
    show key Ix.sysNodeID 0 ∉
      [key Ix.sesFramesReceived 0, key Ix.netFramesReceived (port.val + 1), key Ix.netFramesSent (port.val + 1)]
    revert port; decide
  | mailbox _ => show key Ix.sysNodeID 0 ∉ [key Ix.sesFramesReceived 0]; decide

/-- The frame of a request moves no other number than the counters of its path. -/
theorem frameHeard_rd {ix sub : Nat} (h : key ix sub ∉ pathCounters p) : (s.frameHeard p).rd ix sub = s.rd ix sub := by
  cases p with
  | net port _ _ _ =>
    show ((s.bump Ix.sesFramesReceived 0 1).bump Ix.netFramesReceived (port.val + 1) 1).rd ix sub = s.rd ix sub
    rw [rd_bump, if_neg (fun e => h (by simp [pathCounters, e])), rd_bump, if_neg (fun e => h (by simp [pathCounters, e]))]
  | mailbox m =>
    show (s.bump Ix.sesFramesReceived 0 1).rd ix sub = s.rd ix sub
    rw [rd_bump, if_neg (fun e => h (by simp [pathCounters, e]))]

@[simp] theorem respond_rdo (ix sub : Nat) : (s.respond p i q r).rdo ix sub = s.rdo ix sub := by unfold State.rdo; rw [respond_octs]
end

/-! ### A new request -/

/-- A session keeps the answer to its last request (R437). -/
def store (s : State) (r : Req) (a : Response) : State :=
  { s with sessions := s.sessions.map (fun z => if z.id = r.session.toNat then { z with stored := some a } else z) }

@[simp] theorem frameHeard_sessions (s : State) (p : Path) : (s.frameHeard p).sessions = s.sessions := rfl

/-- A frame that comes over a served path is counted, and its effect follows. -/
theorem deliver_serves {s : State} {p : Path} (h : s.serves p = true) (k : State → State) :
    s.deliver p k = k (s.frameHeard p) := by
  unfold State.deliver
  cases p with
  | net port ip udp assoc => exact if_pos h
  | mailbox m =>
    simp only [State.serves, Bool.and_eq_true, Bool.not_eq_true'] at h
    obtain ⟨⟨⟨h1, h2⟩, h3⟩, h4⟩ := h
    dsimp only
    rw [if_neg (by rw [h1, h2]; decide), if_neg (by rw [h3, h4]; decide)]

/-- A new request is performed on the state it finds; its answer is stored and sent. -/
theorem request_asks {s : State} {r : Req} {x : Session} (h : s.Asks r x) (op : Nat) (effect : State → Session → Reply)
    (hc : (effect (s.asked r x) (x.asking r s.ns)).code ≠ .sequence) :
    s.request r op effect =
      (store (effect (s.asked r x) (x.asking r s.ns)).state r
        { opcode := op, status := (effect (s.asked r x) (x.asking r s.ns)).code.value,
          payload := (effect (s.asked r x) (x.asking r s.ns)).payload }).respond r.path r.session.toNat r.seq.toNat
        { opcode := op, status := (effect (s.asked r x) (x.asking r s.ns)).code.value,
          payload := (effect (s.asked r x) (x.asking r s.ns)).payload } := by
  obtain ⟨hs, hf, hq⟩ := h
  unfold State.request
  rw [deliver_serves hs]
  dsimp only
  have hf' : (s.frameHeard r.path).sessions.find? (fun y => y.id == r.session.toNat && sessionFits r.path y) = some x := hf
  rw [hf']
  dsimp only
  have hne : ¬ x.lastSeq = r.seq.toNat := by omega
  rw [if_neg hne, if_pos hq]
  exact if_neg hc

/-- The answer of a new request is among what the command puts out. -/
theorem answers_of_respond {s u : State} {r : Req} {op : Nat} {c : Code} {payload : Octets} (hu : ∃ before : List Output, u.out = s.out ++ before) :
    s.Answers (u.respond r.path r.session.toNat r.seq.toNat { opcode := op, status := c.value, payload := payload }) r op c payload := by
  obtain ⟨before, hb⟩ := hu
  obtain ⟨after, ha⟩ := respond_out u r.path r.session.toNat r.seq.toNat { opcode := op, status := c.value, payload := payload }
  refine ⟨before, after, ?_⟩
  rw [ha, hb, respond_rd _ _ _ _ _ (nodeID_uncounted r.path)]

/-- A write that every check admits has its object's effect. -/
theorem writeReply_granted {s : State} {x : Session} {p : Path} {ix sub : Nat} {value : Octets} (e : Surround)
    (h : s.writeOk x p ix sub value = true) :
    ∃ (row : ObjRow) (o : Operand), (s.writeCheck x ix sub).2 = some row ∧ readOperand p row value = some o ∧
      s.writeReply x e p ix sub value =
        { state := (s.writeEffect { session := x, around := e, row := row, ix := ix, sub := sub, v := o.num, bs := o.octets }).1,
          code := (s.writeEffect { session := x, around := e, row := row, ix := ix, sub := sub, v := o.num, bs := o.octets }).2 } := by
  unfold State.writeOk at h
  split at h
  · rename_i row hrow
    split at h
    · rename_i o ho
      simp only [Bool.and_eq_true, Bool.not_eq_true'] at h
      obtain ⟨⟨⟨h1, h2⟩, h3⟩, h4⟩ := h
      refine ⟨row, o, hrow, ho, ?_⟩
      unfold State.writeReply
      have : s.writeCheck x ix sub = ((s.writeCheck x ix sub).1, some row) := by rw [← hrow]
      rw [this]
      simp [ho, h1, h2, h3, h4]
    · cases h
  · cases h

/-- What a granted write of a number leaves: its object's effect, with the answer stored and sent. -/
theorem writeNumber_granted {s : State} {r : Req} {x : Session} {ix sub n v : Nat} {row : ObjRow} (e : Surround)
    (h : s.Grants r x ix sub (pathNum r.path n v)) (hrow : rowOf ix sub = some row) (hty : row.ty.isOctets = false) (hn : row.ty.bytes = n)
    (hv : v < 256 ^ n) {u : State}
    (hq : (s.takeFree.asked r x).writeEffect
      { session := x.asking r s.ns, around := e, row := row, ix := ix, sub := sub, v := v, bs := [] } = (u, .ok)) :
    s.takeFree.writeRequest e r ix sub (pathNum r.path n v) =
      ((store u r { opcode := 0x11, status := 0, payload := [] }).respond r.path r.session.toNat r.seq.toNat
        { opcode := 0x11, status := 0, payload := [] }).afterRequest := by
  obtain ⟨ha, hw, _⟩ := h
  obtain ⟨row', o, h1, h2, h3⟩ := writeReply_granted e hw
  have hrr : row' = row := by
    unfold State.writeCheck at h1
    rw [hrow] at h1
    split at h1
    · cases h1
    · dsimp only at h1
      split at h1
      · cases h1
      · split at h1
        · cases h1
        · injection h1 with h1; exact h1.symm
  subst hrr
  have ho : o = { num := v, octets := [] } := by
    unfold readOperand at h2
    rw [hty] at h2
    simp only [Bool.false_eq_true, if_false] at h2
    rw [if_pos (by simp [hn])] at h2
    injection h2 with h2
    rw [← h2, pathNat_pathNum, Nat.mod_eq_of_lt hv]
  subst ho
  have hy : (s.takeFree.asked r x).writeReply (x.asking r s.ns) e r.path ix sub (pathNum r.path n v) = { state := u, code := .ok } := by
    rw [h3, hq]
  have hA : s.takeFree.Asks r x := ha
  have hns : s.takeFree.ns = s.ns := rfl
  unfold State.writeRequest
  have := request_asks hA 0x11 (fun t y => t.writeReply y e r.path ix sub (pathNum r.path n v)) (by rw [hns, hy]; nofun)
  rw [this, hns, hy]
  rfl

/-- What a granted write of octets leaves: its object's effect, with the answer stored and sent. -/
theorem writeOctets_granted {s : State} {r : Req} {x : Session} {ix sub : Nat} {value : Octets} {row : ObjRow} (e : Surround)
    (h : s.Grants r x ix sub value) (hrow : rowOf ix sub = some row) (hty : row.ty.isOctets = true) {u : State}
    (hq : (s.takeFree.asked r x).writeEffect
      { session := x.asking r s.ns, around := e, row := row, ix := ix, sub := sub, v := 0, bs := value } = (u, .ok)) :
    s.takeFree.writeRequest e r ix sub value =
      ((store u r { opcode := 0x11, status := 0, payload := [] }).respond r.path r.session.toNat r.seq.toNat
        { opcode := 0x11, status := 0, payload := [] }).afterRequest := by
  obtain ⟨ha, hw, _⟩ := h
  obtain ⟨row', o, h1, h2, h3⟩ := writeReply_granted e hw
  have hrr : row' = row := by
    unfold State.writeCheck at h1
    rw [hrow] at h1
    split at h1
    · cases h1
    · dsimp only at h1
      split at h1
      · cases h1
      · split at h1
        · cases h1
        · injection h1 with h1; exact h1.symm
  subst hrr
  have ho : o = { num := 0, octets := value } := by
    unfold readOperand at h2
    rw [if_pos hty] at h2
    split at h2
    · injection h2 with h2; exact h2.symm
    · cases h2
  subst ho
  have hy : (s.takeFree.asked r x).writeReply (x.asking r s.ns) e r.path ix sub value = { state := u, code := .ok } := by
    rw [h3, hq]
  have hA : s.takeFree.Asks r x := ha
  have hns : s.takeFree.ns = s.ns := rfl
  unfold State.writeRequest
  have := request_asks hA 0x11 (fun t y => t.writeReply y e r.path ix sub value) (by rw [hns, hy]; nofun)
  rw [this, hns, hy]
  rfl

/-! ### The blocks of the dictionary -/

/-- A write of a function's common object goes to the common objects. -/
theorem writeEffect_common (s : State) {w : WriteCall} (h : w.ix % 0x400 < 8) : s.writeEffect w = s.writeCommon w := by
  unfold State.writeEffect; rw [if_pos h]

theorem writeEffect_sys (s : State) {w : WriteCall} (h : w.ix / 0x400 = 4) (h8 : ¬ w.ix % 0x400 < 8) :
    s.writeEffect w = s.writeSys w := by
  unfold State.writeEffect; simp [h, h8]

theorem writeEffect_ses (s : State) {w : WriteCall} (h : w.ix / 0x400 = 5) (h8 : ¬ w.ix % 0x400 < 8) :
    s.writeEffect w = s.writeSes w := by
  unfold State.writeEffect; simp [h, h8]

theorem writeEffect_lif (s : State) {w : WriteCall} (h : w.ix / 0x400 = 6) (h8 : ¬ w.ix % 0x400 < 8) :
    s.writeEffect w = s.writeLif w := by
  unfold State.writeEffect; simp [h, h8]

theorem writeEffect_wpu (s : State) {w : WriteCall} (h : w.ix / 0x400 = 8) (h8 : ¬ w.ix % 0x400 < 8) :
    s.writeEffect w = s.writeWpu w := by
  unfold State.writeEffect; simp [h, h8]

theorem writeEffect_psc (s : State) {w : WriteCall} (h : w.ix / 0x400 = 9) (h8 : ¬ w.ix % 0x400 < 8) :
    s.writeEffect w = s.writePsc w := by
  unfold State.writeEffect; simp [h, h8]

theorem writeEffect_evf (s : State) {w : WriteCall} (h : w.ix / 0x400 = 10) (h8 : ¬ w.ix % 0x400 < 8) :
    s.writeEffect w = s.writeEvf w := by
  unfold State.writeEffect; simp [h, h8]

theorem writeEffect_cpt (s : State) {w : WriteCall} (h : w.ix / 0x400 = 12) (h8 : ¬ w.ix % 0x400 < 8) :
    s.writeEffect w = s.writeCpt w := by
  unfold State.writeEffect; simp [h, h8]

theorem writeEffect_ipl (s : State) {w : WriteCall} (h : w.ix / 0x400 = 13) (h8 : ¬ w.ix % 0x400 < 8) :
    s.writeEffect w = s.writeIpl w := by
  unfold State.writeEffect; simp [h, h8]

theorem writeEffect_stx (s : State) {w : WriteCall} (h : w.ix / 0x400 = 14) (h8 : ¬ w.ix % 0x400 < 8) :
    s.writeEffect w = s.writeStx w := by
  unfold State.writeEffect; simp [h, h8]

theorem writeEffect_brd (s : State) {w : WriteCall} (h : w.ix / 0x400 = 15) (h8 : ¬ w.ix % 0x400 < 8) :
    s.writeEffect w = s.writeBrd w := by
  unfold State.writeEffect; simp [h, h8]

theorem writeEffect_mre (s : State) {w : WriteCall} (h : w.ix / 0x400 = 16) (h8 : ¬ w.ix % 0x400 < 8) :
    s.writeEffect w = s.writeMre w := by
  unfold State.writeEffect; simp [h, h8]

theorem writeEffect_cde (s : State) {w : WriteCall} (h : w.ix / 0x400 = 17) (h8 : ¬ w.ix % 0x400 < 8) :
    s.writeEffect w = s.writeCde w := by
  unfold State.writeEffect; simp [h, h8]

theorem writeEffect_seg (s : State) {w : WriteCall} (h : w.ix / 0x400 = 18) (h8 : ¬ w.ix % 0x400 < 8) :
    s.writeEffect w = s.writeSeg w := by
  unfold State.writeEffect; simp [h, h8]

theorem writeEffect_cls (s : State) {w : WriteCall} (h : w.ix / 0x400 = 19) (h8 : ¬ w.ix % 0x400 < 8) :
    s.writeEffect w = s.writeCls w := by
  unfold State.writeEffect; simp [h, h8]

theorem writeEffect_pfc (s : State) {w : WriteCall} (h : w.ix / 0x400 = 20) (h8 : ¬ w.ix % 0x400 < 8) :
    s.writeEffect w = s.writePfc w := by
  unfold State.writeEffect; simp [h, h8]

theorem writeEffect_dlv (s : State) {w : WriteCall} (h : w.ix / 0x400 = 22) (h8 : ¬ w.ix % 0x400 < 8) :
    s.writeEffect w = s.writeDlv w := by
  unfold State.writeEffect; simp [h, h8]

theorem writeEffect_dmc (s : State) {w : WriteCall} (h : w.ix / 0x400 = 23) (h8 : ¬ w.ix % 0x400 < 8) :
    s.writeEffect w = s.writeDmc w := by
  unfold State.writeEffect; simp [h, h8]

theorem writeEffect_net (s : State) {w : WriteCall} (h : w.ix / 0x400 = 24) (h8 : ¬ w.ix % 0x400 < 8) :
    s.writeEffect w = s.writeNet w := by
  unfold State.writeEffect; simp [h, h8]

theorem writeEffect_cal (s : State) {w : WriteCall} (h : w.ix / 0x400 = 25) (h8 : ¬ w.ix % 0x400 < 8) :
    s.writeEffect w = s.writeCal w := by
  unfold State.writeEffect; simp [h, h8]

theorem writeEffect_bst (s : State) {w : WriteCall} (h : w.ix / 0x400 = 26) (h8 : ¬ w.ix % 0x400 < 8) :
    s.writeEffect w = s.writeBst w := by
  unfold State.writeEffect; simp [h, h8]

theorem writeEffect_mon (s : State) {w : WriteCall} (h : w.ix / 0x400 = 27) (h8 : ¬ w.ix % 0x400 < 8) :
    s.writeEffect w = s.writeMon w := by
  unfold State.writeEffect; simp [h, h8]

theorem writeEffect_pmc (s : State) {w : WriteCall} (h : w.ix / 0x400 = 28) (h8 : ¬ w.ix % 0x400 < 8) :
    s.writeEffect w = s.writePmc w := by
  unfold State.writeEffect; simp [h, h8]

theorem writeEffect_upd (s : State) {w : WriteCall} (h : w.ix / 0x400 = 30) (h8 : ¬ w.ix % 0x400 < 8) :
    s.writeEffect w = s.writeUpd w := by
  unfold State.writeEffect; simp [h, h8]

/-- An answer that follows a granted write: the state is the effect's but for the stored answer, the output, the mailboxes and the frames
counted. -/
structure Answered (s u t : State) (r : Req) : Prop where
  same : t = { u with regs := t.regs, sessions := t.sessions, out := t.out, mailboxes := t.mailboxes }
  counted : ∀ ix sub, key ix sub ∉ pathCounters r.path → t.rd ix sub = u.rd ix sub
  answers : (∃ before : List Output, u.out = s.out ++ before) → s.Answers t r 0x11 .ok []

theorem answered_respond (s u : State) (r : Req) (hr : u.power.resetDue = false) :
    Answered s u
      (((store u r { opcode := 0x11, status := 0, payload := [] }).respond r.path r.session.toNat r.seq.toNat
        { opcode := 0x11, status := 0, payload := [] }).afterRequest) r := by
  have h : ((store u r { opcode := 0x11, status := 0, payload := [] }).respond r.path r.session.toNat r.seq.toNat
        { opcode := 0x11, status := 0, payload := [] }).power.resetDue = false := by rw [respond_power]; exact hr
  unfold State.afterRequest
  rw [h, if_neg (by decide)]
  constructor
  · rw [(respond_only (store u r _) r.path r.session.toNat r.seq.toNat _).same]; rfl
  · intro ix sub hk
    rw [respond_rd _ _ _ _ _ hk]; rfl
  · intro hu
    exact answers_of_respond (c := .ok) hu

end Sys2Proof.Laws
end

