-- ==== Sys2Proof/WellFormed.lean ====
section
/-! DEFINITION. Which commands are well formed: those that their interface can carry. A command's meaning does not rely on it but for the
lengths that the meaning itself checks. -/

namespace Sys2Proof

/-- A connection that discovery can find: one of the eight lanes a group has at most, and rates by the codes of R116. -/
def connFits (c : CxpConn) : Bool := decide (c.lane < 8 ∧ c.rates < 256)

/-- A DRAM request stands within one unit of 64 bytes, and a write has data (R385, R389). -/
def withinUnit (r : DramRequest) : Bool :=
  match r.write with
  | none => true
  | some d => decide (1 ≤ d.length ∧ r.addr % 64 + d.length ≤ 64)

/-- A PTP message's fields have the widths of IEEE 1588 (R463). -/
def ptpFits (m : PtpMessage) : Bool :=
  decide (m.domain < 256 ∧ m.seq < 2 ^ 16 ∧ m.source < 2 ^ 80 ∧ m.requesting < 2 ^ 80 ∧ -(2 ^ 63 : Int) ≤ m.correction ∧ m.correction < 2 ^ 63)

/-- Whether a PTP message is an Announce (R463). -/
def isAnnounce : PtpKind → Bool
  | .announce _ => true
  | .sync | .delayReq | .pdelayReq | .pdelayResp | .followUp | .delayResp | .pdelayRespFollowUp => false

/-- An access to BAR0 or BAR2 is a memory request of PCI Express (R368 to R370): a write carries at most the largest payload, a read asks for at
most the largest read request, and neither leaves the BAR; at a doorbell they are of its four octets. -/
def BarAccess.fits (access : BarAccess) (place : BarPlace) : Bool :=
  let length := match access with
    | .word _ => 4
    | .write data => if data.length ≤ 512 then data.length else 0
    | .read n => n.val
  match place with
  | .doorbell _ => decide (1 ≤ length ∧ length ≤ 4)
  | .bar0 offset => decide (1 ≤ length ∧ offset.toNat + length ≤ 2 ^ 16)
  | .bar2 offset => decide (1 ≤ length ∧ offset.toNat + length ≤ 2 ^ 12)

/-- The commands that their interface can carry. -/
def Instr.wf : Instr → Bool
  | .discoveryAttempt _ conns => conns.all connFits
  | .controlResponse _ _ data => decide (data.length ≤ 1024)
  | .doorbell place access => access.fits place
  | .pcieLinkUp link _ => decide (1 ≤ link.speed.toNat ∧ link.speed.toNat ≤ 5) && [1, 2, 4, 8, 16].contains link.width.toNat
  | .bar4Read offset length => decide (1 ≤ length.val ∧ offset.toNat + length.val ≤ 2 ^ 28)
  | .bar4Write offset data => decide (1 ≤ data.length ∧ data.length ≤ 512 ∧ offset.toNat + data.length ≤ 2 ^ 28)
  | .dramAccess arrivals _ _ => arrivals.all withinUnit
  | .rdimmAlert _ request _ => withinUnit request
  | .scrubPass corrected recovered failed =>
    corrected.all (fun x => x.1 % 64 == 0 && x.2 != 0) && recovered.all (fun u => u % 64 == 0) && failed.all (fun u => u % 64 == 0)
  | .authResponse _ _ _ signature => signature.length == 0 || signature.length == 96
  | .mailboxPost _ _ frame => decide (frame.length ≤ 3840)
  | .icmpEcho _ _ _ data => decide (data.length ≤ 1472)
  | .ptpSync _ _ _ m => ptpFits m && m.kind == .sync
  | .ptpFollowUp _ _ m => ptpFits m && m.kind == .followUp
  | .ptpDelayReq _ _ _ m => ptpFits m && m.kind == .delayReq
  | .ptpDelayResp _ _ m => ptpFits m && m.kind == .delayResp
  | .ptpPdelayReq _ _ _ m _ => ptpFits m && m.kind == .pdelayReq
  | .ptpPdelayResp _ _ _ m => ptpFits m && m.kind == .pdelayResp
  | .ptpPdelayRespFollowUp _ _ m => ptpFits m && m.kind == .pdelayRespFollowUp
  | .ptpAnnounce _ _ m => ptpFits m && isAnnounce m.kind
  | .interfaceInterval lanes encoders => lanes.all (fun x => decide (x.1 < 64)) && encoders.all (fun x => decide (x.1 < 4 ∧ x.2.length ≤ 3))
  | .arm .. | .start .. | .stop .. | .abort .. | .disarm .. | .clear .. | .drainComplete .. | .drainTimeout .. | .startPointReached ..
    | .write .. | .uncorrectableError .. | .correctedError .. => true
  | .encoderTransition .. | .lineFault .. | .lineFaultEnd .. | .encoderIndex .. | .serialPoll .. | .serialFrame ..
    | .serialFrameTimeout .. | .speedDecay .. | .standstill .. | .lpPreset .. | .countsPerLineWrite .. | .positionSourceWrite ..
    | .encoderModeWrite .. | .spacingCompareWrite .. | .probeEdge .. | .probeRecordOffer .. => true
  | .scheduleRequest .. | .cancelTag .. | .pulseWidthEnd .. | .widthCap .. | .force .. => true
  | .linkUp .. | .trainingFail .. | .trainingRetry .. | .laneLockLoss .. | .heartbeat .. | .heartbeatTimeout .. | .tagExpired ..
    | .triggerPacketFall .. | .frameStart .. | .lineFirstPacket .. | .lineComplete .. | .frameEnd .. | .controlRequest ..
    | .controlTimeout .. | .cameraEvent .. | .reconnectTimeout .. | .resume .. | .stripLengthWrite .. => true
  | .iplInput .. | .spareTarget .. | .spareLoaded .. | .takeOver .. | .handBack .. | .release .. | .stitchedLine | .lineWait => true
  | .braidTrainingComplete .. | .braidTrainingTimeout .. | .braidTrainingRetry .. | .retrainInterval .. | .braidClockLoss ..
    | .braidEyeTracking .. | .flitReceive .. | .nak .. | .ackTimeout .. | .overlapMessage .. | .rejoin .. | .blobEdgeSummary .. => true
  | .pageSubmit .. | .masterLoadStart | .masterLoadComplete .. | .loadTimeout | .queueFlush .. | .mapReset .. | .relock .. | .renumber ..
    | .pageMark | .markExpiry | .jobSubmit .. | .laneDispatch .. | .blockComplete .. | .jobCancel .. => true
  | .blobRecordEnqueue | .idleClose | .partialWait | .segSpareTarget .. | .segSpareLoaded .. | .segSpareTakeOver ..
    | .segSpareHandBack .. | .segSpareRelease .. | .engineClear .. | .clsInput | .ledgerLookup | .crumbPush | .ledgerClear ..
    | .ledgerSweepStep | .pfcOutput | .streakEventEnqueue | .swapRequest .. | .swapCancel .. | .bankWrite .. => true
  | .lossRecord .. | .queueFlagsRead .. | .descriptorFetch .. | .fetchRetry .. | .dmaPacket .. | .closeTimeout ..
    | .descriptorComplete .. | .fenceRead .. | .pause .. | .channelResume .. | .flush .. | .writeFail .. | .completionTimeout ..
    | .shadowArm .. | .cropCut | .cropBlockEncoded | .cropDeliver | .functionLevelReset | .pcieLinkDown | .busMasterDisable
    | .busMasterEnable | .aerError .. => true
  | .requestAging .. | .dramReadRetry .. | .refresh .. | .temperaturePoll .. | .eyeTracking .. | .retrainComplete .. | .retrainRetry ..
    | .errorInjection .. => true
  | .fire .. | .taskBusyEnd .. | .crossingExit .. | .vectorHoldoff .. | .claimOpen .. | .claimSecure .. | .claimRelease ..
    | .channelEnable .. => true
  | .openCmd .. | .close .. | .keepalive .. | .authChallenge .. | .read .. | .domRead .. | .domWrite .. | .segmentRead ..
    | .segmentWrite .. | .domAbort .. | .discover .. | .vdpFrameDiscard .. | .sessionTimeout .. | .sessionEnd .. | .segmentTimeout ..
    | .clientHello .. | .dtlsHandshake .. | .handshakeTimeout .. | .dtlsClose .. | .groupResponse | .mailboxAck .. | .nodeIdWrite ..
    | .trustAnchorWrite .. => true
  | .fnpLinkUp .. | .fnpLinkLoss .. | .modeAlternation .. | .arp .. | .fnpFrameDiscard .. | .syncInterval .. | .announceInterval ..
    | .delayReqInterval .. | .txtsTimeout .. | .announceTimeout .. | .syncReceiptTimeout .. | .holdoverLimit | .stepMarkEnd | .timeSet ..
    | .timeStep .. | .rateAdjustment .. | .pulseArm .. | .pulseEdge .. | .toutPulseEnd .. | .pulseModeWrite .. | .tinEdge ..
    | .captureRead .. => true
  | .runRequest .. | .runCancel .. | .runCheckComplete | .runApplyComplete | .runTimeout | .importCmd .. | .applyFactory ..
    | .importComplete | .itemWrite .. | .factorySave .. | .dueCheck => true
  | .provision .. | .enterService .. | .leaveService .. | .decommission .. | .serviceIdleTimeout | .bistRound | .sliceStart
    | .sliceComplete .. | .sliceRetry | .testUnit .. | .clearFailed .. | .fuseCommand .. | .fuseComplete .. => true
  | .recorderSample .. | .snapshotCommand .. | .snapshotInterval | .snapshotComplete | .windowRead .. | .recorderEnable ..
    | .freezeCommand .. | .freezeRelease .. | .userFreeze | .userRelease | .userClear | .counterClear .. => true
  | .ready .. | .run .. | .service .. | .standby .. | .off .. | .reset .. | .transitionComplete .. | .thermalTrip | .powerOn | .porstN
    | .perstN | .bootTargetReady .. | .watchdog | .mgtRestartComplete .. | .activate .. | .commit .. | .revert ..
    | .raiseSecurityVersion .. | .pwrfailWarning | .pwrfailComplete .. | .pwrfailRelease | .monitorPoll .. => true

end Sys2Proof
end

