-- ==== Sys2Proof/Tests/Slice0.lean ====
section
/-! SUPPORT. The model's own tests: ill-formed commands, a few steps, and for every statement with hypotheses a witness of all of them. -/

set_option Elab.async false
set_option maxRecDepth 10000
set_option linter.unusedVariables false

namespace Sys2Proof.Tests

open Sys2Proof Sys2Proof.Machine

/-! ### States to test with -/

/-- A session of mailbox 0 at level 3, opened by an authenticated client. -/
def ses : Session where
  id := 64
  path := .mailbox 0
  level := 3
  secure := true
  provisioned := false
  timeoutMs := 10000
  opened := 0
  lastNs := 0
  lastSeq := 5
  stored := none
  transfer := none
  cursor := 0
  challenge := none
  anchorMax := 3
/-- Its next request. -/
def rq : Req := { path := .mailbox 0, session := 64, seq := 6 }
/-- The device in Run, with that session. -/
def up : State :=
  { State.reset.wr Ix.sysPowerState 0 3 with pcie := { linkUp := true, busMaster := true, setup := hostDefaults }, sessions := [ses] }
/-- A function put into the state of a code. -/
def put (s : State) (f : Fn) (k : Nat) : State := s.wr f.base f.sub k

/-! ### Ill-formed commands, one for each check -/

/-- A PTP message whose domain is not a byte. -/
def badPtp (k : PtpKind) : PtpMessage :=
  { kind := k, domain := 256, seq := 3, source := 7, correction := 0, twoStep := false, time := 0, requesting := 0 }
/-- A PTP message that fits. -/
def goodPtp (k : PtpKind) : PtpMessage := { badPtp k with domain := 0 }
/-- An announced master. -/
def goodAnnounce : PtpAnnounce :=
  { priority1 := 1, clockClass := 6, accuracy := 32, variance := 1, priority2 := 1, grandmaster := 7, steps := 0, utcOffset := 37, traceable := true, timeSource := 0x20 }
/-- A request that crosses its unit of 64 bytes. -/
def crossing : DramRequest := { requester := 0, addr := 60, write := some [1, 2, 3, 4, 5], aged := false }

theorem illformed_discovery_lane : (Instr.discoveryAttempt 0 [⟨8, 1, 0, 3⟩]).wf = false := by decide
theorem illformed_discovery_rates : (Instr.discoveryAttempt 0 [⟨0, 1, 0, 256⟩]).wf = false := by decide
theorem illformed_control_response : (Instr.controlResponse 0 0 (List.replicate 1025 0)).wf = false := by decide +kernel
theorem illformed_link_speed : (Instr.pcieLinkUp ⟨6, 16⟩ hostDefaults).wf = false := by decide
theorem illformed_link_width : (Instr.pcieLinkUp ⟨5, 3⟩ hostDefaults).wf = false := by decide
theorem illformed_bar0_write : (Instr.doorbell (.bar0 0xFFFF) (.write [1, 2])).wf = false ∧ (Instr.doorbell (.bar0 0) (.write [])).wf = false := by decide +kernel
theorem illformed_bar0_read : (Instr.doorbell (.bar0 0xFFFF) (.read 2)).wf = false ∧ (Instr.doorbell (.bar2 0xFFF) (.read 2)).wf = false := by decide +kernel
theorem illformed_bar4_read : (Instr.bar4Read 5 0).wf = false := by decide
theorem illformed_bar4_write : (Instr.bar4Write 0xFFFFFFF [1, 2]).wf = false := by decide
theorem illformed_dram_access : (Instr.dramAccess [crossing] 0 .good).wf = false := by decide
theorem illformed_rdimm_alert : (Instr.rdimmAlert 0 crossing .good).wf = false := by decide
theorem illformed_auth_signature (r : Req) : (Instr.authResponse r 1 [] [0]).wf = false := rfl
theorem illformed_mailbox_frame : (Instr.mailboxPost 0 0 (List.replicate 3841 0)).wf = false := by decide +kernel
theorem illformed_echo : (Instr.icmpEcho 0 0 0 (List.replicate 1473 0)).wf = false := by decide +kernel
theorem illformed_sync : (Instr.ptpSync 0 0 0 (badPtp .sync)).wf = false ∧ (Instr.ptpSync 0 0 0 (goodPtp .followUp)).wf = false := by decide
theorem illformed_follow_up : (Instr.ptpFollowUp 0 0 (goodPtp .sync)).wf = false := by decide
theorem illformed_delay_req : (Instr.ptpDelayReq 0 0 0 (goodPtp .sync)).wf = false := by decide
theorem illformed_delay_resp : (Instr.ptpDelayResp 0 0 (goodPtp .sync)).wf = false := by decide
theorem illformed_pdelay_req : (Instr.ptpPdelayReq 0 0 0 (goodPtp .sync) true).wf = false := by decide
theorem illformed_pdelay_resp : (Instr.ptpPdelayResp 0 0 0 (goodPtp .sync)).wf = false := by decide
theorem illformed_pdelay_follow_up : (Instr.ptpPdelayRespFollowUp 0 0 (goodPtp .sync)).wf = false := by decide
theorem illformed_announce : (Instr.ptpAnnounce 0 0 (goodPtp .sync)).wf = false := by decide
theorem illformed_interval_lane : (Instr.interfaceInterval [(64, 0)] []).wf = false := by decide
theorem illformed_interval_encoder : (Instr.interfaceInterval [] [(4, [])]).wf = false := by decide
theorem wellformed_some : (Instr.discoveryAttempt 0 [⟨7, 1, 0, 255⟩]).wf = true ∧ (Instr.pcieLinkUp ⟨5, 16⟩ hostDefaults).wf = true ∧
    (Instr.ptpAnnounce 0 0 (goodPtp (.announce goodAnnounce))).wf = true := by decide

/-! ### A few steps -/

/-- The bins of the example of chapter 19: base 13,600, shift 4. -/
theorem test_recorder_bins :
    (({} : Accum).add 13600 4 13812 (0, 0)).bins = [(13, 1)] ∧ (({} : Accum).add 13600 4 14199 (0, 0)).bins = [(37, 1)] ∧
    (({} : Accum).add 13600 4 13580 (0, 0)).under = 1 := by decide +kernel

/-- No word spells a command. -/
theorem test_no_word : decodeTableWord 32 5 = none ∧ State.reset.withFetchWord 32 5 = State.reset := ⟨rfl, rfl⟩

/-- With nothing waiting, 4 ns pass. -/
theorem test_idle : (match step State.reset with
    | .next t => t.ns == 4 && t.pending.isEmpty
    | _ => false) = true := by decide +kernel

/-- A thermal trip takes the device to Off and leaves the rest of the queue. -/
theorem test_thermal_trip : (match step { up with pending := [.thermalTrip, .porstN] } with
    | .next t => t.power.off && t.pending == [.porstN]
    | _ => false) = true := by decide +kernel

/-! ### Witnesses -/

namespace P01

theorem witness_FunctionCommandsAct :
    (let s : State := up; let r : Req := rq; let x : Session := ses; let f : Fn := .stx; (s.Grants r x (f.base + 1) f.sub (pathNum r.path 1 1)) ∧ ((s.takeFree.asked r x).fn f = .stopped) ∧ ((s.takeFree.asked r x).armAllowed f = true) ∧ ((s.takeFree.asked r x).armable f = true) ∧ (s.AtRest)) ∧
    (let s : State := put up .cls 1; let r : Req := rq; let x : Session := ses; let f : Fn := .cls; (s.AtRest) ∧ (f ≠ spareFn) ∧ (s.Grants r x (f.base + 1) f.sub (pathNum r.path 1 2)) ∧ (s.fn f = .armed)) ∧
    (let s : State := put up (.dmc 3) 1; let r : Req := rq; let x : Session := ses; let f : Fn := .dmc 3; let c : Bool := true; (s.AtRest) ∧ (f ≠ spareFn) ∧ (s.Grants r x (f.base + 1) f.sub (pathNum r.path 1 (if c then 5 else 3))) ∧ (s.fn f = .armed)) ∧
    (let s : State := put up spareFn 4; let r : Req := rq; let x : Session := ses; let f : Fn := spareFn; (s.AtRest) ∧ (s.Grants r x (f.base + 1) f.sub (pathNum r.path 1 6)) ∧ (s.fn f = .faulted) ∧ ((∀ p, f = .ipl p → s.substituted p.val = false))) := by
  and_intros <;> decide +kernel

theorem witness_FunctionCommandsRefused :
    (let s : State := put up .wpu 2; let r : Req := rq; let x : Session := ses; let f : Fn := .wpu; let v : Nat := 2; let c : Instr := .start rq ⟨.wpu, false⟩; let m : Bool := false; (s.AtRest) ∧ (f ≠ spareFn) ∧ ((v, c) ∈ [(1, .arm r ⟨f, m⟩ true), (2, .start r ⟨f, m⟩), (3, .stop r ⟨f, m⟩), (4, .abort r ⟨f, m⟩), (5, .disarm r ⟨f, m⟩), (6, .clear r ⟨f, m⟩)]) ∧ (s.Grants r x (f.base + 1) f.sub (pathNum r.path 1 v)) ∧ ((v = 1 ∧ s.fn f ≠ .stopped) ∨ ((v = 2 ∨ v = 5) ∧ s.fn f ≠ .armed) ∨ (v = 3 ∧ (s.fn f = .stopped ∨ s.fn f = .faulted)) ∨ (v = 4 ∧ s.fn f ≠ .running ∧ s.fn f ≠ .draining) ∨ (v = 6 ∧ s.fn f ≠ .faulted) ∨ m = true)) ∧
    (let s : State := up; let r : Req := rq; let x : Session := ses; let v : Nat := 3; let c : Instr := .stop rq ⟨spareFn, false⟩; (s.AtRest) ∧ ((v, c) ∈ [(1, .arm r ⟨spareFn, false⟩ true), (2, .start r ⟨spareFn, false⟩), (3, .stop r ⟨spareFn, false⟩), (5, .disarm r ⟨spareFn, false⟩)]) ∧ (s.Grants r x (spareFn.base + 1) spareFn.sub (pathNum r.path 1 v))) := by
  and_intros <;> decide +kernel

theorem witness_StartPointsReached :
    (let s : State := (put up .pfc 1).fnFlag .pfc flagStartPending; let f : Fn := .pfc; let line : Nat := 4095; let image := (∃ n, f = .cpt n) ∨ (∃ n, f = .ipl n) ∨ f ∈ [Fn.stx, .mre, .seg, .cls, .pfc, .hrb]; (s.on = true) ∧ (s.AtRest) ∧ (s.fn f = .armed) ∧ (s.bit (f.base + 4) f.sub flagStartPending = true) ∧ (image ∧ line % s.rd Ix.cptStripLength 0 ≠ 0)) ∧
    (let s : State := (put up (.ipl 4) 1).fnFlag (.ipl 4) flagStartPending; let f : Fn := .ipl 4; let line : Nat := 8192; let image := (∃ n, f = .cpt n) ∨ (∃ n, f = .ipl n) ∨ f ∈ [Fn.stx, .mre, .seg, .cls, .pfc, .hrb]; (s.on = true) ∧ (s.AtRest) ∧ (s.fn f = .armed) ∧ (s.bit (f.base + 4) f.sub flagStartPending = true) ∧ (¬image ∨ line % s.rd Ix.cptStripLength 0 = 0)) := by
  and_intros <;> decide +kernel

theorem witness_FunctionsDrain :
    (let s : State := put up .pfc 2; let r : Req := rq; let x : Session := ses; let f : Fn := .pfc; (s.AtRest) ∧ (f ≠ spareFn) ∧ (s.Grants r x (f.base + 1) f.sub (pathNum r.path 1 3)) ∧ (s.fn f = .running)) ∧
    (let s : State := { put up .dma 3 with cut := [.dma] }; let f : Fn := .dma; (s.on = true) ∧ (s.AtRest) ∧ (s.fn f = .draining) ∧ (f ∈ s.cut ∨ s.drained f = true)) ∧
    (let s : State := { put up .psc 3 with psc := { up.psc with entries := [{ slot := 0, target := 5, action := 1, tag := 9 }] } }; let f : Fn := .psc; (s.on = true) ∧ (s.AtRest) ∧ (s.fn f = .draining) ∧ (f ∉ s.cut) ∧ (s.drained f = false)) ∧
    (let f : Fn := .evf; let s : State := put up .evf 2; let r : Req := rq; let x : Session := ses; (f ∈ [Fn.wpu, .psc, .evf, .cq, .sq, .xq, .pcie, .tbu, .pmc, .mon, .bst] ∨ (∃ n, f = .brd n) ∨ (∃ n, f = .fnp n)) ∧ (s.AtRest) ∧ (s.Grants r x (f.base + 1) f.sub (pathNum r.path 1 4)) ∧ (s.fn f = .running ∨ s.fn f = .draining)) ∧
    (let f : Fn := .psc; let s : State := put up .psc 3; (f ∈ [Fn.wpu, .psc, .evf, .cq, .sq, .xq, .pcie, .tbu, .pmc, .mon, .bst] ∨ (∃ n, f = .brd n) ∨ (∃ n, f = .fnp n)) ∧ (s.on = true) ∧ (s.AtRest) ∧ (s.fn f = .draining) ∧ (f ∉ s.cut)) := by
  and_intros <;> decide +kernel

theorem witness_ImageFunctionsCut :
    (let f : Fn := .seg; let s : State := put up .seg 2; let r : Req := rq; let x : Session := ses; (f ∈ [Fn.stx, .mre, .cde, .seg, .cls, .pfc, .hrb, .dma, .cal] ∨ (∃ n, f = .cpt n) ∨ (∃ n : Fin 17, n.val < 16 ∧ f = .ipl n) ∨ (∃ n, f = .dmc n)) ∧ (s.AtRest) ∧ (s.Grants r x (f.base + 1) f.sub (pathNum r.path 1 4)) ∧ (s.fn f = .running ∨ s.fn f = .draining)) ∧
    (let f : Fn := .cpt 4; let s : State := put up (.cpt 4) 3; (f ∈ [Fn.stx, .mre, .cde, .seg, .cls, .pfc, .hrb, .dma, .cal] ∨ (∃ n, f = .cpt n) ∨ (∃ n : Fin 17, n.val < 16 ∧ f = .ipl n) ∨ (∃ n, f = .dmc n)) ∧ (s.on = true) ∧ (s.AtRest) ∧ (s.fn f = .draining) ∧ (f ∉ s.cut)) := by
  and_intros <;> decide +kernel

theorem witness_MemoryErrorsReported :
    (let s : State := up; let part : EccPart := .iplTable 16; let address : BitVec 32 := 77; let f : Fn := .ipl 16; let cause : Nat := 1; (s.on = true) ∧ (s.AtRest) ∧ (s.runs .bst = false) ∧ (s.fn f = .stopped ∨ s.fn f = .armed) ∧ ((∀ n, f ≠ .cpt n)) ∧ (eccFault part = some (f, cause))) ∧
    (let s : State := put (put up .seg 2) .cls 2; let part : EccPart := .segPool []; let address : BitVec 32 := 77; let f : Fn := .seg; let cause : Nat := 1; (s.on = true) ∧ (s.EvfStill) ∧ (s.bst.test = none) ∧ (s.bst.round = false) ∧ (s.runs .bst = false) ∧ (s.fn f ≠ .faulted) ∧ (eccFault part = some (f, cause))) ∧
    (let s : State := put up .seg 2; let e : Fin 36 := 4; let address : BitVec 32 := 77; (s.on = true) ∧ (s.EvfStill) ∧ (s.bst.test = none) ∧ (s.bst.round = false) ∧ (s.runs .bst = false) ∧ (s.rd Ix.segEngineState (e.val + 1) ≠ 4)) ∧
    (let s : State := { up with queues := up.queues.set 1 { packets := [packetOf false [7, 8]] } }; let q : Fin 3 := 1; let packet : Nat := 0; let word : Nat := 1; let address : BitVec 32 := 0; let ws : List QWord := packetOf false [7, 8]; let w : QWord := { data := 8, parity := parityOf 8 true, poison := false }; (s.on = true) ∧ (s.AtRest) ∧ (s.queues[q].packets[packet]? = some ws) ∧ (ws[word]? = some w)) ∧
    (let s : State := up; let ix : BitVec 16 := 0x2011; let sub : BitVec 8 := 0; let address : BitVec 32 := 0; (s.on = true) ∧ (s.AtRest)) ∧
    (let s : State := up; let part : EccPart := .iplTable 0; let ix : Nat := Ix.iplCorrectedTableErrors; let sub : Nat := 1; let sx : Nat := Ix.iplPipelineStatus; let ssub : Nat := 1; let b : Nat := 3; (s.on = true) ∧ (eccCounted part = some ((ix, sub), (sx, ssub, b)))) ∧
    (let s : State := up; let n : Fin 4 := 2; (s.on = true)) ∧
    (let s : State := up; (s.on = true)) ∧
    (let s : State := up; let n : Fin 8 := 2; (s.on = true)) ∧
    (let s : State := up; let part : EccPart := .tbuSettings; (s.on = true) ∧ (part ∈ [EccPart.pscTable, .tbuSettings, .pmcCounters] ∨ (∃ n, part = .cptBuffer n) ∨ (∃ n, part = .fnpBuffer n) ∨ (∃ c, part = .evfRecord c))) ∧
    (let s : State := up; let q : Fin 3 := 1; let packet : Nat := 0; let word : Nat := 1; (s.on = true)) ∧
    (let s : State := up; let ix : BitVec 16 := 0x2011; let sub : BitVec 8 := 0; (s.on = true)) := by
  and_intros <;> decide +kernel

end P01

namespace P02

/-- The device with a WPU that has published since its reset. -/
def pub : State := ({ put up .wpu 2 with ns := 100000 } : State).publish
/-- The same, 20 µs later. -/
def later : State := { pub with ns := 120000, tbu := 0 }

theorem witness_EncodersCount :
    (let s : State := up.wr Ix.wpuPositionSource 0 2; let dt : Nat := 3; let n : Fin 4 := 1; let a : Bool := true; let b : Bool := false; (s.clocked = true) ∧ (s.EvfStill) ∧ (s.rd Ix.wpuEncoderMode (n.val + 1) = 1) ∧ (s.source ≠ n.val) ∧ (((s.wpu.enc[n]).a == a) ≠ ((s.wpu.enc[n]).b == b))) ∧
    (let s : State := up.wr Ix.wpuPositionSource 0 2; let dt : Nat := 3; let n : Fin 4 := 1; (s.clocked = true) ∧ (s.EvfStill) ∧ (1 ≤ s.rd Ix.wpuEncoderMode (n.val + 1)) ∧ (s.rd Ix.wpuEncoderMode (n.val + 1) ≤ 3) ∧ (s.source ≠ n.val)) ∧
    (let s : State := put up .wpu 2; let n : Fin 4 := 0; let k : Nat := 4294967296; let v : Nat := State.reset.rd Ix.wpuLP 0 * 4294967296 + 281474976710656; (s.clocked = true) ∧ (s.EvfStill) ∧ (s.runs .wpu = true) ∧ (s.source = n.val) ∧ (s.rd Ix.wpuEncoderMode (n.val + 1) = 1) ∧ (s.rd Ix.wpuDirectionInvert 0 = 0) ∧ ((s.wpu.enc[n]).a = false) ∧ ((s.wpu.enc[n]).b = false) ∧ (s.rdI Ix.wpuEncoderRawCount (n.val + 1) = s.rdI Ix.wpuPositionCount 0) ∧ (s.rdI Ix.wpuPositionCount 0 < 2 ^ 62) ∧ (-2 ^ 62 < s.rdI Ix.wpuPositionCount 0) ∧ (k = s.rd Ix.wpuLinePitch 1) ∧ (0 < k) ∧ (k < 2 ^ 64) ∧ (v = s.rd Ix.wpuLP 0 * k + s.rd Ix.wpuLPAccumulator 0 + 2 ^ 48) ∧ (v < 2 ^ 64 * k) ∧ ((∀ i : Fin 24, s.rd Ix.wpuSpacingMode (i.val + 1) = 0)) ∧ (s.psc.entries = []) ∧ (s.retirementDue = false)) := by
  and_intros <;> decide +kernel

theorem witness_EncoderLinesWatched :
    (let s : State := up.wr Ix.wpuLineFaultEnable 2 0; let n : Fin 4 := 1; let line : EncLine := .b; (s.clocked = true) ∧ (s.evf.inbox = []) ∧ (s.rd Ix.wpuEncoderElectrical (n.val + 1) ≠ 2) ∧ (s.rd Ix.wpuLineFaultEnable (n.val + 1) = 0)) ∧
    (let s : State := put up .wpu 2; let n : Fin 4 := 0; (s.clocked = true) ∧ (s.evf.inbox = []) ∧ (s.rd Ix.wpuEncoderElectrical (n.val + 1) ≠ 2) ∧ (s.rd Ix.wpuLineFaultEnable (n.val + 1) = 1) ∧ (s.source = n.val) ∧ (s.fn .wpu ≠ .faulted)) ∧
    (let s : State := up; let n : Fin 4 := 0; let line : EncLine := .z; (s.clocked = true)) ∧
    (let s : State := later; let dt : Nat := 0; let n : Fin 4 := 2; let p : Published := pub.publishedNow; (s.clocked = true) ∧ (s.EvfStill) ∧ (s.rd Ix.wpuEncoderMode (n.val + 1) ≠ 0) ∧ (publishedAt s.wpu.history (s.ns + 5 * dt - 5 * (s.rd Ix.wpuEncoderFilterLength (n.val + 1) + 2)) = some p)) := by
  and_intros <;> decide +kernel

theorem witness_SerialInputsRead :
    (let s : State := up.wr Ix.wpuSerialMode 2 1; let n : Fin 2 := 1; (s.clocked = true) ∧ (s.rd Ix.wpuSerialMode (n.val + 1) ≠ 0)) ∧
    (let s : State := (up.wr Ix.wpuSerialMode 2 2).setSer 1 { ref := some 5, count := -3, polling := true }; let dt : Nat := 0; let n : Fin 2 := 1; let word : BitVec 40 := 2; let crc : BitVec 6 := 0; let e : Bool := true; let w : Bool := true; let old : Nat := 5; let k : Nat := 26; (s.clocked = true) ∧ (s.EvfStill) ∧ (s.rd Ix.wpuSerialMode (n.val + 1) = 2) ∧ ((s.wpu.ser[n]).polling = true) ∧ ((s.wpu.ser[n]).ref = some old) ∧ (s.source ≠ n.val + 4) ∧ (k = s.rd Ix.wpuSerialPositionWidth (n.val + 1)) ∧ (old < 2 ^ k) ∧ (k ≤ 40)) ∧
    (let s : State := (up.wr Ix.wpuSerialMode 2 1).setSer 1 { ref := some 5, count := -3, polling := true }; let dt : Nat := 0; let n : Fin 2 := 1; let word : BitVec 40 := 2; let crc : BitVec 6 := 0; let w : Bool := true; (s.clocked = true) ∧ (s.EvfStill) ∧ (s.rd Ix.wpuSerialMode (n.val + 1) = 1) ∧ ((s.wpu.ser[n]).polling = true) ∧ (s.source ≠ n.val + 4)) ∧
    (let s : State := (up.wr Ix.wpuSerialMode 1 3).setSer 0 { ref := some 5, count := -3, polling := true }; let n : Fin 2 := 0; (s.clocked = true) ∧ (s.EvfStill) ∧ (s.rd Ix.wpuSerialMode (n.val + 1) ≠ 0) ∧ ((s.wpu.ser[n]).polling = true) ∧ (s.source ≠ n.val + 4)) := by
  and_intros <;> decide +kernel

theorem witness_SpeedAndProbes :
    (let s : State := { up with ns := 50000, wpu := { up.wpu with periods := [(100, 2)], lastChange := 1000 } }; let dt : Nat := 10; let e : Nat := 9010; let buf : List (Nat × Nat) := [(100, 2)]; (s.clocked = true) ∧ (s.EvfStill) ∧ (buf = s.wpu.periods.take (s.rd Ix.wpuSpeedAveraging 0)) ∧ (buf ≠ []) ∧ (e = (s.ns + 5 * dt) / 5 - s.wpu.lastChange) ∧ (sumCycles buf < e * sumCounts buf) ∧ (s.bit Ix.wpuPositionStatus 0 psDir = false)) ∧
    (let s : State := { up.clearBit Ix.wpuPositionStatus 0 psStandstill with wpu := { up.wpu with periods := [(100, 2)], lastChange := 1000 } }; let dt : Nat := 10; (s.clocked = true) ∧ (s.EvfStill) ∧ (s.bit Ix.wpuPositionStatus 0 psStandstill = false)) ∧
    (let s : State := later.wr Ix.wpuProbeEdge 3 3; let dt : Nat := 0; let n : Fin 8 := 2; let rising : Bool := false; let p : Published := pub.publishedNow; (s.clocked = true) ∧ (s.EvfStill) ∧ ((s.rd Ix.wpuProbeEdge (n.val + 1) = 3 ∨ s.rd Ix.wpuProbeEdge (n.val + 1) = if rising then 1 else 2)) ∧ (publishedAt s.wpu.history (s.ns + 5 * dt - 5 * (s.rd Ix.wpuProbeFilterLength (n.val + 1) + 2)) = some p) ∧ (p.running = true) ∧ (s.rd Ix.wpuLockout (n.val + 1) ≤ (if s.rd Ix.wpuLatchedLP (n.val + 1) ≤ p.lp then p.lp - s.rd Ix.wpuLatchedLP (n.val + 1) else s.rd Ix.wpuLatchedLP (n.val + 1) - p.lp)) ∧ ((s.wpu.probes[n]).length < 16)) ∧
    (let s : State := { put up .xq 2 with wpu := { up.wpu with probes := up.wpu.probes.set 3 [{ rising := true, lp := 7, time := 9, count := 2 }] } }; let n : Fin 8 := 3; let l : ProbeLatch := { rising := true, lp := 7, time := 9, count := 2 }; let ls : List ProbeLatch := []; (s.clocked = true) ∧ (s.wpu.probes[n] = l :: ls) ∧ (s.runs .xq = true) ∧ ((s.queues[xqIx]).lostPackets = 0) ∧ (s.depth xqIx + 4 ≤ 16384)) := by
  and_intros <;> decide +kernel

theorem witness_PositionWritesAct :
    (let s : State := up; let r : Req := rq; let x : Session := ses; let v : Nat := 281474976710656; (s.EvfStill) ∧ (s.Grants r x Ix.wpuLPPresetCommand 0 (pathNum r.path 1 1)) ∧ (v = s.rd Ix.wpuLPPresetValue 0) ∧ (v < 2 ^ 64)) ∧
    (let s : State := up; let r : Req := rq; let x : Session := ses; let v : BitVec 64 := 8589934592; (s.EvfStill) ∧ (s.Grants r x Ix.wpuLinePitch 1 (pathNum r.path 8 v.toNat))) ∧
    (let s : State := up.wrI Ix.wpuEncoderRawCount 4 (-77); let r : Req := rq; let x : Session := ses; let v : BitVec 8 := 3; (s.EvfStill) ∧ (s.Grants r x Ix.wpuPositionSource 0 (pathNum r.path 1 v.toNat))) ∧
    (let s : State := up; let r : Req := rq; let x : Session := ses; let n : Fin 4 := 3; let v : BitVec 8 := 4; (s.EvfStill) ∧ (s.Grants r x Ix.wpuEncoderMode (n.val + 1) (pathNum r.path 1 v.toNat))) ∧
    (let s : State := up.setSer 1 { ref := some 5 }; let r : Req := rq; let x : Session := ses; let n : Fin 2 := 1; let v : BitVec 8 := 2; (s.EvfStill) ∧ (s.Grants r x Ix.wpuSerialMode (n.val + 1) (pathNum r.path 1 v.toNat))) ∧
    (let s : State := put up .wpu 2; let r : Req := rq; let x : Session := ses; let n : Fin 24 := 23; let v : BitVec 64 := 77; (s.EvfStill) ∧ (s.Grants r x Ix.wpuSpacingCompare (n.val + 1) (pathNum r.path 8 v.toNat)) ∧ (s.runs .wpu = false ∨ s.rd Ix.wpuSpacingMode (n.val + 1) = 0)) := by
  and_intros <;> decide +kernel

theorem witness_SchedulerActs :
    (let s : State := put up .psc 2; let r : Req := rq; let x : Session := ses; let target : BitVec 64 := 0x0001000000010000; let action : BitVec 32 := 0x105; let tag : BitVec 32 := 9; let e : PscEntry := { slot := 0, target := 0x0001000000010000, action := 0x105, tag := 9 }; (s.EvfStill) ∧ (s.Grants r x Ix.pscScheduleRequest 0 (leBytes 8 target.toNat ++ leBytes 4 action.toNat ++ leBytes 4 tag.toNat)) ∧ (s.runs .psc = true) ∧ (actionOk action.toNat = true) ∧ (actKind action.toNat ≠ 4) ∧ (s.psc.entries.length < 512) ∧ (e = { slot := freeSlot s.psc.entries 0, target := target.toNat - s.rd Ix.pscLead (actNumber action.toNat + 1), action := action.toNat, tag := tag.toNat }) ∧ (targetMet (s.rd Ix.wpuLP 0) e.target e.action = false)) ∧
    (let s : State := put up .psc 2; let r : Req := rq; let x : Session := ses; let target : BitVec 64 := 0x0001000000000000; let action : BitVec 32 := 0x105; let tag : BitVec 32 := 9; let e : PscEntry := { slot := 0, target := 0x0001000000000000, action := 0x105, tag := 9 }; (s.EvfStill) ∧ (s.Grants r x Ix.pscScheduleRequest 0 (leBytes 8 target.toNat ++ leBytes 4 action.toNat ++ leBytes 4 tag.toNat)) ∧ (s.runs .psc = true) ∧ (actionOk action.toNat = true) ∧ (actKind action.toNat ≠ 4) ∧ (s.psc.entries.length < 512) ∧ (e = { slot := freeSlot s.psc.entries 0, target := target.toNat - s.rd Ix.pscLead (actNumber action.toNat + 1), action := action.toNat, tag := tag.toNat }) ∧ (targetMet (s.rd Ix.wpuLP 0) e.target e.action = true) ∧ (actLateFire e.action = false) ∧ (actRecord e.action = false)) ∧
    (let s : State := { up with psc := { up.psc with entries := [{ slot := 0, target := 5, action := 1, tag := 9 }] } }; let r : Req := rq; let x : Session := ses; let tag : BitVec 32 := 9; (s.Grants r x Ix.pscCancelTag 0 (pathNum r.path 4 tag.toNat))) ∧
    (let s : State := { up with psc := { up.psc with outs := up.psc.outs.set 5 { active := true, pulse := some { inLp := false, endLp := 8 } } } }; let n : Fin 48 := 5; let p : Pulse := { inLp := false, endLp := 8 }; (s.clocked = true) ∧ ((s.psc.outs[n]).pulse = some p) ∧ (p.inLp = false)) ∧
    (let s : State := { up with psc := { up.psc with outs := up.psc.outs.set 47 { active := true, pulse := some { inLp := true, endLp := 8 } } } }; let n : Fin 48 := 47; let p : Pulse := { inLp := true, endLp := 8 }; (s.clocked = true) ∧ ((s.psc.outs[n]).pulse = some p)) ∧
    (let s : State := up; let r : Req := rq; let x : Session := ses; let n : Fin 48 := 47; let v : BitVec 8 := 2; (s.Grants r x Ix.pscForce (n.val + 1) (pathNum r.path 1 v.toNat))) := by
  and_intros <;> decide +kernel

end P02

namespace P04

/-- A port with its link up. -/
def linked : State := up.wr Ix.cptLinkState 4 3
/-- A port that takes lines, with tags of strip 1. -/
def taking (c : CptState) : State := (put linked (.cpt 3) 2).setPort 3 c
/-- A tag of a line. -/
def tagOf (l : Nat) : Tag := { line := l, lp := l * 65536 + 5, time := 77, tbu := 0 }
/-- The camera of two connections. -/
def conns2 : List CxpConn := [⟨7, 42, 1, 0x7F⟩]

theorem witness_CameraLinksTrain :
    (let s : State := up; let n : Fin 32 := 3; (s.clocked = true) ∧ (s.rd Ix.cptLaneCount (n.val + 1) ≠ 0) ∧ (s.rd Ix.cptLinkState (n.val + 1) ≠ 2) ∧ (s.rd Ix.cptLinkState (n.val + 1) ≠ 3)) ∧
    (let s : State := up; let n : Fin 32 := 3; let x : CxpConn := ⟨6, 42, 0, 0x3E⟩; let xs : List CxpConn := conns2; (s.clocked = true) ∧ (s.rd Ix.cptLaneCount (n.val + 1) ≠ 0) ∧ (s.rd Ix.cptLinkState (n.val + 1) ≠ 2) ∧ (s.rd Ix.cptLinkState (n.val + 1) ≠ 3) ∧ (connsMatch (s.rd Ix.cptLaneCount (n.val + 1)) (x :: xs) = true) ∧ ((s.cpt[n]).known = none)) ∧
    (let s : State := up; let n : Fin 32 := 3; let x : CxpConn := ⟨6, 42, 0, 0x3E⟩; let xs : List CxpConn := []; (s.clocked = true) ∧ (s.rd Ix.cptLaneCount (n.val + 1) ≠ 0) ∧ (s.rd Ix.cptLinkState (n.val + 1) ≠ 2) ∧ (s.rd Ix.cptLinkState (n.val + 1) ≠ 3) ∧ (connsMatch (s.rd Ix.cptLaneCount (n.val + 1)) (x :: xs) = false)) ∧
    (let s : State := up.setPort 3 { train := .first, rate := 5 }; let n : Fin 32 := 3; let skew : Nat := 64; (s.clocked = true) ∧ ((s.cpt[n]).train = .first) ∧ (skew ≤ s.rd Ix.cptLaneSkewLimit (n.val + 1))) ∧
    (let s : State := up.setPort 3 { train := .first, rate := 5 }; let n : Fin 32 := 3; (s.clocked = true) ∧ ((s.cpt[n]).train = .first)) ∧
    (let s : State := up.setPort 3 { train := .retry, rate := 5 }; let n : Fin 32 := 3; (s.clocked = true) ∧ ((s.cpt[n]).train = .retry)) ∧
    (let s : State := up.setPort 3 { train := .backOff, rate := 5 }; let n : Fin 32 := 3; (s.clocked = true) ∧ ((s.cpt[n]).train = .backOff)) := by
  and_intros <;> decide +kernel

theorem witness_CameraLinksWatched :
    (let s : State := linked; let n : Fin 32 := 3; (s.clocked = true) ∧ (s.rd Ix.cptLinkState (n.val + 1) = 3)) ∧
    (let s : State := taking { tags := [tagOf 4096, tagOf 4097] }; let n : Fin 32 := 3; (s.clocked = true) ∧ (s.rd Ix.cptLinkState (n.val + 1) = 3)) ∧
    (let s : State := ((up.wr Ix.cptLinkState 4 4).wr Ix.cptReconnectTimeout 4 5).setPort 3 { needResume := true }; let n : Fin 32 := 3; (s.clocked = true) ∧ (s.AtRest) ∧ (s.rd Ix.cptReconnectTimeout (n.val + 1) ≠ 0) ∧ (s.rd Ix.cptLinkState (n.val + 1) = 4) ∧ ((s.cpt[n]).needResume = true) ∧ (s.fn (.cpt n) = .stopped ∨ s.fn (.cpt n) = .armed)) := by
  and_intros <;> decide +kernel

theorem witness_CameraLinesPair :
    (let s : State := taking { tags := [tagOf 4096, tagOf 4097] }; let dt : Nat := 2; let n : Fin 32 := 3; let x : Tag := tagOf 4096; let xs : List Tag := [tagOf 4097]; (s.clocked = true) ∧ (s.portTakes n = true) ∧ ((s.cpt[n]).tags = x :: xs) ∧ ((s.posCycles dt).overdue n x = false) ∧ (x.line % s.rd Ix.cptStripLength 0 = 0)) ∧
    (let s : State := taking {}; let dt : Nat := 2; let n : Fin 32 := 3; (s.clocked = true) ∧ (s.portTakes n = true) ∧ ((s.cpt[n]).tags = [])) ∧
    (let s : State := taking { slots := 2, incoming := [true, true] }; let dt : Nat := 2; let n : Fin 32 := 3; (s.clocked = true)) ∧
    (let s : State := (taking { tags := [tagOf 4096, tagOf 4097], incoming := [true], slots := 1, frameStrip := some 1, sendNext := some 4096 }).wr Ix.cptLineWidth 4 16; let dt : Nat := 0; let n : Fin 32 := 3; let x : Tag := tagOf 4096; let xs : List Tag := [tagOf 4097]; let last : Bool := false; let header : Nat := 0; let xSize : Nat := 16; let samples : List (BitVec 16) := List.replicate 16 0x1FF; (s.clocked = true) ∧ (s.portTakes n = true) ∧ ((s.cpt[n]).incoming = [true]) ∧ ((s.cpt[n]).outOfStep = false) ∧ ((s.cpt[n]).framePos < s.rd Ix.cptStripLength 0) ∧ ((s.cpt[n]).tags = x :: xs) ∧ ((s.posCycles dt).overdue n x = false) ∧ ((s.cpt[n]).frameStrip = some (x.line / s.rd Ix.cptStripLength 0)) ∧ ((s.cpt[n]).resolved = []) ∧ ((s.cpt[n]).sendNext = some x.line) ∧ (header = formatHeader (s.rd Ix.cptPixelFormat (n.val + 1))) ∧ (xSize = formatRows (s.rd Ix.cptPixelFormat (n.val + 1)) * s.rd Ix.cptLineWidth (n.val + 1)) ∧ (samples.length = formatComponents (s.rd Ix.cptPixelFormat (n.val + 1)) * s.rd Ix.cptLineWidth (n.val + 1))) ∧
    (let s : State := taking {}; let dt : Nat := 0; let n : Fin 32 := 3; let c : Bool := false; let e : Bool := false; let header : Nat := 0; let xSize : Nat := 0; let samples : List (BitVec 16) := []; (s.clocked = true)) ∧
    (let s : State := taking { outOfStep := true }; let dt : Nat := 2; let n : Fin 32 := 3; (s.clocked = true) ∧ (s.portTakes n = true) ∧ ((s.cpt[n]).outOfStep = true)) ∧
    (let s : State := taking { tags := [tagOf 4096, tagOf 8192], frameStrip := some 1, sendNext := some 4096, tagNext := some 8193 }; let dt : Nat := 2; let n : Fin 32 := 3; let k : Nat := 1; (s.clocked = true) ∧ (s.portTakes n = true) ∧ ((s.cpt[n]).outOfStep = false) ∧ ((s.cpt[n]).frameStrip = some k) ∧ ((s.cpt[n]).framePos < s.rd Ix.cptStripLength 0)) ∧
    (let s : State := { taking { tags := [tagOf 4096, tagOf 8192], sendNext := some 4096, tagNext := some 8193 } with ns := 5, tbu := 2000000000 * 2 ^ 32 }; let dt : Nat := 2; let n : Fin 32 := 3; (s.clocked = true)) ∧
    (let s : State := taking { pulsesHigh := 2 }; let n : Fin 32 := 3; (s.clocked = true) ∧ ((s.cpt[n]).pulsesHigh ≠ 0)) := by
  and_intros <;> decide +kernel

theorem witness_CameraControlAct :
    (let s : State := linked; let r : Req := rq; let x : Session := ses; let n : Fin 32 := 3; let value : Octets := [1, 0, 4, 0, 9, 9, 9, 9]; (s.Grants r x Ix.cptControlRequest (n.val + 1) value) ∧ (s.rd Ix.cptLinkState (n.val + 1) = 3) ∧ (controlOk value = true) ∧ (s.rd Ix.cptControlStatus (n.val + 1) ≠ 1)) ∧
    (let s : State := linked.wr Ix.cptControlStatus 4 1; let r : Req := rq; let x : Session := ses; let n : Fin 32 := 3; let value : Octets := [1, 0, 4, 0, 9, 9, 9, 9]; (s.Grants r x Ix.cptControlRequest (n.val + 1) value) ∧ (s.rd Ix.cptLinkState (n.val + 1) = 3) ∧ (controlOk value = true) ∧ (s.rd Ix.cptControlStatus (n.val + 1) = 1)) ∧
    (let s : State := linked.wr Ix.cptControlStatus 4 1; let n : Fin 32 := 3; let ack : BitVec 8 := 1; let data : Octets := [5]; (s.clocked = true) ∧ (s.rd Ix.cptControlStatus (n.val + 1) = 1)) ∧
    (let s : State := linked.wr Ix.cptControlStatus 4 1; let n : Fin 32 := 3; (s.clocked = true) ∧ (s.rd Ix.cptControlStatus (n.val + 1) = 1)) ∧
    (let s : State := linked; let n : Fin 32 := 3; let ack : BitVec 8 := 0; let data : Octets := []; (s.rd Ix.cptControlStatus (n.val + 1) ≠ 1)) ∧
    (let s : State := linked; let n : Fin 32 := 31; let packet : Octets := [1, 2]; (s.clocked = true)) ∧
    (let s : State := linked; let r : Req := rq; let x : Session := ses; let n : Fin 32 := 3; (s.Grants r x Ix.cptResume (n.val + 1) (pathNum r.path 1 1)) ∧ (s.rd Ix.cptLinkState (n.val + 1) = 3)) ∧
    (let s : State := up; let r : Req := rq; let x : Session := ses; let v : BitVec 32 := 256; (s.Grants r x Ix.cptStripLength 0 (pathNum r.path 4 v.toNat))) := by
  and_intros <;> decide +kernel

end P04

namespace P05

/-- A line's tag at port 3. -/
def ltag (l reason : Nat) : LineTag := { line := l, lp := l * 65536 + 5, time := 77, triggerToLine := 0, port := 3, reason := reason, frameStart := false, frameEnd := false, format := 0, width := 16, frames := 1 }
/-- Pipeline 2 with an item of camera 3, whose line 6 was the last. -/
def piped (k : Nat) (it : CamItem) : State :=
  { (put ((up.wr Ix.cptPipeline 4 2).wr Ix.cptLineWidth 4 16) (iplFn 2) k) with
    iplIn := up.iplIn.set 2 [it], ipl := up.ipl.set 3 { last := some 6, next := some 7 } }
/-- A strip-close record of camera 3. -/
def closeOf : StripClose := { port := 3, strip := 0, lines := 16, reasons := List.replicate 11 0, long := 0, lp0 := 5, time0 := 6, timeLast := 7, truncated := false }
/-- STX with camera 3 alone, 16 columns wide, at line 7, the camera's latest line being `h`. -/
def stitching (h : Nat) : State :=
  { put up .stx 2 with stx := { places := [⟨3, 0, 16⟩], width := 16, next := some 7, first := 0, cams := (Vector.replicate 32 {}).set 3 { lines := [], high := some h, closed := none } } }
/-- The spare serves pipeline 2 in a state. -/
def spared (k : Nat) : State := ((put up spareFn 2).wr Ix.iplSpareState 0 k).wr Ix.iplSpareServing 0 2

theorem witness_LinesPassPipelines :
    (let s : State := up; let m : Fin 16 := 2; let d : Bool := false; (s.clocked = true) ∧ (s.AtRest) ∧ (s.iplIn[m] = [])) ∧
    (let s : State := piped 0 (.line (ltag 7 0) (List.replicate 16 9)); let m : Fin 16 := 2; let n : Fin 32 := 3; let d : Bool := false; let tag : LineTag := ltag 7 0; let v : List Nat := List.replicate 16 9; let xs : List CamItem := []; (s.clocked = true) ∧ (s.AtRest) ∧ (s.iplIn[m] = CamItem.line tag v :: xs) ∧ (tag.port = n.val) ∧ (s.fn (iplFn m) = .stopped) ∧ (s.rd Ix.iplSpareState 0 = 0) ∧ (tag.line % s.strip ≠ 0)) ∧
    (let s : State := piped 2 (.line (ltag 7 0) (List.replicate 16 9)); let m : Fin 16 := 2; let n : Fin 32 := 3; let d : Bool := false; let tag : LineTag := ltag 7 0; let v : List Nat := List.replicate 16 9; let xs : List CamItem := []; let l : Nat := 6; (s.clocked = true) ∧ (s.AtRest) ∧ (s.iplIn[m] = CamItem.line tag v :: xs) ∧ (tag.port = n.val) ∧ (s.fn (iplFn m) = .running) ∧ (s.rd Ix.iplSpareState 0 = 0) ∧ (tag.line = l + 1) ∧ (tag.reason = 0) ∧ ((l + 1) % s.strip ≠ 0) ∧ (s.pipes[m].start ≤ l) ∧ (s.rd Ix.cptPipeline (n.val + 1) = m.val) ∧ (s.rd Ix.cptPixelFormat (n.val + 1) = 0) ∧ ((s.ipl[n]).last = some l) ∧ ((s.ipl[n]).next = some (l + 1)) ∧ ((s.ipl[n]).closes = []) ∧ (s.cal.run = none) ∧ (s.fn .stx = .stopped) ∧ (s.fn .pfc = .stopped) ∧ (s.pmcCounts = false)) ∧
    (let s : State := piped 2 (.marker (ltag 7 10)); let m : Fin 16 := 2; let n : Fin 32 := 3; let d : Bool := false; let tag : LineTag := ltag 7 10; let xs : List CamItem := []; let l : Nat := 6; (s.clocked = true) ∧ (s.AtRest) ∧ (s.iplIn[m] = CamItem.marker tag :: xs) ∧ (tag.port = n.val) ∧ (s.fn (iplFn m) = .running) ∧ (s.rd Ix.iplSpareState 0 = 0) ∧ (tag.line = l + 1) ∧ (1 ≤ tag.reason) ∧ (tag.reason ≤ 10) ∧ ((l + 1) % s.strip ≠ 0) ∧ (s.pipes[m].start ≤ l) ∧ (s.rd Ix.cptPipeline (n.val + 1) = m.val) ∧ (s.rd Ix.cptPixelFormat (n.val + 1) = 0) ∧ ((s.ipl[n]).last = some l) ∧ ((s.ipl[n]).next = some (l + 1)) ∧ ((s.ipl[n]).closes = []) ∧ (s.cal.run = none) ∧ (s.fn .stx = .stopped) ∧ (s.fn .pfc = .stopped)) ∧
    (let s : State := (piped 2 (.close closeOf)).wr Ix.iplStatisticsEnable 0 1; let m : Fin 16 := 2; let n : Fin 32 := 3; let d : Bool := false; let r : StripClose := closeOf; let xs : List CamItem := []; let l : Nat := 7; (s.clocked = true) ∧ (s.AtRest) ∧ (s.EvfStill) ∧ (s.iplIn[m] = CamItem.close r :: xs) ∧ (r.port = n.val) ∧ (r.truncated = false) ∧ (s.fn (iplFn m) = .running) ∧ (s.rd Ix.iplSpareState 0 = 0) ∧ (s.pipes[m].start ≤ r.strip * s.strip) ∧ (s.rd Ix.cptPipeline (n.val + 1) = m.val) ∧ ((s.ipl[n]).next = some l) ∧ (l < (r.strip + 1) * s.strip) ∧ ((s.ipl[n]).closes = []) ∧ ((s.ipl[n]).tap = 0) ∧ (s.rd Ix.iplStatisticsEnable 0 = 1) ∧ (s.cal.run = none)) ∧
    (let s : State := stitching 8; let l : Nat := 7; (s.clocked = true) ∧ (s.AtRest) ∧ (s.EvfStill) ∧ (s.formsLine = some l) ∧ (s.camerasReady l = true) ∧ (s.rolePorts roleOp = []) ∧ (s.rolePorts roleFar = []) ∧ (l % s.strip ≠ 0) ∧ ((l + 1) % s.strip ≠ 0) ∧ (s.waitOver l = false) ∧ (s.fn .mre = .stopped) ∧ (s.fn .hrb = .stopped) ∧ (s.fn .pfc = .stopped) ∧ (s.rd Ix.segInputSource 0 = 0)) ∧
    (let s : State := stitching 16; let l : Nat := 7; (s.clocked = true) ∧ (s.AtRest) ∧ (s.EvfStill) ∧ (s.formsLine = some l) ∧ (s.waitOver l = true) ∧ (s.rolePorts roleOp = []) ∧ (s.rolePorts roleFar = []) ∧ (l % s.strip ≠ 0) ∧ ((l + 1) % s.strip ≠ 0) ∧ (s.fn .mre = .stopped) ∧ (s.fn .hrb = .stopped) ∧ (s.fn .pfc = .stopped) ∧ (s.rd Ix.segInputSource 0 = 0)) ∧
    (let s : State := piped 2 (.close closeOf); let m : Fin 16 := 2; let d : Bool := false; let x : CamItem := .close closeOf; let xs : List CamItem := []; (s.clocked = true) ∧ (s.AtRest) ∧ (s.iplIn[m] = x :: xs)) ∧
    (let s : State := piped 2 (.line (ltag 0 0) (List.replicate 16 9)); let m : Fin 16 := 2; let n : Fin 32 := 3; let d : Bool := false; let tag : LineTag := ltag 0 0; let v : List Nat := List.replicate 16 9; let xs : List CamItem := []; (s.clocked = true) ∧ (s.AtRest) ∧ (s.iplIn[m] = CamItem.line tag v :: xs) ∧ (tag.port = n.val) ∧ (s.fn (iplFn m) = .running) ∧ (s.rd Ix.iplSpareState 0 = 0) ∧ (s.pipes[m].start ≤ tag.line)) ∧
    (let s : State := piped 2 (.marker (ltag 0 10)); let m : Fin 16 := 2; let n : Fin 32 := 3; let d : Bool := false; let tag : LineTag := ltag 0 10; let xs : List CamItem := []; (s.clocked = true) ∧ (s.AtRest) ∧ (s.iplIn[m] = CamItem.marker tag :: xs) ∧ (tag.port = n.val) ∧ (s.fn (iplFn m) = .running) ∧ (s.rd Ix.iplSpareState 0 = 0) ∧ (s.pipes[m].start ≤ tag.line)) ∧
    (let s : State := stitching 8; let l : Nat := 7; (s.clocked = true) ∧ (s.AtRest) ∧ (s.formsLine = some l) ∧ (s.camerasReady l = true) ∧ ((s.rolePorts roleOp = [] ∧ s.rolePorts roleFar = []) ∨ (s.stx.sent = some l ∧ s.neighboursReady l = true))) ∧
    (let s : State := { stitching 8 with stx := { (stitching 8).stx with cams := Vector.replicate 32 {} } }; let l : Nat := 7; (s.clocked = true) ∧ (s.formsLine = some l) ∧ (s.camerasReady l = false ∨ (s.stx.sent = some l ∧ s.neighboursReady l = false))) ∧
    (let s : State := stitching 16; let l : Nat := 7; (s.clocked = true) ∧ (s.AtRest) ∧ (s.formsLine = some l) ∧ (s.waitOver l = true)) ∧
    (let s : State := stitching 8; let l : Nat := 7; (s.clocked = true) ∧ (s.formsLine = some l) ∧ (s.waitOver l = false)) := by
  and_intros <;> decide +kernel

theorem witness_SpareActs :
    (let s : State := up; let r : Req := rq; let x : Session := ses; let value : BitVec 8 := 2; (s.AtRest) ∧ (s.EvfStill) ∧ (s.Grants r x Ix.iplSpareTarget 0 (pathNum r.path 1 value.toNat)) ∧ (value.toNat < 16) ∧ (s.rd Ix.iplSpareState 0 = 0) ∧ (s.fn spareFn = .stopped) ∧ (s.bstHolds 16 = false)) ∧
    (let s : State := spared 1; let r : Req := rq; let x : Session := ses; let value : BitVec 8 := 2; (s.Grants r x Ix.iplSpareTarget 0 (pathNum r.path 1 value.toNat)) ∧ (s.rd Ix.iplSpareState 0 ≠ 0)) ∧
    (let s : State := spared 1; let micros : Nat := 70; (s.clocked = true) ∧ (s.AtRest) ∧ (s.rd Ix.iplSpareState 0 = 1 ∨ s.rd Ix.iplSpareState 0 = 4) ∧ (s.spare.loaded = false)) ∧
    (let s : State := spared 2; let r : Req := rq; let x : Session := ses; (s.AtRest) ∧ (s.Grants r x Ix.iplSpareCommand 0 (pathNum r.path 1 1)) ∧ (s.rd Ix.iplSpareState 0 = 1 ∨ s.rd Ix.iplSpareState 0 = 2) ∧ (s.bstHolds 16 = false)) ∧
    (let s : State := (spared 3).wr Ix.iplOutputSpace 0 2; let r : Req := rq; let x : Session := ses; let m : Fin 16 := 2; (s.AtRest) ∧ (s.EvfStill) ∧ (s.Grants r x Ix.iplSpareCommand 0 (pathNum r.path 1 2)) ∧ (s.rd Ix.iplSpareState 0 = 3) ∧ (s.rd Ix.iplSpareServing 0 = m.val) ∧ (s.fn (iplFn m) = .stopped) ∧ (s.iplArmable m = true) ∧ (s.substituted m.val = false) ∧ (s.bstHolds 16 = false) ∧ (s.fn spareFn = .running)) ∧
    (let s : State := spared 2; let r : Req := rq; let x : Session := ses; (s.AtRest) ∧ (s.EvfStill) ∧ (s.Grants r x Ix.iplSpareCommand 0 (pathNum r.path 1 3)) ∧ (s.rd Ix.iplSpareState 0 = 1 ∨ s.rd Ix.iplSpareState 0 = 2) ∧ (s.fn spareFn = .running) ∧ (s.bstHolds 16 = false)) ∧
    (let s : State := spared 3; let r : Req := rq; let x : Session := ses; (s.AtRest) ∧ (s.Grants r x Ix.iplSpareCommand 0 (pathNum r.path 1 3)) ∧ (s.rd Ix.iplSpareState 0 = 0 ∨ s.rd Ix.iplSpareState 0 = 3 ∨ s.rd Ix.iplSpareState 0 = 4) ∧ (s.bstHolds 16 = false)) := by
  and_intros <;> decide +kernel

end P05

namespace P06

/-- A Braid port 2 of a role, Running, with a Link state and a port state. -/
def braid (role k : Nat) (p : BrdPort) : State :=
  ((put up (.brd 2) 2).wr Ix.brdPortRole 3 role).wr Ix.brdLinkState 3 k |>.setBrdPort 2 p
/-- A partner that fits, on the side of the neighbour's role. -/
def partnerOf (role : Nat) : BraidPartner :=
  { serial := 7, node := 3, port := 0, role := BitVec.ofNat 8 (3 - role), base := if role = 2 then BitVec.ofNat 32 (up.localWidth up.placesNow) else 0, width := 0, blend := 16, exchange := 64 }
/-- Eight octets. -/
def eight (k : Nat) : Vector Byte 8 := Vector.replicate 8 (BitVec.ofNat 8 k)
/-- A flit of a message whole in itself. -/
def oneFlit : Octets := flitOctets 1 3 7 0 false 2 [1, 2]
/-- A flit as a vector. -/
def flitV (f : Octets) : Vector Byte 80 := Vector.ofFn (fun i => f.getD i.val 0)

theorem witness_BraidLinksTrain :
    (let s : State := braid 2 1 { train := .first }; let n : Fin 4 := 2; let p : BraidPartner := partnerOf 2; let reports : Vector (BitVec 8) 8 := (eight 9).set 4 40 |>.set 6 40; let eye : BitVec 16 := 12; let lanes : Vector Byte 8 := eight 1; let taps : Vector Byte 8 := eight 2; let skew : Vector Byte 8 := eight 3; let micros : Nat := 7; (s.clocked = true) ∧ (s.runs (.brd n) = true) ∧ ((s.brd.ports[n]).train = .first) ∧ (s.partnerFits n p = true) ∧ (s.rd Ix.brdTXPresetOverride (n.val + 1) = 255) ∧ ((∃ k : Fin 8, s.rd Ix.brdEyeMinimum (n.val + 1) ≤ (reports[k]).toNat)) ∧ (s.rd Ix.brdPortRole (n.val + 1) = roleFar)) ∧
    (let s : State := (((braid 1 1 { train := .first }).wr Ix.brdTXPresetOverride 3 5).wr Ix.brdBraidSeamState 1 1) |> (fun u => { u with stx := { u.stx with next := some 9000 } }); let n : Fin 4 := 2; let p : BraidPartner := partnerOf 1; let reports : Vector (BitVec 8) 8 := eight 9; let eye : BitVec 16 := 12; let lanes : Vector Byte 8 := eight 1; let taps : Vector Byte 8 := eight 2; let skew : Vector Byte 8 := eight 3; let micros : Nat := 7; let l : Nat := 9000; (s.clocked = true) ∧ (s.runs (.brd n) = true) ∧ ((s.brd.ports[n]).train = .first) ∧ (s.partnerFits n p = true) ∧ (s.rd Ix.brdTXPresetOverride (n.val + 1) < 8) ∧ (s.rd Ix.brdPortRole (n.val + 1) = roleOp) ∧ (s.rd Ix.brdBraidSeamState roleOp = 1) ∧ (s.stx.next = some l)) ∧
    (let s : State := braid 2 1 { train := .first }; let n : Fin 4 := 2; let p : BraidPartner := partnerOf 1; let reports : Vector (BitVec 8) 8 := eight 9; let eye : BitVec 16 := 12; let lanes : Vector Byte 8 := eight 1; let taps : Vector Byte 8 := eight 2; let skew : Vector Byte 8 := eight 3; let micros : Nat := 7; (s.clocked = true) ∧ (s.runs (.brd n) = true) ∧ ((s.brd.ports[n]).train = .first) ∧ (s.partnerFits n p = false)) ∧
    (let s : State := braid 2 1 { train := .first }; let n : Fin 4 := 2; let p : BraidPartner := partnerOf 2; let reports : Vector (BitVec 8) 8 := eight 9; let eye : BitVec 16 := 12; let lanes : Vector Byte 8 := eight 1; let taps : Vector Byte 8 := eight 2; let skew : Vector Byte 8 := eight 3; let micros : Nat := 7; (s.clocked = true) ∧ (s.runs (.brd n) = true) ∧ ((s.brd.ports[n]).train = .first) ∧ (s.partnerFits n p = true) ∧ (s.rd Ix.brdTXPresetOverride (n.val + 1) = 255) ∧ ((∀ k : Fin 8, (reports[k]).toNat < s.rd Ix.brdEyeMinimum (n.val + 1)))) ∧
    (let s : State := braid 2 1 { train := .backOff }; let n : Fin 4 := 2; (s.clocked = true) ∧ ((s.brd.ports[n]).train = .backOff)) ∧
    (let s : State := braid 2 1 { train := .retry }; let n : Fin 4 := 2; (s.clocked = true) ∧ ((s.brd.ports[n]).train = .retry)) ∧
    (let s : State := braid 2 5 {}; let n : Fin 4 := 2; (s.clocked = true) ∧ (s.runs (.brd n) = true) ∧ (s.rd Ix.brdLinkState (n.val + 1) = 4 ∨ s.rd Ix.brdLinkState (n.val + 1) = 5) ∧ (s.rd Ix.brdPortRole (n.val + 1) ≠ 0)) ∧
    (let s : State := braid 2 2 { rx := 9 }; let n : Fin 4 := 2; (s.clocked = true) ∧ (s.runs (.brd n) = true) ∧ (s.rd Ix.brdLinkState (n.val + 1) = 2) ∧ (s.rd Ix.brdPortRole (n.val + 1) ≠ 0)) ∧
    (let s : State := ((braid 2 2 {}).wro Ix.brdLaneSamplingDelay 3 (eight 126).toList).calBase 9 2 (eight 126).toList; let n : Fin 4 := 2; let lane : Fin 8 := 7; let taps : Vector Byte 8 := eight 126; (s.clocked = true) ∧ (s.runs (.brd n) = true) ∧ (s.rd Ix.brdLinkState (n.val + 1) = 2) ∧ (s.rdo Ix.brdLaneSamplingDelay (n.val + 1) = taps.toList) ∧ ((taps[lane]).toNat < 127) ∧ (s.driftAllows 9 n.val lane.val ((taps[lane]).toNat + 1) = true)) ∧
    (let s : State := ((braid 2 2 {}).wro Ix.brdLaneSamplingDelay 3 (eight 126).toList).calBase 9 2 (eight 126).toList; let n : Fin 4 := 2; let lane : Fin 8 := 7; let up : Bool := false; let taps : Vector Byte 8 := eight 126; let v : Nat := 125; (s.clocked = true) ∧ (s.runs (.brd n) = true) ∧ (s.rd Ix.brdLinkState (n.val + 1) = 2) ∧ (s.rdo Ix.brdLaneSamplingDelay (n.val + 1) = taps.toList) ∧ (v = (if up then min 127 ((taps[lane]).toNat + 1) else (taps[lane]).toNat - 1)) ∧ (s.driftAllows 9 n.val lane.val v = true)) ∧
    (let s : State := (braid 2 2 {}).wro Ix.brdLaneSamplingDelay 3 (eight 126).toList; let n : Fin 4 := 2; let lane : Fin 8 := 7; let up : Bool := true; let taps : Vector Byte 8 := eight 126; let v : Nat := 127; (s.clocked = true) ∧ (s.runs (.brd n) = true) ∧ (s.rd Ix.brdLinkState (n.val + 1) = 2) ∧ (s.rdo Ix.brdLaneSamplingDelay (n.val + 1) = taps.toList) ∧ (v = (if up then min 127 ((taps[lane]).toNat + 1) else (taps[lane]).toNat - 1)) ∧ (s.driftAllows 9 n.val lane.val v = false)) := by
  and_intros <;> decide +kernel

theorem witness_BraidLinksCarry :
    (let s : State := braid 2 2 { rx := 7, credits := 511, naked := true }; let n : Fin 4 := 2; let flit : Vector Byte 80 := flitV oneFlit; (s.clocked = true) ∧ (s.runs (.brd n) = true) ∧ (s.rd Ix.brdLinkState (n.val + 1) = 2) ∧ (leAt flit.toList 76 4 = crc32c (flit.toList.take 76)) ∧ (octAt flit.toList 0 = msgOverlap) ∧ (octAt flit.toList 1 = 3) ∧ (leAt flit.toList 2 2 = (s.brd.ports[n]).rx) ∧ ((s.brd.ports[n]).rx < 4096) ∧ (leAt flit.toList 4 2 < 4096) ∧ ((s.brd.ports[n]).replay = []) ∧ ((s.brd.ports[n]).waiting = [])) ∧
    (let s : State := braid 2 2 { rx := 7 }; let n : Fin 4 := 2; let flit : Vector Byte 80 := flitV (oneFlit.set 9 0); (s.clocked = true) ∧ (s.runs (.brd n) = true) ∧ (s.rd Ix.brdLinkState (n.val + 1) = 2) ∧ (leAt flit.toList 76 4 ≠ crc32c (flit.toList.take 76)) ∧ ((s.brd.ports[n]).naked = false)) ∧
    (let s : State := braid 2 2 { rx := 7, naked := true }; let n : Fin 4 := 2; let flit : Vector Byte 80 := flitV ((oneFlit.set 1 4).set 9 0); (s.clocked = true) ∧ (s.runs (.brd n) = true) ∧ (s.rd Ix.brdLinkState (n.val + 1) = 2) ∧ (leAt flit.toList 76 4 ≠ crc32c (flit.toList.take 76)) ∧ (octAt flit.toList 1 = 4) ∧ ((s.brd.ports[n]).naked = true) ∧ (s.rd Ix.brdPortRole (n.val + 1) ≠ 0)) ∧
    (let s : State := braid 2 2 { replay := [(5, [1]), (6, oneFlit), (7, oneFlit)] }; let n : Fin 4 := 2; let ack : BitVec 12 := 6; let k : Nat := 1; (s.clocked = true) ∧ (s.runs (.brd n) = true) ∧ (s.rd Ix.brdLinkState (n.val + 1) = 2) ∧ ((s.brd.ports[n]).replay.findIdx? (fun f => f.1 == ack.toNat) = some k) ∧ (((s.brd.ports[n]).replay.drop (k + 1)).head?.any (fun f => (s.brd.ports[n]).resent.contains f.1) = false)) ∧
    (let s : State := braid 2 2 { replay := [(5, [1]), (6, oneFlit), (7, oneFlit)], resent := [7] }; let n : Fin 4 := 2; let ack : BitVec 12 := 6; let k : Nat := 1; let f : Nat × Octets := (7, oneFlit); (s.clocked = true) ∧ (s.runs (.brd n) = true) ∧ (s.rd Ix.brdLinkState (n.val + 1) = 2) ∧ (s.rd Ix.brdPortRole (n.val + 1) ≠ 0) ∧ ((s.brd.ports[n]).replay.findIdx? (fun f => f.1 == ack.toNat) = some k) ∧ (((s.brd.ports[n]).replay.drop (k + 1)).head? = some f) ∧ (f.1 ∈ (s.brd.ports[n]).resent)) ∧
    (let s : State := braid 2 2 { replay := [(5, [1]), (6, oneFlit)] }; let n : Fin 4 := 2; (s.clocked = true) ∧ (s.runs (.brd n) = true) ∧ (s.rd Ix.brdLinkState (n.val + 1) = 2) ∧ ((s.brd.ports[n]).replay.head?.any (fun f => (s.brd.ports[n]).resent.contains f.1) = false)) ∧
    (let s : State := braid 2 2 { replay := [(5, [1]), (6, oneFlit)], resent := [5, 6] }; let n : Fin 4 := 2; let f : Nat × Octets := (5, [1]); (s.clocked = true) ∧ (s.runs (.brd n) = true) ∧ (s.rd Ix.brdLinkState (n.val + 1) = 2) ∧ (s.rd Ix.brdPortRole (n.val + 1) ≠ 0) ∧ ((s.brd.ports[n]).replay.head? = some f) ∧ (f.1 ∈ (s.brd.ports[n]).resent)) ∧
    (let s : State := (braid 2 2 { inbox := [⟨1, leBytes 8 (7 * 65536 + 9) ++ zeros 20⟩] }) |> (fun u => { u with stx := { u.stx with next := some 7 } }); let n : Fin 4 := 2; let m : BraidMessage := ⟨1, leBytes 8 (7 * 65536 + 9) ++ zeros 20⟩; let ms : List BraidMessage := []; let l : Nat := 7; (s.clocked = true) ∧ ((s.brd.ports[n]).inbox = m :: ms) ∧ (m.type = msgOverlap) ∧ (s.stx.next = some l) ∧ (l ≤ leAt m.payload 0 8 / 2 ^ 16) ∧ (s.stx.neighbours.all (fun x => x.role != s.rd Ix.brdPortRole (n.val + 1) || x.lp != leAt m.payload 0 8) = true)) ∧
    (let s : State := (braid 2 2 { inbox := [⟨1, leBytes 8 (7 * 65536 + 9) ++ zeros 20⟩] }) |> (fun u => { u with stx := { u.stx with next := some 8 } }); let n : Fin 4 := 2; let m : BraidMessage := ⟨1, leBytes 8 (7 * 65536 + 9) ++ zeros 20⟩; let ms : List BraidMessage := []; let l : Nat := 8; (s.clocked = true) ∧ ((s.brd.ports[n]).inbox = m :: ms) ∧ (m.type = msgOverlap) ∧ (s.stx.next = some l) ∧ (leAt m.payload 0 8 / 2 ^ 16 < l)) ∧
    (let s : State := (braid 2 2 { inbox := [⟨3, leBytes 8 2⟩] }) |> (fun u => { u with stx := { u.stx with next := some 8192 } }); let n : Fin 4 := 2; let m : BraidMessage := ⟨3, leBytes 8 2⟩; let ms : List BraidMessage := []; let l : Nat := 8192; (s.clocked = true) ∧ ((s.brd.ports[n]).inbox = m :: ms) ∧ (m.type = msgRejoin) ∧ (s.rd Ix.brdPortRole (n.val + 1) = roleFar) ∧ (s.stx.next = some l) ∧ (l < leAt m.payload 0 8 * s.strip ∨ l = leAt m.payload 0 8 * s.strip ∧ s.stx.sent ≠ some l)) ∧
    (let s : State := (braid 2 2 { inbox := [⟨3, leBytes 8 2⟩] }) |> (fun u => { u with stx := { u.stx with next := some 8192, sent := some 8192 } }); let n : Fin 4 := 2; let m : BraidMessage := ⟨3, leBytes 8 2⟩; let ms : List BraidMessage := []; let l : Nat := 8192; (s.clocked = true) ∧ ((s.brd.ports[n]).inbox = m :: ms) ∧ (m.type = msgRejoin) ∧ (s.rd Ix.brdPortRole (n.val + 1) = roleFar) ∧ (s.stx.next = some l) ∧ (leAt m.payload 0 8 * s.strip < l ∨ leAt m.payload 0 8 * s.strip = l ∧ s.stx.sent = some l) ∧ (m.payload.length ≤ 64) ∧ (s.runs (.brd n) = true) ∧ (s.rd Ix.brdLinkState (n.val + 1) = 2) ∧ ((s.brd.ports[n]).waiting = []) ∧ ((s.brd.ports[n]).credits ≠ 0) ∧ ((s.brd.ports[n]).replay.length < 256)) ∧
    (let s : State := ((braid 1 2 { inbox := [⟨3, leBytes 8 2⟩] }).wr Ix.brdBraidSeamState 1 1) |> (fun u => { u with stx := { u.stx with next := some 8192 } }); let n : Fin 4 := 2; let m : BraidMessage := ⟨3, leBytes 8 2⟩; let ms : List BraidMessage := []; let l : Nat := 8192; (s.clocked = true) ∧ ((s.brd.ports[n]).inbox = m :: ms) ∧ (m.type = msgRejoin) ∧ (s.rd Ix.brdPortRole (n.val + 1) = roleOp) ∧ (s.stx.next = some l) ∧ (s.rd Ix.brdBraidSeamState roleOp = 1)) ∧
    (let s : State := ((put (braid 2 2 { inbox := [⟨2, leBytes 8 99 ++ [1, 0, 5, 0, 255, 255, 0, 0]⟩] }) .seg 2).wr Ix.brdBraidSeamState 2 0) |> (fun u => { u with seg := { u.seg with taken := [(0, 99)] } }); let n : Fin 4 := 2; let m : BraidMessage := ⟨2, leBytes 8 99 ++ [1, 0, 5, 0, 255, 255, 0, 0]⟩; let ms : List BraidMessage := []; let lp : Nat := 99; (s.clocked = true) ∧ (s.runs .seg = true) ∧ ((s.brd.ports[n]).inbox = m :: ms) ∧ (m.type = msgBlobEdge) ∧ (s.rd Ix.brdPortRole (n.val + 1) = roleFar) ∧ (s.rd Ix.brdBraidSeamState roleFar = 0) ∧ (octAt m.payload 9 = 0) ∧ (s.brd.used.contains ((roleFar, msgBlobEdge), leAt m.payload 0 8) = false) ∧ (s.seg.taken.find? (fun x => x.1 == leAt m.payload 0 8 / 65536) = some (leAt m.payload 0 8 / 65536, lp)) ∧ (s.lpMatches (leAt m.payload 0 8) lp = true)) ∧
    (let s : State := ((put (braid 2 2 { inbox := [⟨2, leBytes 8 9999 ++ [1, 0, 5, 0, 255, 255, 0, 0]⟩] }) .seg 2).wr Ix.brdBraidSeamState 2 0) |> (fun u => { u with seg := { u.seg with taken := [(0, 9)] } }); let n : Fin 4 := 2; let m : BraidMessage := ⟨2, leBytes 8 9999 ++ [1, 0, 5, 0, 255, 255, 0, 0]⟩; let ms : List BraidMessage := []; let lp : Nat := 9; (s.clocked = true) ∧ (s.runs .seg = true) ∧ ((s.brd.ports[n]).inbox = m :: ms) ∧ (m.type = msgBlobEdge) ∧ (s.rd Ix.brdPortRole (n.val + 1) ≠ 0) ∧ (s.rd Ix.brdBraidSeamState (s.rd Ix.brdPortRole (n.val + 1)) = 0) ∧ (s.brd.used.contains ((s.rd Ix.brdPortRole (n.val + 1), msgBlobEdge), leAt m.payload 0 8) = false) ∧ (s.seg.taken.find? (fun x => x.1 == leAt m.payload 0 8 / 65536) = some (leAt m.payload 0 8 / 65536, lp)) ∧ (s.lpMatches (leAt m.payload 0 8) lp = false)) ∧
    (let s : State := ((put (braid 2 2 { inbox := [⟨2, leBytes 8 99 ++ [1, 0, 5, 0, 255, 255, 0, 0]⟩] }) .seg 2).wr Ix.brdBraidSeamState 2 0) |> (fun u => { u with seg := { u.seg with next := some 0 } }); let n : Fin 4 := 2; let m : BraidMessage := ⟨2, leBytes 8 99 ++ [1, 0, 5, 0, 255, 255, 0, 0]⟩; let ms : List BraidMessage := []; let k : Nat := 0; (s.clocked = true) ∧ (s.runs .seg = true) ∧ ((s.brd.ports[n]).inbox = m :: ms) ∧ (m.type = msgBlobEdge) ∧ (s.rd Ix.brdPortRole (n.val + 1) ≠ 0) ∧ (s.rd Ix.brdBraidSeamState (s.rd Ix.brdPortRole (n.val + 1)) = 0) ∧ (s.brd.used.contains ((s.rd Ix.brdPortRole (n.val + 1), msgBlobEdge), leAt m.payload 0 8) = false) ∧ (s.seg.taken.find? (fun x => x.1 == leAt m.payload 0 8 / 65536) = none) ∧ (s.seg.next = some k) ∧ (k ≤ leAt m.payload 0 8 / 65536)) ∧
    (let s : State := (braid 2 2 { inbox := [⟨2, leBytes 8 99 ++ [1, 0, 5, 0, 255, 255, 0, 0]⟩] }) |> (fun u => { u with stx := { u.stx with next := some 9 } }); let n : Fin 4 := 2; let m : BraidMessage := ⟨2, leBytes 8 99 ++ [1, 0, 5, 0, 255, 255, 0, 0]⟩; let ms : List BraidMessage := []; (s.clocked = true) ∧ ((s.brd.ports[n]).inbox = m :: ms) ∧ (m.type = msgBlobEdge)) ∧
    (let s : State := ((put (braid 2 2 { inbox := [⟨2, leBytes 8 99 ++ [1, 0, 5, 0, 255, 255, 0, 0]⟩] }) .seg 2).wr Ix.brdBraidSeamState 2 0) |> (fun u => { u with seg := { u.seg with taken := [(0, 99)] } }); let n : Fin 4 := 2; let m : BraidMessage := ⟨2, leBytes 8 99 ++ [1, 0, 5, 0, 255, 255, 0, 0]⟩; let ms : List BraidMessage := []; (s.clocked = true) ∧ (s.runs .seg = true) ∧ ((s.brd.ports[n]).inbox = m :: ms) ∧ (m.type = msgBlobEdge) ∧ (s.rd Ix.brdPortRole (n.val + 1) ≠ 0) ∧ (s.rd Ix.brdBraidSeamState (s.rd Ix.brdPortRole (n.val + 1)) = 0) ∧ (s.brd.used.contains ((s.rd Ix.brdPortRole (n.val + 1), msgBlobEdge), leAt m.payload 0 8) = false)) ∧
    (let s : State := braid 2 2 {}; let n : Fin 4 := 1; (s.clocked = true) ∧ ((s.brd.ports[n]).inbox.all (fun m => m.type != msgBlobEdge) = true)) := by
  and_intros <;> decide +kernel

end P06

namespace P07

/-- The first 56 octets of a page header: a Mono8 page of one pixel, its blocks at 80. -/
def pageHead : Octets :=
  leBytes 4 0x50474D56 ++ leBytes 2 1 ++ leBytes 2 0 ++ [2, 0, 0, 0] ++ leBytes 4 0 ++ leBytes 4 1 ++ leBytes 4 1 ++ zeros 8 ++ leBytes 4 1 ++ leBytes 4 1 ++ leBytes 4 64 ++ leBytes 4 80 ++ leBytes 8 96
/-- Its page image of 96 octets. -/
def pageImage : Octets := pageHead ++ leBytes 4 (crc32c (pageHead ++ zeros 4)) ++ zeros 4 ++ zeros 32
/-- A queued page. -/
def pg7 : MasterPage := { number := 7, tag := 3, host := 4096, len := 96 }
/-- MRE with a queue, in a state. -/
def mred (k : Nat) (q : List MasterPage) : State := { put up .mre k with mre := { queue := q } }
/-- MRE with one page in transfer. -/
def moving7 : MasterPage := { pg7 with moving := true, place := some 0 }
/-- A submit of page 7. -/
def submit7 : Octets := leBytes 4 7 ++ leBytes 4 3 ++ leBytes 8 4096 ++ leBytes 8 96 ++ zeros 8
/-- MRE with modules in every socket. -/
def mapped : State := { up with dmc := { up.dmc with map := [0, 1, 2, 3, 4, 5, 6, 7] } }
/-- A session's write of a Job submit of operation 3 over an empty input. -/
def jobOf (op : Nat) : Octets := [BitVec.ofNat 8 op, 2, 0, 0] ++ leBytes 4 9 ++ leBytes 8 (mapped.region 3).1 ++ zeros 8 ++ leBytes 8 (mapped.region 3).1 ++ leBytes 8 64 ++ zeros 24
/-- CDE Running. -/
def cded (c : CdeState) : State := { put mapped .cde 2 with cde := c }
/-- A crop block of one pixel. -/
def cropB : CropBlock := { handle := 4, index := 0, width := 1, height := 1, comps := 1, data := [5, 6] }

theorem witness_MasterQueueActs :
    (let s : State := { mapped with pending := [] }; let r : Req := rq; let x : Session := ses; let value : Octets := submit7; (s.Grants r x Ix.mrePageSubmit 0 value) ∧ (s.clocked = true) ∧ (s.rd Ix.mreLastSubmittedPage 0 < leAt value 0 4) ∧ (s.mre.lastBound < leAt value 0 4) ∧ (leAt value 8 8 % 16 = 0) ∧ (leAt value 16 8 ≠ 0) ∧ (leAt value 16 8 ≤ (s.region 4).2) ∧ (leAt value 24 8 = 0) ∧ (value.length = 32) ∧ (s.mre.queue.length < s.rd Ix.mreQueueCapacity 0)) ∧
    (let s : State := { mapped with mre := { lastBound := 7 } }; let r : Req := rq; let x : Session := ses; let value : Octets := submit7; (s.Grants r x Ix.mrePageSubmit 0 value) ∧ (s.clocked = true) ∧ (leAt value 0 4 ≤ s.rd Ix.mreLastSubmittedPage 0 ∨ leAt value 0 4 ≤ s.mre.lastBound ∨ leAt value 8 8 % 16 ≠ 0 ∨ leAt value 16 8 = 0 ∨ (s.region 4).2 < leAt value 16 8 ∨ leAt value 24 8 ≠ 0)) ∧
    (let s : State := { put (put mapped .pcie 2) .dma 2 with mre := { queue := [pg7] } }; let p : MasterPage := pg7; let a : Nat := (mapped.region 4).1; (s.clocked = true) ∧ (s.loadsMove = true) ∧ (s.mre.queue.find? (fun q => q.load == .loading) = some p) ∧ (p.moving = false) ∧ (s.placeFor p.len = some a)) ∧
    (let s : State := { mapped with mre := { queue := [moving7] } }; let p : MasterPage := moving7; let a : Nat := 0; let image : Octets := pageImage; (s.clocked = true) ∧ (s.mre.queue = [p]) ∧ (p.moving = true) ∧ (p.place = some a) ∧ (s.dma[31].failing = none) ∧ (image.length = p.len) ∧ (imageOk p.len image = true)) ∧
    (let s : State := { mapped with mre := { queue := [moving7] } }; let p : MasterPage := moving7; let a : Nat := 0; let image : Octets := pageImage.set 4 9; (s.clocked = true) ∧ (s.EvfStill) ∧ (s.mre.queue = [p]) ∧ (p.moving = true) ∧ (p.place = some a) ∧ (s.dma[31].failing = none) ∧ (image.length = p.len) ∧ (imageOk p.len image = false)) ∧
    (let s : State := { mapped with mre := { queue := [moving7] } }; let p : MasterPage := moving7; (s.clocked = true) ∧ (s.EvfStill) ∧ (s.mre.queue = [p]) ∧ (p.moving = true)) ∧
    (let s : State := { mapped with mre := { queue := [moving7, pg7] } }; let r : Req := rq; let x : Session := ses; (s.Grants r x Ix.mreQueueCommand 0 (pathNum r.path 1 1))) ∧
    (let s : State := mapped; let r : Req := rq; let x : Session := ses; (s.Grants r x Ix.mreQueueCommand 0 (pathNum r.path 1 2))) ∧
    (let s : State := { up.wr Ix.mreBindingState 0 2 with mre := { miss := 2 } }; let r : Req := rq; let x : Session := ses; (s.Grants r x Ix.mreQueueCommand 0 (pathNum r.path 1 3)) ∧ (s.rd Ix.mreBindingState 0 ≠ bsFreeRun)) ∧
    (let s : State := { up with mre := { lastBound := 2 } }; let r : Req := rq; let x : Session := ses; (s.Grants r x Ix.mreQueueCommand 0 (pathNum r.path 1 4)) ∧ (s.fn .mre = .stopped) ∧ (s.mre.queue = [])) ∧
    (let s : State := { up with mre := { queue := [pg7] } }; let r : Req := rq; let x : Session := ses; (s.Grants r x Ix.mreQueueCommand 0 (pathNum r.path 1 4)) ∧ (s.mre.queue ≠ [])) ∧
    (let s : State := { mapped with mre := { queue := [pg7, { moving7 with number := 9 }] } }; let p : MasterPage := { moving7 with number := 9 }; let a : Nat := 0; let image : Octets := pageImage; (s.clocked = true) ∧ (s.movingPage = some p) ∧ (p.place = some a) ∧ (s.dma[31].failing = none) ∧ (image.length = p.len) ∧ (imageOk p.len image = true)) ∧
    (let s : State := { mapped with mre := { queue := [pg7, { moving7 with number := 9 }] } }; let p : MasterPage := { moving7 with number := 9 }; let a : Nat := 0; let image : Octets := pageImage.set 4 9; (s.clocked = true) ∧ (s.movingPage = some p) ∧ (p.place = some a) ∧ (s.dma[31].failing = none) ∧ (image.length = p.len) ∧ (imageOk p.len image = false)) ∧
    (let s : State := { mapped with mre := { queue := [pg7, { moving7 with number := 9 }] } }; let p : MasterPage := { moving7 with number := 9 }; let image : Octets := []; (s.clocked = true) ∧ (s.movingPage = some p)) ∧
    (let s : State := { mapped with mre := { queue := [pg7, { moving7 with number := 9 }] } }; let p : MasterPage := { moving7 with number := 9 }; (s.clocked = true) ∧ (s.movingPage = some p)) ∧
    (let s : State := mapped; let image : Octets := [1]; let d : Bool := false; (s.movingPage = none)) := by
  and_intros <;> decide +kernel

theorem witness_MarksBind :
    (let s : State := { put up .mre 2 with mre := { marks := [(0x500000, 9)], mLast := some 0x100000 } }; let m : Nat := 0x500000; let time : Nat := 9; let l : Nat := 0x100000; let ms : List (Nat × Nat) := []; (s.clocked = true) ∧ (s.fn .mre = .running) ∧ (s.mre.marks = (m, time) :: ms) ∧ (s.mre.mLast = some l) ∧ (m ≤ l + s.rd Ix.mreMarkWindow 0)) ∧
    (let s : State := { (put up .mre 2).wr Ix.mreDeviationMode 0 2 with mre := { marks := [(0x500000, 9)], queue := [{ pg7 with load := .ready, head := pageImage.take 64 }] } }; let m : Nat := 0x500000; let time : Nat := 9; let ms : List (Nat × Nat) := []; let p : MasterPage := { pg7 with load := .ready, head := pageImage.take 64 }; let ps : List MasterPage := []; (s.clocked = true) ∧ (s.EvfStill) ∧ (s.fn .mre = .running) ∧ (s.mre.marks = (m, time) :: ms) ∧ (s.mre.mLast = none) ∧ (s.rd Ix.mreBindingState 0 = bsAcquiring) ∧ (s.mre.queue = p :: ps) ∧ (p.load = .ready) ∧ (s.formatSuits p.head = true) ∧ (s.mre.bound = [])) ∧
    (let s : State := { (put up .mre 2).wr Ix.mreBindingState 0 2 with mre := { marks := [(0x4C00000, 9)], mLast := some 0, pitch := some 0x5000000, miss := 1 } }; let m : Nat := 0x4C00000; let time : Nat := 9; let l : Nat := 0; let e : Nat := 0x5000000; let ms : List (Nat × Nat) := []; (s.clocked = true) ∧ (s.EvfStill) ∧ (s.fn .mre = .running) ∧ (s.mre.marks = (m, time) :: ms) ∧ (s.mre.mLast = some l) ∧ (l + s.rd Ix.mreMarkWindow 0 < m) ∧ (s.rd Ix.mreBindingState 0 = bsFlywheel) ∧ (s.expected = some e) ∧ (e - s.rd Ix.mreMarkWindow 0 ≤ m) ∧ (m ≤ e + s.rd Ix.mreMarkWindow 0) ∧ (s.mre.queue = []) ∧ (s.mre.bound = [])) ∧
    (let s : State := { (put up .mre 2).wr Ix.mreBindingState 0 1 with mre := { marks := [(0x4BFFFFF, 9)], mLast := some 0, pitch := some 0x5000000 } }; let m : Nat := 0x4BFFFFF; let time : Nat := 9; let l : Nat := 0; let e : Nat := 0x5000000; let ms : List (Nat × Nat) := []; (s.clocked = true) ∧ (s.EvfStill) ∧ (s.fn .mre = .running) ∧ (s.mre.marks = (m, time) :: ms) ∧ (s.mre.mLast = some l) ∧ (l + s.rd Ix.mreMarkWindow 0 < m) ∧ (s.rd Ix.mreBindingState 0 = bsLocked) ∧ (s.expected = some e) ∧ (m < e - s.rd Ix.mreMarkWindow 0 ∨ e + s.rd Ix.mreMarkWindow 0 < m)) ∧
    (let s : State := { (put up .mre 2).wr Ix.mreBindingState 0 1 with mre := { mLast := some 0, pitch := some 0x5000000, expiry := some 4 } }; let e : Nat := 0x5000000; let time : Nat := 4; (s.clocked = true) ∧ (s.EvfStill) ∧ (s.mre.expiry = some time) ∧ (s.expected = some e) ∧ (s.rd Ix.mreBindingState 0 = bsLocked) ∧ (1 ≤ s.rd Ix.mreFlywheelLimit 0) ∧ (s.mre.bound = []) ∧ (s.mre.queue = [])) ∧
    (let s : State := { (put up .mre 2).wr Ix.mreBindingState 0 2 with mre := { mLast := some 0, pitch := some 0x5000000, expiry := some 4, miss := 2 } }; let e : Nat := 0x5000000; let time : Nat := 4; (s.clocked = true) ∧ (s.EvfStill) ∧ (s.mre.expiry = some time) ∧ (s.expected = some e) ∧ (s.rd Ix.mreBindingState 0 = bsFlywheel) ∧ (s.rd Ix.mreFlywheelLimit 0 ≤ s.mre.miss) ∧ (s.mre.bound = [])) ∧
    (let s : State := { (put up .mre 2).wr Ix.mreBindingState 0 2 with mre := { marks := [(0x4C00000, 9)], mLast := some 0, pitch := some 0x5000000, miss := 1 } }; let m : Nat := 0x4C00000; let time : Nat := 9; let ms : List (Nat × Nat) := []; (s.clocked = true) ∧ (s.fn .mre = .running) ∧ (s.mre.marks = (m, time) :: ms) ∧ (s.mre.mLast.any (fun l => decide (m ≤ l + s.rd Ix.mreMarkWindow 0)) = false) ∧ (s.rd Ix.mreBindingState 0 = bsAcquiring ∨ s.expected.any (fun e => decide (e - s.rd Ix.mreMarkWindow 0 ≤ m ∧ m ≤ e + s.rd Ix.mreMarkWindow 0)) = true)) ∧
    (let s : State := { (put up .mre 2).wr Ix.mreBindingState 0 1 with mre := { mLast := some 0, pitch := some 0x5000000, expiry := some 4 } }; let e : Nat := 0x5000000; let time : Nat := 4; (s.clocked = true) ∧ (s.mre.expiry = some time) ∧ (s.expected = some e)) ∧
    (let s : State := mapped; (s.clocked = true) ∧ (s.mre.expiry = none)) := by
  and_intros <;> decide +kernel

theorem witness_CompressionActs :
    (let s : State := cded {}; let r : Req := rq; let x : Session := ses; let value : Octets := jobOf 3; (s.Grants r x Ix.cdeJobSubmit 0 value) ∧ (s.fn .cde = .running) ∧ (s.jobOk value = true) ∧ (s.jobsQueued < 16)) ∧
    (let s : State := cded { jobs := List.replicate 16 { desc := jobOf 3, consumed := 0, crc := 0 } }; let r : Req := rq; let x : Session := ses; let value : Octets := jobOf 3; (s.Grants r x Ix.cdeJobSubmit 0 value) ∧ (s.fn .cde = .running) ∧ (s.jobOk value = true) ∧ (16 ≤ s.jobsQueued)) ∧
    (let s : State := cded { tiles := [⟨1, 0, 0, 1⟩], jobs := [{ desc := jobOf 3, consumed := 0, crc := 0 }] }; let lane : Fin 20 := 15; let w : TileJob := ⟨1, 0, 0, 1⟩; let ws : List TileJob := []; (s.clocked = true) ∧ (s.fn .cde = .running) ∧ (lane.val < 16) ∧ (s.cde.lanes[lane] = none) ∧ (s.cde.tiles = w :: ws)) ∧
    (let s : State := cded { crops := [cropB] }; let lane : Fin 20 := 16; let w : CropBlock := cropB; let ws : List CropBlock := []; (s.clocked = true) ∧ (s.fn .cde = .running) ∧ (16 ≤ lane.val) ∧ (s.cde.lanes[lane] = none) ∧ (s.cde.crops = w :: ws)) ∧
    (let s : State := cded { jobs := [{ desc := jobOf 3, consumed := 0, crc := 0 }] }; let lane : Fin 20 := 15; let j : HostJob := { desc := jobOf 3, consumed := 0, crc := 0 }; let js : List HostJob := []; (s.clocked = true) ∧ (s.fn .cde = .running) ∧ (s.cde.lanes[lane] = none) ∧ (s.cde.tiles = []) ∧ (s.cde.crops = []) ∧ (s.cde.jobs = j :: js) ∧ ((lane.val < 16 ∧ (jobOp j.desc = 3 ∨ jobOp j.desc = 4)) ∨ (16 ≤ lane.val ∧ (jobOp j.desc = 1 ∨ jobOp j.desc = 2)))) ∧
    (let s : State := cded { lanes := (Vector.replicate 20 none).set 15 (some (CdeWork.host { desc := jobOf 3, consumed := 0, crc := 0 })) }; let lane : Fin 20 := 15; let j : HostJob := { desc := jobOf 3, consumed := 0, crc := 0 }; (s.clocked = true) ∧ (s.cde.lanes[lane] = some (CdeWork.host j)) ∧ ((jobOp j.desc = 1 ∧ jobUnits j.desc ≤ j.consumed) ∨ (jobOp j.desc = 3 ∧ jobLength j.desc ≤ j.consumed ∧ j.poisoned = 0)) ∧ (s.pmcCounts = false) ∧ (jobFlags j.desc < 4)) ∧
    (let s : State := cded { lanes := (Vector.replicate 20 none).set 16 (some (CdeWork.crop cropB)) }; let lane : Fin 20 := 16; let b : CropBlock := cropB; (s.clocked = true) ∧ (s.cde.lanes[lane] = some (CdeWork.crop b)) ∧ (s.pmcCounts = false)) ∧
    (let s : State := cded { jobs := [{ desc := jobOf 3, consumed := 0, crc := 0 }] }; let r : Req := rq; let x : Session := ses; let tag : BitVec 32 := 9; let j : HostJob := { desc := jobOf 3, consumed := 0, crc := 0 }; (s.EvfStill) ∧ (s.Grants r x Ix.cdeJobCancel 0 (pathNum r.path 4 tag.toNat)) ∧ (s.cde.jobs = [j]) ∧ (jobTag j.desc = tag.toNat) ∧ (j.begun = false) ∧ (jobFlags j.desc < 4)) ∧
    (let s : State := cded { lanes := (Vector.replicate 20 none).set 15 (some (CdeWork.tile ⟨1, 0, 0, 1⟩)) }; let lane : Fin 20 := 15; let w : CdeWork := CdeWork.tile ⟨1, 0, 0, 1⟩; (s.clocked = true) ∧ (s.cde.lanes[lane] = some w)) ∧
    (let s : State := cded {}; let lane : Fin 20 := 3; (s.cde.lanes[lane] = none)) ∧
    (let s : State := cded { jobs := [{ desc := jobOf 3, consumed := 0, crc := 0 }] }; let r : Req := rq; let x : Session := ses; let tag : BitVec 32 := 9; (s.Grants r x Ix.cdeJobCancel 0 (pathNum r.path 4 tag.toNat))) := by
  and_intros <;> decide +kernel

end P07

namespace P09

/-- The device with modules in every socket. -/
def mapped9 : State := { up with dmc := { up.dmc with map := [0, 1, 2, 3, 4, 5, 6, 7] } }
/-- SEG in a state. -/
def segd (g : SegState) : State := { put up .seg 2 with seg := g }
/-- A blob of one strong pixel. -/
def blob1 : Blob := { id := 3, firstCol := 5, seg := 0, m := { area := 1, strong := true, line0 := 9, lp0 := 9 * 65536, time0 := 7, page := 0, line1 := 9, lp1 := 9 * 65536, colMin := 5, colMax := 5 }, runs := [(5, 5)] }
/-- Spare 1 in a state, for segment 7. -/
def spare7 (k : Nat) : State := (up.wr Ix.segSpareState 2 k).wr Ix.segSpareTarget 2 7
/-- CLS Running with inputs. -/
def clsd (c : ClsState) (fifo : List Octets) : State := { put up .cls 2 with cls := c, seg := { fifo := fifo } }
/-- A blob record of a blob of page 4. -/
def rec6 : Octets := blobRecord { blob1.m with page := 4 } 0 0
/-- Class 0 with other flags. -/
def classed (f : Nat) (s : State) : State := { s with octs := [], forcedOcts := [(key Ix.clsClassTable 0, (zeros 256).set 0 (BitVec.ofNat 8 f)), (key Ix.clsClassifierTree 0, ([0, 0, 128, 128, 0, 0, 0, 0] : Octets))] }

theorem witness_SegmentEnginesAct :
    (let s : State := segd { records := [(true, [1]), (false, [2])], fifo := List.replicate 255 [] }; let b : Bool := true; let r : Octets := [1]; let rest : List (Bool × Octets) := [(false, [2])]; (s.clocked = true) ∧ (s.seg.records = (b, r) :: rest) ∧ (s.seg.fifo.length < 256)) ∧
    (let s : State := segd { records := [(true, [1]), (false, [2])], fifo := List.replicate 256 [] }; let b : Bool := true; let r : Octets := [1]; let rest : List (Bool × Octets) := [(false, [2])]; (s.clocked = true) ∧ (s.seg.records = (b, r) :: rest) ∧ (256 ≤ s.seg.fifo.length)) ∧
    (let s : State := segd { blobs := [blob1], minArea := 1 }; let b : Blob := blob1; (s.clocked = true) ∧ (s.EvfStill) ∧ (s.fn .seg = .running) ∧ (s.rd Ix.segIdleCloseTimeout 0 ≠ 0) ∧ (s.seg.blobs = [b]) ∧ (s.rolePorts roleOp = []) ∧ (s.rolePorts roleFar = []) ∧ (b.joins = []) ∧ (s.seg.minArea ≤ b.m.area) ∧ (b.m.strong = true) ∧ (b.flags.testBit 0 = false) ∧ (b.flags.testBit 5 = false) ∧ (s.pmcCounts = false)) ∧
    (let s : State := segd { waits := [⟨{ blob1 with joins := [(4, none)] }, 9⟩], next := some 76 }; let w : JoinWait := ⟨{ blob1 with joins := [(4, none)] }, 9⟩; let n : Nat := 76; (s.clocked = true) ∧ (s.seg.next = some n) ∧ (s.seg.waits = [w]) ∧ (w.since + s.rd Ix.segPartialWait 0 + 3 ≤ n) ∧ ((w.blob.joins.any fun j => j.2.isNone) = true) ∧ (s.rolePorts roleOp = []) ∧ (s.rolePorts roleFar = [])) ∧
    (let s : State := up; let r : Req := rq; let x : Session := ses; let i : Fin 4 := 1; let value : BitVec 8 := 7; (s.AtRest) ∧ (s.Grants r x Ix.segSpareTarget (i.val + 1) (pathNum r.path 1 value.toNat)) ∧ (value.toNat < 32) ∧ (s.rd Ix.segSpareState (i.val + 1) = 0) ∧ (s.rd Ix.segEngineState (32 + i.val + 1) = 0) ∧ ((∀ j : Fin 4, j ≠ i → s.rd Ix.segSpareTarget (j.val + 1) ≠ value.toNat))) ∧
    (let s : State := spare7 1; let i : Fin 4 := 1; (s.clocked = true) ∧ (s.AtRest) ∧ (s.rd Ix.segSpareState (i.val + 1) = 1)) ∧
    (let s : State := spare7 2; let r : Req := rq; let x : Session := ses; let i : Fin 4 := 1; (s.AtRest) ∧ (s.Grants r x Ix.segSpareCommand (i.val + 1) (pathNum r.path 1 1)) ∧ (s.rd Ix.segSpareState (i.val + 1) = 1 ∨ s.rd Ix.segSpareState (i.val + 1) = 2)) ∧
    (let s : State := { (spare7 3).wr Ix.segEngineState 8 0 with seg := { spares := (Vector.replicate 4 {}).set 1 { replaced := some 7 } } }; let r : Req := rq; let x : Session := ses; let i : Fin 4 := 1; let e : Fin 36 := 7; (s.AtRest) ∧ (s.Grants r x Ix.segSpareCommand (i.val + 1) (pathNum r.path 1 2)) ∧ ((s.seg.spares[i]).replaced = some e.val) ∧ (s.substituted (unitSeg e.val) = false) ∧ (s.rd Ix.segSpareState (i.val + 1) = 3) ∧ (s.rd Ix.segEngineState (e.val + 1) = 0)) ∧
    (let s : State := spare7 2; let r : Req := rq; let x : Session := ses; let i : Fin 4 := 1; (s.AtRest) ∧ (s.Grants r x Ix.segSpareCommand (i.val + 1) (pathNum r.path 1 3)) ∧ (s.rd Ix.segSpareState (i.val + 1) = 1 ∨ s.rd Ix.segSpareState (i.val + 1) = 2)) ∧
    (let s : State := up.wr Ix.segEngineState 8 4; let r : Req := rq; let x : Session := ses; let e : Fin 36 := 7; (s.AtRest) ∧ (s.Grants r x Ix.segEngineCommand (e.val + 1) (pathNum r.path 1 1)) ∧ (s.substituted (unitSeg e.val) = false) ∧ (s.rd Ix.segEngineState (e.val + 1) = 4)) ∧
    (let s : State := (up.wr Ix.segEngineState 34 4).wr Ix.segSpareState 2 2; let r : Req := rq; let x : Session := ses; let i : Fin 4 := 1; (s.AtRest) ∧ (s.Grants r x Ix.segEngineCommand (32 + i.val + 1) (pathNum r.path 1 1)) ∧ (s.substituted (unitSeg (32 + i.val)) = false) ∧ (s.rd Ix.segEngineState (32 + i.val + 1) = 4)) ∧
    (let s : State := segd { blobs := [blob1], minArea := 1 }; (s.clocked = true) ∧ (s.fn .seg = .running) ∧ (s.rd Ix.segIdleCloseTimeout 0 ≠ 0)) ∧
    (let s : State := segd { blobs := [blob1] } |> (fun u => put u .seg 0); (s.fn .seg ≠ .running ∨ s.rd Ix.segIdleCloseTimeout 0 = 0)) ∧
    (let s : State := segd { waits := [⟨{ blob1 with joins := [(4, none)] }, 9⟩, ⟨blob1, 9⟩, ⟨{ blob1 with id := 9, joins := [(4, none)] }, 10⟩], next := some 76 }; let n : Nat := 76; (s.clocked = true) ∧ (s.seg.next = some n) ∧ (s.seg.waits.any (fun w => decide (w.since + s.rd Ix.segPartialWait 0 + 3 ≤ n) && w.blob.joins.any (fun j => j.2.isNone)) = true)) ∧
    (let s : State := segd { waits := [⟨{ blob1 with joins := [(4, none)] }, 9⟩], next := some 75 }; let n : Nat := 75; (s.seg.next = some n) ∧ (s.seg.waits.any (fun w => decide (w.since + s.rd Ix.segPartialWait 0 + 3 ≤ n) && w.blob.joins.any (fun j => j.2.isNone)) = false)) := by
  and_intros <;> decide +kernel

theorem witness_ClassifierActs :
    (let s : State := clsd {} [stripSummary 3 0 0 0 0xFFFFFFFF 0 0 false]; let r : Octets := stripSummary 3 0 0 0 0xFFFFFFFF 0 0 false; let rest : List Octets := []; (s.clocked = true) ∧ (s.EvfStill) ∧ (s.fn .cls = .running) ∧ (s.cls.crumbs = []) ∧ (s.cls.lookup = none) ∧ (s.seg.fifo = r :: rest) ∧ (leAt r 0 2 = 7) ∧ (s.cls.begun = false)) ∧
    (let s : State := clsd {} [rec6, []]; let r : Octets := rec6; let rest : List Octets := [[]]; (s.clocked = true) ∧ (s.EvfStill) ∧ (s.fn .cls = .running) ∧ (s.cls.crumbs = []) ∧ (s.cls.lookup = none) ∧ (s.seg.fifo = r :: rest) ∧ (leAt r 0 2 = 6) ∧ (s.cls.begun = false)) ∧
    (let s : State := classed 0 (clsd { begun := true } [rec6]); let r : Octets := rec6; let rest : List Octets := []; let c : Fin 16 := 0; (s.clocked = true) ∧ (s.EvfStill) ∧ (s.fn .cls = .running) ∧ (s.cls.crumbs = []) ∧ (s.cls.lookup = none) ∧ (s.seg.fifo = r :: rest) ∧ (leAt r 0 2 = 6) ∧ (s.cls.begun = true) ∧ (s.treeClass (s.rdfo Ix.clsClassifierTree 0) r 17 0 = c.val) ∧ ((clFlags (s.classEntry c.val)).testBit 4 = false) ∧ ((clFlags (s.classEntry c.val)).testBit 0 = false)) ∧
    (let s : State := classed 17 (clsd { begun := true, pages := [(4, 99)] } [rec6]); let r : Octets := rec6; let rest : List Octets := []; let c : Fin 16 := 0; (s.clocked = true) ∧ (s.EvfStill) ∧ (s.fn .cls = .running) ∧ (s.cls.crumbs = []) ∧ (s.cls.lookup = none) ∧ (s.seg.fifo = r :: rest) ∧ (leAt r 0 2 = 6) ∧ (s.cls.begun = true) ∧ (s.treeClass (s.rdfo Ix.clsClassifierTree 0) r 17 0 = c.val) ∧ ((clFlags (s.classEntry c.val)).testBit 4 = true) ∧ (s.rd Ix.segInputSource 0 = 0) ∧ ((s.pageStart (leAt r 0x28 4)).isSome = true)) ∧
    (let s : State := { put up .cls 2 with cls := { begun := true }, mre := { toCls := [[4, 0, 1, 1] ++ zeros 60] } }; let r : Octets := [4, 0, 1, 1] ++ zeros 60; let rest : List Octets := []; (s.clocked = true) ∧ (s.EvfStill) ∧ (s.fn .cls = .running) ∧ (s.cls.crumbs = []) ∧ (s.cls.lookup = none) ∧ (s.seg.fifo = []) ∧ (s.mre.toCls = r :: rest) ∧ (leAt r 0 2 = 4) ∧ (s.cls.begun = true) ∧ ((s.rdf Ix.clsSummaryCrumbsEnable 0).testBit 4 = true)) ∧
    (let s : State := clsd { lookup := some ⟨rec6, 0, 77, 4⟩ } []; let l : Lookup := ⟨rec6, 0, 77, 4⟩; (s.clocked = true) ∧ (s.EvfStill) ∧ (s.cls.lookup = some l) ∧ (s.pmcCounts = false)) ∧
    (let s : State := put (clsd { crumbs := [zeros 64] } []) .cq 2; let c : Octets := zeros 64; let rest : List Octets := []; (s.clocked = true) ∧ (s.EvfStill) ∧ (s.cls.crumbs = c :: rest) ∧ (s.cqRoom = true) ∧ (s.pmcCounts = false)) ∧
    (let s : State := clsd { crumbs := [zeros 64] } []; let c : Octets := zeros 64; let rest : List Octets := []; (s.clocked = true) ∧ (s.cls.crumbs = c :: rest) ∧ (s.cqRoom = false)) ∧
    (let s : State := up; let r : Req := rq; let x : Session := ses; (s.Grants r x Ix.clsLedgerCommand 0 (pathNum r.path 1 1)) ∧ (s.bit Ix.clsLedgerStatus 0 lsSweeping = false)) ∧
    (let s : State := (mapped9.setBit Ix.clsLedgerStatus 0 lsSweeping).wr Ix.clsSweepPointer 0 9; (s.clocked = true) ∧ (s.bit Ix.clsLedgerStatus 0 lsSweeping = true)) ∧
    (let s : State := clsd {} [rec6, []]; let r : Octets := rec6; let rest : List Octets := [[]]; (s.clocked = true) ∧ (s.EvfStill) ∧ (s.cls.crumbs = []) ∧ (s.cls.lookup = none) ∧ (s.seg.fifo = r :: rest)) ∧
    (let s : State := { put up .cls 2 with cls := { begun := true }, mre := { toCls := [[4, 0, 1, 1] ++ zeros 60] } }; let r : Octets := [4, 0, 1, 1] ++ zeros 60; let rest : List Octets := []; (s.clocked = true) ∧ (s.EvfStill) ∧ (s.cls.crumbs = []) ∧ (s.cls.lookup = none) ∧ (s.seg.fifo = []) ∧ (s.mre.toCls = r :: rest)) ∧
    (let s : State := { put up .cls 2 with cls := { begun := true }, pfc := { up.pfc with fifo := [[8, 0, 1, 1] ++ zeros 60] } }; let r : Octets := [8, 0, 1, 1] ++ zeros 60; let rest : List Octets := []; (s.clocked = true) ∧ (s.EvfStill) ∧ (s.cls.crumbs = []) ∧ (s.cls.lookup = none) ∧ (s.seg.fifo = []) ∧ (s.mre.toCls = []) ∧ (s.pfc.fifo = r :: rest)) ∧
    (let s : State := clsd { lookup := some ⟨rec6, 0, 77, 4⟩ } []; let l : Lookup := ⟨rec6, 0, 77, 4⟩; (s.clocked = true) ∧ (s.EvfStill) ∧ (s.cls.lookup = some l)) := by
  and_intros <;> decide +kernel

theorem witness_ProfileChainActs :
    (let s : State := { put up .pfc 2 with pfc := { places := [⟨1, 0, 4⟩], phase := [0, 2], lines := (Vector.replicate 32 []).set 1 [⟨61, 0, none⟩], due := [{ line := 63, time := 7, set := up.pfcSet }] } }; let d : PfcDue := { line := 63, time := 7, set := up.pfcSet }; let rest : List PfcDue := []; (s.clocked = true) ∧ (s.EvfStill) ∧ (s.fn .pfc = .running) ∧ (s.pfc.due = d :: rest) ∧ (s.pfcComplete d = true)) ∧
    (let s : State := { put up .pfc 2 with pfc := { places := [⟨1, 0, 4⟩], phase := [0, 2], last := some 60, lines := (Vector.replicate 32 []).set 1 [⟨60, 0, none⟩], due := [{ line := 63, time := 7, set := up.pfcSet }] } }; let d : PfcDue := { line := 63, time := 7, set := up.pfcSet }; let rest : List PfcDue := []; (s.clocked = true) ∧ (s.fn .pfc = .running) ∧ (s.pfc.due = d :: rest) ∧ (s.pfcComplete d = false)) ∧
    (let s : State := put up .pfc 2; (s.clocked = true) ∧ (s.fn .pfc = .running) ∧ (s.pfc.due = [])) ∧
    (let s : State := { put up .pfc 2 with pfc := { ended := [[1], [2]], fifo := List.replicate 63 [] } }; let e : Octets := [1]; let es : List Octets := [[2]]; (s.clocked = true) ∧ (s.pfc.ended = e :: es) ∧ (s.pfc.fifo.length < 64)) ∧
    (let s : State := { put up .pfc 2 with pfc := { ended := [[1], [2]], fifo := List.replicate 64 [] } }; let e : Octets := [1]; let es : List Octets := [[2]]; (s.clocked = true) ∧ (s.pfc.ended = e :: es) ∧ (64 ≤ s.pfc.fifo.length)) ∧
    (let s : State := { up with pfc := { fade := some (1, 4) } }; let r : Req := rq; let x : Session := ses; (s.Grants r x Ix.pfcSwapRequest 0 (pathNum r.path 1 1)) ∧ (s.pfc.swap = false)) ∧
    (let s : State := { up with pfc := { swap := true } }; let r : Req := rq; let x : Session := ses; (s.Grants r x Ix.pfcSwapRequest 0 (pathNum r.path 1 1)) ∧ (s.pfc.swap = true)) ∧
    (let s : State := { up with pfc := { swap := true } }; let r : Req := rq; let x : Session := ses; (s.Grants r x Ix.pfcSwapRequest 0 (pathNum r.path 1 2))) ∧
    (let s : State := up; let r : Req := rq; let x : Session := ses; let bank : Fin 2 := 1; let v : BitVec 32 := 9; (s.Grants r x Ix.pfcOutputGain (bank.val + 1) (pathNum r.path 4 v.toNat)) ∧ (s.rd Ix.pfcActiveBank 0 ≠ bank.val) ∧ (s.pfc.fade = none) ∧ (s.pfc.swap = false)) ∧
    (let s : State := up; let r : Req := rq; let x : Session := ses; let bank : Fin 2 := 0; let v : BitVec 32 := 9; (s.Grants r x Ix.pfcOutputGain (bank.val + 1) (pathNum r.path 4 v.toNat)) ∧ (s.rd Ix.pfcActiveBank 0 = bank.val)) := by
  and_intros <;> decide +kernel

end P09

namespace P12

/-- DMA Running on channel 0 with a source and the channel's bookkeeping. -/
def dmad (src : Nat) (x : DmaChan) : State :=
  let s := put (put up .pcie 2) .dma 2
  { s.wr Ix.dlvChannelSource 1 src with dma := s.dma.set 0 x }
/-- A Tray descriptor of 2 MiB at 4096. -/
def dTray : Octets := leBytes 8 4096 ++ leBytes 4 2097152 ++ leBytes 2 2 ++ zeros 18
/-- The same with FENCE. -/
def dFence : Octets := leBytes 8 4096 ++ leBytes 4 2097152 ++ leBytes 2 3 ++ zeros 18
/-- A copy of 4 octets from the host. -/
def dCopy : Octets := leBytes 8 4096 ++ leBytes 4 4 ++ zeros 20
/-- A copy of 4 octets to the host. -/
def dOut : Octets := leBytes 8 4096 ++ leBytes 4 4 ++ leBytes 2 4 ++ zeros 18
/-- A packet of two words. -/
def pk2 : List QWord := packetOf false [5, 9]
/-- A queue with one packet, in a state. -/
def queued (q : Fin 3) (s : State) : State := s.setQueue q { packets := [pk2] }
/-- A crop of one line. -/
def crop4 : Crop := { handle := 4, col := 0, width := 1, line0 := 5, line1 := 5, clipped := false, crumbOut := true }
/-- Lines 3 to 6 in the ring. -/
def hl (n : Nat) : HistLine := { line := n, lp := n * 65536, time := 9, page := 1, truncated := false }
/-- Modules in every socket. -/
def mapd : State := { up with dmc := { up.dmc with map := [0, 1, 2, 3, 4, 5, 6, 7] } }

theorem witness_RingsFetch :
    (let s : State := up; let c : Fin 32 := 0; let v : BitVec 32 := 16; (s.on = true) ∧ (s.pcie.linkUp = true) ∧ (c ≠ 31) ∧ ((v.toNat + 2 ^ 32 - s.consumer c) % 2 ^ 32 ≤ s.ringEntries c)) ∧
    (let s : State := up; let c : Fin 32 := 0; let v : BitVec 32 := 257; (s.on = true) ∧ (s.pcie.linkUp = true) ∧ (c ≠ 31) ∧ (s.ringEntries c < (v.toNat + 2 ^ 32 - s.consumer c) % 2 ^ 32)) ∧
    (let s : State := (dmad 2 {}).wr Ix.dlvProducerIndex 1 2; let c : Fin 32 := 0; let desc : Vector Byte 32 := Vector.replicate 32 7; let i : Nat := 0; (s.clocked = true) ∧ (s.fetchIndex c = some i)) ∧
    (let s : State := (dmad 2 {}).wr Ix.dlvProducerIndex 1 2; let c : Fin 32 := 0; let desc : Vector Byte 32 := Vector.replicate 32 7; let i : Nat := 0; (s.clocked = true) ∧ (s.fetchIndex c = some i)) ∧
    (let s : State := (dmad 2 { failing := some .descriptor }).wr Ix.dlvProducerIndex 1 2; let c : Fin 32 := 0; let data : Octets := dTray; let i : Nat := 0; (s.clocked = true) ∧ (c ≠ 31) ∧ ((s.chan c).failing = some .descriptor) ∧ (data.length = 32) ∧ ((s.setChan c { s.chan c with failing := none }).fetchIndex c = some i)) ∧
    (let s : State := up.setChan 0 { failing := some .descriptor }; let c : Fin 32 := 0; let data : Octets := []; (s.clocked = true) ∧ (c ≠ 31) ∧ ((s.chan c).failing = some .descriptor) ∧ (s.chanWorks c = false)) ∧
    (let s : State := (dmad 2 { failing := some .descriptor }).wr Ix.dlvProducerIndex 1 2; let c : Fin 32 := 0; let data : Octets := []; (s.clocked = true) ∧ (c ≠ 31) ∧ (s.chanSource c ≠ 6) ∧ (s.chanWorks c = true) ∧ ((s.chan c).failing = some .descriptor) ∧ ((s.chan c).fetched = [])) ∧
    (let s : State := { up with pcie := { up.pcie with setup := { hostDefaults with timeoutOff := true } } }; let c : Fin 32 := 0; let kind : HostRead := .data; (s.pcie.setup.timeoutOff = true)) ∧
    (let s : State := (dmad 2 {}).wr Ix.dlvProducerIndex 1 2; let c : Fin 32 := 0; let i : Nat := 0; (s.clocked = true) ∧ (s.pcie.setup.timeoutOff = false) ∧ (c ≠ 31) ∧ ((s.chan c).failing = none) ∧ (s.fetchIndex c = some i)) ∧
    (let s : State := { put (put up .pcie 2) .dma 2 with mre := { queue := [{ number := 7, tag := 3, host := 4096, len := 96, moving := true, place := some 0 }] } }; let kind : HostRead := .data; (s.clocked = true) ∧ (s.pcie.setup.timeoutOff = false) ∧ ((s.chan 31).failing = none) ∧ (s.movingPage.isSome = true) ∧ (s.loadsMove = true)) := by
  and_intros <;> decide +kernel

theorem witness_TraysFillAndClose :
    (let s : State := queued 1 (dmad 2 { tray := some { bytes := 16, records := 1, tail := zeros 16 }, current := some (3, dTray) }); let c : Fin 32 := 0; let tray : Tray := { bytes := 16, records := 1, tail := zeros 16 }; let i : Nat := 3; let d : Octets := dTray; let p : List QWord := pk2; let ps : List (List QWord) := []; (s.clocked = true) ∧ (s.fn .dma = .running) ∧ (s.chanWorks c = true) ∧ ((s.chan c).finishing = false) ∧ (s.chanSource c = 2) ∧ ((s.chan c).tray = some tray) ∧ ((s.chan c).current = some (i, d)) ∧ (s.queues[sqIx].packets = p :: ps) ∧ (p ≠ []) ∧ (badParity p = 0) ∧ (p.all (fun w => !w.poison) = true) ∧ (tray.bytes + 8 * p.length ≤ deLen d - 128)) ∧
    (let s : State := queued 2 (dmad 3 { fetched := [(3, dTray)] }); let c : Fin 32 := 0; let i : Nat := 3; let d : Octets := dTray; let rest : List (Nat × Octets) := []; let p : List QWord := pk2; let ps : List (List QWord) := []; (s.clocked = true) ∧ (s.fn .dma = .running) ∧ (s.chanWorks c = true) ∧ ((s.chan c).finishing = false) ∧ (s.chanSource c = 3) ∧ ((s.chan c).tray = none) ∧ (s.queues[xqIx].packets = p :: ps) ∧ ((s.chan c).fetched = (i, d) :: rest) ∧ (d ≠ []) ∧ (s.descriptorOk c d = true) ∧ (8 * p.length ≤ deLen d - 128)) ∧
    (let s : State := queued 2 (dmad 3 {}); let c : Fin 32 := 0; (s.clocked = true) ∧ (s.fn .dma = .running) ∧ (s.chanSource c ≠ 6) ∧ ((s.chan c).tray = none) ∧ ((s.chan c).fetched = [])) ∧
    (let s : State := queued 0 (dmad 1 { tray := some { bytes := 2097016, records := 3 }, current := some (3, dTray) }); let c : Fin 32 := 0; let tray : Tray := { bytes := 2097016, records := 3 }; let i : Nat := 3; let d : Octets := dTray; let p : List QWord := pk2; let ps : List (List QWord) := []; (s.clocked = true) ∧ (s.fn .dma = .running) ∧ (s.chanWorks c = true) ∧ ((s.chan c).finishing = false) ∧ (s.chanSource c = 1) ∧ ((s.chan c).tray = some tray) ∧ ((s.chan c).current = some (i, d)) ∧ (s.queues[cqIx].packets = p :: ps) ∧ (deLen d - 128 < tray.bytes + 8 * p.length)) ∧
    (let s : State := (((dmad 1 { tray := some { bytes := 64, records := 1 }, current := some (3, dTray), fetched := [(4, dTray)] }).wr Ix.dlvShadowArm 1 1).wr Ix.dlvShadowRingBase 1 640).wr Ix.dlvShadowStartIndex 1 2; let c : Fin 32 := 0; let tray : Tray := { bytes := 64, records := 1 }; let i : Nat := 3; let d : Octets := dTray; (s.clocked = true) ∧ (s.chanWorks c = true) ∧ (s.rd Ix.dlvCloseTimeout (c.val + 1) ≠ 0) ∧ ((s.chan c).tray = some tray) ∧ (tray.records ≠ 0) ∧ ((s.chan c).current = some (i, d)) ∧ (s.rd Ix.dlvShadowArm (c.val + 1) = 1)) ∧
    (let s : State := dmad 1 { tray := some { bytes := 64, records := 1 }, current := some (3, dTray) }; let r : Req := rq; let x : Session := ses; let c : Fin 32 := 0; let tray : Tray := { bytes := 64, records := 1 }; let i : Nat := 3; let d : Octets := dTray; (s.Grants r x Ix.dlvChannelCommand (c.val + 1) (pathNum r.path 1 3)) ∧ (c ≠ 31) ∧ (s.runs .dma = true ∨ s.drains .dma = true) ∧ (s.writesPass = true) ∧ ((s.chan c).tray = some tray) ∧ ((s.chan c).current = some (i, d))) ∧
    (let s : State := dmad 1 { finishing := true, status := 1, current := some (3, dFence) }; let c : Fin 32 := 0; let i : Nat := 3; let d : Octets := dFence; (s.clocked = true) ∧ (s.busOpen = true) ∧ ((s.chan c).current = some (i, d)) ∧ ((s.chan c).finishing = true) ∧ (deFence d = true) ∧ ((s.chan c).fenced = false) ∧ ((s.chan c).failing = none)) ∧
    (let s : State := dmad 1 { finishing := true, status := 1, reason := 2, used := 64, current := some (3, dTray), place := 96 }; let c : Fin 32 := 0; let i : Nat := 3; let d : Octets := dTray; let data : Octets := []; let ok : Bool := false; (s.clocked = true) ∧ (s.chanFinishes c = true) ∧ (s.chanSource c ≠ 6) ∧ ((s.chan c).current = some (i, d)) ∧ ((s.chan c).finishing = true) ∧ ((s.chan c).failing = none) ∧ (deFence d = false ∨ (s.chan c).fenced = true) ∧ ((s.chan c).status = dsDone)) ∧
    (let s : State := dmad 6 { current := some (3, dCopy) }; let c : Fin 32 := 0; let i : Nat := 3; let d : Octets := dCopy; let data : Octets := [1, 2, 3, 4]; (s.clocked = true) ∧ (s.chanFinishes c = true) ∧ (s.chanSource c = 6) ∧ ((s.chan c).current = some (i, d)) ∧ ((s.chan c).finishing = false) ∧ ((s.chan c).failing = none) ∧ (deToHost d = false) ∧ (deFence d = false) ∧ (data.length = deLen d)) ∧
    (let s : State := dmad 1 { tray := some { bytes := 64, records := 2 }, current := some (3, dTray), lost := 1 }; let c : Fin 32 := 0; let tray : Tray := { bytes := 64, records := 2 }; let i : Nat := 3; let d : Octets := dTray; (s.clocked = true) ∧ ((s.chan c).current = some (i, d)) ∧ ((s.chan c).tray = some tray) ∧ (tray.records ≠ 0)) ∧
    (let s : State := (put up .xq 2).setQueue 2 { lostPackets := 2, lostWords := 9 }; let q : Fin 3 := 2; (s.clocked = true) ∧ (s.lossDue q = true)) ∧
    (let s : State := queued 1 (dmad 2 { tray := some { bytes := 16, records := 1, tail := zeros 16 }, current := some (3, dTray) }); let c : Fin 32 := 0; let q : Fin 3 := 1; let tray : Tray := { bytes := 16, records := 1, tail := zeros 16 }; let i : Nat := 3; let d : Octets := dTray; let p : List QWord := pk2; let ps : List (List QWord) := []; (s.clocked = true) ∧ (s.fn .dma = .running) ∧ (s.chanWorks c = true) ∧ ((s.chan c).finishing = false) ∧ (s.chanSource c = q.val + 1) ∧ ((s.chan c).tray = some tray) ∧ ((s.chan c).current = some (i, d)) ∧ (s.queues[q].packets = p :: ps) ∧ (tray.bytes + 8 * p.length ≤ deLen d - 128)) ∧
    (let s : State := { dmad 4 { tray := some { bytes := 16, records := 1, tail := zeros 16 }, current := some (3, dTray) } with hrb := { ready := [(false, zeros 72)] } }; let c : Fin 32 := 0; let tray : Tray := { bytes := 16, records := 1, tail := zeros 16 }; let i : Nat := 3; let d : Octets := dTray; let r : Bool × Octets := (false, zeros 72); let rest : List (Bool × Octets) := []; (s.clocked = true) ∧ (s.fn .dma = .running) ∧ (s.chanWorks c = true) ∧ ((s.chan c).finishing = false) ∧ (s.chanSource c = 4) ∧ ((s.chan c).tray = some tray) ∧ ((s.chan c).current = some (i, d)) ∧ (s.hrb.ready = r :: rest) ∧ (tray.bytes + r.2.length ≤ deLen d - 128)) ∧
    (let s : State := { dmad 5 { tray := some { bytes := 16, records := 1, tail := zeros 16 }, current := some (3, dTray) } with hrb := { exports := [.header (zeros 64)] } }; let c : Fin 32 := 0; let tray : Tray := { bytes := 16, records := 1, tail := zeros 16 }; let i : Nat := 3; let d : Octets := dTray; let e : ExportItem := .header (zeros 64); let rest : List ExportItem := []; (s.clocked = true) ∧ (s.fn .dma = .running) ∧ (s.chanWorks c = true) ∧ ((s.chan c).finishing = false) ∧ (s.chanSource c = 5) ∧ ((s.chan c).tray = some tray) ∧ ((s.chan c).current = some (i, d)) ∧ (s.hrb.exports = e :: rest) ∧ (tray.bytes + s.sourceLength c ≤ deLen d - 128) ∧ ((match e with | .header _ => true | .line l _ _ => s.oldestLine.any (fun o => decide (o ≤ l))) = true)) ∧
    (let s : State := dmad 1 { tray := some { bytes := 64, records := 1 }, current := some (3, dTray), fetched := [(4, dTray)] }; let c : Fin 32 := 0; let tray : Tray := { bytes := 64, records := 1 }; let i : Nat := 3; let d : Octets := dTray; (s.clocked = true) ∧ (s.chanWorks c = true) ∧ (s.rd Ix.dlvCloseTimeout (c.val + 1) ≠ 0) ∧ ((s.chan c).tray = some tray) ∧ (tray.records ≠ 0) ∧ ((s.chan c).current = some (i, d))) ∧
    (let s : State := dmad 1 {}; let r : Req := rq; let x : Session := ses; let c : Fin 32 := 0; (s.Grants r x Ix.dlvChannelCommand (c.val + 1) (pathNum r.path 1 3)) ∧ (c ≠ 31) ∧ ((s.chan c).tray = none)) ∧
    (let s : State := dmad 1 { finishing := true, status := 1, current := some (3, dFence) }; let c : Fin 32 := 0; let i : Nat := 3; let d : Octets := dFence; (s.clocked = true) ∧ (s.busOpen = true) ∧ ((s.chan c).current = some (i, d)) ∧ ((s.chan c).finishing = true) ∧ (deFence d = true) ∧ ((s.chan c).fenced = false) ∧ ((s.chan c).failing = none)) ∧
    (let s : State := dmad 1 { finishing := true, status := 4, reason := 2, used := 64, current := some (3, dFence), place := 96, fenced := true }; let c : Fin 32 := 0; let i : Nat := 3; let d : Octets := dFence; let data : Octets := []; let ok : Bool := false; (s.clocked = true) ∧ (s.chanFinishes c = true) ∧ ((s.chan c).current = some (i, d)) ∧ ((s.chan c).finishing = true) ∧ ((s.chan c).failing = none) ∧ (deFence d = false ∨ (s.chan c).fenced = true)) ∧
    (let s : State := dmad 6 { current := some (3, dOut) }; let c : Fin 32 := 0; let i : Nat := 3; let d : Octets := dOut; let data : Octets := []; let ok : Bool := true; (s.clocked = true) ∧ (s.chanFinishes c = true) ∧ (s.chanSource c = 6) ∧ ((s.chan c).current = some (i, d)) ∧ ((s.chan c).finishing = false) ∧ ((s.chan c).failing = none) ∧ (deToHost d = true) ∧ (deFence d = false)) ∧
    (let s : State := dmad 1 { current := some (3, dTray), finishing := true, held := 2 }; let c : Fin 32 := 0; let i : Nat := 3; let d : Octets := dTray; (s.clocked = true) ∧ ((s.chan c).current = some (i, d))) ∧
    (let s : State := dmad 1 {}; let c : Fin 32 := 0; ((s.chan c).current = none)) := by
  and_intros <;> decide +kernel

theorem witness_ChannelsAndCrops :
    (let s : State := up; let r : Req := rq; let x : Session := ses; let c : Fin 32 := 30; (s.Grants r x Ix.dlvChannelCommand (c.val + 1) (pathNum r.path 1 1)) ∧ (c ≠ 31)) ∧
    (let s : State := dmad 1 { paused := true }; let r : Req := rq; let x : Session := ses; let c : Fin 32 := 0; (s.Grants r x Ix.dlvChannelCommand (c.val + 1) (pathNum r.path 1 2)) ∧ (c ≠ 31)) ∧
    (let s : State := up; let r : Req := rq; let x : Session := ses; let c : Fin 32 := 30; let v : BitVec 8 := 1; (s.Grants r x Ix.dlvShadowArm (c.val + 1) (pathNum r.path 1 v.toNat))) ∧
    (let s : State := dmad 1 { handed := some 0 }; let r : Req := rq; let x : Session := ses; let c : Fin 32 := 0; let v : BitVec 8 := 1; (s.Grants r x Ix.dlvShadowArm (c.val + 1) (pathNum r.path 1 v.toNat)) ∧ ((s.chan c).handed = some s.ns)) ∧
    (let s : State := { up with hrb := { crops := [crop4], lines := [hl 6, hl 7] } }; let k : Crop := crop4; let o : HistLine := hl 6; let n : HistLine := hl 7; let ls : List HistLine := [hl 7]; (s.clocked = true) ∧ (s.hrb.crops = [k]) ∧ (k.cut = false) ∧ (s.hrb.lines = o :: ls) ∧ (s.hrb.lines.getLast? = some n) ∧ (k.line1 ≤ n.line) ∧ (k.line0 < o.line)) ∧
    (let s : State := { mapd.wr Ix.hrbCropCompression 0 0 with hrb := { crops := [crop4], lines := [hl 5, hl 6] } }; let k : Crop := crop4; let o : HistLine := hl 5; let n : HistLine := hl 6; let ls : List HistLine := [hl 6]; (s.clocked = true) ∧ (s.hrb.crops = [k]) ∧ (k.cut = false) ∧ (s.hrb.lines = o :: ls) ∧ (s.hrb.lines.getLast? = some n) ∧ (k.line1 ≤ n.line) ∧ (o.line ≤ k.line0) ∧ (s.rd Ix.hrbCropCompression 0 = 0)) ∧
    (let s : State := { up with hrb := { crops := [crop4] }, cde := { up.cde with encoded := [(4, 0, [1])] } }; let k : Crop := crop4; let i : Nat := 0; let b : Octets := [1]; let rest : List (Nat × Nat × Octets) := []; (s.clocked = true) ∧ (s.cde.encoded = (k.handle, i, b) :: rest) ∧ (s.hrb.crops = [k])) ∧
    (let s : State := { up with hrb := { crops := [{ crop4 with cut := true }] } }; let k : Crop := { crop4 with cut := true }; (s.clocked = true) ∧ (s.hrb.crops = [k]) ∧ (k.cut = true) ∧ (k.crumbOut = true) ∧ (k.blocks = 0) ∧ (s.cropStale k = false)) ∧
    (let s : State := { up with hrb := { crops := [{ crop4 with crumbOut := false }] } }; let k : Crop := { crop4 with crumbOut := false }; (s.clocked = true) ∧ (s.hrb.crops = [k]) ∧ (k.crumbOut = false)) ∧
    (let s : State := { up with hrb := { crops := [{ crop4 with handle := 3, line1 := 90 }, crop4], lines := [hl 6, hl 7] } }; let k : Crop := crop4; let n : HistLine := hl 7; (s.clocked = true) ∧ (s.hrb.lines.getLast? = some n) ∧ (s.hrb.crops.find? (fun c => !c.cut && decide (c.line1 ≤ n.line)) = some k)) ∧
    (let s : State := { up with hrb := { crops := [crop4] }, cde := { up.cde with encoded := [(4, 0, [1])] } }; let e : Nat × Nat × Octets := (4, 0, [1]); let rest : List (Nat × Nat × Octets) := []; (s.clocked = true) ∧ (s.cde.encoded = e :: rest)) ∧
    (let s : State := { up with hrb := { crops := [{ crop4 with handle := 3 }, { crop4 with cut := true }] } }; let k : Crop := { crop4 with cut := true }; (s.clocked = true) ∧ (s.hrb.crops.find? (fun c => c.crumbOut && c.ready) = some k)) := by
  and_intros <;> decide +kernel

theorem witness_EndpointActs :
    (let s : State := put up .pcie 2; (s.on = true) ∧ (s.fn .pcie = .running)) ∧
    (let s : State := put up .pcie 4; let speed : BitVec 8 := 5; let width : BitVec 8 := 16; let setup : HostSetup := hostDefaults; (s.on = true)) ∧
    (let s : State := dmad 1 {}; (s.on = true) ∧ (s.pcie.linkUp = true)) ∧
    (let s : State := { up with pcie := { linkUp := true, busMaster := false, setup := hostDefaults } }; (s.on = true) ∧ (s.pcie.linkUp = true)) ∧
    (let s : State := up; let correctable : Bool := false; (s.on = true) ∧ (s.pcie.linkUp = true) ∧ (s.pcie.busMaster = true)) ∧
    (let s : State := up; let offset : BitVec 28 := 5; let n : Fin 4097 := 4; (s.on = true) ∧ (s.pcie.linkUp = true) ∧ (s.rd Ix.dlvDiagnosticWindowEnable 0 = 0)) ∧
    (let s : State := (mapd.wr Ix.dlvDiagnosticWindowEnable 0 1).wr Ix.lifLifeCycleState 0 2; let offset : BitVec 28 := 5; let data : Octets := [1, 2]; (s.on = true) ∧ (s.pcie.linkUp = true) ∧ (s.rd Ix.dlvDiagnosticWindowEnable 0 = 1) ∧ (s.rd Ix.lifLifeCycleState 0 = 2)) ∧
    (let s : State := up; let offset : BitVec 28 := 5; let data : Octets := [1, 2]; (s.rd Ix.dlvDiagnosticWindowEnable 0 ≠ 1 ∨ s.rd Ix.lifLifeCycleState 0 ≠ 2)) ∧
    (let s : State := dmad 1 { tray := some { bytes := 64, records := 1 }, current := some (3, dTray), fetched := [(4, dTray)] }; (s.on = true)) ∧
    (let s : State := up; (s.on = true)) ∧
    (let s : State := up; (s.on = true)) ∧
    (let s : State := up; let o : BitVec 16 := 0x84FE; let n : Fin 4097 := 8; (s.on = true) ∧ (s.pcie.linkUp = true)) ∧
    (let s : State := up; let k : Nat := 0xBFFF; (bar0Place k = .reserved)) ∧
    (let s : State := up; let c : Fin 32 := 30; let v : BitVec 32 := 0x12345678; (s.on = true) ∧ (s.pcie.linkUp = true) ∧ (c ≠ 31)) ∧
    (let s : State := up.wr Ix.dlvConsumerIndex 32 77; let c : Fin 32 := 31; (s.on = true) ∧ (s.pcie.linkUp = true)) ∧
    (let s : State := up; let o : BitVec 16 := 0xC1FE; let data : Octets := [1, 2, 3, 4, 5]; ((List.range data.length).all (fun k => match bar0Place (o.toNat + k) with | .channel _ _ => true | .queue _ _ => true | .live _ => true | .reserved => true | _ => false) = true)) ∧
    (let s : State := up; let c : Fin 32 := 30; let k : Fin 13 := 12; (s.on = true) ∧ (s.pcie.linkUp = true) ∧ (c ≠ 31)) ∧
    (let s : State := up.wr Ix.dlvQueueFlags 3 31; let q : Fin 3 := 2; (s.on = true) ∧ (s.pcie.linkUp = true)) ∧
    (let s : State := up; let o : BitVec 12 := 4092; let n : Fin 4097 := 4; (s.on = true) ∧ (s.pcie.linkUp = true)) := by
  and_intros <;> decide +kernel

end P12

namespace P13

/-- Modules in every socket, channel 3 Running. -/
def ram : State := { put up (.dmc 3) 2 with dmc := { up.dmc with map := [0, 1, 2, 3, 4, 5, 6, 7] } }
/-- A read of the unit at 768, which channel 3 bears. -/
def rd768 : DramRequest := { requester := 6, addr := 768, write := none, aged := false }
/-- A channel's bookkeeping put into a state. -/
def dmced (c : DmcChannel) : State := ram.setDmc 3 c
/-- Requests that wait. -/
def waits (rs : List DramRequest) : State := { ram with dmc := { ram.dmc with waiting := rs } }

theorem witness_DramServes :
    (let s : State := waits [rd768]; let n : Fin 8 := 3; let r : DramRequest := rd768; (s.clocked = true) ∧ (s.dmc.waiting = [r]) ∧ (s.dramChannel r.addr = some n) ∧ ((s.dmc.channels[n]).retry = none) ∧ (r.write = none) ∧ (s.dmc.poison.contains (unitOf r.addr) = false) ∧ (s.dmc.injected = [])) ∧
    (let s : State := waits [{ rd768 with write := some (List.replicate 64 5) }]; let n : Fin 8 := 3; let r : DramRequest := { rd768 with write := some (List.replicate 64 5) }; let d : Octets := List.replicate 64 5; (s.clocked = true) ∧ (s.dmc.waiting = [r]) ∧ (s.dramChannel r.addr = some n) ∧ ((s.dmc.channels[n]).retry = none) ∧ (r.write = some d) ∧ (d.length = 64) ∧ (s.inRegions (unitOf r.addr) = true)) ∧
    (let s : State := { ram with dmc := { ram.dmc with waiting := [rd768], poison := [768] } }; let n : Fin 8 := 3; let r : DramRequest := rd768; (s.clocked = true) ∧ (s.dmc.waiting = [r]) ∧ (s.dramChannel r.addr = some n) ∧ ((s.dmc.channels[n]).retry = none) ∧ (r.write = none) ∧ (s.dmc.poison.contains (unitOf r.addr) = true)) ∧
    (let s : State := waits []; let n : Fin 8 := 3; let m : Fin 8 := 4; let r : DramRequest := { rd768 with addr := 1024 }; let health : DramHealth := .good; (s.clocked = true) ∧ (s.dmc.waiting = []) ∧ (r.write = none) ∧ (s.dramChannel r.addr = some m) ∧ (s.fn (.dmc m) ≠ .running)) ∧
    (let s : State := waits [rd768]; let n : Fin 8 := 3; let r : DramRequest := rd768; (s.clocked = true) ∧ (s.dmc.waiting = [r]) ∧ (s.dramChannel r.addr = some n) ∧ ((s.dmc.channels[n]).retry = none) ∧ (r.write = none) ∧ (s.dmc.poison.contains (unitOf r.addr) = false) ∧ (s.dmc.injected = [])) ∧
    (let s : State := waits [rd768]; let k : Nat := 0; let r : DramRequest := rd768; (s.clocked = true) ∧ (s.dmc.waiting[k]? = some r)) ∧
    (let s : State := dmced { retry := some rd768 }; let n : Fin 8 := 3; let r : DramRequest := rd768; (s.clocked = true) ∧ ((s.dmc.channels[n]).retry = some r) ∧ (r.write = none) ∧ (s.dmc.injected = [])) ∧
    (let s : State := dmced { retry := some rd768 }; let n : Fin 8 := 3; let r : DramRequest := rd768; (s.clocked = true) ∧ ((s.dmc.channels[n]).retry = some r) ∧ (r.write = none) ∧ (s.dmc.injected = [])) ∧
    (let s : State := ram; let n : Fin 8 := 3; let r : DramRequest := rd768; let health : DramHealth := .good; (s.clocked = true) ∧ (s.fn (.dmc n) = .running) ∧ ((s.dmc.channels[n]).retry = none) ∧ (s.dramChannel r.addr = some n) ∧ (r.write = none)) ∧
    (let s : State := ram; let r : Req := rq; let x : Session := ses; let value : Octets := leBytes 8 768 ++ [3]; (s.Grants r x Ix.dmcErrorInjection 0 value) ∧ (1 ≤ octAt value 8) ∧ (octAt value 8 ≤ 3)) ∧
    (let s : State := { waits [rd768, { rd768 with addr := 1024 }] with dmc := { (waits [rd768, { rd768 with addr := 1024 }]).dmc with injected := [(768, 2)] } }; let n : Fin 8 := 3; let health : DramHealth := .uncorrectable; let r : DramRequest := rd768; (s.clocked = true) ∧ ((s.dmc.channels[n]).retry = none) ∧ (nextRequest (fun q => s.dramChannel q.addr == some n) [] s.dmc.waiting = some r)) ∧
    (let s : State := dmced { retry := some { rd768 with write := some [1, 2] } }; let n : Fin 8 := 3; let health : DramHealth := .corrected 4; let r : DramRequest := { rd768 with write := some [1, 2] }; (s.clocked = true) ∧ ((s.dmc.channels[n]).retry = some r)) ∧
    (let s : State := ram; let n : Fin 8 := 3; let r : DramRequest := { rd768 with write := some (List.replicate 64 5) }; let d : Octets := List.replicate 64 5; let health : DramHealth := .good; (s.clocked = true) ∧ (s.fn (.dmc n) = .running) ∧ ((s.dmc.channels[n]).retry = none) ∧ (s.dramChannel r.addr = some n) ∧ (r.write = some d) ∧ (requestOk r = true) ∧ (health ≠ .uncorrectable) ∧ (s.inRegions (unitOf r.addr) = true)) := by
  and_intros <;> decide +kernel

theorem witness_ChannelsAreKept :
    (let s : State := ram; (s.clocked = true) ∧ (s.dmc.poison = []) ∧ (s.dmc.injected = [])) ∧
    (let s : State := ram; let n : Fin 8 := 3; let u : Nat := 768; (s.clocked = true) ∧ (s.dmc.poison = []) ∧ (s.dmc.injected = []) ∧ (s.dramChannel u = some n) ∧ (s.fn (.dmc n) = .running)) ∧
    (let s : State := ram.wr Ix.dmcTemperatureBand 4 1; let n : Fin 8 := 3; (s.clocked = true)) ∧
    (let s : State := ram; let n : Fin 8 := 3; let band : Fin 3 := 2; (s.clocked = true) ∧ (s.rd Ix.dmcTemperatureBand (n.val + 1) < band.val)) ∧
    (let s : State := ram.wr Ix.dmcTemperatureBand 4 1; let n : Fin 8 := 3; (s.clocked = true) ∧ (s.rd Ix.dmcTemperatureBand (n.val + 1) = 1) ∧ (s.dmc.channels[n].coolPolls = 0)) ∧
    (let s : State := (dmced { coolPolls := 1 }).wr Ix.dmcTemperatureBand 4 1; let n : Fin 8 := 3; (s.clocked = true) ∧ (s.rd Ix.dmcTemperatureBand (n.val + 1) = 1) ∧ (s.dmc.channels[n].coolPolls ≠ 0)) ∧
    (let s : State := ram; let n : Fin 8 := 3; let margin : BitVec 16 := 9; (s.clocked = true) ∧ (s.fn (.dmc n) = .running) ∧ (s.rd Ix.dmcEyeMinimum 0 ≤ margin.toNat)) ∧
    (let s : State := ram; let n : Fin 8 := 3; let margin : BitVec 16 := 7; (s.clocked = true) ∧ (s.fn (.dmc n) = .running) ∧ (margin.toNat < s.rd Ix.dmcEyeMinimum 0) ∧ (s.dmc.channels[n].retrain = .idle) ∧ (s.bit Ix.dmcChannelStatus (n.val + 1) dsRetirePending = false)) ∧
    (let s : State := dmced { retrain := .first }; let n : Fin 8 := 3; let setting : Vector Byte 160 := Vector.replicate 160 7; (s.clocked = true) ∧ (s.dmc.channels[n].retrain = .first)) ∧
    (let s : State := dmced { retrain := .first }; let n : Fin 8 := 3; (s.clocked = true) ∧ (s.dmc.channels[n].retrain = .first)) ∧
    (let s : State := dmced { retrain := .retry }; let n : Fin 8 := 3; (s.clocked = true) ∧ (s.dmc.channels[n].retrain = .retry)) ∧
    (let s : State := dmced { retrain := .backOff }; let n : Fin 8 := 3; (s.clocked = true) ∧ (s.dmc.channels[n].retrain = .backOff)) ∧
    (let s : State := { ram with dmc := { ram.dmc with poison := [768], injected := [(832, 1), (896, 3)] } }; let corrected : List (Nat × Nat) := [(769, 2)]; let recovered : List Nat := [960]; let failed : List Nat := [768, 1000]; (s.clocked = true)) := by
  and_intros <;> decide +kernel

end P13

namespace P14

/-- Channel 5, owned by the session, with EVF in the state of a code. -/
def ch5 (k : Nat) : State := (put up .evf k).wr 0x2905 Ix.evfSubOwner 64
/-- The same, enabled. -/
def on5 : State := ((ch5 2).wr 0x2905 Ix.evfSubEnable 1).wr Ix.evfChannelsEnabled 0 1
/-- An event in its crossing slot. -/
def slot9 : Crossing := { code := 0x4403, own := none, arg := 7, atStop := false }
/-- A slot in a state. -/
def slotted (s : State) : State := { s with evf := { s.evf with slots := [slot9] } }

theorem witness_EventsFireChannels :
    (let s : State := on5; let r : Req := rq; let x : Session := ses; let c : Fin 256 := 5; (s.Grants r x (chanIx c.val) Ix.evfSubFire (pathNum r.path 1 1)) ∧ (s.chanReachable c.val x.secure = true) ∧ (s.owns c.val x.id = true) ∧ (s.fabricRuns = true) ∧ (s.evf.inbox = []) ∧ (s.chanEnabled c.val = true) ∧ (s.recentFirings c.val < 256) ∧ (s.rd (chanIx c.val) Ix.evfSubTasks = 2 ^ 32 - 1) ∧ (s.rd (chanIx c.val) Ix.evfSubRecord = 0) ∧ (s.rd (chanIx c.val) Ix.evfSubVector = 0) ∧ (s.outputsOf 2 c.val = [])) ∧
    (let s : State := ch5 2; let r : Req := rq; let x : Session := ses; let c : Fin 256 := 5; (s.Grants r x (chanIx c.val) Ix.evfSubFire (pathNum r.path 1 1)) ∧ (s.chanReachable c.val x.secure = true) ∧ (s.owns c.val x.id = true) ∧ (s.fabricRuns = true) ∧ (s.evf.inbox = []) ∧ (s.chanEnabled c.val = false)) ∧
    (let s : State := slotted (on5.wr 0x2905 Ix.evfSubSource 0x4403); let code : BitVec 16 := 0x4403; let k : Crossing := slot9; let c : Fin 256 := 5; (s.clocked = true) ∧ (s.fn .evf = .running) ∧ (s.evf.inbox = []) ∧ (s.evf.slots = [k]) ∧ (k.code = code.toNat) ∧ (code ≠ 0) ∧ ((∀ d : Fin 256, s.rd (chanIx d.val) Ix.evfSubSource = code.toNat → d = c)) ∧ (s.rd (chanIx c.val) Ix.evfSubSource = code.toNat) ∧ (s.chanEnabled c.val = true) ∧ (s.recentFirings c.val < 256) ∧ (s.rd (chanIx c.val) Ix.evfSubTasks = 2 ^ 32 - 1) ∧ (s.rd (chanIx c.val) Ix.evfSubRecord = 0) ∧ (s.rd (chanIx c.val) Ix.evfSubVector = 0) ∧ (s.outputsOf 2 c.val = [])) ∧
    (let s : State := slotted up; let code : BitVec 16 := 0x4403; let k : Crossing := slot9; (s.clocked = true) ∧ (s.fn .evf ≠ .running) ∧ (k.atStop = false) ∧ (s.evf.slots = [k]) ∧ (k.code = code.toNat)) ∧
    (let s : State := up.wr Ix.evfTaskStatus 73 3; let task : Fin 73 := 72; (s.clocked = true)) ∧
    (let s : State := { up with evf := { up.evf with vectors := [(40, true)] } }; let v : Fin 128 := 40; (s.clocked = true) ∧ (s.pcie.linkUp = true) ∧ (s.pcie.busMaster = true) ∧ (s.evf.vectors.contains (v.val, true) = true)) ∧
    (let s : State := { up with evf := { up.evf with vectors := [(40, false)] } }; let v : Fin 128 := 40; (s.clocked = true) ∧ (s.evf.vectors.contains (v.val, true) = false)) ∧
    (let s : State := on5; let r : Req := rq; let x : Session := ses; let c : Fin 256 := 5; (s.Grants r x (chanIx c.val) Ix.evfSubFire (pathNum r.path 1 1)) ∧ (s.chanReachable c.val x.secure = true) ∧ (s.owns c.val x.id = true)) ∧
    (let s : State := { on5 with evf := { on5.evf with firings := List.replicate 256 (5, on5.cycle) } }; let r : Req := rq; let x : Session := ses; let c : Fin 256 := 5; (s.Grants r x (chanIx c.val) Ix.evfSubFire (pathNum r.path 1 1)) ∧ (s.chanReachable c.val x.secure = true) ∧ (s.owns c.val x.id = true) ∧ (s.fabricRuns = true) ∧ (s.evf.inbox = []) ∧ (s.chanEnabled c.val = true) ∧ (256 ≤ s.recentFirings c.val)) ∧
    (let s : State := slotted (on5.wr 0x2905 Ix.evfSubSource 0x4403); let code : BitVec 16 := 0x4403; let k : Crossing := slot9; (s.clocked = true) ∧ (s.fn .evf = .running) ∧ (s.evf.inbox = []) ∧ (s.evf.slots.find? (fun y => y.code == code.toNat) = some k) ∧ (code ≠ 0) ∧ ((∀ d : Fin 256, s.rd (chanIx d.val) Ix.evfSubSource = code.toNat → s.rd (chanIx d.val) Ix.evfSubTasks = 2 ^ 32 - 1 ∧ s.rd (chanIx d.val) Ix.evfSubRecord = 0 ∧ s.outputsOf 2 d.val = []))) ∧
    (let s : State := up; let code : BitVec 16 := 0x4403; (s.clocked = true) ∧ (s.evf.slots.find? (fun y => y.code == code.toNat) = none)) ∧
    (let s : State := slotted up; let code : BitVec 16 := 0x4403; let k : Crossing := slot9; (s.clocked = true) ∧ (s.fn .evf ≠ .running) ∧ (k.atStop = false) ∧ (s.evf.slots.find? (fun y => y.code == code.toNat) = some k)) := by
  and_intros <;> decide +kernel

theorem witness_OwnersHoldChannels :
    (let s : State := up; let r : Req := rq; let x : Session := ses; let c : Fin 256 := 255; (s.Grants r x (chanIx c.val) Ix.evfSubClaim (pathNum r.path 1 1)) ∧ (s.chanReachable c.val x.secure = true) ∧ (s.rd (chanIx c.val) Ix.evfSubOwner = 0xFFFF) ∧ (s.chanEnabled c.val = false)) ∧
    (let s : State := ch5 2; let r : Req := rq; let x : Session := ses; let c : Fin 256 := 5; (s.Grants r x (chanIx c.val) Ix.evfSubClaim (pathNum r.path 1 1)) ∧ (s.chanReachable c.val x.secure = true) ∧ (s.rd (chanIx c.val) Ix.evfSubOwner ≠ 0xFFFF)) ∧
    (let s : State := up; let r : Req := rq; let x : Session := ses; let c : Fin 256 := 255; (s.Grants r x (chanIx c.val) Ix.evfSubClaim (pathNum r.path 1 2)) ∧ (x.secure = true) ∧ (s.rd (chanIx c.val) Ix.evfSubOwner = 0xFFFF) ∧ (s.chanEnabled c.val = false)) ∧
    (let s : State := { up with sessions := [{ ses with secure := false }] }; let r : Req := rq; let x : Session := { ses with secure := false }; let c : Fin 256 := 5; (s.Grants r x (chanIx c.val) Ix.evfSubClaim (pathNum r.path 1 2)) ∧ (x.secure = false)) ∧
    (let s : State := on5; let r : Req := rq; let x : Session := ses; let c : Fin 256 := 5; (s.Grants r x (chanIx c.val) Ix.evfSubClaim (pathNum r.path 1 3)) ∧ (s.chanReachable c.val x.secure = true) ∧ (s.owns c.val x.id = true)) ∧
    (let s : State := up; let r : Req := rq; let x : Session := ses; let c : Fin 256 := 5; (s.Grants r x (chanIx c.val) Ix.evfSubClaim (pathNum r.path 1 3)) ∧ (s.owns c.val x.id = false)) ∧
    (let s : State := on5; let r : Req := rq; let x : Session := ses; let c : Fin 256 := 5; (s.Grants r x (chanIx c.val) Ix.evfSubEnable (pathNum r.path 1 0)) ∧ (s.chanReachable c.val x.secure = true) ∧ (s.owns c.val x.id = true)) ∧
    (let s : State := ch5 2; let r : Req := rq; let x : Session := ses; let c : Fin 256 := 5; (s.Grants r x (chanIx c.val) Ix.evfSubEnable (pathNum r.path 1 1)) ∧ (s.chanReachable c.val x.secure = true) ∧ (s.owns c.val x.id = true) ∧ (actKind (s.rd (chanIx c.val) Ix.evfSubScheduleAction) ≠ kindChannel) ∧ (s.loops c.val = false)) ∧
    (let s : State := ((ch5 2).wr 0x2905 Ix.evfSubSource 0x4403).wr 0x2905 Ix.evfSubTasks 0xFFFFFF01; let r : Req := rq; let x : Session := ses; let c : Fin 256 := 5; (s.Grants r x (chanIx c.val) Ix.evfSubEnable (pathNum r.path 1 1)) ∧ (s.chanReachable c.val x.secure = true) ∧ (s.owns c.val x.id = true) ∧ (actKind (s.rd (chanIx c.val) Ix.evfSubScheduleAction) ≠ kindChannel) ∧ (s.loops c.val = true)) := by
  and_intros <;> decide +kernel

end P14

namespace P15

/-- The session of a port's plain network path. -/
def nses : Session := { ses with id := 3, path := .net 0 7 9 none, level := 1, secure := false, anchorMax := 0 }
/-- The device with field port 0 Running. -/
def net : State := { put up (.fnp 0) 2 with sessions := [nses] }
/-- The session with a transfer. -/
def withTransfer (tr : Transfer) : Session := { ses with transfer := some tr }
/-- A class table that the chapter on classes accepts. -/
def table : Octets := up.rdo Ix.clsClassTable 1

theorem witness_OpenOpensSession :
    (let s : State := up; let m : Fin 4 := 2; let seq : BitVec 16 := 9; let level : BitVec 8 := 0; let name : Octets := [0x41]; (s.serves (.mailbox m) = true) ∧ (nameOk name = true) ∧ (levelAllowed (s.rd Ix.sesMailboxUnauthenticatedLevel 0) level.toNat = true)) ∧
    (let s : State := net.wr Ix.sesNetworkUnauthenticatedLevel 0 1; let port : Fin 2 := 0; let ip : BitVec 32 := 8; let udp : BitVec 16 := 9; let seq : BitVec 16 := 9; let level : BitVec 8 := 0; let name : Octets := [0x41]; (s.serves (.net port ip udp none) = true) ∧ (nameOk name = true) ∧ (levelAllowed (s.rd Ix.sesNetworkUnauthenticatedLevel 0) level.toNat = true) ∧ ((s.sessions.filter (fun x => Path.bigEndian x.path)).length < 64) ∧ (((s.sessions.filter (fun x => Path.bigEndian x.path)).filter (fun x => !x.secure)).length < 56)) ∧
    (let s : State := { net with assocs := [{ id := 4, port := 0, ip := 8, udp := 9, done := true, anchorMax := 3 }], nextAssoc := 5 }; let port : Fin 2 := 0; let ip : BitVec 32 := 8; let udp : BitVec 16 := 9; let seq : BitVec 16 := 9; let a : Assoc := { id := 4, port := 0, ip := 8, udp := 9, done := true, anchorMax := 3 }; let level : BitVec 8 := 2; let name : Octets := []; (s.serves (.net port ip udp (some a.id)) = true) ∧ (nameOk name = true) ∧ (s.assocs.find? (fun y => y.id == a.id) = some a) ∧ ((∀ x ∈ s.sessions, sessionFits (.net port ip udp (some a.id)) x = false)) ∧ ((s.sessions.filter (fun x => Path.bigEndian x.path)).length < 64) ∧ (level.toNat ≤ 3) ∧ (level.toNat ≤ s.levelLimit a.anchorMax)) := by
  and_intros <;> decide +kernel

theorem witness_SessionRequestsAct :
    (let s : State := up; let r : Req := rq; let x : Session := ses; (s.Asks r x)) ∧
    (let s : State := up; let r : Req := rq; let x : Session := ses; (s.Asks r x)) ∧
    (let s : State := up; let r : Req := rq; let x : Session := ses; (s.Asks r x) ∧ (Path.bigEndian r.path = false)) ∧
    (let s : State := { up with sessions := [{ ses with challenge := some [1] }] }; let r : Req := rq; let x : Session := { ses with challenge := some [1] }; let level : BitVec 8 := 2; let chain : Octets := [9]; let sig : Octets := []; let c : Octets := [1]; (s.Asks r x) ∧ (Path.bigEndian r.path = false) ∧ (x.challenge = some c) ∧ (level.toNat ≤ 3) ∧ (chain ≠ [])) ∧
    (let s : State := { up with sessions := [{ ses with challenge := some [1] }], octs := [] }; let r : Req := rq; let x : Session := { ses with challenge := some [1] }; let level : BitVec 8 := 2; let c : Octets := [1]; (s.Asks r x) ∧ (Path.bigEndian r.path = false) ∧ (x.challenge = some c) ∧ (level.toNat ≤ 3) ∧ (s.anchors = [])) := by
  and_intros <;> decide +kernel

theorem witness_RequestSequenceKept :
    (let s : State := { up with sessions := [] }; let r : Req := rq; (s.serves r.path = true) ∧ (s.sessions.find? (fun y => y.id == r.session.toNat && sessionFits r.path y) = none)) ∧
    (let s : State := { up with sessions := [{ ses with lastSeq := 9 }] }; let r : Req := rq; let x : Session := { ses with lastSeq := 9 }; (s.serves r.path = true) ∧ (s.sessions.find? (fun y => y.id == r.session.toNat && sessionFits r.path y) = some x) ∧ (x.lastSeq ≠ r.seq.toNat) ∧ ((x.lastSeq + 1) % 65536 ≠ r.seq.toNat)) ∧
    (let s : State := { up with sessions := [{ ses with lastSeq := 6, stored := some ⟨3, 0, []⟩ }] }; let r : Req := rq; let x : Session := { ses with lastSeq := 6, stored := some ⟨3, 0, []⟩ }; let a : Response := ⟨3, 0, []⟩; let ix : BitVec 16 := 0x2010; let sub : BitVec 8 := 1; let value : Octets := []; (s.serves r.path = true) ∧ (s.sessions.find? (fun y => y.id == r.session.toNat && sessionFits r.path y) = some x) ∧ (x.lastSeq = r.seq.toNat) ∧ (x.stored = some a) ∧ (s.power.resetDue = false)) := by
  and_intros <;> decide +kernel

theorem witness_ReadsAnswer :
    (let s : State := up; let r : Req := rq; let x : Session := ses; let ix : BitVec 16 := 0x2013; let sub : BitVec 8 := 0; let row : ObjRow := ⟨0x2013, 0x2013, 0, 0, .u64, .ro, 0, 0x0001000000000000, .any⟩; (s.Asks r x) ∧ (((s.asked r x).readCheck (x.asking r s.ns) ix.toNat sub.toNat).2 = some row) ∧ (row.ty ≠ .dom) ∧ (s.badObject ix.toNat sub.toNat = false) ∧ (¬(ix.toNat = Ix.netCapture ∧ sub.toNat ≠ 0))) ∧
    (let s : State := up.wr Ix.dlvQueueFlags 2 0x3F; let r : Req := rq; let x : Session := ses; let q : Fin 3 := 1; (s.Asks r x) ∧ (s.recovering = false) ∧ (s.badObject Ix.dlvQueueFlags (q.val + 1) = false)) ∧
    (let s : State := up; let r : Req := rq; let x : Session := ses; (s.Asks r x) ∧ (s.recovering = false) ∧ (s.badObject Ix.monWindow 0 = false)) ∧
    (let s : State := { up with tbuUnit := { up.tbuUnit with captures := up.tbuUnit.captures.set 2 [[1, 2]] } }; let r : Req := rq; let x : Session := ses; let n : Fin 4 := 2; let c : Octets := [1, 2]; let cs : List Octets := []; (s.Asks r x) ∧ (s.recovering = false) ∧ (s.badObject Ix.netCapture (n.val + 1) = false) ∧ (s.tbuUnit.captures[n] = c :: cs)) ∧
    (let s : State := up; let r : Req := rq; let x : Session := ses; (s.Asks r x)) ∧
    (let s : State := net.wr Ix.sysGroupMembership 3 1; let r : Req := { path := .net 0 7 9 none, session := 3, seq := 6 }; let group : BitVec 8 := 1; (s.serves r.path = true) ∧ (Path.bigEndian r.path = true) ∧ (group ≠ 0) ∧ (s.memberOf group.toNat = true)) ∧
    (let s : State := { up with groupAnswers := [⟨.net 0 1 2 none, 4, ⟨0x30, 0, [7]⟩⟩] }; let a : GroupAnswer := ⟨.net 0 1 2 none, 4, ⟨0x30, 0, [7]⟩⟩; let rest : List GroupAnswer := []; (s.mgtUp = true) ∧ (s.groupAnswers = a :: rest)) := by
  and_intros <;> decide +kernel

theorem witness_TransfersMove :
    (let s : State := up; let r : Req := rq; let x : Session := ses; let ix : BitVec 16 := 0x681D; let sub : BitVec 8 := 0; let row : ObjRow := (rowOf 0x681D 0).getD ⟨0, 0, 0, 0, .dom, .rw, 0, 0, .any⟩; let data : Octets := []; (s.Asks r x) ∧ (((s.asked r x).readCheck (x.asking r s.ns) ix.toNat sub.toNat).2 = some row) ∧ (row.ty = .dom) ∧ (x.transfer = none) ∧ (s.badObject ix.toNat sub.toNat = false) ∧ (ix.toNat ≠ Ix.calExport) ∧ (data = (s.asked r x).shownOctets (x.asking r s.ns) ix.toNat sub.toNat)) ∧
    (let s : State := { up with sessions := [withTransfer ⟨0x5020, 1, false, 5, [1, 2, 3, 4, 5]⟩] }; let r : Req := rq; let x : Session := withTransfer ⟨0x5020, 1, false, 5, [1, 2, 3, 4, 5]⟩; let tr : Transfer := ⟨0x5020, 1, false, 5, [1, 2, 3, 4, 5]⟩; let offset : BitVec 32 := 3; let len : BitVec 16 := 4; let last : Bool := true; (s.Asks r x) ∧ (x.transfer = some tr) ∧ (tr.write = false) ∧ (1 ≤ len.toNat) ∧ (len.toNat ≤ segmentSize r.path) ∧ (offset.toNat ≤ tr.total)) ∧
    (let s : State := up; let r : Req := rq; let x : Session := ses; let ix : BitVec 16 := 0x4C11; let sub : BitVec 8 := 0; let total : BitVec 32 := 256; let row : ObjRow := (rowOf 0x4C11 0).getD ⟨0, 0, 0, 0, .dom, .rw, 0, 0, .any⟩; (s.Asks r x) ∧ (((s.asked r x).writeCheck (x.asking r s.ns) ix.toNat sub.toNat).2 = some row) ∧ (row.ty = .dom) ∧ (row.rng.admitsLen total.toNat = true) ∧ (total ≠ 0) ∧ ((s.asked r x).transferring x.id ix.toNat sub.toNat = false) ∧ (s.imageBusy ix.toNat = false) ∧ (x.transfer = none) ∧ (s.badObject ix.toNat sub.toNat = false)) ∧
    (let s : State := { up with sessions := [withTransfer ⟨0x5020, 1, true, 5, [1, 2]⟩] }; let r : Req := rq; let x : Session := withTransfer ⟨0x5020, 1, true, 5, [1, 2]⟩; let tr : Transfer := ⟨0x5020, 1, true, 5, [1, 2]⟩; let offset : BitVec 32 := 2; let data : Octets := [7]; (s.Asks r x) ∧ (x.transfer = some tr) ∧ (tr.write = true) ∧ (offset.toNat = tr.data.length) ∧ (1 ≤ data.length) ∧ (data.length ≤ segmentSize r.path) ∧ (tr.data.length + data.length ≤ tr.total)) ∧
    (let s : State := { up with sessions := [withTransfer ⟨Ix.clsClassTable, 0, true, 256, (zeros 254)⟩] }; let r : Req := rq; let x : Session := withTransfer ⟨Ix.clsClassTable, 0, true, 256, (zeros 254)⟩; let tr : Transfer := ⟨Ix.clsClassTable, 0, true, 256, (zeros 254)⟩; let offset : BitVec 32 := 254; let data : Octets := [0, 0]; (s.Asks r x) ∧ (x.transfer = some tr) ∧ (tr.write = true) ∧ (tr.ix = Ix.clsClassTable) ∧ (offset.toNat = tr.data.length) ∧ (1 ≤ data.length) ∧ (data.length ≤ segmentSize r.path) ∧ (tr.data.length + data.length = tr.total) ∧ (classTableOk (tr.data ++ data) = true)) ∧
    (let s : State := { up with sessions := [withTransfer ⟨0x5020, 1, true, 5, [1, 2]⟩] }; let r : Req := rq; let x : Session := withTransfer ⟨0x5020, 1, true, 5, [1, 2]⟩; let tr : Transfer := ⟨0x5020, 1, true, 5, [1, 2]⟩; let offset : BitVec 32 := 3; let data : Octets := [7]; let last : Bool := false; (s.Asks r x) ∧ (x.transfer = some tr) ∧ (tr.write = true) ∧ (offset.toNat ≠ tr.data.length)) ∧
    (let s : State := { up with sessions := [withTransfer ⟨0x5020, 1, true, 5, [1, 2]⟩] }; let r : Req := rq; let x : Session := withTransfer ⟨0x5020, 1, true, 5, [1, 2]⟩; let tr : Transfer := ⟨0x5020, 1, true, 5, [1, 2]⟩; (s.Asks r x) ∧ (x.transfer = some tr)) ∧
    (let s : State := { up with sessions := [withTransfer ⟨0x5020, 1, true, 5, [1, 2]⟩] }; let id : Fin 68 := 64; let x : Session := withTransfer ⟨0x5020, 1, true, 5, [1, 2]⟩; let tr : Transfer := ⟨0x5020, 1, true, 5, [1, 2]⟩; (s.mgtUp = true) ∧ (s.sessions.find? (fun y => y.id == id.val) = some x) ∧ (x.transfer = some tr)) := by
  and_intros <;> decide +kernel

theorem witness_SessionsEnd :
    (let s : State := up; let id : Fin 68 := 64; let x : Session := ses; (s.mgtUp = true) ∧ (x ∈ s.sessions) ∧ (x.id = id.val)) ∧
    (let s : State := { up with sessions := [ses, nses] }; let r : Req := rq; let x : Session := ses; let id : BitVec 16 := 3; (s.Grants r x Ix.sesSessionEnd 0 (pathNum r.path 2 id.toNat))) ∧
    (let s : State := net; let port : Fin 2 := 0; let ip : BitVec 32 := 5; let udp : BitVec 16 := 6; (s.netServed port ip udp none = true) ∧ ((s.assocs.filter (fun a => !a.done)).length < 8)) ∧
    (let s : State := { net with assocs := [⟨4, 0, 8, 9, false, 0⟩] }; let a : Assoc := ⟨4, 0, 8, 9, false, 0⟩; let chain : Octets := []; let ok : Bool := false; (s.mgtUp = true) ∧ (a ∈ s.assocs) ∧ (a.done = false)) ∧
    (let s : State := { net with assocs := [⟨4, 0, 8, 9, false, 0⟩] }; let a : Assoc := ⟨4, 0, 8, 9, false, 0⟩; (s.mgtUp = true) ∧ (a ∈ s.assocs) ∧ (a.done = false)) ∧
    (let s : State := { net with assocs := [⟨4, 0, 8, 9, true, 0⟩], sessions := [{ nses with path := .net 0 8 9 (some 4) }] }; let a : Assoc := ⟨4, 0, 8, 9, true, 0⟩; (s.mgtUp = true) ∧ (a ∈ s.assocs) ∧ (a.done = true)) ∧
    (let s : State := net; let port : Fin 2 := 0; (s.mgtUp = true) ∧ (s.clocked = true) ∧ (s.runs (.fnp port) = true)) := by
  and_intros <;> decide +kernel

theorem witness_MailboxesAnswer :
    (let s : State := up; let m : Fin 4 := 3; let status : BitVec 32 := 8; let frame : Octets := [1, 2, 3]; (s.serves (.mailbox m) = true) ∧ (frameOk frame = false)) ∧
    (let s : State := up; let m : Fin 4 := 1; let status : BitVec 32 := 0; let frame : Octets := leBytes 2 0x5644 ++ [1, 1, 0, 0] ++ zeros 10 ++ leBytes 2 2 ++ zeros 4; (s.serves (.mailbox m) = true) ∧ (frameOk frame = true) ∧ (octAt frame 3 = 1) ∧ (frame.length = 22) ∧ (octAt frame 20 ≤ 1) ∧ (octAt frame 21 = 0) ∧ (s.rd Ix.sesMailboxUnauthenticatedLevel 0 = 1)) ∧
    (let s : State := { up with mailboxes := up.mailboxes.set 1 { up.mailboxes[1] with ready := true } }; let m : Fin 4 := 1; let status : BitVec 32 := 0; let frame : Octets := []; (s.on = true) ∧ (s.pcie.linkUp = true) ∧ ((s.mailboxes[m]).ready = true) ∧ (frameOk frame = false)) ∧
    (let s : State := { up with mailboxes := up.mailboxes.set 1 { up.mailboxes[1] with ready := true, overrun := true } }; let m : Fin 4 := 1; let status : BitVec 32 := 4; (s.on = true) ∧ (s.pcie.linkUp = true) ∧ (s.power.restarting = false)) := by
  and_intros <;> decide +kernel

theorem witness_WritesStore :
    (let s : State := up; let r : Req := rq; let x : Session := ses; let ix : BitVec 16 := 0x5418; let sub : BitVec 8 := 0; let v : Nat := 0; let row : ObjRow := (rowOf 0x5418 0).getD ⟨0, 0, 0, 0, .dom, .rw, 0, 0, .any⟩; ((ix.toNat / 0x400 = 21 ∨ ix.toNat / 0x400 = 29)) ∧ (8 ≤ ix.toNat % 0x400) ∧ (rowOf ix.toNat sub.toNat = some row) ∧ (row.ty.isOctets = false) ∧ (v < 256 ^ row.ty.bytes) ∧ (s.Grants r x ix.toNat sub.toNat (pathNum r.path row.ty.bytes v))) ∧
    (let s : State := up; let r : Req := rq; let x : Session := ses; let value : BitVec 16 := 77; (s.Grants r x Ix.sysNodeID 0 (pathNum r.path 2 value.toNat))) ∧
    (let s : State := up; let r : Req := rq; let x : Session := ses; let k : Fin 16 := 2; let value : Octets := zeros 48 ++ [2, 1, 0, 0]; (s.Grants r x Ix.sesTrustAnchor (k.val + 1) value) ∧ (anchorOk x value = true)) ∧
    (let s : State := up; let r : Req := rq; let x : Session := ses; let k : Fin 16 := 2; let value : Octets := zeros 48 ++ [4, 1, 0, 0]; (s.Grants r x Ix.sesTrustAnchor (k.val + 1) value) ∧ (anchorOk x value = false)) := by
  and_intros <;> decide +kernel

end P15

namespace P16

/-- Field port 0 Running. -/
def fport : State := put up (.fnp 0) 2
/-- Its link up. -/
def fup : State := fport.wr Ix.netLinkState 1 3
/-- TBU Running as an ordinary clock on port 0, in a PTP port state, with the port's bookkeeping. -/
def ptpd (st : Nat) (f : FnpPort) : State :=
  let s := ((put fup .tbu 2).wr Ix.netPTPRole 0 1).wr Ix.netPortState 1 st
  { s with fnp := s.fnp.set 0 f }
/-- The same, measuring peer to peer. -/
def p2pd (st : Nat) (f : FnpPort) : State := (ptpd st f).wr Ix.netDelayMechanism 0 2
/-- A message of the port 5 of clock 7. -/
def msg (k : PtpKind) (two : Bool) : PtpMessage := { kind := k, domain := 0, seq := 3, source := 458757, correction := 0, twoStep := two, time := 1000, requesting := 9 }
/-- A port that follows it. -/
def slave : FnpPort := { parent := some 458757 }
/-- A Sync under way. -/
def sync3 : SyncRecord := { seq := 3, t2 := 5, epoch := 0, corr := 0, t1 := none }
/-- A delay exchange under way. -/
def delay3 : DelayRecord := { seq := 3, own := some 6, epoch := 0 }
/-- An announced master. -/
def ann : PtpAnnounce := { priority1 := 1, clockClass := 6, accuracy := 32, variance := 1, priority2 := 1, grandmaster := 7, steps := 0, utcOffset := 37, traceable := true, timeSource := 0x20 }
/-- TBU Running. -/
def tbud : State := put up .tbu 2

theorem witness_FieldPortsAct :
    (let s : State := fport; let n : Fin 2 := 0; let negotiated : Bool := false; (s.clocked = true) ∧ (s.fn (.fnp n) = .running) ∧ (s.rd Ix.netLinkMode (n.val + 1) ≠ 0) ∧ (s.fnpUp n = false) ∧ (s.triesFast n = true)) ∧
    (let s : State := fport.wr Ix.netLinkMode 1 2; let n : Fin 2 := 0; let negotiated : Bool := false; (s.clocked = true) ∧ (s.fn (.fnp n) = .running) ∧ (s.rd Ix.netLinkMode (n.val + 1) ≠ 0) ∧ (s.fnpUp n = false) ∧ (s.triesFast n = false)) ∧
    (let s : State := fup; let n : Fin 2 := 0; (s.clocked = true) ∧ (s.fnpUp n = true)) ∧
    (let s : State := fport; let n : Fin 2 := 0; (s.clocked = true) ∧ (s.fn (.fnp n) = .running) ∧ (s.rd Ix.netLinkMode (n.val + 1) = 3) ∧ (s.fnpUp n = false)) ∧
    (let s : State := fup; let n : Fin 2 := 0; let mac : BitVec 48 := 5; let ip : BitVec 32 := 6; let target : BitVec 32 := 0; (s.clocked = true) ∧ (s.fnpUp n = true) ∧ (s.fn (.fnp n) = .running)) ∧
    (let s : State := fup; let n : Fin 2 := 0; let ip : BitVec 32 := 6; let target : BitVec 32 := 1; let data : Octets := [1]; (s.clocked = true) ∧ (s.fnpUp n = true) ∧ (s.fn (.fnp n) = .running)) ∧
    (let s : State := fup; let n : Fin 2 := 0; let badFcs : Bool := true; (s.clocked = true) ∧ (s.fnpUp n = true) ∧ (s.fn (.fnp n) = .running)) := by
  and_intros <;> decide +kernel

theorem witness_PtpMessagesAct :
    (let s : State := ptpd 8 slave; let dt : Nat := 9; let n : Fin 2 := 0; let q : Fin 4 := 1; let m : PtpMessage := msg .sync true; (s.clocked = true) ∧ ((s.advance dt).fnpUp n = true) ∧ ((s.advance dt).ptpActs n = true) ∧ (m.domain = (s.advance dt).rd Ix.netDomainNumber 0) ∧ (8 ≤ (s.advance dt).ptpState n) ∧ ((s.advance dt).fnp[n].parent = some m.source) ∧ (m.twoStep = true)) ∧
    (let s : State := ptpd 8 { slave with sync := some sync3 }; let dt : Nat := 9; let n : Fin 2 := 0; let m : PtpMessage := msg .followUp false; let y : SyncRecord := sync3; (s.clocked = true) ∧ ((s.advance dt).fnpUp n = true) ∧ ((s.advance dt).ptpActs n = true) ∧ (m.domain = (s.advance dt).rd Ix.netDomainNumber 0) ∧ (8 ≤ (s.advance dt).ptpState n) ∧ ((s.advance dt).fnp[n].parent = some m.source) ∧ ((s.advance dt).fnp[n].sync = some y) ∧ (y.seq = m.seq) ∧ (y.t1 = none) ∧ ((s.advance dt).rd Ix.netDelayMechanism 0 = 1) ∧ ((s.advance dt).fnp[n].delay = none)) ∧
    (let s : State := ptpd 6 {}; let dt : Nat := 9; let n : Fin 2 := 0; let q : Fin 4 := 1; let m : PtpMessage := msg .delayReq false; (s.clocked = true) ∧ ((s.advance dt).fnpUp n = true) ∧ ((s.advance dt).ptpActs n = true) ∧ (m.domain = (s.advance dt).rd Ix.netDomainNumber 0) ∧ ((s.advance dt).ptpState n = 6) ∧ ((s.advance dt).rd Ix.netDelayMechanism 0 = 1)) ∧
    (let s : State := ptpd 9 { slave with delay := some delay3 }; let dt : Nat := 9; let n : Fin 2 := 0; let m : PtpMessage := msg .delayResp false; let d : DelayRecord := delay3; (s.clocked = true) ∧ ((s.advance dt).fnpUp n = true) ∧ ((s.advance dt).ptpActs n = true) ∧ (m.domain = (s.advance dt).rd Ix.netDomainNumber 0) ∧ (8 ≤ (s.advance dt).ptpState n) ∧ ((s.advance dt).fnp[n].parent = some m.source) ∧ ((s.advance dt).fnp[n].sync = none) ∧ ((s.advance dt).fnp[n].delay = some d) ∧ (d.seq = m.seq) ∧ (d.answered = false) ∧ ((s.advance dt).rd Ix.netDelayMechanism 0 = 1)) ∧
    (let s : State := p2pd 6 {}; let dt : Nat := 9; let n : Fin 2 := 0; let q : Fin 4 := 1; let m : PtpMessage := msg .pdelayReq false; (s.clocked = true) ∧ ((s.advance dt).fnpUp n = true) ∧ ((s.advance dt).ptpActs n = true) ∧ (m.domain = (s.advance dt).rd Ix.netDomainNumber 0) ∧ ((s.advance dt).rd Ix.netDelayMechanism 0 = 2) ∧ ((s.advance dt).fnp[n].stamps.length < 16)) ∧
    (let s : State := p2pd 6 { delay := some delay3 }; let dt : Nat := 9; let n : Fin 2 := 0; let q : Fin 4 := 1; let m : PtpMessage := msg .pdelayResp true; let d : DelayRecord := delay3; (s.clocked = true) ∧ ((s.advance dt).fnpUp n = true) ∧ ((s.advance dt).ptpActs n = true) ∧ (m.domain = (s.advance dt).rd Ix.netDomainNumber 0) ∧ ((s.advance dt).rd Ix.netDelayMechanism 0 = 2) ∧ ((s.advance dt).fnp[n].delay = some d) ∧ (d.seq = m.seq) ∧ (d.answered = false) ∧ (d.epoch = (s.advance dt).tbuUnit.epoch) ∧ (m.twoStep = true)) ∧
    (let s : State := p2pd 6 { delay := some { delay3 with answered := true } }; let dt : Nat := 9; let n : Fin 2 := 0; let m : PtpMessage := msg .pdelayRespFollowUp false; let d : DelayRecord := { delay3 with answered := true }; let t1 : Int := 6; (s.clocked = true) ∧ ((s.advance dt).fnpUp n = true) ∧ ((s.advance dt).ptpActs n = true) ∧ (m.domain = (s.advance dt).rd Ix.netDomainNumber 0) ∧ ((s.advance dt).rd Ix.netDelayMechanism 0 = 2) ∧ ((s.advance dt).fnp[n].delay = some d) ∧ (d.seq = m.seq) ∧ (d.answered = true) ∧ (d.own = some t1) ∧ ((s.advance dt).fnp[n].sync = none)) ∧
    (let s : State := ptpd 4 {}; let dt : Nat := 9; let n : Fin 2 := 0; let m : PtpMessage := msg (.announce ann) false; let a : PtpAnnounce := ann; (s.clocked = true) ∧ ((s.advance dt).fnpUp n = true) ∧ ((s.advance dt).ptpActs n = true) ∧ (m.domain = (s.advance dt).rd Ix.netDomainNumber 0) ∧ (m.kind = .announce a) ∧ (a.steps < 255)) ∧
    (let s : State := ptpd 8 slave; let dt : Nat := 9; let n : Fin 2 := 0; let q : Fin 4 := 1; let m : PtpMessage := msg .sync true; let taken : Bool := true; (s.clocked = true) ∧ ((s.advance dt).runs (.fnp n) = true) ∧ ((s.advance dt).fnpUp n = true)) ∧
    (let s : State := up; let dt : Nat := 9; let n : Fin 2 := 0; let q : Fin 4 := 1; let m : PtpMessage := msg .sync true; let taken : Bool := true; (s.clocked = true) ∧ ((s.advance dt).runs (.fnp n) = false)) := by
  and_intros <;> decide +kernel

theorem witness_PtpTimersAct :
    (let s : State := ptpd 6 {}; let dt : Nat := 9; let n : Fin 2 := 0; let q : Fin 4 := 1; (s.clocked = true) ∧ ((s.advance dt).fnpUp n = true) ∧ ((s.advance dt).ptpActs n = true) ∧ ((s.advance dt).ptpState n = 6) ∧ ((s.advance dt).fnp[n].stamps.length < 16)) ∧
    (let s : State := ptpd 6 {}; let dt : Nat := 9; let n : Fin 2 := 0; (s.clocked = true) ∧ ((s.advance dt).fnpUp n = true) ∧ ((s.advance dt).ptpActs n = true) ∧ ((s.advance dt).ptpState n = 6)) ∧
    (let s : State := ptpd 9 slave; let dt : Nat := 9; let n : Fin 2 := 0; let q : Fin 4 := 1; (s.clocked = true) ∧ ((s.advance dt).fnpUp n = true) ∧ ((s.advance dt).ptpActs n = true) ∧ (8 ≤ (s.advance dt).ptpState n) ∧ ((s.advance dt).rd Ix.netDelayMechanism 0 = 1) ∧ ((s.advance dt).fnp[n].stamps.length < 16)) ∧
    (let s : State := ptpd 6 { stamps := [(5, 6)] }; let n : Fin 2 := 0; let e : Nat × Int := (5, 6); let rest : List (Nat × Int) := []; (s.clocked = true) ∧ (s.fnp[n].stamps = e :: rest)) ∧
    (let s : State := ptpd 9 slave; let n : Fin 2 := 0; (s.clocked = true) ∧ (s.ptpActs n = true) ∧ (s.ptpState n ≠ 6)) ∧
    (let s : State := (ptpd 9 slave).wr Ix.netTimeStatus 0 2; let n : Fin 2 := 0; (s.clocked = true) ∧ (s.ptpState n = 9) ∧ (s.rd Ix.netTimeStatus 0 % 4 = 2)) ∧
    (let s : State := up.wr Ix.netTimeStatus 0 3; (s.on = true) ∧ (s.rd Ix.netTimeStatus 0 % 4 = 3)) ∧
    (let s : State := up.wr Ix.netTimeStatus 0 23; (s.on = true)) ∧
    (let s : State := ptpd 6 { stamps := List.replicate 16 (5, 6) }; let dt : Nat := 9; let n : Fin 2 := 0; let q : Fin 4 := 1; let taken : Bool := true; (s.clocked = true) ∧ ((s.advance dt).ptpActs n = true) ∧ ((s.advance dt).ptpState n = 6)) ∧
    (let s : State := p2pd 6 {}; let dt : Nat := 9; let n : Fin 2 := 0; let q : Fin 4 := 1; let taken : Bool := false; (s.clocked = true) ∧ ((s.advance dt).ptpActs n = true) ∧ (((s.advance dt).rd Ix.netDelayMechanism 0 = 2 ∧ (s.advance dt).ptpState n ≠ 3) ∨ ((s.advance dt).rd Ix.netDelayMechanism 0 ≠ 2 ∧ 8 ≤ (s.advance dt).ptpState n))) ∧
    (let s : State := ptpd 8 slave; let dt : Nat := 9; let n : Fin 2 := 0; let q : Fin 4 := 1; let taken : Bool := false; (s.clocked = true) ∧ ((s.advance dt).ptpActs n = false ∨ (s.advance dt).ptpState n ≠ 6)) := by
  and_intros <;> decide +kernel

theorem witness_TimeBaseActs :
    (let s : State := up; let r : Req := rq; let x : Session := ses; let value : Octets := leBytes 8 5 ++ leBytes 4 7; (s.Grants r x Ix.netTimeSet 0 value) ∧ (leAt value 8 4 < 10 ^ 9) ∧ (leAt value 0 8 < 2 ^ 48)) ∧
    (let s : State := up; let r : Req := rq; let x : Session := ses; let value : Octets := leBytes 8 5 ++ leBytes 4 1000000000; (s.Grants r x Ix.netTimeSet 0 value) ∧ (10 ^ 9 ≤ leAt value 8 4)) ∧
    (let s : State := up; let r : Req := rq; let x : Session := ses; let v : BitVec 64 := 5; (s.Grants r x Ix.netTimeStep 0 (pathNum r.path 8 v.toNat)) ∧ (0 ≤ (s.tbu : Int) + v.toInt * 2 ^ 32) ∧ ((s.tbu : Int) + v.toInt * 2 ^ 32 < (clockEnd : Int))) ∧
    (let s : State := up; let r : Req := rq; let x : Session := ses; let v : BitVec 32 := 0xFFFFFFF0; (s.Grants r x Ix.netRateAdjustment 0 (pathNum r.path 4 v.toNat))) ∧
    (let s : State := tbud.wr Ix.netPulseMode 4 2; let r : Req := rq; let x : Session := ses; let n : Fin 4 := 3; (s.Grants r x Ix.netPulseArm (n.val + 1) (pathNum r.path 1 1)) ∧ (s.rd Ix.netPulseMode (n.val + 1) ≠ 0) ∧ (s.tbu ≤ (leAt (s.rdo Ix.netPulseStart (n.val + 1)) 0 8 * 10 ^ 9 + leAt (s.rdo Ix.netPulseStart (n.val + 1)) 8 4) * 2 ^ 32)) ∧
    (let s : State := { tbud.wr Ix.netPulseMode 4 1 with tbu := 1 }; let r : Req := rq; let x : Session := ses; let n : Fin 4 := 3; (s.Grants r x Ix.netPulseArm (n.val + 1) (pathNum r.path 1 1)) ∧ (s.rd Ix.netPulseMode (n.val + 1) = 1) ∧ ((leAt (s.rdo Ix.netPulseStart (n.val + 1)) 0 8 * 10 ^ 9 + leAt (s.rdo Ix.netPulseStart (n.val + 1)) 8 4) * 2 ^ 32 < s.tbu)) ∧
    (let s : State := { tbud with tbuUnit := { arms := Vector.replicate 4 (some { periodic := true, start := 0, period := 100, next := 0 }) } }; let dt : Nat := 8; let n : Fin 4 := 2; let a : ToutArm := { periodic := true, start := 0, period := 100, next := 0 }; (s.clocked = true) ∧ ((s.advance dt).fn .tbu = .running) ∧ ((s.advance dt).tbuUnit.arms[n] = some a) ∧ (a.next * 2 ^ 32 ≤ (s.advance dt).tbu)) ∧
    (let s : State := tbud.wr Ix.netPulseStatus 4 9; let n : Fin 4 := 3; (s.clocked = true)) ∧
    (let s : State := tbud; let r : Req := rq; let x : Session := ses; let n : Fin 4 := 3; let v : BitVec 8 := 0; (s.Grants r x Ix.netPulseMode (n.val + 1) (pathNum r.path 1 v.toNat))) ∧
    (let s : State := tbud.wr Ix.netCaptureEdge 4 3; let dt : Nat := 40; let n : Fin 4 := 3; let rising : Bool := true; let q : Fin 4 := 1; (s.clocked = true) ∧ ((s.advance dt).fn .tbu = .running) ∧ ((s.advance dt).rd Ix.netCaptureEdge (n.val + 1) = 3) ∧ ((s.advance dt).tbuUnit.last[n] = none) ∧ ((s.advance dt).tbuUnit.captures[n].length < 16)) ∧
    (let s : State := up.wr Ix.netCaptureEdge 4 3; let dt : Nat := 40; let n : Fin 4 := 3; let rising : Bool := true; let q : Fin 4 := 1; (s.clocked = true) ∧ ((s.advance dt).clocked = true) ∧ ((s.advance dt).fn .tbu ≠ .running) ∧ ((s.advance dt).rd Ix.netCaptureEdge (n.val + 1) = 3)) := by
  and_intros <;> decide +kernel

end P16

namespace P17

/-- CAL Running, with camera 3 that has lane 0 and pipeline 2, both Running, and one row of 16 positions. -/
def cald : State :=
  ((put (put (put up .cal 2) (.cpt 3) 2) (iplFn 2) 2).wr Ix.cptLaneCount 4 1).wr Ix.cptPipeline 4 2
/-- A run in a state. -/
def ran (k : Nat) (q : CalRun) : State := { cald.wr Ix.calRunState 0 k with cal := { run := some q } }
/-- A camera's account. -/
def acc (m : Nat) : CalCam := { cam := 3, lines := 1, sums := [], markers := m, done := true }
/-- A DARK run of camera 3. -/
def darkRun (m : Nat) : CalRun := { kind := 1, strips := 1, mask := 8, tag := 9, first := 0, cams := [acc m] }
/-- An export with no record, of serial number 0. -/
def emptyExport : Octets := 
  let body := leBytes 4 0x4C414356 ++ leBytes 2 1 ++ leBytes 2 1 ++ leBytes 8 0 ++ leBytes 8 5 ++ leBytes 8 0 ++ leBytes 4 56 ++ leBytes 4 0 ++ leBytes 8 0 ++ leBytes 4 0
  body ++ leBytes 4 (crc32c body)
/-- An import under way. -/
def imp1 : CalImport := { slot := 1, status1 := 0, status2 := 1, applied := 4, skipped := 1, seq := 9 }
/-- A Black level write. -/
def black1 : CalWrite := { code := 1, inst := 3, source := 1, data := [1, 0, 2, 0, 3, 0] }
/-- The device in the Service life-cycle state. -/
def service : State := up.wr Ix.lifLifeCycleState 0 2

theorem witness_RunsMeasure :
    (let s : State := cald; let r : Req := rq; let x : Session := ses; let value : Octets := [1, 0, 2, 0, 8, 0, 0, 0, 9, 0, 0, 0, 0, 0, 0, 0]; (s.Grants r x Ix.calRunRequest 0 value) ∧ (octAt value 0 = 1 ∨ octAt value 0 = 2) ∧ (octAt value 1 = 0) ∧ (leAt value 2 2 ≤ 64) ∧ (leAt value 12 4 = 0) ∧ ((maskCams (leAt value 4 4)).all (fun n => s.rd Ix.cptLaneCount (n + 1) != 0 && s.camRuns n) = true) ∧ (s.fn .cal = .running) ∧ (s.calBusy = false)) ∧
    (let s : State := cald; let r : Req := rq; let x : Session := ses; let value : Octets := [4, 0, 2, 0, 8, 0, 0, 0, 9, 0, 0, 0, 0, 0, 0, 0]; (s.Grants r x Ix.calRunRequest 0 value) ∧ (s.fn .cal = .running) ∧ ((maskCams (leAt value 4 4)).all (fun n => s.camRuns n) = true) ∧ (3 < octAt value 0)) ∧
    (let s : State := ran 2 (darkRun 0); let r : Req := rq; let x : Session := ses; let q : CalRun := darkRun 0; (s.Grants r x Ix.calRunCancel 0 (pathNum r.path 1 1)) ∧ (s.cal.run = some q)) ∧
    (let s : State := ran 3 (darkRun 1); let q : CalRun := darkRun 1; let c : CalCam := acc 1; (s.mgtUp = true) ∧ (s.cal.run = some q) ∧ (s.rd Ix.calRunState 0 = 3) ∧ (q.kind = 1) ∧ (q.cams = [c]) ∧ (c.cam < 32) ∧ (c.markers ≠ 0)) ∧
    (let s : State := ran 3 (darkRun 0); let q : CalRun := darkRun 0; let c : CalCam := acc 0; (s.mgtUp = true) ∧ (s.cal.run = some q) ∧ (s.rd Ix.calRunState 0 = 3) ∧ (q.kind = 1) ∧ (q.cams = [c]) ∧ (c.cam < 32) ∧ ((s.darkFinding (Fin.ofNat 32 c.cam) c).reason = 0)) ∧
    (let s : State := { cald.wr Ix.calRunState 0 4 with cal := { run := some (darkRun 0), image := [black1] } }; let q : CalRun := darkRun 0; let w : CalWrite := black1; (s.mgtUp = true) ∧ (s.cal.run = some q) ∧ (s.rd Ix.calRunState 0 = 4) ∧ (q.kind = 1) ∧ (q.reasons.all (fun y => y.2 == 0) = true) ∧ (s.cal.geo.any (fun y => y.source == 1) = false) ∧ (s.cal.image = [w]) ∧ (w.code = 1) ∧ (w.inst < 32) ∧ (q.reasons.all (fun y => decide (y.1 < 32)) = true)) ∧
    (let s : State := ran 2 (darkRun 0); let q : CalRun := darkRun 0; (s.on = true) ∧ (s.cal.run = some q) ∧ (s.cal.imp = none) ∧ (s.rd Ix.calRunState 0 < 4) ∧ (q.kind ≠ 3)) ∧
    (let s : State := ran 3 (darkRun 0); let q : CalRun := darkRun 0; (s.mgtUp = true) ∧ (s.cal.run = some q) ∧ (s.rd Ix.calRunState 0 = 3)) ∧
    (let s : State := { cald.wr Ix.calRunState 0 4 with cal := { run := some (darkRun 0), image := [black1] } }; let q : CalRun := darkRun 0; (s.mgtUp = true) ∧ (s.cal.run = some q) ∧ (s.rd Ix.calRunState 0 = 4) ∧ (s.cal.geo.any (fun y => y.source == 1) = false)) ∧
    (let s : State := up; (s.cal.run = none ∨ s.rd Ix.calRunState 0 ≠ 3)) ∧
    (let s : State := up; (s.cal.run = none ∨ s.rd Ix.calRunState 0 ≠ 4 ∨ s.cal.geo.any (fun y => y.source == 1) = true)) := by
  and_intros <;> decide +kernel

theorem witness_ItemsComeAndGo :
    (let s : State := cald.wro Ix.calImportSlot 1 emptyExport; let r : Req := rq; let x : Session := ses; (s.Grants r x Ix.calImportCommand 0 (pathNum r.path 1 1)) ∧ (s.fn .cal = .running) ∧ (s.calBusy = false) ∧ (s.slotStatus (s.rdo Ix.calImportSlot 1) = 0) ∧ (s.slotStatus (s.rdo Ix.calImportSlot 2) ≠ 0)) ∧
    (let s : State := ran 2 (darkRun 0); let r : Req := rq; let x : Session := ses; (s.Grants r x Ix.calImportCommand 0 (pathNum r.path 1 1)) ∧ (s.fn .cal = .running) ∧ (s.calBusy = true)) ∧
    (let s : State := { cald with cal := { factory := emptyExport } }; let r : Req := rq; let x : Session := ses; (s.Grants r x Ix.calImportCommand 0 (pathNum r.path 1 2)) ∧ (s.fn .cal = .running) ∧ (s.calBusy = false) ∧ (s.slotStatus s.cal.factory = 0)) ∧
    (let s : State := cald; let r : Req := rq; let x : Session := ses; (s.Grants r x Ix.calImportCommand 0 (pathNum r.path 1 2)) ∧ (s.fn .cal = .running) ∧ (s.calBusy = false) ∧ (s.slotStatus s.cal.factory ≠ 0)) ∧
    (let s : State := { cald with cal := { imp := some imp1 } }; let i : CalImport := imp1; (s.mgtUp = true) ∧ (s.cal.imp = some i) ∧ (s.cal.geo = []) ∧ (s.cal.image = [])) ∧
    (let s : State := cald; let r : Req := rq; let x : Session := ses; let value : Octets := [5, 0, 3, 0, 7, 0, 0, 0]; (s.Grants r x Ix.calItemWrite 0 value) ∧ (octAt value 0 = 5 ∨ octAt value 0 = 6) ∧ (octAt value 1 = 0) ∧ (leAt value 2 2 < 32) ∧ (value.length = 8) ∧ (s.fn .cal = .running)) ∧
    (let s : State := cald; let r : Req := rq; let x : Session := ses; let value : Octets := [2, 0, 3, 0, 7, 0, 0, 0]; (s.Grants r x Ix.calItemWrite 0 value) ∧ (s.fn .cal = .running) ∧ (octAt value 0 = 2)) ∧
    (let s : State := service; let r : Req := rq; let x : Session := ses; (s.Grants r x Ix.calFactorySave 0 (pathNum r.path 1 1)) ∧ (s.rd Ix.lifLifeCycleState 0 = 2)) ∧
    (let s : State := up; let r : Req := rq; let x : Session := ses; (s.Grants r x Ix.calFactorySave 0 (pathNum r.path 1 1)) ∧ (s.rd Ix.lifLifeCycleState 0 ≠ 2)) ∧
    (let s : State := cald.wr Ix.calCXPThreshold 6 3; let i : Fin 64 := 5; let e : Int := 3000; (s.on = true) ∧ (s.fn .cal = .running) ∧ (s.cal.targets = []) ∧ (s.cal.bases = []) ∧ (s.rd Ix.calCXPThreshold (i.val + 1) < 256) ∧ (-30 ≤ s.rdI Ix.calCXPThreshold (i.val + 1)) ∧ (s.rdI Ix.calCXPThreshold (i.val + 1) ≤ 31) ∧ ((s.rdI Ix.calCXPThreshold (i.val + 1) - 1).natAbs ≤ s.rd Ix.calDriftLimit 0) ∧ ((s.rd Ix.calInterfaceDeadBand 0 : Int) < e)) ∧
    (let s : State := up; let lanes : List (Nat × Int) := []; let encoders : List (Nat × List (Option Int)) := []; (s.fn .cal ≠ .running)) ∧
    (let s : State := ((up.wr Ix.calDueInterval 1 0).wr Ix.calDueInterval 2 0).wr Ix.calDueInterval 3 0; (s.on = true) ∧ (s.rd Ix.calDueInterval 1 = 0) ∧ (s.rd Ix.calDueInterval 2 = 0) ∧ (s.rd Ix.calDueInterval 3 = 0)) ∧
    (let s : State := (cald.wr Ix.calDueInterval 1 5).wr Ix.cptLaneCount 4 1; let n : Fin 32 := 3; (s.on = true) ∧ (s.rd Ix.calDueInterval 1 ≠ 0) ∧ (s.itemIncluded 1 n.val = true) ∧ (s.overdueItem (s.rd Ix.calDueInterval 1) 1 n.val = true)) ∧
    (let s : State := { cald with cal := { imp := some imp1, image := [black1] } }; let i : CalImport := imp1; (s.mgtUp = true) ∧ (s.cal.imp = some i) ∧ (s.cal.geo.any (fun y => y.source == 2) = false)) ∧
    (let s : State := up; (s.cal.imp = none ∨ s.cal.geo.any (fun y => y.source == 2) = true)) := by
  and_intros <;> decide +kernel

end P17

namespace P18

/-- A hash that is not zero. -/
def khash : Vector Byte 48 := Vector.replicate 48 7
/-- The device in a life-cycle state. -/
def lived (k : Nat) : State := up.wr Ix.lifLifeCycleState 0 k
/-- In SERVICE and Ready, with FUSE_BUSY as given, a soft repair and fuse entries free. -/
def fusing (busy : Bool) (free : Nat) : State :=
  let s := (((lived 2).wr Ix.sysPowerState 0 2).wr Ix.bstFuseEntriesFree 0 free).putBit Ix.lifLifeCycleStatus 0 lcFuseBusy busy
  { s with bst := { soft := [[1, 1, 3, 2, 0, 0, 9, 0]], burning := [[1, 1, 3, 2, 0, 0, 9, 0]] } }
/-- An offline test of camera port 3, where it stands. -/
def port3 (p : Nat) (k : SliceStep) : BstTest := { unit := 0x203, offline := true, passed := p, step := k }
/-- BST Running with that test. -/
def bisted (p : Nat) (k : SliceStep) : State :=
  { ((put up .bst 2).wr Ix.bstRoundState 0 3).setBit Ix.bstSelfTestStatus 0 btRound with bst := { test := some (port3 p k), failed := [0x203] } }

theorem witness_LifeCycleAndFuses :
    (let s : State := up; let r : Req := rq; let x : Session := ses; let serial : BitVec 64 := 0; let hash : Vector Byte 48 := khash; (s.Grants r x Ix.lifLifeCycleCommand 0 (lifeHead 1 serial ++ hash.toList)) ∧ (x.secure = true) ∧ (s.rd Ix.lifLifeCycleState 0 = 0) ∧ (serial.toNat = s.rd Ix.sysSerialNumber 0) ∧ (hash.toList.all (fun b => b == 0) = false) ∧ (s.bit Ix.lifLifeCycleStatus 0 lcFuseBusy = false)) ∧
    (let s : State := up; let r : Req := rq; let x : Session := ses; let serial : BitVec 64 := 1; let hash : Vector Byte 48 := khash; (s.Grants r x Ix.lifLifeCycleCommand 0 (lifeHead 1 serial ++ hash.toList)) ∧ (x.secure = true) ∧ (s.rd Ix.lifLifeCycleState 0 = 0) ∧ (serial.toNat ≠ s.rd Ix.sysSerialNumber 0)) ∧
    (let s : State := lived 1; let r : Req := rq; let x : Session := ses; let serial : BitVec 64 := 0; let hash : Vector Byte 48 := khash; (s.Grants r x Ix.lifLifeCycleCommand 0 (lifeHead 1 serial ++ hash.toList)) ∧ (x.secure = true) ∧ (s.rd Ix.lifLifeCycleState 0 ≠ 0)) ∧
    (let s : State := lived 1; let r : Req := rq; let x : Session := ses; let serial : BitVec 64 := 0; (s.Grants r x Ix.lifLifeCycleCommand 0 (lifeHead 2 serial)) ∧ (x.secure = true) ∧ (x.anchorMax = 3) ∧ (s.rd Ix.lifLifeCycleState 0 = 1) ∧ (serial.toNat = s.rd Ix.sysSerialNumber 0)) ∧
    (let s : State := lived 2; let r : Req := rq; let x : Session := ses; let serial : BitVec 64 := 0; (s.Grants r x Ix.lifLifeCycleCommand 0 (lifeHead 3 serial)) ∧ (s.rd Ix.lifLifeCycleState 0 = 2) ∧ (serial.toNat = s.rd Ix.sysSerialNumber 0) ∧ (s.bit Ix.lifLifeCycleStatus 0 lcFuseBusy = false)) ∧
    (let s : State := lived 2; let r : Req := rq; let x : Session := ses; let serial : BitVec 64 := 0; (s.Grants r x Ix.lifLifeCycleCommand 0 (lifeHead 4 serial)) ∧ (x.level = 3) ∧ (s.rd Ix.lifLifeCycleState 0 = 2) ∧ (serial.toNat = s.rd Ix.sysSerialNumber 0) ∧ (s.bit Ix.lifLifeCycleStatus 0 lcFuseBusy = false) ∧ (allFns.all (fun f => runsRetired f || decide (s.fn f = .stopped)) = true)) ∧
    (let s : State := put (lived 2) .wpu 2; let r : Req := rq; let x : Session := ses; let serial : BitVec 64 := 0; (s.Grants r x Ix.lifLifeCycleCommand 0 (lifeHead 4 serial)) ∧ (x.level = 3) ∧ (s.fn .wpu ≠ .stopped)) ∧
    (let s : State := { lived 2 with sessions := [] }; (s.mgtUp = true) ∧ (s.rd Ix.lifLifeCycleState 0 = 2) ∧ (s.sessions.any (fun y => y.level == 3) = false)) ∧
    (let s : State := lived 2; (s.sessions.any (fun y => y.level == 3) = true)) ∧
    (let s : State := fusing false 9; let r : Req := rq; let x : Session := ses; (s.Grants r x Ix.bstFuseCommand 0 (pathNum r.path 1 1)) ∧ (s.rd Ix.lifLifeCycleState 0 = 2) ∧ (s.rd Ix.sysPowerState 0 = 2) ∧ (s.bit Ix.lifLifeCycleStatus 0 lcFuseBusy = false)) ∧
    (let s : State := lived 2; let r : Req := rq; let x : Session := ses; (s.Grants r x Ix.bstFuseCommand 0 (pathNum r.path 1 1)) ∧ (s.rd Ix.lifLifeCycleState 0 ≠ 2 ∨ s.rd Ix.sysPowerState 0 ≠ 2)) ∧
    (let s : State := fusing true 9; let e : Octets := [1, 1, 3, 2, 0, 0, 9, 0]; (s.mgtUp = true) ∧ (s.bit Ix.lifLifeCycleStatus 0 lcFuseBusy = true) ∧ (s.bst.burning = [e]) ∧ (1 ≤ s.rd Ix.bstFuseEntriesFree 0)) ∧
    (let s : State := fusing true 9; let e : Octets := [1, 1, 3, 2, 0, 0, 9, 0]; (s.mgtUp = true) ∧ (s.bit Ix.lifLifeCycleStatus 0 lcFuseBusy = true) ∧ (s.bst.burning = [e]) ∧ (2 ≤ s.rd Ix.bstFuseEntriesFree 0)) ∧
    (let s : State := fusing true 0; let e : Octets := [1, 1, 3, 2, 0, 0, 9, 0]; (s.mgtUp = true) ∧ (s.bit Ix.lifLifeCycleStatus 0 lcFuseBusy = true) ∧ (s.bst.burning = [e]) ∧ (s.rd Ix.bstFuseEntriesFree 0 = 0)) := by
  and_intros <;> decide +kernel

theorem witness_SelfTestRuns :
    (let s : State := (put up .bst 2).wro Ix.bstOnlineUnitMask 0 [0, 0, 1, 0, 0, 0, 0, 0]; (s.on = true) ∧ (s.fn .bst = .running) ∧ (s.rd Ix.bstBISTEnable 0 = 1) ∧ (s.bst.round = false) ∧ (s.bst.test = none) ∧ (ofLe (s.rdo Ix.bstOnlineUnitMask 0) = 2 ^ 16) ∧ (s.spareIdle 16 = true) ∧ (s.substituted 16 = false)) ∧
    (let s : State := { up with bst := { round := true } }; (s.bst.round = true)) ∧
    (let s : State := bisted 1 .idle; let q : BstTest := port3 1 .idle; let n : Nat := 4; (s.on = true) ∧ (s.bst.test = some q) ∧ (s.rd Ix.bstRoundState 0 = 3) ∧ (q.step = .idle) ∧ (unitSlices q.unit = some n) ∧ (q.passed < n) ∧ (s.bst.stopping = false)) ∧
    (let s : State := bisted 1 .running; let q : BstTest := port3 1 .running; let n : Nat := 4; (s.on = true) ∧ (s.bst.test = some q) ∧ (q.step = .running) ∧ (q.spare = none) ∧ (unitSlices q.unit = some n) ∧ (q.passed + 1 < n) ∧ (s.bst.stopping = false)) ∧
    (let s : State := bisted 3 .running; let q : BstTest := port3 3 .running; let n : Nat := 4; (s.on = true) ∧ (s.bst.test = some q) ∧ (q.step = .running) ∧ (q.spare = none) ∧ (q.offline = true) ∧ (q.repaired = false) ∧ (unitSlices q.unit = some n) ∧ (q.passed + 1 = n) ∧ (s.bst.round = false)) ∧
    (let s : State := bisted 1 .running; let q : BstTest := port3 1 .running; let ram : Nat := 2; let place : Nat := 5; let isRow : Bool := true; (s.on = true) ∧ (s.bst.test = some q) ∧ (q.step = .running) ∧ (s.bst.stopping = false)) ∧
    (let s : State := bisted 1 .backOff; let q : BstTest := port3 1 .backOff; (s.on = true) ∧ (s.bst.test = some q) ∧ (q.step = .backOff)) ∧
    (let s : State := bisted 1 .retry; let q : BstTest := port3 1 .retry; let n : Nat := 4; (s.on = true) ∧ (s.bst.test = some q) ∧ (q.step = .retry) ∧ (q.spare = none) ∧ (unitSlices q.unit = some n) ∧ (q.passed + 1 < n) ∧ (s.bst.stopping = false) ∧ (s.bst.window = []) ∧ (1 ≤ s.rd Ix.bstTransientLimit 0)) ∧
    (let s : State := bisted 1 .retry; let q : BstTest := port3 1 .retry; let ram : Nat := 2; let place : Nat := 5; let isRow : Bool := false; (s.on = true) ∧ (s.bst.test = some q) ∧ (q.step = .retry) ∧ (s.bst.stopping = false) ∧ (s.repairsOf q.unit ram (if isRow then 1 else 2) < unitSpares q.unit isRow)) ∧
    (let s : State := bisted 1 .retry; let q : BstTest := port3 1 .retry; let ram : Nat := 2; (s.on = true) ∧ (s.bst.test = some q) ∧ (q.step = .retry) ∧ (s.bst.round = false)) ∧
    (let s : State := bisted 1 .check; let q : BstTest := port3 1 .check; let n : Nat := 4; (s.on = true) ∧ (s.bst.test = some q) ∧ (q.step = .check) ∧ (q.spare = none) ∧ (unitSlices q.unit = some n) ∧ (q.passed + 1 < n) ∧ (s.bst.stopping = false)) ∧
    (let s : State := put up .bst 2; let r : Req := rq; let x : Session := ses; let unit : BitVec 16 := 0x203; (s.Grants r x Ix.bstTestRequest 0 (leBytes 2 unit.toNat ++ leBytes 1 1 ++ zeros 1)) ∧ (s.fn .bst = .running) ∧ ((unitSlices unit.toNat).isSome = true) ∧ (s.unitAtRest unit.toNat 1 = true) ∧ (s.bst.round = false) ∧ (s.bst.test = none)) ∧
    (let s : State := up; let r : Req := rq; let x : Session := ses; let unit : BitVec 16 := 0x203; (s.Grants r x Ix.bstTestRequest 0 (leBytes 2 unit.toNat ++ leBytes 1 1 ++ zeros 1)) ∧ (s.fn .bst ≠ .running)) ∧
    (let s : State := put { up with bst := { failed := [0x203] } } .bst 2; let r : Req := rq; let x : Session := ses; let unit : BitVec 16 := 0x203; (s.Grants r x Ix.bstTestRequest 0 (leBytes 2 unit.toNat ++ leBytes 1 2 ++ zeros 1)) ∧ (s.fn .bst = .running) ∧ ((unitSlices unit.toNat).isSome = true) ∧ (s.unitAtRest unit.toNat 2 = true) ∧ (s.bst.round = false) ∧ (s.bst.test = none)) ∧
    (let s : State := put up .bst 2; (s.on = true) ∧ (s.fn .bst = .running) ∧ (s.rd Ix.bstBISTEnable 0 = 1) ∧ (s.bst.round = false) ∧ (s.bst.test = none)) := by
  and_intros <;> decide +kernel

end P18

namespace P19

/-- Recorder 5 enabled, of the trigger-to-line time of camera 4. -/
def recd : State := (((up.wr Ix.monEnable 6 1).wr Ix.monSource 6 0x40003).wr Ix.monHistogramBase 6 13600).wr Ix.monHistogramShift 6 4
/-- With a sample waiting. -/
def recS (v : Int) : State := { recd with mon := { fifos := [((3, 4), [{ value := v, own := some (7, 8) }])] } }
/-- User control on. -/
def bar2 : State := up.wr Ix.pmcUserControlEnable 0 1

theorem witness_MonitorsCount :
    (let s : State := recS 13812; let code : BitVec 16 := 3; let inst : BitVec 16 := 4; let y : Sample := { value := 13812, own := some (7, 8) }; let ys : List Sample := []; let i : Fin 128 := 5; (s.clocked = true) ∧ (s.mon.fifos = [((code.toNat, inst.toNat), y :: ys)]) ∧ (s.rd Ix.monEnable (i.val + 1) = 1) ∧ (s.rd Ix.monSource (i.val + 1) = code.toNat + 65536 * inst.toNat)) ∧
    (let s : State := recS 13812; let code : BitVec 16 := 3; let inst : BitVec 16 := 4; let i : Fin 128 := 6; (s.clocked = true) ∧ (s.rd Ix.monEnable (i.val + 1) ≠ 1 ∨ s.rd Ix.monSource (i.val + 1) ≠ code.toNat + 65536 * inst.toNat)) ∧
    (let s : State := recd; let r : Req := rq; let x : Session := ses; (s.Grants r x Ix.monSnapshotCommand 0 (pathNum r.path 1 1)) ∧ (s.snapshotting = false)) ∧
    (let s : State := recd.setBit Ix.monRecorderStatus 0 3; let r : Req := rq; let x : Session := ses; (s.Grants r x Ix.monSnapshotCommand 0 (pathNum r.path 1 1)) ∧ (s.snapshotting = true)) ∧
    (let s : State := recd; (s.clocked = true) ∧ (s.rd Ix.monSnapshotInterval 0 ≠ 0) ∧ (s.snapshotting = false)) ∧
    (let s : State := recd.setBit Ix.monRecorderStatus 0 3; (s.clocked = true) ∧ (s.rd Ix.monSnapshotInterval 0 ≠ 0) ∧ (s.snapshotting = true)) ∧
    (let s : State := { recd.setBit Ix.monRecorderStatus 0 3 with mon := { exports := [leBytes 8 15] } }; (s.clocked = true) ∧ (s.snapshotting = true)) ∧
    (let s : State := up; let r : Req := rq; let x : Session := ses; let i : Fin 128 := 5; (s.Grants r x Ix.monEnable (i.val + 1) (pathNum r.path 1 1)) ∧ (s.rd Ix.monEnable (i.val + 1) = 0)) ∧
    (let s : State := recd; let r : Req := rq; let x : Session := ses; let i : Fin 128 := 5; (s.Grants r x Ix.monEnable (i.val + 1) (pathNum r.path 1 0))) ∧
    (let s : State := up; let r : Req := rq; let x : Session := ses; (s.Grants r x Ix.pmcFreezeCommand 0 (pathNum r.path 1 1)) ∧ (s.rd Ix.pmcFreezeExport 0 = 0)) ∧
    (let s : State := up.setBit Ix.pmcPMCStatus 0 0; let r : Req := rq; let x : Session := ses; (s.Grants r x Ix.pmcFreezeCommand 0 (pathNum r.path 1 2))) ∧
    (let s : State := bar2; (s.on = true) ∧ (s.pcie.linkUp = true) ∧ (s.rd Ix.pmcUserControlEnable 0 = 1) ∧ (s.rd Ix.pmcFreezeExport 0 = 0) ∧ (s.frozen = false)) ∧
    (let s : State := bar2.setBit Ix.pmcPMCStatus 0 0; (s.on = true) ∧ (s.pcie.linkUp = true) ∧ (s.rd Ix.pmcUserControlEnable 0 = 1)) ∧
    (let s : State := bar2.wr Ix.pmcCounter 3 9; (s.on = true) ∧ (s.pcie.linkUp = true) ∧ (s.rd Ix.pmcUserControlEnable 0 = 1)) ∧
    (let s : State := up; (s.rd Ix.pmcUserControlEnable 0 = 0)) ∧
    (let s : State := up.wr Ix.pmcCounter 3 9; let r : Req := rq; let x : Session := ses; let mask : BitVec 16 := 0x104; (s.Grants r x Ix.pmcClear 0 (pathNum r.path 2 mask.toNat)) ∧ (mask.toNat < 512)) := by
  and_intros <;> decide +kernel

end P19

namespace P20

/-- The device in a power state. -/
def powered (k : Nat) : State := up.wr Ix.sysPowerState 0 k
/-- With a transition in progress. -/
def moving (k : Nat) : State := (powered k).setBit Ix.sysPowerStatus 0 pwTransitioning
/-- Its cores restarting. -/
def restarting (k : Nat) : State := { up with power := { restarting := true, restartKind := k, bootDue := false } }
/-- A directory with slot A on trial and preferred. -/
def trialA : State := { up with flash := { up.flash with dirA := directoryCopy 5 1 2 3, dirB := [] } }
/-- A sequence under way. -/
def pf : PowerFail := { lp := 9, time := 8, crumbs := 0, before := 0 }
/-- An update in a state. -/
def updating (k : Nat) : State := up.wr Ix.updUpdateState 0 k

theorem witness_PowerMoves :
    (let s : State := powered 1; let r : Req := rq; let x : Session := ses; let levels : BitVec 8 := 0; (s.Grants r x Ix.sysPowerCommand 0 (pathNum r.path 1 2)) ∧ (s.rd Ix.sysPowerState 0 = 1 ∨ ((s.rd Ix.sysPowerState 0 = 3 ∨ s.rd Ix.sysPowerState 0 = 4) ∧ s.quiet = true)) ∧ (s.bit Ix.sysPowerStatus 0 pwTransitioning = false)) ∧
    (let s : State := put (powered 3) .wpu 2; let r : Req := rq; let x : Session := ses; let levels : BitVec 8 := 0; (s.Grants r x Ix.sysPowerCommand 0 (pathNum r.path 1 2)) ∧ (s.rd Ix.sysPowerState 0 = 2 ∨ s.quiet = false) ∧ (s.rd Ix.sysPowerState 0 ≠ 1)) ∧
    (let s : State := powered 2; let r : Req := rq; let x : Session := ses; (s.Grants r x Ix.sysPowerCommand 0 (pathNum r.path 1 3)) ∧ (s.rd Ix.sysPowerState 0 = 2) ∧ (s.bit Ix.sysPowerStatus 0 pwTransitioning = false)) ∧
    (let s : State := powered 2; let r : Req := rq; let x : Session := ses; (s.Grants r x Ix.sysPowerCommand 0 (pathNum r.path 1 4)) ∧ (s.rd Ix.sysPowerState 0 = 2) ∧ (s.bit Ix.sysPowerStatus 0 pwTransitioning = false)) ∧
    (let s : State := powered 1; let r : Req := rq; let x : Session := ses; (s.Grants r x Ix.sysPowerCommand 0 (pathNum r.path 1 3)) ∧ (s.rd Ix.sysPowerState 0 ≠ 2)) ∧
    (let s : State := moving 2; let r : Req := rq; let x : Session := ses; (s.Grants r x Ix.sysPowerCommand 0 (pathNum r.path 1 3)) ∧ (s.rd Ix.sysPowerState 0 = 2) ∧ (s.bit Ix.sysPowerStatus 0 pwTransitioning = true)) ∧
    (let s : State := put (powered 2) (.fnp 0) 2; let r : Req := rq; let x : Session := ses; (s.Grants r x Ix.sysPowerCommand 0 (pathNum r.path 1 1)) ∧ (s.rd Ix.sysPowerState 0 = 2) ∧ (s.AtRest) ∧ (s.bit Ix.sysPowerStatus 0 pwTransitioning = false)) ∧
    (let s : State := powered 1; let r : Req := rq; let x : Session := ses; (s.Grants r x Ix.sysPowerCommand 0 (pathNum r.path 1 5)) ∧ (s.rd Ix.sysPowerState 0 = 1) ∧ (s.bit Ix.sysPowerStatus 0 pwTransitioning = false)) ∧
    (let s : State := powered 3; let r : Req := rq; let x : Session := ses; (s.Grants r x Ix.sysPowerCommand 0 (pathNum r.path 1 6)) ∧ (s.bit Ix.sysPowerStatus 0 pwTransitioning = false)) ∧
    (let s : State := moving 2; let micros : Nat := 17; (s.on = true) ∧ (s.bit Ix.sysPowerStatus 0 pwTransitioning = true)) ∧
    (let s : State := up; (s.on = true)) := by
  and_intros <;> decide +kernel

theorem witness_ResetsAndRestarts :
    (let s : State := trialA; (s.flash.slotState s.flash.preferred = 2)) ∧
    (let s : State := put up .pcie 2; (s.on = true) ∧ (s.AtRest)) ∧
    (let s : State := (powered 1).wr Ix.sysBootTarget 0 2; let levels : BitVec 8 := 0; (s.mgtUp = true) ∧ (s.power.bootDue = true) ∧ (s.rd Ix.sysPowerState 0 = 1) ∧ (s.rd Ix.sysBootTarget 0 = 2) ∧ (s.bit Ix.sysPowerStatus 0 pwRecovery = false)) ∧
    (let s : State := powered 1; let levels : BitVec 8 := 0; (s.rd Ix.sysBootTarget 0 = 1 ∨ s.power.bootDue = false)) ∧
    (let s : State := put up .wpu 2; (s.mgtUp = true) ∧ (s.rd Ix.updUpdateState 0 ≠ 4)) ∧
    (let s : State := updating 4; (s.mgtUp = true) ∧ (s.rd Ix.updUpdateState 0 = 4) ∧ (s.power.watchdogs = 0)) ∧
    (let s : State := { updating 4 with power := { watchdogs := 1 } }; (s.mgtUp = true) ∧ (s.rd Ix.updUpdateState 0 = 4) ∧ (s.power.watchdogs = 1)) ∧
    (let s : State := restarting 0; let millis : Nat := 1500; (s.on = true) ∧ (s.power.restarting = true) ∧ (s.power.restartKind = 0)) ∧
    (let s : State := restarting 1; let millis : Nat := 1500; let k : Nat := 1; (s.on = true) ∧ (s.power.restarting = true) ∧ (s.power.restartKind = k) ∧ (k = 1 ∨ k = 2)) := by
  and_intros <;> decide +kernel

theorem witness_UpdatesWarningsPolls :
    (let s : State := updating 2; let r : Req := rq; let x : Session := ses; (s.Grants r x Ix.updUpdateCommand 0 (pathNum r.path 1 1)) ∧ (s.rd Ix.updUpdateState 0 = 2) ∧ (s.activationBusy = false) ∧ (s.bit Ix.sysPowerStatus 0 pwRecovery = false)) ∧
    (let s : State := { updating 2 with bst := { round := true } }; let r : Req := rq; let x : Session := ses; (s.Grants r x Ix.updUpdateCommand 0 (pathNum r.path 1 1)) ∧ (s.rd Ix.updUpdateState 0 = 2) ∧ (s.activationBusy = true) ∧ (s.bit Ix.sysPowerStatus 0 pwRecovery = false)) ∧
    (let s : State := updating 4; let r : Req := rq; let x : Session := ses; (s.Grants r x Ix.updUpdateCommand 0 (pathNum r.path 1 1)) ∧ (s.rd Ix.updUpdateState 0 ≠ 2) ∧ (s.bit Ix.sysPowerStatus 0 pwRecovery = false)) ∧
    (let s : State := updating 4; let r : Req := rq; let x : Session := ses; (s.Grants r x Ix.updUpdateCommand 0 (pathNum r.path 1 2)) ∧ (s.rd Ix.updUpdateState 0 = 4)) ∧
    (let s : State := updating 0; let r : Req := rq; let x : Session := ses; (s.Grants r x Ix.updUpdateCommand 0 (pathNum r.path 1 2)) ∧ (s.rd Ix.updUpdateState 0 ≠ 4)) ∧
    (let s : State := updating 4; let r : Req := rq; let x : Session := ses; (s.Grants r x Ix.updUpdateCommand 0 (pathNum r.path 1 3)) ∧ (s.rd Ix.updUpdateState 0 = 4)) ∧
    (let s : State := (powered 2).wr Ix.lifLifeCycleState 0 2; let r : Req := rq; let x : Session := ses; (s.Grants r x Ix.updRaiseSecurityVersion 0 (pathNum r.path 1 1)) ∧ (s.rd Ix.lifLifeCycleState 0 = 2) ∧ (s.rd Ix.sysPowerState 0 = 2) ∧ (s.flash.slotState (s.rd Ix.updRunningSlot 0) = 3) ∧ (s.bit Ix.lifLifeCycleStatus 0 lcFuseBusy = false)) ∧
    (let s : State := powered 2; let r : Req := rq; let x : Session := ses; (s.Grants r x Ix.updRaiseSecurityVersion 0 (pathNum r.path 1 1)) ∧ (s.rd Ix.lifLifeCycleState 0 ≠ 2 ∨ s.rd Ix.sysPowerState 0 ≠ 2)) ∧
    (let s : State := put up .seg 2; (s.operating = true) ∧ (s.rd Ix.sysPowerFailEnable 0 = 1) ∧ (s.power.fail = none)) ∧
    (let s : State := powered 2; (s.clocked = true) ∧ (s.operating = false ∨ s.rd Ix.sysPowerFailEnable 0 = 0)) ∧
    (let s : State := { up with power := { fail := some pf } }; let p : PowerFail := pf; let duration : Nat := 14000; (s.on = true) ∧ (s.power.fail = some p)) ∧
    (let s : State := up; let duration : Nat := 1; (s.power.fail = none)) ∧
    (let s : State := up; let temps : Vector (Option Int) 8 := Vector.replicate 8 none; let supplies : Vector (BitVec 16) 8 := Vector.replicate 8 750; let current : BitVec 16 := 3; let k : Fin 8 := 2; (s.mgtUp = true)) := by
  and_intros <;> decide +kernel

end P20

namespace P21

/-- A slice under test. -/
def tested (k : SliceStep) : State :=
  { (put up .bst 2).wr Ix.bstRoundState 0 3 with bst := { test := some { unit := 0x203, offline := true, passed := 1, step := k } } }
/-- User control on. -/
def user2 : State := up.wr Ix.pmcUserControlEnable 0 1

theorem witness_HousekeepingFrames :
    (let s : State := up.setBit Ix.sysPowerStatus 0 0; let micros : Nat := 5; (s.on = true)) ∧
    (let s : State := { up.wr Ix.lifLifeCycleState 0 2 with sessions := [] }; (s.sessions.any (fun y => y.level == 3) = false)) ∧
    (let s : State := user2; (s.rd Ix.pmcFreezeExport 0 = 0)) := by
  and_intros <;> decide +kernel

end P21

namespace P22

theorem witness_StepRunsFront :
    (let s : State := { up with pending := [.thermalTrip, .porstN] }; let c : Instr := .thermalTrip; let rest : List Instr := [.porstN]; (s.pending = c :: rest)) := by
  decide +kernel

end P22

/-- A step that takes a command from the queue. -/
theorem witness_StepRunsFront : ({ up with pending := [.thermalTrip, .porstN] } : State).pending = .thermalTrip :: [.porstN] := rfl

theorem witness_StepsOnlyAdd : ∃ t, step { State.reset with pending := [.thermalTrip] } = .next t := ⟨_, rfl⟩

theorem witness_StepsOnlyAdd_commands :
    State.reset.imageFits [1] false = true ∧ State.reset.copyFits 0 [] false = true ∧ State.reset.retryFits 0 [] true = true := by
  and_intros <;> decide +kernel

theorem witness_StoresStayCanonical :
    State.reset.StoresOk ∧ ∃ t, step { State.reset with pending := [.thermalTrip] } = .next t := by
  refine ⟨?_, _, rfl⟩
  unfold State.StoresOk
  decide +kernel

end Sys2Proof.Tests
end

section
/-! What the statements about function commands share: the common objects of a function, entering a state, a request that MGT performs on
Function control, and what a device at rest does beside a command: nothing. -/

namespace Sys2Proof.Settled

open Sys2Proof Sys2Proof.Machine Sys2Proof.Laws

/-! ### The common objects of a function -/

theorem mem_allFns (f : Fn) : f ∈ allFns := by
  cases f <;> simp [allFns]

theorem fn_sub_lt (f : Fn) : f.sub < 256 := by
  cases f <;> simp only [Fn.sub] <;> omega

theorem fn_base_mod (f : Fn) : f.base % 0x400 = 0 := by
  cases f <;> simp only [Fn.base]

theorem rowOf_common (f : Fn) {k : Nat} (hk : k < 8) : rowOf (f.base + k) f.sub = commonRow (f.base + k) f.sub k := by
  have h : ∀ g ∈ allFns, ∀ j < 8, rowOf (g.base + j) g.sub = commonRow (g.base + j) g.sub j := by decide +kernel
  exact h f (mem_allFns f) k hk

/-- Function control names its function (R21). -/
theorem fnAt_control (f : Fn) : fnAt (f.base + 1) f.sub = some f := by
  have h : ∀ g ∈ allFns, fnAt (g.base + 1) g.sub = some g := by decide +kernel
  exact h f (mem_allFns f)

theorem key_ne_of_index {ix jx sub : Nat} (h : ix ≠ jx) : key ix sub ≠ key jx sub := by
  unfold key
  omega

theorem bitsAt_key {ix sub : Nat} (h : sub < 256) : bitsAt (key ix sub) = objBits ix sub := by
  unfold bitsAt key
  rw [show (ix * 256 + sub) / 256 = ix by omega, show (ix * 256 + sub) % 256 = sub by omega]

theorem bitsAt_common (f : Fn) {k : Nat} (hk : k < 8) {row : ObjRow} (h : commonRow (f.base + k) f.sub k = some row) :
    bitsAt (key (f.base + k) f.sub) = row.ty.bits := by
  rw [bitsAt_key (fn_sub_lt f), objBits, rowOf_common f hk, h]

theorem bitsAt_state (f : Fn) : bitsAt (key f.base f.sub) = 8 := bitsAt_common f (k := 0) (by decide) rfl
theorem bitsAt_flags (f : Fn) : bitsAt (key (f.base + 4) f.sub) = 32 := bitsAt_common f (k := 4) (by decide) rfl
theorem bitsAt_entryLp (f : Fn) : bitsAt (key (f.base + 5) f.sub) = 64 := bitsAt_common f (k := 5) (by decide) rfl
theorem bitsAt_entryTime (f : Fn) : bitsAt (key (f.base + 6) f.sub) = 64 := bitsAt_common f (k := 6) (by decide) rfl

/-- No frame counter of a path is a common object of a function. -/
theorem common_uncounted (f : Fn) (p : Path) {k : Nat} (hk : k < 8) : key (f.base + k) f.sub ∉ pathCounters p := by
  have hm := fn_base_mod f
  have hs := fn_sub_lt f
  cases p with
  | mailbox _ =>
    simp only [pathCounters, List.mem_singleton, key, Ix.sesFramesReceived]
    omega
  | net port _ _ _ =>
    have hp := port.isLt
    simp only [pathCounters, List.mem_cons, List.not_mem_nil, or_false, not_or, key, Ix.sesFramesReceived, Ix.netFramesReceived, Ix.netFramesSent]
    omega

theorem state_uncounted (f : Fn) (p : Path) : key f.base f.sub ∉ pathCounters p := common_uncounted f p (k := 0) (by decide)

/-- The objects that a time stamp and the live LP are read from are no frame counters. -/
theorem position_uncounted (p : Path) :
    key Ix.wpuLP 0 ∉ pathCounters p ∧ key Ix.netClockIncrement 0 ∉ pathCounters p ∧ key Ix.netTimeStatus 0 ∉ pathCounters p := by
  cases p with
  | mailbox _ => simp only [pathCounters]; decide
  | net port _ _ _ => simp only [pathCounters]; revert port; decide

/-! ### Flags -/

theorem rd_clearBit (s : State) (ix sub b jx jub : Nat) :
    (s.clearBit ix sub b).rd jx jub =
      if key jx jub = key ix sub then (s.rd ix sub - (s.rd ix sub &&& 2 ^ b)) % 2 ^ bitsAt (key ix sub) else s.rd jx jub := by
  unfold State.clearBit State.putBit
  rw [rd_wr]
  simp

theorem bit_setBit {s : State} {ix sub b : Nat} (h : b < bitsAt (key ix sub)) : (s.setBit ix sub b).bit ix sub b = true := by
  unfold State.bit
  rw [rd_setBit, if_pos rfl, Nat.testBit_mod_two_pow, Nat.testBit_or, Nat.testBit_two_pow_self]
  simp [h]

theorem and_two_pow_of_testBit {n b : Nat} (h : n.testBit b = true) : n &&& 2 ^ b = 2 ^ b := by
  apply Nat.eq_of_testBit_eq
  intro i
  rw [Nat.testBit_and, Nat.testBit_two_pow]
  by_cases hi : b = i
  · rw [← hi, h, Bool.true_and]
  · rw [decide_eq_false hi, Bool.and_false]

theorem testBit_sub_and (n b : Nat) : (n - (n &&& 2 ^ b)).testBit b = false := by
  cases h : n.testBit b with
  | false =>
    have hzero : n &&& 2 ^ b = 0 := by
      apply Nat.eq_of_testBit_eq
      intro i
      rw [Nat.testBit_and, Nat.testBit_two_pow, Nat.zero_testBit]
      by_cases hi : b = i
      · rw [← hi, h, Bool.false_and]
      · rw [decide_eq_false hi, Bool.and_false]
    rw [hzero, Nat.sub_zero, h]
  | true =>
    rw [and_two_pow_of_testBit h]
    rw [Nat.testBit_eq_decide_div_mod_eq] at h ⊢
    have hodd : n / 2 ^ b % 2 = 1 := of_decide_eq_true h
    have hdiv : (n - 2 ^ b) / 2 ^ b = n / 2 ^ b - 1 := by
      have := Nat.sub_mul_div n (2 ^ b) 1
      rwa [Nat.mul_one] at this
    rw [hdiv]
    exact decide_eq_false (by omega)

theorem bit_clearBit (s : State) (ix sub b : Nat) : (s.clearBit ix sub b).bit ix sub b = false := by
  unfold State.bit
  rw [rd_clearBit, if_pos rfl, Nat.testBit_mod_two_pow, testBit_sub_and, Bool.and_false]

/-! ### Entering a state -/

theorem ofCode_code (st : FnState) : FnState.ofCode st.code = st := by
  cases st <;> rfl

/-- What an entry into a state writes (R21). -/
def entryWrites (s : State) (f : Fn) (st : FnState) : State :=
  ((({ s with cut := s.cut.filter (fun g => g != f) } : State).wr f.base f.sub st.code).wr (f.base + 5) f.sub (s.entryLp f)).wr (f.base + 6)
    f.sub s.stamp

/-- Where the function does not leave Running, an entry only writes; WPU publishes besides. -/
theorem enter_eq {s : State} {f : Fn} {st : FnState} (h : s.runs f = true → st = .running) :
    s.enter f st = if f = .wpu then (entryWrites s f st).publish else entryWrites s f st := by
  have hstay : (s.runs f && decide (st ≠ .running)) = false := by
    cases hr : s.runs f with
    | false => rfl
    | true => simp [h hr]
  unfold State.enter
  rw [hstay, if_neg Bool.false_ne_true]
  rfl

/-- All but the numbers, the cut-off functions and WPU's part is as it was. -/
def EntryFrame (s t : State) : Prop := t = { s with regs := t.regs, cut := t.cut, wpu := t.wpu }

theorem EntryFrame.wr {s t : State} (h : EntryFrame s t) (ix sub v : Nat) : EntryFrame s (t.wr ix sub v) := by
  have hw : t.wr ix sub v = { t with regs := (t.wr ix sub v).regs } := rfl
  generalize t.wr ix sub v = u at *
  unfold EntryFrame at *
  rw [hw, h]

theorem EntryFrame.publish {s t : State} (h : EntryFrame s t) : EntryFrame s t.publish := by
  have hp : t.publish = { t with wpu := t.publish.wpu } := rfl
  generalize t.publish = u at *
  unfold EntryFrame at *
  rw [hp, h]

theorem entryFrame_entryWrites (s : State) (f : Fn) (st : FnState) : EntryFrame s (entryWrites s f st) := by
  have hcut : EntryFrame s { s with cut := s.cut.filter (fun g => g != f) } := rfl
  exact ((hcut.wr _ _ _).wr _ _ _).wr _ _ _

theorem entryWrites_wpu (s : State) (f : Fn) (st : FnState) : (entryWrites s f st).wpu = s.wpu := by
  unfold entryWrites
  rw [wr_wpu, wr_wpu, wr_wpu]

theorem enter_regs {s : State} {f : Fn} {st : FnState} (h : s.runs f = true → st = .running) :
    (s.enter f st).regs = (entryWrites s f st).regs := by
  rw [enter_eq h]
  split <;> rfl

/-- What entering a state leaves (R21): Function state, and the LP and the time of the entry; all else as it was. -/
structure Entered (s t : State) (f : Fn) (st : FnState) : Prop where
  frame : EntryFrame s t
  history : f = .wpu ∨ t.wpu = s.wpu
  state : t.fn f = st
  lp : t.rd (f.base + 5) f.sub = s.entryLp f % 2 ^ 64
  time : t.rd (f.base + 6) f.sub = s.stamp % 2 ^ 64
  rest : ∀ ix sub, key ix sub ≠ key f.base f.sub → key ix sub ≠ key (f.base + 5) f.sub → key ix sub ≠ key (f.base + 6) f.sub →
    t.rd ix sub = s.rd ix sub

theorem entered_enter {s : State} {f : Fn} {st : FnState} (h : s.runs f = true → st = .running) : Entered s (s.enter f st) f st := by
  have hcode : st.code % 2 ^ 8 = st.code := by cases st <;> rfl
  have h05 : key f.base f.sub ≠ key (f.base + 5) f.sub := key_ne_of_index (by omega)
  have h06 : key f.base f.sub ≠ key (f.base + 6) f.sub := key_ne_of_index (by omega)
  have h56 : key (f.base + 5) f.sub ≠ key (f.base + 6) f.sub := key_ne_of_index (by omega)
  have hrd (ix sub : Nat) : (s.enter f st).rd ix sub = (entryWrites s f st).rd ix sub := by
    unfold State.rd
    rw [enter_regs h]
  constructor
  · rw [enter_eq h]
    split
    · exact (entryFrame_entryWrites s f st).publish
    · exact entryFrame_entryWrites s f st
  · rw [enter_eq h]
    split
    · exact .inl ‹_›
    · exact .inr (entryWrites_wpu s f st)
  · unfold State.fn
    rw [hrd, entryWrites, rd_wr, if_neg h06, rd_wr, if_neg h05, rd_wr, if_pos rfl, bitsAt_state, hcode, ofCode_code]
  · rw [hrd, entryWrites, rd_wr, if_neg h56, rd_wr, if_pos rfl, bitsAt_entryLp]
  · rw [hrd, entryWrites, rd_wr, if_pos rfl, bitsAt_entryTime]
  · intro ix sub h0 h5 h6
    rw [hrd, entryWrites, rd_wr, if_neg h6, rd_wr, if_neg h5, rd_wr, if_neg h0]
    rfl

/-! ### What may act beside a command -/

theorem settle_of_empty {s : State} (h : s.evf.inbox = []) : s.settle = s := by
  unfold State.settle State.settleFor
  rw [if_pos h]

theorem bstStep_of_rest {s : State} (htest : s.bst.test = none) (hround : s.bst.round = false) : s.bstStep = s := by
  have hfollow : s.bstFollow = s := by
    unfold State.bstFollow
    rw [htest]
  unfold State.bstStep State.nextUnit
  rw [hfollow, if_pos (by simp [hround])]

theorem offlineTest_of_rest {s : State} (htest : s.bst.test = none) (f : Fn) : s.underOfflineTest f = false := by
  unfold State.underOfflineTest
  rw [htest]
  rfl

/-! ### The state that a request finds -/

theorem asked_same (s : State) (r : Req) (x : Session) :
    s.takeFree.asked r x = { s with regs := (s.takeFree.asked r x).regs, sessions := (s.takeFree.asked r x).sessions, free := s.free + 1 } := by
  unfold State.asked State.frameHeard State.countPort
  cases r.path <;> rfl

theorem asked_rd (s : State) (r : Req) (x : Session) {ix sub : Nat} (h : key ix sub ∉ pathCounters r.path) :
    (s.takeFree.asked r x).rd ix sub = s.rd ix sub := by
  show ((s.takeFree.frameHeard r.path).putSession _).rd ix sub = s.rd ix sub
  rw [putSession_rd, frameHeard_rd _ _ h, takeFree_rd]

theorem asked_fn (s : State) (r : Req) (x : Session) (f : Fn) : (s.takeFree.asked r x).fn f = s.fn f := by
  unfold State.fn
  rw [asked_rd s r x (state_uncounted f r.path)]

section
variable (s : State) (r : Req) (x : Session)
@[simp] theorem asked_octs : (s.takeFree.asked r x).octs = s.octs := by rw [asked_same]
@[simp] theorem asked_dram : (s.takeFree.asked r x).dram = s.dram := by rw [asked_same]
@[simp] theorem asked_evf : (s.takeFree.asked r x).evf = s.evf := by rw [asked_same]
@[simp] theorem asked_psc : (s.takeFree.asked r x).psc = s.psc := by rw [asked_same]
@[simp] theorem asked_dma : (s.takeFree.asked r x).dma = s.dma := by rw [asked_same]
@[simp] theorem asked_bst : (s.takeFree.asked r x).bst = s.bst := by rw [asked_same]
@[simp] theorem asked_power : (s.takeFree.asked r x).power = s.power := by rw [asked_same]
@[simp] theorem asked_out : (s.takeFree.asked r x).out = s.out := by rw [asked_same]
@[simp] theorem asked_spare : (s.takeFree.asked r x).spare = s.spare := by rw [asked_same]
@[simp] theorem asked_wpu : (s.takeFree.asked r x).wpu = s.wpu := by rw [asked_same]
@[simp] theorem asked_ns : (s.takeFree.asked r x).ns = s.ns := by rw [asked_same]
@[simp] theorem asked_tbu : (s.takeFree.asked r x).tbu = s.tbu := by rw [asked_same]
end

/-- The live LP as a function's block reads it, from what it is made of (R9, R11, R21). -/
theorem entryLp_congr {s t : State} (hlp : t.rd Ix.wpuLP 0 = s.rd Ix.wpuLP 0) (hhist : t.wpu.history = s.wpu.history) (hns : t.ns = s.ns)
    (f : Fn) : t.entryLp f = s.entryLp f := by
  have hseen : t.seenLp = s.seenLp := by
    unfold State.seenLp State.lp
    rw [hlp, hhist, hns]
  cases f with
  | wpu | psc | evf => exact hlp
  | _ => exact hseen

/-- The time stamp of this instant, from what it is made of (R460). -/
theorem stamp_congr {s t : State} (hincr : t.rd Ix.netClockIncrement 0 = s.rd Ix.netClockIncrement 0)
    (hstatus : t.rd Ix.netTimeStatus 0 = s.rd Ix.netTimeStatus 0) (htbu : t.tbu = s.tbu) (hns : t.ns = s.ns) : t.stamp = s.stamp := by
  unfold State.stamp State.clockNow
  rw [hincr, hstatus, htbu, hns]

theorem asked_entryLp (s : State) (r : Req) (x : Session) (f : Fn) : (s.takeFree.asked r x).entryLp f = s.entryLp f :=
  entryLp_congr (asked_rd s r x (position_uncounted r.path).1) (by rw [asked_wpu]) (asked_ns s r x) f

theorem asked_stamp (s : State) (r : Req) (x : Session) : (s.takeFree.asked r x).stamp = s.stamp := by
  obtain ⟨-, hincr, hstatus⟩ := position_uncounted r.path
  exact stamp_congr (asked_rd s r x hincr) (asked_rd s r x hstatus) (asked_tbu s r x) (asked_ns s r x)

/-! ### A write of Function control -/

/-- What an answered request leaves: the state of its effect but for the stored answer, the output, the mailboxes and the frames counted; and
the answer of code `c`, where the effect only adds to the output. -/
structure Replied (s u t : State) (r : Req) (c : Code) : Prop where
  same : t = { u with regs := t.regs, sessions := t.sessions, out := t.out, mailboxes := t.mailboxes }
  counted : ∀ ix sub, key ix sub ∉ pathCounters r.path → t.rd ix sub = u.rd ix sub
  answers : (∃ before : List Output, u.out = s.out ++ before) → s.Answers t r 0x11 c []

theorem Replied.common {s u t : State} {r : Req} {c : Code} (h : Replied s u t r c) (f : Fn) {k : Nat} (hk : k < 8) :
    t.rd (f.base + k) f.sub = u.rd (f.base + k) f.sub := h.counted _ _ (common_uncounted f r.path hk)

theorem Replied.fn {s u t : State} {r : Req} {c : Code} (h : Replied s u t r c) (f : Fn) : t.fn f = u.fn f :=
  congrArg FnState.ofCode (h.common f (k := 0) (by decide))

theorem replied_respond {s u : State} {r : Req} {c : Code} (hreset : u.power.resetDue = false) :
    Replied s u
      ((store u r { opcode := 0x11, status := c.value, payload := [] }).respond r.path r.session.toNat r.seq.toNat
        { opcode := 0x11, status := c.value, payload := [] }).afterRequest r c := by
  have h : ((store u r { opcode := 0x11, status := c.value, payload := [] }).respond r.path r.session.toNat r.seq.toNat
        { opcode := 0x11, status := c.value, payload := [] }).power.resetDue = false := by rw [respond_power]; exact hreset
  unfold State.afterRequest
  rw [h, if_neg (by decide)]
  constructor
  · rw [(respond_only (store u r _) r.path r.session.toNat r.seq.toNat _).same]; rfl
  · intro ix sub hk
    rw [respond_rd _ _ _ _ _ hk]; rfl
  · exact fun hu => answers_of_respond hu

/-- The row that a write's checks answer is the dictionary's. -/
theorem writeCheck_row {s : State} {x : Session} {ix sub : Nat} {row : ObjRow} (h : (s.writeCheck x ix sub).2 = some row) :
    rowOf ix sub = some row := by
  unfold State.writeCheck at h
  split at h
  · cases h
  · cases hr : rowOf ix sub with
    | none => rw [hr] at h; cases h
    | some row' =>
      rw [hr] at h
      dsimp only at h
      split at h
      · cases h
      · split at h
        · cases h
        · exact h

/-- A granted write of Function control is performed by `control`; where that leaves no cause waiting for EVF, nothing else acts. -/
theorem functionControl_replied {s u : State} {r : Req} {x : Session} {f : Fn} {v : Nat} {trains met : Bool} {c : Code}
    (hgrants : s.Grants r x (f.base + 1) f.sub (pathNum r.path 1 v)) (hv : v < 256)
    (hcontrol : (s.takeFree.asked r x).control f v trains met = (u, c)) (hc : c ≠ .sequence) (hinbox : u.evf.inbox = [])
    (hreset : u.power.resetDue = false) : Replied s u (s.functionControl r f v trains met) r c := by
  obtain ⟨hasks, hwrite, -⟩ := hgrants
  obtain ⟨row, o, hrow, ho, hreply⟩ := writeReply_granted { s.surround with trains := trains, faultMet := met } hwrite
  have hnum : o.num = v := by
    have hscalar := writeCheck_row hrow
    rw [rowOf_common f (by decide)] at hscalar
    injection hscalar with hscalar
    subst hscalar
    unfold readOperand at ho
    rw [if_neg (by simp [Ty.isOctets]), if_pos (by rw [pathNum_length]; rfl)] at ho
    injection ho with ho
    rw [← ho, pathNat_pathNum]
    exact Nat.mod_eq_of_lt hv
  have hw : (s.takeFree.asked r x).writeEffect
      { session := x.asking r s.ns, around := { s.surround with trains := trains, faultMet := met }, row := row, ix := f.base + 1, sub := f.sub,
        v := o.num, bs := o.octets } = (u, c) := by
    rw [writeEffect_common _ (by have := fn_base_mod f; show (f.base + 1) % 0x400 < 8; omega)]
    unfold State.writeCommon
    dsimp only
    rw [fnAt_control]
    dsimp only
    rw [if_pos (by have := fn_base_mod f; omega), hnum, hcontrol]
    dsimp only
    rw [settle_of_empty hinbox]
  have hy : (s.takeFree.asked r x).writeReply (x.asking r s.ns) { s.surround with trains := trains, faultMet := met } r.path (f.base + 1) f.sub
      (pathNum r.path 1 v) = { state := u, code := c } := by
    rw [hreply, hw]
  have hasks' : s.takeFree.Asks r x := hasks
  have hns : s.takeFree.ns = s.ns := rfl
  unfold State.functionControl State.writeRequest
  have hrequest := request_asks hasks' 0x11
    (fun t y => t.writeReply y { s.surround with trains := trains, faultMet := met } r.path (f.base + 1) f.sub (pathNum r.path 1 v))
    (by rw [hns, hy]; exact hc)
  rw [hrequest, hns, hy]
  exact replied_respond hreset

end Sys2Proof.Settled
end

section
/-! Function commands: refused and changing nothing (O3), and acting where the transition table lists them (O2). -/

namespace Sys2Proof.Settled

open Sys2Proof Sys2Proof.Machine Sys2Proof.Laws

/-- The commands of Function control are performed as writes of their codes (R21, R22). -/
theorem exec_command (s : State) (r : Req) (f : Fn) (m : Bool) {v : Nat} {c : Instr}
    (h : (v, c) ∈ [(1, .arm r ⟨f, m⟩ true), (2, .start r ⟨f, m⟩), (3, .stop r ⟨f, m⟩), (4, .abort r ⟨f, m⟩), (5, .disarm r ⟨f, m⟩),
      (6, .clear r ⟨f, m⟩)]) :
    exec c s = .next (s.functionControl r f v true m) ∧ 1 ≤ v ∧ v ≤ 6 := by
  simp only [List.mem_cons, Prod.mk.injEq, List.not_mem_nil, or_false] at h
  rcases h with ⟨rfl, rfl⟩ | ⟨rfl, rfl⟩ | ⟨rfl, rfl⟩ | ⟨rfl, rfl⟩ | ⟨rfl, rfl⟩ | ⟨rfl, rfl⟩ <;> exact ⟨rfl, by decide, by decide⟩

/-! ### Refused commands -/

/-- Whether a state does not admit a command, by the table of R22. -/
def notAdmitted (st : FnState) (v : Nat) : Prop :=
  (v = 1 ∧ st ≠ .stopped) ∨ ((v = 2 ∨ v = 5) ∧ st ≠ .armed) ∨ (v = 3 ∧ (st = .stopped ∨ st = .faulted)) ∨
    (v = 4 ∧ st ≠ .running ∧ st ≠ .draining) ∨ (v = 6 ∧ st ≠ .faulted)

theorem armCommand_refuses {s : State} {f : Fn} (trains : Bool) (h : s.fn f ≠ .stopped) : s.armCommand f trains = s.refuse f .wrongState := by
  unfold State.armCommand
  rw [if_pos (by simp [h])]

theorem startCommand_refuses {s : State} {f : Fn} (h : s.fn f ≠ .armed) : s.startCommand f = s.refuse f .wrongState := if_neg h

theorem disarmCommand_refuses {s : State} {f : Fn} (h : s.fn f ≠ .armed) : s.disarmCommand f = s.refuse f .wrongState := if_neg h

theorem clearCommand_refuses {s : State} {f : Fn} (h : s.fn f ≠ .faulted) : s.clearCommand f = s.refuse f .wrongState := if_pos (.inl h)

theorem stopCommand_refuses {s : State} {f : Fn} (h : s.fn f = .stopped ∨ s.fn f = .faulted) : s.stopCommand f = s.refuse f .wrongState := by
  unfold State.stopCommand
  rcases h with h | h <;> rw [h]

theorem abortCommand_refuses {s : State} {f : Fn} (hr : s.fn f ≠ .running) (hd : s.fn f ≠ .draining) :
    s.abortCommand f = s.refuse f .wrongState := by
  unfold State.abortCommand
  cases h : s.fn f with
  | running => exact absurd h hr
  | draining => exact absurd h hd
  | armed | stopped | faulted => rfl

/-- A command whose code is in range goes to its function's own command, where no fault meets it and the function is not IPL16 (R25, R144). -/
theorem control_unmet {s : State} {f : Fn} {v : Nat} (trains : Bool) (hspare : f ≠ spareFn) (h1 : 1 ≤ v) (h6 : v ≤ 6) :
    s.control f v trains false =
      if v = 1 then s.armCommand f trains else if v = 2 then s.startCommand f else if v = 3 then s.stopCommand f
      else if v = 4 then s.abortCommand f else if v = 5 then s.disarmCommand f else s.clearCommand f := by
  unfold State.control
  rw [if_neg (by simp; omega), if_neg Bool.false_ne_true, if_neg hspare]

theorem control_refuses {s : State} {f : Fn} {v : Nat} {m : Bool} (trains : Bool) (hspare : f ≠ spareFn) (h1 : 1 ≤ v) (h6 : v ≤ 6)
    (h : notAdmitted (s.fn f) v ∨ m = true) : s.control f v trains m = s.refuse f .wrongState := by
  cases m with
  | true =>
    unfold State.control
    rw [if_neg (by simp; omega), if_pos rfl]
  | false =>
    rw [control_unmet trains hspare h1 h6]
    rcases h with (⟨rfl, hst⟩ | ⟨rfl | rfl, hst⟩ | ⟨rfl, hst⟩ | ⟨rfl, hr, hd⟩ | ⟨rfl, hst⟩) | hm
    · exact armCommand_refuses trains hst
    · exact startCommand_refuses hst
    · exact disarmCommand_refuses hst
    · exact stopCommand_refuses hst
    · exact abortCommand_refuses hr hd
    · exact clearCommand_refuses hst
    · cases hm

/-- What a refused command leaves of the device. -/
structure Refused (s t : State) (r : Req) (f : Fn) : Prop where
  answers : s.Answers t r 0x11 .wrongState []
  flag : t.bit (f.base + 4) f.sub flagCmdRejected = true
  octs : t.octs = s.octs
  dram : t.dram = s.dram
  evf : t.evf = s.evf
  psc : t.psc = s.psc
  dma : t.dma = s.dma
  spare : t.spare = s.spare
  rest : ∀ ix sub, key ix sub ≠ key (f.base + 4) f.sub → key ix sub ∉ pathCounters r.path → t.rd ix sub = s.rd ix sub

/-- A command that `control` refuses sets CMD_REJECTED and is answered; nothing else changes. -/
theorem refused_functionControl {s : State} {r : Req} {x : Session} {f : Fn} {v : Nat} {trains m : Bool} (hrest : s.AtRest)
    (hgrants : s.Grants r x (f.base + 1) f.sub (pathNum r.path 1 v)) (hv : v < 256)
    (hcontrol : (s.takeFree.asked r x).control f v trains m = (s.takeFree.asked r x).refuse f .wrongState) :
    Refused s (s.functionControl r f v trains m) r f := by
  obtain ⟨same, counted, answers⟩ := functionControl_replied (u := (s.takeFree.asked r x).fnFlag f flagCmdRejected) hgrants hv hcontrol
    (by decide) (by rw [fnFlag_evf, asked_evf]; exact hrest.1) (by rw [fnFlag_power, asked_power]; exact hgrants.2.2)
  refine ⟨answers ⟨[], by simp⟩, ?_, ?_, ?_, ?_, ?_, ?_, ?_, ?_⟩
  · unfold State.bit
    rw [counted _ _ (common_uncounted f r.path (by decide))]
    exact bit_setBit (by rw [bitsAt_flags]; decide)
  · rw [same]; simp
  · rw [same]; simp
  · rw [same]; simp
  · rw [same]; simp
  · rw [same]; simp
  · rw [same]; simp
  · intro ix sub hflag hpath
    rw [counted ix sub hpath]
    exact (rd_setBit _ _ _ _ _ _).trans ((if_neg hflag).trans (asked_rd s r x hpath))

/-- Settles O3: `control` refuses each such command with CMD_REJECTED as its only effect. -/
theorem functionCommandsRefused : Obligations.FunctionCommandsRefused := by
  unfold Obligations.FunctionCommandsRefused
  constructor
  · intro s r x f v c m hrest hspare hmem hgrants hcond
    obtain ⟨hexec, h1, h6⟩ := exec_command s r f m hmem
    have hcond' : notAdmitted ((s.takeFree.asked r x).fn f) v ∨ m = true := by
      rw [asked_fn]
      simpa only [notAdmitted, or_assoc] using hcond
    obtain ⟨answers, flag, octs, dram, evf, psc, dma, -, rest⟩ :=
      refused_functionControl hrest hgrants (by omega) (control_refuses true hspare h1 h6 hcond')
    exact ⟨_, hexec, answers, flag, octs, dram, evf, psc, dma, rest⟩
  · intro s r x v c hrest hmem hgrants
    obtain ⟨hexec, h1, h6⟩ := exec_command s r spareFn false (List.Sublist.subset
      (.cons_cons _ (.cons_cons _ (.cons_cons _ (.cons _ (.cons_cons _ (.cons _ .slnil)))))) hmem)
    have hv : v ≠ 4 ∧ v ≠ 6 := by
      simp only [List.mem_cons, Prod.mk.injEq, List.not_mem_nil, or_false] at hmem
      omega
    have hcontrol : (s.takeFree.asked r x).control spareFn v true false = (s.takeFree.asked r x).refuse spareFn .wrongState := by
      unfold State.control
      rw [if_neg (by simp; omega), if_neg Bool.false_ne_true, if_pos rfl]
      unfold State.spareControl
      rw [if_neg hv.2, if_neg hv.1]
    obtain ⟨answers, -, -, -, -, -, -, spare, rest⟩ := refused_functionControl hrest hgrants (by omega) hcontrol
    refine ⟨_, hexec, answers, ?_, spare⟩
    unfold State.fn
    rw [rest _ _ (key_ne_of_index (by decide)) (state_uncounted spareFn r.path)]

end Sys2Proof.Settled
end

section
/-! Function commands that act (O2). -/

namespace Sys2Proof.Settled

open Sys2Proof Sys2Proof.Machine Sys2Proof.Laws

/-! ### What a function takes up at ARM -/

/-- The indices whose values an entry into a state depends on: the functions' common objects, LP, and what the clock is read from. -/
def entryReads (ix : Nat) : Bool := decide (ix % 0x400 < 8) || [Ix.wpuLP, Ix.netClockIncrement, Ix.netTimeStatus].contains ix

/-- A change of objects that no entry into a state reads, with the position, the clock, EVF, BST and the output as they were. -/
structure OwnObjects (s t : State) : Prop where
  rd : ∀ {ix sub : Nat}, entryReads ix = true → sub < 256 → t.rd ix sub = s.rd ix sub
  wpu : t.wpu = s.wpu := by rfl
  ns : t.ns = s.ns := by rfl
  tbu : t.tbu = s.tbu := by rfl
  out : t.out = s.out := by rfl
  evf : t.evf = s.evf := by rfl
  bst : t.bst = s.bst := by rfl
  reset : t.power.resetDue = s.power.resetDue := by rfl

theorem rd_wr_of_index (s : State) {ix sub jx jub : Nat} (v : Nat) (h : jx ≠ ix) (hs : sub < 256) (hj : jub < 256) :
    (s.wr ix sub v).rd jx jub = s.rd jx jub := by
  rw [rd_wr, if_neg (by unfold key; omega)]

theorem OwnObjects.refl (s : State) : OwnObjects s s where
  rd := fun _ _ => rfl

theorem OwnObjects.wr {s t : State} (h : OwnObjects s t) {ix sub : Nat} (v : Nat) (hix : entryReads ix = false) (hsub : sub < 256) :
    OwnObjects s (t.wr ix sub v) := by
  obtain ⟨rd, wpu, ns, tbu, out, evf, bst, reset⟩ := h
  refine ⟨fun {jx jub} hjx hjub => ?_, wpu, ns, tbu, out, evf, bst, reset⟩
  rw [rd_wr_of_index t v (fun e => by rw [e, hix] at hjx; cases hjx) hsub hjub]
  exact rd hjx hjub

theorem ownObjects_arms (s : State) (f : Fn) : OwnObjects s (s.arms f) := by
  cases f with
  | ipl p =>
    unfold State.arms
    dsimp only
    split
    · exact (OwnObjects.refl s).wr _ (by decide) (by omega)
    · exact .refl s
  | pfc =>
    have h : OwnObjects s { s with pfc := { s.pfc with places := s.placesNow, width := s.localWidth s.placesNow,
                                                       phase := (List.range 32).map s.pfcPhase } } := { rd := fun _ _ => rfl }
    exact (h.wr _ (by decide) (by decide)).wr _ (by decide) (by decide)
  | dmc n =>
    show OwnObjects s (s.dmcArms n)
    unfold State.dmcArms
    split
    · exact .refl s
    · rename_i m _
      have h : OwnObjects s (s.wro Ix.dmcModuleIdentity (n.val + 1) (moduleIdentity m)) := { rd := fun _ _ => rfl }
      exact ((h.wr _ (by decide) (by omega)).wr _ (by decide) (by omega)).wr _ (by decide) (by omega)
  | cls =>
    unfold State.arms
    dsimp only
    split
    · have h : OwnObjects s { s with power := { s.power with sweepDue := false } } := { rd := fun _ _ => rfl }
      exact (h.wr _ (by decide) (by decide)).wr _ (by decide) (by decide)
    · exact .refl s
  | _ => exact .refl s

theorem OwnObjects.fn {s t : State} (h : OwnObjects s t) (f : Fn) : t.fn f = s.fn f := by
  unfold State.fn
  rw [h.rd (by simp [entryReads, fn_base_mod f]) (fn_sub_lt f)]

theorem OwnObjects.entryLp {s t : State} (h : OwnObjects s t) (f : Fn) : t.entryLp f = s.entryLp f :=
  entryLp_congr (h.rd (by decide) (by decide)) (by rw [h.wpu]) h.ns f

theorem OwnObjects.stamp {s t : State} (h : OwnObjects s t) : t.stamp = s.stamp :=
  stamp_congr (h.rd (by decide) (by decide)) (h.rd (by decide) (by decide)) h.tbu h.ns

theorem runs_iff (s : State) (f : Fn) : s.runs f = true ↔ s.fn f = .running := by
  unfold State.runs State.fn
  generalize s.rd f.base f.sub = n
  match n with
  | 0 | 1 | 2 | 3 | _ + 4 => simp [FnState.ofCode]

/-- ARM of an armable function acts (R22, R27). -/
theorem armCommand_acts {s : State} {f : Fn} (hfn : s.fn f = .stopped) (hallowed : s.armAllowed f = true) (harmable : s.armable f = true)
    (htest : s.bst.test = none) : s.armCommand f true = ((s.arms f).enter f .armed, .ok) := by
  unfold State.armCommand
  rw [if_neg (by simp [hfn, hallowed, harmable]), offlineTest_of_rest htest, if_neg Bool.false_ne_true]
  cases f <;> rfl

theorem ne_spareFn_of_armable {s : State} {f : Fn} (h : s.armable f = true) : f ≠ spareFn := by
  rintro rfl
  have hspare : (decide ((16 : Fin 17).val < 16) && s.iplArmable (Fin.ofNat 16 (16 : Fin 17).val)) = true := h
  obtain ⟨hlt, -⟩ := Bool.and_eq_true_iff.mp hspare
  exact absurd (of_decide_eq_true hlt) (by decide)

/-! ### What an answered entry leaves -/

/-- What an answer leaves of an entry that follows a change of other objects: the state's own objects, as the entry wrote them. -/
theorem entry_answered {s u v t : State} {r : Req} {x : Session} {f : Fn} {st : FnState} (own : OwnObjects (s.takeFree.asked r x) v)
    (entered : Entered v u f st) (replied : Replied s u t r .ok) :
    s.Answers t r 0x11 .ok [] ∧ t.fn f = st ∧ t.rd (f.base + 5) f.sub = s.entryLp f % 2 ^ 64 ∧ t.rd (f.base + 6) f.sub = s.stamp % 2 ^ 64 := by
  refine ⟨replied.answers ⟨[], ?_⟩, ?_, ?_, ?_⟩
  · rw [entered.frame]
    simp [own.out]
  · rw [replied.fn, entered.state]
  · rw [replied.common f (by decide), entered.lp, own.entryLp, asked_entryLp]
  · rw [replied.common f (by decide), entered.time, own.stamp, asked_stamp]

/-- ARM, where the table lists it (R22, R27). -/
theorem arm_acts {s : State} {r : Req} {x : Session} {f : Fn} (hgrants : s.Grants r x (f.base + 1) f.sub (pathNum r.path 1 1))
    (hfn : (s.takeFree.asked r x).fn f = .stopped) (hallowed : (s.takeFree.asked r x).armAllowed f = true)
    (harmable : (s.takeFree.asked r x).armable f = true) (hrest : s.AtRest) :
    s.Answers (s.functionControl r f 1 true false) r 0x11 .ok [] ∧ (s.functionControl r f 1 true false).fn f = .armed ∧
      (s.functionControl r f 1 true false).rd (f.base + 5) f.sub = s.entryLp f % 2 ^ 64 ∧
      (s.functionControl r f 1 true false).rd (f.base + 6) f.sub = s.stamp % 2 ^ 64 := by
  obtain ⟨hinbox, htest, -⟩ := hrest
  have own := ownObjects_arms (s.takeFree.asked r x) f
  have entered : Entered _ (((s.takeFree.asked r x).arms f).enter f .armed) f .armed :=
    entered_enter (fun hruns => by rw [runs_iff, own.fn, hfn] at hruns; cases hruns)
  have hcontrol : (s.takeFree.asked r x).control f 1 true false = (((s.takeFree.asked r x).arms f).enter f .armed, .ok) := by
    rw [control_unmet true (ne_spareFn_of_armable harmable) (by decide) (by decide), if_pos rfl]
    exact armCommand_acts hfn hallowed harmable (by rw [asked_bst]; exact htest)
  exact entry_answered own entered (functionControl_replied hgrants (by decide) hcontrol (by decide)
    (by rw [entered.frame]; dsimp only; rw [own.evf, asked_evf]; exact hinbox)
    (by rw [entered.frame]; dsimp only; rw [own.reset, asked_power]; exact hgrants.2.2))

/-! ### START -/

/-- What an accepted START leaves: START_PENDING, and all else as it was (R22). -/
theorem start_acts {s : State} {r : Req} {x : Session} {f : Fn} (hrest : s.AtRest) (hspare : f ≠ spareFn)
    (hgrants : s.Grants r x (f.base + 1) f.sub (pathNum r.path 1 2)) (hfn : s.fn f = .armed) :
    ∃ t, exec (.start r ⟨f, false⟩) s = .next t ∧ s.Answers t r 0x11 .ok [] ∧ t.fn f = .armed ∧
      t.bit (f.base + 4) f.sub flagStartPending = true ∧ t.octs = s.octs ∧ t.dram = s.dram ∧ t.evf = s.evf ∧
      ∀ ix sub, key ix sub ≠ key (f.base + 4) f.sub → key ix sub ∉ pathCounters r.path → t.rd ix sub = s.rd ix sub := by
  have hcontrol : (s.takeFree.asked r x).control f 2 true false = ((s.takeFree.asked r x).fnFlag f flagStartPending, .ok) := by
    rw [control_unmet true hspare (by decide) (by decide), if_neg (by decide), if_pos rfl]
    exact if_pos (by rw [asked_fn]; exact hfn)
  obtain ⟨same, counted, answers⟩ := functionControl_replied hgrants (by decide) hcontrol (by decide)
    (by rw [fnFlag_evf, asked_evf]; exact hrest.1) (by rw [fnFlag_power, asked_power]; exact hgrants.2.2)
  have unchanged (ix sub : Nat) (hflag : key ix sub ≠ key (f.base + 4) f.sub) (hpath : key ix sub ∉ pathCounters r.path) :
      (s.functionControl r f 2 true false).rd ix sub = s.rd ix sub := by
    rw [counted ix sub hpath]
    exact (rd_setBit _ _ _ _ _ _).trans ((if_neg hflag).trans (asked_rd s r x hpath))
  refine ⟨_, rfl, answers ⟨[], by simp⟩, ?_, ?_, ?_, ?_, ?_, unchanged⟩
  · unfold State.fn at hfn ⊢
    rw [unchanged _ _ (key_ne_of_index (by omega)) (state_uncounted f r.path)]
    exact hfn
  · unfold State.bit
    rw [counted _ _ (common_uncounted f r.path (by decide))]
    exact bit_setBit (by rw [bitsAt_flags]; decide)
  · rw [same]; simp
  · rw [same]; simp
  · rw [same]; simp

/-! ### DISARM, and STOP in Armed -/

theorem rd_clearBit_of_index (s : State) {ix sub jx jub : Nat} (b : Nat) (h : jx ≠ ix) (hs : sub < 256) (hj : jub < 256) :
    (s.clearBit ix sub b).rd jx jub = s.rd jx jub := rd_wr_of_index s _ h hs hj

theorem clearFlag_entryLp (s : State) (f : Fn) (b : Nat) : (s.clearBit (f.base + 4) f.sub b).entryLp f = s.entryLp f := by
  have hm := fn_base_mod f
  exact entryLp_congr (rd_clearBit_of_index s b (by simp only [Ix.wpuLP]; omega) (fn_sub_lt f) (by decide)) rfl rfl f

theorem clearFlag_stamp (s : State) (f : Fn) (b : Nat) : (s.clearBit (f.base + 4) f.sub b).stamp = s.stamp := by
  have hm := fn_base_mod f
  exact stamp_congr (rd_clearBit_of_index s b (by simp only [Ix.netClockIncrement]; omega) (fn_sub_lt f) (by decide))
    (rd_clearBit_of_index s b (by simp only [Ix.netTimeStatus]; omega) (fn_sub_lt f) (by decide)) rfl rfl

theorem clearFlag_fn (s : State) (f : Fn) (b : Nat) : (s.clearBit (f.base + 4) f.sub b).fn f = s.fn f := by
  unfold State.fn
  rw [rd_clearBit_of_index s b (by omega) (fn_sub_lt f) (fn_sub_lt f)]

/-- At rest, a pending START is gone and the function is Stopped (R22). -/
theorem entered_disarm {s : State} {f : Fn} (htest : s.bst.test = none) (hround : s.bst.round = false) (hfn : s.fn f = .armed) :
    Entered (s.clearBit (f.base + 4) f.sub flagStartPending) (s.disarm f) f .stopped := by
  have entered := entered_enter (s := s.clearBit (f.base + 4) f.sub flagStartPending) (f := f) (st := .stopped)
    (fun hruns => by rw [runs_iff, clearFlag_fn, hfn] at hruns; cases hruns)
  unfold State.disarm
  rwa [bstStep_of_rest (by rw [entered.frame]; exact htest) (by rw [entered.frame]; exact hround)]

theorem disarm_control {s : State} {f : Fn} (c : Bool) (hspare : f ≠ spareFn) (hfn : s.fn f = .armed) :
    s.control f (if c then 5 else 3) true false = (s.disarm f, .ok) := by
  cases c with
  | true =>
    rw [if_pos rfl, control_unmet true hspare (by decide) (by decide)]
    exact if_pos hfn
  | false =>
    rw [if_neg Bool.false_ne_true, control_unmet true hspare (by decide) (by decide)]
    show s.stopCommand f = _
    unfold State.stopCommand
    rw [hfn]

theorem disarm_acts {s : State} {r : Req} {x : Session} {f : Fn} (c : Bool) (hrest : s.AtRest) (hspare : f ≠ spareFn)
    (hgrants : s.Grants r x (f.base + 1) f.sub (pathNum r.path 1 (if c then 5 else 3))) (hfn : s.fn f = .armed) :
    ∃ t, exec (if c then .disarm r ⟨f, false⟩ else .stop r ⟨f, false⟩) s = .next t ∧ s.Answers t r 0x11 .ok [] ∧ t.fn f = .stopped ∧
      t.bit (f.base + 4) f.sub flagStartPending = false ∧ t.rd (f.base + 5) f.sub = s.entryLp f % 2 ^ 64 ∧
      t.rd (f.base + 6) f.sub = s.stamp % 2 ^ 64 ∧ t.octs = s.octs ∧ t.dram = s.dram := by
  obtain ⟨hinbox, htest, hround⟩ := hrest
  have hfn' : (s.takeFree.asked r x).fn f = .armed := by rw [asked_fn]; exact hfn
  obtain ⟨frame, -, state, lp, time, rest⟩ := entered_disarm (by rw [asked_bst]; exact htest) (by rw [asked_bst]; exact hround) hfn'
  have hexec : exec (if c then .disarm r ⟨f, false⟩ else .stop r ⟨f, false⟩) s = .next (s.functionControl r f (if c then 5 else 3) true false) := by
    cases c <;> rfl
  have replied := functionControl_replied hgrants (by cases c <;> decide) (disarm_control c hspare hfn') (by decide)
    (by rw [frame, clearBit_evf, asked_evf]; exact hinbox) (by rw [frame, clearBit_power, asked_power]; exact hgrants.2.2)
  refine ⟨_, hexec, replied.answers ⟨[], by rw [frame]; simp⟩, ?_, ?_, ?_, ?_, ?_, ?_⟩
  · rw [replied.fn, state]
  · unfold State.bit
    rw [replied.common f (by decide), rest _ _ (key_ne_of_index (by omega)) (key_ne_of_index (by omega)) (key_ne_of_index (by omega))]
    exact bit_clearBit _ _ _ _
  · rw [replied.common f (by decide), lp, clearFlag_entryLp, asked_entryLp]
  · rw [replied.common f (by decide), time, clearFlag_stamp, asked_stamp]
  · rw [replied.same, frame]; simp
  · rw [replied.same, frame]; simp

/-! ### CLEAR -/

/-- What the end of a CLEAR may change of the state that entered Stopped (R22, R35, R144): other numbers, WPU's part and the spare's. -/
structure ClearEnds (s t : State) : Prop where
  rd : ∀ {ix sub : Nat}, entryReads ix = true → sub < 256 → t.rd ix sub = s.rd ix sub
  frame : t = { s with regs := t.regs, wpu := t.wpu, spare := t.spare }

theorem ClearEnds.wr {s t : State} (h : ClearEnds s t) {ix sub : Nat} (v : Nat) (hix : entryReads ix = false) (hsub : sub < 256) :
    ClearEnds s (t.wr ix sub v) := by
  obtain ⟨rd, frame⟩ := h
  refine ⟨fun {jx jub} hjx hjub => ?_, ?_⟩
  · rw [rd_wr_of_index t v (fun e => by rw [e, hix] at hjx; cases hjx) hsub hjub]
    exact rd hjx hjub
  · have hw : t.wr ix sub v = { t with regs := (t.wr ix sub v).regs } := rfl
    generalize t.wr ix sub v = u at *
    rw [hw, frame]

/-- The spare is freed; it stays out of Running (R144). -/
theorem clearEnds_setSpare {s : State} (x : SpareState) (hruns : s.runs spareFn = false) : ClearEnds s (s.setSpare 0 x) := by
  have wrote : ClearEnds s s := ⟨fun _ _ => rfl, rfl⟩
  have idle : ClearEnds s { s.wr Ix.iplSpareState 0 0 with spare := x } :=
    ⟨(wrote.wr (ix := Ix.iplSpareState) (sub := 0) 0 (by decide) (by decide)).rd, by
      have hw : s.wr Ix.iplSpareState 0 0 = { s with regs := (s.wr Ix.iplSpareState 0 0).regs } := rfl
      generalize s.wr Ix.iplSpareState 0 0 = u at *
      rw [hw]⟩
  have freed (t : State) (ht : ClearEnds s t) :
      ClearEnds s ((((t.wr Ix.iplSpareServing 0 255).wr Ix.iplCamerasServed 17 0).clearBit Ix.iplPipelineStatus 17 2).clearBit
        Ix.iplPipelineStatus 17 0) :=
    (((ht.wr _ (by decide) (by decide)).wr _ (by decide) (by decide)).wr _ (by decide) (by decide)).wr _ (by decide) (by decide)
  have stays (t : State) (ht : ClearEnds s t) : ClearEnds s (if t.runs spareFn then t.enter spareFn .stopped else t) := by
    have : t.runs spareFn = false := by
      rw [← hruns]
      unfold State.runs
      rw [ht.rd (by decide) (by decide)]
    rw [this, if_neg Bool.false_ne_true]
    exact ht
  unfold State.setSpare
  rw [if_pos rfl]
  dsimp only
  apply stays
  apply freed
  split
  · exact (idle.wr _ (by decide) (by omega)).wr _ (by decide) (by omega)
  · exact idle

theorem ClearEnds.bstStep {s t : State} (h : ClearEnds s t) (htest : s.bst.test = none) (hround : s.bst.round = false) :
    ClearEnds s t.bstStep := by
  have htest' : t.bst.test = none := by rw [h.frame]; exact htest
  have hround' : t.bst.round = false := by rw [h.frame]; exact hround
  rw [bstStep_of_rest htest' hround']
  exact h

/-- CLEAR of a Faulted function enters Stopped and ends as its chapter says (R22, R35, R144). -/
theorem clearCommand_acts {s : State} {f : Fn} (htest : s.bst.test = none) (hround : s.bst.round = false) (hfn : s.fn f = .faulted)
    (hfused : ∀ p, f = .ipl p → s.substituted p.val = false) :
    ∃ u, s.clearCommand f = (u, .ok) ∧ ClearEnds (s.enter f .stopped) u ∧ Entered s (s.enter f .stopped) f .stopped := by
  have entered : Entered s (s.enter f .stopped) f .stopped :=
    entered_enter (fun hruns => by rw [runs_iff, hfn] at hruns; cases hruns)
  have same : ClearEnds (s.enter f .stopped) (s.enter f .stopped) := ⟨fun _ _ => rfl, rfl⟩
  have htest' : (s.enter f .stopped).bst.test = none := by rw [entered.frame]; exact htest
  have hround' : (s.enter f .stopped).bst.round = false := by rw [entered.frame]; exact hround
  unfold State.clearCommand
  cases f with
  | wpu => exact ⟨(s.enter .wpu .stopped).clearWindows, if_neg (by simp [hfn]), ⟨fun _ _ => rfl, rfl⟩, entered⟩
  | ipl p =>
    rw [if_neg (by simp [hfn, hfused p rfl])]
    dsimp only
    split
    · rename_i hp
      have hruns : (s.enter (.ipl p) .stopped).runs spareFn = false := by
        rw [← Bool.not_eq_true, runs_iff, show spareFn = .ipl p from congrArg Fn.ipl (Fin.ext hp.symm), entered.state]
        decide
      exact ⟨_, rfl, (clearEnds_setSpare {} hruns).bstStep htest' hround', entered⟩
    · exact ⟨_, rfl, same.bstStep htest' hround', entered⟩
  | _ => exact ⟨_, if_neg (by simp [hfn]), same, entered⟩

theorem control_clear {s : State} {f : Fn} : s.control f 6 true false = s.clearCommand f := by
  by_cases hspare : f = spareFn
  · unfold State.control State.spareControl
    rw [if_neg (by decide), if_neg Bool.false_ne_true, if_pos hspare, if_pos rfl, hspare]
  · rw [control_unmet true hspare (by decide) (by decide)]
    rfl

/-- CLEAR, where the table lists it (R22). -/
theorem clear_acts {s : State} {r : Req} {x : Session} {f : Fn} (hrest : s.AtRest)
    (hgrants : s.Grants r x (f.base + 1) f.sub (pathNum r.path 1 6)) (hfn : s.fn f = .faulted)
    (hfused : ∀ p, f = .ipl p → s.substituted p.val = false) :
    ∃ t, exec (.clear r ⟨f, false⟩) s = .next t ∧ s.Answers t r 0x11 .ok [] ∧ t.fn f = .stopped ∧
      t.rd (f.base + 3) f.sub = s.rd (f.base + 3) f.sub ∧ t.octs = s.octs ∧ t.dram = s.dram := by
  obtain ⟨hinbox, htest, hround⟩ := hrest
  obtain ⟨u, hcommand, ends, entered⟩ := clearCommand_acts (s := s.takeFree.asked r x) (f := f) (by rw [asked_bst]; exact htest)
    (by rw [asked_bst]; exact hround) (by rw [asked_fn]; exact hfn)
    (fun p hp => by rw [← hfused p hp]; unfold State.substituted; rw [asked_bst])
  have replied := functionControl_replied hgrants (by decide) (control_clear.trans hcommand) (by decide)
    (by rw [ends.frame, entered.frame]; dsimp only; rw [asked_evf]; exact hinbox)
    (by rw [ends.frame, entered.frame]; dsimp only; rw [asked_power]; exact hgrants.2.2)
  have reads {k : Nat} (hk : k < 8) : entryReads (f.base + k) = true := by
    have hm := fn_base_mod f
    simp only [entryReads, Bool.or_eq_true, decide_eq_true_eq]
    omega
  refine ⟨_, rfl, replied.answers ⟨[], by rw [ends.frame, entered.frame]; simp⟩, ?_, ?_, ?_, ?_⟩
  · rw [replied.fn, ← entered.state]
    exact congrArg FnState.ofCode (ends.rd (reads (k := 0) (by decide)) (fn_sub_lt f))
  · rw [replied.common f (by decide), ends.rd (reads (by decide)) (fn_sub_lt f),
      entered.rest _ _ (key_ne_of_index (by omega)) (key_ne_of_index (by omega)) (key_ne_of_index (by omega)),
      asked_rd s r x (common_uncounted f r.path (by decide))]
  · rw [replied.same, ends.frame, entered.frame]; simp
  · rw [replied.same, ends.frame, entered.frame]; simp

/-- Settles O2: each command acts as the table lists it, and its entry writes LP and time. -/
theorem functionCommandsAct : Obligations.FunctionCommandsAct := by
  unfold Obligations.FunctionCommandsAct
  refine ⟨?_, ?_, ?_, ?_⟩
  · intro s r x f hgrants hfn hallowed harmable hrest
    exact ⟨_, rfl, arm_acts hgrants hfn hallowed harmable hrest⟩
  · intro s r x f hrest hspare hgrants hfn
    exact start_acts hrest hspare hgrants hfn
  · intro s r x f c hrest hspare hgrants hfn
    exact disarm_acts c hrest hspare hgrants hfn
  · intro s r x f hrest hgrants hfn hfused
    exact clear_acts hrest hgrants hfn hfused

end Sys2Proof.Settled
end

section
/-! WPU's common objects through the event fabric: what the causes of an entry to Running bring about writes none of them (R411, R412). -/

namespace Sys2Proof.Settled

open Sys2Proof Sys2Proof.Machine Sys2Proof.Laws

/-- The first seven of WPU's common objects (R21), as values. -/
def WpuCommons (m : Fin 7 → Nat) (s : State) : Prop := ∀ k : Fin 7, s.rd (0x2000 + k.val) 0 = m k

section
variable {m : Fin 7 → Nat} {s : State}

/-- A write of an object behind them leaves them; WPU's block is the first of the functions' (R8). -/
theorem WpuCommons.wr (h : WpuCommons m s) {ix sub v : Nat} (hix : 0x2007 ≤ ix := by exact Nat.le_of_ble_eq_true rfl) :
    WpuCommons m (s.wr ix sub v) := by
  intro k
  rw [rd_wr, if_neg (by unfold key; omega)]
  exact h k

/-- They stay where the numbers do. -/
theorem WpuCommons.of_regs (h : WpuCommons m s) {t : State} (e : t.regs = s.regs := by rfl) : WpuCommons m t := by
  intro k
  unfold State.rd
  rw [e]
  exact h k

theorem wpuCommons_discard (h : WpuCommons m s) (f : Fn) (n : Nat) : WpuCommons m (s.discard f n) := by
  have hbase : 0x2007 ≤ f.base + 7 := by cases f <;> simp only [Fn.base] <;> omega
  exact h.wr hbase

/-! ### Crossings, tallies and samples -/

theorem wpuCommons_cross (h : WpuCommons m s) (code : Nat) (own : Option (Nat × Nat)) (arg : Nat) : WpuCommons m (s.cross code own arg) := by
  unfold State.cross
  exact R_ite h.wr.wr h

theorem wpuCommons_tally (h : WpuCommons m s) (code inst n : Nat) : WpuCommons m (s.tally code inst n) := by
  have add {t : State} (ht : WpuCommons m t) (k : Nat) : WpuCommons m (t.pmcAdd Ix.pmcCounter k n) := by
    unfold State.pmcAdd
    exact R_ite ht.wr.wr ht.wr
  unfold State.tally
  exact R_ite (R_foldl h (fun _ _ ht => R_ite (add ht _) ht)) h

theorem wpuCommons_sample (h : WpuCommons m s) (code inst : Nat) (v : Int) (own : Option (Nat × Nat)) :
    WpuCommons m (s.sample code inst v own) := by
  have dropped {t : State} (ht : WpuCommons m t) (live : List (Nat × Accum)) (r : Nat) :
      WpuCommons m ((({ t with mon := { t.mon with live := live } } : State).bump Ix.monDroppedSamples r 1).setBit Ix.monRecorderStatus 0 1) :=
    WpuCommons.wr (WpuCommons.wr (s := { t with mon := { t.mon with live := live } }) ht)
  unfold State.sample
  exact R_ite (R_ite h (R_foldl h (fun _ _ ht => R_ite (dropped ht _ _) ht))) h.wr

theorem wpuCommons_msix (h : WpuCommons m s) (v : Nat) : WpuCommons m (s.msix v) := by
  unfold State.msix
  exact R_ite h h

theorem wpuCommons_raiseVector (h : WpuCommons m s) (v : Nat) : WpuCommons m (s.raiseVector v) := by
  unfold State.raiseVector
  exact R_ite h (wpuCommons_msix (WpuCommons.of_regs h) v)

/-! ### The queues -/

theorem wpuCommons_depthChanged (h : WpuCommons m s) (q : Fin 3) (old : Nat) : WpuCommons m (s.depthChanged q old) := by
  unfold State.depthChanged
  extract_lets +onlyGivenNames -underBinder sub now hi lo s1 s2 s3
  have h1 : WpuCommons m s1 := h.wr
  have h2 : WpuCommons m s2 := R_ite (wpuCommons_msix (wpuCommons_cross h1.wr _ _ _) _) h1
  have h3 : WpuCommons m s3 := R_ite (wpuCommons_cross h2.wr _ _ _) h2
  exact h3.wr

theorem wpuCommons_entered (h : WpuCommons m s) (q : Fin 3) (ps : List (List QWord)) : WpuCommons m (s.entered q ps) := by
  have put : WpuCommons m (s.putPackets q ps) :=
    wpuCommons_depthChanged (s := s.setQueue q { s.queues[q] with packets := ps }) h q (s.depth q)
  exact wpuCommons_sample (wpuCommons_cross put.wr _ _ _) _ _ _ _

theorem wpuCommons_losePackets (h : WpuCommons m s) (q : Fin 3) (n words : Nat) : WpuCommons m (s.losePackets q n words) := by
  unfold State.losePackets
  extract_lets +onlyGivenNames -underBinder t a
  have ht : WpuCommons m t := h.wr.wr
  exact R_ite ht ht

theorem wpuCommons_push (h : WpuCommons m s) (q : Fin 3) (producer : Nat) (poison : Bool) (record : Octets) :
    WpuCommons m (s.push q producer poison record) := by
  unfold State.push
  extract_lets +onlyGivenNames -underBinder t p
  have ht : WpuCommons m t := by
    show WpuCommons m (s.pushLoss q)
    unfold State.pushLoss
    exact R_ite (wpuCommons_entered (s := s.setQueue q _) h q _) h
  exact R_ite (wpuCommons_entered (s := t.setQueue q _) ht q _) (wpuCommons_losePackets (R_ite ht (wpuCommons_discard ht _ _)) q _ _)

/-! ### The delivery channels -/

theorem wpuCommons_handOver (h : WpuCommons m s) (c : Fin 32) (i : Nat) : WpuCommons m (s.handOver c i) := by
  unfold State.handOver
  refine R_ite h ?_
  exact wpuCommons_cross (WpuCommons.wr (WpuCommons.wr (WpuCommons.wr (WpuCommons.wr (s := s.setChan c _) h)))) _ _ _

theorem wpuCommons_finishDescriptor (h : WpuCommons m s) (c : Fin 32) : WpuCommons m (s.finishDescriptor c) := by
  unfold State.finishDescriptor
  extract_lets +onlyGivenNames -underBinder x
  split
  · exact h
  · extract_lets +onlyGivenNames -underBinder s1 s2 s3 s4
    have h1 : WpuCommons m s1 := R_ite h h
    have h2 : WpuCommons m s2 := R_ite (wpuCommons_msix h1 _) h1
    have h3 : WpuCommons m s3 := R_ite h2.wr h2
    have h4 : WpuCommons m s4 := wpuCommons_tally (R_ite h3 (wpuCommons_cross h3 _ _ _)) _ _ _
    have h5 : WpuCommons m (s4.setChan c { x with current := none, finishing := false, fenced := false, status := 0, reason := 0, used := 0,
                                                  held := 0 }) := h4
    exact R_ite (wpuCommons_handOver h5 c _) h5

theorem wpuCommons_markBad (h : WpuCommons m s) (c : Fin 32) (i : Nat) : WpuCommons m (s.markBad c i) := by
  have flagged : WpuCommons m (s.chanFlag c chBad) := by
    unfold State.chanFlag
    extract_lets +onlyGivenNames -underBinder t
    have ht : WpuCommons m t := h.wr
    exact R_ite (wpuCommons_msix ht _) ht
  exact wpuCommons_cross flagged.wr _ _ _

theorem wpuCommons_writeFails (h : WpuCommons m s) (c : Fin 32) : WpuCommons m (s.writeFails c) := by
  unfold State.writeFails
  extract_lets +onlyGivenNames -underBinder x
  split
  · exact h
  · extract_lets +onlyGivenNames -underBinder n used s1 s2 s3
    have h1 : WpuCommons m s1 := wpuCommons_markBad (s := s.setChan c _) h c _
    have h2 : WpuCommons m s2 := R_ite h1 h1.wr.wr
    have h3 : WpuCommons m s3 := wpuCommons_finishDescriptor h2 c
    exact R_ite (wpuCommons_handOver h3 c _) h3

theorem wpuCommons_hostWrite (h : WpuCommons m s) (c : Fin 32) (addr : Nat) (lead data : Octets) :
    WpuCommons m (s.hostWrite c addr lead data) := by
  unfold State.hostWrite
  exact R_ite h (wpuCommons_tally (WpuCommons.wr (s := s.emits _) h) _ _ _)

theorem wpuCommons_closeTray (h : WpuCommons m s) (c : Fin 32) (reason status : Nat) : WpuCommons m (s.closeTray c reason status) := by
  unfold State.closeTray
  extract_lets +onlyGivenNames -underBinder x
  split
  · refine R_ite (wpuCommons_writeFails h c) ?_
    extract_lets +onlyGivenNames -underBinder body footer s1
    have h1 : WpuCommons m s1 := wpuCommons_sample (wpuCommons_hostWrite h _ _ _ _) _ _ _ _
    clear_value s1
    exact wpuCommons_handOver (WpuCommons.of_regs h1) c _
  · exact h

/-! ### The scheduler -/

theorem wpuCommons_reachFabric (h : WpuCommons m s) (c : Cause) : WpuCommons m (s.reachFabric c) := by
  unfold State.reachFabric
  exact R_ite h h.wr

theorem wpuCommons_pscReport (h : WpuCommons m s) (outcome target action tag : Nat) : WpuCommons m (s.pscReport outcome target action tag) := by
  unfold State.pscReport
  exact R_ite (wpuCommons_push h _ _ _ _) h

theorem wpuCommons_entriesFire (es : List PscEntry) (h : WpuCommons m s) : WpuCommons m (s.entriesFire es) := by
  induction es generalizing s with
  | nil => exact h
  | cons e es ih =>
    have counted : WpuCommons m (s.bump Ix.pscFiredCount 0 1) := h.wr
    exact ih (wpuCommons_pscReport (R_ite (wpuCommons_reachFabric counted _) counted) _ _ _ _)

theorem wpuCommons_fireEntries (h : WpuCommons m s) (es : List PscEntry) : WpuCommons m (s.fireEntries es) := by
  unfold State.fireEntries
  split
  · exact h
  · exact wpuCommons_entriesFire _ (wpuCommons_reachFabric h _)

theorem wpuCommons_setOut (h : WpuCommons m s) (n : Nat) (o : OutStage) : WpuCommons m (s.setOut n o) := by
  unfold State.setOut
  split <;> exact h

theorem wpuCommons_outputFires (h : WpuCommons m s) (n : Nat) (kinds : List Nat) : WpuCommons m (s.outputFires n kinds) := by
  unfold State.outputFires
  extract_lets +onlyGivenNames -underBinder act extra t
  have ht : WpuCommons m t := R_ite h h.wr
  clear_value act t
  split
  · unfold State.pulseFiring
    split
    · exact (wpuCommons_setOut ht _ _).wr
    · extract_lets +onlyGivenNames -underBinder u
      have hu : WpuCommons m u := ht.wr.wr
      exact R_ite (wpuCommons_setOut hu _ _) hu
  · exact wpuCommons_setOut ht _ _
  · exact wpuCommons_setOut ht _ _
  · exact wpuCommons_setOut ht _ _
  · exact ht

theorem wpuCommons_outputsFire (fs : List (Nat × Nat)) (ns : List Nat) (h : WpuCommons m s) : WpuCommons m (s.outputsFire fs ns) := by
  induction ns generalizing s with
  | nil => exact h
  | cons n ns ih => exact ih (R_ite h (wpuCommons_outputFires h _ _))

theorem wpuCommons_fireOutputs (h : WpuCommons m s) (fromSource fromEntries : List (Nat × Nat)) :
    WpuCommons m (s.fireOutputs fromSource fromEntries) := by
  unfold State.fireOutputs
  exact R_ite (wpuCommons_outputsFire _ _ h) (R_ite h (wpuCommons_discard h _ _))

theorem wpuCommons_pscRequest (h : WpuCommons m s) (requested action tag : Nat) (barred : Bool) :
    WpuCommons m (s.pscRequest requested action tag barred).1 := by
  unfold State.pscRequest
  refine R_ite_1 h (R_ite_1 (wpuCommons_discard h _ _) (R_ite_1 h (R_ite_1 (wpuCommons_reachFabric h.wr.wr _) ?_)))
  extract_lets +onlyGivenNames -underBinder e
  refine R_ite_1 ?_ h
  extract_lets +onlyGivenNames -underBinder t
  have ht : WpuCommons m t := wpuCommons_reachFabric h.wr.wr _
  exact R_ite_1 (wpuCommons_fireOutputs (wpuCommons_fireEntries ht _) _ _) (wpuCommons_pscReport ht _ _ _ _)

/-! ### The tasks -/

theorem wpuCommons_freeze (h : WpuCommons m s) : WpuCommons m s.freeze := by
  unfold State.freeze
  refine R_ite h ?_
  extract_lets +onlyGivenNames -underBinder t
  have ht : WpuCommons m t := h.wr.wr
  exact R_ite (wpuCommons_push ht _ _ _ _) ht

theorem wpuCommons_snapshot (h : WpuCommons m s) : WpuCommons m s.snapshot := by
  unfold State.snapshot
  extract_lets +onlyGivenNames -underBinder seq t
  have ht : WpuCommons m t := h.wr.wr.wr
  exact WpuCommons.of_regs ht

theorem wpuCommons_swapRequest (h : WpuCommons m s) : WpuCommons m s.swapRequest.1 := by
  unfold State.swapRequest
  refine R_ite_1 h.wr.wr ?_
  extract_lets +onlyGivenNames -underBinder waits src t
  have ht : WpuCommons m t := h
  exact R_ite ht.wr ht

theorem wpuCommons_latch (h : WpuCommons m s) (n : Fin 4) (task : Bool) (flags ns quarter : Nat) :
    WpuCommons m (s.latch n task flags ns quarter) := by
  have merged : WpuCommons m (s.mergeCapture n flags) := by
    unfold State.mergeCapture
    split <;> exact h
  unfold State.latch
  extract_lets +onlyGivenNames -underBinder at_ tbu lp again
  clear_value again
  split
  · exact R_ite merged h
  · extract_lets +onlyGivenNames -underBinder s1 rec_ fifo full src2 s2 src3 s3
    have h2 : WpuCommons m s2 := h.wr (ix := Ix.netCaptureCount)
    have h3 : WpuCommons m s3 := R_ite h2.wr (WpuCommons.wr (WpuCommons.of_regs h2))
    exact wpuCommons_cross h3 _ _ _

theorem wpuCommons_performTask (h : WpuCommons m s) (task c : Nat) (x : Cause) : WpuCommons m (s.performTask task c x) := by
  have resumed (n : Fin 32) : WpuCommons m (s.portResume n) := R_ite h h
  have stamped (n : Fin 4) : WpuCommons m (s.tbuStamp n) := R_ite (wpuCommons_latch h _ _ _ _ _) (wpuCommons_discard h _ _)
  have flushed (n : Fin 32) : WpuCommons m (s.flushChan n) := R_ite (wpuCommons_closeTray h _ _ _) h
  unfold State.performTask
  exact R_ite (wpuCommons_pscRequest h _ _ _ _) (R_ite (wpuCommons_swapRequest h) (R_ite (wpuCommons_freeze h) (R_ite h.wr
    (R_ite (wpuCommons_snapshot h) (R_ite (stamped _) (R_ite (resumed _) (flushed _)))))))

theorem wpuCommons_activateTask (h : WpuCommons m s) (task : Nat) (fired : List (Nat × Cause)) : WpuCommons m (s.activateTask task fired) := by
  unfold State.activateTask
  split
  · exact h
  · extract_lets +onlyGivenNames -underBinder t
    have ht : WpuCommons m t := R_ite h h.wr
    refine R_ite ht.wr.wr ?_
    extract_lets +onlyGivenNames -underBinder u
    have hu : WpuCommons m u := ht.wr
    exact wpuCommons_performTask (R_ite hu hu.wr) _ _ _

/-! ### The channels -/

theorem wpu_below_channels (c : Nat) : 0x2007 ≤ chanIx c := by
  unfold chanIx
  omega

theorem wpuCommons_fireChannel (h : WpuCommons m s) (c : Nat) (x : Cause) (others : Nat) : WpuCommons m (s.fireChannel c x others).1 := by
  have hc := wpu_below_channels c
  unfold State.fireChannel
  refine R_ite_1 ?_ ?_
  · extract_lets +onlyGivenNames -underBinder t
    have ht : WpuCommons m t := ((h.wr hc).wr.wr hc).wr
    exact wpuCommons_push ht _ _ _ _
  · extract_lets +onlyGivenNames -underBinder recent src t t1 t2 t3 v
    have h0 : WpuCommons m t := h
    have h1 : WpuCommons m t1 := wpuCommons_tally (h0.wr hc) _ _ _
    have h2 : WpuCommons m t2 := R_ite h1 (h1.wr hc)
    have h3 : WpuCommons m t3 := R_ite (wpuCommons_push h2 _ _ _ _) h2
    exact R_ite h3 (wpuCommons_raiseVector h3 _)

theorem wpuCommons_fireChannels (cs : List Cause) (ns : List Nat) (h : WpuCommons m s) : WpuCommons m (s.fireChannels cs ns).1 := by
  induction ns generalizing s with
  | nil => exact h
  | cons c ns ih =>
    unfold State.fireChannels
    extract_lets +onlyGivenNames -underBinder mine
    split
    · exact ih h
    · refine R_ite_1 ?_ (ih h.wr)
      exact ih (wpuCommons_fireChannel h _ _ _)

theorem wpuCommons_fabricCycle (h : WpuCommons m s) : WpuCommons m s.fabricCycle := by
  unfold State.fabricCycle
  extract_lets +onlyGivenNames -underBinder cs src s0 r t
  have hr : WpuCommons m r.1 := wpuCommons_fireChannels cs evfChannels (s := s0) h
  have ht : WpuCommons m t := wpuCommons_fireOutputs hr _ _
  exact R_foldl ht (fun _ _ hu => wpuCommons_activateTask hu _ _)

/-- Nothing that the causes waiting for EVF bring about writes WPU's common objects (R411, R412). -/
theorem wpuCommons_settle (h : WpuCommons m s) : WpuCommons m s.settle := by
  have all (fuel : Nat) : ∀ {t : State}, WpuCommons m t → WpuCommons m (t.settleFor fuel) := by
    induction fuel with
    | zero => exact fun ht => ht
    | succ fuel ih => exact fun ht => R_ite ht (ih (wpuCommons_fabricCycle ht))
  exact all 300 h

/-! ### The start of WPU -/

theorem wpuCommons_comparators (h : WpuCommons m s) : WpuCommons m s.comparators := by
  have each (n : Nat) {t : State} (ht : WpuCommons m t) : WpuCommons m (t.evalGcm n) := by
    unfold State.evalGcm
    extract_lets +onlyGivenNames -underBinder src thr old now
    exact R_ite ht (wpuCommons_reachFabric ht.wr.wr _)
  have all (ns : List Nat) : ∀ {t : State}, WpuCommons m t → WpuCommons m (t.evalGcms ns) := by
    induction ns with
    | nil => exact fun ht => ht
    | cons n ns ih => exact fun ht => ih (each n ht)
  exact all _ h

theorem wpuCommons_wpuStarts (h : WpuCommons m s) : WpuCommons m s.wpuStarts := by
  have speed {t : State} (ht : WpuCommons m t) : WpuCommons m t.speedUpdate := by
    unfold State.speedUpdate
    extract_lets +onlyGivenNames -underBinder buf
    refine R_ite ht.wr.wr.wr ?_
    exact (WpuCommons.wr (WpuCommons.wr (WpuCommons.wr ht)))
  have discarded := wpuCommons_discard h .wpu s.wpu.idleNet.natAbs
  exact wpuCommons_comparators (speed (t := { (s.discard .wpu s.wpu.idleNet.natAbs) with wpu := _ }) discarded)

end

end Sys2Proof.Settled
end

section
/-! Functions enter Running at their start points (O4). What a function does as it enters Running leaves the objects of its entry alone, and,
but for WPU, brings about no event of CLK_POS. -/

namespace Sys2Proof.Settled

open Sys2Proof Sys2Proof.Machine Sys2Proof.Laws

/-- What a function's start leaves alone: the first seven of its common objects, EVF's inbox, and BST's test and round. -/
structure StartKeeps (f : Fn) (s t : State) : Prop where
  common : ∀ {k : Nat}, k < 7 → t.rd (f.base + k) f.sub = s.rd (f.base + k) f.sub
  inbox : t.evf.inbox = s.evf.inbox
  test : t.bst.test = s.bst.test
  round : t.bst.round = s.bst.round

section
variable {f : Fn} {s t : State}

theorem StartKeeps.refl (f : Fn) (s : State) : StartKeeps f s s := ⟨fun _ => rfl, rfl, rfl, rfl⟩

theorem StartKeeps.of_regs (h : StartKeeps f s t) {u : State} (hregs : u.regs = t.regs := by rfl)
    (hinbox : u.evf.inbox = t.evf.inbox := by rfl) (htest : u.bst.test = t.bst.test := by rfl) (hround : u.bst.round = t.bst.round := by rfl) :
    StartKeeps f s u := by
  refine ⟨fun hk => ?_, hinbox.trans h.inbox, htest.trans h.test, hround.trans h.round⟩
  rw [← h.common hk]
  unfold State.rd
  rw [hregs]

/-- A write of an object behind the common objects of the function's block, at whatever subindex. -/
theorem StartKeeps.wr (h : StartKeeps f s t) {ix sub v : Nat} (hix : f.base + 7 ≤ ix := by exact Nat.le_of_ble_eq_true rfl) :
    StartKeeps f s (t.wr ix sub v) := by
  obtain ⟨common, inbox, test, round⟩ := h
  refine ⟨fun {k} hk => ?_, inbox, test, round⟩
  have hsub := fn_sub_lt f
  rw [rd_wr, if_neg (by unfold key; omega)]
  exact common hk

/-- A write of an object that is no common object of a function. -/
theorem StartKeeps.wr_of_block (h : StartKeeps f s t) {ix sub v : Nat} (hix : 7 ≤ ix % 0x400) (hsub : sub < 256) :
    StartKeeps f s (t.wr ix sub v) := by
  obtain ⟨common, inbox, test, round⟩ := h
  refine ⟨fun {k} hk => ?_, inbox, test, round⟩
  have hbase := fn_base_mod f
  rw [rd_wr_of_index t v (by omega) hsub (fn_sub_lt f)]
  exact common hk

theorem StartKeeps.cross (h : StartKeeps f s t) (code : Nat) (own : Option (Nat × Nat)) (arg : Nat) :
    StartKeeps f s (t.cross code own arg) := by
  unfold State.cross
  exact R_ite ((h.wr_of_block (by decide) (by decide)).wr_of_block (by decide) (by decide)) h.of_regs

end

/-! ### The starts of the functions -/

theorem startKeeps_pipeBegins (p : Fin 17) (s : State) (m : Fin 16) (line : Nat) : StartKeeps (.ipl p) s (s.pipeBegins m line) :=
  R_foldl (StartKeeps.refl _ _).of_regs (fun _ _ ht => ht.of_regs)

theorem startKeeps_braidSend {s t : State} (h : StartKeeps .stx s t) (role type : Nat) (msg : Octets) :
    StartKeeps .stx s (t.braidSend role type msg) := by
  have pumped (n : Fin 4) (fuel : Nat) : ∀ {u : State}, StartKeeps .stx s u → StartKeeps .stx s (u.pumpFlits n fuel) := by
    induction fuel with
    | zero => exact fun hu => hu
    | succ fuel ih =>
      intro u hu
      unfold State.pumpFlits
      extract_lets +onlyGivenNames -underBinder p
      split
      · exact hu
      · refine R_ite hu (ih ?_)
        exact (StartKeeps.wr (StartKeeps.of_regs hu)).wr
  exact R_foldl h (fun _ n hu => R_ite (pumped n _ hu.of_regs) hu)

theorem startKeeps_stxStarts (s : State) (line : Nat) : StartKeeps .stx s (s.stxStarts line) := by
  unfold State.stxStarts
  extract_lets +onlyGivenNames -underBinder ps src t cuts t1 t2
  have h1 : StartKeeps .stx s t1 := StartKeeps.wr (StartKeeps.refl _ _).of_regs
  have h2 : StartKeeps .stx s t2 := R_foldl h1 (fun _ _ hu => hu.wr)
  refine R_ite h2 ?_
  unfold State.sendRejoin
  split
  · exact R_ite (startKeeps_braidSend h2.of_regs _ _ _) h2
  · exact h2

theorem startKeeps_braidTrain (s : State) (n : Fin 4) (linkState : Nat) : StartKeeps (.brd n) s (s.braidTrain n linkState) := by
  unfold State.braidTrain
  exact R_ite (.refl _ _) (StartKeeps.wr (StartKeeps.refl _ _).of_regs)

theorem startKeeps_bind {s t : State} (h : StartKeeps .mre s t) (mark time start : Nat) (synth lost : Bool) :
    StartKeeps .mre s (t.bind mark time start synth lost) := by
  have paged (q : List MasterPage) {u : State} (hu : StartKeeps .mre s u) : StartKeeps .mre s (u.setPages q) := by
    unfold State.setPages
    extract_lets +onlyGivenNames -underBinder r low src s1
    have h1 : StartKeeps .mre s s1 := StartKeeps.wr (StartKeeps.wr hu.of_regs)
    exact R_ite (h1.wr.cross _ _ _) h1
  unfold State.bind
  extract_lets +onlyGivenNames -underBinder reason head number known pitch page s1 src1 src2 s2 s3
  have h1 : StartKeeps .mre s s1 := paged _ h.of_regs
  have h2 : StartKeeps .mre s s2 := h1.of_regs
  have h3 : StartKeeps .mre s s3 := R_ite h2.wr h2
  exact h3.wr.cross _ _ _

theorem startKeeps_mreStarts (s : State) (line : Nat) : StartKeeps .mre s (s.mreStarts line) := by
  have bound {t : State} (ht : StartKeeps .mre s t) (b : Nat) : StartKeeps .mre s (t.setBinder b) := ht.wr.wr.wr.wr
  unfold State.mreStarts
  extract_lets +onlyGivenNames -underBinder src s1
  have h1 : StartKeeps .mre s s1 := (StartKeeps.refl _ _).of_regs
  exact R_ite (startKeeps_bind (bound h1 _) _ _ _ _ _) (bound h1 _)

theorem startKeeps_segStarts (s : State) (line : Nat) : StartKeeps .seg s (s.segStarts line) := by
  have shown {t : State} (ht : StartKeeps .seg s t) : StartKeeps .seg s t.showContexts := by
    have peak : StartKeeps .seg s ((t.wr Ix.segOpenContexts 0 t.contexts).raiseTo Ix.segContextHighWater 0 t.contexts) := ht.wr.wr
    exact peak.of_regs
  unfold State.segStarts
  extract_lets +onlyGivenNames -underBinder t
  have ht : StartKeeps .seg s t := (StartKeeps.refl _ _).of_regs
  exact shown (StartKeeps.wr (StartKeeps.wr ht.of_regs))

theorem startKeeps_clsStarts (s : State) : StartKeeps .cls s s.clsStarts := StartKeeps.wr (StartKeeps.refl _ _).of_regs

theorem startKeeps_hrbStarts (s : State) (line : Nat) : StartKeeps .hrb s (s.hrbStarts line) := by
  have set {t : State} (ht : StartKeeps .hrb s t) (x : HrbState) : StartKeeps .hrb s (t.setHrb x) := StartKeeps.wr ht.of_regs
  have lost : StartKeeps .hrb s (s.exportsLost ExportItem.isLine) := by
    unfold State.exportsLost
    extract_lets +onlyGivenNames -underBinder n
    have counted (x : HrbState) : StartKeeps .hrb s (((s.setHrb x).bump Ix.hrbStripLinesLost 0 n).setBit Ix.hrbHistoryStatus 0 hsExportLost) :=
      (set (.refl _ _) x).wr.wr
    exact R_ite (.refl _ _) (counted _).of_regs
  exact (set lost _).wr

theorem startKeeps_fnpStarts (s : State) (n : Fin 2) : StartKeeps (.fnp n) s (s.fnpStarts n) := by
  unfold State.fnpStarts
  extract_lets +onlyGivenNames -underBinder src t
  have ht : StartKeeps (.fnp n) s t := (StartKeeps.refl _ _).of_regs
  exact R_ite ht ht.wr

theorem startKeeps_tbuStarts (s : State) : StartKeeps .tbu s s.tbuStarts := by
  have sent {t : State} (ht : StartKeeps .tbu s t) (n : Fin 2) (o : Output) : StartKeeps .tbu s (t.frameOut n o) :=
    R_ite (StartKeeps.wr ht.of_regs) ht
  have joined {t : State} (ht : StartKeeps .tbu s t) (n : Fin 2) : StartKeeps .tbu s (t.joinGroups n) := R_ite (sent (sent ht _ _) _ _) ht
  have begun {t : State} (ht : StartKeeps .tbu s t) (n : Fin 2) : StartKeeps .tbu s (t.ptpStarts n) := R_ite (joined ht.wr _) ht
  have armed {t : State} (ht : StartKeeps .tbu s t) (n : Fin 4) (a : Option ToutArm) : StartKeeps .tbu s (t.setArm n a) :=
    StartKeeps.wr ht.of_regs
  have passed {t : State} (ht : StartKeeps .tbu s t) (n : Fin 4) (a : ToutArm) : StartKeeps .tbu s (t.passEdges n a) := by
    unfold State.passEdges
    extract_lets +onlyGivenNames -underBinder s1 p k
    have h1 : StartKeeps .tbu s s1 := ht.wr
    exact R_ite (armed h1.wr _ _) (armed h1.wr _ _)
  unfold State.tbuStarts
  refine R_foldl (begun (begun (.refl _ _) _) _) (fun t n ht => ?_)
  split
  · exact R_ite (passed ht _ _) ht
  · exact ht

/-- The start of a function but WPU leaves its entry's objects, and nothing that would act beside it (R22, R23). -/
theorem startKeeps_starts {f : Fn} (hf : f ≠ .wpu) (s : State) (line : Nat) : StartKeeps f s (s.starts f line) := by
  cases f with
  | wpu => exact absurd rfl hf
  | cpt n => exact (StartKeeps.refl _ _).of_regs
  | ipl p => exact R_ite (startKeeps_pipeBegins p s _ line) (.refl _ _)
  | stx => exact startKeeps_stxStarts s line
  | brd n => exact startKeeps_braidTrain s n 1
  | mre => exact startKeeps_mreStarts s line
  | seg => exact startKeeps_segStarts s line
  | cls => exact startKeeps_clsStarts s
  | pfc => exact (StartKeeps.refl _ _).of_regs
  | hrb => exact startKeeps_hrbStarts s line
  | fnp n => exact startKeeps_fnpStarts s n
  | tbu => exact startKeeps_tbuStarts s
  | bst => exact (StartKeeps.refl _ _).of_regs
  | psc | evf | cde | cq | sq | xq | dma | pcie | dmc _ | cal | mon | pmc => exact .refl _ _

/-- WPU's start leaves BST as it was: it clears its speed and evaluates its comparators, which only raise events. -/
theorem wpuStarts_bst (s : State) : s.wpuStarts.bst = s.bst := by
  have speed (t : State) : t.speedUpdate.bst = t.bst := by
    unfold State.speedUpdate
    extract_lets +onlyGivenNames -underBinder buf
    split <;> rfl
  have raised (t : State) (c : Cause) : (t.reachFabric c).bst = t.bst := by
    unfold State.reachFabric
    split <;> rfl
  have each (t : State) (n : Nat) : (t.evalGcm n).bst = t.bst := by
    unfold State.evalGcm
    extract_lets +onlyGivenNames -underBinder src thr old now
    split
    · rfl
    · exact raised _ _
  have all (ns : List Nat) : ∀ t : State, (t.evalGcms ns).bst = t.bst := by
    induction ns with
    | nil => exact fun _ => rfl
    | cons n ns ih => exact fun t => (ih _).trans (each t n)
  exact (all _ _).trans (speed _)

/-! ### The start point -/

theorem startsAtStrip_iff (f : Fn) : startsAtStrip f = true ↔
    ((∃ n, f = .cpt n) ∨ (∃ n, f = .ipl n) ∨ f ∈ [Fn.stx, .mre, .seg, .cls, .pfc, .hrb]) := by
  cases f <;> simp [startsAtStrip]

/-- After the entry to Running, neither the function's start nor what it brings about writes the entry's objects. -/
theorem start_keeps_entry {v : State} {f : Fn} (line : Nat) (hinbox : v.evf.inbox = []) (htest : v.bst.test = none)
    (hround : v.bst.round = false) {k : Nat} (hk : k < 7) :
    ((v.starts f line).bstStep.settle).rd (f.base + k) f.sub = v.rd (f.base + k) f.sub := by
  by_cases hf : f = .wpu
  · subst hf
    have hbst : (v.starts .wpu line).bst = v.bst := wpuStarts_bst v
    rw [bstStep_of_rest (by rw [hbst]; exact htest) (by rw [hbst]; exact hround)]
    have here : WpuCommons (fun j => v.rd (0x2000 + j.val) 0) v := fun _ => rfl
    exact wpuCommons_settle (wpuCommons_wpuStarts here) ⟨k, hk⟩
  · obtain ⟨common, inbox, test, round⟩ := startKeeps_starts hf v line
    rw [bstStep_of_rest (test.trans htest) (round.trans hround), settle_of_empty (inbox.trans hinbox)]
    exact common hk

/-- Where an entry's objects are kept, the state shows the entry. -/
theorem Entered.shown {u v t : State} {f : Fn} {st : FnState} (entered : Entered u v f st)
    (kept : ∀ {k : Nat}, k < 7 → t.rd (f.base + k) f.sub = v.rd (f.base + k) f.sub) :
    t.fn f = st ∧ t.rd (f.base + 4) f.sub = u.rd (f.base + 4) f.sub ∧ t.rd (f.base + 5) f.sub = u.entryLp f % 2 ^ 64 ∧
      t.rd (f.base + 6) f.sub = u.stamp % 2 ^ 64 := by
  refine ⟨?_, ?_, ?_, ?_⟩
  · rw [← entered.state]
    exact congrArg FnState.ofCode (kept (k := 0) (by decide))
  · rw [kept (by decide), entered.rest _ _ (key_ne_of_index (by omega)) (key_ne_of_index (by omega)) (key_ne_of_index (by omega))]
  · rw [kept (by decide), entered.lp]
  · rw [kept (by decide), entered.time]

/-- Settles O4: an Armed function with START pending enters Running at its start point, and waits in Armed away from it. -/
theorem startPointsReached : Obligations.StartPointsReached := by
  unfold Obligations.StartPointsReached
  intro s f line hon hrest hfn hpending
  obtain ⟨hinbox, htest, hround⟩ := hrest
  dsimp only
  rw [← startsAtStrip_iff f]
  have hexec : exec (.startPointReached f line) s = .next (s.startPoint f line).settle :=
    congrArg Host.Outcome.next (if_pos hon)
  constructor
  · rintro ⟨himage, hline⟩
    have waits : s.startPoint f line = s := by
      unfold State.startPoint
      have hline' : ¬ line % s.strip = 0 := hline
      rw [if_neg (by simp [himage, hline'])]
    rw [hexec, waits, settle_of_empty hinbox]
  · intro hstart
    have hstart' : startsAtStrip f = false ∨ line % s.strip = 0 := hstart.imp_left (by simp)
    have runs : s.startPoint f line = (((s.clearBit (f.base + 4) f.sub flagStartPending).enter f .running).starts f line).bstStep := by
      unfold State.startPoint
      rw [if_pos (by simpa [hfn, hpending] using hstart')]
    have entered : Entered _ ((s.clearBit (f.base + 4) f.sub flagStartPending).enter f .running) f .running := entered_enter (fun _ => rfl)
    obtain ⟨state, flags, lp, time⟩ := entered.shown (start_keeps_entry line (by rw [entered.frame]; exact hinbox)
      (by rw [entered.frame]; exact htest) (by rw [entered.frame]; exact hround))
    rw [hexec, runs]
    refine ⟨_, rfl, state, ?_, ?_, ?_⟩
    · unfold State.bit
      rw [flags]
      exact bit_clearBit _ _ _ _
    · rw [lp, clearFlag_entryLp]
    · rw [time, clearFlag_stamp]

end Sys2Proof.Settled
end

section
/-! A step performs the front of the queue (O1); and the states that refute four statements: a drain's end (O5), a cut-off (O6), an engine's
memory error (O7), a marker's count (O18). -/

namespace Sys2Proof.Settled

open Sys2Proof Sys2Proof.Machine

/-- Settles O1: `step` is `exec` of the front command by its definition. -/
theorem stepRunsFront : Obligations.StepRunsFront := by
  intro s c rest h
  unfold step
  rw [h]

/-! ### Refutations -/

/-- Whether an outcome is a next state in which `p` answers true. -/
def nextPasses (o : Host.Outcome State Fault Refusal) (p : State → Bool) : Bool :=
  match o with
  | .next t => p t
  | _ => false

theorem nextPasses_next (t : State) (p : State → Bool) : nextPasses (.next t) p = p t := rfl

/-- The device in Run, its host's link up. -/
def runDevice : State :=
  { State.reset.wr Ix.sysPowerState 0 3 with pcie := { linkUp := true, busMaster := true, setup := hostDefaults } }

/-- A blob that closed on the last line of strip 0. -/
def lastLineBlob : Blob :=
  { id := 0, firstCol := 0, seg := 0, runs := []
    m := { line0 := 4095, lp0 := 0, time0 := 0, page := 0, line1 := 4095, lp1 := 0, colMin := 0, colMax := 0 } }

/-- SEG drains with strip 0 behind it, and one blob still waits for a neighbour that the device does not have. -/
def segWithWaitingBlob : State :=
  { runDevice.wr Fn.seg.base Fn.seg.sub 3 with
    seg := { labelled := some (4095, 0), stopStrip := some 0, next := some 4096, waits := [{ blob := lastLineBlob, since := 4095 }] } }

theorem segWithWaitingBlob_drains : segWithWaitingBlob.on = true ∧ segWithWaitingBlob.AtRest ∧ segWithWaitingBlob.fn .seg = .draining ∧
    Fn.seg ∉ segWithWaitingBlob.cut ∧ segWithWaitingBlob.drained .seg = false := by
  and_intros <;> decide +kernel

/-- Before it tests whether the drain is over, the drain's end releases the blobs that wait for a join. -/
theorem segWithWaitingBlob_released :
    nextPasses (exec (.drainComplete .seg) segWithWaitingBlob) (fun t => t.seg.waits.isEmpty) = true := by decide +kernel

/-- Refutes O5 in its third clause, for SEG: while SEG's drain is not over, `drainComplete` still closes the joins of its last line, so the
blob that `segWithWaitingBlob` keeps waiting is released and the state changes. -/
theorem not_functionsDrain : ¬ Obligations.FunctionsDrain := by
  unfold Obligations.FunctionsDrain
  rintro ⟨-, -, unchanged, -⟩
  obtain ⟨hon, hrest, hfn, hcut, hdrained⟩ := segWithWaitingBlob_drains
  have released := segWithWaitingBlob_released
  rw [unchanged segWithWaitingBlob .seg hon hrest hfn hcut hdrained, nextPasses_next] at released
  exact absurd released (by decide)

/-- A session of mailbox 0 at level 3. -/
def configSession : Session where
  id := 64
  path := .mailbox 0
  level := 3
  secure := true
  provisioned := false
  timeoutMs := 10000
  opened := 0
  lastNs := 0
  lastSeq := 5
  stored := none
  transfer := none
  cursor := 0
  challenge := none
  anchorMax := 3

/-- The session's next request. -/
def configRequest : Req := { path := .mailbox 0, session := 64, seq := 6 }

/-- A black level of an instance so far outside its range that its key is that of CAL's Function state, with the code of Running as its value. -/
def strayBlackLevel : CalWrite :=
  { code := 1, inst := key (Fn.base .cal) (Fn.sub .cal) - key Ix.iplBlackLevelChannel0 1, source := 3, data := [2, 0, 0, 0, 0, 0] }

/-- CAL runs an import while the stray image write waits. -/
def calWithStrayWrite : State :=
  { runDevice.wr Fn.cal.base Fn.cal.sub 2 with
    sessions := [configSession]
    cal := { imp := some { slot := 1, status1 := 0, status2 := 0, applied := 0, skipped := 0, seq := 0 }, image := [strayBlackLevel] } }

theorem calWithStrayWrite_grants_abort : calWithStrayWrite.AtRest ∧
    calWithStrayWrite.Grants configRequest configSession (Fn.cal.base + 1) Fn.cal.sub (pathNum configRequest.path 1 4) ∧
    calWithStrayWrite.fn .cal = .running := by
  and_intros <;> decide +kernel

/-- Cut off, CAL drops its import and first performs the image writes of other sources: the stray one writes Function state. -/
theorem calWithStrayWrite_runs_on :
    nextPasses (exec (.abort configRequest ⟨.cal, false⟩) calWithStrayWrite) (fun t => t.fn .cal == .running) = true := by decide +kernel

/-- Refutes O6 for ABORT of CAL. Nothing in the statement bounds the instance of a waiting image write, and one that lands on CAL's own
Function state leaves CAL Running. No run of the device reaches the state `calWithStrayWrite`; the statement does not exclude it. -/
theorem not_imageFunctionsCut : ¬ Obligations.ImageFunctionsCut := by
  unfold Obligations.ImageFunctionsCut
  intro h
  obtain ⟨hrest, hgrants, hfn⟩ := calWithStrayWrite_grants_abort
  obtain ⟨t, ht, -, hdraining, -⟩ := (h .cal (.inl (by decide))).1 calWithStrayWrite configRequest configSession hrest hgrants (.inl hfn)
  have running := calWithStrayWrite_runs_on
  rw [ht, nextPasses_next, hdraining] at running
  exact absurd running (by decide)

/-- Spare engine 0 serves segment 0 itself while the spare's own state still shows that it shadows, with take-over on a fault. -/
def shadowingSpareServes : State :=
  (((runDevice.wr Ix.segEngineState 33 1).wr Ix.segLogicalSegment 33 0).wr Ix.segSpareState 1 2).wr Ix.segSpareTarget 1 0
    |>.wr Ix.segFaultTakeOver 0 1

theorem shadowingSpareServes_still : shadowingSpareServes.on = true ∧ shadowingSpareServes.EvfStill ∧ shadowingSpareServes.bst.test = none ∧
    shadowingSpareServes.bst.round = false ∧ shadowingSpareServes.runs .bst = false ∧ shadowingSpareServes.rd Ix.segEngineState 33 ≠ 4 := by
  and_intros <;> decide +kernel

/-- The spare takes over from its own engine, which therefore serves again. -/
theorem shadowingSpareServes_takes_over :
    nextPasses (exec (.uncorrectableError (.segEngine 32) 0) shadowingSpareServes) (fun t => t.rd Ix.segEngineState 33 == 1) = true := by
  decide +kernel

/-- Refutes O7 in its third clause: the engine that faults may be the spare's own. In `shadowingSpareServes` the fault of engine 33 makes the
spare that shadows its segment take over, and the take-over writes that same engine's state back to serving. -/
theorem not_memoryErrorsReported : ¬ Obligations.MemoryErrorsReported := by
  unfold Obligations.MemoryErrorsReported
  rintro ⟨-, -, engineFaulted, -⟩
  obtain ⟨hon, hstill, htest, hround, hbst, hstate⟩ := shadowingSpareServes_still
  obtain ⟨t, ht, hfaulted⟩ := engineFaulted shadowingSpareServes 32 0 hon hstill htest hround hbst hstate
  have serving := shadowingSpareServes_takes_over
  rw [ht, nextPasses_next, show t.rd Ix.segEngineState 33 = 4 from hfaulted] at serving
  exact absurd serving (by decide)

/-- A marker for line 100 of port 0. -/
def marker100 : LineTag :=
  { line := 100, lp := 100 * 65536, time := 0, triggerToLine := 0, port := 0, reason := 1, frameStart := false, frameEnd := false, format := 0,
    width := 0, frames := 0 }

/-- Pipeline 0 runs again after the spare has served lines 0 to 4095 for it, and a camera's marker of one of those lines still waits. -/
def handedBackPipeline : State :=
  { runDevice.wr (iplFn 0).base (iplFn 0).sub 2 with
    iplIn := (Vector.replicate 16 []).set 0 [.marker marker100]
    ipl := (Vector.replicate 32 {}).set 0 { last := some 99, next := some 100 }
    pipes := (Vector.replicate 16 {}).set 0 { seen := some 4096, served := some (0, 4096) } }

/-- The spare's instance, not the pipeline's, counts the marker. -/
theorem handedBackPipeline_counts_nothing :
    nextPasses (exec (.iplInput 0 false) handedBackPipeline) (fun t => t.rd Ix.iplMarkersPassed 1 == 0) = true := by decide +kernel

/-- Refutes O18 in its fourth clause: an idle spare may have served the line. In `handedBackPipeline` the marker lies before the hand-back
line, so the spare's count of passed markers moves and the pipeline's own stays 0. -/
theorem not_linesPassPipelines : ¬ Obligations.LinesPassPipelines := by
  unfold Obligations.LinesPassPipelines
  rintro ⟨-, -, -, markerPasses, -⟩
  obtain ⟨t, ht, -, -, hcount, -⟩ := markerPasses handedBackPipeline 0 0 false marker100 [] 99 (by decide +kernel) (by and_intros <;> decide +kernel)
    (by decide +kernel) rfl (by decide +kernel) (by decide +kernel) rfl (by decide) (by decide) (by decide +kernel) (by decide +kernel)
    (by decide +kernel) (by decide +kernel) (by decide +kernel) (by decide +kernel) (by decide +kernel) (by decide +kernel)
    (by decide +kernel) (by decide +kernel)
  have uncounted := handedBackPipeline_counts_nothing
  rw [ht, nextPasses_next, show t.rd Ix.iplMarkersPassed 1 = _ from hcount] at uncounted
  exact absurd uncounted (by decide +kernel)

end Sys2Proof.Settled
end

section
/-! The position scheduler (O13): its requests, its cancels, the ends of its pulses and the forces of its pins (R67 to R77). -/

namespace Sys2Proof.Settled

open Sys2Proof Sys2Proof.Machine Sys2Proof.Laws

/-! ### Answered writes -/

/-- No frame counter of a path is an object of the blocks from WPU's up to the field ports' (R424). -/
theorem block_uncounted (p : Path) {ix sub : Nat} (h : 0x2000 ≤ ix ∧ ix < 0x6000 ∧ sub < 256) : key ix sub ∉ pathCounters p := by
  cases p with
  | mailbox _ =>
    simp only [pathCounters, List.mem_singleton, key, Ix.sesFramesReceived]
    omega
  | net port _ _ _ =>
    simp only [pathCounters, List.mem_cons, List.not_mem_nil, or_false, not_or, key, Ix.sesFramesReceived, Ix.netFramesReceived, Ix.netFramesSent]
    omega

theorem powerState_uncounted (p : Path) : key Ix.sysPowerState 0 ∉ pathCounters p := by
  cases p with
  | mailbox _ => simp only [pathCounters]; decide
  | net port _ _ _ => simp only [pathCounters]; revert port; decide

/-- A granted write of a number that acts and resets nothing is answered. -/
theorem writeNumber_answered {s u : State} {r : Req} {x : Session} {ix sub n v : Nat} {row : ObjRow}
    (hgrants : s.Grants r x ix sub (pathNum r.path n v)) (hrow : rowOf ix sub = some row) (hty : row.ty.isOctets = false)
    (hn : row.ty.bytes = n) (hv : v < 256 ^ n)
    (heffect : (s.takeFree.asked r x).writeEffect
      { session := x.asking r s.ns, around := s.surround, row := row, ix := ix, sub := sub, v := v, bs := [] } = (u, .ok))
    (hpower : u.power = s.power) : Answered s u (s.writeNumber r ix sub n v) r := by
  unfold State.writeNumber State.writeFree
  rw [writeNumber_granted s.surround hgrants hrow hty hn hv heffect]
  exact answered_respond s u r (by rw [hpower]; exact hgrants.2.2)

/-- A granted write of octets that acts and resets nothing is answered. -/
theorem writeOctets_answered {s u : State} {r : Req} {x : Session} {ix sub : Nat} {value : Octets} {row : ObjRow}
    (hgrants : s.Grants r x ix sub value) (hrow : rowOf ix sub = some row) (hty : row.ty.isOctets = true)
    (heffect : (s.takeFree.asked r x).writeEffect
      { session := x.asking r s.ns, around := s.surround, row := row, ix := ix, sub := sub, v := 0, bs := value } = (u, .ok))
    (hpower : u.power = s.power) : Answered s u (s.writeFree r ix sub value) r := by
  unfold State.writeFree
  rw [writeOctets_granted s.surround hgrants hrow hty heffect]
  exact answered_respond s u r (by rw [hpower]; exact hgrants.2.2)

/-- A write of an object of PSC's own goes to the scheduler's block (R82). -/
theorem writeEffect_scheduler (s : State) {w : WriteCall} {ix : Nat} (hix : w.ix = ix) (h : ix / 0x400 = 9 ∧ 8 ≤ ix % 0x400) :
    s.writeEffect w = s.writePsc w := by
  subst hix
  exact writeEffect_psc s h.1 (Nat.not_lt.mpr h.2)

theorem answered_psc {s u t : State} {r : Req} (h : Answered s u t r) : t.psc = u.psc := by
  rw [h.same]

/-- An answered write whose effect puts nothing out is answered with success. -/
theorem answered_ok {s u t : State} {r : Req} (h : Answered s u t r) (hout : u.out = s.out) : s.Answers t r 0x11 .ok [] :=
  h.answers ⟨[], by rw [hout, List.append_nil]⟩

/-! ### Events while EVF stands still -/

/-- An event that finds EVF not Running is counted as discarded (R419). -/
theorem eventHere_still {s : State} (h : s.fabricRuns = false) (code arg : Nat) : s.eventHere code arg = s.bump 0x2807 0 1 := by
  unfold State.eventHere State.event State.reachFabric
  rw [h, if_neg Bool.false_ne_true]

/-! ### Requests -/

theorem bitsAt_schedulerStatus : bitsAt (key Ix.pscSchedulerStatus 0) = 32 := rfl

/-- The number of an action word for an output is an output's (R68, R69). -/
theorem actNumber_le {action : Nat} (hok : actionOk action = true) (hkind : actKind action ≠ kindChannel) : actNumber action ≤ 47 := by
  simp only [actionOk, Bool.and_eq_true, Bool.or_eq_true, decide_eq_true_eq] at hok
  obtain ⟨⟨-, hnumber⟩, -⟩ := hok
  exact hnumber.resolve_left hkind

/-- The effective target of an output's action takes the Lead off the requested target (R67). -/
theorem effectiveTarget_output (s : State) {requested action : Nat} (hkind : actKind action ≠ kindChannel) (hrequested : requested < 2 ^ 64) :
    s.effectiveTarget requested action = requested - s.rd Ix.pscLead (actNumber action + 1) := by
  unfold State.effectiveTarget
  rw [Nat.min_eq_left (by omega)]
  exact if_neg hkind

/-- The entry that a request for an output is stored as: the lowest free slot, and the target with the Lead taken off (R67). -/
def requestEntry (s : State) (requested action tag : Nat) : PscEntry :=
  { slot := freeSlot s.psc.entries 0, target := requested - s.rd Ix.pscLead (actNumber action + 1), action := action, tag := tag }

/-- What a late request brings beside its own fate: it is counted and shown, and PSC_LATE goes to EVF (R70). -/
def lateNoted (s : State) (tag : Nat) : State :=
  ((s.bump Ix.pscLateCount 0 1).setBit Ix.pscSchedulerStatus 0 0).eventHere (eventCode 7 0 1) tag

/-- A request for an output that finds PSC Running and a slot free is decided by whether it is late (R69, R70). -/
theorem pscRequest_admitted {s : State} {requested action : Nat} (tag : Nat) (barred : Bool) (hrun : s.runs .psc = true)
    (hok : actionOk action = true) (hkind : actKind action ≠ kindChannel) (hroom : s.psc.entries.length < 512) (hrequested : requested < 2 ^ 64) :
    s.pscRequest requested action tag barred =
      if targetMet s.lp (requestEntry s requested action tag).target action then
        if actLateFire action then
          (((lateNoted s tag).fireEntries [requestEntry s requested action tag]).fireOutputs []
            ((lateNoted s tag).entryFirings [requestEntry s requested action tag]), .ok)
        else ((lateNoted s tag).pscReport 1 (requestEntry s requested action tag).target action tag, .ok)
      else ({ s with psc := { s.psc with entries := insertEntry (requestEntry s requested action tag) s.psc.entries } }, .ok) := by
  unfold State.pscRequest
  rw [if_neg (by simp [hkind]), if_neg (by simp [hrun]), if_neg (by simp [hok]), if_neg (by omega), effectiveTarget_output s hkind hrequested]
  rfl

theorem pscReport_unrecorded (s : State) {action : Nat} (h : actRecord action = false) (outcome target tag : Nat) :
    s.pscReport outcome target action tag = s := by
  unfold State.pscReport
  rw [h, if_neg Bool.false_ne_true]

/-- The octets of a Schedule request (R68). -/
abbrev scheduleOctets (target : BitVec 64) (action tag : BitVec 32) : Octets :=
  leBytes 8 target.toNat ++ leBytes 4 action.toNat ++ leBytes 4 tag.toNat

/-- The fields of a Schedule request, read back from its octets (R68). -/
theorem scheduleRequest_fields (target : BitVec 64) (action tag : BitVec 32) :
    leAt (scheduleOctets target action tag) 0 8 = target.toNat ∧
    leAt (scheduleOctets target action tag) 8 4 = action.toNat ∧
    leAt (scheduleOctets target action tag) 12 4 = tag.toNat := by
  have htarget := Nat.mod_eq_of_lt target.isLt
  have haction := Nat.mod_eq_of_lt action.isLt
  have htag := Nat.mod_eq_of_lt tag.isLt
  unfold leAt
  refine ⟨?_, ?_, ?_⟩
  · simpa [ofLe_leBytes, List.take_append] using htarget
  · simpa [ofLe_leBytes, List.take_append, List.drop_append] using haction
  · simpa [ofLe_leBytes, List.take_append, List.drop_append, List.drop_eq_nil_of_le, List.take_of_length_le] using htag

/-- A write of Schedule request makes the request that its octets spell, for an output (R68). -/
theorem writeEffect_schedule (s : State) (x : Session) (around : Surround) (row : ObjRow) (v : Nat) (target : BitVec 64)
    (action tag : BitVec 32) (hkind : actKind action.toNat ≠ kindChannel) :
    s.writeEffect { session := x, around := around, row := row, ix := Ix.pscScheduleRequest, sub := 0, v := v,
                    bs := scheduleOctets target action tag } =
      ((s.pscRequest target.toNat action.toNat tag.toNat false).1.settle, (s.pscRequest target.toNat action.toNat tag.toNat false).2) := by
  obtain ⟨htarget, haction, htag⟩ := scheduleRequest_fields target action tag
  have hopen : s.actionBarred x action.toNat = false := by
    unfold State.actionBarred
    rw [beq_eq_false_iff_ne.mpr hkind, Bool.false_and]
  rw [writeEffect_scheduler s (ix := Ix.pscScheduleRequest) rfl (by decide)]
  unfold State.writePsc
  dsimp only
  rw [if_pos rfl, htarget, haction, htag, hopen]

/-- What a request finds of the scheduler's objects is as it was before its frame came. -/
theorem requestEntry_asked (s : State) (r : Req) (x : Session) {action : Nat} (hok : actionOk action = true)
    (hkind : actKind action ≠ kindChannel) (requested tag : Nat) :
    requestEntry (s.takeFree.asked r x) requested action tag = requestEntry s requested action tag := by
  have hnumber := actNumber_le hok hkind
  unfold requestEntry
  rw [asked_psc, asked_rd s r x (block_uncounted r.path ⟨by decide, by decide, by omega⟩)]

theorem asked_lp (s : State) (r : Req) (x : Session) : (s.takeFree.asked r x).lp = s.rd Ix.wpuLP 0 :=
  asked_rd s r x (block_uncounted r.path (by decide))

theorem asked_runs (s : State) (r : Req) (x : Session) (f : Fn) : (s.takeFree.asked r x).runs f = s.runs f := by
  unfold State.runs
  rw [asked_rd s r x (state_uncounted f r.path)]

theorem asked_fabricRuns (s : State) (r : Req) (x : Session) : (s.takeFree.asked r x).fabricRuns = s.fabricRuns := by
  unfold State.fabricRuns
  rw [asked_rd s r x (block_uncounted r.path (by decide))]

/-- While EVF stands still, a late request writes three objects only (R70, R419). -/
theorem lateNoted_still {s : State} (h : s.fabricRuns = false) (tag : Nat) :
    lateNoted s tag = ((s.bump Ix.pscLateCount 0 1).setBit Ix.pscSchedulerStatus 0 0).bump 0x2807 0 1 := by
  apply eventHere_still
  unfold State.fabricRuns at h ⊢
  rw [rd_setBit, if_neg (by decide), rd_bump, if_neg (by decide)]
  exact h

section
variable {s : State} {r : Req} {x : Session} {target : BitVec 64} {action tag : BitVec 32}
  (hgrants : s.Grants r x Ix.pscScheduleRequest 0 (scheduleOctets target action tag)) (hkind : actKind action.toNat ≠ kindChannel)
include hgrants hkind

/-- A Schedule request for an output that is accepted and leaves no cause waiting for EVF is answered (R68, R69). -/
theorem scheduleRequest_answered {u : State}
    (hrequest : (s.takeFree.asked r x).pscRequest target.toNat action.toNat tag.toNat false = (u, .ok))
    (hinbox : u.evf.inbox = []) (hpower : u.power = s.power) :
    ∃ t, exec (.scheduleRequest r target action tag) s = .next t ∧ Answered s u t r := by
  have hrow : rowOf Ix.pscScheduleRequest 0 = some ⟨0x2411, 0x2411, 0, 0, .oct, .wo, 1, 0, .len 16 16⟩ := rfl
  refine ⟨_, rfl, writeOctets_answered hgrants hrow rfl ?_ hpower⟩
  rw [writeEffect_schedule _ _ _ _ _ _ _ _ hkind, hrequest]
  dsimp only
  rw [settle_of_empty hinbox]

variable (hstill : s.EvfStill) (hrun : s.runs .psc = true) (hok : actionOk action.toNat = true) (hroom : s.psc.entries.length < 512)
include hstill hrun hok hroom

/-- A request that is not late is stored (R70). -/
theorem scheduleRequest_stored
    (hearly : targetMet (s.rd Ix.wpuLP 0) (requestEntry s target.toNat action.toNat tag.toNat).target action.toNat = false) :
    ∃ t, exec (.scheduleRequest r target action tag) s = .next t ∧ s.Answers t r 0x11 .ok [] ∧
      t.psc.entries = insertEntry (requestEntry s target.toNat action.toNat tag.toNat) s.psc.entries ∧ t.psc.outs = s.psc.outs ∧
      t.rd Ix.pscLateCount 0 = s.rd Ix.pscLateCount 0 := by
  have hrequest := pscRequest_admitted (s := s.takeFree.asked r x) tag.toNat false (by rw [asked_runs]; exact hrun) hok hkind
    (by rw [asked_psc]; exact hroom) target.isLt
  rw [requestEntry_asked s r x hok hkind, asked_lp, hearly, if_neg Bool.false_ne_true, asked_psc] at hrequest
  obtain ⟨t, hexec, answered⟩ := scheduleRequest_answered hgrants hkind hrequest (by rw [asked_evf]; exact hstill.2) (asked_power s r x)
  have hpsc := answered_psc answered
  refine ⟨t, hexec, answered_ok answered (asked_out s r x), by rw [hpsc], by rw [hpsc], ?_⟩
  rw [answered.counted _ _ (block_uncounted r.path (by decide))]
  exact asked_rd s r x (block_uncounted r.path (by decide))

/-- A late request that asks neither to fire nor for a record is counted and dropped (R70). -/
theorem scheduleRequest_dropped
    (hlate : targetMet (s.rd Ix.wpuLP 0) (requestEntry s target.toNat action.toNat tag.toNat).target action.toNat = true)
    (hdrop : actLateFire action.toNat = false) (hrecord : actRecord action.toNat = false) :
    ∃ t, exec (.scheduleRequest r target action tag) s = .next t ∧ s.Answers t r 0x11 .ok [] ∧ t.psc = s.psc ∧
      t.rd Ix.pscLateCount 0 = (s.rd Ix.pscLateCount 0 + 1) % 2 ^ 64 ∧ t.bit Ix.pscSchedulerStatus 0 0 = true := by
  have hcount : bitsAt (key Ix.pscLateCount 0) = 64 := rfl
  have hrequest := pscRequest_admitted (s := s.takeFree.asked r x) tag.toNat false (by rw [asked_runs]; exact hrun) hok hkind
    (by rw [asked_psc]; exact hroom) target.isLt
  rw [requestEntry_asked s r x hok hkind, asked_lp, hlate, if_pos rfl, hdrop, if_neg Bool.false_ne_true, pscReport_unrecorded _ hrecord,
    lateNoted_still (by rw [asked_fabricRuns]; exact hstill.1)] at hrequest
  obtain ⟨t, hexec, answered⟩ := scheduleRequest_answered hgrants hkind hrequest
    (by rw [bump_evf, setBit_evf, bump_evf, asked_evf]; exact hstill.2) (asked_power s r x)
  refine ⟨t, hexec, answered_ok answered (asked_out s r x), (answered_psc answered).trans (asked_psc s r x), ?_, ?_⟩
  · rw [answered.counted _ _ (block_uncounted r.path (by decide)), rd_bump, if_neg (by decide), rd_setBit, if_neg (by decide), rd_bump,
      if_pos rfl, hcount, asked_rd s r x (block_uncounted r.path (by decide))]
  · have hset : (((s.takeFree.asked r x).bump Ix.pscLateCount 0 1).setBit Ix.pscSchedulerStatus 0 0).bit Ix.pscSchedulerStatus 0 0 = true :=
      bit_setBit (by rw [bitsAt_schedulerStatus]; decide)
    unfold State.bit at hset ⊢
    rw [answered.counted _ _ (block_uncounted r.path (by decide)), rd_bump, if_neg (by decide)]
    exact hset

end

/-! ### Cancels -/

/-- What a cancel leaves of the entry table: every entry with another tag (R72). -/
theorem cancelTag_entries (s : State) (tag : Nat) : (s.cancelTag tag).psc.entries = s.psc.entries.filter (fun e => e.tag != tag) := by
  unfold State.cancelTag
  dsimp only
  split
  next hnone =>
    have hother : ∀ e ∈ s.psc.entries, (e.tag != tag) = true := by
      simpa [List.countP_eq_zero] using hnone
    exact (List.filter_eq_self.mpr hother).symm
  next => rfl

/-- What a cancel adds to Cancel count: the entries with the tag (R72). -/
theorem cancelTag_count (s : State) (tag : Nat) :
    (s.cancelTag tag).rd Ix.pscCancelCount 0 % 2 ^ 64 =
      (s.rd Ix.pscCancelCount 0 + s.psc.entries.countP (fun e => e.tag == tag)) % 2 ^ 64 := by
  have hcount : bitsAt (key Ix.pscCancelCount 0) = 64 := rfl
  unfold State.cancelTag
  dsimp only
  split
  next hnone => rw [hnone, rd_setBit, if_neg (by decide), Nat.add_zero]
  next =>
    rw [rd_bump, if_pos rfl, hcount, Nat.mod_mod]
    rfl

/-- A cancel changes the scheduler's entries and numbers only. -/
theorem cancelTag_same (s : State) (tag : Nat) :
    s.cancelTag tag = { s with regs := (s.cancelTag tag).regs, psc := { s.psc with entries := (s.cancelTag tag).psc.entries } } := by
  unfold State.cancelTag
  dsimp only
  split <;> rfl

/-- Cancel tag takes the tag's entries out and counts them (R72). -/
theorem cancelTag_acts {s : State} {r : Req} {x : Session} {tag : BitVec 32}
    (hgrants : s.Grants r x Ix.pscCancelTag 0 (pathNum r.path 4 tag.toNat)) :
    ∃ t, exec (.cancelTag r tag) s = .next t ∧ s.Answers t r 0x11 .ok [] ∧
      t.psc.entries = s.psc.entries.filter (fun e => e.tag != tag.toNat) ∧ t.psc.outs = s.psc.outs ∧
      t.rd Ix.pscCancelCount 0 % 2 ^ 64 = (s.rd Ix.pscCancelCount 0 + s.psc.entries.countP (fun e => e.tag == tag.toNat)) % 2 ^ 64 := by
  have hrow : rowOf Ix.pscCancelTag 0 = some ⟨0x2412, 0x2412, 0, 0, .u32, .wo, 1, 0, .any⟩ := rfl
  have same := cancelTag_same (s.takeFree.asked r x) tag.toNat
  have answered : Answered s ((s.takeFree.asked r x).cancelTag tag.toNat) (s.writeNumber r Ix.pscCancelTag 0 4 tag.toNat) r :=
    writeNumber_answered hgrants hrow rfl rfl tag.isLt (writeEffect_scheduler _ (ix := Ix.pscCancelTag) rfl (by decide))
      (by rw [same]; exact asked_power s r x)
  refine ⟨_, rfl, answered_ok answered (by rw [same]; exact asked_out s r x), ?_, ?_, ?_⟩
  · rw [answered_psc answered, cancelTag_entries, asked_psc]
  · rw [answered_psc answered, same, asked_psc]
  · rw [answered.counted _ _ (block_uncounted r.path (by decide)), cancelTag_count, asked_psc, asked_rd s r x (block_uncounted r.path (by decide))]

/-! ### The output stages -/

section
variable (s : State) (n : Fin 48) (o : OutStage)

theorem outStage_fin : s.outStage n.val = s.psc.outs[n] := by
  unfold State.outStage
  simp

/-- An output's stage replaced: the scheduler's outputs only change. -/
theorem setOut_fin : s.setOut n.val o = { s with psc := { s.psc with outs := s.psc.outs.set n.val o n.isLt } } := by
  unfold State.setOut
  rw [dif_pos n.isLt]

theorem setOut_outs_same : (s.setOut n.val o).psc.outs[n] = o := by
  rw [setOut_fin]
  simp

theorem setOut_outs_ne {m : Fin 48} (h : m ≠ n) : (s.setOut n.val o).psc.outs[m] = s.psc.outs[m] := by
  have hval : n.val ≠ m.val := fun e => h (Fin.ext e.symm)
  rw [setOut_fin]
  simp [hval]

end

/-- A time-mode pulse that has lasted its width ends (R74). -/
theorem exec_pulseWidthEnd {s : State} {n : Fin 48} {p : Pulse} (hclocked : s.clocked = true) (hpulse : (s.psc.outs[n]).pulse = some p)
    (htime : p.inLp = false) : exec (.pulseWidthEnd n) s = .next (s.setOut n.val { active := false, pulse := none }) := by
  have hends : s.pulseWidthEnd n.val = s.setOut n.val { active := false, pulse := none } := by
    unfold State.pulseWidthEnd
    rw [outStage_fin, hpulse]
    dsimp only
    rw [htime, if_neg Bool.false_ne_true]
    rfl
  exact congrArg Host.Outcome.next ((if_pos hclocked).trans hends)

/-- The width cap ends a pulse of either mode, and shows (R74). -/
theorem exec_widthCap {s : State} {n : Fin 48} {p : Pulse} (hclocked : s.clocked = true) (hpulse : (s.psc.outs[n]).pulse = some p) :
    exec (.widthCap n) s = .next ((s.setOut n.val { active := false, pulse := none }).setBit Ix.pscSchedulerStatus 0 3) := by
  have hends : s.widthCap n.val = (s.setOut n.val { active := false, pulse := none }).setBit Ix.pscSchedulerStatus 0 3 := by
    unfold State.widthCap
    rw [outStage_fin, hpulse]
    rfl
  exact congrArg Host.Outcome.next ((if_pos hclocked).trans hends)

/-! ### The pins -/

theorem pinLevel_congr {s t : State} {n : Nat} (hclocked : t.clocked = s.clocked) (hforce : t.rd Ix.pscForce (n + 1) = s.rd Ix.pscForce (n + 1))
    (hpsc : t.psc = s.psc) : t.pinLevel n = s.pinLevel n := by
  unfold State.pinLevel State.outStage
  rw [hclocked, hforce, hpsc]

theorem pinLevel_forced_inactive {s : State} {n : Nat} (h : s.rd Ix.pscForce (n + 1) = 1) : s.pinLevel n = false := by
  unfold State.pinLevel
  rw [if_pos h, ite_self]

theorem pinLevel_forced_active {s : State} {n : Nat} (hclocked : s.clocked = true) (h : s.rd Ix.pscForce (n + 1) = 2) : s.pinLevel n = true := by
  unfold State.pinLevel
  rw [hclocked, h]
  rfl

/-- Force is written as a number of one octet that the object keeps (R77, R82). -/
theorem pscForce_row (n : Fin 48) : rowOf Ix.pscForce (n.val + 1) = some ⟨0x242a, 0x242a, 1, 48, .u8, .rw, 1, 0, .span 0 2⟩ := by
  revert n
  decide

theorem bitsAt_pscForce (n : Fin 48) : bitsAt (key Ix.pscForce (n.val + 1)) = 8 := by
  rw [bitsAt_key (by omega), objBits, pscForce_row]
  rfl

/-- Force holds its pin at the level it names, and no other pin (R77). -/
theorem force_acts {s : State} {r : Req} {x : Session} {n : Fin 48} {v : BitVec 8}
    (hgrants : s.Grants r x Ix.pscForce (n.val + 1) (pathNum r.path 1 v.toNat)) :
    ∃ t, exec (.force r n v) s = .next t ∧ s.Answers t r 0x11 .ok [] ∧ t.psc = s.psc ∧
      (s.clocked = true → v = 1 → t.pinLevel n.val = false) ∧ (s.clocked = true → v = 2 → t.pinLevel n.val = true) ∧
      ∀ m, m ≠ n → t.pinLevel m.val = s.pinLevel m.val := by
  have answered : Answered s ((s.takeFree.asked r x).wr Ix.pscForce (n.val + 1) v.toNat)
      (s.writeNumber r Ix.pscForce (n.val + 1) 1 v.toNat) r :=
    writeNumber_answered hgrants (pscForce_row n) rfl rfl v.isLt (writeEffect_scheduler _ (ix := Ix.pscForce) rfl (by decide)) (asked_power s r x)
  refine ⟨_, rfl, ?_⟩
  generalize s.writeNumber r Ix.pscForce (n.val + 1) 1 v.toNat = t at answered ⊢
  have hrd (m : Fin 48) : t.rd Ix.pscForce (m.val + 1) = if m = n then v.toNat else s.rd Ix.pscForce (m.val + 1) := by
    have hcounted := block_uncounted r.path (ix := Ix.pscForce) (sub := m.val + 1) ⟨by decide, by decide, by omega⟩
    rw [answered.counted _ _ hcounted, rd_wr, asked_rd s r x hcounted, bitsAt_pscForce, Nat.mod_eq_of_lt v.isLt]
    simp [key, Fin.ext_iff]
  have hpsc : t.psc = s.psc := (answered_psc answered).trans (asked_psc s r x)
  have hclocked : t.clocked = s.clocked := by
    have hpower : t.power = s.power := by
      rw [answered.same]
      exact asked_power s r x
    unfold State.clocked State.on
    rw [hpower, answered.counted _ _ (powerState_uncounted r.path), rd_wr, if_neg (by unfold key; omega),
      asked_rd s r x (powerState_uncounted r.path)]
  refine ⟨answered_ok answered (asked_out s r x), hpsc, ?_, ?_, ?_⟩
  · rintro - rfl
    exact pinLevel_forced_inactive (by rw [hrd, if_pos rfl]; rfl)
  · rintro hon rfl
    exact pinLevel_forced_active (hclocked.trans hon) (by rw [hrd, if_pos rfl]; rfl)
  · intro m hm
    exact pinLevel_congr hclocked (by rw [hrd, if_neg hm]) hpsc

/-- Settles O13: a request is stored or noted late, a cancel filters the table, a pulse's end replaces its output's stage only, and Force
decides its pin only. -/
theorem schedulerActs : Obligations.SchedulerActs := by
  unfold Obligations.SchedulerActs
  refine ⟨?_, ?_, ?_, ?_, ?_⟩
  · rintro s r x target action tag e hstill hgrants hrun hok hkind hroom rfl
    exact ⟨scheduleRequest_stored hgrants hkind hstill hrun hok hroom, scheduleRequest_dropped hgrants hkind hstill hrun hok hroom⟩
  · exact fun s r x tag => cancelTag_acts
  · intro s n p hclocked hpulse htime
    refine ⟨_, exec_pulseWidthEnd hclocked hpulse htime, setOut_outs_same s n _, ?_, ?_, fun m => setOut_outs_ne s n _⟩
    · rw [setOut_fin]
    · rw [setOut_fin]
  · intro s n p hclocked hpulse
    exact ⟨_, exec_widthCap hclocked hpulse, setOut_outs_same s n _, bit_setBit (by rw [bitsAt_schedulerStatus]; decide),
      fun m => setOut_outs_ne s n _⟩
  · exact fun s r x n v => force_acts

end Sys2Proof.Settled
end

section
/-! The camera ports' part of the state, and what a port's flags, events and objects leave (R84 to R117). -/

namespace Sys2Proof.Settled

open Sys2Proof Sys2Proof.Machine Sys2Proof.Laws

/-! ### A port's state -/

section
variable (s : State) (n : Fin 32) (c : CptState)

@[simp] theorem port_setPort : (s.setPort n c).port n = c := by
  simp [State.port, State.setPort]

@[simp] theorem setPort_cpt_same : (s.setPort n c).cpt[n] = c := port_setPort s n c

theorem setPort_cpt_ne {m : Fin 32} (h : m ≠ n) : (s.setPort n c).cpt[m] = s.cpt[m] := by
  have hval : n.val ≠ m.val := fun e => h (Fin.ext e.symm)
  simp [State.setPort, hval]

@[simp] theorem setPort_setPort (d : CptState) : (s.setPort n c).setPort n d = s.setPort n d := by
  simp [State.setPort]

@[simp] theorem setPort_port : s.setPort n (s.port n) = s := by
  simp [State.setPort, State.port]

@[simp] theorem setPort_rd (ix sub : Nat) : (s.setPort n c).rd ix sub = s.rd ix sub := rfl
@[simp] theorem setPort_iplIn : (s.setPort n c).iplIn = s.iplIn := rfl
@[simp] theorem setPort_strip : (s.setPort n c).strip = s.strip := rfl
@[simp] theorem setPort_pipelineOf (m : Fin 32) : (s.setPort n c).pipelineOf m = s.pipelineOf m := rfl
@[simp] theorem setPort_overdue (m : Fin 32) (t : Tag) : (s.setPort n c).overdue m t = s.overdue m t := rfl

end

theorem port_congr {s t : State} (h : t.cpt = s.cpt) (n : Fin 32) : t.port n = s.port n := by
  unfold State.port
  rw [h]

/-- Whether a port pairs lines, from what it is made of (R93, R112). -/
theorem portTakes_congr {s t : State} {n : Fin 32} (hstate : t.rd 0x3000 (n.val + 1) = s.rd 0x3000 (n.val + 1)) (hcut : t.cut = s.cut)
    (htruncated : (t.port n).truncated = (s.port n).truncated) : t.portTakes n = s.portTakes n := by
  have hruns : t.runs (.cpt n) = s.runs (.cpt n) := congrArg (fun v => decide (v = 2)) hstate
  have hdrains : t.drains (.cpt n) = s.drains (.cpt n) := by
    unfold State.drains
    rw [hcut, show t.rd (Fn.cpt n).base (Fn.cpt n).sub = s.rd (Fn.cpt n).base (Fn.cpt n).sub from hstate]
  unfold State.portTakes
  rw [hruns, hdrains, htruncated]

/-! ### The objects of a port -/

/-- The widths of the objects of each port that the statements read (R116, R117). -/
theorem bitsAt_port {ix bits : Nat} (n : Fin 32)
    (h : (ix, bits) ∈ [(0x3003, 32), (Ix.cptLinkState, 8), (Ix.cptPortStatus, 32), (Ix.cptLinkRateInUse, 8), (Ix.cptCameraConnections, 8),
      (Ix.cptUntriggeredLinesDiscarded, 64), (Ix.cptStripsClosedShort, 32), (Ix.cptLinkLossCount, 32), (Ix.cptCameraEventCount, 32),
      (Ix.cptControlStatus, 8), (Ix.cptTrainingFailures, 32)]) : bitsAt (key ix (n.val + 1)) = bits := by
  have all : ∀ m : Fin 32, ∀ e ∈ [(0x3003, 32), (Ix.cptLinkState, 8), (Ix.cptPortStatus, 32), (Ix.cptLinkRateInUse, 8),
      (Ix.cptCameraConnections, 8), (Ix.cptUntriggeredLinesDiscarded, 64), (Ix.cptStripsClosedShort, 32), (Ix.cptLinkLossCount, 32),
      (Ix.cptCameraEventCount, 32), (Ix.cptControlStatus, 8), (Ix.cptTrainingFailures, 32)], bitsAt (key e.1 (m.val + 1)) = e.2 := by
    decide +kernel
  exact all n (ix, bits) h

/-- An object of a port reads as the value written, cut to its width. -/
theorem rd_wr_port (s : State) (n : Fin 32) {ix : Nat} (v bits : Nat) (h : bitsAt (key ix (n.val + 1)) = bits) :
    (s.wr ix (n.val + 1) v).rd ix (n.val + 1) = v % 2 ^ bits := by
  rw [rd_wr, if_pos rfl, h]

/-- Its other objects read as before. -/
theorem rd_wr_port_ne (s : State) (n : Fin 32) {ix jx : Nat} (v : Nat) (h : jx ≠ ix) :
    (s.wr ix (n.val + 1) v).rd jx (n.val + 1) = s.rd jx (n.val + 1) := rd_wr_of_index s v h (by omega) (by omega)

end Sys2Proof.Settled
end

section
/-! What happens beside a camera port's own work: the performance counters and the recorders take note, time passes, and resolved tags are
sent (R101, R102, R112, R524, R532). -/

namespace Sys2Proof.Settled

open Sys2Proof Sys2Proof.Machine Sys2Proof.Laws

/-! ### Counters and recorders -/

/-- The recorders and the performance counters have taken note: of the objects, only theirs have changed, which lie behind all others that a
camera port reads. -/
structure Noted (s t : State) : Prop where
  same : t = { s with regs := t.regs, mon := t.mon }
  rd : ∀ {ix sub : Nat}, ix < 0x6C07 → sub < 256 → t.rd ix sub = s.rd ix sub

section
variable {s t u : State}

theorem Noted.refl (s : State) : Noted s s := ⟨rfl, fun _ _ => rfl⟩

theorem Noted.trans (h : Noted s t) (k : Noted t u) : Noted s u := by
  obtain ⟨hsame, hrd⟩ := h
  obtain ⟨ksame, krd⟩ := k
  refine ⟨?_, fun hix hsub => (krd hix hsub).trans (hrd hix hsub)⟩
  rw [ksame, hsame]

theorem Noted.cpt (h : Noted s t) : t.cpt = s.cpt := by rw [h.same]

theorem Noted.iplIn (h : Noted s t) : t.iplIn = s.iplIn := by rw [h.same]

theorem noted_wr (s : State) {ix sub v : Nat} (hix : 0x6C07 ≤ ix) : Noted s (s.wr ix sub v) := by
  refine ⟨rfl, fun {jx jub} hjx hjub => ?_⟩
  rw [rd_wr, if_neg (by unfold key; omega)]

theorem noted_pmcAdd (s : State) (k n : Nat) {ix : Nat} (hix : 0x6C07 ≤ ix) : Noted s (s.pmcAdd ix k n) := by
  have hbump : Noted s (s.bump ix k n) := noted_wr s hix
  unfold State.pmcAdd
  exact R_ite (hbump.trans (noted_wr _ (by decide))) hbump

theorem noted_tally (s : State) (code inst n : Nat) : Noted s (s.tally code inst n) := by
  unfold State.tally
  exact R_ite (R_foldl (.refl s) (fun t k ht => R_ite (ht.trans (noted_pmcAdd t _ n (by decide))) ht)) (.refl s)

theorem noted_sample (s : State) (code inst : Nat) (v : Int) (own : Option (Nat × Nat)) : Noted s (s.sample code inst v own) := by
  have dropped (t : State) (live : List (Nat × Accum)) (r : Nat) :
      Noted t ((({ t with mon := { t.mon with live := live } } : State).bump Ix.monDroppedSamples r 1).setBit Ix.monRecorderStatus 0 1) := by
    have put : Noted t { t with mon := { t.mon with live := live } } := ⟨rfl, fun _ _ => rfl⟩
    exact (put.trans (noted_wr _ (by decide))).trans (noted_wr _ (by decide))
  unfold State.sample
  exact R_ite (R_ite ⟨rfl, fun _ _ => rfl⟩ (R_foldl (.refl s) (fun t _ ht => R_ite (ht.trans (dropped t _ _)) ht))) (noted_wr s (by decide))

theorem noted_passCycles (s : State) (c : Nat) : Noted s (s.passCycles c) := by
  unfold State.passCycles
  extract_lets +onlyGivenNames -underBinder s1 s2
  have h1 : Noted s s1 := R_ite (noted_tally s _ _ _) (.refl s)
  have h2 : Noted s s2 := h1.trans (noted_tally s1 _ _ _)
  exact R_ite (h2.trans (noted_pmcAdd s2 _ _ (by decide))) h2

end

/-! ### Time passes -/

section
variable (s : State) (dt : Nat)

/-- Cycles of CLK_POS move the two clocks and what has been noted (R18). -/
theorem posCycles_same : ∃ u, Noted s u ∧ s.posCycles dt = { u with ns := (s.posCycles dt).ns, tbu := (s.posCycles dt).tbu } :=
  ⟨_, noted_passCycles s _, rfl⟩

theorem posCycles_rd {ix sub : Nat} (hix : ix < 0x6C07) (hsub : sub < 256) : (s.posCycles dt).rd ix sub = s.rd ix sub := by
  obtain ⟨u, hu, h⟩ := posCycles_same s dt
  rw [h]
  exact hu.rd hix hsub

@[simp] theorem posCycles_cpt : (s.posCycles dt).cpt = s.cpt := (noted_passCycles s _).cpt

@[simp] theorem posCycles_iplIn : (s.posCycles dt).iplIn = s.iplIn := (noted_passCycles s _).iplIn

@[simp] theorem posCycles_cut : (s.posCycles dt).cut = s.cut := by
  obtain ⟨u, hu, h⟩ := posCycles_same s dt
  rw [h, hu.same]

@[simp] theorem posCycles_port (n : Fin 32) : (s.posCycles dt).port n = s.port n := port_congr (posCycles_cpt s dt) n

@[simp] theorem posCycles_strip : (s.posCycles dt).strip = s.rd Ix.cptStripLength 0 := posCycles_rd s dt (by decide) (by decide)

@[simp] theorem posCycles_portTakes (n : Fin 32) : (s.posCycles dt).portTakes n = s.portTakes n :=
  portTakes_congr (posCycles_rd s dt (by decide) (by omega)) (posCycles_cut s dt) (by rw [posCycles_port])

@[simp] theorem posCycles_pipelineOf (n : Fin 32) : (s.posCycles dt).pipelineOf n = s.pipelineOf n :=
  congrArg (Fin.ofNat 16) (posCycles_rd s dt (by decide) (by omega))

end

/-! ### Sending resolved tags -/

/-- The indices of the objects that retiring and sending tags writes: what counts and shows them, what EVF's crossings merge, and what is noted
(R101, R102, R407). -/
def sendingWrites (ix : Nat) : Bool :=
  decide (0x6C07 ≤ ix) || [Ix.evfMergedAtCrossing, Ix.evfFabricStatus, Ix.cptPortStatus, Ix.cptLinesDelivered].contains ix ||
    decide (Ix.cptMissingLines ≤ ix ∧ ix ≤ Ix.cptMissingLines + 10)

/-- What retiring tags of a port and sending what is resolved leaves (R101, R102): all but those objects, EVF's crossings, the samples, the items for
the pipelines and the ports; and of the port, all but what it has yet to send and the strip it sends. -/
structure Sent (n : Fin 32) (s t : State) : Prop where
  same : t = { s with regs := t.regs, cpt := t.cpt, iplIn := t.iplIn, mon := t.mon, evf := { s.evf with slots := t.evf.slots } }
  rd : ∀ {ix sub : Nat}, sendingWrites ix = false → sub < 256 → t.rd ix sub = s.rd ix sub
  port : t.port n = { s.port n with resolved := (t.port n).resolved, sendNext := (t.port n).sendNext, closed := (t.port n).closed,
                                    closing := (t.port n).closing, long := (t.port n).long, missing := (t.port n).missing }

section
variable {n : Fin 32} {s t u : State}

theorem Sent.refl (n : Fin 32) (s : State) : Sent n s s := ⟨rfl, fun _ _ => rfl, rfl⟩

theorem Sent.trans (h : Sent n s t) (k : Sent n t u) : Sent n s u := by
  obtain ⟨hsame, hrd, hport⟩ := h
  obtain ⟨ksame, krd, kport⟩ := k
  refine ⟨?_, fun hix hsub => (krd hix hsub).trans (hrd hix hsub), ?_⟩
  · rw [ksame, hsame]
  · generalize u.port n = d at kport ⊢
    rw [kport, hport]

theorem Noted.sent (h : Noted s t) (n : Fin 32) : Sent n s t := by
  obtain ⟨same, rd⟩ := h
  have hport : t.port n = s.port n := port_congr (Noted.cpt ⟨same, rd⟩) n
  refine ⟨?_, fun {ix sub} hix hsub => rd ?_ hsub, ?_⟩
  · rw [same]
  · simp only [sendingWrites, Bool.or_eq_false_iff, decide_eq_false_iff_not] at hix
    omega
  · rw [hport]

/-- A write of one of those objects is such a change. -/
theorem sent_wr (n : Fin 32) (s : State) {ix sub v : Nat} (hix : sendingWrites ix = true) (hsub : sub < 256) : Sent n s (s.wr ix sub v) := by
  refine ⟨rfl, fun {jx jub} hjx hjub => ?_, rfl⟩
  exact rd_wr_of_index s v (fun e => by rw [e, hix] at hjx; cases hjx) hsub hjub

theorem sent_portFlag (n : Fin 32) (s : State) (b : Nat) : Sent n s (s.portFlag n b) := sent_wr n s (by decide) (by omega)

theorem sent_portEvent (n : Fin 32) (s : State) (e : Nat) (own : Option (Nat × Nat)) (arg : Nat) : Sent n s (s.portEvent n e own arg) := by
  unfold State.portEvent State.cross
  exact R_ite ((sent_wr n s (by decide) (by decide)).trans (sent_wr n _ (by decide) (by decide))) ⟨rfl, fun _ _ => rfl, rfl⟩

theorem sent_toPipeline (n : Fin 32) (s : State) (x : CamItem) : Sent n s (s.toPipeline n x) := ⟨rfl, fun _ _ => rfl, rfl⟩

/-- The port's own change in sending. -/
theorem sent_setPort (n : Fin 32) (s : State) (c : CptState)
    (h : c = { s.port n with resolved := c.resolved, sendNext := c.sendNext, closed := c.closed, closing := c.closing, long := c.long,
                             missing := c.missing }) : Sent n s (s.setPort n c) := by
  refine ⟨rfl, fun _ _ => rfl, ?_⟩
  rw [port_setPort]
  exact h

theorem sent_closeStrip (n : Fin 32) (s : State) (truncated : Bool) : Sent n s (s.closeStrip n truncated) := by
  unfold State.closeStrip
  extract_lets +onlyGivenNames -underBinder c
  split
  · exact .refl n s
  · extract_lets +onlyGivenNames -underBinder t
    have ht : Sent n s t := sent_setPort n s _ rfl
    exact ((ht.trans (sent_toPipeline n t _)).trans (sent_portEvent n _ _ _ _)).trans ((noted_sample _ _ _ _ _).sent n)

theorem sent_sendItem (n : Fin 32) (s : State) (x : Resolved) : Sent n s (s.sendItem n x) := by
  unfold State.sendItem
  extract_lets +onlyGivenNames -underBinder S c strip r0 r marker t1 t2 t3
  have h1 : Sent n s t1 := sent_setPort n s _ rfl
  have h2 : Sent n s t2 := R_ite (h1.trans (sent_portEvent n t1 _ _ _)) h1
  have h3 : Sent n s t3 := by
    unfold t3
    split
    · exact (h2.trans (sent_toPipeline n t2 _)).trans (sent_wr n _ (by decide) (by omega))
    · exact (h2.trans (sent_toPipeline n t2 _)).trans ((noted_tally _ _ _ _).sent n)
  exact R_ite (h3.trans (sent_closeStrip n t3 _)) h3

theorem sent_sendResolved (n : Fin 32) (fuel : Nat) (s : State) : Sent n s (s.sendResolved n fuel) := by
  induction fuel generalizing s with
  | zero => exact .refl n s
  | succ fuel ih =>
    unfold State.sendResolved
    extract_lets +onlyGivenNames -underBinder c
    split
    · exact .refl n s
    · exact R_ite (((sent_setPort n s _ rfl).trans (sent_sendItem n _ _)).trans (ih _)) (.refl n s)

theorem sent_resolve (n : Fin 32) (s : State) (tag : Tag) {reason : Nat} (hreason : reason ≤ 10) (ttl : Nat) (frameStart frameEnd : Bool)
    (samples : Option (List Nat)) : Sent n s (s.resolve n tag reason ttl frameStart frameEnd samples) := by
  have counts : sendingWrites (Ix.cptMissingLines + reason) = true := by
    simp only [sendingWrites, Bool.or_eq_true, decide_eq_true_eq]
    omega
  unfold State.resolve
  extract_lets +onlyGivenNames -underBinder c lt t1 t2
  have h1 : Sent n s t1 := sent_setPort n s _ rfl
  have h2 : Sent n s t2 := R_ite h1 ((h1.trans (sent_wr n t1 (by decide) (by omega))).trans (sent_wr n _ counts (by omega)))
  exact h2.trans (sent_sendResolved n _ t2)

theorem sent_retire (n : Fin 32) (s : State) (tag : Tag) {reason : Nat} (hreason : reason ≤ 10) : Sent n s (s.retire n tag reason) := by
  have resolved := sent_resolve n s tag hreason 0 false false none
  unfold State.retire State.flagReason
  split
  · exact resolved.trans (sent_portFlag n _ _)
  · exact resolved

theorem sent_retireAll (n : Fin 32) {reason : Nat} (hreason : reason ≤ 10) (tags : List Tag) (s : State) :
    Sent n s (s.retireAll n reason tags) := by
  induction tags generalizing s with
  | nil => exact .refl n s
  | cons tag tags ih => exact (sent_retire n s tag hreason).trans (ih _)

/-- Retiring every pending tag empties the FIFO; the rest is sending (R101). -/
theorem sent_retirePending (n : Fin 32) {reason : Nat} (hreason : reason ≤ 10) (s : State) :
    Sent n (s.setPort n { s.port n with tags := [] }) (s.retirePending n reason) := sent_retireAll n hreason _ _

/-- Retiring the overdue tags takes them off the FIFO's head; the rest is sending (R99). -/
theorem sent_retireExpired (n : Fin 32) (s : State) :
    Sent n (s.setPort n { s.port n with tags := (s.port n).tags.drop ((s.port n).tags.takeWhile (fun t => s.overdue n t)).length })
      (s.retireExpired n) := sent_retireAll n (by decide) _ _

theorem sent_portTruncate (n : Fin 32) (s : State) :
    Sent n (s.setPort n { s.port n with truncated := true, tags := [] }) (s.portTruncate n) := by
  have retired := sent_retirePending n (reason := rsTruncated) (by decide) (s.setPort n { s.port n with truncated := true })
  rw [port_setPort, setPort_setPort] at retired
  exact (retired.trans (sent_sendResolved n _ _)).trans (sent_closeStrip n _ true)

end

end Sys2Proof.Settled
end

section
/-! Camera links: discovery and training (O14), and the watch over links that are up (O15). -/

namespace Sys2Proof.Settled

open Sys2Proof Sys2Proof.Machine Sys2Proof.Laws

/-! ### Events and counts of a port -/

theorem whileClocked_eq {s : State} (h : s.clocked = true) (k : State → State) : s.whileClocked k = k s := if_pos h

section
variable (s : State) (n : Fin 32) (e : Nat) (own : Option (Nat × Nat)) (arg : Nat)

/-- An event on its way to EVF takes a crossing slot, or is merged and shown there (R407). -/
theorem portEvent_same :
    s.portEvent n e own arg =
      { s with regs := (s.portEvent n e own arg).regs, evf := { s.evf with slots := (s.portEvent n e own arg).evf.slots } } := by
  unfold State.portEvent State.cross
  split <;> rfl

@[simp] theorem portEvent_cpt : (s.portEvent n e own arg).cpt = s.cpt := by rw [portEvent_same]
@[simp] theorem portEvent_iplIn : (s.portEvent n e own arg).iplIn = s.iplIn := by rw [portEvent_same]
@[simp] theorem portEvent_octs : (s.portEvent n e own arg).octs = s.octs := by rw [portEvent_same]
@[simp] theorem portEvent_dram : (s.portEvent n e own arg).dram = s.dram := by rw [portEvent_same]

theorem portEvent_rd {ix sub : Nat} (hmerged : ix ≠ Ix.evfMergedAtCrossing) (hstatus : ix ≠ Ix.evfFabricStatus) (hsub : sub < 256) :
    (s.portEvent n e own arg).rd ix sub = s.rd ix sub := by
  unfold State.portEvent State.cross
  split
  · exact (rd_wr_of_index _ _ hstatus (by decide) hsub).trans (rd_wr_of_index s _ hmerged (by decide) hsub)
  · rfl

end

/-- A counter of a port that saturates at 32 bits. -/
theorem rd_bumpSat_port (s : State) (n : Fin 32) {ix : Nat} (h : bitsAt (key ix (n.val + 1)) = 32) :
    (s.bumpSat ix (n.val + 1) 1).rd ix (n.val + 1) = min (s.rd ix (n.val + 1) + 1) (2 ^ 32 - 1) := by
  unfold State.bumpSat
  rw [← bitsAt_key (ix := ix) (sub := n.val + 1) (by omega), rd_wr_port s n _ 32 h, h]
  omega

/-- A flag of Port status that is set shows (R116). -/
theorem bit_portFlag (s : State) (n : Fin 32) {b : Nat} (hb : b < 32) : (s.portFlag n b).bit Ix.cptPortStatus (n.val + 1) b = true :=
  bit_setBit (by rw [bitsAt_port (bits := 32) n (by decide)]; exact hb)

/-- A bit of an object that reads as before is as before. -/
theorem bit_congr {s t : State} {ix sub : Nat} (h : t.rd ix sub = s.rd ix sub) (b : Nat) : t.bit ix sub b = s.bit ix sub b := by
  unfold State.bit
  rw [h]

/-! ### Discovery -/

/-- The highest rate that the camera's connections and the port's limit allow (R90). -/
abbrev discoveredRate (s : State) (n : Fin 32) (conns : List CxpConn) : Nat :=
  bestRate (s.rd Ix.cptLinkRateLimit (n.val + 1)) (conns.foldl (fun r c => r &&& c.rates) 0xFF)

section
variable {s : State} {n : Fin 32} (hclocked : s.clocked = true) (hlanes : s.rd Ix.cptLaneCount (n.val + 1) ≠ 0)
  (htraining : s.rd Ix.cptLinkState (n.val + 1) ≠ 2) (hup : s.rd Ix.cptLinkState (n.val + 1) ≠ 3)
include hclocked hlanes htraining hup

/-- A used port that searches and finds nothing goes on searching (R90). -/
theorem exec_discovers_nothing : exec (.discoveryAttempt n []) s = .next (s.wr Ix.cptLinkState (n.val + 1) 1) := by
  refine congrArg Host.Outcome.next ((whileClocked_eq hclocked _).trans ?_)
  unfold State.discover
  rw [if_neg (by simp [hclocked, hlanes, htraining, hup])]

/-- A camera that matches, where none was known, is trained at the highest rate that it and the limit allow (R90). -/
theorem exec_discovers_camera {x : CxpConn} {xs : List CxpConn} (hmatch : connsMatch (s.rd Ix.cptLaneCount (n.val + 1)) (x :: xs) = true)
    (hknown : (s.cpt[n]).known = none) :
    exec (.discoveryAttempt n (x :: xs)) s =
      .next (((s.setPort n { s.port n with train := .first, rate := discoveredRate s n (x :: xs),
                                           found := some (x.identity, connLayout (x :: xs)) }).wr Ix.cptLinkState (n.val + 1) 2).emit
        (.connectionConfig n.val (discoveredRate s n (x :: xs)) (s.rd Ix.cptLaneCount (n.val + 1)))) := by
  have hknown' : (s.port n).known = none := hknown
  refine congrArg Host.Outcome.next ((whileClocked_eq hclocked _).trans ?_)
  unfold State.discover
  rw [if_neg (by simp [hclocked, hlanes, htraining, hup])]
  dsimp only
  rw [hknown', hmatch]
  rfl

/-- What does not match is a mismatch (R90). -/
theorem exec_discovers_mismatch {x : CxpConn} {xs : List CxpConn} (hmatch : connsMatch (s.rd Ix.cptLaneCount (n.val + 1)) (x :: xs) = false) :
    exec (.discoveryAttempt n (x :: xs)) s = .next ((s.wr Ix.cptLinkState (n.val + 1) 5).portFlag n 15) := by
  refine congrArg Host.Outcome.next ((whileClocked_eq hclocked _).trans ?_)
  unfold State.discover
  rw [if_neg (by simp [hclocked, hlanes, htraining, hup])]
  dsimp only
  rw [hmatch]
  rfl

end

/-! ### Training -/

section
variable {s : State} {n : Fin 32} (hclocked : s.clocked = true)
include hclocked

/-- A first training that locks within the skew limit brings the link up (R90). -/
theorem exec_linkUp {skew : Nat} (htrain : (s.cpt[n]).train = .first) (hskew : skew ≤ s.rd Ix.cptLaneSkewLimit (n.val + 1)) :
    exec (.linkUp n skew) s =
      .next (((((s.setPort n { s.port n with train := .idle, resumed := false, heard := s.ns, known := (s.port n).found }).wr
        Ix.cptLinkState (n.val + 1) 3).wr Ix.cptLinkRateInUse (n.val + 1) (s.port n).rate).wr Ix.cptCameraConnections (n.val + 1)
          (s.rd Ix.cptLaneCount (n.val + 1))).portEvent n 0 none 0) := by
  have htrain' : (s.port n).train = .first := htrain
  refine congrArg Host.Outcome.next ((whileClocked_eq hclocked _).trans ?_)
  unfold State.linkComesUp
  dsimp only
  rw [if_pos (.inl htrain'), if_neg (by omega), if_neg (by rw [htrain']; decide)]

/-- A first failure backs off (R91). -/
theorem exec_trainingFail_first (htrain : (s.cpt[n]).train = .first) :
    exec (.trainingFail n) s = .next (s.setPort n { s.port n with train := .backOff }) := by
  have htrain' : (s.port n).train = .first := htrain
  refine congrArg Host.Outcome.next ((whileClocked_eq hclocked _).trans ?_)
  unfold State.trainingFails
  dsimp only
  rw [htrain']

/-- A second failure returns the port to discovery and counts (R91). -/
theorem exec_trainingFail_retry (htrain : (s.cpt[n]).train = .retry) :
    exec (.trainingFail n) s =
      .next (((((s.retryLasting 6).setPort n { s.port n with train := .idle }).bumpSat Ix.cptTrainingFailures (n.val + 1) 1).portFlag n 16).wr
        Ix.cptLinkState (n.val + 1) 1) := by
  have htrain' : (s.port n).train = .retry := htrain
  refine congrArg Host.Outcome.next ((whileClocked_eq hclocked _).trans ?_)
  unfold State.trainingFails
  dsimp only
  rw [htrain']

/-- The back-off's end begins the retry (R91). -/
theorem exec_trainingRetry (htrain : (s.cpt[n]).train = .backOff) :
    exec (.trainingRetry n) s = .next (s.setPort n { s.port n with train := .retry }) :=
  congrArg Host.Outcome.next ((whileClocked_eq hclocked _).trans (if_pos htrain))

end

/-- A link that has come up shows its rate and connections, and its camera is the known one (R90). -/
theorem linkUp_acts {s : State} {n : Fin 32} {skew : Nat} (hclocked : s.clocked = true) (htrain : (s.cpt[n]).train = .first)
    (hskew : skew ≤ s.rd Ix.cptLaneSkewLimit (n.val + 1)) :
    ∃ t, exec (.linkUp n skew) s = .next t ∧ t.rd Ix.cptLinkState (n.val + 1) = 3 ∧
      t.rd Ix.cptLinkRateInUse (n.val + 1) = (s.cpt[n]).rate % 2 ^ 8 ∧
      t.rd Ix.cptCameraConnections (n.val + 1) = s.rd Ix.cptLaneCount (n.val + 1) % 2 ^ 8 ∧ (t.cpt[n]).train = .idle ∧
      (t.cpt[n]).heard = s.ns ∧ (t.cpt[n]).known = (s.cpt[n]).found ∧ ∀ m, m ≠ n → t.cpt[m] = s.cpt[m] := by
  refine ⟨_, exec_linkUp hclocked htrain hskew, ?_, ?_, ?_, ?_, ?_, ?_, ?_⟩
  · rw [portEvent_rd _ _ _ _ _ (by decide) (by decide) (by omega), rd_wr_port_ne _ n _ (by decide), rd_wr_port_ne _ n _ (by decide)]
    exact rd_wr_port _ n 3 8 (bitsAt_port n (by decide))
  · rw [portEvent_rd _ _ _ _ _ (by decide) (by decide) (by omega), rd_wr_port_ne _ n _ (by decide)]
    exact rd_wr_port _ n _ 8 (bitsAt_port n (by decide))
  · rw [portEvent_rd _ _ _ _ _ (by decide) (by decide) (by omega)]
    exact rd_wr_port _ n _ 8 (bitsAt_port n (by decide))
  · rw [portEvent_cpt, wr_cpt, wr_cpt, wr_cpt, setPort_cpt_same]
  · rw [portEvent_cpt, wr_cpt, wr_cpt, wr_cpt, setPort_cpt_same]
  · rw [portEvent_cpt, wr_cpt, wr_cpt, wr_cpt, setPort_cpt_same]
    rfl
  · intro m hm
    rw [portEvent_cpt]
    exact setPort_cpt_ne s n _ hm

/-- A failed retry shows as such and is counted (R91). -/
theorem trainingFail_retry_acts {s : State} {n : Fin 32} (hclocked : s.clocked = true) (htrain : (s.cpt[n]).train = .retry) :
    ∃ t, exec (.trainingFail n) s = .next t ∧ (t.cpt[n]).train = .idle ∧ t.rd Ix.cptLinkState (n.val + 1) = 1 ∧
      t.rd Ix.cptTrainingFailures (n.val + 1) = min (s.rd Ix.cptTrainingFailures (n.val + 1) + 1) (2 ^ 32 - 1) ∧
      t.bit Ix.cptPortStatus (n.val + 1) 16 = true := by
  have hlasting : (s.retryLasting 6).rd Ix.cptTrainingFailures (n.val + 1) = s.rd Ix.cptTrainingFailures (n.val + 1) :=
    rd_wr_of_index s _ (by decide) (by decide) (by omega)
  refine ⟨_, exec_trainingFail_retry hclocked htrain, ?_, rd_wr_port _ n 1 8 (bitsAt_port n (by decide)), ?_, ?_⟩
  · exact congrArg CptState.train (setPort_cpt_same (s.retryLasting 6) n _)
  · rw [rd_wr_port_ne _ n _ (by decide), ← hlasting]
    exact (rd_wr_port_ne _ n _ (by decide)).trans (rd_bumpSat_port _ n (bitsAt_port n (by decide)))
  · rw [bit_congr (rd_wr_port_ne _ n _ (by decide))]
    exact bit_portFlag _ n (by decide)

/-- Settles O14: each event of discovery and training by the state it leaves. -/
theorem cameraLinksTrain : Obligations.CameraLinksTrain := by
  unfold Obligations.CameraLinksTrain
  have hstate (n : Fin 32) : bitsAt (key Ix.cptLinkState (n.val + 1)) = 8 := bitsAt_port n (by decide)
  refine ⟨?_, ?_, ?_, fun s n skew => linkUp_acts, ?_, fun s n => trainingFail_retry_acts, ?_⟩
  · intro s n hclocked hlanes htraining hup
    exact ⟨_, exec_discovers_nothing hclocked hlanes htraining hup, rd_wr_port s n 1 8 (hstate n), rfl, rfl⟩
  · intro s n x xs hclocked hlanes htraining hup hmatch hknown
    have hport (v : Nat) (c : CptState) (o : Output) : (((s.setPort n c).wr Ix.cptLinkState (n.val + 1) v).emit o).cpt[n] = c :=
      setPort_cpt_same s n c
    refine ⟨_, exec_discovers_camera hclocked hlanes htraining hup hmatch hknown, rd_wr_port _ n 2 8 (hstate n), ?_, ?_, ?_, ?_,
      fun m => setPort_cpt_ne s n _⟩
    · rw [hport]
    · rw [hport]
    · rw [hport]
      rfl
    · rw [hport]
  · intro s n x xs hclocked hlanes htraining hup hmatch
    exact ⟨_, exec_discovers_mismatch hclocked hlanes htraining hup hmatch,
      (rd_wr_port_ne _ n _ (by decide)).trans (rd_wr_port s n 5 8 (hstate n)), bit_portFlag _ n (by decide), rfl⟩
  · intro s n hclocked htrain
    refine ⟨_, exec_trainingFail_first hclocked htrain, ?_, rfl, fun m => setPort_cpt_ne s n _⟩
    rw [setPort_cpt_same]
  · intro s n hclocked htrain
    refine ⟨_, exec_trainingRetry hclocked htrain, ?_, rfl, fun m => setPort_cpt_ne s n _⟩
    rw [setPort_cpt_same]

end Sys2Proof.Settled
end

section
/-! The watch over camera links that are up (O15): heartbeats, the loss of a link, and a link that stays lost. -/

namespace Sys2Proof.Settled

open Sys2Proof Sys2Proof.Machine Sys2Proof.Laws

/-! ### The loss of a link -/

/-- What the loss of an up link shows before the port's tags are retired (R92). -/
def linkDown (s : State) (n : Fin 32) : State :=
  (((((s.wr Ix.cptLinkState (n.val + 1) 4).wr Ix.cptLinkRateInUse (n.val + 1) 0).wr Ix.cptCameraConnections (n.val + 1) 0).portFlag n
    4).bumpSat Ix.cptLinkLossCount (n.val + 1) 1).portEvent n 1 none 0

/-- The loss of an up link: Resume is needed, the lines in transfer and the pending tags are gone, and the rest is sending (R92, R115). -/
theorem sent_linkLost {s : State} {n : Fin 32} (hup : s.rd Ix.cptLinkState (n.val + 1) = 3) :
    Sent n ((linkDown s n).setPort n { (linkDown s n).port n with
        needResume := true, resumed := false, train := .idle, incoming := [],
        slots := ((linkDown s n).port n).slots - ((linkDown s n).port n).incoming.count true, tags := [] }) (s.linkLost n) := by
  unfold State.linkLost
  rw [if_neg (not_not_intro hup)]
  have retired := sent_retirePending n (reason := rsLinkLost) (by decide) ((linkDown s n).setPort n { (linkDown s n).port n with
        needResume := true, resumed := false, train := .idle, incoming := [],
        slots := ((linkDown s n).port n).slots - ((linkDown s n).port n).incoming.count true })
  rw [port_setPort, setPort_setPort] at retired
  exact retired

section
variable {s : State} {n : Fin 32} (hup : s.rd Ix.cptLinkState (n.val + 1) = 3)
include hup

/-- The port's objects that sending leaves show the link's loss. -/
theorem linkLost_rd {ix : Nat} (hix : sendingWrites ix = false) : (s.linkLost n).rd ix (n.val + 1) = (linkDown s n).rd ix (n.val + 1) :=
  (sent_linkLost hup).rd hix (by omega)

theorem linkLost_tags : ((s.linkLost n).port n).tags = [] := by
  rw [(sent_linkLost hup).port, port_setPort]

theorem linkLost_needResume : ((s.linkLost n).port n).needResume = true := by
  rw [(sent_linkLost hup).port, port_setPort]

end

section
variable (s : State) (n : Fin 32)

theorem linkDown_state : (linkDown s n).rd Ix.cptLinkState (n.val + 1) = 4 := by
  unfold linkDown
  rw [portEvent_rd _ _ _ _ _ (by decide) (by decide) (by omega)]
  refine (rd_wr_port_ne _ n _ (by decide)).trans ((rd_wr_port_ne _ n _ (by decide)).trans ?_)
  rw [rd_wr_port_ne _ n _ (by decide), rd_wr_port_ne _ n _ (by decide)]
  exact rd_wr_port s n 4 8 (bitsAt_port n (by decide))

theorem linkDown_rate : (linkDown s n).rd Ix.cptLinkRateInUse (n.val + 1) = 0 := by
  unfold linkDown
  rw [portEvent_rd _ _ _ _ _ (by decide) (by decide) (by omega)]
  refine (rd_wr_port_ne _ n _ (by decide)).trans ((rd_wr_port_ne _ n _ (by decide)).trans ?_)
  rw [rd_wr_port_ne _ n _ (by decide)]
  exact rd_wr_port _ n 0 8 (bitsAt_port n (by decide))

theorem linkDown_connections : (linkDown s n).rd Ix.cptCameraConnections (n.val + 1) = 0 := by
  unfold linkDown
  rw [portEvent_rd _ _ _ _ _ (by decide) (by decide) (by omega)]
  refine (rd_wr_port_ne _ n _ (by decide)).trans ((rd_wr_port_ne _ n _ (by decide)).trans ?_)
  exact rd_wr_port _ n 0 8 (bitsAt_port n (by decide))

theorem linkDown_losses :
    (linkDown s n).rd Ix.cptLinkLossCount (n.val + 1) = min (s.rd Ix.cptLinkLossCount (n.val + 1) + 1) (2 ^ 32 - 1) := by
  unfold linkDown
  rw [portEvent_rd _ _ _ _ _ (by decide) (by decide) (by omega), rd_bumpSat_port _ n (bitsAt_port n (by decide))]
  have before : (((((s.wr Ix.cptLinkState (n.val + 1) 4).wr Ix.cptLinkRateInUse (n.val + 1) 0).wr Ix.cptCameraConnections (n.val + 1)
      0).portFlag n 4).rd Ix.cptLinkLossCount (n.val + 1)) = s.rd Ix.cptLinkLossCount (n.val + 1) := by
    refine (rd_wr_port_ne _ n _ (by decide)).trans ?_
    rw [rd_wr_port_ne _ n _ (by decide), rd_wr_port_ne _ n _ (by decide), rd_wr_port_ne _ n _ (by decide)]
  rw [before]

end

/-! ### A link that stays lost -/

/-- A function that is neither Running nor Faulted and faults shows the cause; EVF's inbox and BST's work are as they were (R22). -/
theorem enterFaulted_shown {s : State} {f : Fn} {cause : Nat} (hfaulted : s.fn f ≠ .faulted) (hruns : s.runs f = false)
    (hcause : cause < 2 ^ 32) :
    (s.enterFaulted f cause).fn f = .faulted ∧ (s.enterFaulted f cause).rd (f.base + 3) f.sub = cause ∧
      (s.enterFaulted f cause).evf.inbox = s.evf.inbox ∧ (s.enterFaulted f cause).bst.test = s.bst.test ∧
      (s.enterFaulted f cause).bst.round = s.bst.round := by
  obtain ⟨frame, -, state, -, -, -⟩ := entered_enter (s := s) (f := f) (st := .faulted) (fun h => by rw [hruns] at h; cases h)
  have hsub := fn_sub_lt f
  have keeps : StartKeeps f (((s.enter f .faulted).wr (f.base + 3) f.sub cause).clearBit (f.base + 4) f.sub flagStartPending)
      (s.enterFaulted f cause) := by
    unfold State.enterFaulted
    rw [if_neg hfaulted]
    exact StartKeeps.cross (R_ite (StartKeeps.refl _ _).of_regs (.refl _ _)) _ _ _
  obtain ⟨common, inbox, test, round⟩ := keeps
  refine ⟨?_, ?_, inbox.trans ?_, test.trans ?_, round.trans ?_⟩
  · rw [← state]
    refine congrArg FnState.ofCode ((common (k := 0) (by decide)).trans ?_)
    rw [rd_clearBit_of_index _ _ (by omega) hsub hsub]
    exact rd_wr_of_index _ _ (by omega) hsub hsub
  · rw [common (by decide), rd_clearBit_of_index _ _ (by omega) hsub hsub, rd_wr, if_pos rfl,
      bitsAt_common f (k := 3) (by decide) rfl]
    exact Nat.mod_eq_of_lt hcause
  · rw [clearBit_evf, wr_evf, frame]
  · rw [clearBit_bst, wr_bst, frame]
  · rw [clearBit_bst, wr_bst, frame]

/-- A port that neither runs nor drains and faults has its strip cut off at most, and enters Faulted (R22, R112). -/
theorem faults_port_idle {s : State} {n : Fin 32} {cause : Nat} (hrest : s.AtRest) (hcause : cause < 2 ^ 32)
    (hfn : s.fn (.cpt n) = .stopped ∨ s.fn (.cpt n) = .armed) :
    (s.faults (.cpt n) cause).settle.fn (.cpt n) = .faulted ∧ (s.faults (.cpt n) cause).settle.rd 0x3003 (n.val + 1) = cause := by
  obtain ⟨hinbox, htest, hround⟩ := hrest
  have hfaulted : s.fn (.cpt n) ≠ .faulted := by rcases hfn with h | h <;> rw [h] <;> decide
  have hdraining : s.fn (.cpt n) ≠ .draining := by rcases hfn with h | h <;> rw [h] <;> decide
  have hruns : s.runs (.cpt n) = false := by
    rw [← Bool.not_eq_true, runs_iff]
    rcases hfn with h | h <;> rw [h] <;> decide
  obtain ⟨v, hv, hfaults⟩ : ∃ v, (v = s ∨ v = s.portTruncate n) ∧ s.faults (.cpt n) cause = (v.enterFaulted (.cpt n) cause).bstStep := by
    refine ⟨if s.cut.contains (.cpt n) then s else s.portTruncate n, ?_, ?_⟩
    · split
      · exact .inl rfl
      · exact .inr rfl
    · unfold State.faults
      rw [if_neg hfaulted]
      dsimp only
      rw [hruns, if_neg nofun, if_neg (by simp [hdraining])]
  have sent := sent_portTruncate n s
  have hstate : v.rd 0x3000 (n.val + 1) = s.rd 0x3000 (n.val + 1) := by
    rcases hv with rfl | rfl
    · rfl
    · exact sent.rd (by decide) (by omega)
  have hevf : v.evf.inbox = s.evf.inbox := by
    rcases hv with rfl | rfl
    · rfl
    · rw [sent.same]
      rfl
  have hbst : v.bst = s.bst := by
    rcases hv with rfl | rfl
    · rfl
    · rw [sent.same]
      rfl
  have hfn' : v.fn (.cpt n) = s.fn (.cpt n) := congrArg FnState.ofCode hstate
  have hruns' : v.runs (.cpt n) = false := (congrArg (fun x => decide (x = 2)) hstate).trans hruns
  obtain ⟨shown, shownCause, inbox, test, round⟩ := enterFaulted_shown (cause := cause) (hfn' ▸ hfaulted) hruns' hcause
  rw [hfaults, bstStep_of_rest (by rw [test, hbst]; exact htest) (by rw [round, hbst]; exact hround),
    settle_of_empty (by rw [inbox, hevf]; exact hinbox)]
  exact ⟨shown, shownCause⟩

/-- Settles O15: a heartbeat is the port's own note; both ways to lose the link are one operation; a link that stays lost faults its port. -/
theorem cameraLinksWatched : Obligations.CameraLinksWatched := by
  unfold Obligations.CameraLinksWatched
  refine ⟨?_, ?_, ?_⟩
  · intro s n hclocked hup
    have heard : exec (.heartbeat n) s = .next (s.setPort n { s.port n with heard := s.ns }) :=
      congrArg Host.Outcome.next ((whileClocked_eq hclocked _).trans (if_pos hup))
    refine ⟨_, heard, ?_, ?_, rfl, rfl, fun m => setPort_cpt_ne s n _⟩
    · rw [setPort_cpt_same]
    · rw [setPort_cpt_same]
      rfl
  · intro s n hclocked hup
    have lost : exec (.laneLockLoss n) s = .next (s.linkLost n) := congrArg Host.Outcome.next (whileClocked_eq hclocked _)
    refine ⟨_, lost, ?_, ?_, ?_, linkLost_tags hup, linkLost_needResume hup, ?_, lost⟩
    · rw [linkLost_rd hup (by decide), linkDown_state]
    · rw [linkLost_rd hup (by decide), linkDown_rate]
    · rw [linkLost_rd hup (by decide), linkDown_connections]
    · rw [linkLost_rd hup (by decide), linkDown_losses]
  · intro s n hclocked hrest htimeout hlost hresume hfn
    have faulted : exec (.reconnectTimeout n) s = .next (s.faults (.cpt n) 1).settle := by
      refine congrArg Host.Outcome.next ((whileClocked_eq hclocked _).trans (if_pos ?_))
      exact ⟨htimeout, by rw [hlost]; decide, by rw [hlost]; decide, hresume⟩
    exact ⟨_, faulted, faults_port_idle hrest (by decide) hfn⟩

end Sys2Proof.Settled
end

section
/-! Camera lines pair with their tags (O16): frames are bound to strips, lines take buffer slots and tags, tags expire. -/

namespace Sys2Proof.Settled

open Sys2Proof Sys2Proof.Machine Sys2Proof.Laws

/-! ### Overdue tags -/

/-- Where the head of the FIFO is not overdue, nothing expires (R99). -/
theorem retireExpired_none {s : State} {n : Fin 32} (h : (s.port n).tags.takeWhile (fun x => s.overdue n x) = []) : s.retireExpired n = s := by
  unfold State.retireExpired
  dsimp only
  rw [h]
  exact setPort_port s n

/-- The tags that stay pending are those from the first that is not overdue (R99). -/
theorem retireExpired_tags (s : State) (n : Fin 32) :
    ((s.retireExpired n).port n).tags = (s.port n).tags.dropWhile (fun x => s.overdue n x) := by
  have dropped := congrArg (List.drop ((s.port n).tags.takeWhile (fun x => s.overdue n x)).length)
    (List.takeWhile_append_dropWhile (p := fun x => s.overdue n x) (l := (s.port n).tags))
  rw [List.drop_left] at dropped
  rw [(sent_retireExpired n s).port, port_setPort, dropped]

theorem setPort_portTakes (s : State) (n : Fin 32) {c : CptState} (h : c.truncated = (s.port n).truncated) :
    (s.setPort n c).portTakes n = s.portTakes n :=
  portTakes_congr rfl rfl (by rw [port_setPort]; exact h)

/-! ### Frames -/

section
variable {s : State} {n : Fin 32} (htakes : s.portTakes n = true)
include htakes

/-- A frame whose head tag is at index 0 of a strip is bound to it (R98). -/
theorem frameStart_bound {x : Tag} {xs : List Tag} (htags : (s.port n).tags = x :: xs) (hfresh : s.overdue n x = false)
    (hindex : x.line % s.strip = 0) :
    s.frameStart n = s.setPort n { s.port n with framePos := 0, frames := (s.port n).frames + 1, frameStrip := some (x.line / s.strip),
                                                 outOfStep := false } := by
  unfold State.frameStart
  dsimp only
  rw [if_neg (by simp [setPort_portTakes, htakes]), retireExpired_none]
  · simp only [port_setPort, setPort_setPort, setPort_strip, htags, List.head?_cons]
    rw [if_pos hindex]
  · rw [port_setPort, port_setPort, htags]
    exact List.takeWhile_cons_of_neg (by rw [setPort_overdue, setPort_overdue, hfresh]; decide)

/-- A frame that finds no tag puts the port out of step (R98). -/
theorem frameStart_unbound (htags : (s.port n).tags = []) :
    s.frameStart n =
      ((s.setPort n { s.port n with framePos := 0, frames := (s.port n).frames + 1, outOfStep := true, realigned := false }).portFlag n
        13).portEvent n 3 none 0 := by
  unfold State.frameStart
  dsimp only
  rw [if_neg (by simp [setPort_portTakes, htakes]), retireExpired_none]
  · simp only [port_setPort, setPort_setPort, htags, List.head?_nil]
  · rw [port_setPort, port_setPort, htags]
    rfl

/-- The end of a frame out of step withholds triggers (R105). -/
theorem frameEnd_outOfStep (hstep : (s.port n).outOfStep = true) : s.frameEnd n = s.setPort n { s.port n with hold := true } := by
  unfold State.frameEnd
  dsimp only
  rw [if_neg (by rw [htakes]; decide), if_pos hstep]

/-- A frame that ends before its strip retires the strip's pending tags (R104). -/
theorem frameEnd_short {k : Nat} (hstep : (s.port n).outOfStep = false) (hbound : (s.port n).frameStrip = some k)
    (hshort : (s.port n).framePos < s.strip) :
    s.frameEnd n =
      (((s.setPort n { s.port n with tags := (s.port n).tags.filter (fun x => x.line / s.strip != k),
                                     shortHold := (s.port n).stripNow == some k }).retireAll n rsShortFrame
        ((s.port n).tags.filter (fun x => x.line / s.strip == k))).bumpSat Ix.cptStripsClosedShort (n.val + 1) 1).portFlag n 5 := by
  unfold State.frameEnd
  dsimp only
  rw [if_neg (by rw [htakes]; decide), hstep, if_neg Bool.false_ne_true, hbound]
  dsimp only
  rw [if_neg (by omega)]
  rfl

end

/-- A short frame closes its strip, which is counted and shown (R104). -/
theorem frameEnd_short_acts {s : State} {n : Fin 32} {k : Nat} (htakes : s.portTakes n = true) (hstep : (s.port n).outOfStep = false)
    (hbound : (s.port n).frameStrip = some k) (hshort : (s.port n).framePos < s.strip) :
    ((s.frameEnd n).port n).tags = (s.port n).tags.filter (fun x => x.line / s.strip != k) ∧
      (s.frameEnd n).rd Ix.cptStripsClosedShort (n.val + 1) = min (s.rd Ix.cptStripsClosedShort (n.val + 1) + 1) (2 ^ 32 - 1) ∧
      (s.frameEnd n).bit Ix.cptPortStatus (n.val + 1) 5 = true := by
  rw [frameEnd_short htakes hstep hbound hshort]
  have sent := sent_retireAll n (reason := rsShortFrame) (by decide) ((s.port n).tags.filter (fun x => x.line / s.strip == k))
    (s.setPort n { s.port n with tags := (s.port n).tags.filter (fun x => x.line / s.strip != k),
                                 shortHold := (s.port n).stripNow == some k })
  refine ⟨?_, ?_, bit_portFlag _ n (by decide)⟩
  · refine (congrArg CptState.tags sent.port).trans ?_
    rw [port_setPort]
  · refine (rd_wr_port_ne _ n _ (by decide)).trans ?_
    rw [rd_bumpSat_port _ n (bitsAt_port n (by decide)), sent.rd (by decide) (by omega), setPort_rd]

/-! ### Buffer slots -/

/-- A line's first packet takes one of the two buffer slots, or goes without (R107). -/
theorem firstPacket_port (s : State) (n : Fin 32) :
    (s.firstPacket n).port n =
      { s.port n with slots := if (s.port n).slots < 2 then (s.port n).slots + 1 else (s.port n).slots,
                      incoming := (s.port n).incoming ++ [decide ((s.port n).slots < 2)] } := by
  unfold State.firstPacket
  dsimp only
  by_cases hfree : (s.port n).slots < 2
  · rw [if_pos hfree, if_pos hfree, decide_eq_true hfree]
    exact port_setPort s n _
  · rw [if_neg hfree, if_neg hfree, decide_eq_false hfree]
    exact port_setPort s n _

theorem firstPacket_iplIn (s : State) (n : Fin 32) : (s.firstPacket n).iplIn = s.iplIn := by
  unfold State.firstPacket
  exact R_ite (R := fun t => t.iplIn = s.iplIn) rfl rfl

theorem firstPacket_rd (s : State) (n : Fin 32) {ix : Nat} (h : ix ≠ Ix.cptPairBufferHighWater) :
    (s.firstPacket n).rd ix (n.val + 1) = s.rd ix (n.val + 1) := by
  unfold State.firstPacket
  exact R_ite (R := fun t => t.rd ix (n.val + 1) = s.rd ix (n.val + 1)) (rd_wr_port_ne _ n _ h) rfl

/-- The oldest line in transfer completes; a line without a first packet takes its slot now (R98, R107). -/
theorem lineComplete_pairLine (s : State) (n : Fin 32) (extra crcError frameEnd : Bool) (header xSize : Nat) (samples : List Nat) :
    ∃ u, (u = s ∨ u = s.firstPacket n) ∧ s.lineComplete n extra crcError frameEnd header xSize samples =
      (u.setPort n { u.port n with incoming := (u.port n).incoming.drop 1 }).pairLine n ((u.port n).incoming.headD false) extra crcError frameEnd
        header xSize samples := by
  refine ⟨if (s.port n).incoming = [] then s.firstPacket n else s, ?_, rfl⟩
  split
  · exact .inr rfl
  · exact .inl rfl

/-- A line after the last of its frame gives up its slot, is discarded and counted (R98). -/
theorem pairLine_extra (s : State) (n : Fin 32) (hasSlot crcError frameEnd : Bool) (header xSize : Nat) (samples : List Nat) :
    ∃ c, c.tags = (s.port n).tags ∧ s.pairLine n hasSlot true crcError frameEnd header xSize samples =
      ((s.setPort n c).bump Ix.cptUntriggeredLinesDiscarded (n.val + 1) 1).portFlag n 12 := by
  cases hasSlot with
  | true => exact ⟨{ s.port n with slots := (s.port n).slots - 1 }, rfl, rfl⟩
  | false =>
    refine ⟨s.port n, rfl, ?_⟩
    rw [setPort_port]
    rfl

theorem lineComplete_extra_acts (s : State) (n : Fin 32) (crcError frameEnd : Bool) (header xSize : Nat) (samples : List Nat) :
    (s.lineComplete n true crcError frameEnd header xSize samples).rd Ix.cptUntriggeredLinesDiscarded (n.val + 1) =
        (s.rd Ix.cptUntriggeredLinesDiscarded (n.val + 1) + 1) % 2 ^ 64 ∧
      (s.lineComplete n true crcError frameEnd header xSize samples).bit Ix.cptPortStatus (n.val + 1) 12 = true ∧
      ((s.lineComplete n true crcError frameEnd header xSize samples).port n).tags = (s.port n).tags ∧
      (s.lineComplete n true crcError frameEnd header xSize samples).iplIn = s.iplIn := by
  obtain ⟨u, hu, heq⟩ := lineComplete_pairLine s n true crcError frameEnd header xSize samples
  obtain ⟨hcount, hpending, hitems⟩ : u.rd Ix.cptUntriggeredLinesDiscarded (n.val + 1) = s.rd Ix.cptUntriggeredLinesDiscarded (n.val + 1) ∧
      (u.port n).tags = (s.port n).tags ∧ u.iplIn = s.iplIn := by
    rcases hu with rfl | rfl
    · exact ⟨rfl, rfl, rfl⟩
    · exact ⟨firstPacket_rd s n (by decide), by rw [firstPacket_port], firstPacket_iplIn s n⟩
  obtain ⟨c, htags, hpair⟩ := pairLine_extra (u.setPort n { u.port n with incoming := (u.port n).incoming.drop 1 }) n
    ((u.port n).incoming.headD false) crcError frameEnd header xSize samples
  rw [port_setPort] at htags
  rw [heq, hpair, setPort_setPort]
  refine ⟨?_, bit_portFlag _ n (by decide), ?_, hitems⟩
  · refine (rd_wr_port_ne _ n _ (by decide)).trans ((rd_wr_port _ n _ 64 (bitsAt_port n (by decide))).trans ?_)
    rw [setPort_rd, hcount]
  · exact (congrArg CptState.tags (port_setPort u n c)).trans (htags.trans hpending)

/-! ### Sending a line -/

theorem toPipeline_items (s : State) (n : Fin 32) (x : CamItem) {p : Fin 16} (hp : s.pipelineOf n = p) :
    (s.toPipeline n x).iplIn[p] = s.iplIn[p] ++ [x] := by
  subst hp
  simp [State.toPipeline]

@[simp] theorem toPipeline_port (s : State) (n m : Fin 32) (x : CamItem) : (s.toPipeline n x).port m = s.port m := rfl

/-- A strip's close only adds to the pipeline's items, and the next line to send stays (R102). -/
theorem closeStrip_items (s : State) (n : Fin 32) (truncated : Bool) {p : Fin 16} (hp : s.pipelineOf n = p) :
    (∃ more, (s.closeStrip n truncated).iplIn[p] = s.iplIn[p] ++ more) ∧
      ((s.closeStrip n truncated).port n).sendNext = (s.port n).sendNext := by
  unfold State.closeStrip
  dsimp only
  split
  · exact ⟨⟨[], by rw [List.append_nil]⟩, rfl⟩
  · rename_i r hr
    refine ⟨⟨[.close { r with long := (s.port n).long, truncated := truncated }], ?_⟩, ?_⟩
    · rw [(noted_sample _ _ _ _ _).iplIn, portEvent_iplIn]
      exact toPipeline_items (s.setPort n _) n _ hp
    · rw [port_congr (noted_sample _ _ _ _ _).cpt, port_congr (portEvent_cpt _ _ _ _ _), toPipeline_port, port_setPort]

/-- A line that is sent goes to the port's pipeline and is counted; after a strip's last line the strip is closed (R102). -/
theorem sendItem_line (s : State) (n : Fin 32) {tag : LineTag} (v : List Nat) (hreason : tag.reason = 0) :
    ∃ r t, t = ((s.setPort n { s.port n with closing := some r, missing := false, sendNext := some (tag.line + 1) }).toPipeline n
        (.line tag v)).bump Ix.cptLinesDelivered (n.val + 1) 1 ∧
      (s.sendItem n { tag := tag, samples := some v } = t ∨ s.sendItem n { tag := tag, samples := some v } = t.closeStrip n false) := by
  generalize hsend : s.sendItem n { tag := tag, samples := some v } = u
  unfold State.sendItem at hsend
  extract_lets +onlyGivenNames -underBinder S c strip r0 r marker t1 t2 t3 at hsend
  have hmarker : marker = false := decide_eq_false (not_not_intro hreason)
  have h2 : t2 = t1 := if_neg (by rw [hmarker, Bool.false_and]; decide)
  refine ⟨r, t3, ?_, ?_⟩
  · unfold t3
    rw [h2]
    unfold t1
    rw [hmarker]
  · rw [← hsend]
    split
    · exact .inr rfl
    · exact .inl rfl

/-- So the line is the pipeline's next item, a strip's close following it at most, and the next line number is due. -/
theorem sendItem_items (s : State) (n : Fin 32) {tag : LineTag} (v : List Nat) (hreason : tag.reason = 0) {p : Fin 16}
    (hp : s.pipelineOf n = p) :
    (∃ more, (s.sendItem n { tag := tag, samples := some v }).iplIn[p] = s.iplIn[p] ++ CamItem.line tag v :: more) ∧
      ((s.sendItem n { tag := tag, samples := some v }).port n).sendNext = some (tag.line + 1) := by
  obtain ⟨r, t, ht, hsent⟩ := sendItem_line s n v hreason
  have hitems : t.iplIn[p] = s.iplIn[p] ++ [CamItem.line tag v] := by
    rw [ht]
    exact toPipeline_items (s.setPort n _) n _ hp
  have hnext : (t.port n).sendNext = some (tag.line + 1) := by
    rw [ht]
    exact congrArg CptState.sendNext (port_setPort s n _)
  have hpipe : t.pipelineOf n = p := by
    rw [ht, ← hp]
    exact congrArg (Fin.ofNat 16) (rd_wr_port_ne ((s.setPort n _).toPipeline n _) n _ (by decide))
  rcases hsent with hsent | hsent
  · rw [hsent]
    exact ⟨⟨[], hitems⟩, hnext⟩
  · obtain ⟨⟨more, hmore⟩, hclosed⟩ := closeStrip_items t n false hpipe
    rw [hsent]
    exact ⟨⟨more, by rw [hmore, hitems, List.append_assoc]; rfl⟩, hclosed.trans hnext⟩

/-- The tag that a line takes on to its pipeline (R102). -/
def pairedTag (s : State) (n : Fin 32) (x : Tag) (ttl : Nat) (frameStart frameEnd : Bool) : LineTag :=
  { line := x.line, lp := x.lp, time := x.time, triggerToLine := ttl, port := n.val, reason := 0, frameStart := frameStart,
    frameEnd := frameEnd, format := s.rd Ix.cptPixelFormat (n.val + 1), width := s.rd Ix.cptLineWidth (n.val + 1),
    frames := (s.port n).frames % 2 ^ 32 }

/-- A paired line whose number is due is sent at once (R102). -/
theorem resolve_due {s : State} {n : Fin 32} {x : Tag} {ttl : Nat} {frameStart frameEnd : Bool} {v : List Nat} (hresolved : (s.port n).resolved = [])
    (hdue : (s.port n).sendNext = some x.line) :
    s.resolve n x 0 ttl frameStart frameEnd (some v) = s.sendItem n { tag := pairedTag s n x ttl frameStart frameEnd, samples := some v } := by
  have hport : ({ s.port n with resolved := [] } : CptState) = s.port n := by rw [← hresolved]
  unfold State.resolve
  dsimp only
  rw [if_pos rfl, hresolved]
  unfold State.sendResolved
  rw [port_setPort]
  dsimp only [insertResolved]
  rw [if_pos (by simp [hdue]), setPort_setPort, hport, setPort_port]
  rfl

/-! ### A line that pairs -/

/-- The measured times are objects of the extended half (R117); the port and the items stay. -/
theorem measureLine_rd (s : State) (n : Fin 32) (ttl : Nat) (own : Option (Nat × Nat)) {ix : Nat} (hix : ix < 0x3206) :
    (s.measureLine n ttl own).rd ix (n.val + 1) = s.rd ix (n.val + 1) := by
  have other {jx : Nat} (hjx : 0x3206 ≤ jx) : ix ≠ jx := by omega
  unfold State.measureLine
  dsimp only
  rw [(noted_sample _ _ _ _ _).rd (by omega) (by omega)]
  exact (rd_wr_port_ne _ n _ (other (by decide))).trans ((rd_wr_port_ne _ n _ (other (by decide))).trans
    (rd_wr_port_ne s n _ (other (by decide))))

section
variable (s : State) (n : Fin 32) (ttl : Nat) (own : Option (Nat × Nat))

@[simp] theorem measureLine_cpt : (s.measureLine n ttl own).cpt = s.cpt := (noted_sample _ _ _ _ _).cpt

@[simp] theorem measureLine_iplIn : (s.measureLine n ttl own).iplIn = s.iplIn := (noted_sample _ _ _ _ _).iplIn

end

/-- A line in its place that holds a slot, arrived whole and is as its format says takes the oldest tag and its time, and is resolved (R98). -/
theorem pairLine_pairs {s : State} {n : Fin 32} {x : Tag} {xs : List Tag} {frameEnd : Bool} {header xSize : Nat} {samples : List Nat}
    (htakes : s.portTakes n = true) (hstep : (s.port n).outOfStep = false) (hplace : (s.port n).framePos < s.strip)
    (htags : (s.port n).tags = x :: xs) (hfresh : s.overdue n x = false) (hbound : (s.port n).frameStrip = some (x.line / s.strip))
    (hheader : header = formatHeader (s.rd Ix.cptPixelFormat (n.val + 1)))
    (hsize : xSize = formatRows (s.rd Ix.cptPixelFormat (n.val + 1)) * s.rd Ix.cptLineWidth (n.val + 1))
    (hlength : samples.length = formatComponents (s.rd Ix.cptPixelFormat (n.val + 1)) * s.rd Ix.cptLineWidth (n.val + 1)) :
    s.pairLine n true false false frameEnd header xSize samples =
      ((s.setPort n { s.port n with framePos := (s.port n).framePos + 1, tags := xs }).measureLine n (min (s.sinceTag x) (2 ^ 32 - 1))
        (some (x.lp, x.time))).resolve n x 0 (min (s.sinceTag x) (2 ^ 32 - 1)) ((s.port n).framePos == 0) frameEnd
          (some (samples.map (fun v => v % 2 ^ formatDepth (s.rd Ix.cptPixelFormat (n.val + 1))))) := by
  unfold State.pairLine
  dsimp only
  rw [if_neg Bool.false_ne_true, if_neg (by simp [setPort_portTakes, htakes]), retireExpired_none]
  · simp only [port_setPort, setPort_setPort, setPort_strip, htags, hstep, hbound]
    rw [if_neg Bool.false_ne_true, if_neg (by omega), if_neg (by simp), if_neg Bool.false_ne_true, if_neg (by simp [hheader, hsize, hlength]),
      if_neg (by decide)]
    rfl
  · rw [port_setPort, htags]
    exact List.takeWhile_cons_of_neg (by rw [setPort_overdue, hfresh]; decide)

/-- The oldest line in transfer completes: it holds a slot where it took one (R107). -/
theorem lineComplete_held {s : State} {n : Fin 32} (hincoming : (s.port n).incoming = [true]) (extra crcError frameEnd : Bool)
    (header xSize : Nat) (samples : List Nat) :
    s.lineComplete n extra crcError frameEnd header xSize samples =
      (s.setPort n { s.port n with incoming := [] }).pairLine n true extra crcError frameEnd header xSize samples := by
  unfold State.lineComplete
  dsimp only
  rw [if_neg (by rw [hincoming]; decide), hincoming]
  rfl

/-- A paired line that is due is sent with its tag; what is left of the port (R98, R102). -/
theorem resolve_measured_acts {s : State} {n : Fin 32} {x : Tag} {ttl : Nat} {own : Option (Nat × Nat)} {frameStart frameEnd : Bool} {v : List Nat}
    (hresolved : (s.port n).resolved = []) (hdue : (s.port n).sendNext = some x.line) :
    ∃ tag more, ((s.measureLine n ttl own).resolve n x 0 ttl frameStart frameEnd (some v)).iplIn[s.pipelineOf n] =
        s.iplIn[s.pipelineOf n] ++ CamItem.line tag v :: more ∧
      tag.line = x.line ∧ tag.lp = x.lp ∧ tag.time = x.time ∧ tag.reason = 0 ∧ tag.frameEnd = frameEnd ∧
      (((s.measureLine n ttl own).resolve n x 0 ttl frameStart frameEnd (some v)).port n).tags = (s.port n).tags ∧
      (((s.measureLine n ttl own).resolve n x 0 ttl frameStart frameEnd (some v)).port n).framePos = (s.port n).framePos ∧
      (((s.measureLine n ttl own).resolve n x 0 ttl frameStart frameEnd (some v)).port n).sendNext = some (x.line + 1) := by
  have hport : (s.measureLine n ttl own).port n = s.port n := port_congr (measureLine_cpt s n ttl own) n
  have hpipe : (s.measureLine n ttl own).pipelineOf n = s.pipelineOf n :=
    congrArg (Fin.ofNat 16) (measureLine_rd s n ttl own (by decide))
  have sent := sent_resolve n (s.measureLine n ttl own) x (reason := 0) (by decide) ttl frameStart frameEnd (some v)
  have hdirect := resolve_due (s := s.measureLine n ttl own) (ttl := ttl) (frameStart := frameStart) (frameEnd := frameEnd) (v := v)
    (by rw [hport]; exact hresolved) (by rw [hport]; exact hdue)
  obtain ⟨⟨more, hitems⟩, hnext⟩ := sendItem_items (s.measureLine n ttl own) n
    (tag := pairedTag (s.measureLine n ttl own) n x ttl frameStart frameEnd) v rfl hpipe
  rw [measureLine_iplIn, ← hdirect] at hitems
  rw [← hdirect] at hnext
  refine ⟨_, more, hitems, rfl, rfl, rfl, rfl, rfl, ?_, ?_, hnext⟩
  · rw [sent.port, hport]
  · rw [sent.port, hport]

/-! ### The events at the ports -/

section
variable {s : State} {n : Fin 32} (hclocked : s.clocked = true)
include hclocked

/-- A line that pairs goes on to its pipeline with the oldest tag (R98, R102). -/
theorem exec_lineComplete_pairs {dt : Nat} {x : Tag} {xs : List Tag} {last : Bool} {header xSize : Nat} {samples : List (BitVec 16)}
    (htakes : s.portTakes n = true) (hincoming : (s.cpt[n]).incoming = [true]) (hstep : (s.cpt[n]).outOfStep = false)
    (hplace : (s.cpt[n]).framePos < s.rd Ix.cptStripLength 0) (htags : (s.cpt[n]).tags = x :: xs)
    (hfresh : (s.posCycles dt).overdue n x = false) (hbound : (s.cpt[n]).frameStrip = some (x.line / s.rd Ix.cptStripLength 0))
    (hresolved : (s.cpt[n]).resolved = []) (hdue : (s.cpt[n]).sendNext = some x.line)
    (hheader : header = formatHeader (s.rd Ix.cptPixelFormat (n.val + 1)))
    (hsize : xSize = formatRows (s.rd Ix.cptPixelFormat (n.val + 1)) * s.rd Ix.cptLineWidth (n.val + 1))
    (hlength : samples.length = formatComponents (s.rd Ix.cptPixelFormat (n.val + 1)) * s.rd Ix.cptLineWidth (n.val + 1)) :
    ∃ t tag more, exec (.lineComplete dt n false false last header xSize samples) s = .next t ∧
      t.iplIn[s.pipelineOf n] = s.iplIn[s.pipelineOf n] ++ CamItem.line tag (samples.map (fun v => v.toNat %
        2 ^ formatDepth (s.rd Ix.cptPixelFormat (n.val + 1)))) :: more ∧
      tag.line = x.line ∧ tag.lp = x.lp ∧ tag.time = x.time ∧ tag.reason = 0 ∧ tag.frameEnd = last ∧
      (t.cpt[n]).tags = xs ∧ (t.cpt[n]).framePos = (s.cpt[n]).framePos + 1 ∧ (t.cpt[n]).sendNext = some (x.line + 1) := by
  have hformat : (s.posCycles dt).rd Ix.cptPixelFormat (n.val + 1) = s.rd Ix.cptPixelFormat (n.val + 1) :=
    posCycles_rd s dt (by decide) (by omega)
  have hwidth : (s.posCycles dt).rd Ix.cptLineWidth (n.val + 1) = s.rd Ix.cptLineWidth (n.val + 1) := posCycles_rd s dt (by decide) (by omega)
  have hport : (s.posCycles dt).port n = s.port n := posCycles_port s dt n
  have paired := pairLine_pairs (s := (s.posCycles dt).setPort n { s.port n with incoming := [] }) (n := n) (x := x) (xs := xs)
    (frameEnd := last) (header := header) (xSize := xSize) (samples := samples.map (fun v => v.toNat))
    (by rw [setPort_portTakes _ n (by rw [hport]), posCycles_portTakes]; exact htakes) (by rw [port_setPort]; exact hstep)
    (by rw [port_setPort, setPort_strip, posCycles_strip]; exact hplace) (by rw [port_setPort]; exact htags) (by rw [setPort_overdue]; exact hfresh)
    (by rw [port_setPort, setPort_strip, posCycles_strip]; exact hbound) (by rw [setPort_rd, hformat]; exact hheader)
    (by rw [setPort_rd, setPort_rd, hformat, hwidth]; exact hsize)
    (by rw [setPort_rd, setPort_rd, hformat, hwidth, List.length_map]; exact hlength)
  rw [port_setPort, setPort_setPort, setPort_rd, hformat, List.map_map] at paired
  have done : exec (.lineComplete dt n false false last header xSize samples) s =
      .next ((s.posCycles dt).lineComplete n false false last header xSize (samples.map (fun v => v.toNat))) :=
    congrArg Host.Outcome.next (whileClocked_eq hclocked _)
  rw [lineComplete_held (by rw [hport]; exact hincoming), hport, paired] at done
  obtain ⟨tag, more, hitems, hline, hlp, htime, hreason, hlast, hrest, hnextPlace, hnext⟩ := resolve_measured_acts
    (s := (s.posCycles dt).setPort n { s.port n with incoming := [], framePos := (s.port n).framePos + 1, tags := xs }) (n := n) (x := x)
    (ttl := min (((s.posCycles dt).setPort n { s.port n with incoming := [] }).sinceTag x) (2 ^ 32 - 1))
    (by rw [port_setPort]; exact hresolved) (by rw [port_setPort]; exact hdue)
  rw [port_setPort] at hrest hnextPlace
  simp only [setPort_pipelineOf, posCycles_pipelineOf, setPort_iplIn, posCycles_iplIn] at hitems
  exact ⟨_, tag, more, done, hitems, hline, hlp, htime, hreason, hlast, hrest, hnextPlace, hnext⟩

/-- The falling edge follows its rising edge (R95). -/
theorem exec_triggerPacketFall (hhigh : (s.cpt[n]).pulsesHigh ≠ 0) :
    exec (.triggerPacketFall n) s =
      .next (((s.setPort n { s.port n with pulsesHigh := (s.port n).pulsesHigh - 1 }).emit (.triggerPacket n.val
        (s.rd Ix.cptHighSpeedUpconnection (n.val + 1) == 1) false (Config.triggerDelay s.free))).takeFree) :=
  congrArg Host.Outcome.next ((whileClocked_eq hclocked _).trans (if_neg hhigh))

end

/-- Settles O16: every event of a frame or line by what it leaves of the port once the cycles before it have passed. -/
theorem cameraLinesPair : Obligations.CameraLinesPair := by
  unfold Obligations.CameraLinesPair
  refine ⟨?_, ?_, ?_, ?_, ?_, ?_, ?_, ?_, ?_⟩
  · intro s dt n x xs hclocked htakes htags hfresh hindex
    have bound := frameStart_bound (s := s.posCycles dt) (n := n) (by rw [posCycles_portTakes]; exact htakes)
      (by rw [posCycles_port]; exact htags) hfresh (by rw [posCycles_strip]; exact hindex)
    rw [posCycles_port, posCycles_strip] at bound
    refine ⟨_, congrArg Host.Outcome.next ((whileClocked_eq hclocked _).trans bound), ?_⟩
    rw [setPort_cpt_same]
    exact ⟨rfl, rfl, rfl, rfl, htags⟩
  · intro s dt n hclocked htakes htags
    have unbound := frameStart_unbound (s := s.posCycles dt) (n := n) (by rw [posCycles_portTakes]; exact htakes)
      (by rw [posCycles_port]; exact htags)
    refine ⟨_, congrArg Host.Outcome.next ((whileClocked_eq hclocked _).trans unbound), ?_, ?_, ?_⟩
    · rw [portEvent_cpt]
      exact congrArg CptState.outOfStep (port_setPort (s.posCycles dt) n _)
    · rw [portEvent_cpt]
      exact congrArg CptState.framePos (port_setPort (s.posCycles dt) n _)
    · rw [bit_congr (portEvent_rd _ _ _ _ _ (by decide) (by decide) (by omega))]
      exact bit_portFlag _ n (by decide)
  · intro s dt n hclocked
    have taken := firstPacket_port (s.posCycles dt) n
    rw [posCycles_port] at taken
    exact ⟨_, congrArg Host.Outcome.next (whileClocked_eq hclocked _), congrArg CptState.incoming taken, congrArg CptState.slots taken,
      (congrArg CptState.tags taken).trans rfl⟩
  · intro s dt n x xs last header xSize samples hclocked htakes hincoming hstep hplace htags hfresh hbound hresolved hdue hheader hsize hlength
    exact exec_lineComplete_pairs hclocked htakes hincoming hstep hplace htags hfresh hbound hresolved hdue hheader hsize hlength
  · intro s dt n c e header xSize samples hclocked
    obtain ⟨hcount, hflag, htags, hitems⟩ := lineComplete_extra_acts (s.posCycles dt) n c e header xSize (samples.map (fun v => v.toNat))
    rw [posCycles_rd s dt (by decide) (by omega)] at hcount
    rw [posCycles_port] at htags
    rw [posCycles_iplIn] at hitems
    exact ⟨_, congrArg Host.Outcome.next (whileClocked_eq hclocked _), hcount, hflag, htags, hitems⟩
  · intro s dt n hclocked htakes hstep
    have held := frameEnd_outOfStep (s := s.posCycles dt) (n := n) (by rw [posCycles_portTakes]; exact htakes)
      (by rw [posCycles_port]; exact hstep)
    rw [posCycles_port] at held
    refine ⟨_, congrArg Host.Outcome.next ((whileClocked_eq hclocked _).trans held), ?_, ?_, posCycles_iplIn s dt⟩
    · rw [setPort_cpt_same]
    · rw [setPort_cpt_same]
      rfl
  · intro s dt n k hclocked htakes hstep hbound hshort
    obtain ⟨htags, hcount, hflag⟩ := frameEnd_short_acts (s := s.posCycles dt) (n := n) (k := k) (by rw [posCycles_portTakes]; exact htakes)
      (by rw [posCycles_port]; exact hstep) (by rw [posCycles_port]; exact hbound) (by rw [posCycles_port, posCycles_strip]; exact hshort)
    rw [posCycles_port, posCycles_strip] at htags
    rw [posCycles_rd s dt (by decide) (by omega)] at hcount
    exact ⟨_, congrArg Host.Outcome.next (whileClocked_eq hclocked _), htags, hcount, hflag⟩
  · intro s dt n hclocked
    have kept := retireExpired_tags (s.posCycles dt) n
    rw [posCycles_port] at kept
    exact ⟨_, congrArg Host.Outcome.next (whileClocked_eq hclocked _), kept⟩
  · intro s n hclocked hhigh
    refine ⟨_, exec_triggerPacketFall hclocked hhigh, rfl, ?_, rfl, fun m => setPort_cpt_ne s n _⟩
    exact congrArg CptState.pulsesHigh (port_setPort s n _)

end Sys2Proof.Settled
end

section
/-! Camera control, events, Resume and the strip length (O17): the control tunnel over the dictionary and the camera's answers. -/

namespace Sys2Proof.Settled

open Sys2Proof Sys2Proof.Machine Sys2Proof.Laws

/-! ### Writes of the block of the camera ports -/

@[simp] theorem asked_cpt (s : State) (r : Req) (x : Session) : (s.takeFree.asked r x).cpt = s.cpt := by rw [asked_same]

/-- A write of an object of the camera ports' own goes to their block (R116). -/
theorem writeEffect_cameras (s : State) {w : WriteCall} {ix : Nat} (hix : w.ix = ix) (h : ix / 0x400 = 12 ∧ 8 ≤ ix % 0x400) :
    s.writeEffect w = s.writeCpt w := by
  subst hix
  exact writeEffect_cpt s h.1 (Nat.not_lt.mpr h.2)

theorem instanceOf_port (n : Fin 32) : instanceOf 32 (n.val + 1) = n := by
  apply Fin.ext
  show (n.val + 1 - 1) % 32 = n.val
  omega

theorem controlRequest_row (n : Fin 32) :
    rowOf Ix.cptControlRequest (n.val + 1) = some ⟨0x3040, 0x3040, 1, 32, .oct, .wo, 2, 0, .len 8 1032⟩ := by
  revert n
  decide +kernel

theorem resume_row (n : Fin 32) : rowOf Ix.cptResume (n.val + 1) = some ⟨0x301c, 0x301c, 1, 32, .u8, .wo, 1, 0, .span 1 1⟩ := by
  revert n
  decide +kernel

/-- A granted write of octets is performed whatever its object answers, and that answer is stored and sent (R430, R437). -/
theorem writeOctets_performed {s u : State} {r : Req} {x : Session} {ix sub : Nat} {value : Octets} {row : ObjRow} {c : Code}
    (hgrants : s.Grants r x ix sub value) (hrow : rowOf ix sub = some row) (hty : row.ty.isOctets = true)
    (heffect : (s.takeFree.asked r x).writeEffect
      { session := x.asking r s.ns, around := s.surround, row := row, ix := ix, sub := sub, v := 0, bs := value } = (u, c))
    (hc : c ≠ .sequence) :
    s.writeFree r ix sub value =
      ((store u r { opcode := 0x11, status := c.value, payload := [] }).respond r.path r.session.toNat r.seq.toNat
        { opcode := 0x11, status := c.value, payload := [] }).afterRequest := by
  obtain ⟨hasks, hwrite, -⟩ := hgrants
  obtain ⟨row', o, hrow', ho, hreply⟩ := writeReply_granted s.surround hwrite
  obtain rfl : row' = row := Option.some.inj ((writeCheck_row hrow').symm.trans hrow)
  obtain rfl : o = { num := 0, octets := value } := by
    unfold readOperand at ho
    rw [if_pos hty] at ho
    split at ho
    · exact (Option.some.inj ho).symm
    · cases ho
  have hy : (s.takeFree.asked r x).writeReply (x.asking r s.ns) s.surround r.path ix sub value = { state := u, code := c } := by
    rw [hreply, heffect]
  have hasks' : s.takeFree.Asks r x := hasks
  have hns : s.takeFree.ns = s.ns := rfl
  unfold State.writeFree State.writeRequest
  rw [request_asks hasks' 0x11 (fun t y => t.writeReply y s.surround r.path ix sub value) (by rw [hns, hy]; exact hc), hns, hy]

/-- What an effect has put out stays in the output when its answer is sent. -/
theorem performed_out {u : State} {r : Req} {a : Response} (hreset : u.power.resetDue = false) :
    ∃ after, (((store u r a).respond r.path r.session.toNat r.seq.toNat a).afterRequest).out = u.out ++ after := by
  have h : ((store u r a).respond r.path r.session.toNat r.seq.toNat a).power.resetDue = false := by rw [respond_power]; exact hreset
  obtain ⟨after, hout⟩ := respond_out (store u r a) r.path r.session.toNat r.seq.toNat a
  unfold State.afterRequest
  rw [h, if_neg Bool.false_ne_true]
  exact ⟨_, hout⟩

/-! ### The control tunnel -/

section
variable {s : State} {r : Req} {x : Session} {n : Fin 32} {value : Octets}
  (hgrants : s.Grants r x Ix.cptControlRequest (n.val + 1) value)
include hgrants

/-- A write of Control request goes to the control tunnel, which finds the port's objects as they were (R108). -/
theorem controlRequest_performed {u : State} {c : Code} (hsend : (s.takeFree.asked r x).controlSend n value = (u, c)) (hc : c ≠ .sequence) :
    s.writeFree r Ix.cptControlRequest (n.val + 1) value =
      ((store u r { opcode := 0x11, status := c.value, payload := [] }).respond r.path r.session.toNat r.seq.toNat
        { opcode := 0x11, status := c.value, payload := [] }).afterRequest := by
  refine writeOctets_performed hgrants (controlRequest_row n) rfl ?_ hc
  rw [writeEffect_cameras _ (ix := Ix.cptControlRequest) rfl (by decide)]
  unfold State.writeCpt
  dsimp only
  rw [if_neg (by decide), if_neg (by decide), if_pos rfl, instanceOf_port]
  exact hsend

variable (hup : s.rd Ix.cptLinkState (n.val + 1) = 3) (hok : controlOk value = true)
include hup hok

/-- A control request on an up link while none waits is sent to the camera (R108). -/
theorem controlRequest_sent (hidle : s.rd Ix.cptControlStatus (n.val + 1) ≠ 1) :
    ∃ t, exec (.controlRequest r n value) s = .next t ∧ s.Answers t r 0x11 .ok [] ∧ t.rd Ix.cptControlStatus (n.val + 1) = 1 ∧
      Output.cameraControl n.val value ∈ t.out.drop s.out.length ∧ t.cpt = s.cpt ∧ t.octs = s.octs := by
  have uncounted {ix : Nat} (h : 0x2000 ≤ ix ∧ ix < 0x6000) : key ix (n.val + 1) ∉ pathCounters r.path :=
    block_uncounted r.path ⟨h.1, h.2, by omega⟩
  have hsend : (s.takeFree.asked r x).controlSend n value =
      (((s.takeFree.asked r x).wr Ix.cptControlStatus (n.val + 1) 1).emit (.cameraControl n.val value), .ok) := by
    unfold State.controlSend
    rw [asked_rd s r x (uncounted (by decide)), asked_rd s r x (uncounted (by decide)), if_neg (not_not_intro hup), if_neg (by simp [hok]),
      if_neg hidle]
  have hreset : (((s.takeFree.asked r x).wr Ix.cptControlStatus (n.val + 1) 1).emit (.cameraControl n.val value)).power.resetDue = false := by
    rw [emit_power, wr_power, asked_power]
    exact hgrants.2.2
  have hperformed := controlRequest_performed hgrants hsend (by decide)
  obtain ⟨after, hout⟩ := performed_out (r := r) (a := { opcode := 0x11, status := Code.ok.value, payload := [] }) hreset
  obtain ⟨same, counted, answers⟩ := replied_respond (s := s) (r := r) (c := .ok) hreset
  rw [← hperformed] at hout same counted answers
  rw [emit_out, wr_out, asked_out] at hout
  refine ⟨_, rfl, answers ⟨_, by rw [emit_out, wr_out, asked_out]⟩, ?_, ?_, ?_, ?_⟩
  · rw [counted _ _ (uncounted (by decide)), emit_rd]
    exact rd_wr_port _ n 1 8 (bitsAt_port n (by decide))
  · rw [hout, List.append_assoc, List.drop_left]
    exact List.mem_append_left _ (List.mem_singleton_self _)
  · rw [same]
    exact asked_cpt s r x
  · rw [same]
    exact asked_octs s r x

/-- A control request while another waits is refused as busy and changes nothing (R108). -/
theorem controlRequest_busy (hwaits : s.rd Ix.cptControlStatus (n.val + 1) = 1) :
    ∃ t, exec (.controlRequest r n value) s = .next t ∧ s.Answers t r 0x11 .busy [] ∧ t.octs = s.octs ∧
      ∀ ix sub, key ix sub ∉ pathCounters r.path → t.rd ix sub = s.rd ix sub := by
  have uncounted {ix : Nat} (h : 0x2000 ≤ ix ∧ ix < 0x6000) : key ix (n.val + 1) ∉ pathCounters r.path :=
    block_uncounted r.path ⟨h.1, h.2, by omega⟩
  have hsend : (s.takeFree.asked r x).controlSend n value = (s.takeFree.asked r x, .busy) := by
    unfold State.controlSend
    rw [asked_rd s r x (uncounted (by decide)), asked_rd s r x (uncounted (by decide)), if_neg (not_not_intro hup), if_neg (by simp [hok]),
      if_pos hwaits]
  have hperformed := controlRequest_performed hgrants hsend (by decide)
  obtain ⟨same, counted, answers⟩ := replied_respond (s := s) (u := s.takeFree.asked r x) (r := r) (c := .busy)
    (by rw [asked_power]; exact hgrants.2.2)
  rw [← hperformed] at same counted answers
  refine ⟨_, rfl, answers ⟨[], by rw [asked_out, List.append_nil]⟩, ?_, fun ix sub h => (counted ix sub h).trans (asked_rd s r x h)⟩
  rw [same]
  exact asked_octs s r x

end

/-- The camera's acknowledgement ends the request that waits (R109). -/
theorem exec_controlResponse {s : State} {n : Fin 32} (hclocked : s.clocked = true) (hwaits : s.rd Ix.cptControlStatus (n.val + 1) = 1)
    (ack : BitVec 8) (data : Octets) :
    exec (.controlResponse n ack data) s =
      .next ((s.wr Ix.cptControlStatus (n.val + 1) (if ack = 0 then 2 else 4)).wro Ix.cptControlResponse (n.val + 1)
        (leBytes 1 (if ack = 0 then 2 else 4) ++ leBytes 1 ack.toNat ++ leBytes 2 data.length ++ data.take 1024)) :=
  congrArg Host.Outcome.next ((whileClocked_eq hclocked _).trans (if_neg (not_not_intro hwaits)))

/-- A late acknowledgement is discarded (R111). -/
theorem exec_controlResponse_late {s : State} {n : Fin 32} (hlate : s.rd Ix.cptControlStatus (n.val + 1) ≠ 1) (ack : BitVec 8) (data : Octets) :
    exec (.controlResponse n ack data) s = .next s := by
  have late : s.controlAnswer n ack data = s := if_pos hlate
  refine congrArg Host.Outcome.next ?_
  unfold State.whileClocked
  dsimp only
  rw [late, ite_self]

/-- An unanswered request ends and shows (R111). -/
theorem exec_controlTimeout {s : State} {n : Fin 32} (hclocked : s.clocked = true) (hwaits : s.rd Ix.cptControlStatus (n.val + 1) = 1) :
    exec (.controlTimeout n) s = .next ((s.wr Ix.cptControlStatus (n.val + 1) 3).portFlag n 18) :=
  congrArg Host.Outcome.next ((whileClocked_eq hclocked _).trans (if_pos hwaits))

/-! ### Camera events, Resume and the strip length -/

/-- A camera's event packet is kept, counted and shown (R110). -/
theorem cameraEvent_acts {s : State} (n : Fin 32) (packet : Octets) (hclocked : s.clocked = true) :
    ∃ t, exec (.cameraEvent n packet) s = .next t ∧ t.rdo Ix.cptLastCameraEvent (n.val + 1) = (packet ++ zeros 16).take 16 ∧
      t.rd Ix.cptCameraEventCount (n.val + 1) = (s.rd Ix.cptCameraEventCount (n.val + 1) + 1) % 2 ^ 32 ∧
      t.bit Ix.cptPortStatus (n.val + 1) 17 = true ∧ t.cpt = s.cpt ∧ t.dram = s.dram := by
  refine ⟨_, congrArg Host.Outcome.next (whileClocked_eq hclocked _), ?_, ?_, ?_, portEvent_cpt _ _ _ _ _, portEvent_dram _ _ _ _ _⟩
  · unfold State.cameraEvent State.rdo
    rw [portEvent_octs]
    exact (rdo_wro (s.bump Ix.cptCameraEventCount (n.val + 1) 1) Ix.cptLastCameraEvent (n.val + 1) _ _ _).trans (if_pos rfl)
  · refine (portEvent_rd _ _ _ _ _ (by decide) (by decide) (by omega)).trans ((rd_wr_port_ne _ n _ (by decide)).trans ?_)
    exact rd_wr_port s n _ 32 (bitsAt_port n (by decide))
  · refine (bit_congr (portEvent_rd _ _ _ _ _ (by decide) (by decide) (by omega)) 17).trans ?_
    exact bit_portFlag _ n (by decide)

/-- Resume on an up link is taken (R115). -/
theorem resume_acts {s : State} {r : Req} {x : Session} {n : Fin 32} (hgrants : s.Grants r x Ix.cptResume (n.val + 1) (pathNum r.path 1 1))
    (hup : s.rd Ix.cptLinkState (n.val + 1) = 3) :
    ∃ t, exec (.resume r n 1) s = .next t ∧ s.Answers t r 0x11 .ok [] ∧ (t.cpt[n]).resumed = true ∧ (t.cpt[n]).tags = (s.cpt[n]).tags ∧
      ∀ m, m ≠ n → t.cpt[m] = s.cpt[m] := by
  have hup' : (s.takeFree.asked r x).rd Ix.cptLinkState (n.val + 1) = 3 := by
    rw [asked_rd s r x (block_uncounted r.path ⟨by decide, by decide, by omega⟩)]
    exact hup
  have answered : Answered s ((s.takeFree.asked r x).setPort n { s.port n with resumed := true })
      (s.writeNumber r Ix.cptResume (n.val + 1) 1 1) r := by
    refine writeNumber_answered hgrants (resume_row n) rfl rfl (by decide) ?_ (asked_power s r x)
    rw [writeEffect_cameras _ (ix := Ix.cptResume) rfl (by decide)]
    unfold State.writeCpt
    dsimp only
    rw [if_neg (by decide), if_pos rfl, instanceOf_port]
    unfold State.portResume
    rw [if_pos hup', port_congr (asked_cpt s r x)]
  have hcpt : (s.writeNumber r Ix.cptResume (n.val + 1) 1 1).cpt = (s.setPort n { s.port n with resumed := true }).cpt := by
    rw [answered.same]
    unfold State.setPort
    dsimp only
    rw [asked_cpt]
  refine ⟨_, rfl, answered_ok answered (asked_out s r x), ?_, ?_, fun m hm => ?_⟩
  · exact (congrArg CptState.resumed (port_congr hcpt n)).trans (by rw [port_setPort])
  · exact (congrArg CptState.tags (port_congr hcpt n)).trans (by rw [port_setPort]; rfl)
  · exact (port_congr hcpt m).trans (setPort_cpt_ne s n _ hm)

/-- Strip length is written and nothing else changes (R103). -/
theorem stripLength_acts {s : State} {r : Req} {x : Session} {v : BitVec 32}
    (hgrants : s.Grants r x Ix.cptStripLength 0 (pathNum r.path 4 v.toNat)) :
    ∃ t, exec (.stripLengthWrite r v) s = .next t ∧ s.Answers t r 0x11 .ok [] ∧ t.rd Ix.cptStripLength 0 = v.toNat ∧ t.cpt = s.cpt ∧
      t.octs = s.octs ∧ t.dram = s.dram ∧
      ∀ ix sub, key ix sub ≠ key Ix.cptStripLength 0 → key ix sub ∉ pathCounters r.path → t.rd ix sub = s.rd ix sub := by
  have hrow : rowOf Ix.cptStripLength 0 = some ⟨0x3010, 0x3010, 0, 0, .u32, .rws, 1, 0x1000, .span 0x100 0x10000⟩ := rfl
  have hbits : bitsAt (key Ix.cptStripLength 0) = 32 := rfl
  obtain ⟨same, counted, answers⟩ : Answered s ((s.takeFree.asked r x).wr Ix.cptStripLength 0 v.toNat)
      (s.writeNumber r Ix.cptStripLength 0 4 v.toNat) r :=
    writeNumber_answered hgrants hrow rfl rfl v.isLt (writeEffect_cameras _ (ix := Ix.cptStripLength) rfl (by decide)) (asked_power s r x)
  refine ⟨_, rfl, answers ⟨[], by rw [wr_out, asked_out, List.append_nil]⟩, ?_, ?_, ?_, ?_, fun ix sub hother hpath => ?_⟩
  · rw [counted _ _ (block_uncounted r.path (by decide)), rd_wr, if_pos rfl, hbits]
    exact Nat.mod_eq_of_lt v.isLt
  · rw [same]
    exact asked_cpt s r x
  · rw [same]
    exact asked_octs s r x
  · rw [same]
    exact asked_dram s r x
  · rw [counted ix sub hpath, rd_wr, if_neg hother, asked_rd s r x hpath]

/-- Settles O17: the control tunnel by Control status, and each write by its answered effect. -/
theorem cameraControlAct : Obligations.CameraControlAct := by
  unfold Obligations.CameraControlAct
  refine ⟨fun s r x n value => controlRequest_sent, fun s r x n value => controlRequest_busy, ?_, ?_,
    fun s n ack data hlate => exec_controlResponse_late hlate ack data, fun s n packet => cameraEvent_acts n packet,
    fun s r x n => resume_acts, fun s r x v => stripLength_acts⟩
  · intro s n ack data hclocked hwaits
    refine ⟨_, exec_controlResponse hclocked hwaits ack data, ?_, ?_, rfl, rfl⟩
    · rw [wro_rd, rd_wr_port _ n _ 8 (bitsAt_port n (by decide))]
      split <;> rfl
    · rw [rdo_wro, if_pos rfl]
  · intro s n hclocked hwaits
    refine ⟨_, exec_controlTimeout hclocked hwaits, ?_, bit_portFlag _ n (by decide), rfl, rfl⟩
    exact (rd_wr_port_ne _ n _ (by decide)).trans (rd_wr_port s n 3 8 (bitsAt_port n (by decide)))

end Sys2Proof.Settled
end

section
/-! The states that refute two statements about spares: a hand-back on a decommissioned device (O19), and a hand-back to an engine that SEG does not
have (O25). -/

namespace Sys2Proof.Settled

open Sys2Proof Sys2Proof.Machine

/-! ### A hand-back that ARM's checks refuse -/

/-- A session of mailbox 0 at level 2, the highest that a decommissioned device grants (R497). -/
def maintenanceSession : Session := { configSession with level := 2 }

/-- A decommissioned device in Run whose spare pipeline serves pipeline 0, which is Stopped and whose settings ARM would accept. -/
def decommissionedServing : State :=
  { ((((runDevice.wr Ix.lifLifeCycleState 0 3).wr spareFn.base spareFn.sub 2).wr Ix.iplSpareState 0 3).wr Ix.iplSpareServing 0 0).wr
      Ix.iplOutputSpace 0 2 with sessions := [maintenanceSession] }

theorem decommissionedServing_grants_handBack : decommissionedServing.AtRest ∧ decommissionedServing.EvfStill ∧
    decommissionedServing.Grants configRequest maintenanceSession Ix.iplSpareCommand 0 (pathNum configRequest.path 1 2) := by
  and_intros <;> decide +kernel

theorem decommissionedServing_spare : decommissionedServing.rd Ix.iplSpareState 0 = 3 ∧
    decommissionedServing.rd Ix.iplSpareServing 0 = (0 : Fin 16).val ∧ decommissionedServing.fn (iplFn 0) = .stopped ∧
    decommissionedServing.iplArmable 0 = true ∧ decommissionedServing.substituted (0 : Fin 16).val = false ∧
    decommissionedServing.bstHolds 16 = false ∧ decommissionedServing.fn spareFn = .running := by
  and_intros <;> decide +kernel

/-- HAND_BACK is refused as ARM would be (R146, R497): the spare goes on serving. -/
theorem decommissionedServing_serves_on :
    nextPasses (exec (.handBack configRequest) decommissionedServing) (fun t => t.rd Ix.iplSpareState 0 == 3) = true := by decide +kernel

/-- Refutes O19 in its fifth clause: the statement asks that the pipeline's settings pass ARM's checks, and not that the device would admit ARM. In
`decommissionedServing` the life-cycle state refuses ARM, so HAND_BACK is refused (R146) and the spare state stays 3. -/
theorem not_spareActs : ¬ Obligations.SpareActs := by
  unfold Obligations.SpareActs
  rintro ⟨-, -, -, -, handsBack, -⟩
  obtain ⟨hrest, hstill, hgrants⟩ := decommissionedServing_grants_handBack
  obtain ⟨hstate, hserving, hstopped, harmable, hfused, hholds, hruns⟩ := decommissionedServing_spare
  obtain ⟨t, ht, -, hhanding, -⟩ := handsBack decommissionedServing configRequest maintenanceSession 0 hrest hstill hgrants hstate hserving
    hstopped harmable hfused hholds hruns
  have serving := decommissionedServing_serves_on
  rw [ht, nextPasses_next, hhanding] at serving
  exact absurd serving (by decide)

/-! ### A CLEAR that takes an engine beyond the last with it -/

/-- An engine so far beyond the last that the key of its Logical segment is that of engine 32's fault cause. -/
def strayEngine : Nat := key Ix.segEngineFaultCause 33 - key Ix.segLogicalSegment 1

/-- Engine 32, the first spare's own, is faulted while the spare hands back to the stray engine. -/
def handsBackToStray : State :=
  { (runDevice.wr Ix.segEngineState 33 4).wr Ix.segSpareState 1 4 with
    sessions := [configSession]
    seg := { spares := (Vector.replicate 4 {}).set 0 { replaced := some strayEngine } } }

theorem handsBackToStray_grants_clear : handsBackToStray.AtRest ∧
    handsBackToStray.Grants configRequest configSession Ix.segEngineCommand 33 (pathNum configRequest.path 1 1) ∧
    handsBackToStray.substituted (unitSeg 32) = false ∧ handsBackToStray.rd Ix.segEngineState 33 = 4 := by
  and_intros <;> decide +kernel

/-- CLEAR returns the spare to idle and the engine it handed back to with it: the stray engine's segment, 255, lands on the fault cause. -/
theorem handsBackToStray_keeps_cause :
    nextPasses (exec (.engineClear configRequest 32) handsBackToStray) (fun t => t.rd Ix.segEngineFaultCause 33 == 255) = true := by
  decide +kernel

/-- Refutes O25 for CLEAR of a spare's own engine. Nothing in the statement bounds the engine that a spare hands back to, and CLEAR returns that
engine to idle too: one whose objects' keys meet those of the cleared engine writes its fault cause. The device itself hands back only to the 36
engines that SEG has; the statement does not exclude the state `handsBackToStray`. -/
theorem not_segmentEnginesAct : ¬ Obligations.SegmentEnginesAct := by
  unfold Obligations.SegmentEnginesAct
  rintro ⟨-, -, -, -, -, -, -, -, -, clears, -⟩
  obtain ⟨hrest, hgrants, hfused, hfaulted⟩ := handsBackToStray_grants_clear
  obtain ⟨t, ht, -, -, -, hcause, -⟩ := clears handsBackToStray configRequest configSession 32 hrest hgrants hfused hfaulted
  have written := handsBackToStray_keeps_cause
  rw [ht, nextPasses_next, show t.rd Ix.segEngineFaultCause 33 = 0 from hcause] at written
  exact absurd written (by decide)

end Sys2Proof.Settled
end

section
/-! What MRE's chapter has in common (R196 to R206): its flags and events, the page queue and its objects, the binder's state, and the data of a
load as it enters the DRAM. -/

namespace Sys2Proof.Settled

open Sys2Proof Sys2Proof.Machine Sys2Proof.Laws

/-! ### Flags and events -/

/-- The indices of the objects that MRE's flags and its events' crossings to EVF write (R232, R407). -/
def signalWrites (ix : Nat) : Bool := [Ix.mreInspectionStatus, Ix.evfMergedAtCrossing, Ix.evfFabricStatus].contains ix

/-- MRE has set flags of Inspection status and sent events on their way to EVF; all else is as it was. -/
structure Signals (s t : State) : Prop where
  same : t = { s with regs := t.regs, evf := { s.evf with slots := t.evf.slots } }
  rd : ∀ {ix sub : Nat}, signalWrites ix = false → sub < 256 → t.rd ix sub = s.rd ix sub
  flags : ∀ {b : Nat}, b < 32 → s.bit Ix.mreInspectionStatus 0 b = true → t.bit Ix.mreInspectionStatus 0 b = true

theorem bitsAt_inspection : bitsAt (key Ix.mreInspectionStatus 0) = 32 := rfl

section
variable {s t u : State}

theorem Signals.refl (s : State) : Signals s s := ⟨rfl, fun _ _ => rfl, fun _ h => h⟩

theorem Signals.trans (h : Signals s t) (k : Signals t u) : Signals s u := by
  obtain ⟨hsame, hrd, hflags⟩ := h
  obtain ⟨ksame, krd, kflags⟩ := k
  refine ⟨?_, fun hix hsub => (krd hix hsub).trans (hrd hix hsub), fun hb hset => kflags hb (hflags hb hset)⟩
  rw [ksame, hsame]

theorem Signals.mre (h : Signals s t) : t.mre = s.mre := by rw [h.same]
theorem Signals.dram (h : Signals s t) : t.dram = s.dram := by rw [h.same]
theorem Signals.power (h : Signals s t) : t.power = s.power := by rw [h.same]
theorem Signals.out (h : Signals s t) : t.out = s.out := by rw [h.same]

theorem signals_inspFlag (s : State) (b : Nat) : Signals s (s.inspFlag b) := by
  refine ⟨rfl, fun {ix sub} hix hsub => ?_, fun {c} hc hset => ?_⟩
  · exact rd_wr_of_index s _ (fun e => by rw [e] at hix; cases hix) (by decide) hsub
  · unfold State.bit at hset ⊢
    unfold State.inspFlag
    rw [rd_setBit, if_pos rfl, bitsAt_inspection, Nat.testBit_mod_two_pow, Nat.testBit_or, hset, Bool.true_or, Bool.and_true]
    exact decide_eq_true hc

theorem bit_inspFlag (s : State) {b : Nat} (hb : b < 32) : (s.inspFlag b).bit Ix.mreInspectionStatus 0 b = true :=
  bit_setBit (by rw [bitsAt_inspection]; exact hb)

theorem signals_cross (s : State) (code : Nat) (own : Option (Nat × Nat)) (arg : Nat) : Signals s (s.cross code own arg) := by
  have merged : Signals s ((s.bump Ix.evfMergedAtCrossing 0 1).setBit Ix.evfFabricStatus 0 1) := by
    have other {ix sub : Nat} (hmerged : ix ≠ Ix.evfMergedAtCrossing) (hstatus : ix ≠ Ix.evfFabricStatus) (hsub : sub < 256) :
        ((s.bump Ix.evfMergedAtCrossing 0 1).setBit Ix.evfFabricStatus 0 1).rd ix sub = s.rd ix sub :=
      (rd_wr_of_index _ _ hstatus (by decide) hsub).trans (rd_wr_of_index s _ hmerged (by decide) hsub)
    refine ⟨rfl, fun {ix sub} hix hsub => other ?_ ?_ hsub, fun {b} _ hset => ?_⟩
    · exact fun e => by rw [e] at hix; cases hix
    · exact fun e => by rw [e] at hix; cases hix
    · rw [bit_congr (other (by decide) (by decide) (by decide))]
      exact hset
  unfold State.cross
  exact R_ite merged ⟨rfl, fun _ _ => rfl, fun _ h => h⟩

/-- A flag that is set, and shown to EVF by its event. -/
theorem signals_flag_cross (s : State) (b code : Nat) (own : Option (Nat × Nat)) (arg : Nat) :
    Signals s ((s.inspFlag b).cross code own arg) := (signals_inspFlag s b).trans (signals_cross _ code own arg)

theorem bit_flag_cross (s : State) {b : Nat} (hb : b < 32) (code : Nat) (own : Option (Nat × Nat)) (arg : Nat) :
    ((s.inspFlag b).cross code own arg).bit Ix.mreInspectionStatus 0 b = true :=
  (signals_cross _ code own arg).flags hb (bit_inspFlag s hb)

end

/-! ### The page queue and its objects -/

/-- The state with the queue replaced and its two counts shown, before QUEUE_LOW (R199, R200). -/
def queueShown (s : State) (q : List MasterPage) : State :=
  (({ s with mre := { s.mre with queue := q, ready := readyHead q } } : State).wr Ix.mrePagesQueued 0 q.length).wr Ix.mrePagesReady 0 (readyHead q)

/-- What follows a change of the queue is QUEUE_LOW and its event (R200). -/
theorem signals_setPages (s : State) (q : List MasterPage) : Signals (queueShown s q) (s.setPages q) := by
  unfold State.setPages
  exact R_ite (signals_flag_cross _ _ _ _ _) (.refl _)

section
variable (s : State) (q : List MasterPage)

@[simp] theorem setPages_mre : (s.setPages q).mre = { s.mre with queue := q, ready := readyHead q } := (signals_setPages s q).mre
@[simp] theorem setPages_dram : (s.setPages q).dram = s.dram := (signals_setPages s q).dram
@[simp] theorem setPages_power : (s.setPages q).power = s.power := (signals_setPages s q).power
@[simp] theorem setPages_out : (s.setPages q).out = s.out := (signals_setPages s q).out

theorem setPages_rd {ix sub : Nat} (h : signalWrites ix = false) (hqueued : ix ≠ Ix.mrePagesQueued) (hready : ix ≠ Ix.mrePagesReady)
    (hsub : sub < 256) : (s.setPages q).rd ix sub = s.rd ix sub :=
  calc (s.setPages q).rd ix sub
    _ = (queueShown s q).rd ix sub := (signals_setPages s q).rd h hsub
    _ = s.rd ix sub := (rd_wr_of_index _ _ hready (by decide) hsub).trans (rd_wr_of_index _ _ hqueued (by decide) hsub)

theorem setPages_queued : (s.setPages q).rd Ix.mrePagesQueued 0 = q.length % 2 ^ 16 :=
  calc (s.setPages q).rd Ix.mrePagesQueued 0
    _ = (queueShown s q).rd Ix.mrePagesQueued 0 := (signals_setPages s q).rd rfl (by decide)
    _ = q.length % 2 ^ 16 := (rd_wr_of_index _ _ (by decide) (by decide) (by decide)).trans (rd_wr _ _ _ _ _ _)

theorem setPages_ready : (s.setPages q).rd Ix.mrePagesReady 0 = readyHead q % 2 ^ 16 :=
  calc (s.setPages q).rd Ix.mrePagesReady 0
    _ = (queueShown s q).rd Ix.mrePagesReady 0 := (signals_setPages s q).rd rfl (by decide)
    _ = readyHead q % 2 ^ 16 := rd_wr _ _ _ _ _ _

theorem setPages_flags {b : Nat} (hb : b < 32) (h : s.bit Ix.mreInspectionStatus 0 b = true) :
    (s.setPages q).bit Ix.mreInspectionStatus 0 b = true := by
  refine (signals_setPages s q).flags hb ?_
  have hshown : (queueShown s q).rd Ix.mreInspectionStatus 0 = s.rd Ix.mreInspectionStatus 0 :=
    (rd_wr_of_index _ _ (by decide) (by decide) (by decide)).trans (rd_wr_of_index _ _ (by decide) (by decide) (by decide))
  rw [bit_congr hshown]
  exact h

end

/-- The page that replaces the only page of a queue stands alone. -/
theorem replacePage_singleton {p q : MasterPage} (h : q.number = p.number) : replacePage [p] q = [q] := by
  simp [replacePage, h]

/-! ### The binder's state -/

theorem and_two_pow_of_not_testBit {n b : Nat} (h : n.testBit b = false) : n &&& 2 ^ b = 0 := by
  apply Nat.eq_of_testBit_eq
  intro i
  rw [Nat.testBit_and, Nat.testBit_two_pow, Nat.zero_testBit]
  by_cases hi : b = i
  · rw [← hi, h, Bool.false_and]
  · rw [decide_eq_false hi, Bool.and_false]

/-- Clearing a bit leaves the higher ones. -/
theorem testBit_sub_and_of_lt {n b c : Nat} (h : b < c) : (n - (n &&& 2 ^ b)).testBit c = n.testBit c := by
  have hpred (q : Nat) (hq : q % 2 = 1) : (q - 1) / 2 = q / 2 := by omega
  have hhalf : (n - (n &&& 2 ^ b)) / 2 ^ (b + 1) = n / 2 ^ (b + 1) := by
    cases hbit : n.testBit b with
    | false => rw [and_two_pow_of_not_testBit hbit, Nat.sub_zero]
    | true =>
      have hodd : n / 2 ^ b % 2 = 1 := of_decide_eq_true (Nat.testBit_eq_decide_div_mod_eq.symm.trans hbit)
      have hless : (n - 2 ^ b) / 2 ^ b = n / 2 ^ b - 1 := by
        have := Nat.sub_mul_div n (2 ^ b) 1
        rwa [Nat.mul_one] at this
      calc (n - (n &&& 2 ^ b)) / 2 ^ (b + 1)
        _ = (n - 2 ^ b) / 2 ^ b / 2 := by rw [and_two_pow_of_testBit hbit, Nat.pow_succ, Nat.div_div_eq_div_mul]
        _ = n / 2 ^ b / 2 := by rw [hless]; exact hpred _ hodd
        _ = n / 2 ^ (b + 1) := by rw [Nat.pow_succ, Nat.div_div_eq_div_mul]
  have hc : c = c - (b + 1) + (b + 1) := by omega
  rw [hc, ← Nat.testBit_div_two_pow, ← Nat.testBit_div_two_pow, hhalf]

section
variable (s : State) {k : Nat}

@[simp] theorem setBinder_mre : (s.setBinder k).mre = s.mre := rfl

theorem setBinder_rd {ix sub : Nat} (hbinding : ix ≠ Ix.mreBindingState) (hstatus : ix ≠ Ix.mreInspectionStatus) (hsub : sub < 256) :
    (s.setBinder k).rd ix sub = s.rd ix sub := by
  unfold State.setBinder State.putBit
  rw [rd_wr_of_index _ _ hstatus (by decide) hsub, rd_wr_of_index _ _ hstatus (by decide) hsub, rd_wr_of_index _ _ hstatus (by decide) hsub,
    rd_wr_of_index _ _ hbinding (by decide) hsub]

theorem setBinder_binding (hk : k < 2 ^ 8) : (s.setBinder k).rd Ix.mreBindingState 0 = k := by
  have hbits : bitsAt (key Ix.mreBindingState 0) = 8 := rfl
  unfold State.setBinder State.putBit
  rw [rd_wr_of_index _ _ (by decide) (by decide) (by decide), rd_wr_of_index _ _ (by decide) (by decide) (by decide),
    rd_wr_of_index _ _ (by decide) (by decide) (by decide), rd_wr, if_pos rfl, hbits, Nat.mod_eq_of_lt hk]

/-- The binder's bits of Inspection status are the lowest three; the flags beyond them stay set (R232). -/
theorem setBinder_flags {b : Nat} (hlow : 2 < b) (hb : b < 32) (h : s.bit Ix.mreInspectionStatus 0 b = true) :
    (s.setBinder k).bit Ix.mreInspectionStatus 0 b = true := by
  have put {t : State} {c : Nat} (v : Bool) (hc : c < b) (ht : t.bit Ix.mreInspectionStatus 0 b = true) :
      (t.putBit Ix.mreInspectionStatus 0 c v).bit Ix.mreInspectionStatus 0 b = true := by
    unfold State.bit at ht ⊢
    unfold State.putBit
    rw [rd_wr, if_pos rfl, bitsAt_inspection, Nat.testBit_mod_two_pow, decide_eq_true hb, Bool.true_and]
    cases v with
    | true => rw [if_pos rfl, Nat.testBit_or, ht, Bool.true_or]
    | false => rw [if_neg Bool.false_ne_true, testBit_sub_and_of_lt hc, ht]
  have hbinding : (s.wr Ix.mreBindingState 0 k).bit Ix.mreInspectionStatus 0 b = true :=
    (bit_congr (rd_wr_of_index s k (by decide) (by decide) (by decide)) b).trans h
  exact put _ hlow (put _ (by omega) (put _ (by omega) hbinding))

end

/-! ### Data as they enter the DRAM -/

/-- The state with another output and another state of MRE. -/
def aside (o : List Output) (m : MreState) (s : State) : State := { s with out := o, mre := m }

section
variable (o : List Output) (m : MreState) (s : State)

theorem ite_aside {c d : Prop} [Decidable c] [Decidable d] {a b x y : State} (hcond : d ↔ c) (ha : x = aside o m a) (hb : y = aside o m b) :
    (if d then x else y) = aside o m (if c then a else b) := by
  by_cases hc : c
  · rw [if_pos hc, if_pos (hcond.mpr hc), ha]
  · rw [if_neg hc, if_neg (mt hcond.mp hc), hb]

theorem activate_aside (n : Fin 8) : (aside o m s).activate n = aside o m (s.activate n) := by
  unfold State.activate
  exact ite_aside o m Iff.rfl rfl rfl

theorem pmcAdd_aside (ix sub n : Nat) : (aside o m s).pmcAdd ix sub n = aside o m (s.pmcAdd ix sub n) := by
  unfold State.pmcAdd
  exact ite_aside o m Iff.rfl rfl rfl

theorem tally_aside (code inst n : Nat) : (aside o m s).tally code inst n = aside o m (s.tally code inst n) := by
  unfold State.tally
  refine ite_aside o m Iff.rfl ?_ rfl
  exact List.foldl_hom (aside o m) (fun t k => ite_aside o m Iff.rfl (pmcAdd_aside o m t _ _ _) rfl)

theorem putUnit_aside (n : Fin 8) (addr : Nat) (data : Octets) : (aside o m s).putUnit n addr data = aside o m (s.putUnit n addr data) := by
  unfold State.putUnit
  rw [activate_aside, tally_aside]
  split <;> exact ite_aside o m Iff.rfl rfl rfl

theorem writeUnit_aside (addr : Nat) (data : Octets) : (aside o m s).writeUnit addr data = aside o m (s.writeUnit addr data) := by
  unfold State.writeUnit
  rw [show (aside o m s).dramChannel (unitOf addr) = s.dramChannel (unitOf addr) from rfl]
  split
  · rfl
  · exact ite_aside o m Iff.rfl rfl (putUnit_aside o m s _ addr data)

theorem storeUnits_aside (addr : Nat) (data : Octets) (fuel : Nat) :
    (aside o m s).storeUnits addr data fuel = aside o m (s.storeUnits addr data fuel) := by
  induction fuel generalizing s addr data with
  | zero => rfl
  | succ fuel ih =>
    unfold State.storeUnits
    exact ite_aside o m Iff.rfl rfl ((congrArg (fun t => State.storeUnits t _ _ fuel) (writeUnit_aside o m s _ _)).trans (ih _ _ _))

/-- A write to the DRAM reads neither the output nor MRE's state, and changes neither (R389). -/
theorem dramStore_aside (addr : Nat) (data : Octets) : (aside o m s).dramStore addr data = aside o m (s.dramStore addr data) :=
  storeUnits_aside o m s addr data _

end

@[simp] theorem dramStore_mre (s : State) (addr : Nat) (data : Octets) : (s.dramStore addr data).mre = s.mre := by
  have h := congrArg (fun t : State => t.mre) (dramStore_aside s.out s.mre s addr data)
  exact h

/-- What a fetch from the host brings is stored as if the fetch had put nothing out (R197). -/
theorem fetched_dram (s : State) (c : Fin 32) (host n addr : Nat) (data : Octets) :
    ((s.hostFetch c host n).dramStore addr data).dram = (s.dramStore addr data).dram := by
  have h := congrArg (fun t : State => t.dram) (dramStore_aside (s.hostFetch c host n).out s.mre s addr data)
  exact h

end Sys2Proof.Settled
end

section
/-! The master queue (O22): pages are submitted, loaded and checked, and the queue commands act (R196 to R199). -/

namespace Sys2Proof.Settled

open Sys2Proof Sys2Proof.Machine Sys2Proof.Laws

/-! ### Writes of MRE's block -/

/-- A granted write of a number is performed whatever its object answers, and that answer is stored and sent (R430, R437). -/
theorem writeNumber_replied {s u : State} {r : Req} {x : Session} {ix sub n v : Nat} {row : ObjRow} {c : Code}
    (hgrants : s.Grants r x ix sub (pathNum r.path n v)) (hrow : rowOf ix sub = some row) (hty : row.ty.isOctets = false)
    (hn : row.ty.bytes = n) (hv : v < 256 ^ n)
    (heffect : (s.takeFree.asked r x).writeEffect
      { session := x.asking r s.ns, around := s.surround, row := row, ix := ix, sub := sub, v := v, bs := [] } = (u, c))
    (hc : c ≠ .sequence) (hpower : u.power = s.power) : Replied s u (s.writeNumber r ix sub n v) r c := by
  obtain ⟨hasks, hwrite, hreset⟩ := hgrants
  obtain ⟨row', o, hrow', ho, hreply⟩ := writeReply_granted s.surround hwrite
  obtain rfl : row' = row := Option.some.inj ((writeCheck_row hrow').symm.trans hrow)
  obtain rfl : o = { num := v, octets := [] } := by
    unfold readOperand at ho
    rw [hty, if_neg Bool.false_ne_true, if_pos (by rw [pathNum_length, hn]), pathNat_pathNum, Nat.mod_eq_of_lt hv] at ho
    exact (Option.some.inj ho).symm
  have hy : (s.takeFree.asked r x).writeReply (x.asking r s.ns) s.surround r.path ix sub (pathNum r.path n v) = { state := u, code := c } := by
    rw [hreply, heffect]
  have hasks' : s.takeFree.Asks r x := hasks
  have hns : s.takeFree.ns = s.ns := rfl
  unfold State.writeNumber State.writeFree State.writeRequest
  rw [request_asks hasks' 0x11 (fun t y => t.writeReply y s.surround r.path ix sub (pathNum r.path n v)) (by rw [hns, hy]; exact hc), hns, hy]
  exact replied_respond (by rw [hpower]; exact hreset)

theorem Replied.mre {s u t : State} {r : Req} {c : Code} (h : Replied s u t r c) : t.mre = u.mre := by rw [h.same]

theorem Replied.dram {s u t : State} {r : Req} {c : Code} (h : Replied s u t r c) : t.dram = u.dram := by rw [h.same]

/-- An answered write whose effect puts nothing out. -/
theorem Replied.answered {s u t : State} {r : Req} {c : Code} (h : Replied s u t r c) (hout : u.out = s.out) : s.Answers t r 0x11 c [] :=
  h.answers ⟨[], by rw [hout, List.append_nil]⟩

/-- An object of MRE's block is as the effect left it. -/
theorem Replied.inspected {s u t : State} {r : Req} {c : Code} (h : Replied s u t r c) {ix : Nat} (hix : 0x2000 ≤ ix ∧ ix < 0x6000) :
    t.rd ix 0 = u.rd ix 0 := h.counted _ _ (block_uncounted r.path ⟨hix.1, hix.2, by decide⟩)

/-- A write of an object of MRE's own goes to its block (R232). -/
theorem writeEffect_inspection (s : State) {w : WriteCall} {ix : Nat} (hix : w.ix = ix) (h : ix / 0x400 = 16 ∧ 8 ≤ ix % 0x400) :
    s.writeEffect w = s.writeMre w := by
  subst hix
  exact writeEffect_mre s h.1 (Nat.not_lt.mpr h.2)

section
variable (s : State) (r : Req) (x : Session)

@[simp] theorem asked_mre : (s.takeFree.asked r x).mre = s.mre := by rw [asked_same]

/-- An object of a block from WPU's up to the field ports' is as it was before the request's frame came. -/
theorem asked_block {ix : Nat} (hix : 0x2000 ≤ ix ∧ ix < 0x6000) : (s.takeFree.asked r x).rd ix 0 = s.rd ix 0 :=
  asked_rd s r x (block_uncounted r.path ⟨hix.1, hix.2, by decide⟩)

theorem asked_clocked : (s.takeFree.asked r x).clocked = s.clocked := by
  unfold State.clocked State.on
  rw [asked_power, asked_rd s r x (powerState_uncounted r.path)]

theorem asked_region (i : Nat) : (s.takeFree.asked r x).region i = s.region i := by
  have hdmc : (s.takeFree.asked r x).dmc = s.dmc := by rw [asked_same]
  have hsizes : (s.takeFree.asked r x).regionSizes = s.regionSizes := by
    unfold State.regionSizes
    rw [hdmc, asked_block s r x (by decide), asked_block s r x (by decide), asked_block s r x (by decide)]
  unfold State.region
  rw [hsizes, hdmc]

end

/-! ### Submits -/

/-- Why a Page submit of 32 octets is out of range (R196). -/
abbrev submitBarred (s : State) (v : Octets) : Prop :=
  leAt v 0 4 ≤ s.rd Ix.mreLastSubmittedPage 0 ∨ leAt v 0 4 ≤ s.mre.lastBound ∨ leAt v 8 8 % 16 ≠ 0 ∨ leAt v 16 8 = 0 ∨
    (s.region 4).2 < leAt v 16 8 ∨ leAt v 24 8 ≠ 0

/-- The page that a submit queues (R196). -/
def submittedPage (v : Octets) : MasterPage := { number := leAt v 0 4, tag := leAt v 4 4, host := leAt v 8 8, len := leAt v 16 8 }

theorem submitPage_eq {s : State} (hclocked : s.clocked = true) (v : Octets) :
    s.submitPage v =
      if v.length ≠ 32 ∨ submitBarred s v then (s, .outOfRange)
      else if s.rd Ix.mreQueueCapacity 0 ≤ s.mre.queue.length then (s, .busy)
      else ((s.setPages (s.mre.queue ++ [submittedPage v])).wr Ix.mreLastSubmittedPage 0 (leAt v 0 4), .ok) := by
  unfold State.submitPage
  rw [hclocked]
  rfl

theorem submitBarred_asked (s : State) (r : Req) (x : Session) (v : Octets) : submitBarred (s.takeFree.asked r x) v ↔ submitBarred s v := by
  unfold submitBarred
  rw [asked_block s r x (by decide), asked_mre, asked_region]

/-- A submit in range that finds room is queued at the end (R196). -/
theorem submitPage_queues {s : State} {v : Octets} (hclocked : s.clocked = true) (hlength : v.length = 32) (hopen : ¬ submitBarred s v)
    (hroom : s.mre.queue.length < s.rd Ix.mreQueueCapacity 0) :
    s.submitPage v = ((s.setPages (s.mre.queue ++ [submittedPage v])).wr Ix.mreLastSubmittedPage 0 (leAt v 0 4), .ok) := by
  rw [submitPage_eq hclocked, if_neg (by simp only [hlength, ne_eq, not_true, false_or]; exact hopen), if_neg (Nat.not_le.mpr hroom)]

theorem submitPage_refuses {s : State} {v : Octets} (hclocked : s.clocked = true) (hbarred : submitBarred s v) :
    s.submitPage v = (s, .outOfRange) := by
  rw [submitPage_eq hclocked, if_pos (.inr hbarred)]

/-- Octets spell a number below 256 to the power of their count (R5). -/
theorem ofLe_lt (bs : Octets) : ofLe bs < 256 ^ bs.length := by
  induction bs with
  | nil => decide
  | cons b bs ih =>
    have hb := b.isLt
    rw [List.length_cons, Nat.pow_succ]
    unfold ofLe
    omega

theorem leAt_lt (v : Octets) (off n : Nat) : leAt v off n < 256 ^ n :=
  Nat.lt_of_lt_of_le (ofLe_lt _) (Nat.pow_le_pow_right (by decide) (List.length_take_le n _))

section
variable {s : State} {r : Req} {x : Session} {value : Octets} (hgrants : s.Grants r x Ix.mrePageSubmit 0 value)
include hgrants

theorem pageSubmit_replied {u : State} {c : Code} (hsubmit : (s.takeFree.asked r x).submitPage value = (u, c)) (hc : c ≠ .sequence)
    (hpower : u.power = s.power) : ∃ t, exec (.pageSubmit r value) s = .next t ∧ Replied s u t r c := by
  have hrow : rowOf Ix.mrePageSubmit 0 = some ⟨0x4011, 0x4011, 0, 0, .oct, .wo, 1, 0, .len 32 32⟩ := rfl
  refine ⟨_, rfl, ?_⟩
  rw [writeOctets_performed hgrants hrow rfl ?_ hc]
  · exact replied_respond (by rw [hpower]; exact hgrants.2.2)
  · rw [writeEffect_inspection _ (ix := Ix.mrePageSubmit) rfl (by decide)]
    exact hsubmit

/-- A submit in range that finds room is queued at the end (R196). -/
theorem pageSubmit_queues (hclocked : s.clocked = true) (hlength : value.length = 32) (hopen : ¬ submitBarred s value)
    (hroom : s.mre.queue.length < s.rd Ix.mreQueueCapacity 0) :
    ∃ t, exec (.pageSubmit r value) s = .next t ∧ s.Answers t r 0x11 .ok [] ∧ t.mre.queue = s.mre.queue ++ [submittedPage value] ∧
      t.rd Ix.mreLastSubmittedPage 0 = leAt value 0 4 ∧ t.rd Ix.mrePagesQueued 0 = (s.mre.queue.length + 1) % 2 ^ 16 ∧
      t.mre.bound = s.mre.bound ∧ t.dram = s.dram := by
  have hsubmit := submitPage_queues ((asked_clocked s r x).trans hclocked) hlength (mt (submitBarred_asked s r x value).mp hopen)
    (by rw [asked_mre, asked_block s r x (by decide)]; exact hroom)
  obtain ⟨t, hexec, replied⟩ := pageSubmit_replied hgrants hsubmit (by decide) (by simp)
  refine ⟨t, hexec, replied.answered (by simp), ?_, ?_, ?_, ?_, ?_⟩
  · rw [replied.mre, wr_mre, setPages_mre, asked_mre]
  · have hbits : bitsAt (key Ix.mreLastSubmittedPage 0) = 32 := rfl
    rw [replied.inspected (by decide), rd_wr, if_pos rfl, hbits]
    exact Nat.mod_eq_of_lt (leAt_lt value 0 4)
  · rw [replied.inspected (by decide), rd_wr_of_index _ _ (by decide) (by decide) (by decide), setPages_queued, List.length_append, asked_mre]
    rfl
  · rw [replied.mre, wr_mre, setPages_mre, asked_mre]
  · rw [replied.dram, wr_dram, setPages_dram, asked_dram]

/-- A submit out of range is refused (R196). -/
theorem pageSubmit_refuses (hclocked : s.clocked = true) (hbarred : submitBarred s value) :
    ∃ t, exec (.pageSubmit r value) s = .next t ∧ s.Answers t r 0x11 .outOfRange [] ∧ t.mre = s.mre := by
  have hsubmit := submitPage_refuses ((asked_clocked s r x).trans hclocked) ((submitBarred_asked s r x value).mpr hbarred)
  obtain ⟨t, hexec, replied⟩ := pageSubmit_replied hgrants hsubmit (by decide) (asked_power s r x)
  exact ⟨t, hexec, replied.answered (asked_out s r x), replied.mre.trans (asked_mre s r x)⟩

end

/-! ### Loads -/

theorem startLoad_starts {s : State} {p : MasterPage} {a : Nat} (hmoves : s.loadsMove = true)
    (hfirst : s.mre.queue.find? (fun q => q.load == .loading) = some p) (hstill : p.moving = false) (hplace : s.placeFor p.len = some a) :
    s.startLoad = ({ s with dma := s.dma.set 31 { s.dma[31] with failing := none } } : State).setPages
      (replacePage s.mre.queue { p with moving := true, place := some a }) := by
  unfold State.startLoad
  rw [hfirst]
  dsimp only
  rw [if_neg (by simp [hstill, hmoves]), hplace]

/-- A page whose load fails keeps its number and gives its place back (R197). -/
abbrev failedPage (p : MasterPage) : MasterPage := { p with load := .failed, moving := false, place := none }

/-- A page whose image is good is ready, with the header's octets at hand (R197). -/
abbrev loadedPage (p : MasterPage) (image : Octets) : MasterPage := { p with load := .ready, moving := false, head := image.take 64 }

section
variable (s : State) (p : MasterPage)

theorem signals_failLoad : Signals (s.setPages (replacePage s.mre.queue (failedPage p))) (s.failLoad p) := signals_flag_cross _ _ _ _ _

theorem failLoad_mre :
    (s.failLoad p).mre = { s.mre with queue := replacePage s.mre.queue (failedPage p), ready := readyHead (replacePage s.mre.queue (failedPage p)) } :=
  (signals_failLoad s p).mre.trans (setPages_mre s _)

theorem failLoad_dram : (s.failLoad p).dram = s.dram := (signals_failLoad s p).dram.trans (setPages_dram s _)

theorem failLoad_flag : (s.failLoad p).bit Ix.mreInspectionStatus 0 isLoadFail = true := bit_flag_cross _ (by decide) _ _ _

end

/-- A failed load leaves the page failed and LOAD_FAIL set, whatever has been written beside MRE's state (R197). -/
theorem failLoad_acts {s u : State} {p : MasterPage} (hmre : u.mre = s.mre) :
    (u.failLoad p).mre.queue = replacePage s.mre.queue (failedPage p) ∧ (u.failLoad p).bit Ix.mreInspectionStatus 0 9 = true ∧
      (u.failLoad p).dram = u.dram ∧ (u.failLoad p).mre.bound = s.mre.bound := by
  refine ⟨?_, failLoad_flag u p, failLoad_dram u p, ?_⟩ <;> rw [failLoad_mre, hmre]

/-- The page that loads, where it is the only one. -/
theorem movingPage_singleton {s : State} {p : MasterPage} (hqueue : s.mre.queue = [p]) (hmoving : p.moving = true) : s.movingPage = some p := by
  unfold State.movingPage
  rw [hqueue, List.find?_cons_of_pos hmoving]

section
variable {s : State} {p : MasterPage} (hclocked : s.clocked = true) (hmoving : s.movingPage = some p)
include hclocked hmoving

theorem exec_masterLoadComplete {image : Octets} {dmaError : Bool} (hfits : dmaError = true ∨ image.length = p.len) :
    exec (.masterLoadComplete image dmaError) s = .next (s.endLoad image dmaError) := by
  have himage : s.imageFits image dmaError = true := by
    unfold State.imageFits
    rw [hmoving, Bool.or_eq_true]
    exact hfits.imp_right (fun h => by simp [h])
  show execMasterLoadComplete image dmaError s = _
  unfold execMasterLoadComplete
  rw [if_pos himage, whileClocked_eq hclocked]

/-- A lasting error of the transfer fails the load (R197). -/
theorem masterLoadComplete_dmaError (image : Octets) :
    ∃ t, exec (.masterLoadComplete image true) s = .next t ∧ t.mre.queue = replacePage s.mre.queue (failedPage p) ∧
      t.bit Ix.mreInspectionStatus 0 9 = true ∧ t.dram = s.dram ∧ t.mre.bound = s.mre.bound := by
  refine ⟨_, exec_masterLoadComplete hclocked hmoving (.inl rfl), ?_⟩
  unfold State.endLoad
  rw [hmoving]
  exact failLoad_acts rfl

/-- A load that is not complete in time fails (R197). -/
theorem loadTimeout_fails :
    ∃ t, exec .loadTimeout s = .next t ∧ t.mre.queue = replacePage s.mre.queue (failedPage p) ∧
      t.bit Ix.mreInspectionStatus 0 9 = true ∧ t.dram = s.dram ∧ t.mre.bound = s.mre.bound := by
  have htimes : s.loadTimesOut = s.failLoad p := by
    unfold State.loadTimesOut
    rw [hmoving]
  refine ⟨_, congrArg Host.Outcome.next (whileClocked_eq hclocked _), ?_⟩
  rw [htimes]
  exact failLoad_acts rfl

section
variable {a : Nat} {image : Octets} (hplace : p.place = some a) (hfailing : s.dma[31].failing = none) (hlength : image.length = p.len)
include hplace hfailing hlength

/-- An image that passes the checks is in the DRAM, and its page is ready (R197). -/
theorem masterLoadComplete_ready (hok : imageOk p.len image = true) :
    ∃ t, exec (.masterLoadComplete image false) s = .next t ∧ t.mre.queue = replacePage s.mre.queue (loadedPage p image) ∧
      t.rd Ix.mrePagesReady 0 = readyHead (replacePage s.mre.queue (loadedPage p image)) % 2 ^ 16 ∧
      t.dram = (s.dramStore a image).dram ∧ t.mre.bound = s.mre.bound := by
  refine ⟨_, exec_masterLoadComplete hclocked hmoving (.inr hlength), ?_⟩
  unfold State.endLoad
  simp only [hmoving, hplace, hfailing, hok, Bool.false_eq_true, if_false, if_true, Option.isSome_none]
  rw [setPages_mre, setPages_ready, setPages_dram, dramStore_mre, loadedPage, hplace]
  exact ⟨rfl, rfl, fetched_dram s 31 p.host p.len a image, rfl⟩

/-- An image that fails a check fails its page (R197). -/
theorem masterLoadComplete_failed (hbad : imageOk p.len image = false) :
    ∃ t, exec (.masterLoadComplete image false) s = .next t ∧ t.mre.queue = replacePage s.mre.queue (failedPage p) ∧
      t.bit Ix.mreInspectionStatus 0 9 = true ∧ t.mre.bound = s.mre.bound := by
  refine ⟨_, exec_masterLoadComplete hclocked hmoving (.inr hlength), ?_⟩
  unfold State.endLoad
  simp only [hmoving, hplace, hfailing, hbad, Bool.false_eq_true, if_false, Option.isSome_none]
  obtain ⟨hqueue, hflag, -, hbound⟩ := failLoad_acts (dramStore_mre (s.hostFetch 31 p.host p.len) a image)
  exact ⟨hqueue, hflag, hbound⟩

end

end

/-- Without a page in transfer nothing ends. -/
theorem load_ends_nothing {s : State} (hnone : s.movingPage = none) (image : Octets) (dmaError : Bool) :
    exec (.masterLoadComplete image dmaError) s = .next s ∧ exec .loadTimeout s = .next s := by
  have unmoved {k : State → State} (h : k s = s) : s.whileClocked k = s := by
    unfold State.whileClocked
    rw [h, ite_self]
  have hfits : s.imageFits image dmaError = true := by
    unfold State.imageFits
    rw [hnone, Option.all_none, Bool.or_true]
  constructor
  · show execMasterLoadComplete image dmaError s = _
    unfold execMasterLoadComplete
    rw [if_pos hfits, unmoved]
    unfold State.endLoad
    rw [hnone]
  · refine congrArg Host.Outcome.next (unmoved ?_)
    unfold State.loadTimesOut
    rw [hnone]

/-! ### Queue commands -/

theorem queueCommand_replied {s u : State} {r : Req} {x : Session} {v : Nat} {c : Code}
    (hgrants : s.Grants r x Ix.mreQueueCommand 0 (pathNum r.path 1 v)) (hv : v < 256)
    (hcommand : (s.takeFree.asked r x).queueCommand v = (u, c)) (hc : c ≠ .sequence) (hpower : u.power = s.power) :
    Replied s u (s.writeNumber r Ix.mreQueueCommand 0 1 v) r c := by
  have hrow : rowOf Ix.mreQueueCommand 0 = some ⟨0x4016, 0x4016, 0, 0, .u8, .wo, 1, 0, .span 1 4⟩ := rfl
  refine writeNumber_replied hgrants hrow rfl rfl hv ?_ hc hpower
  rw [writeEffect_inspection _ (ix := Ix.mreQueueCommand) rfl (by decide)]
  exact hcommand

section
variable {s : State} {r : Req} {x : Session}

/-- FLUSH empties the queue, counts its pages and leaves the bound ones (R199). -/
theorem queueFlush_acts (hgrants : s.Grants r x Ix.mreQueueCommand 0 (pathNum r.path 1 1)) :
    ∃ t, exec (.queueFlush r) s = .next t ∧ s.Answers t r 0x11 .ok [] ∧ t.mre.queue = [] ∧ t.mre.bound = s.mre.bound ∧
      t.rd Ix.mrePagesFlushed 0 = (s.rd Ix.mrePagesFlushed 0 + s.mre.queue.length) % 2 ^ 64 ∧ t.rd Ix.mrePagesQueued 0 = 0 := by
  have hbits : bitsAt (key Ix.mrePagesFlushed 0) = 64 := rfl
  have replied := queueCommand_replied (u := (s.takeFree.asked r x).flushPages) (c := .ok) hgrants (by decide) rfl (by decide)
    (by simp [State.flushPages])
  refine ⟨_, rfl, replied.answered (by simp [State.flushPages]), ?_, ?_, ?_, ?_⟩
  · rw [replied.mre, State.flushPages, setPages_mre]
  · rw [replied.mre, State.flushPages, setPages_mre, bump_mre, asked_mre]
  · rw [replied.inspected (by decide), State.flushPages, setPages_rd _ _ rfl (by decide) (by decide) (by decide), rd_bump, if_pos rfl, hbits,
      asked_block s r x (by decide), asked_mre]
  · rw [replied.inspected (by decide), State.flushPages, setPages_queued]
    rfl

/-- MAP_RESET asks the next page start to clear the page map (R199). -/
theorem mapReset_acts (hgrants : s.Grants r x Ix.mreQueueCommand 0 (pathNum r.path 1 2)) :
    ∃ t, exec (.mapReset r) s = .next t ∧ s.Answers t r 0x11 .ok [] ∧ t.mre = { s.mre with mapReset := true } ∧ t.dram = s.dram := by
  have replied := queueCommand_replied (c := .ok) hgrants (by decide) rfl (by decide) (asked_power s r x)
  refine ⟨_, rfl, replied.answered (asked_out s r x), ?_, replied.dram.trans (asked_dram s r x)⟩
  rw [replied.mre, asked_mre]

/-- RELOCK returns the binder to acquiring (R199, R204). -/
theorem relock_acts (hgrants : s.Grants r x Ix.mreQueueCommand 0 (pathNum r.path 1 3)) (hbinder : s.rd Ix.mreBindingState 0 ≠ bsFreeRun) :
    ∃ t, exec (.relock r) s = .next t ∧ s.Answers t r 0x11 .ok [] ∧ t.rd Ix.mreBindingState 0 = bsAcquiring ∧ t.mre.miss = 0 ∧
      t.mre.queue = s.mre.queue ∧ t.mre.bound = s.mre.bound := by
  have hrelock : (s.takeFree.asked r x).relock =
      ({ s.takeFree.asked r x with mre := { s.mre with miss := 0, expiry := none, anyBind := false } } : State).setBinder bsAcquiring := by
    unfold State.relock State.binder
    rw [asked_block s r x (by decide), if_neg hbinder, asked_mre]
  have replied := queueCommand_replied (c := .ok) hgrants (by decide) (congrArg (fun u => (u, Code.ok)) hrelock) (by decide) (asked_power s r x)
  refine ⟨_, rfl, replied.answered (asked_out s r x), ?_, ?_⟩
  · rw [replied.inspected (by decide), setBinder_binding _ (by decide)]
  · rw [replied.mre, setBinder_mre]
    exact ⟨rfl, rfl, rfl⟩

/-- RENUMBER of a Stopped MRE with an empty queue clears the page numbers (R199). -/
theorem renumber_acts (hgrants : s.Grants r x Ix.mreQueueCommand 0 (pathNum r.path 1 4)) (hstopped : s.fn .mre = .stopped)
    (hempty : s.mre.queue = []) :
    ∃ t, exec (.renumber r) s = .next t ∧ s.Answers t r 0x11 .ok [] ∧ t.mre = { s.mre with lastBound := 0 } ∧
      t.rd Ix.mreLastSubmittedPage 0 = 0 := by
  have hrenumber : (s.takeFree.asked r x).renumber =
      (({ s.takeFree.asked r x with mre := { s.mre with lastBound := 0 } } : State).wr Ix.mreLastSubmittedPage 0 0, .ok) := by
    unfold State.renumber
    rw [asked_fn, asked_mre, if_pos ⟨hstopped, hempty⟩]
  have replied := queueCommand_replied hgrants (by decide) hrenumber (by decide) (asked_power s r x)
  refine ⟨_, rfl, replied.answered (asked_out s r x), replied.mre, ?_⟩
  rw [replied.inspected (by decide), rd_wr, if_pos rfl, Nat.zero_mod]

/-- RENUMBER with pages in the queue is refused (R199). -/
theorem renumber_refuses (hgrants : s.Grants r x Ix.mreQueueCommand 0 (pathNum r.path 1 4)) (hqueue : s.mre.queue ≠ []) :
    ∃ t, exec (.renumber r) s = .next t ∧ s.Answers t r 0x11 .wrongState [] ∧ t.mre = s.mre := by
  have hrenumber : (s.takeFree.asked r x).renumber = (s.takeFree.asked r x, .wrongState) := by
    unfold State.renumber
    rw [asked_mre, if_neg (fun h => hqueue h.2)]
  have replied := queueCommand_replied hgrants (by decide) hrenumber (by decide) (asked_power s r x)
  exact ⟨_, rfl, replied.answered (asked_out s r x), replied.mre.trans (asked_mre s r x)⟩

end

/-- Settles O22: a submit and a queue command are performed as the writes that they are; a load that ends or fails replaces its page in the queue,
and where the page is the only one the queue is that page. -/
theorem masterQueueActs : Obligations.MasterQueueActs := by
  unfold Obligations.MasterQueueActs
  refine ⟨?_, ?_, ?_, ?_, ?_, ?_, ?_, ?_, ?_, ?_, ?_, ?_, ?_, ?_, ?_, ?_⟩
  · intro s r x value hgrants hclocked hsubmitted hbound haligned hlen hfits hreserved hlength hroom
    exact pageSubmit_queues hgrants hclocked hlength (by rintro (h | h | h | h | h | h) <;> omega) hroom
  · intro s r x value hgrants hclocked hbarred
    exact pageSubmit_refuses hgrants hclocked hbarred
  · intro s p a hclocked hmoves hfirst hstill hplace
    refine ⟨_, congrArg Host.Outcome.next (whileClocked_eq hclocked _), ?_⟩
    rw [startLoad_starts hmoves hfirst hstill hplace, setPages_mre, setPages_dram]
    exact ⟨rfl, rfl, rfl⟩
  · intro s p a image hclocked hqueue hmoving hplace hfailing hlength hok
    obtain ⟨t, hexec, hpages, hready, hdram, -⟩ :=
      masterLoadComplete_ready hclocked (movingPage_singleton hqueue hmoving) hplace hfailing hlength hok
    rw [hqueue, replacePage_singleton (by rfl)] at hpages hready
    exact ⟨t, hexec, hpages, hready, hdram⟩
  · intro s p a image hclocked _ hqueue hmoving hplace hfailing hlength hbad
    obtain ⟨t, hexec, hpages, hflag, -⟩ :=
      masterLoadComplete_failed hclocked (movingPage_singleton hqueue hmoving) hplace hfailing hlength hbad
    rw [hqueue, replacePage_singleton (by rfl)] at hpages
    exact ⟨t, hexec, hpages, hflag⟩
  · intro s p hclocked _ hqueue hmoving
    obtain ⟨t, hexec, hpages, hflag, hdram, -⟩ := loadTimeout_fails hclocked (movingPage_singleton hqueue hmoving)
    rw [hqueue, replacePage_singleton (by rfl)] at hpages
    exact ⟨t, hexec, hpages, hflag, hdram⟩
  · exact fun s r x hgrants => queueFlush_acts hgrants
  · exact fun s r x hgrants => mapReset_acts hgrants
  · exact fun s r x hgrants hbinder => relock_acts hgrants hbinder
  · exact fun s r x hgrants hstopped hempty => renumber_acts hgrants hstopped hempty
  · exact fun s r x hgrants hqueue => renumber_refuses hgrants hqueue
  · intro s p a image hclocked hmoving hplace hfailing hlength hok
    obtain ⟨t, hexec, hpages, -, hdram, hbound⟩ := masterLoadComplete_ready hclocked hmoving hplace hfailing hlength hok
    exact ⟨t, hexec, hpages, hdram, hbound⟩
  · exact fun s p a image hclocked hmoving hplace hfailing hlength hbad =>
      masterLoadComplete_failed hclocked hmoving hplace hfailing hlength hbad
  · exact fun s p image hclocked hmoving => masterLoadComplete_dmaError hclocked hmoving image
  · exact fun s p hclocked hmoving => loadTimeout_fails hclocked hmoving
  · exact fun s image dmaError hnone => load_ends_nothing hnone image dmaError

end Sys2Proof.Settled
end

section
/-! The binder (O23): page marks are classified, expiries synthesise marks, and either binds the head of the queue (R202 to R206). -/

namespace Sys2Proof.Settled

open Sys2Proof Sys2Proof.Machine Sys2Proof.Laws

/-! ### Binding -/

theorem startOf_mod (s : State) (m : Nat) : s.startOf m % 2 ^ 64 = s.startOf m := by
  unfold State.startOf
  omega

section
variable {s : State} (hbound : s.mre.bound = [])
include hbound

/-- Where no page waits for its start, the reason of a bind is that of the lost lock or of the queue's head (R206). -/
theorem bindReason_lost : s.bindReason true = 5 := by
  unfold State.bindReason
  rw [hbound]
  rfl

theorem bindReason_empty (hqueue : s.mre.queue = []) : s.bindReason false = 1 := by
  unfold State.bindReason
  rw [hbound, hqueue]
  rfl

theorem bindReason_compared {p : MasterPage} {ps : List MasterPage} (hqueue : s.mre.queue = p :: ps) (hready : p.load = .ready)
    (hsuits : s.formatSuits p.head = true) : s.bindReason false = 0 := by
  unfold State.bindReason
  rw [hbound, hqueue]
  simp [hready, hsuits]

end

/-- The page that a bind makes, with the mark it is bound at, its start, and whether the mark is synthesised and the lock lost (R206). -/
structure BoundAs (s : State) (mark time start : Nat) (synth lost : Bool) (page : BoundPage) : Prop where
  number : page.number = (s.mre.queue.head?.map (fun p => p.number)).getD (s.mre.lastBound + 1)
  start : page.start = start % 2 ^ 64
  mark : page.mark = mark
  time : page.time = time
  synth : page.synth = synth
  reason : page.reason = s.bindReason lost
  pitch : ∀ {p : MasterPage} {ps : List MasterPage}, s.mre.queue = p :: ps → p.load = .ready → page.pitch = pgPitch p.head

/-- MRE's state once a page is bound: the head has left the queue, and the page waits for its start (R206). -/
def withBound (m : MreState) (page : BoundPage) : MreState :=
  { m with queue := m.queue.drop 1, ready := readyHead (m.queue.drop 1), bound := m.bound ++ [page], binds := m.binds + 1,
           lastBound := page.number, pitch := some page.pitch, anyBind := true }

/-- The objects that a bind writes beside flags and crossings (R206). -/
def bindWrites (ix : Nat) : Bool := signalWrites ix || [Ix.mrePagesQueued, Ix.mrePagesReady, Ix.mrePagesBound].contains ix

/-- What a bind of a page leaves, where MRE's state just before it was `m` (R206). -/
structure Bound (s t : State) (m : MreState) (page : BoundPage) : Prop where
  mre : t.mre = withBound m page
  count : t.rd Ix.mrePagesBound 0 = (s.rd Ix.mrePagesBound 0 + 1) % 2 ^ 64
  rd : ∀ {ix : Nat}, bindWrites ix = false → t.rd ix 0 = s.rd ix 0
  flags : ∀ {b : Nat}, b < 32 → s.bit Ix.mreInspectionStatus 0 b = true → t.bit Ix.mreInspectionStatus 0 b = true

theorem bind_binds (s : State) (mark time start : Nat) (synth lost : Bool) :
    ∃ page, BoundAs s mark time start synth lost page ∧ Bound s (s.bind mark time start synth lost) s.mre page := by
  generalize ht : s.bind mark time start synth lost = t
  unfold State.bind at ht
  extract_lets +onlyGivenNames -underBinder reason head number known pitch page s1 m1 c1 s2 s3 at ht
  subst ht
  have overflow : Signals s2 s3 := R_ite (signals_inspFlag s2 _) (.refl s2)
  have event := signals_cross (s3.bump Ix.mrePagesBound 0 1) (eventCode 13 0 0) (some (page.start, s3.stamp)) number
  have hrest {ix : Nat} (hsignal : signalWrites ix = false) (hqueued : ix ≠ Ix.mrePagesQueued) (hready : ix ≠ Ix.mrePagesReady) :
      s3.rd ix 0 = s.rd ix 0 := (overflow.rd hsignal (by decide)).trans (setPages_rd _ _ hsignal hqueued hready (by decide))
  refine ⟨page, ⟨rfl, rfl, rfl, rfl, rfl, rfl, fun {p ps} hqueue hready => ?_⟩, ?_, ?_, fun {ix} hix => ?_, fun {b} hb hset => ?_⟩
  · show pitch = pgPitch p.head
    have hknown : known = some (pgPitch p.head) := by
      show (s.mre.queue.head?.bind fun p => if p.load == .ready then some (pgPitch p.head) else none) = _
      rw [hqueue]
      simp [hready]
    unfold pitch
    rw [hknown]
  · have hmre : s2.mre = withBound s.mre page := by
      show ({ s1.mre with bound := s1.mre.bound ++ [page], binds := s1.mre.binds + 1, lastBound := number, pitch := some pitch,
                          anyBind := true } : MreState) = _
      unfold s1
      rw [setPages_mre]
      rfl
    exact event.mre.trans (overflow.mre.trans hmre)
  · have hbits : bitsAt (key Ix.mrePagesBound 0) = 64 := rfl
    rw [event.rd rfl (by decide), rd_bump, if_pos rfl, hbits, hrest rfl (by decide) (by decide)]
  · simp only [bindWrites, Bool.or_eq_false_iff, List.contains_cons, beq_eq_false_iff_ne] at hix
    obtain ⟨hsignal, hqueued, hready, hcount, -⟩ := hix
    rw [event.rd hsignal (by decide), rd_bump, if_neg (key_ne_of_index hcount), hrest hsignal hqueued hready]
  · refine event.flags hb ?_
    rw [bit_congr (s := s3) ((rd_bump _ _ _ _ _ _).trans (if_neg (by decide)))]
    exact overflow.flags hb (setPages_flags _ _ hb hset)

/-- The page of a bind, from what it is made of. -/
theorem BoundAs.congr {s u : State} {mark time start : Nat} {synth lost : Bool} {page : BoundPage} (h : BoundAs u mark time start synth lost page)
    (hqueue : u.mre.queue = s.mre.queue) (hbound : u.mre.bound = s.mre.bound) (hlast : u.mre.lastBound = s.mre.lastBound)
    (hmode : u.rd Ix.mreDeviationMode 0 = s.rd Ix.mreDeviationMode 0) : BoundAs s mark time start synth lost page := by
  obtain ⟨number, hstart, hmark, htime, hsynth, reason, pitch⟩ := h
  rw [hqueue] at number pitch
  rw [hlast] at number
  refine ⟨number, hstart, hmark, htime, hsynth, ?_, pitch⟩
  rw [reason]
  unfold State.bindReason State.formatSuits
  rw [hqueue, hbound, hmode]

/-! ### Marks -/

/-- MRE's state with a mark taken at an LP: the last mark, the miss count, and no expiry (R204, R205). -/
abbrev withMark (m : MreState) (lp miss : Nat) : MreState := { m with mLast := some lp, miss := miss, expiry := none }

/-- A bind at a mark just taken is a bind of the state before it. -/
theorem bindMark_binds (s : State) (lp miss time start : Nat) (synth lost : Bool) :
    ∃ page, BoundAs s lp time start synth lost page ∧
      Bound s (({ s with mre := withMark s.mre lp miss } : State).bind lp time start synth lost) (withMark s.mre lp miss) page := by
  obtain ⟨page, made, hmre, hcount, hrd, hflags⟩ := bind_binds ({ s with mre := withMark s.mre lp miss } : State) lp time start synth lost
  exact ⟨page, made.congr rfl rfl rfl rfl, hmre, hcount, hrd, hflags⟩

/-- A mark that is accepted locks the binder and binds (R203, R204). -/
theorem acceptMark_binds (s : State) (m time : Nat) :
    ∃ page, BoundAs s m time (s.startOf m) false false page ∧ (s.acceptMark m time).mre = withBound (withMark s.mre m 0) page ∧
      (s.acceptMark m time).rd Ix.mreBindingState 0 = bsLocked ∧
      (s.acceptMark m time).rd Ix.mreMarksAccepted 0 = (s.rd Ix.mreMarksAccepted 0 + 1) % 2 ^ 64 ∧
      (s.acceptMark m time).rd Ix.mrePagesBound 0 = (s.rd Ix.mrePagesBound 0 + 1) % 2 ^ 64 := by
  have hbits : bitsAt (key Ix.mreMarksAccepted 0) = 64 := rfl
  generalize ht : s.acceptMark m time = t
  unfold State.acceptMark at ht
  extract_lets +onlyGivenNames -underBinder was s1 m1 s2 at ht
  subst ht
  obtain ⟨page, made, bound⟩ := bindMark_binds s1 m 0 time (s.startOf m) false false
  have event : Signals s2 (if was = bsUnlocked then s2.cross (eventCode 13 0 6) none s2.mre.lastBound else s2) :=
    R_ite (signals_cross s2 _ _ _) (.refl s2)
  have hother {ix : Nat} (hbinding : ix ≠ Ix.mreBindingState) (hstatus : ix ≠ Ix.mreInspectionStatus) :
      s1.rd ix 0 = (s.bump Ix.mreMarksAccepted 0 1).rd ix 0 := setBinder_rd _ hbinding hstatus (by decide)
  refine ⟨page, made.congr rfl rfl rfl ?_, event.mre.trans bound.mre, ?_, ?_, ?_⟩
  · rw [hother (by decide) (by decide), rd_bump, if_neg (by decide)]
  · exact (event.rd rfl (by decide)).trans ((bound.rd rfl).trans (setBinder_binding _ (by decide)))
  · rw [event.rd (by rfl) (by decide), bound.rd (by rfl), hother (by decide) (by decide), rd_bump, if_pos rfl, hbits]
  · rw [event.rd (by rfl) (by decide), bound.count, hother (by decide) (by decide), rd_bump, if_neg (by decide)]

/-- The state once the oldest mark has left the mark buffer. -/
abbrev popped (s : State) (ms : List (Nat × Nat)) : State := { s with mre := { s.mre with marks := ms } }

section
variable {s : State} {m time : Nat} {ms : List (Nat × Nat)} (hclocked : s.clocked = true) (hrunning : s.fn .mre = .running)
  (hmarks : s.mre.marks = (m, time) :: ms)
include hclocked hrunning hmarks

/-- The oldest mark of the buffer is classified (R203). -/
theorem exec_pageMark : exec .pageMark s = .next ((popped s ms).classifyMark m time) := by
  have htakes : s.mreTakes = true := by
    unfold State.mreTakes
    rw [(runs_iff s .mre).mpr hrunning, Bool.true_or]
  refine congrArg Host.Outcome.next ((whileClocked_eq hclocked _).trans ?_)
  unfold State.nextMark
  rw [hmarks]
  exact if_pos htakes

/-- A mark near the last one is counted as a repeat and ignored (R203). -/
theorem pageMark_repeats {l : Nat} (hlast : s.mre.mLast = some l) (hnear : m ≤ l + s.rd Ix.mreMarkWindow 0) :
    ∃ t, exec .pageMark s = .next t ∧ t.rd Ix.mreMarksRepeated 0 = (s.rd Ix.mreMarksRepeated 0 + 1) % 2 ^ 64 ∧
      t.mre = { s.mre with marks := ms } ∧ t.octs = s.octs := by
  have hbits : bitsAt (key Ix.mreMarksRepeated 0) = 64 := rfl
  have hrepeat : (popped s ms).classifyMark m time = (popped s ms).bump Ix.mreMarksRepeated 0 1 := by
    unfold State.classifyMark
    refine if_pos ?_
    rw [hlast]
    exact decide_eq_true hnear
  refine ⟨_, (exec_pageMark hclocked hrunning hmarks).trans (congrArg _ hrepeat), ?_, rfl, rfl⟩
  rw [rd_bump, if_pos rfl, hbits]
  rfl

section
variable (hfar : s.mre.mLast.any (fun l => decide (m ≤ l + s.rd Ix.mreMarkWindow 0)) = false)
include hfar

/-- The first mark, or one in the window, is accepted and binds (R203). -/
theorem pageMark_accepts
    (hdue : s.rd Ix.mreBindingState 0 = bsAcquiring ∨
      s.expected.any (fun e => decide (e - s.rd Ix.mreMarkWindow 0 ≤ m ∧ m ≤ e + s.rd Ix.mreMarkWindow 0)) = true) :
    ∃ t page, exec .pageMark s = .next t ∧ BoundAs s m time (s.startOf m) false false page ∧
      t.mre = withBound (withMark { s.mre with marks := ms } m 0) page ∧ t.rd Ix.mreBindingState 0 = bsLocked ∧
      t.rd Ix.mreMarksAccepted 0 = (s.rd Ix.mreMarksAccepted 0 + 1) % 2 ^ 64 ∧
      t.rd Ix.mrePagesBound 0 = (s.rd Ix.mrePagesBound 0 + 1) % 2 ^ 64 := by
  have haccept : (popped s ms).classifyMark m time = (popped s ms).acceptMark m time := by
    unfold State.classifyMark
    refine (if_neg (ne_true_of_eq_false hfar)).trans ?_
    by_cases hacquiring : s.rd Ix.mreBindingState 0 = bsAcquiring
    · exact if_pos hacquiring
    · exact (if_neg hacquiring).trans (if_pos (hdue.resolve_left hacquiring))
  obtain ⟨page, made, hmre, hstate, haccepted, hbound⟩ := acceptMark_binds (popped s ms) m time
  exact ⟨_, page, (exec_pageMark hclocked hrunning hmarks).trans (congrArg _ haccept), made.congr rfl rfl rfl rfl, hmre, hstate, haccepted, hbound⟩

/-- A mark outside the window of a locked binder is extra: it is counted and flagged, and binds nothing (R203). -/
theorem pageMark_extra (hlocked : s.rd Ix.mreBindingState 0 ≠ bsAcquiring)
    (hastray : s.expected.any (fun e => decide (e - s.rd Ix.mreMarkWindow 0 ≤ m ∧ m ≤ e + s.rd Ix.mreMarkWindow 0)) = false) :
    ∃ t, exec .pageMark s = .next t ∧ t.mre = { s.mre with marks := ms } ∧ t.bit Ix.mreInspectionStatus 0 3 = true ∧
      t.rd Ix.mreMarksExtra 0 = (s.rd Ix.mreMarksExtra 0 + 1) % 2 ^ 64 := by
  have hbits : bitsAt (key Ix.mreMarksExtra 0) = 64 := rfl
  have hextra : (popped s ms).classifyMark m time =
      (((popped s ms).bump Ix.mreMarksExtra 0 1).inspFlag isMarkExtra).cross (eventCode 13 0 4) (some (m, time)) s.mre.lastBound := by
    unfold State.classifyMark
    exact (if_neg (ne_true_of_eq_false hfar)).trans ((if_neg hlocked).trans (if_neg (ne_true_of_eq_false hastray)))
  have signals := signals_flag_cross ((popped s ms).bump Ix.mreMarksExtra 0 1) isMarkExtra (eventCode 13 0 4) (some (m, time)) s.mre.lastBound
  refine ⟨_, (exec_pageMark hclocked hrunning hmarks).trans (congrArg _ hextra), signals.mre, bit_flag_cross _ (by decide) _ _ _, ?_⟩
  rw [signals.rd rfl (by decide), rd_bump, if_pos rfl, hbits]
  rfl

end

end

/-! ### Expiries -/

/-- Whether a synthesised mark still binds a compared page: the misses are within the flywheel limit (R204, R205). -/
def flies (s : State) : Bool :=
  decide ((s.binder = bsLocked ∧ 1 ≤ s.rd Ix.mreFlywheelLimit 0) ∨ (s.binder = bsFlywheel ∧ s.mre.miss < s.rd Ix.mreFlywheelLimit 0))

/-- An expiry synthesises a mark at the expected place, which binds (R204, R205). -/
theorem expire_binds {s : State} {e time : Nat} (hexpiry : s.mre.expiry = some time) (hexpected : s.expected = some e) :
    ∃ page, BoundAs s e time (s.startOf e) true (!flies s) page ∧ s.expire.mre = withBound (withMark s.mre e (s.mre.miss + 1)) page ∧
      s.expire.rd Ix.mreBindingState 0 = (if flies s then bsFlywheel else bsUnlocked) ∧
      s.expire.bit Ix.mreInspectionStatus 0 isMarkMissed = true ∧
      (flies s = false → s.binder ≠ bsUnlocked → s.expire.bit Ix.mreInspectionStatus 0 isLockLost = true) ∧
      s.expire.rd Ix.mreMarksSynthesised 0 = (s.rd Ix.mreMarksSynthesised 0 + 1) % 2 ^ 64 ∧
      s.expire.rd Ix.mrePagesBound 0 = (s.rd Ix.mrePagesBound 0 + 1) % 2 ^ 64 := by
  have hbits : bitsAt (key Ix.mreMarksSynthesised 0) = 64 := rfl
  generalize ht : s.expire = t
  unfold State.expire at ht
  split at ht
  case h_2 hnone => exact absurd hexpected (hnone time e hexpiry)
  rename_i time' e' hexpiry' hexpected'
  obtain rfl : time = time' := Option.some.inj (hexpiry.symm.trans hexpiry')
  obtain rfl : e = e' := Option.some.inj (hexpected.symm.trans hexpected')
  extract_lets +onlyGivenNames -underBinder limit b fly s1 s2 s3 at ht
  subst ht
  have missed : Signals (s.bump Ix.mreMarksSynthesised 0 1) s1 := signals_flag_cross _ _ _ _ _
  have lost : Signals s2 s3 := R_ite (signals_flag_cross s2 _ _ _ _) (.refl s2)
  have hother {ix : Nat} (hsignal : signalWrites ix = false) (hbinding : ix ≠ Ix.mreBindingState) :
      s3.rd ix 0 = (s.bump Ix.mreMarksSynthesised 0 1).rd ix 0 := by
    have hstatus : ix ≠ Ix.mreInspectionStatus := fun h => by rw [h] at hsignal; cases hsignal
    exact (lost.rd hsignal (by decide)).trans ((setBinder_rd _ hbinding hstatus (by decide)).trans (missed.rd hsignal (by decide)))
  have hmre : s3.mre = s.mre := lost.mre.trans missed.mre
  obtain ⟨page, made, bound⟩ := bindMark_binds s3 e (s3.mre.miss + 1) time (s.startOf e) true (!fly)
  refine ⟨page, made.congr ?_ ?_ ?_ ?_, ?_, ?_, ?_, fun hfly hunlocked => ?_, ?_, ?_⟩
  · rw [hmre]
  · rw [hmre]
  · rw [hmre]
  · rw [hother (by rfl) (by decide), rd_bump, if_neg (by decide)]
  · rw [bound.mre, hmre]
  · have hstate : s2.rd Ix.mreBindingState 0 = if fly then bsFlywheel else bsUnlocked := setBinder_binding _ (by split <;> decide)
    exact (bound.rd rfl).trans ((lost.rd rfl (by decide)).trans hstate)
  · exact bound.flags (by decide) (lost.flags (by decide) (setBinder_flags _ (by decide) (by decide) (bit_flag_cross _ (by decide) _ _ _)))
  · have hfalls : s3 = (s2.inspFlag isLockLost).cross (eventCode 13 0 5) none s.mre.lastBound := by
      refine if_pos ?_
      rw [show fly = false from hfly, Bool.not_false, Bool.true_and]
      exact bne_iff_ne.mpr hunlocked
    refine bound.flags (by decide) ?_
    rw [hfalls]
    exact bit_flag_cross _ (by decide) _ _ _
  · rw [bound.rd (by rfl), hother (by rfl) (by decide), rd_bump, if_pos rfl, hbits]
  · rw [bound.count, hother (by rfl) (by decide), rd_bump, if_neg (by decide)]

theorem exec_markExpiry {s : State} (hclocked : s.clocked = true) : exec .markExpiry s = .next s.expire :=
  congrArg Host.Outcome.next (whileClocked_eq hclocked _)

/-- Settles O23: a mark is classified by its distance from the last one and from the expected one, and what an accepted or synthesised mark leaves is
what its bind leaves. -/
theorem marksBind : Obligations.MarksBind := by
  unfold Obligations.MarksBind
  refine ⟨?_, ?_, ?_, ?_, ?_, ?_, ?_, ?_, ?_⟩
  · exact fun s m time l ms hclocked hrunning hmarks hlast hnear => pageMark_repeats hclocked hrunning hmarks hlast hnear
  · intro s m time ms p ps hclocked _ hrunning hmarks hlast hacquiring hqueue hready hsuits hbound
    obtain ⟨t, page, hexec, made, hmre, hstate, haccepted, hcount⟩ :=
      pageMark_accepts hclocked hrunning hmarks (by rw [hlast]; rfl) (.inl hacquiring)
    refine ⟨t, hexec, hstate, ?_, ?_, ?_, ?_, haccepted, hcount⟩
    · rw [hmre]; rfl
    · rw [hmre, withBound, hqueue]; rfl
    · rw [hmre, ← made.pitch hqueue hready]; rfl
    · rw [hmre, withBound, hbound, List.nil_append, List.map_singleton, made.number, made.start, made.mark, made.time, made.reason,
        bindReason_compared hbound hqueue hready hsuits, startOf_mod, hqueue]
      rfl
  · intro s m time l e ms hclocked _ hrunning hmarks hlast hfar hflywheel hexpected hfrom hto hqueue hbound
    obtain ⟨t, page, hexec, made, hmre, hstate, -⟩ := pageMark_accepts hclocked hrunning hmarks
      (by rw [hlast]; exact decide_eq_false (by omega)) (.inr (by rw [hexpected]; exact decide_eq_true ⟨hfrom, hto⟩))
    refine ⟨t, hexec, hstate, ?_, ?_⟩
    · rw [hmre]; rfl
    · rw [hmre, withBound, hbound, List.nil_append, List.map_singleton, made.number, made.start, made.reason,
        bindReason_empty hbound hqueue, startOf_mod, hqueue]
      rfl
  · intro s m time l e ms hclocked _ hrunning hmarks hlast hfar hlocked hexpected hstray
    exact pageMark_extra hclocked hrunning hmarks (by rw [hlast]; exact decide_eq_false (by omega)) (by rw [hlocked]; decide)
      (by rw [hexpected]; exact decide_eq_false (by omega))
  · intro s e time hclocked _ hexpiry hexpected hlocked hlimit hbound hqueue
    have hflies : flies s = true := decide_eq_true (.inl ⟨hlocked, hlimit⟩)
    obtain ⟨page, made, hmre, hstate, hmissed, -, hsynthesised, -⟩ := expire_binds hexpiry hexpected
    rw [hflies] at made hstate
    refine ⟨_, exec_markExpiry hclocked, hstate, ?_, ?_, hmissed, hsynthesised, ?_⟩
    · rw [hmre]; rfl
    · rw [hmre]; rfl
    · rw [hmre, withBound, hbound, List.nil_append, List.map_singleton, made.mark, made.time, made.synth, made.reason, Bool.not_true,
        bindReason_empty hbound hqueue]
  · intro s e time hclocked _ hexpiry hexpected hflywheel hlimit hbound
    have hfalls : flies s = false := by
      refine decide_eq_false ?_
      rintro (⟨hlocked, -⟩ | ⟨-, hbelow⟩)
      · exact absurd (hflywheel.symm.trans hlocked) (by decide)
      · omega
    obtain ⟨page, made, hmre, hstate, -, hlost, -⟩ := expire_binds hexpiry hexpected
    rw [hfalls] at made hstate
    refine ⟨_, exec_markExpiry hclocked, hstate, hlost hfalls (by unfold State.binder; rw [hflywheel]; decide), ?_, ?_⟩
    · rw [hmre]; rfl
    · rw [hmre, withBound, hbound, List.nil_append, List.map_singleton, made.mark, made.synth, made.reason, Bool.not_false,
        bindReason_lost hbound]
  · intro s m time ms hclocked hrunning hmarks hfar hdue
    obtain ⟨t, page, hexec, -, hmre, hstate, haccepted, hcount⟩ := pageMark_accepts hclocked hrunning hmarks hfar hdue
    refine ⟨t, hexec, ?_, ?_, ?_, ?_, hstate, ?_, ?_, ?_, haccepted, hcount⟩ <;> rw [hmre]
    · rfl
    · rfl
    · rfl
    · rfl
    · rfl
    · exact List.length_append
    · rfl
  · intro s e time hclocked hexpiry hexpected
    obtain ⟨page, -, hmre, -, hmissed, -, hsynthesised, hcount⟩ := expire_binds hexpiry hexpected
    refine ⟨_, exec_markExpiry hclocked, ?_, ?_, ?_, ?_, ?_, ?_, hmissed, hsynthesised, hcount⟩ <;> rw [hmre]
    · rfl
    · rfl
    · rfl
    · rfl
    · exact List.length_append
    · rfl
  · intro s hclocked hnone
    refine (exec_markExpiry hclocked).trans (congrArg _ ?_)
    unfold State.expire
    rw [hnone]

end Sys2Proof.Settled
end

section
/-! What CDE's chapter has in common (R243 to R256): what its accesses to the DRAM, its counts, its events and its packets leave alone; what its
objects show; and what one block or slice of a host job leaves. -/

namespace Sys2Proof.Settled

open Sys2Proof Sys2Proof.Machine Sys2Proof.Laws

/-! ### What happens beside CDE's bookkeeping -/

/-- CDE's and MRE's bookkeeping and the power are as they were, the output has only grown, and the device DRAM is as it was, unless `stores` admits
writes to it. -/
structure Beside (stores : Bool) (s t : State) : Prop where
  cde : t.cde = s.cde
  mre : t.mre = s.mre
  power : t.power = s.power
  out : s.out <+: t.out
  dram : stores = false → t.dram = s.dram

section
variable {d : Bool} {s t u : State}

theorem Beside.refl (d : Bool) (s : State) : Beside d s s := ⟨rfl, rfl, rfl, ⟨[], List.append_nil _⟩, fun _ => rfl⟩

/-- What changes other fields is beside CDE's bookkeeping. -/
theorem Beside.alike (h : Beside d s t) (hcde : u.cde = t.cde := by rfl) (hmre : u.mre = t.mre := by rfl) (hpower : u.power = t.power := by rfl)
    (hout : u.out = t.out := by rfl) (hdram : u.dram = t.dram := by rfl) : Beside d s u := by
  obtain ⟨cde, mre, power, out, dram⟩ := h
  exact ⟨hcde.trans cde, hmre.trans mre, hpower.trans power, hout ▸ out, fun hd => hdram.trans (dram hd)⟩

theorem Beside.noted (h : Beside d s t) (hnoted : Noted t u) : Beside d s u := by
  rw [hnoted.same]
  exact h.alike

theorem Beside.msix (h : Beside d s t) (v : Nat) : Beside d s (t.msix v) := by
  have emitted : Beside d s (t.emit (.msix v)) := ⟨h.cde, h.mre, h.power, h.out.trans ⟨_, rfl⟩, h.dram⟩
  unfold State.msix
  exact R_ite emitted h

theorem Beside.cross (h : Beside d s t) (code : Nat) (own : Option (Nat × Nat)) (arg : Nat) : Beside d s (t.cross code own arg) := by
  unfold State.cross
  exact R_ite h.alike h.alike

/-! ### Packets -/

theorem Beside.depthChanged (h : Beside d s t) (q : Fin 3) (old : Nat) : Beside d s (t.depthChanged q old) := by
  unfold State.depthChanged
  extract_lets +onlyGivenNames -underBinder sub now hi lo s1 s2 s3
  have h1 : Beside d s s1 := h.alike
  have h2 : Beside d s s2 := R_ite (Beside.msix (Beside.cross h1.alike _ _ _) _) h1
  have h3 : Beside d s s3 := R_ite (Beside.cross h2.alike _ _ _) h2
  exact h3.alike

theorem Beside.entered (h : Beside d s t) (q : Fin 3) (ps : List (List QWord)) : Beside d s (t.entered q ps) := by
  have set : Beside d s (t.setQueue q { t.queues[q] with packets := ps }) := h.alike
  have put : Beside d s (t.putPackets q ps) := set.depthChanged q (t.depth q)
  have crossed := Beside.cross (t := (t.putPackets q ps).bump Ix.dlvPacketsPushed (q.val + 1) 1) put.alike (eventCode 18 q.val 0) none
  exact (crossed _).noted (noted_sample _ _ _ _ _)

theorem Beside.losePackets (h : Beside d s t) (q : Fin 3) (n words : Nat) : Beside d s (t.losePackets q n words) := by
  unfold State.losePackets
  exact R_ite h.alike h.alike

/-- A packet pushed to a queue, whether it enters or is lost (R346, R348). -/
theorem Beside.push (h : Beside d s t) (q : Fin 3) (producer : Nat) (poison : Bool) (record : Octets) :
    Beside d s (t.push q producer poison record) := by
  unfold State.push
  extract_lets +onlyGivenNames -underBinder u p
  have hu : Beside d s u := by
    show Beside d s (t.pushLoss q)
    unfold State.pushLoss
    exact R_ite (Beside.entered (t := t.setQueue q _) h.alike q _) h
  exact R_ite (Beside.entered (t := u.setQueue q _) hu.alike q _) (Beside.losePackets (R_ite hu hu.alike) q _ _)

/-! ### The device DRAM -/

theorem Beside.activate (h : Beside d s t) (n : Fin 8) : Beside d s (t.activate n) := by
  unfold State.activate
  exact R_ite h.alike h.alike

theorem Beside.countRead (h : Beside d s t) (n : Fin 8) : Beside d s (t.countRead n) := by
  unfold State.countRead
  extract_lets +onlyGivenNames -underBinder c u
  have hu : Beside d s u := Beside.noted (t := t.setDmc n _) h.alike (noted_tally _ _ _ _)
  exact R_ite (Beside.noted (t := u.takeFree) hu.alike (noted_sample _ _ _ _ _)) hu

theorem Beside.correctable (h : Beside d s t) (n : Fin 8) (a requester devices : Nat) (scrub : Bool) :
    Beside d s (t.correctable n a requester devices scrub) := by
  unfold State.correctable
  extract_lets +onlyGivenNames -underBinder c recent s1 due s2 s3
  have h2 : Beside d s s2 := R_ite h.alike h.alike
  have h3 : Beside d s s3 := h2.alike
  refine R_ite ?_ h3
  unfold State.startRetraining
  exact R_ite (Beside.cross h3.alike _ _ _) h3

theorem Beside.transient (h : Beside d s t) (n : Fin 8) (a requester : Nat) (scrub : Bool) : Beside d s (t.transient n a requester scrub) := by
  have hretry : Beside d s (t.retryTransient 1 n.val) := by
    unfold State.retryTransient
    exact R_ite h.alike h.alike
  exact hretry.alike

theorem Beside.lasting (h : Beside d s t) (n : Fin 8) (a requester : Nat) (scrub : Bool) : Beside d s (t.lasting n a requester scrub) := by
  unfold State.lasting
  extract_lets +onlyGivenNames -underBinder s1 s2
  have h2 : Beside d s s2 := Beside.alike (Beside.cross (t := s1) h.alike (eventCode 21 n.val 0) none 0)
  exact R_ite h2 h2.alike

/-- A unit that is read, whatever its channel finds (R389, R392). -/
theorem Beside.readUnit (h : Beside d s t) (requester a : Nat) : Beside d s (t.readUnit requester a).2 := by
  unfold State.readUnit
  split
  · exact h
  · next n _ =>
    refine R_ite_2 h.alike ?_
    extract_lets +onlyGivenNames -underBinder s1
    have h1 : Beside d s s1 := (h.activate n).countRead n
    refine R_ite_2 h1.alike ?_
    split
    next k rest _ =>
    extract_lets +onlyGivenNames -underBinder injected s2
    have h2 : Beside d s s2 := h1.alike
    split
    · exact h2.correctable n a requester 1 false
    · exact h2.transient n a requester false
    · exact h2.lasting n a requester false
    · exact h2

theorem Beside.readUnits (h : Beside d s t) (requester a n : Nat) : Beside d s (t.readUnits requester a n).2 := by
  induction n generalizing t a with
  | zero => exact h
  | succ n ih => exact ih (h.readUnit requester a) (a + 64)

theorem Beside.dramFetch (h : Beside d s t) (requester a n : Nat) : Beside d s (t.dramFetch requester a n).2.2 := by
  unfold State.dramFetch
  exact R_ite_2_2 h (h.readUnits requester _ _)

theorem Beside.readClean (h : Beside d s t) (a n : Nat) : Beside d s (t.readClean a n).2.2 := by
  unfold State.readClean
  exact R_ite_2_2 h (h.readUnits 6 _ _)

theorem Beside.putUnit (h : Beside true s t) (n : Fin 8) (a : Nat) (data : Octets) : Beside true s (t.putUnit n a data) := by
  unfold State.putUnit
  extract_lets +onlyGivenNames -underBinder u s1 cured s2
  have h1 : Beside true s s1 := (h.activate n).noted (noted_tally _ _ _ _)
  have h2 : Beside true s s2 := R_ite h1.alike h1
  obtain ⟨cde, mre, power, out, -⟩ := h2
  exact R_ite ⟨cde, mre, power, out, nofun⟩ ⟨cde, mre, power, out, nofun⟩

theorem Beside.writeUnit (h : Beside true s t) (a : Nat) (data : Octets) : Beside true s (t.writeUnit a data) := by
  unfold State.writeUnit
  split
  · exact h
  · exact R_ite h.alike (h.putUnit _ a data)

/-- Octets that are written to the DRAM change nothing else that CDE keeps (R389). -/
theorem Beside.dramStore (h : Beside true s t) (a : Nat) (data : Octets) : Beside true s (t.dramStore a data) := by
  have units (fuel : Nat) : ∀ {t : State} (a : Nat) (data : Octets), Beside true s t → Beside true s (t.storeUnits a data fuel) := by
    induction fuel with
    | zero => exact fun _ _ h => h
    | succ fuel ih =>
      intro t a data h
      unfold State.storeUnits
      exact R_ite h (ih _ _ (h.writeUnit a _))
  exact units _ a data h

/-! ### Blocks, slices and the end of a job -/

theorem Beside.laneDone (h : Beside d s t) (lane cycles : Nat) : Beside d s (t.laneDone lane cycles) :=
  Beside.noted (t := (t.bump Ix.cdeLaneBusyCycles (lane + 1) cycles).bump Ix.cdeLaneBlocks (lane + 1) 1) h.alike (noted_tally _ _ _ _)

theorem Beside.countEncoded (h : Beside d s t) (original written : Nat) (stored : Bool) : Beside d s (t.countEncoded original written stored) := by
  unfold State.countEncoded
  exact R_ite h.alike h.alike

theorem Beside.checkFailed (h : Beside d s t) (tag : Nat) : Beside d s (t.checkFailed tag) := Beside.cross h.alike _ _ _

/-- A job's end only reports (R247). -/
theorem Beside.endJob (h : Beside d s t) (j : HostJob) (status : Nat) : Beside d s (t.endJob j status) := by
  unfold State.endJob
  extract_lets +onlyGivenNames -underBinder r s1 s2 s3
  have h1 : Beside d s s1 := h.alike
  have h2 : Beside d s s2 := R_ite h1.alike (R_ite h1.alike (R_ite h1.alike h1))
  have h3 : Beside d s s3 := R_ite (h2.push _ _ _ _) h2
  exact h3.cross _ _ _

theorem Beside.tileRows (h : Beside d s t) (desc : Octets) (x w y n : Nat) : Beside d s (t.tileRows desc x w y n).2.2 := by
  induction n generalizing t y with
  | zero => exact h
  | succ n ih => exact ih (h.dramFetch 6 _ _) (y + 1)

theorem Beside.compressBlock (h : Beside true s t) (j : HostJob) : Beside true s (t.compressBlock j).1 := by
  unfold State.compressBlock
  extract_lets +onlyGivenNames -underBinder desc units
  refine R_ite_1 h ?_
  extract_lets +onlyGivenNames -underBinder across x y w rows comps wide n
  split
  next data bad s1 hread =>
  have h1 : Beside true s s1 := by
    have hs1 := congrArg (fun q => q.2.2) hread
    rw [← show _ = s1 from hs1]
    exact R_ite_2_2 (h.tileRows desc x w y rows) (h.dramFetch 6 _ _)
  refine R_ite_1 h1 ?_
  split
  next block stored _ =>
  exact R_ite_1 h1 ((h1.dramStore _ _).countEncoded _ _ _)

theorem Beside.headRead (h : Beside d s t) (a n : Nat) : Beside d s (t.headRead a n).2.2 := by
  have hfetched := h.dramFetch 6 a n
  unfold State.headRead
  exact R_ite_2_2 hfetched.alike hfetched

theorem Beside.decompressBlock (h : Beside true s t) (j : HostJob) : Beside true s (t.decompressBlock j).1 := by
  unfold State.decompressBlock
  extract_lets +onlyGivenNames -underBinder desc rest last
  refine R_ite_1 h ?_
  have hfetched (size : Nat) := (h.headRead (jobInput desc + j.consumed) (min 16 rest)).dramFetch 6 (jobInput desc + j.consumed) size
  refine R_ite_1 (hfetched _) ?_
  have hcounted {v : State} {n : Nat} (hv : Beside true s v) : Beside true s (v.countDecoded n) := hv.alike
  exact R_ite ((hcounted ((hfetched _).dramStore _ _)).checkFailed _) (hcounted ((hfetched _).dramStore _ _))

theorem Beside.compressStream (h : Beside true s t) (j : HostJob) : Beside true s (t.compressStream j).1 :=
  Beside.alike ((h.readClean _ _).dramStore _ _)

theorem Beside.decompressStream (h : Beside true s t) (j : HostJob) : Beside true s (t.decompressStream j).1 :=
  Beside.alike ((h.readClean _ _).dramStore _ _)

/-- One block or slice of a host job (R244). -/
theorem Beside.stepJob (h : Beside true s t) (j : HostJob) : Beside true s (t.stepJob j).1 := by
  unfold State.stepJob
  exact R_ite_1 (h.compressBlock j) (R_ite_1 (h.compressStream j) (R_ite_1 (h.decompressBlock j) (h.decompressStream j)))

end

end Sys2Proof.Settled
end

section
/-! The compression engine (O24): host jobs are submitted and cancelled, lanes take work and finish it (R243 to R254). -/

namespace Sys2Proof.Settled

open Sys2Proof Sys2Proof.Machine Sys2Proof.Laws

/-! ### What CDE's objects show -/

section
variable (s : State) (c : CdeState)

@[simp] theorem setCde_cde : (s.setCde c).cde = c := rfl
@[simp] theorem setCde_dram : (s.setCde c).dram = s.dram := rfl
@[simp] theorem setCde_power : (s.setCde c).power = s.power := rfl
@[simp] theorem setCde_out : (s.setCde c).out = s.out := rfl

/-- Only Host jobs queued and Engine status show CDE's bookkeeping (R257). -/
theorem showCde_rd {ix sub : Nat} (hqueued : ix ≠ Ix.cdeHostJobsQueued) (hstatus : ix ≠ Ix.cdeEngineStatus) (hsub : sub < 256) :
    s.showCde.rd ix sub = s.rd ix sub :=
  (rd_wr_of_index _ _ hstatus (by decide) hsub).trans (rd_wr_of_index _ _ hqueued (by decide) hsub)

theorem setCde_rd {ix sub : Nat} (hqueued : ix ≠ Ix.cdeHostJobsQueued) (hstatus : ix ≠ Ix.cdeEngineStatus) (hsub : sub < 256) :
    (s.setCde c).rd ix sub = s.rd ix sub := showCde_rd { s with cde := c } hqueued hstatus hsub

theorem showCde_queued : s.showCde.rd Ix.cdeHostJobsQueued 0 = s.jobsQueued % 2 ^ 8 :=
  (rd_wr_of_index _ _ (by decide) (by decide) (by decide)).trans ((rd_wr _ _ _ _ _ _).trans (if_pos rfl))

theorem bitsAt_engineStatus : bitsAt (key Ix.cdeEngineStatus 0) = 32 := rfl

/-- BUSY shows that a lane holds work (R257). -/
theorem setCde_busy (lane : Fin 20) (w : CdeWork) :
    (s.setCde { c with lanes := c.lanes.set lane (some w) }).bit Ix.cdeEngineStatus 0 esBusy = true := by
  have hheld : (c.lanes.set lane (some w)).toList.any (fun v => v.isSome) = true :=
    List.any_eq_true.mpr ⟨some w, Vector.mem_toList_iff.mpr (Vector.mem_set lane.isLt), rfl⟩
  unfold State.setCde State.showCde
  rw [hheld]
  exact bit_setBit (by rw [bitsAt_engineStatus]; decide)

end

/-! ### Job submit -/

/-- A write of an object of CDE's own goes to its block (R257). -/
theorem writeEffect_compression (s : State) {w : WriteCall} {ix : Nat} (hix : w.ix = ix) (h : ix / 0x400 = 17 ∧ 8 ≤ ix % 0x400) :
    s.writeEffect w = s.writeCde w := by
  subst hix
  exact writeEffect_cde s h.1 (Nat.not_lt.mpr h.2)

theorem Replied.cde {s u t : State} {r : Req} {c : Code} (h : Replied s u t r c) : t.cde = u.cde := by rw [h.same]

theorem Replied.rdo {s u t : State} {r : Req} {c : Code} (h : Replied s u t r c) (ix sub : Nat) : t.rdo ix sub = u.rdo ix sub := by
  rw [h.same]
  rfl

section
variable (s : State) (r : Req) (x : Session)

@[simp] theorem asked_cde : (s.takeFree.asked r x).cde = s.cde := by rw [asked_same]

theorem asked_jobsQueued : (s.takeFree.asked r x).jobsQueued = s.jobsQueued := by
  unfold State.jobsQueued
  rw [asked_cde]

theorem asked_jobOk (desc : Octets) : (s.takeFree.asked r x).jobOk desc = s.jobOk desc := by
  unfold State.jobOk State.inWork
  rw [asked_region]

end

/-- The job that a submit queues (R245). -/
abbrev submittedJob (desc : Octets) : HostJob := { desc := desc, consumed := jobResume desc, crc := jobSeed desc }

/-- A Running CDE decides on an accepted descriptor by the room in its queue (R245). -/
theorem submitJob_eq {s : State} {desc : Octets} (hrun : s.runs .cde = true) (hok : s.jobOk desc = true) :
    s.submitJob desc =
      if 16 ≤ s.jobsQueued then (s.setBit Ix.cdeEngineStatus 0 esQueueFull, .busy)
      else (s.setCde { s.cde with jobs := s.cde.jobs ++ [submittedJob desc] }, .ok) := by
  unfold State.submitJob
  rw [hrun, hok]
  rfl

/-- So does CDE as a granted submit finds it. -/
theorem submitJob_asked {s : State} (r : Req) (x : Session) {desc : Octets} (hrun : s.fn .cde = .running) (hok : s.jobOk desc = true) :
    (s.takeFree.asked r x).submitJob desc =
      if 16 ≤ s.jobsQueued then ((s.takeFree.asked r x).setBit Ix.cdeEngineStatus 0 esQueueFull, .busy)
      else ((s.takeFree.asked r x).setCde { s.cde with jobs := s.cde.jobs ++ [submittedJob desc] }, .ok) := by
  rw [submitJob_eq ((asked_runs s r x .cde).trans ((runs_iff s .cde).mpr hrun)) ((asked_jobOk s r x desc).trans hok), asked_jobsQueued,
    asked_cde]

/-- One job more is queued. -/
theorem jobsQueued_submitted (s : State) (j : HostJob) :
    ({ s with cde := { s.cde with jobs := s.cde.jobs ++ [j] } } : State).jobsQueued = s.jobsQueued + 1 := by
  unfold State.jobsQueued
  rw [List.length_append, List.length_singleton]
  exact Nat.add_right_comm _ _ _

section
variable {s : State} {r : Req} {x : Session} {value : Octets} (hgrants : s.Grants r x Ix.cdeJobSubmit 0 value)
include hgrants

theorem jobSubmit_replied {u : State} {c : Code} (hsubmit : (s.takeFree.asked r x).submitJob value = (u, c)) (hc : c ≠ .sequence)
    (hpower : u.power = s.power) : ∃ t, exec (.jobSubmit r value) s = .next t ∧ Replied s u t r c := by
  have hrow : rowOf Ix.cdeJobSubmit 0 = some ⟨0x4411, 0x4411, 0, 0, .oct, .wo, 1, 0, .len 64 64⟩ := rfl
  refine ⟨_, rfl, ?_⟩
  rw [writeOctets_performed hgrants hrow rfl ?_ hc]
  · exact replied_respond (by rw [hpower]; exact hgrants.2.2)
  · rw [writeEffect_compression _ (ix := Ix.cdeJobSubmit) rfl (by decide)]
    exact hsubmit

variable (hrun : s.fn .cde = .running) (hok : s.jobOk value = true)
include hrun hok

/-- A job that finds room is queued at the end (R245). -/
theorem jobSubmit_queues (hroom : s.jobsQueued < 16) :
    ∃ t, exec (.jobSubmit r value) s = .next t ∧ s.Answers t r 0x11 .ok [] ∧ t.cde.jobs = s.cde.jobs ++ [submittedJob value] ∧
      t.rd Ix.cdeHostJobsQueued 0 = s.jobsQueued + 1 ∧ t.cde.lanes = s.cde.lanes ∧ t.dram = s.dram := by
  have hsubmit := submitJob_asked r x hrun hok
  rw [if_neg (Nat.not_le.mpr hroom)] at hsubmit
  obtain ⟨t, hexec, replied⟩ := jobSubmit_replied hgrants hsubmit (by decide) (by simp)
  refine ⟨t, hexec, replied.answered (by simp), ?_, ?_, ?_, ?_⟩
  · rw [replied.cde, setCde_cde]
  · have hqueued := jobsQueued_submitted (s.takeFree.asked r x) (submittedJob value)
    rw [asked_jobsQueued, asked_cde] at hqueued
    rw [replied.inspected (by decide), State.setCde, showCde_queued, hqueued, Nat.mod_eq_of_lt (by omega)]
  · rw [replied.cde, setCde_cde]
  · rw [replied.dram, setCde_dram, asked_dram]

/-- A job that finds the queue full is turned away, and QUEUE_FULL shows (R245). -/
theorem jobSubmit_busy (hfull : 16 ≤ s.jobsQueued) :
    ∃ t, exec (.jobSubmit r value) s = .next t ∧ s.Answers t r 0x11 .busy [] ∧ t.cde = s.cde ∧ t.bit Ix.cdeEngineStatus 0 5 = true := by
  have hsubmit := submitJob_asked r x hrun hok
  rw [if_pos hfull] at hsubmit
  obtain ⟨t, hexec, replied⟩ := jobSubmit_replied hgrants hsubmit (by decide) (by simp)
  refine ⟨t, hexec, replied.answered (by simp), ?_, ?_⟩
  · rw [replied.cde, setBit_cde, asked_cde]
  · rw [bit_congr (replied.inspected (by decide))]
    exact bit_setBit (by rw [bitsAt_engineStatus]; decide)

end

/-! ### Job cancel -/

/-- A job that ends done or aborted, without a packet, writes its record, counts and raises CDE_JOB_DONE (R247). -/
theorem endJob_unpushed (s : State) {j : HostJob} {status : Nat} (hstatus : status = 0 ∨ status = 5) (hunpushed : jobFlags j.desc < 4) :
    s.endJob j status =
      ((s.wro Ix.cdeLastCompletion 0 (completion j status)).bump Ix.cdeHostJobsCompleted 0 1).cross (eventCode 14 0 0) none (jobTag j.desc) := by
  have hflag : (jobFlags j.desc).testBit 2 = false := Nat.testBit_lt_two_pow hunpushed
  unfold State.endJob
  rw [hflag]
  dsimp only
  rw [if_neg Bool.false_ne_true, if_neg (by omega), if_neg (by omega), if_neg (by omega)]

section
variable (s : State) {j : HostJob} {status : Nat} (hstatus : status = 0 ∨ status = 5) (hunpushed : jobFlags j.desc < 4)
include hstatus hunpushed

theorem endJob_completion : (s.endJob j status).rdo Ix.cdeLastCompletion 0 = completion j status := by
  rw [endJob_unpushed s hstatus hunpushed]
  unfold State.rdo
  rw [(signals_cross _ _ _ _).same]
  exact (rdo_wro s Ix.cdeLastCompletion 0 (completion j status) Ix.cdeLastCompletion 0).trans (if_pos rfl)

theorem endJob_completed : (s.endJob j status).rd Ix.cdeHostJobsCompleted 0 = (s.rd Ix.cdeHostJobsCompleted 0 + 1) % 2 ^ 64 := by
  have hbits : bitsAt (key Ix.cdeHostJobsCompleted 0) = 64 := rfl
  rw [endJob_unpushed s hstatus hunpushed, (signals_cross _ _ _ _).rd rfl (by decide), rd_bump, if_pos rfl, hbits, wro_rd]

end

/-- Of CDE's bookkeeping, a cancel takes the tag's jobs from the queue and marks those in the lanes; else it only reports (R254). -/
theorem cancelJobs_beside (s : State) (tag : Nat) :
    ∃ lanes, Beside false (s.setCde { s.cde with jobs := s.cde.jobs.filter (fun j => !(jobTag j.desc == tag)), lanes := lanes })
      (s.cancelJobs tag) :=
  ⟨_, R_foldl (.refl false _) (fun _ j h => h.endJob (endUnits j) 5)⟩

section
variable {s : State} {r : Req} {x : Session} {tag : BitVec 32} (hgrants : s.Grants r x Ix.cdeJobCancel 0 (pathNum r.path 4 tag.toNat))
include hgrants

/-- A cancel is answered, and its effect stays (R254). -/
theorem jobCancel_replied :
    ∃ t, exec (.jobCancel r tag) s = .next t ∧ Replied s ((s.takeFree.asked r x).cancelJobs tag.toNat) t r .ok := by
  have hrow : rowOf Ix.cdeJobCancel 0 = some ⟨0x441d, 0x441d, 0, 0, .u32, .wo, 1, 0, .any⟩ := rfl
  obtain ⟨lanes, beside⟩ := cancelJobs_beside (s.takeFree.asked r x) tag.toNat
  refine ⟨_, rfl, writeNumber_replied hgrants hrow rfl rfl tag.isLt ?_ (by decide) ?_⟩
  · rw [writeEffect_compression _ (ix := Ix.cdeJobCancel) rfl (by decide)]
    rfl
  · rw [beside.power, setCde_power, asked_power]

/-- A cancel takes the tag's jobs from the queue (R254). -/
theorem jobCancel_filters :
    ∃ t, exec (.jobCancel r tag) s = .next t ∧ s.Answers t r 0x11 .ok [] ∧
      t.cde.jobs = s.cde.jobs.filter (fun j => !(jobTag j.desc == tag.toNat)) ∧ t.cde.tiles = s.cde.tiles ∧ t.cde.crops = s.cde.crops ∧
      t.dram = s.dram := by
  obtain ⟨t, hexec, replied⟩ := jobCancel_replied hgrants
  obtain ⟨lanes, beside⟩ := cancelJobs_beside (s.takeFree.asked r x) tag.toNat
  have hcde := replied.cde.trans beside.cde
  rw [setCde_cde, asked_cde] at hcde
  refine ⟨t, hexec, replied.answers ?_, ?_, ?_, ?_, ?_⟩
  · obtain ⟨before, hout⟩ := beside.out
    rw [setCde_out, asked_out] at hout
    exact ⟨before, hout.symm⟩
  · rw [hcde]
  · rw [hcde]
  · rw [hcde]
  · rw [replied.dram, beside.dram rfl, setCde_dram, asked_dram]

/-- A queued job that no lane has held ends with status 5 and no units consumed (R254). -/
theorem jobCancel_ends {j : HostJob} (hjobs : s.cde.jobs = [j]) (htag : jobTag j.desc = tag.toNat) (hqueued : j.begun = false)
    (hunpushed : jobFlags j.desc < 4) :
    ∃ t, exec (.jobCancel r tag) s = .next t ∧ s.Answers t r 0x11 .ok [] ∧ t.cde.jobs = [] ∧
      t.rdo Ix.cdeLastCompletion 0 = completion { j with consumed := 0 } 5 ∧ t.dram = s.dram := by
  obtain ⟨t, hexec, answers, hleft, -, -, hdram⟩ := jobCancel_filters hgrants
  obtain ⟨t', hexec', replied⟩ := jobCancel_replied hgrants
  obtain rfl : t = t' := by
    rw [hexec] at hexec'
    exact Host.Outcome.next.inj hexec'
  refine ⟨t, hexec, answers, ?_, ?_, hdram⟩
  · simp [hleft, hjobs, htag]
  · have hended : (s.takeFree.asked r x).cde.jobs.filter (fun j => jobTag j.desc == tag.toNat) = [j] := by simp [hjobs, htag]
    have hunits : endUnits j = { j with consumed := 0 } := by simp [endUnits, hqueued]
    rw [replied.rdo]
    unfold State.cancelJobs
    dsimp only
    rw [hended, List.foldl_cons, List.foldl_nil, hunits]
    exact endJob_completion (j := { j with consumed := 0 }) _ (.inr rfl) hunpushed

end

/-! ### A free lane takes work -/

section
variable {s : State} {lane : Fin 20} (hclocked : s.clocked = true) (hrun : s.fn .cde = .running) (hfree : s.cde.lanes[lane] = none)
include hclocked hrun hfree

/-- A free lane of a Running CDE looks for work, once the clocks run (R244). -/
theorem laneDispatch_open : exec (.laneDispatch lane) s = .next (s.dispatchLane lane) ∧
    ¬ (!s.cdeWorks || (s.cde.lanes[lane]).isSome) = true := by
  refine ⟨congrArg Host.Outcome.next (whileClocked_eq hclocked _), ?_⟩
  unfold State.cdeWorks
  simp [(runs_iff s .cde).mpr hrun, hfree]

/-- A decompression lane takes the oldest tile (R244). -/
theorem laneDispatch_tile {w : TileJob} {ws : List TileJob} (hlane : lane.val < 16) (htiles : s.cde.tiles = w :: ws) :
    exec (.laneDispatch lane) s = .next (s.setCde { s.cde with tiles := ws, lanes := s.cde.lanes.set lane (some (.tile w)) }) := by
  obtain ⟨hexec, hopen⟩ := laneDispatch_open hclocked hrun hfree
  rw [hexec]
  unfold State.dispatchLane
  simp only [if_neg hopen, if_pos hlane, htiles, (runs_iff s .cde).mpr hrun]

/-- A compression lane takes the oldest crop block (R244). -/
theorem laneDispatch_crop {w : CropBlock} {ws : List CropBlock} (hlane : 16 ≤ lane.val) (hcrops : s.cde.crops = w :: ws) :
    exec (.laneDispatch lane) s = .next (s.setCde { s.cde with crops := ws, lanes := s.cde.lanes.set lane (some (.crop w)) }) := by
  obtain ⟨hexec, hopen⟩ := laneDispatch_open hclocked hrun hfree
  rw [hexec]
  unfold State.dispatchLane
  simp only [if_neg hopen, if_neg (Nat.not_lt.mpr hlane), hcrops]

/-- A lane whose own users have no work takes the oldest host job, where the job is for it (R244). -/
theorem laneDispatch_host {j : HostJob} {js : List HostJob} (htiles : s.cde.tiles = []) (hcrops : s.cde.crops = [])
    (hjobs : s.cde.jobs = j :: js)
    (hsuits : (lane.val < 16 ∧ (jobOp j.desc = 3 ∨ jobOp j.desc = 4)) ∨ (16 ≤ lane.val ∧ (jobOp j.desc = 1 ∨ jobOp j.desc = 2))) :
    exec (.laneDispatch lane) s =
      .next (s.setCde { s.cde with jobs := js, lanes := s.cde.lanes.set lane (some (.host { j with begun := true })) }) := by
  have taken {ops : List Nat} (h : jobOp j.desc ∈ ops) : takeJob ops s.cde.jobs = some (j, js) := by
    rw [hjobs]
    exact if_pos (List.contains_iff_mem.mpr h)
  obtain ⟨hexec, hopen⟩ := laneDispatch_open hclocked hrun hfree
  rw [hexec]
  unfold State.dispatchLane
  simp only [if_neg hopen, htiles, hcrops]
  obtain ⟨hlane, hop⟩ | ⟨hlane, hop⟩ := hsuits
  · simp only [if_pos hlane, taken (ops := [3, 4]) (by simpa using hop)]
  · simp only [if_neg (Nat.not_lt.mpr hlane), taken (ops := [1, 2]) (by simpa using hop)]

end

/-! ### A lane finishes -/

/-- The state in which a lane's work has left it. -/
abbrev laneEmptied (s : State) (lane : Fin 20) : State := s.setCde { s.cde with lanes := s.cde.lanes.set lane none }

/-- A lane without work finishes nothing. -/
theorem blockComplete_idle {s : State} {lane : Fin 20} (hidle : s.cde.lanes[lane] = none) : exec (.blockComplete lane) s = .next s := by
  have hfinish : s.finishLane lane = s := by
    unfold State.finishLane
    rw [hidle]
  refine congrArg Host.Outcome.next ?_
  show (if s.clocked then s.finishLane lane else s) = s
  rw [hfinish, ite_self]

theorem blockComplete_exec {s : State} (hclocked : s.clocked = true) (lane : Fin 20) :
    exec (.blockComplete lane) s = .next (s.finishLane lane) := congrArg Host.Outcome.next (whileClocked_eq hclocked _)

/-- A lane's work has left it: what waits stays as it is but for the host jobs, and MRE's queue is as it was. -/
def LaneFreed (s : State) (lane : Fin 20) (t : State) : Prop :=
  t.cde.lanes = s.cde.lanes.set lane none ∧ t.cde.tiles = s.cde.tiles ∧ t.cde.crops = s.cde.crops ∧ t.mre.queue = s.mre.queue

theorem Beside.laneFreed {d : Bool} {s t : State} {lane : Fin 20} (h : Beside d (laneEmptied s lane) t) : LaneFreed s lane t := by
  unfold LaneFreed
  rw [h.cde, h.mre]
  exact ⟨rfl, rfl, rfl, rfl⟩

section
variable {s : State} {lane : Fin 20}

/-- A lane's own counters are the only objects of CDE that count its cycles and blocks (R258). -/
theorem laneDone_rd (s : State) (lane : Fin 20) (cycles : Nat) {ix : Nat} (hcycles : ix ≠ Ix.cdeLaneBusyCycles) (hblocks : ix ≠ Ix.cdeLaneBlocks)
    (hix : ix < 0x6C07) : (s.laneDone lane.val cycles).rd ix 0 = s.rd ix 0 :=
  ((noted_tally _ _ _ _).rd hix (by decide)).trans
    ((rd_wr_of_index _ _ hblocks (by omega) (by decide)).trans (rd_wr_of_index _ _ hcycles (by omega) (by decide)))

/-- A tile that was decoded, or whose channel does not run, goes back to its page (R215, R230). -/
theorem finishLane_tile {w : TileJob} (hheld : s.cde.lanes[lane] = some (.tile w)) : LaneFreed s lane (s.finishLane lane) := by
  have returned {t : State} (data : Option Octets) (h : LaneFreed s lane t) : LaneFreed s lane (t.tileDone w data) := by
    unfold State.tileDone
    exact R_ite h h
  unfold State.finishLane
  rw [hheld]
  dsimp only
  have hhead := (Beside.refl false (laneEmptied s lane)).dramFetch 3 w.addr 16
  refine R_ite hhead.laneFreed ?_
  have hread (n : Nat) := hhead.dramFetch 3 w.addr n
  have hcounted {v : State} {cycles n : Nat} (hv : Beside false (laneEmptied s lane) v) :
      Beside false (laneEmptied s lane) (((v.laneDone lane.val cycles).countDecoded n).tally 0x22 0 1) :=
    Beside.noted (hv.laneDone _ _).alike (noted_tally _ _ _ _)
  exact returned _ (R_ite ((hcounted (hread _)).checkFailed 0).laneFreed (hcounted (hread _)).laneFreed)

/-- The state once a crop block is encoded and counted, before it is handed over (R236, R257). -/
def cropCounted (s : State) (lane : Fin 20) (b : CropBlock) : State :=
  ((laneEmptied s lane).laneDone lane.val (laneCycles (b.data.length / 2) 4)).countEncoded b.data.length
    (imageBlock b.width b.height b.comps true b.data).1.length (imageBlock b.width b.height b.comps true b.data).2

theorem cropCounted_beside (s : State) (lane : Fin 20) (b : CropBlock) : Beside false (laneEmptied s lane) (cropCounted s lane b) :=
  ((Beside.refl false _).laneDone _ _).countEncoded _ _ _

/-- An encoded crop block is handed over (R354). -/
theorem finishLane_crop {b : CropBlock} (hheld : s.cde.lanes[lane] = some (.crop b)) :
    s.finishLane lane =
      (cropCounted s lane b).setCde { s.cde with
        lanes := s.cde.lanes.set lane none,
        encoded := s.cde.encoded ++ [(b.handle, b.index, (imageBlock b.width b.height b.comps true b.data).1)] } := by
  have hcde := (cropCounted_beside s lane b).cde
  unfold cropCounted at hcde ⊢
  unfold State.finishLane
  rw [hheld]
  dsimp only
  rw [hcde]
  rfl

/-- An encoded block counts as one (R257). -/
theorem cropCounted_blocks (s : State) (lane : Fin 20) (b : CropBlock) :
    (cropCounted s lane b).rd Ix.cdeBlocksCompressed 0 = (s.rd Ix.cdeBlocksCompressed 0 + 1) % 2 ^ 64 := by
  have hcount (t : State) (n k : Nat) (stored : Bool) :
      (t.countEncoded n k stored).rd Ix.cdeBlocksCompressed 0 = (t.rd Ix.cdeBlocksCompressed 0 + 1) % 2 ^ 64 := by
    have hbits : bitsAt (key Ix.cdeBlocksCompressed 0) = 64 := rfl
    have h : (((t.bump Ix.cdeBlocksCompressed 0 1).bump Ix.cdeOriginalBytesEncoded 0 n).bump Ix.cdeCompressedBytesWritten 0 k).rd
        Ix.cdeBlocksCompressed 0 = (t.rd Ix.cdeBlocksCompressed 0 + 1) % 2 ^ 64 := by
      rw [rd_bump, if_neg (by decide), rd_bump, if_neg (by decide), rd_bump, if_pos rfl, hbits]
    unfold State.countEncoded
    cases stored with
    | false => exact h
    | true => exact (rd_wr_of_index _ _ (by decide) (by decide) (by decide)).trans h
  unfold cropCounted
  rw [hcount, laneDone_rd _ _ _ (by decide) (by decide) (by decide), setCde_rd _ _ (by decide) (by decide) (by decide)]

/-- A host job whose block or slice is done ends or is queued again (R244, R247). -/
theorem finishLane_host {j : HostJob} (hheld : s.cde.lanes[lane] = some (.host j)) : LaneFreed s lane (s.finishLane lane) := by
  have shown {t : State} (h : LaneFreed s lane t) : LaneFreed s lane t.showCde := h
  unfold State.finishLane
  rw [hheld]
  dsimp only
  have hstepped := ((Beside.refl true (laneEmptied s lane)).stepJob j).laneDone lane.val ((laneEmptied s lane).stepJob j).2.cycles
  split
  · exact shown (hstepped.endJob _ _).laneFreed
  · exact R_ite (shown (hstepped.endJob _ _).laneFreed) hstepped.laneFreed

/-- A job without input left, and without a poisoned block, is done (R246, R249). -/
theorem stepJob_done (s : State) {j : HostJob}
    (hdone : (jobOp j.desc = 1 ∧ jobUnits j.desc ≤ j.consumed) ∨ (jobOp j.desc = 3 ∧ jobLength j.desc ≤ j.consumed ∧ j.poisoned = 0)) :
    s.stepJob j = (s, ⟨j, some 0, 0⟩) := by
  unfold State.stepJob
  obtain ⟨hop, hunits⟩ | ⟨hop, hlength, hsound⟩ := hdone
  · rw [if_pos hop]
    unfold State.compressBlock
    exact if_pos hunits
  · rw [if_neg (by omega), if_neg (by omega), if_pos hop]
    unfold State.decompressBlock
    dsimp only
    rw [if_pos (Nat.sub_eq_zero_of_le hlength), if_pos hsound]

/-- A job that is done leaves its lane and ends with status 0 (R247, R249). -/
theorem finishLane_done {j : HostJob} (hheld : s.cde.lanes[lane] = some (.host j))
    (hdone : (jobOp j.desc = 1 ∧ jobUnits j.desc ≤ j.consumed) ∨ (jobOp j.desc = 3 ∧ jobLength j.desc ≤ j.consumed ∧ j.poisoned = 0)) :
    s.finishLane lane = (((laneEmptied s lane).laneDone lane.val 0).endJob j 0).showCde := by
  unfold State.finishLane
  rw [hheld]
  dsimp only
  rw [stepJob_done _ hdone]
  dsimp only
  rw [if_neg (by simp)]

end

/-- Settles O24: a submit and a cancel are performed as the writes that they are, a dispatch and a lane's end by the kind of work, and all that a
block or a job's end does besides is beside CDE's bookkeeping. -/
theorem compressionActs : Obligations.CompressionActs := by
  unfold Obligations.CompressionActs
  refine ⟨?_, ?_, ?_, ?_, ?_, ?_, ?_, ?_, ?_, ?_, ?_⟩
  · exact fun s r x value hgrants hrun hok hroom => jobSubmit_queues hgrants hrun hok hroom
  · exact fun s r x value hgrants hrun hok hfull => jobSubmit_busy hgrants hrun hok hfull
  · intro s lane w ws hclocked hrun hlane hfree htiles
    exact ⟨_, laneDispatch_tile hclocked hrun hfree hlane htiles, rfl, rfl, rfl, setCde_busy s { s.cde with tiles := ws } lane (.tile w), rfl⟩
  · intro s lane w ws hclocked hrun hlane hfree hcrops
    exact ⟨_, laneDispatch_crop hclocked hrun hfree hlane hcrops, rfl, rfl, rfl, rfl⟩
  · intro s lane j js hclocked hrun hfree htiles hcrops hjobs hsuits
    exact ⟨_, laneDispatch_host hclocked hrun hfree htiles hcrops hjobs hsuits, rfl, rfl, rfl⟩
  · intro s lane j hclocked hheld hdone _ hunpushed
    have ended := ((Beside.refl false (laneEmptied s lane)).laneDone lane.val 0).endJob j 0
    have shown := ended.alike (u := (((laneEmptied s lane).laneDone lane.val 0).endJob j 0).showCde)
    refine ⟨_, blockComplete_exec hclocked lane, ?_⟩
    rw [finishLane_done hheld hdone, shown.cde]
    refine ⟨rfl, rfl, endJob_completion _ (.inl rfl) hunpushed, ?_, shown.dram rfl⟩
    rw [showCde_rd _ (by decide) (by decide) (by decide), endJob_completed _ (.inl rfl) hunpushed,
      laneDone_rd _ _ _ (by decide) (by decide) (by decide), setCde_rd _ _ (by decide) (by decide) (by decide)]
  · intro s lane b hclocked hheld _
    refine ⟨_, blockComplete_exec hclocked lane, ?_⟩
    rw [finishLane_crop hheld]
    refine ⟨rfl, rfl, ?_, (cropCounted_beside s lane b).dram rfl⟩
    rw [setCde_rd _ _ (by decide) (by decide) (by decide), cropCounted_blocks]
  · exact fun s r x tag j _ hgrants hjobs htag hqueued hunpushed => jobCancel_ends hgrants hjobs htag hqueued hunpushed
  · intro s lane w hclocked hheld
    refine ⟨_, blockComplete_exec hclocked lane, ?_⟩
    cases w with
    | tile w => exact finishLane_tile hheld
    | crop b =>
      rw [finishLane_crop hheld]
      exact ⟨rfl, rfl, rfl, congrArg MreState.queue (cropCounted_beside s lane b).mre⟩
    | host j => exact finishLane_host hheld
  · exact fun s lane hidle => blockComplete_idle hidle
  · exact fun s r x tag hgrants => jobCancel_filters hgrants

end Sys2Proof.Settled
end

section
/-! What happens beyond CLS: what the queues, the device DRAM, the counters and the events' crossings leave of CLS, its sources and the objects
that its events read (R302, R305, R389, R407). -/

namespace Sys2Proof.Settled

open Sys2Proof Sys2Proof.Machine Sys2Proof.Laws

/-! ### What happens beyond CLS -/

/-- CLS, its sources and the causes that wait for EVF are as they were; of the objects below the queues' and the memory's blocks, only the flags
of a crossing and of CQ's room have changed; the device DRAM is as it was, unless `stores` admits writes to it. -/
structure Beyond (stores : Bool) (s t : State) : Prop where
  seg : t.seg = s.seg
  mre : t.mre = s.mre
  pfc : t.pfc = s.pfc
  cls : t.cls = s.cls
  inbox : t.evf.inbox = s.evf.inbox
  dram : stores = false → t.dram = s.dram
  rd : ∀ {ix sub : Nat}, ix < 0x5000 → signalWrites ix = false → ix ≠ Ix.clsClassifierStatus → sub < 256 → t.rd ix sub = s.rd ix sub

section
variable {d : Bool} {s t u : State}

theorem Beyond.refl (d : Bool) (s : State) : Beyond d s s := ⟨rfl, rfl, rfl, rfl, rfl, fun _ => rfl, fun _ _ _ _ => rfl⟩

/-- Other fields change, and of the objects those that are not kept. -/
theorem Beyond.keeping (h : Beyond d s t)
    (hrd : ∀ {ix sub : Nat}, ix < 0x5000 → signalWrites ix = false → ix ≠ Ix.clsClassifierStatus → sub < 256 → u.rd ix sub = t.rd ix sub)
    (hseg : u.seg = t.seg := by rfl) (hmre : u.mre = t.mre := by rfl) (hpfc : u.pfc = t.pfc := by rfl) (hcls : u.cls = t.cls := by rfl)
    (hinbox : u.evf.inbox = t.evf.inbox := by rfl) (hdram : u.dram = t.dram := by rfl) : Beyond d s u := by
  obtain ⟨seg, mre, pfc, cls, inbox, dram, rd⟩ := h
  exact ⟨hseg.trans seg, hmre.trans mre, hpfc.trans pfc, hcls.trans cls, hinbox.trans inbox, fun hd => hdram.trans (dram hd),
    fun hix hsignal hstatus hsub => (hrd hix hsignal hstatus hsub).trans (rd hix hsignal hstatus hsub)⟩

/-- Other fields change, and no object. -/
theorem Beyond.alike (h : Beyond d s t) (hseg : u.seg = t.seg := by rfl) (hmre : u.mre = t.mre := by rfl) (hpfc : u.pfc = t.pfc := by rfl)
    (hcls : u.cls = t.cls := by rfl) (hinbox : u.evf.inbox = t.evf.inbox := by rfl) (hdram : u.dram = t.dram := by rfl)
    (hregs : u.regs = t.regs := by rfl) : Beyond d s u :=
  h.keeping (fun _ _ _ _ => congrArg (fun m => storeGet _ m _) hregs) hseg hmre hpfc hcls hinbox hdram

/-- An object of the blocks from PFC's on is written. -/
theorem Beyond.wr (h : Beyond d s t) {ix sub v : Nat} (hix : 0x5000 ≤ ix := by exact Nat.le_of_ble_eq_true rfl) :
    Beyond d s (t.wr ix sub v) :=
  h.keeping fun hjx _ _ _ => by rw [rd_wr, if_neg (by unfold key; omega)]

theorem Beyond.takeFree (h : Beyond d s t) : Beyond d s t.takeFree := h.alike

theorem Beyond.noted (h : Beyond d s t) (hnoted : Noted t u) : Beyond d s u := by
  rw [hnoted.same]
  exact h.keeping fun hix _ _ hsub => hnoted.rd (by omega) hsub

theorem Beyond.cross (h : Beyond d s t) (code : Nat) (own : Option (Nat × Nat)) (arg : Nat) : Beyond d s (t.cross code own arg) := by
  have hcross := signals_cross t code own arg
  rw [hcross.same]
  exact h.keeping fun _ hsignal _ hsub => hcross.rd hsignal hsub

/-- CQ_WAIT and PRODUCER_WAIT are shown (R302, R381). -/
theorem Beyond.showCqWait (h : Beyond d s t) : Beyond d s t.showCqWait := by
  unfold State.showCqWait
  extract_lets +onlyGivenNames -underBinder waits
  have shown : Beyond d s (t.putBit Ix.clsClassifierStatus 0 csCqWait waits) :=
    h.keeping fun _ _ hstatus hsub => rd_wr_of_index t _ hstatus (by decide) hsub
  exact shown.wr

theorem Beyond.msix (h : Beyond d s t) (v : Nat) : Beyond d s (t.msix v) := by
  unfold State.msix
  exact R_ite h.alike h

theorem Beyond.discard (h : Beyond d s t) {f : Fn} (n : Nat) (hf : 0x5000 ≤ f.base) : Beyond d s (t.discard f n) :=
  h.wr (Nat.le_add_right_of_le hf)

/-! ### Packets -/

theorem Beyond.depthChanged (h : Beyond d s t) (q : Fin 3) (old : Nat) : Beyond d s (t.depthChanged q old) := by
  unfold State.depthChanged
  extract_lets +onlyGivenNames -underBinder sub now hi lo s1 s2 s3
  have h1 : Beyond d s s1 := h.wr
  have h2 : Beyond d s s2 := R_ite ((Beyond.cross h1.wr _ _ _).msix _) h1
  have h3 : Beyond d s s3 := R_ite (Beyond.cross h2.wr _ _ _) h2
  exact h3.wr

theorem Beyond.entered (h : Beyond d s t) (q : Fin 3) (ps : List (List QWord)) : Beyond d s (t.entered q ps) := by
  have set : Beyond d s (t.setQueue q { t.queues[q] with packets := ps }) := h.alike
  have put : Beyond d s (t.putPackets q ps) := set.depthChanged q (t.depth q)
  have counted : Beyond d s ((t.putPackets q ps).bump Ix.dlvPacketsPushed (q.val + 1) 1) := put.wr
  exact (counted.cross (eventCode 18 q.val 0) none _).noted (noted_sample _ _ _ _ _)

theorem Beyond.losePackets (h : Beyond d s t) (q : Fin 3) (n words : Nat) : Beyond d s (t.losePackets q n words) := by
  have counted : Beyond d s ((t.bump Ix.dlvPacketsLost (q.val + 1) n).setBit Ix.dlvQueueFlags (q.val + 1) qLost) := h.wr.wr
  unfold State.losePackets
  exact R_ite counted counted.alike

theorem queueFn_block (q : Fin 3) : (queueFn q).base = 0x5800 := by
  revert q
  decide

/-- A packet pushed to a queue, whether it enters or is lost (R346, R348). -/
theorem Beyond.push (h : Beyond d s t) (q : Fin 3) (producer : Nat) (poison : Bool) (record : Octets) :
    Beyond d s (t.push q producer poison record) := by
  unfold State.push
  extract_lets +onlyGivenNames -underBinder u p
  have hu : Beyond d s u := by
    show Beyond d s (t.pushLoss q)
    unfold State.pushLoss
    exact R_ite (Beyond.entered (t := t.setQueue q _) h.alike q _) h
  have lost : Beyond d s (if u.runs (queueFn q) then u else u.discard (queueFn q) 1) :=
    R_ite hu (hu.discard 1 (by rw [queueFn_block]; decide))
  exact R_ite (Beyond.entered (t := u.setQueue q _) hu.alike q _) (lost.losePackets q _ _)

/-! ### The device DRAM -/

theorem Beyond.activate (h : Beyond d s t) (n : Fin 8) : Beyond d s (t.activate n) := by
  unfold State.activate
  exact R_ite h.takeFree.wr h.takeFree

theorem Beyond.countRead (h : Beyond d s t) (n : Fin 8) : Beyond d s (t.countRead n) := by
  unfold State.countRead
  extract_lets +onlyGivenNames -underBinder c u
  have hu : Beyond d s u := Beyond.noted (t := t.setDmc n _) h.alike (noted_tally _ _ _ _)
  exact R_ite (hu.takeFree.noted (noted_sample _ _ _ _ _)) hu

theorem Beyond.logError (h : Beyond d s t) (n : Fin 8) (a outcome requester devices : Nat) (scrub : Bool) :
    Beyond d s (t.logError n a outcome requester devices scrub) := by
  have logged (place : Nat) (entry : Octets) : Beyond d s (t.wro Ix.dmcErrorLog 0 (putOctets (t.rdo Ix.dmcErrorLog 0) place entry)) := h.alike
  exact (logged _ _).wr

theorem Beyond.correctable (h : Beyond d s t) (n : Fin 8) (a requester devices : Nat) (scrub : Bool) :
    Beyond d s (t.correctable n a requester devices scrub) := by
  unfold State.correctable
  extract_lets +onlyGivenNames -underBinder c recent s1 due s2 s3
  have h1 : Beyond d s s1 := h.wr
  have h2 : Beyond d s s2 := R_ite (h1.logError n a _ _ _ _) h1
  have h3 : Beyond d s s3 := h2.alike
  have retrains : Beyond d s (s3.setDmc n { s3.dmc.channels[n] with retrain := .first }) := h3.alike
  refine R_ite ?_ h3
  unfold State.startRetraining
  exact R_ite (Beyond.cross retrains.wr _ _ _) h3

theorem Beyond.transient (h : Beyond d s t) (n : Fin 8) (a requester : Nat) (scrub : Bool) : Beyond d s (t.transient n a requester scrub) := by
  have hretry : Beyond d s (t.retryTransient 1 n.val) := by
    unfold State.retryTransient
    extract_lets +onlyGivenNames -underBinder recent within bst u
    have hu : Beyond d s u := Beyond.wr (t := { t with bst := { t.bst with window := within } }) h.alike
    exact R_ite hu.wr.wr hu
  exact Beyond.logError hretry.wr.wr n a _ _ _ _

theorem Beyond.lasting (h : Beyond d s t) (n : Fin 8) (a requester : Nat) (scrub : Bool) : Beyond d s (t.lasting n a requester scrub) := by
  unfold State.lasting
  extract_lets +onlyGivenNames -underBinder s1 s2
  have h1 : Beyond d s s1 := h.wr.wr.wr
  have h2 : Beyond d s s2 := (h1.cross (eventCode 21 n.val 0) none 0).logError n a _ _ _ _
  exact R_ite h2 h2.alike

/-- A unit that is read, whatever its channel finds (R389, R392). -/
theorem Beyond.readUnit (h : Beyond d s t) (requester a : Nat) : Beyond d s (t.readUnit requester a).2 := by
  unfold State.readUnit
  split
  · exact h
  · next n _ =>
    refine R_ite_2 (h.discard 1 (Nat.le_of_ble_eq_true rfl)) ?_
    extract_lets +onlyGivenNames -underBinder s1
    have h1 : Beyond d s s1 := (h.activate n).countRead n
    refine R_ite_2 (Beyond.logError h1.wr n a _ _ _ _) ?_
    split
    next k rest _ =>
    extract_lets +onlyGivenNames -underBinder injected s2
    have h2 : Beyond d s s2 := h1.alike
    split
    · exact h2.correctable n a requester 1 false
    · exact h2.transient n a requester false
    · exact h2.lasting n a requester false
    · exact h2

theorem Beyond.dramFetch (h : Beyond d s t) (requester a n : Nat) : Beyond d s (t.dramFetch requester a n).2.2 := by
  have units (k : Nat) : ∀ {t : State} (a : Nat), Beyond d s t → Beyond d s (t.readUnits requester a k).2 := by
    induction k with
    | zero => exact fun _ h => h
    | succ k ih => exact fun a h => ih (a + 64) (h.readUnit requester a)
  unfold State.dramFetch
  exact R_ite_2_2 h (units _ _ h)

theorem Beyond.putUnit (h : Beyond true s t) (n : Fin 8) (a : Nat) (data : Octets) : Beyond true s (t.putUnit n a data) := by
  unfold State.putUnit
  extract_lets +onlyGivenNames -underBinder u s1 cured s2
  have h1 : Beyond true s s1 := (h.activate n).noted (noted_tally _ _ _ _)
  have h2 : Beyond true s s2 := R_ite h1.alike h1
  obtain ⟨seg, mre, pfc, cls, inbox, -, rd⟩ := h2
  exact R_ite ⟨seg, mre, pfc, cls, inbox, nofun, rd⟩ ⟨seg, mre, pfc, cls, inbox, nofun, rd⟩

theorem Beyond.writeUnit (h : Beyond true s t) (a : Nat) (data : Octets) : Beyond true s (t.writeUnit a data) := by
  unfold State.writeUnit
  split
  · exact h
  · exact R_ite (h.discard 1 (Nat.le_of_ble_eq_true rfl)) (h.putUnit _ a data)

/-- Octets that are written to the DRAM change nothing else that CLS keeps (R389). -/
theorem Beyond.dramStore (h : Beyond true s t) (a : Nat) (data : Octets) : Beyond true s (t.dramStore a data) := by
  have units (fuel : Nat) : ∀ {t : State} (a : Nat) (data : Octets), Beyond true s t → Beyond true s (t.storeUnits a data fuel) := by
    induction fuel with
    | zero => exact fun _ _ h => h
    | succ fuel ih =>
      intro t a data h
      unfold State.storeUnits
      exact R_ite h (ih _ _ (h.writeUnit a _))
  exact units _ a data h

end

end Sys2Proof.Settled
end

section
/-! CLS's work on one input (R291 to R312): what Crumbs, crops, marks and the ledger leave of the inputs behind it. -/

namespace Sys2Proof.Settled

open Sys2Proof Sys2Proof.Machine Sys2Proof.Laws

/-! ### CLS's work while EVF stands still -/

/-- CLS has worked while EVF stood still, and stands still: its sources and its lookup in flight are as they were, and the device DRAM too, unless
`stores` admits writes to it. -/
structure ClsWork (stores : Bool) (s t : State) : Prop where
  seg : t.seg = s.seg
  mre : t.mre = s.mre
  pfc : t.pfc = s.pfc
  lookup : t.cls.lookup = s.cls.lookup
  dram : stores = false → t.dram = s.dram
  still : t.EvfStill

theorem fabricRuns_congr {s t : State} (h : t.rd 0x2800 0 = s.rd 0x2800 0) : t.fabricRuns = s.fabricRuns := by
  unfold State.fabricRuns
  rw [h]

section
variable {d : Bool} {s t u : State}

theorem ClsWork.refl (d : Bool) (h : s.EvfStill) : ClsWork d s s := ⟨rfl, rfl, rfl, rfl, fun _ => rfl, h⟩

/-- Other fields change, those of CLS among them. -/
theorem ClsWork.alike (h : ClsWork d s t) (hseg : u.seg = t.seg := by rfl) (hmre : u.mre = t.mre := by rfl) (hpfc : u.pfc = t.pfc := by rfl)
    (hlookup : u.cls.lookup = t.cls.lookup := by rfl) (hdram : u.dram = t.dram := by rfl) (hevf : u.evf = t.evf := by rfl)
    (hregs : u.regs = t.regs := by rfl) : ClsWork d s u := by
  obtain ⟨seg, mre, pfc, lookup, dram, hruns, hinbox⟩ := h
  refine ⟨hseg.trans seg, hmre.trans mre, hpfc.trans pfc, hlookup.trans lookup, fun hd => hdram.trans (dram hd), ?_, ?_⟩
  · rw [← hruns]
    exact fabricRuns_congr (congrArg (fun m => storeGet _ m _) hregs)
  · rw [hevf, hinbox]

theorem ClsWork.wr_of_key (h : ClsWork d s t) {ix sub v : Nat} (hkey : key 0x2800 0 ≠ key ix sub) : ClsWork d s (t.wr ix sub v) := by
  obtain ⟨seg, mre, pfc, lookup, dram, hruns, hinbox⟩ := h
  refine ⟨seg, mre, pfc, lookup, dram, ?_, hinbox⟩
  rw [← hruns]
  exact fabricRuns_congr (by rw [rd_wr, if_neg hkey])

/-- An object behind EVF's function state is written. -/
theorem ClsWork.wr (h : ClsWork d s t) {ix sub v : Nat} (hix : 0x2801 ≤ ix := by exact Nat.le_of_ble_eq_true rfl) :
    ClsWork d s (t.wr ix sub v) := h.wr_of_key (by unfold key; omega)

/-- An object before EVF's block is written. -/
theorem ClsWork.wr_before (h : ClsWork d s t) {ix sub v : Nat} (hsub : sub < 256 := by omega)
    (hix : ix + 1 ≤ 0x2800 := by exact Nat.le_of_ble_eq_true rfl) : ClsWork d s (t.wr ix sub v) :=
  h.wr_of_key (by unfold key; omega)

theorem ClsWork.discard (h : ClsWork d s t) (f : Fn) (n : Nat) : ClsWork d s (t.discard f n) := by
  have hsub := fn_sub_lt f
  have hblock := fn_base_mod f
  exact h.wr_of_key (by unfold key; omega)

/-- What happens beyond CLS may happen in its work. -/
theorem ClsWork.beyond (h : ClsWork d s t) (k : Beyond d t u) : ClsWork d s u := by
  obtain ⟨seg, mre, pfc, lookup, dram, hruns, hinbox⟩ := h
  refine ⟨k.seg.trans seg, k.mre.trans mre, k.pfc.trans pfc, (congrArg ClsState.lookup k.cls).trans lookup,
    fun hd => (k.dram hd).trans (dram hd), ?_, k.inbox.trans hinbox⟩
  rw [← hruns]
  exact fabricRuns_congr (k.rd (by decide) rfl (by decide) (by decide))

theorem ClsWork.cross (h : ClsWork d s t) (code : Nat) (own : Option (Nat × Nat)) (arg : Nat) : ClsWork d s (t.cross code own arg) :=
  h.beyond ((Beyond.refl d t).cross code own arg)

/-- A cause that finds EVF not Running is only counted (R419). -/
theorem ClsWork.reachFabric (h : ClsWork d s t) (c : Cause) : ClsWork d s (t.reachFabric c) := by
  unfold State.reachFabric
  rw [h.still.1, if_neg Bool.false_ne_true]
  exact h.wr

/-! ### Marks -/

theorem ClsWork.pscReport (h : ClsWork d s t) (outcome target action tag : Nat) : ClsWork d s (t.pscReport outcome target action tag) := by
  unfold State.pscReport
  exact R_ite (h.beyond ((Beyond.refl d t).push _ _ _ _)) h

theorem ClsWork.entriesFire (es : List PscEntry) (h : ClsWork d s t) : ClsWork d s (t.entriesFire es) := by
  induction es generalizing t with
  | nil => exact h
  | cons e es ih =>
    have counted : ClsWork d s (t.bump Ix.pscFiredCount 0 1) := h.wr_before
    exact ih (ClsWork.pscReport (R_ite (counted.reachFabric _) counted) _ _ _ _)

theorem ClsWork.fireEntries (h : ClsWork d s t) (es : List PscEntry) : ClsWork d s (t.fireEntries es) := by
  cases es with
  | nil => exact h
  | cons e es => exact ClsWork.entriesFire (e :: es) (h.reachFabric _)

theorem ClsWork.setOut (h : ClsWork d s t) (n : Nat) (o : OutStage) : ClsWork d s (t.setOut n o) := by
  unfold State.setOut
  exact R_dite (fun _ => h.alike) (fun _ => h)

theorem ClsWork.pulseFiring (h : ClsWork d s t) {n : Nat} (hn : n < 48) : ClsWork d s (t.pulseFiring n) := by
  unfold State.pulseFiring
  split
  · exact (h.setOut n _).wr_before
  · have overlapped : ClsWork d s ((t.bumpSat Ix.pscOverlapCount (n + 1) 1).setBit Ix.pscSchedulerStatus 0 2) :=
      ClsWork.wr_before (h.wr_before)
    exact R_ite (overlapped.setOut n _) overlapped

theorem ClsWork.outputFires (h : ClsWork d s t) {n : Nat} (hn : n < 48) (kinds : List Nat) : ClsWork d s (t.outputFires n kinds) := by
  unfold State.outputFires
  extract_lets +onlyGivenNames -underBinder act extra u
  have hu : ClsWork d s u := R_ite h h.wr_before
  clear_value act
  split
  · exact hu.pulseFiring hn
  · exact hu.setOut n _
  · exact hu.setOut n _
  · exact hu.setOut n _
  · exact hu

theorem ClsWork.outputsFire (h : ClsWork d s t) (fs : List (Nat × Nat)) {ns : List Nat} (hns : ∀ n ∈ ns, n < 48) :
    ClsWork d s (t.outputsFire fs ns) := by
  induction ns generalizing t with
  | nil => exact h
  | cons n ns ih => exact ih (R_ite h (h.outputFires (hns n List.mem_cons_self) _)) (fun m hm => hns m (List.mem_cons_of_mem _ hm))

theorem ClsWork.fireOutputs (h : ClsWork d s t) (fromSource fromEntries : List (Nat × Nat)) :
    ClsWork d s (t.fireOutputs fromSource fromEntries) := by
  unfold State.fireOutputs
  exact R_ite (h.outputsFire _ (fun _ hn => List.mem_range.mp hn)) (R_ite h (h.discard _ _))

/-- A request to the scheduler, whether it is stored, late or refused (R69, R70). -/
theorem ClsWork.pscRequest (h : ClsWork d s t) (requested action tag : Nat) (barred : Bool) :
    ClsWork d s (t.pscRequest requested action tag barred).1 := by
  have full : ClsWork d s ((t.bump Ix.pscFullCount 0 1).setBit Ix.pscSchedulerStatus 0 1) := ClsWork.wr_before h.wr_before
  have late : ClsWork d s ((t.bump Ix.pscLateCount 0 1).setBit Ix.pscSchedulerStatus 0 0) := ClsWork.wr_before h.wr_before
  have lateNoted : ClsWork d s (lateNoted t tag) := late.reachFabric _
  unfold State.pscRequest
  refine R_ite_1 h (R_ite_1 (h.discard _ _) (R_ite_1 h (R_ite_1 (full.reachFabric _) (R_ite_1 (R_ite_1 ?_ ?_) h.alike))))
  · exact (lateNoted.fireEntries _).fireOutputs _ _
  · exact lateNoted.pscReport _ _ _ _

/-- A mark request of a class (R301). -/
theorem ClsWork.requestMark (h : ClsWork d s t) (e : Octets) (c : Crumb) : ClsWork d s (t.requestMark e c).1 := by
  unfold State.requestMark
  extract_lets +onlyGivenNames -underBinder o target
  refine R_ite_1 h.wr ?_
  extract_lets +onlyGivenNames -underBinder action late cls s1
  have h1 : ClsWork d s s1 := ClsWork.wr (t := { t with cls := _ }) h.alike
  split
  next s2 code hrequest =>
  have h2 : ClsWork d s s2 := by
    rw [← show _ = s2 from congrArg Prod.fst hrequest]
    exact h1.pscRequest _ _ _ _
  extract_lets +onlyGivenNames -underBinder isLate failed s3 s4
  have h3 : ClsWork d s s3 := R_ite h2.wr h2
  exact R_ite (ClsWork.cross h3.wr.wr _ _ _) h3

/-! ### Crops -/

theorem ClsWork.cropRequest (h : ClsWork d s t) (handle col width first last : Nat) :
    ClsWork d s (t.cropRequest handle col width first last).1 := by
  unfold State.cropRequest
  extract_lets +onlyGivenNames -underBinder line0
  split
  · exact ClsWork.cross h.wr.wr _ _ _
  · exact ClsWork.wr (ClsWork.wr (t := { t with hrb := _ }) h.alike)

/-- A crop request of a class (R300). -/
theorem ClsWork.requestCrop (h : ClsWork d s t) (e : Octets) (c : Crumb) : ClsWork d s (t.requestCrop e c).1 := by
  unfold State.requestCrop
  extract_lets +onlyGivenNames -underBinder base w within lo hi last k s1
  have h1 : ClsWork d s s1 := h.wr.wr
  have h2 := h1.cropRequest k (lo - base) (hi - lo + 1) (c.lp0 / 65536 - clBefore e) (c.lp1 / 65536 + clAfter e)
  exact R_ite_1 h2 h2.wr.wr

/-! ### Crumbs -/

theorem ClsWork.formCrumb (h : ClsWork d s t) (c : Crumb) : ClsWork d s (t.formCrumb c) := by
  have formed : ClsWork d s { t with cls := { t.cls with crumbs := t.cls.crumbs ++ [crumbOctets c] } } := h.alike
  exact formed.wr.wr

/-- A blob or streak after its ledger lookup (R296, R308). -/
theorem ClsWork.finishBlob (h : ClsWork d s t) (b : ClsBlob) (cls : Nat) (hit : LedgerHit) : ClsWork d s (t.finishBlob b cls hit) := by
  unfold State.finishBlob
  extract_lets +onlyGivenNames -underBinder w cell s1 promoted c e
  have h1 : ClsWork d s s1 := R_ite (h.formCrumb _) h
  refine R_ite h1.wr ?_
  extract_lets +onlyGivenNames -underBinder base crumb
  split
  next s2 c1 hcrop =>
  have h2 : ClsWork d s s2 := by
    rw [← show _ = s2 from congrArg Prod.fst hcrop]
    exact R_ite_1 (h1.requestCrop e crumb) h1
  split
  next s3 c2 hmark =>
  have h3 : ClsWork d s s3 := by
    rw [← show _ = s3 from congrArg Prod.fst hmark]
    exact R_ite_1 (h2.requestMark e c1) h2
  split
  next s4 c3 halert =>
  have h4 : ClsWork d s s4 := by
    rw [← show _ = s4 from congrArg Prod.fst halert]
    exact R_ite_1 (h3.cross _ _ _) h3
  exact ClsWork.formCrumb (R_ite h4 h4.wr) c3

/-- The Crumbs of a strip summary (R295). -/
theorem ClsWork.summaryCrumbs (h : ClsWork d s t) (r : Octets) : ClsWork d s (t.summaryCrumbs r) := by
  unfold State.summaryCrumbs
  extract_lets +onlyGivenNames -underBinder f on strip base unseen segs col w s1 s2 s3
  have h1 : ClsWork d s s1 := R_ite (h.formCrumb _) h
  have h2 : ClsWork d s s2 := R_ite (h1.formCrumb _) h1
  have h3 : ClsWork d s s3 := R_ite (h2.formCrumb _) h2
  exact R_ite (h3.formCrumb _) h3

theorem ClsWork.pageCrumb (h : ClsWork d s t) (r : Octets) : ClsWork d s (t.pageCrumb r) := by
  unfold State.pageCrumb
  exact R_ite (h.formCrumb _) h

theorem ClsWork.clsBoundary (h : ClsWork d s t) : ClsWork d s t.clsBoundary := h.alike

/-! ### The ledger -/

/-- A blob handled by the ledger (R305 to R311). -/
theorem ClsWork.ledgerUpdate (h : ClsWork true s t) (key page lp cls : Nat) : ClsWork true s (t.ledgerUpdate key page lp cls).1 := by
  unfold State.ledgerUpdate
  extract_lets +onlyGivenNames -underBinder bucket
  refine R_ite_1 (ClsWork.cross h.wr _ _ _) (R_ite_1 h ?_)
  extract_lets +onlyGivenNames -underBinder addr
  split
  next bs bad s1 hread =>
  have h1 : ClsWork true s s1 := by
    rw [← show _ = s1 from congrArg (fun z => z.2.2) hread]
    exact h.beyond ((Beyond.refl true t).dramFetch 4 addr 256)
  refine R_ite_1 (ClsWork.cross h1.wr.wr _ _ _) ?_
  extract_lets +onlyGivenNames -underBinder slots
  split
  next i new evicts _ =>
  extract_lets +onlyGivenNames -underBinder e gap restart again hits repeats first last flags report flags' ecls e' s2 s3 s4 filled s5 index s6
  have stored : ClsWork true s (s1.dramStore (addr + 32 * i) e') := h1.beyond ((Beyond.refl true s1).dramStore _ _)
  have h2 : ClsWork true s s2 := stored.wr
  have h3 : ClsWork true s s3 := R_ite h2.wr h2
  have h4 : ClsWork true s s4 := R_ite (ClsWork.wr (R_ite h3.wr h3)) h3
  have h5 : ClsWork true s s5 := h4.wr
  exact R_ite (ClsWork.cross h5.wr.wr _ _ _) h5

end

end Sys2Proof.Settled
end

section
/-! The classifier and the ledger (O26): inputs are taken, lookups are handled, Crumbs leave, and the ledger is swept (R291 to R312). -/

namespace Sys2Proof.Settled

open Sys2Proof Sys2Proof.Machine Sys2Proof.Laws

/-! ### The input that CLS takes -/

/-- What CLS does, Running or Draining, with an input that it has taken from its FIFO (R291, R312). -/
def workInput (t : State) (r : Octets) : State :=
  if leAt r 0 2 = 0x0007 then
    if t.cls.begun then (t.summaryCrumbs r).clsBoundary else ({ t with cls := { t.cls with begun := true } } : State).clsBoundary
  else if !t.cls.begun then t.discard .cls 1
  else if leAt r 0 2 = 0x0004 then t.pageCrumb r
  else t.classify r

/-- What CLS does with it in any state (R26). -/
def handleInput (t : State) (r : Octets) : State :=
  if !(t.runs .cls || t.drains .cls) then t.discard .cls 1 else workInput t r

/-- The states in which CLS handles an input taken from SEG, from MRE and from PFC: the FIFO holds the rest. -/
abbrev tookSeg (s : State) (rest : List Octets) : State := { s with seg := { s.seg with fifo := rest } }
abbrev tookMre (s : State) (rest : List Octets) : State := { s with mre := { s.mre with toCls := rest } }
abbrev tookPfc (s : State) (rest : List Octets) : State := { s with pfc := { s.pfc with fifo := rest } }

section
variable {s : State} {r : Octets} {rest : List Octets}

theorem clsNext_seg (hseg : s.seg.fifo = r :: rest) : s.clsNext = some (r, tookSeg s rest) := by
  unfold State.clsNext
  rw [hseg]

theorem clsNext_mre (hseg : s.seg.fifo = []) (hmre : s.mre.toCls = r :: rest) : s.clsNext = some (r, tookMre s rest) := by
  unfold State.clsNext
  rw [hseg, hmre]

theorem clsNext_pfc (hseg : s.seg.fifo = []) (hmre : s.mre.toCls = []) (hpfc : s.pfc.fifo = r :: rest) :
    s.clsNext = some (r, tookPfc s rest) := by
  unfold State.clsNext
  rw [hseg, hmre, hpfc]

end

/-! ### Classification -/

/-- The class of a record turns on what CLS keeps of the pages alone (R297). -/
theorem treeClass_congr {s t : State} (h : t.cls.pages = s.cls.pages) (tree r : Octets) (fuel node : Nat) :
    t.treeClass tree r fuel node = s.treeClass tree r fuel node := by
  have hfeature (code : Nat) : t.feature r code = s.feature r code := by
    unfold State.feature State.pageStart
    rw [h]
  induction fuel generalizing node with
  | zero => rfl
  | succ fuel ih =>
    unfold State.treeClass
    dsimp only
    rw [hfeature, ih]

/-- A blob that is finished without the ledger, and whose class does not emit, is only counted (R296). -/
theorem finishBlob_discards (s : State) (b : ClsBlob) {c : Nat} (hemit : (clFlags (s.classEntry c)).testBit 0 = false) :
    s.finishBlob b c { used := false } = s.bump Ix.clsBlobsDiscardedByClass (c + 1) 1 := by
  unfold State.finishBlob
  dsimp only
  rw [if_neg Bool.false_ne_true, Bool.false_and, Bool.false_and, if_neg Bool.false_ne_true, hemit, if_pos (by rfl)]

theorem bitsAt_discardedByClass (c : Fin 16) : bitsAt (key Ix.clsBlobsDiscardedByClass (c.val + 1)) = 64 := by
  revert c
  decide

section
variable {s : State} {r : Octets} {c : Nat} (hblob : leAt r 0 2 = 6) (hclass : s.treeClass (s.rdfo Ix.clsClassifierTree 0) r 17 0 = c)
include hblob hclass

/-- A blob whose class neither looks up nor emits is discarded (R296). -/
theorem classify_discards (hlooks : (clFlags (s.classEntry c)).testBit 4 = false) (hemit : (clFlags (s.classEntry c)).testBit 0 = false) :
    s.classify r = s.bump Ix.clsBlobsDiscardedByClass (c + 1) 1 := by
  have hstreak : (leAt r 0 2 == 0x0008) = false := by rw [hblob]; rfl
  unfold State.classify
  rw [hstreak]
  dsimp only
  rw [if_neg Bool.false_ne_true, hclass, hlooks, Bool.false_and, if_neg Bool.false_ne_true, if_neg Bool.false_ne_true,
    finishBlob_discards s _ hemit]

/-- A blob of a known page whose class looks up goes to the ledger (R296, R305). -/
theorem classify_looks (hlooks : (clFlags (s.classEntry c)).testBit 4 = true) (hsource : s.rd Ix.segInputSource 0 = 0)
    (hpage : (s.pageStart (leAt r 0x28 4)).isSome = true) :
    ∃ k, s.classify r = { s with cls := { s.cls with lookup := some { record := r, cls := c, key := k, page := leAt r 0x28 4 } } } := by
  have hstreak : (leAt r 0 2 == 0x0008) = false := by rw [hblob]; rfl
  have hdirect : (s.rd Ix.segInputSource 0 == 1) = false := by rw [hsource]; rfl
  unfold State.classify
  rw [hstreak, hdirect]
  dsimp only
  rw [if_neg Bool.false_ne_true, if_neg Bool.false_ne_true, if_neg Bool.false_ne_true, if_neg Bool.false_ne_true, hclass, hlooks, hpage,
    if_pos (by rfl)]
  exact ⟨_, rfl⟩

end

/-! ### Inputs while EVF stands still -/

/-- CLS's sources are as they were, and no cause waits for EVF. -/
structure SourcesKept (s t : State) : Prop where
  seg : t.seg = s.seg
  mre : t.mre = s.mre
  pfc : t.pfc = s.pfc
  inbox : t.evf.inbox = []

theorem ClsWork.sourcesKept {d : Bool} {s t : State} (h : ClsWork d s t) : SourcesKept s t := ⟨h.seg, h.mre, h.pfc, h.still.2⟩

/-- A handled input leaves the inputs behind it (R291). -/
theorem sourcesKept_handleInput {t : State} (hstill : t.EvfStill) (r : Octets) : SourcesKept t (handleInput t r) := by
  have start : ClsWork false t t := .refl false hstill
  have discarded : SourcesKept t (t.discard .cls 1) := (start.discard .cls 1).sourcesKept
  have begins : ClsWork false t { t with cls := { t.cls with begun := true } } := start.alike
  have classified : SourcesKept t (t.classify r) := by
    unfold State.classify
    exact R_ite ⟨rfl, rfl, rfl, hstill.2⟩ (start.finishBlob _ _ _).sourcesKept
  unfold handleInput workInput
  exact R_ite discarded (R_ite (R_ite (start.summaryCrumbs r).clsBoundary.sourcesKept begins.clsBoundary.sourcesKept)
    (R_ite discarded (R_ite (start.pageCrumb r).sourcesKept classified)))

section
variable {s t : State} {r : Octets}

/-- The event CLS_INPUT, by the input that is next. -/
theorem clsInput_exec (hclocked : s.clocked = true) (hcrumbs : s.cls.crumbs = []) (hlookup : s.cls.lookup = none)
    (hnext : s.clsNext = some (r, t)) (hstill : t.EvfStill) : exec .clsInput s = .next (handleInput t r) := by
  have htaken : s.clsInput = handleInput t r := by
    unfold State.clsInput
    rw [hcrumbs, hlookup, hnext]
    rfl
  show Host.Outcome.next (s.whileClocked (fun s => s.clsInput.settle)) = _
  rw [whileClocked_eq hclocked, htaken, settle_of_empty (sourcesKept_handleInput hstill r).inbox]

/-- Whatever CLS makes of an input, the others wait on. -/
theorem clsInput_keeps (hclocked : s.clocked = true) (hcrumbs : s.cls.crumbs = []) (hlookup : s.cls.lookup = none)
    (hnext : s.clsNext = some (r, t)) (hstill : t.EvfStill) : ∃ u, exec .clsInput s = .next u ∧ SourcesKept t u :=
  ⟨_, clsInput_exec hclocked hcrumbs hlookup hnext hstill, sourcesKept_handleInput hstill r⟩

theorem handleInput_running (hrun : t.fn .cls = .running) : handleInput t r = workInput t r := by
  unfold handleInput
  rw [(runs_iff t .cls).mpr hrun, Bool.true_or]
  exact if_neg (by decide)

/-- The first strip summary is where inputs begin to count (R312). -/
theorem handleInput_begins (hrun : t.fn .cls = .running) (hkind : leAt r 0 2 = 7) (hbegun : t.cls.begun = false) :
    handleInput t r = ({ t with cls := { t.cls with begun := true } } : State).clsBoundary := by
  rw [handleInput_running hrun, workInput, if_pos hkind, hbegun, if_neg Bool.false_ne_true]

/-- A blob that comes before it is discarded input (R26, R312). -/
theorem handleInput_early (hrun : t.fn .cls = .running) (hkind : leAt r 0 2 = 6) (hbegun : t.cls.begun = false) :
    handleInput t r = t.discard .cls 1 := by
  rw [handleInput_running hrun, workInput, if_neg (by omega), hbegun, if_pos (by rfl)]

theorem handleInput_blob (hrun : t.fn .cls = .running) (hkind : leAt r 0 2 = 6) (hbegun : t.cls.begun = true) :
    handleInput t r = t.classify r := by
  rw [handleInput_running hrun, workInput, if_neg (by omega), hbegun, if_neg (by decide), if_neg (by omega)]

theorem handleInput_page (hrun : t.fn .cls = .running) (hkind : leAt r 0 2 = 4) (hbegun : t.cls.begun = true) :
    handleInput t r = t.pageCrumb r := by
  rw [handleInput_running hrun, workInput, if_neg (by omega), hbegun, if_neg (by decide), if_pos hkind]

end

/-! ### The values in force -/

/-- A boundary brings the class of streaks into force (R299). -/
theorem clsBoundary_streakClass (s : State) : s.clsBoundary.rdf Ix.clsStreakClass 0 = s.rd Ix.clsStreakClass 0 :=
  (storeGet_set_ne _ _ _ _ (by decide)).trans (storeGet_set_same _ _ _ _)

/-- A boundary brings the class table into force (R299). -/
theorem clsBoundary_classTable (s : State) : s.clsBoundary.rdfo Ix.clsClassTable 0 = s.rdo Ix.clsClassTable 0 :=
  storeGet_set_same _ _ _ _

/-! ### Crumbs -/

/-- The first octet of a Crumb is its type (R292). -/
theorem octAt_crumbOctets {c : Crumb} (hflags : c.flags % 256 = 0) (hsmall : c.area ≤ 65535) : octAt (crumbOctets c) 0 = c.type % 256 := by
  have hoct (v : Nat) (bs : Octets) : octAt (leBytes 4 v ++ bs) 0 = v % 256 := by
    simp [octAt, leAt, leBytes, ofLe]
  unfold crumbOctets
  dsimp only
  simp only [List.append_assoc]
  rw [hoct, if_neg (by omega)]
  omega

/-- The NO_MASTER Crumb of a page record (R295). -/
def noMasterCrumb (r : Octets) : Crumb where
  type := 3
  flags := cfLedgerNone + (if (octAt r 3).testBit 3 then cfTruncated else 0)
  lp0 := leAt r 8 8
  lp1 := leAt r 0x10 8
  time := leAt r 0x20 8
  page := leAt r 4 4
  mask := octAt r 0x28

theorem octAt_noMasterCrumb (r : Octets) : octAt (crumbOctets (noMasterCrumb r)) 0 = 3 := by
  have hflags : (noMasterCrumb r).flags % 256 = 0 := by
    show (cfLedgerNone + if (octAt r 3).testBit 3 then cfTruncated else 0) % 256 = 0
    split <;> rfl
  exact octAt_crumbOctets hflags (Nat.zero_le _)

/-- The page record of a page without a master brings a NO_MASTER Crumb where it is enabled (R295, R315). -/
theorem pageCrumb_crumbs {s : State} (hcrumbs : s.cls.crumbs = []) (henabled : (s.rdf Ix.clsSummaryCrumbsEnable 0).testBit 4 = true)
    (r : Octets) : ((s.pageCrumb r).cls.crumbs.map fun c => octAt c 0) = [3] := by
  have hformed : s.pageCrumb r = s.formCrumb (noMasterCrumb r) := if_pos henabled
  have hwaits : (s.formCrumb (noMasterCrumb r)).cls.crumbs = s.cls.crumbs ++ [crumbOctets (noMasterCrumb r)] := rfl
  rw [hformed, hwaits, hcrumbs, List.nil_append, List.map_singleton, octAt_noMasterCrumb]

/-- The state in which the first Crumb that waits has been counted (R302). -/
abbrev crumbCounted (s : State) (c : Octets) (rest : List Octets) : State :=
  ({ s with cls := { s.cls with crumbs := rest } }.bump Ix.clsCrumbsIssued 0 1).bump Ix.clsCrumbsByType (octAt c 0) 1

theorem crumbCounted_issued (s : State) (c : Octets) (rest : List Octets) :
    (crumbCounted s c rest).rd Ix.clsCrumbsIssued 0 = (s.rd Ix.clsCrumbsIssued 0 + 1) % 2 ^ 64 := by
  have hbits : bitsAt (key Ix.clsCrumbsIssued 0) = 64 := rfl
  rw [rd_bump, if_neg (by simp only [key, Ix.clsCrumbsIssued, Ix.clsCrumbsByType]; omega), rd_bump, if_pos rfl, hbits]
  rfl

/-- The state in which it has entered CQ (R302). -/
abbrev crumbEntered (s : State) (c : Octets) (rest : List Octets) : State :=
  ((crumbCounted s c rest).push cqIx 0 false c).showCqWait.tally 0x40 0 1

section
variable {s : State} {c : Octets} {rest : List Octets} (hcrumbs : s.cls.crumbs = c :: rest)
include hcrumbs

/-- A Crumb that finds room is counted, and enters CQ beyond CLS (R302). -/
theorem pushCrumb_beyond (hroom : s.cqRoom = true) : Beyond false (crumbCounted s c rest) s.pushCrumb := by
  have pushed := (Beyond.refl false (crumbCounted s c rest)).push cqIx 0 false c
  have entered : Beyond false (crumbCounted s c rest) (crumbEntered s c rest) := pushed.showCqWait.noted (noted_tally _ _ _ _)
  unfold State.pushCrumb
  rw [hcrumbs]
  dsimp only
  rw [if_pos hroom]
  exact R_ite (entered.takeFree.noted (noted_sample _ _ _ _ _)) entered

theorem pushCrumb_waits (hroom : s.cqRoom = false) : s.pushCrumb = s.showCqWait := by
  unfold State.pushCrumb
  rw [hcrumbs]
  dsimp only
  rw [hroom, if_neg Bool.false_ne_true]

end

/-! ### Lookups -/

/-- The LP of a blob or streak does not turn on the page (R293, R295). -/
theorem clsBlob_lp (r : Octets) (page : Nat) : (clsBlob r page).base.lp0 = (clsBlob r 0).base.lp0 := by
  unfold clsBlob
  split <;> rfl

/-- The state in which the ledger handles a lookup: it is no longer in flight (R305). -/
abbrev lookedUp (s : State) : State := { s with cls := { s.cls with lookup := none } }

section
variable {s : State} {l : Lookup} (hlookup : s.cls.lookup = some l)
include hlookup

/-- A lookup is handled by the ledger, and what it answers finishes the blob (R305, R309). -/
theorem lookUp_eq : ∃ b : ClsBlob, s.lookUp =
    (((lookedUp s).tally 0x42 0 1).ledgerUpdate l.key l.page (clsBlob l.record 0).base.lp0 l.cls).1.finishBlob b l.cls
      (((lookedUp s).tally 0x42 0 1).ledgerUpdate l.key l.page (clsBlob l.record 0).base.lp0 l.cls).2 := by
  unfold State.lookUp
  rw [hlookup]
  dsimp only
  rw [clsBlob_lp]
  exact ⟨_, rfl⟩

variable (hclocked : s.clocked = true) (hstill : s.EvfStill)
include hclocked hstill

/-- The event LEDGER_LOOKUP: after the ledger's own writes, the blob's finish writes the DRAM no more. -/
theorem ledgerLookup_exec : ∃ t, exec .ledgerLookup s = .next t ∧ ClsWork true (lookedUp s) t ∧
    t.dram = (((lookedUp s).tally 0x42 0 1).ledgerUpdate l.key l.page (clsBlob l.record 0).base.lp0 l.cls).1.dram := by
  obtain ⟨b, hlookUp⟩ := lookUp_eq hlookup
  have tallied : ClsWork true (lookedUp s) ((lookedUp s).tally 0x42 0 1) :=
    (ClsWork.refl (s := lookedUp s) true hstill).beyond ((Beyond.refl true (lookedUp s)).noted (noted_tally _ _ _ _))
  have updated := tallied.ledgerUpdate l.key l.page (clsBlob l.record 0).base.lp0 l.cls
  have finished : ClsWork true (lookedUp s) s.lookUp := by
    rw [hlookUp]
    exact updated.finishBlob b l.cls _
  refine ⟨s.lookUp, ?_, finished, ?_⟩
  · show Host.Outcome.next (s.whileClocked (fun s => s.lookUp.settle)) = _
    rw [whileClocked_eq hclocked, settle_of_empty finished.still.2]
  · rw [hlookUp]
    exact ((ClsWork.refl false updated.still).finishBlob b l.cls _).dram rfl

end

theorem tally_uncounted {s : State} (h : s.pmcCounts = false) (code inst n : Nat) : s.tally code inst n = s := by
  unfold State.tally
  rw [h, Bool.false_and, if_neg Bool.false_ne_true]

/-! ### The ledger's command and its sweep -/

/-- A write of an object of CLS's own goes to its block (R316). -/
theorem writeEffect_classifier (s : State) {w : WriteCall} {ix : Nat} (hix : w.ix = ix) (h : ix / 0x400 = 19 ∧ 8 ≤ ix % 0x400) :
    s.writeEffect w = s.writeCls w := by
  subst hix
  exact writeEffect_cls s h.1 (Nat.not_lt.mpr h.2)

theorem bitsAt_ledgerStatus : bitsAt (key Ix.clsLedgerStatus 0) = 32 := rfl

/-- A sweep starts from bucket 0 (R310). -/
theorem startSweep_shows (s : State) :
    s.startSweep.bit Ix.clsLedgerStatus 0 lsSweeping = true ∧ s.startSweep.rd Ix.clsSweepPointer 0 = 0 := by
  unfold State.startSweep
  refine ⟨?_, ?_⟩
  · rw [bit_congr (rd_wr_of_index _ _ (by decide) (by decide) (by decide))]
    exact bit_setBit (by rw [bitsAt_ledgerStatus]; decide)
  · rw [rd_wr, if_pos rfl, Nat.zero_mod]

theorem ledgerClear_starts {s : State} (h : s.bit Ix.clsLedgerStatus 0 lsSweeping = false) : s.ledgerClear 1 = (s.startSweep, .ok) := by
  unfold State.ledgerClear
  rw [if_neg (by decide), h, if_neg Bool.false_ne_true]

/-- CLEAR of the ledger starts a sweep (R310). -/
theorem ledgerClear_acts {s : State} {r : Req} {x : Session} (hgrants : s.Grants r x Ix.clsLedgerCommand 0 (pathNum r.path 1 1))
    (hidle : s.bit Ix.clsLedgerStatus 0 lsSweeping = false) :
    ∃ t, exec (.ledgerClear r 1) s = .next t ∧ s.Answers t r 0x11 .ok [] ∧ t.bit Ix.clsLedgerStatus 0 lsSweeping = true ∧
      t.rd Ix.clsSweepPointer 0 = 0 ∧ t.dram = s.dram := by
  have hrow : rowOf Ix.clsLedgerCommand 0 = some ⟨0x4c24, 0x4c24, 0, 0, .u8, .wo, 1, 0, .span 1 1⟩ := rfl
  have hasked : (s.takeFree.asked r x).bit Ix.clsLedgerStatus 0 lsSweeping = false :=
    (bit_congr (asked_block s r x (by decide)) _).trans hidle
  have replied : Replied s (s.takeFree.asked r x).startSweep (s.writeNumber r Ix.clsLedgerCommand 0 1 1) r .ok := by
    refine writeNumber_replied hgrants hrow rfl rfl (by decide) ?_ (by decide) (asked_power s r x)
    rw [writeEffect_classifier _ (ix := Ix.clsLedgerCommand) rfl (by decide)]
    exact ledgerClear_starts hasked
  obtain ⟨hbit, hpointer⟩ := startSweep_shows (s.takeFree.asked r x)
  refine ⟨_, rfl, replied.answered (asked_out s r x), ?_, ?_, replied.dram.trans (asked_dram s r x)⟩
  · exact (bit_congr (replied.inspected (by decide)) _).trans hbit
  · exact (replied.inspected (by decide)).trans hpointer

/-- A step of a sweep writes one bucket, and the last one ends it (R310). -/
theorem sweepStep_acts {s : State} (hsweeps : s.bit Ix.clsLedgerStatus 0 lsSweeping = true) :
    s.sweepStep.rd Ix.clsSweepPointer 0 = (s.rd Ix.clsSweepPointer 0 + 1) % 2 ^ 32 ∧
      s.sweepStep.dram = (s.dramStore ((s.region 1).1 + s.rd Ix.clsSweepPointer 0 * 256) (zeros 256)).dram ∧
      s.sweepStep.bit Ix.clsLedgerStatus 0 lsSweeping = decide (s.rd Ix.clsSweepPointer 0 + 1 ≠ 2 ^ 22) := by
  have hbits : bitsAt (key Ix.clsSweepPointer 0) = 32 := rfl
  unfold State.sweepStep
  rw [if_pos hsweeps]
  extract_lets +onlyGivenNames -underBinder b s1
  have hpointer : s1.rd Ix.clsSweepPointer 0 = (b + 1) % 2 ^ 32 := by
    rw [rd_wr, if_pos rfl, hbits]
  have hdram : s1.dram = (s.dramStore ((s.region 1).1 + b * 256) (zeros 256)).dram := wr_dram _ _ _ _
  split
  next hlast =>
    refine ⟨(rd_clearBit_of_index s1 _ (by decide) (by decide) (by decide)).trans hpointer, (clearBit_dram _ _ _ _).trans hdram, ?_⟩
    rw [bit_clearBit, decide_eq_false (not_not_intro hlast)]
  next hmore =>
    have stored := (Beyond.refl true s).dramStore ((s.region 1).1 + b * 256) (zeros 256)
    have hstatus : s1.rd Ix.clsLedgerStatus 0 = s.rd Ix.clsLedgerStatus 0 :=
      (rd_wr_of_index _ _ (by decide) (by decide) (by decide)).trans (stored.rd (by decide) rfl (by decide) (by decide))
    refine ⟨hpointer, hdram, ?_⟩
    rw [bit_congr hstatus, hsweeps, decide_eq_true hmore]

/-! ### The obligation -/

/-- Settles O26: an input is handled in the state that its FIFO leaves, and neither it nor a lookup reaches the inputs behind it; a Crumb enters CQ
beyond CLS; and a sweep's step leaves its pointer and its flag alone but for its own writes. -/
theorem classifierActs : Obligations.ClassifierActs := by
  unfold Obligations.ClassifierActs
  refine ⟨?_, ?_, ?_, ?_, ?_, ?_, ?_, ?_, ?_, ?_, ?_, ?_, ?_, ?_⟩
  · intro s r rest hclocked hstill hrun hcrumbs hlookup hseg hkind hbegun
    refine ⟨_, clsInput_exec hclocked hcrumbs hlookup (clsNext_seg hseg) hstill, ?_⟩
    rw [handleInput_begins (t := tookSeg s rest) hrun hkind hbegun]
    exact ⟨rfl, rfl, clsBoundary_streakClass _, clsBoundary_classTable _, rfl⟩
  · intro s r rest hclocked hstill hrun hcrumbs hlookup hseg hkind hbegun
    have hbits : bitsAt (key (Fn.cls.base + 7) Fn.cls.sub) = 64 := rfl
    refine ⟨_, clsInput_exec hclocked hcrumbs hlookup (clsNext_seg hseg) hstill, ?_⟩
    rw [handleInput_early (t := tookSeg s rest) hrun hkind hbegun]
    refine ⟨rfl, rfl, ?_, rfl⟩
    rw [State.discard, rd_bump, if_pos rfl, hbits]
    rfl
  · intro s r rest c hclocked hstill hrun hcrumbs hlookup hseg hkind hbegun hclass hlooks hemit
    have hclass' := (treeClass_congr (s := s) (t := tookSeg s rest) rfl (s.rdfo Ix.clsClassifierTree 0) r 17 0).trans hclass
    refine ⟨_, clsInput_exec hclocked hcrumbs hlookup (clsNext_seg hseg) hstill, ?_⟩
    rw [handleInput_blob (t := tookSeg s rest) hrun hkind hbegun, classify_discards (s := tookSeg s rest) hkind hclass' hlooks hemit]
    refine ⟨rfl, rfl, ?_, rfl⟩
    rw [rd_bump, if_pos rfl, bitsAt_discardedByClass]
    rfl
  · intro s r rest c hclocked hstill hrun hcrumbs hlookup hseg hkind hbegun hclass hlooks hsource hpage
    have hclass' := (treeClass_congr (s := s) (t := tookSeg s rest) rfl (s.rdfo Ix.clsClassifierTree 0) r 17 0).trans hclass
    obtain ⟨k, hclassify⟩ := classify_looks (s := tookSeg s rest) hkind hclass' hlooks hsource hpage
    refine ⟨_, clsInput_exec hclocked hcrumbs hlookup (clsNext_seg hseg) hstill, ?_⟩
    rw [handleInput_blob (t := tookSeg s rest) hrun hkind hbegun, hclassify]
    exact ⟨rfl, hcrumbs, rfl, rfl, rfl⟩
  · intro s r rest hclocked hstill hrun hcrumbs hlookup hseg hmre hkind hbegun henabled
    have work := (ClsWork.refl (s := tookMre s rest) false hstill).pageCrumb r
    refine ⟨_, clsInput_exec hclocked hcrumbs hlookup (clsNext_mre hseg hmre) hstill, ?_⟩
    rw [handleInput_page (t := tookMre s rest) hrun hkind hbegun]
    exact ⟨pageCrumb_crumbs (s := tookMre s rest) hcrumbs henabled r, congrArg MreState.toCls work.mre, work.dram rfl⟩
  · intro s l hclocked hstill hlookup huncounted
    obtain ⟨t, hexec, work, hdram⟩ := ledgerLookup_exec hlookup hclocked hstill
    rw [tally_uncounted (s := lookedUp s) huncounted] at hdram
    exact ⟨t, hexec, work.lookup, hdram, work.seg⟩
  · intro s c rest hclocked hstill hcrumbs hroom huncounted
    have beyond := pushCrumb_beyond hcrumbs hroom
    refine ⟨_, congrArg Host.Outcome.next (whileClocked_eq hclocked State.pushCrumb), ?_, ?_, beyond.seg⟩
    · rw [beyond.cls]
      rfl
    · rw [beyond.rd (by decide) rfl (by decide) (by decide), crumbCounted_issued]
  · intro s c rest hclocked hcrumbs hfull
    refine ⟨_, congrArg Host.Outcome.next (whileClocked_eq hclocked State.pushCrumb), ?_⟩
    rw [pushCrumb_waits hcrumbs hfull]
    exact ⟨rfl, rfl⟩
  · exact fun s r x hgrants hidle => ledgerClear_acts hgrants hidle
  · exact fun s hclocked hsweeps => ⟨_, congrArg Host.Outcome.next (whileClocked_eq hclocked State.sweepStep), sweepStep_acts hsweeps⟩
  · intro s r rest hclocked hstill hcrumbs hlookup hseg
    obtain ⟨u, hexec, kept⟩ := clsInput_keeps hclocked hcrumbs hlookup (clsNext_seg hseg) hstill
    exact ⟨u, hexec, congrArg SegState.fifo kept.seg, congrArg MreState.toCls kept.mre, congrArg PfcState.fifo kept.pfc⟩
  · intro s r rest hclocked hstill hcrumbs hlookup hseg hmre
    obtain ⟨u, hexec, kept⟩ := clsInput_keeps hclocked hcrumbs hlookup (clsNext_mre hseg hmre) hstill
    exact ⟨u, hexec, congrArg MreState.toCls kept.mre, (congrArg SegState.fifo kept.seg).trans hseg, congrArg PfcState.fifo kept.pfc⟩
  · intro s r rest hclocked hstill hcrumbs hlookup hseg hmre hpfc
    obtain ⟨u, hexec, kept⟩ := clsInput_keeps hclocked hcrumbs hlookup (clsNext_pfc hseg hmre hpfc) hstill
    exact ⟨u, hexec, congrArg PfcState.fifo kept.pfc, (congrArg SegState.fifo kept.seg).trans hseg,
      (congrArg MreState.toCls kept.mre).trans hmre⟩
  · intro s l hclocked hstill hlookup
    obtain ⟨t, hexec, work, -⟩ := ledgerLookup_exec hlookup hclocked hstill
    exact ⟨t, hexec, work.lookup, congrArg SegState.fifo work.seg, congrArg MreState.toCls work.mre⟩

end Sys2Proof.Settled
end

section
/-! What PFC's streaks and banks leave of its outputs (R331, R332, R336 to R338), and what a packet leaves of the objects before the queues'. -/

namespace Sys2Proof.Settled

open Sys2Proof Sys2Proof.Machine Sys2Proof.Laws

/-! ### The objects before the queues' block -/

/-- Of the objects before the queues' block, at most those that `signalWrites` names have changed, as a crossing to EVF changes them (R407). -/
structure QueueWrites (s t : State) : Prop where
  rd : ∀ {ix sub : Nat}, ix < 0x5800 → signalWrites ix = false → sub < 256 → t.rd ix sub = s.rd ix sub

section
variable {s t u : State}

theorem QueueWrites.refl (s : State) : QueueWrites s s := ⟨fun _ _ _ => rfl⟩

theorem QueueWrites.trans (h : QueueWrites s t) (k : QueueWrites t u) : QueueWrites s u :=
  ⟨fun hix hsignal hsub => (k.rd hix hsignal hsub).trans (h.rd hix hsignal hsub)⟩

theorem QueueWrites.wr (h : QueueWrites s t) {ix sub v : Nat} (hix : 0x5800 ≤ ix := by exact Nat.le_of_ble_eq_true rfl) :
    QueueWrites s (t.wr ix sub v) :=
  h.trans ⟨fun hjx _ _ => by rw [rd_wr, if_neg (by unfold key; omega)]⟩

theorem QueueWrites.cross (h : QueueWrites s t) (code : Nat) (own : Option (Nat × Nat)) (arg : Nat) : QueueWrites s (t.cross code own arg) :=
  h.trans ⟨fun _ hsignal hsub => (signals_cross t code own arg).rd hsignal hsub⟩

theorem QueueWrites.noted (h : QueueWrites s t) (hnoted : Noted t u) : QueueWrites s u := h.trans ⟨fun _ _ hsub => hnoted.rd (by omega) hsub⟩

theorem QueueWrites.msix (h : QueueWrites s t) (v : Nat) : QueueWrites s (t.msix v) := by
  unfold State.msix
  exact R_ite ⟨h.rd⟩ h

theorem QueueWrites.depthChanged (h : QueueWrites s t) (q : Fin 3) (old : Nat) : QueueWrites s (t.depthChanged q old) := by
  unfold State.depthChanged
  extract_lets +onlyGivenNames -underBinder sub now hi lo s1 s2 s3
  have h1 : QueueWrites s s1 := h.wr
  have h2 : QueueWrites s s2 := R_ite ((QueueWrites.cross h1.wr _ _ _).msix _) h1
  have h3 : QueueWrites s s3 := R_ite (QueueWrites.cross h2.wr _ _ _) h2
  exact h3.wr

theorem QueueWrites.entered (h : QueueWrites s t) (q : Fin 3) (ps : List (List QWord)) : QueueWrites s (t.entered q ps) := by
  have put : QueueWrites s (t.putPackets q ps) :=
    QueueWrites.depthChanged (t := t.setQueue q { t.queues[q] with packets := ps }) ⟨h.rd⟩ q (t.depth q)
  exact (QueueWrites.cross put.wr _ _ _).noted (noted_sample _ _ _ _ _)

/-- A packet pushed to a queue, whether it enters or is lost (R346, R348). -/
theorem QueueWrites.push (h : QueueWrites s t) (q : Fin 3) (producer : Nat) (poison : Bool) (record : Octets) :
    QueueWrites s (t.push q producer poison record) := by
  have entered {v : State} (hv : QueueWrites s v) (a : QueueState) (ps : List (List QWord)) : QueueWrites s ((v.setQueue q a).entered q ps) :=
    QueueWrites.entered (t := v.setQueue q a) ⟨hv.rd⟩ q ps
  unfold State.push
  extract_lets +onlyGivenNames -underBinder u p
  have hu : QueueWrites s u := R_ite (entered h _ _) h
  have kept : QueueWrites s (if u.runs (queueFn q) then u else u.discard (queueFn q) 1) :=
    R_ite hu (hu.wr (Nat.le_add_right_of_le (Nat.le_of_eq (queueFn_block q).symm)))
  have lost : QueueWrites s (State.losePackets (if u.runs (queueFn q) then u else u.discard (queueFn q) 1) q 1 p.length) :=
    R_ite kept.wr.wr ⟨kept.wr.wr.rd⟩
  exact R_ite (entered hu _ _) lost

end

/-! ### What PFC keeps of its outputs -/

/-- PFC's state without what its streaks, a swap and a fade change. -/
def outputState (p : PfcState) : PfcState :=
  { p with fade := none, swap := false, streaks := [], cont := [], ended := [], overflow := none }

/-- PFC has worked on its streaks and banks: SEG, its outputs and events to CLS, its function state and Outputs produced are as they were. -/
structure OutputsKept (s t : State) : Prop where
  seg : t.seg = s.seg
  pfc : outputState t.pfc = outputState s.pfc
  fnState : t.rd Fn.pfc.base 0 = s.rd Fn.pfc.base 0
  produced : t.rd Ix.pfcOutputsProduced 0 = s.rd Ix.pfcOutputsProduced 0

section
variable {s t u : State}

theorem OutputsKept.refl (s : State) : OutputsKept s s := ⟨rfl, rfl, rfl, rfl⟩

theorem OutputsKept.alike (h : OutputsKept s t) (hseg : u.seg = t.seg := by rfl) (hpfc : outputState u.pfc = outputState t.pfc := by rfl)
    (hregs : u.regs = t.regs := by rfl) : OutputsKept s u := by
  obtain ⟨seg, pfc, fnState, produced⟩ := h
  have hrd (ix : Nat) : u.rd ix 0 = t.rd ix 0 := congrArg (fun m => storeGet _ m _) hregs
  exact ⟨hseg.trans seg, hpfc.trans pfc, (hrd _).trans fnState, (hrd _).trans produced⟩

/-- Another object is written. -/
theorem OutputsKept.wr (h : OutputsKept s t) {ix sub v : Nat} (hix : Fn.pfc.base ≠ ix ∧ Ix.pfcOutputsProduced ≠ ix := by decide)
    (hsub : sub < 256 := by decide) : OutputsKept s (t.wr ix sub v) := by
  obtain ⟨seg, pfc, fnState, produced⟩ := h
  exact ⟨seg, pfc, (rd_wr_of_index t v hix.1 hsub (by decide)).trans fnState, (rd_wr_of_index t v hix.2 hsub (by decide)).trans produced⟩

theorem OutputsKept.cross (h : OutputsKept s t) (code : Nat) (own : Option (Nat × Nat)) (arg : Nat) : OutputsKept s (t.cross code own arg) := by
  have crossed := signals_cross t code own arg
  have hrd {ix : Nat} (hix : signalWrites ix = false) : (t.cross code own arg).rd ix 0 = t.rd ix 0 := crossed.rd hix (by decide)
  obtain ⟨seg, pfc, fnState, produced⟩ := h
  refine ⟨?_, ?_, (hrd rfl).trans fnState, (hrd rfl).trans produced⟩ <;> rw [crossed.same]
  · exact seg
  · exact pfc

theorem OutputsKept.push (h : OutputsKept s t) (q : Fin 3) (producer : Nat) (poison : Bool) (record : Octets) :
    OutputsKept s (t.push q producer poison record) := by
  have beyond := (Beyond.refl false t).push q producer poison record
  have pushed := (QueueWrites.refl t).push q producer poison record
  obtain ⟨seg, pfc, fnState, produced⟩ := h
  exact ⟨beyond.seg.trans seg, (congrArg outputState beyond.pfc).trans pfc, (pushed.rd (by decide) rfl (by decide)).trans fnState,
    (pushed.rd (by decide) rfl (by decide)).trans produced⟩

/-! ### Streaks -/

/-- A run joins or opens a streak, or is dropped (R331). -/
theorem OutputsKept.streakRun (h : OutputsKept s t) (pNow time line : Nat) (es : List (Option Int)) (fade : Bool)
    (opened : List (Streak × List (Nat × Nat))) (r : Bool × Nat × Nat) : OutputsKept s (t.streakRun pNow time line es fade opened r).1 := by
  unfold State.streakRun
  split
  split
  · exact h
  · have dropped : OutputsKept s ((t.bump Ix.pfcRunsDropped 0 1).setBit Ix.pfcFilterStatus 0 4) := OutputsKept.wr h.wr
    exact R_ite_1 (R_ite_1 dropped (OutputsKept.cross dropped.alike _ _ _)) (h.cross _ _ _)

theorem OutputsKept.streakRuns (pNow time line : Nat) (es : List (Option Int)) (fade : Bool) (rs : List (Bool × Nat × Nat))
    (opened : List (Streak × List (Nat × Nat))) (h : OutputsKept s t) :
    OutputsKept s (t.streakRuns pNow time line es fade rs opened).1 := by
  induction rs generalizing t opened with
  | nil => exact h
  | cons r rs ih => exact ih _ (h.streakRun _ _ _ _ _ _ _)

/-- An ended streak is reported, and copied to SQ where that is asked for (R332, R335). -/
theorem OutputsKept.endStreak (h : OutputsKept s t) (k : Streak) (contNext truncated : Bool) :
    OutputsKept s (t.endStreak k contNext truncated) := by
  unfold State.endStreak
  extract_lets +onlyGivenNames -underBinder ev p s1 s2
  have h1 : OutputsKept s s1 := h.alike
  have h2 : OutputsKept s s2 := OutputsKept.cross h1.wr _ _ _
  exact R_ite (h2.push _ _ _ _) h2

theorem OutputsKept.endStreaks (contNext truncated : Bool) (ks : List Streak) (h : OutputsKept s t) :
    OutputsKept s (t.endStreaks contNext truncated ks) := by
  induction ks generalizing t with
  | nil => exact h
  | cons k ks ih => exact ih (h.endStreak k _ _)

theorem OutputsKept.streaksOf (h : OutputsKept s t) (line time report : Nat) (es : List (Option Int)) (fade : Bool) :
    OutputsKept s (t.streaksOf line time report es fade) := by
  unfold State.streaksOf
  extract_lets +onlyGivenNames -underBinder pNow start r counted gone full rest q p s1
  have hr : OutputsKept s r.1 := h.streakRuns _ _ _ _ _ _ _
  have h1 : OutputsKept s s1 := hr.alike
  exact ((h1.endStreaks _ _ _).endStreaks _ _ _).wr

/-! ### Banks -/

theorem OutputsKept.swapEffect (h : OutputsKept s t) : OutputsKept s t.swapEffect := by
  unfold State.swapEffect
  extract_lets +onlyGivenNames -underBinder target f p s1 s2
  have h1 : OutputsKept s s1 := h.alike
  have h2 : OutputsKept s s2 := OutputsKept.wr (OutputsKept.wr h1.wr)
  exact R_ite (OutputsKept.cross h2.wr _ _ _) h

theorem OutputsKept.fadeStep (h : OutputsKept s t) : OutputsKept s t.fadeStep := by
  unfold State.fadeStep
  split
  · exact h
  · next j f _ =>
    have ended : OutputsKept s { t with pfc := { t.pfc with fade := none } } := h.alike
    exact R_ite h.alike (OutputsKept.cross ended.wr _ _ _)

theorem OutputsKept.settleBanks (h : OutputsKept s t) : OutputsKept s t.settleBanks := by
  have first : OutputsKept s (t.wr Ix.pfcBankSettleCount 1 (t.rd Ix.pfcBankSettleCount 1 - 1)) := h.wr
  exact first.wr

end

end Sys2Proof.Settled
end

section
/-! The profile filter chain (O27): outputs are formed, streak events enqueued, swaps requested and banks written (R321, R332, R336 to R338). -/

namespace Sys2Proof.Settled

open Sys2Proof Sys2Proof.Machine Sys2Proof.Laws

/-! ### Outputs -/

/-- The output due at `d` has been formed from the state `s`, and `rest` are still due (R321). -/
structure OutputFormed (s : State) (d : PfcDue) (rest : List PfcDue) (t : State) : Prop where
  due : t.pfc.due = rest
  outputs : t.pfc.outputs = s.pfc.outputs + 1
  start : t.pfc.from_ = d.line + 1
  produced : t.rd Ix.pfcOutputsProduced 0 = (s.rd Ix.pfcOutputsProduced 0 + 1) % 2 ^ 64
  bins : t.pfc.bins.length = s.pfc.bins.length
  fifo : t.pfc.fifo = s.pfc.fifo
  seg : t.seg = s.seg
  fnState : t.rd Fn.pfc.base 0 = s.rd Fn.pfc.base 0

/-- What PFC then does to its streaks and banks leaves it formed. -/
theorem OutputFormed.kept {s t u : State} {d : PfcDue} {rest : List PfcDue} (h : OutputFormed s d rest t) (k : OutputsKept t u) :
    OutputFormed s d rest u := by
  obtain ⟨due, outputs, start, produced, bins, fifo, seg, fnState⟩ := h
  obtain ⟨kseg, kpfc, kstate, kproduced⟩ := k
  exact ⟨(congrArg PfcState.due kpfc).trans due, (congrArg PfcState.outputs kpfc).trans outputs, (congrArg PfcState.from_ kpfc).trans start,
    kproduced.trans produced, (congrArg (fun p => p.bins.length) kpfc).trans bins, (congrArg PfcState.fifo kpfc).trans fifo, kseg.trans seg,
    kstate.trans fnState⟩

/-- An output that exists for every bin is formed; its streaks, the fade and the banks follow (R321 to R332, R337). -/
theorem pfcOutput_formed {s : State} {d : PfcDue} {rest : List PfcDue} (hdue : s.pfc.due = d :: rest) (hcomplete : s.pfcComplete d = true) :
    OutputFormed s d rest s.pfcOutput := by
  have hbits : bitsAt (key Ix.pfcOutputsProduced 0) = 64 := rfl
  unfold State.pfcOutput
  rw [hdue]
  dsimp -zeta only
  rw [hcomplete, if_neg (by decide)]
  extract_lets +onlyGivenNames -underBinder s0 outs settling limit ys bins es stale lines p s1 s2 s3 s4
  obtain ⟨seg, pfc, fnState, produced⟩ : OutputsKept s s0 := (OutputsKept.refl s).swapEffect
  have h2 : OutputFormed s d rest s2 := by
    have hproduced : s1.rd Ix.pfcOutputsProduced 0 = s.rd Ix.pfcOutputsProduced 0 := produced
    refine ⟨rfl, (congrArg (fun p => p.outputs + 1) pfc :), rfl, ?_, ?_, (congrArg PfcState.fifo pfc :), seg, ?_⟩
    · show ((s1.bump Ix.pfcOutputsProduced 0 1).bump Ix.pfcInvalidOutputs 0 _).rd _ _ = _
      rw [State.bump, rd_wr_of_index _ _ (by decide) (by decide) (by decide), rd_bump, if_pos rfl, hbits, hproduced]
    · have hlength : s2.pfc.bins.length = s0.pfc.bins.length := by
        show (bins.map _).length = _
        simp only [bins, outs, List.length_map, List.length_mapIdx]
      exact hlength.trans (congrArg (fun p => p.bins.length) pfc :)
    · exact ((rd_wr_of_index _ _ (by decide) (by decide) (by decide)).trans (rd_wr_of_index s1 _ (by decide) (by decide) (by decide))).trans
        fnState
  have h3 : OutputsKept s2 s3 := (OutputsKept.refl s2).alike
  have h4 : OutputsKept s2 s4 := R_ite h3.wr h3
  exact h2.kept ((h4.streaksOf _ _ _ _ _).fadeStep.settleBanks)

/-- An output that does not exist yet for some bin waits (R321). -/
theorem pfcOutput_waits {s : State} {d : PfcDue} {rest : List PfcDue} (hdue : s.pfc.due = d :: rest) (hcomplete : s.pfcComplete d = false) :
    s.pfcOutput = s := by
  unfold State.pfcOutput
  rw [hdue]
  dsimp only
  rw [hcomplete, if_pos (by decide)]

theorem pfcOutput_undue {s : State} (hdue : s.pfc.due = []) : s.pfcOutput = s := by
  unfold State.pfcOutput
  rw [hdue]

theorem rd_state_of_running {s : State} {f : Fn} (h : s.fn f = .running) : s.rd f.base f.sub = 2 := by
  unfold State.fn at h
  generalize s.rd f.base f.sub = n at h
  unfold FnState.ofCode at h
  split at h
  case h_3 => rfl
  all_goals cases h

/-- The command of an output that leaves PFC Running: no drain ends its streaks (R339). -/
theorem exec_pfcOutput {s : State} (hclocked : s.clocked = true) (hrun : s.fn .pfc = .running)
    (hstate : s.pfcOutput.rd Fn.pfc.base 0 = s.rd Fn.pfc.base 0) : exec .pfcOutput s = .next s.pfcOutput := by
  have hruns : s.pfcOutput.rd Fn.pfc.base 0 = 2 := hstate.trans (rd_state_of_running hrun)
  have hdrains : s.pfcOutput.drains .pfc = false := by
    unfold State.drains
    rw [show Fn.pfc.sub = 0 from rfl, hruns]
    rfl
  show execPfcOutput s = _
  unfold execPfcOutput
  rw [whileClocked_eq hclocked]
  unfold State.pfcDrain
  rw [hdrains, Bool.false_and, Bool.false_and, if_neg Bool.false_ne_true]

/-! ### Streak events -/

/-- An ended streak's event enters the FIFO while it has room (R332). -/
theorem streakEnqueue_enters {s : State} {e : Octets} {es : List Octets} (hended : s.pfc.ended = e :: es) (hroom : s.pfc.fifo.length < 64) :
    s.streakEnqueue = ({ s with pfc := { s.pfc with ended := es, fifo := s.pfc.fifo ++ [e] } } : State).showStreaks := by
  unfold State.streakEnqueue
  rw [hended]
  exact if_pos hroom

theorem streakEnqueue_waits {s : State} {e : Octets} {es : List Octets} (hended : s.pfc.ended = e :: es) (hfull : 64 ≤ s.pfc.fifo.length) :
    s.streakEnqueue = s := by
  unfold State.streakEnqueue
  rw [hended]
  exact if_neg (Nat.not_lt.mpr hfull)

theorem showStreaks_open (s : State) :
    s.showStreaks.rd Ix.pfcOpenStreaks 0 = (s.pfc.streaks.length + s.pfc.ended.length) % 2 ^ 16 := by
  have hbits : bitsAt (key Ix.pfcOpenStreaks 0) = 16 := rfl
  unfold State.showStreaks
  rw [rd_wr, if_pos rfl, hbits]

/-! ### Writes of PFC's block -/

@[simp] theorem asked_pfc (s : State) (r : Req) (x : Session) : (s.takeFree.asked r x).pfc = s.pfc := by rw [asked_same]

theorem Replied.pfc {s u t : State} {r : Req} {c : Code} (h : Replied s u t r c) : t.pfc = u.pfc := by rw [h.same]

theorem writeEffect_swap (s : State) {w : WriteCall} (hix : w.ix = Ix.pfcSwapRequest) :
    s.writeEffect w = if w.v = 1 then s.swapRequest else (s.swapCancel, .ok) := by
  rw [writeEffect_pfc s (by rw [hix]; decide) (by rw [hix]; decide)]
  unfold State.writePfc
  rw [hix]
  rfl

theorem writeEffect_gain (s : State) {w : WriteCall} (hix : w.ix = Ix.pfcOutputGain) : s.writeEffect w = s.bankWrite w false := by
  rw [writeEffect_pfc s (by rw [hix]; decide) (by rw [hix]; decide)]
  unfold State.writePfc
  rw [hix]
  rfl

/-! ### Swap requests -/

theorem bitsAt_filterStatus : bitsAt (key Ix.pfcFilterStatus 0) = 32 := rfl

/-- A granted write of Swap request is answered by what it asks for (R337, R338). -/
theorem swapWrite_replied {s u : State} {r : Req} {x : Session} {v : Nat} {c : Code}
    (hgrants : s.Grants r x Ix.pfcSwapRequest 0 (pathNum r.path 1 v)) (hv : v < 256)
    (heffect : (if v = 1 then (s.takeFree.asked r x).swapRequest else ((s.takeFree.asked r x).swapCancel, .ok)) = (u, c))
    (hc : c ≠ .sequence) (hpower : u.power = s.power) : Replied s u (s.writeNumber r Ix.pfcSwapRequest 0 1 v) r c := by
  have hrow : rowOf Ix.pfcSwapRequest 0 = some ⟨0x501b, 0x501b, 0, 0, .u8, .wo, 1, 0, .span 1 2⟩ := rfl
  exact writeNumber_replied hgrants hrow rfl rfl hv ((writeEffect_swap _ rfl).trans heffect) hc hpower

/-- The state with a swap request that waits or is due (R337). -/
abbrev swapRequested (s : State) : State := { s with pfc := { s.pfc with swap := true } }

/-- A request is taken while none waits; while a fade runs, SWAP_HELD shows it (R337, R338). -/
theorem swapRequest_taken {s : State} (hfree : s.pfc.swap = false) :
    ∃ u, s.swapRequest = (u, .ok) ∧ u = { swapRequested s with regs := u.regs } ∧ u.rd Ix.pfcActiveBank 0 = s.rd Ix.pfcActiveBank 0 ∧
      (s.pfc.fade.isSome = true → u.bit Ix.pfcFilterStatus 0 2 = true) := by
  have htaken : s.swapRequest =
      (if s.pfc.fade.isSome || s.rd Ix.pfcBankSettleCount (2 - s.rd Ix.pfcActiveBank 0) != 0
        then (swapRequested s).setBit Ix.pfcFilterStatus 0 2 else swapRequested s, .ok) := by
    unfold State.swapRequest
    exact if_neg (by rw [hfree]; decide)
  rw [htaken]
  split
  next => exact ⟨_, rfl, rfl, rd_wr_of_index _ _ (by decide) (by decide) (by decide), fun _ => bit_setBit (by rw [bitsAt_filterStatus]; decide)⟩
  next hprompt => exact ⟨_, rfl, rfl, rfl, fun hfade => absurd (by rw [hfade, Bool.true_or]) hprompt⟩

/-- A second request is turned away and counted (R338). -/
theorem swapRequest_refused {s : State} (hwaits : s.pfc.swap = true) :
    s.swapRequest = ((s.setBit Ix.pfcFilterStatus 0 3).bumpSat Ix.pfcSwapsRefused 0 1, .busy) := by
  unfold State.swapRequest
  exact if_pos hwaits

theorem rd_swapsRefused (s : State) :
    (s.bumpSat Ix.pfcSwapsRefused 0 1).rd Ix.pfcSwapsRefused 0 = min (s.rd Ix.pfcSwapsRefused 0 + 1) (2 ^ 32 - 1) := by
  have hbits : bitsAt (key Ix.pfcSwapsRefused 0) = 32 := rfl
  unfold State.bumpSat
  rw [← bitsAt_key (by decide), rd_wr, if_pos rfl, hbits]
  omega

section
variable {s : State} {r : Req} {x : Session}

theorem swapRequest_acts (hgrants : s.Grants r x Ix.pfcSwapRequest 0 (pathNum r.path 1 1)) (hfree : s.pfc.swap = false) :
    ∃ t, exec (.swapRequest r) s = .next t ∧ s.Answers t r 0x11 .ok [] ∧ t.pfc = { s.pfc with swap := true } ∧
      (s.pfc.fade.isSome = true → t.bit Ix.pfcFilterStatus 0 2 = true) ∧ t.rd Ix.pfcActiveBank 0 = s.rd Ix.pfcActiveBank 0 := by
  have hpfc := asked_pfc s r x
  obtain ⟨u, htaken, hsame, hbank, hheld⟩ := swapRequest_taken (s := s.takeFree.asked r x) ((congrArg PfcState.swap hpfc).trans hfree)
  have hpower : u.power = s.power := by
    rw [hsame]
    exact asked_power s r x
  have hout : u.out = s.out := by
    rw [hsame]
    exact asked_out s r x
  have hchain : u.pfc = { s.pfc with swap := true } := by
    rw [hsame]
    exact congrArg (fun p : PfcState => { p with swap := true }) hpfc
  have replied : Replied s u (s.writeNumber r Ix.pfcSwapRequest 0 1 1) r .ok := swapWrite_replied hgrants (by decide) htaken (by decide) hpower
  refine ⟨_, rfl, replied.answered hout, replied.pfc.trans hchain, fun hfade => ?_, ?_⟩
  · rw [bit_congr (replied.inspected (by decide))]
    exact hheld (by rw [hpfc]; exact hfade)
  · rw [replied.inspected (by decide), hbank, asked_block s r x (by decide)]

theorem swapRequest_turnedAway (hgrants : s.Grants r x Ix.pfcSwapRequest 0 (pathNum r.path 1 1)) (hwaits : s.pfc.swap = true) :
    ∃ t, exec (.swapRequest r) s = .next t ∧ s.Answers t r 0x11 .busy [] ∧ t.pfc = s.pfc ∧ t.bit Ix.pfcFilterStatus 0 3 = true ∧
      t.rd Ix.pfcSwapsRefused 0 = min (s.rd Ix.pfcSwapsRefused 0 + 1) (2 ^ 32 - 1) := by
  have hrefused := swapRequest_refused (s := s.takeFree.asked r x) ((congrArg PfcState.swap (asked_pfc s r x)).trans hwaits)
  have replied := swapWrite_replied hgrants (by decide) hrefused (by decide) (asked_power s r x)
  refine ⟨_, rfl, replied.answered (asked_out s r x), replied.pfc.trans (asked_pfc s r x), ?_, ?_⟩
  · rw [bit_congr (replied.inspected (by decide)), State.bumpSat, bit_congr (rd_wr_of_index _ _ (by decide) (by decide) (by decide))]
    exact bit_setBit (by rw [bitsAt_filterStatus]; decide)
  · rw [replied.inspected (by decide), rd_swapsRefused, State.setBit, State.putBit,
      rd_wr_of_index _ _ (by decide) (by decide) (by decide), asked_block s r x (by decide)]

theorem swapCancel_acts (hgrants : s.Grants r x Ix.pfcSwapRequest 0 (pathNum r.path 1 2)) :
    ∃ t, exec (.swapCancel r) s = .next t ∧ s.Answers t r 0x11 .ok [] ∧ t.pfc = { s.pfc with swap := false } ∧
      t.bit Ix.pfcFilterStatus 0 2 = false := by
  have replied := swapWrite_replied hgrants (by decide) (if_neg (by decide)) (by decide) (asked_power s r x)
  refine ⟨_, rfl, replied.answered (asked_out s r x), ?_, ?_⟩
  · rw [replied.pfc, ← asked_pfc s r x]
    rfl
  · rw [bit_congr (replied.inspected (by decide))]
    exact bit_clearBit _ _ _ _

end

/-! ### Coefficient banks -/

theorem bankWrite_accepted {s : State} {w : WriteCall} (hbank : s.rd Ix.pfcActiveBank 0 ≠ w.sub - 1) (hfade : s.pfc.fade = none)
    (hswap : s.pfc.swap = false) : s.bankWrite w false = ((s.keep w).bankUnsettled (w.sub - 1), .ok) := by
  have hcode : s.bankCode (w.sub - 1) false = .ok := by
    unfold State.bankCode
    rw [if_neg hbank, if_neg Bool.false_ne_true, hfade, hswap, if_neg (by decide)]
  unfold State.bankWrite
  exact if_pos hcode

theorem bankWrite_active {s : State} {w : WriteCall} (hbank : s.rd Ix.pfcActiveBank 0 = w.sub - 1) (bad : Bool) :
    s.bankWrite w bad = (s, .wrongState) := by
  have hcode : s.bankCode (w.sub - 1) bad = .wrongState := if_pos hbank
  unfold State.bankWrite
  dsimp only
  rw [hcode, if_neg (by decide)]

/-- The settling time of a bank turns on the structure of the chain only (R325, R326, R329). -/
theorem pfcQ_congr {s t : State} (horder : t.rd Ix.pfcCICOrder 0 = s.rd Ix.pfcCICOrder 0)
    (hcic : t.rd Ix.pfcCICDecimation 0 = s.rd Ix.pfcCICDecimation 0) (htaps : t.rd Ix.pfcFIRTaps 0 = s.rd Ix.pfcFIRTaps 0)
    (hfir : t.rd Ix.pfcFIRDecimation 0 = s.rd Ix.pfcFIRDecimation 0)
    (hstages : t.rd Ix.pfcHalfbandStages 0 = s.rd Ix.pfcHalfbandStages 0) : t.pfcQ = s.pfcQ := by
  unfold State.pfcQ State.pfcDelay State.pfcRtot State.pfcRF
  rw [horder, hcic, htaps, hfir, hstages]

/-- The row of a bank's Output gain (R343). -/
def gainRow : ObjRow := ⟨0x520c, 0x520c, 1, 2, .u32, .rw, 2, 0x10000000, .any⟩

theorem rowOf_gain (bank : Fin 2) : rowOf Ix.pfcOutputGain (bank.val + 1) = some gainRow := by
  revert bank
  decide +kernel

theorem bitsAt_gain (bank : Fin 2) : bitsAt (key Ix.pfcOutputGain (bank.val + 1)) = 32 := by
  revert bank
  decide +kernel

theorem bitsAt_settleCount (bank : Fin 2) : bitsAt (key Ix.pfcBankSettleCount (bank.val + 1)) = 16 := by
  revert bank
  decide +kernel

section
variable {s : State} {r : Req} {x : Session} {bank : Fin 2} {v : BitVec 32}
  (hgrants : s.Grants r x Ix.pfcOutputGain (bank.val + 1) (pathNum r.path 4 v.toNat))
include hgrants

/-- A granted write of a bank's gain is answered as the bank allows (R336). -/
theorem gainWrite_replied {u : State} {c : Code}
    (heffect : ∀ w : WriteCall, w.row = gainRow → w.ix = Ix.pfcOutputGain → w.sub = bank.val + 1 → w.v = v.toNat →
      (s.takeFree.asked r x).bankWrite w false = (u, c))
    (hc : c ≠ .sequence) (hpower : u.power = s.power) :
    ∃ t, exec (.bankWrite r .gain bank (pathNum r.path 4 v.toNat)) s = .next t ∧ Replied s u t r c :=
  ⟨_, rfl, writeNumber_replied hgrants (rowOf_gain bank) rfl rfl v.isLt ((writeEffect_gain _ rfl).trans (heffect _ rfl rfl rfl rfl)) hc hpower⟩

/-- A write into the stopped bank is kept and unsettles the bank for Q outputs (R336). -/
theorem gainWrite_acts (hbank : s.rd Ix.pfcActiveBank 0 ≠ bank.val) (hfade : s.pfc.fade = none) (hswap : s.pfc.swap = false) :
    ∃ t, exec (.bankWrite r .gain bank (pathNum r.path 4 v.toNat)) s = .next t ∧ s.Answers t r 0x11 .ok [] ∧
      t.rd Ix.pfcOutputGain (bank.val + 1) = v.toNat ∧ t.rd Ix.pfcBankSettleCount (bank.val + 1) = s.pfcQ % 2 ^ 16 ∧ t.pfc = s.pfc := by
  have hpfc := asked_pfc s r x
  have hsub : bank.val + 1 < 256 := by omega
  have hasked : (s.takeFree.asked r x).rd Ix.pfcActiveBank 0 = s.rd Ix.pfcActiveBank 0 := asked_block s r x (by decide)
  obtain ⟨t, hexec, replied⟩ := gainWrite_replied hgrants
    (u := ((s.takeFree.asked r x).wr Ix.pfcOutputGain (bank.val + 1) v.toNat).bankUnsettled bank.val)
    (fun w hrow hix hwsub hv => by
      have hstopped := bankWrite_accepted (s := s.takeFree.asked r x) (w := w) (by rw [hasked, hwsub]; exact hbank) (by rw [hpfc]; exact hfade)
        (by rw [hpfc]; exact hswap)
      have hkeep : (s.takeFree.asked r x).keep w = (s.takeFree.asked r x).wr Ix.pfcOutputGain (bank.val + 1) v.toNat := by
        unfold State.keep
        rw [hrow, hix, hwsub, hv]
        rfl
      rw [hstopped, hkeep, hwsub, Nat.add_sub_cancel])
    (by decide) (asked_power s r x)
  have hcounted {ix : Nat} (hix : 0x2000 ≤ ix ∧ ix < 0x6000) := replied.counted ix (bank.val + 1) (block_uncounted r.path ⟨hix.1, hix.2, hsub⟩)
  have hstructure {ix : Nat} (hix : 0x2000 ≤ ix ∧ ix < 0x6000) (hne : ix ≠ Ix.pfcOutputGain) :
      ((s.takeFree.asked r x).wr Ix.pfcOutputGain (bank.val + 1) v.toNat).rd ix 0 = s.rd ix 0 :=
    (rd_wr_of_index _ _ hne hsub (by decide)).trans (asked_block s r x hix)
  refine ⟨t, hexec, replied.answered (asked_out s r x), ?_, ?_, replied.pfc.trans hpfc⟩
  · rw [hcounted (by decide), State.bankUnsettled, rd_wr_of_index _ _ (by decide) hsub hsub, rd_wr, if_pos rfl, bitsAt_gain]
    exact Nat.mod_eq_of_lt v.isLt
  · rw [hcounted (by decide), State.bankUnsettled, rd_wr, if_pos rfl, bitsAt_settleCount,
      pfcQ_congr (hstructure (by decide) (by decide)) (hstructure (by decide) (by decide)) (hstructure (by decide) (by decide))
        (hstructure (by decide) (by decide)) (hstructure (by decide) (by decide))]

/-- A write into the bank in force is refused (R336). -/
theorem gainWrite_refused (hbank : s.rd Ix.pfcActiveBank 0 = bank.val) :
    ∃ t, exec (.bankWrite r .gain bank (pathNum r.path 4 v.toNat)) s = .next t ∧ s.Answers t r 0x11 .wrongState [] ∧ t.pfc = s.pfc ∧
      t.rd Ix.pfcOutputGain (bank.val + 1) = s.rd Ix.pfcOutputGain (bank.val + 1) := by
  have hasked : (s.takeFree.asked r x).rd Ix.pfcActiveBank 0 = bank.val := (asked_block s r x (by decide)).trans hbank
  have huncounted : key Ix.pfcOutputGain (bank.val + 1) ∉ pathCounters r.path := block_uncounted r.path ⟨by decide, by decide, by omega⟩
  obtain ⟨t, hexec, replied⟩ := gainWrite_replied hgrants
    (fun w _ _ hwsub _ => bankWrite_active (by rw [hasked, hwsub, Nat.add_sub_cancel]) false) (by decide) (asked_power s r x)
  exact ⟨t, hexec, replied.answered (asked_out s r x), replied.pfc.trans (asked_pfc s r x),
    (replied.counted _ _ huncounted).trans (asked_rd s r x huncounted)⟩

end

/-! ### The obligation -/

/-- Settles O27: an output is formed before PFC works on its streaks and banks, which leave it formed; a swap request and a write into a bank are
performed as the writes that they are. -/
theorem profileChainActs : Obligations.ProfileChainActs := by
  unfold Obligations.ProfileChainActs
  refine ⟨?_, ?_, ?_, ?_, ?_, fun _ _ _ => swapRequest_acts, fun _ _ _ => swapRequest_turnedAway, fun _ _ _ => swapCancel_acts,
    fun _ _ _ _ _ => gainWrite_acts, fun _ _ _ _ _ => gainWrite_refused⟩
  · intro s d rest hclocked _ hrun hdue hcomplete
    obtain ⟨due, outputs, start, produced, bins, fifo, seg, fnState⟩ := pfcOutput_formed hdue hcomplete
    exact ⟨_, exec_pfcOutput hclocked hrun fnState, due, outputs, start, produced, bins, fifo, seg⟩
  · intro s d rest hclocked hrun hdue hcomplete
    have hwaits := pfcOutput_waits hdue hcomplete
    exact ⟨_, exec_pfcOutput hclocked hrun (by rw [hwaits]), by rw [hwaits], by rw [hwaits]⟩
  · intro s hclocked hrun hdue
    have hidle := pfcOutput_undue hdue
    exact ⟨_, exec_pfcOutput hclocked hrun (by rw [hidle]), by rw [hidle], by rw [hidle]⟩
  · intro s e es hclocked hended hroom
    refine ⟨_, congrArg Host.Outcome.next (whileClocked_eq hclocked State.streakEnqueue), ?_⟩
    rw [streakEnqueue_enters hended hroom]
    exact ⟨rfl, showStreaks_open _, rfl⟩
  · intro s e es hclocked hended hfull
    refine ⟨_, congrArg Host.Outcome.next (whileClocked_eq hclocked State.streakEnqueue), ?_⟩
    rw [streakEnqueue_waits hended hfull]
    exact ⟨rfl, rfl⟩

end Sys2Proof.Settled
end
